-- ==== Sys2Proof/Word.lean ====
section
/-!
DEFINITION. Word.lean: the word types of the module and the plainest arithmetic over them.
-/
namespace Sys2Proof

/-- One byte of memory. -/
abbrev Byte := BitVec 8
/-- A 32-bit register or Cumel instruction word (R11). -/
abbrev Word := BitVec 32
/-- A 64-bit Cumel register or a pair of registers read as one value (R12). -/
abbrev Dword := BitVec 64

/-- Bits hi to lo of a word, as a number. -/
def bitsOf {n : Nat} (w : BitVec n) (hi lo : Nat) : Nat := (w.toNat >>> lo) % 2 ^ (hi + 1 - lo)

/-- The word with bits hi to lo replaced by the low bits of `v`. -/
def withBits {n : Nat} (w : BitVec n) (hi lo v : Nat) : BitVec n :=
  let m := BitVec.ofNat n ((2 ^ (hi + 1 - lo) - 1) * 2 ^ lo)
  (w &&& ~~~m) ||| BitVec.ofNat n (v % 2 ^ (hi + 1 - lo) * 2 ^ lo)

/-- `n` as a signed number of `w` bits in two's complement. -/
def signedOf (w n : Nat) : Int := (BitVec.ofNat w n).toInt

/-- The two's complement of `x` in `w` bits. -/
def unsignedOf (w : Nat) (x : Int) : Nat := (BitVec.ofInt w x).toNat

/-- A saturating increment that stops at `top`. -/
def satAdd (top x d : Nat) : Nat := min top (x + d)

end Sys2Proof
end

