-- ==== Sys2Proof/Syntax.lean ====
section
/-!
DEFINITION. Syntax.lean: the commands that the block takes, one constructor for each row of spec/opcode_table.json.
A command is a write or a read of a register by one of the bus masters, a Cumel instruction of a context, an edge of the tick,
a frame, sample or pin event that arrives, or the end of work the block had begun.  What arrives from outside is an operand.
-/
namespace Sys2Proof

/-- The bus masters of R15: the six cores, the DMA engines, the PCIe host, the pair link, debug and the Ethernet host service. -/
inductive Master where
  | cc0 | cc1 | cc2 | cc3 | sc0 | sc1 | dma | pcieHost | pairLink | debug | ethHost
deriving DecidableEq, Repr

/-- Whether an access reads, writes or fetches (R488: 0, 1 and 2 in a bus-error payload). -/
inductive AccessKind where
  | read | write | fetch
deriving DecidableEq, Repr

/-- A 40-bit physical address (R486). -/
abbrev Addr := BitVec 40
/-- A task context number (R144). -/
abbrev Ctx := BitVec 8
/-- A register number of a Cumel instruction: w0 to w31, d0 to d31 or a special register (R147, R148). -/
abbrev RegNo := BitVec 5
/-- A 14-bit immediate of the I format (R153). -/
abbrev Imm14 := BitVec 14
/-- A 21-bit word offset of the B format (R153). -/
abbrev Off21 := BitVec 21
/-- A 16-bit field: off16 or idx16 (R153). -/
abbrev Half := BitVec 16
/-- An interrupt source (R344). -/
abbrev Source := BitVec 8
/-- An event code (R320). -/
abbrev Code := BitVec 16
/-- The 32 payload bytes of a record, byte k in bits 8k+7 to 8k (R319). -/
abbrev Payload := BitVec 256
/-- A Prism stream or an analogue input (R48, R93). -/
abbrev Stream := Fin 24
/-- A problem number (R225). -/
abbrev Prob := BitVec 8
/-- A pulse input (R280). -/
abbrev Pulse := Fin 8
/-- The index of one of eight words or units. -/
abbrev Octet := Fin 8
/-- A time base number (R355). -/
abbrev Base := Fin 16
/-- An entry of the leap-second table (R365). -/
abbrev LeapEntry := Fin 32

/-- A sample as its source delivers it to Prism: quality field, and time field as TAI in units of 2⁻³² ns, where the sentence or frame carries
them, and value and second value (FP64 words) of a source that no source-table entry describes. -/
structure Sample where
  value : BitVec 64
  second : BitVec 64
  quality : Option (BitVec 64)
  time : Option Nat
deriving DecidableEq, Repr

/-- A 24-bit output code (R96). -/
abbrev Code24 := BitVec 24
/-- A class of references (R47): position or heading. -/
inductive RefClass where
  | position | heading
deriving DecidableEq, Repr
/-- A loop engine (R282). -/
abbrev Engine := Fin 32
/-- A GPIO pin (R279). -/
abbrev Pin := Fin 48
/-- The counted lines of a pulse input (R280). -/
inductive PulseLine where
  | a | b
deriving DecidableEq, Repr
/-- An antenna chain (R372). -/
abbrev Chain := Fin 2
/-- A satellite number. -/
abbrev Sat := BitVec 8
/-- The systems of R371, in the order of the CONST bits. -/
inductive GnssSys where
  | gps | galileo | beidou | glonass
deriving DecidableEq, Repr

/-- What the signal processing of one chain found in an epoch: FP64 words of latitude, longitude and height, of the velocity north, east and
down, FP32 words of the covariance, HDOP and residual RMS; and what the checks of R383 read. -/
structure ChainSol where
  solved : Bool
  pos : List (BitVec 64)
  vel : List (BitVec 64)
  cov : List (BitVec 32)
  hdop : BitVec 32
  rms : BitVec 32
  /-- The weighted sum of squared residuals, and what it is with each satellite left out in turn, as FP64 (R383). -/
  sumsq : BitVec 64
  leftOut : List (BitVec 64)
  /-- The AGC gains of both bands in dB. -/
  agc1 : Nat
  agc2 : Nat
  /-- For each constellation solved alone from at least 5 satellites, its distance from the solution of the others in mm. -/
  apart : List Nat
deriving DecidableEq, Repr

/-- What the baseband measured of one signal in an epoch (R377, R380): code and carrier phase, Doppler in mHz, C/N0 in units of 0.1 dB-Hz, elevation and
azimuth in degrees, a cycle slip since the last epoch, and whether the chain's solution used the satellite or excluded it. -/
structure SigMeas where
  chain : Fin 2
  sys : GnssSys
  sat : BitVec 8
  band2 : Bool
  code : Nat
  carrier : Int
  doppler : Int
  cn0 : Nat
  elev : Nat
  azim : Nat
  slip : Bool
  used : Bool
  excluded : Bool
deriving DecidableEq, Repr

/-- An epoch of the baseband (R377 to R382): both chains, the baseline measurement and the clock. -/
structure Epoch where
  c0 : ChainSol
  c1 : ChainSol
  /-- The signals measured. -/
  sigs : List SigMeas
  /-- A fix of the baseline was found, with its ratio test in hundredths; the measured baseline north, east and down in m, and its elevation. -/
  blFound : Bool
  blRatio : Nat
  blVec : List (BitVec 64)
  blElev : BitVec 64
  hdgVar : BitVec 32
  blLength : BitVec 32
  /-- Clock bias of the first constellation used and what takes it to GPS time in ns, drift in ppb, and the time uncertainty in ns (R385). -/
  bias : BitVec 64
  toGps : BitVec 64
  drift : BitVec 64
  tunc : BitVec 32
  /-- Satellites whose ephemeris or almanac was decoded since the last epoch, and the GLONASS frequency numbers decoded (R387). -/
  eph : List (GnssSys × BitVec 8)
  almanac : List (GnssSys × BitVec 8)
  glonass : List (BitVec 8 × Int)
deriving DecidableEq, Repr

/-- A trust check of R383. -/
abbrev Check := Fin 6
/-- A hello frame (R299): the partner's SYS_ID, tick period in ms, PAIR_CTRL.MODE, strap (unit B), Lit version; with its tick number at the
frame, by the two-way exchange of R300. -/
structure Hello where
  sysId : Word
  periodMs : Nat
  mirror : Bool
  unitB : Bool
  litVer : Word
  tick : Nat
  phase : Nat
deriving DecidableEq, Repr

/-- The state record that ends a checkpoint (R302): whether its CRC over every frame matches, the words of the Prism state, and whether
it ends a refresh (R305). -/
structure StateRecord where
  crcOk : Bool
  tick : Nat
  stamp : BitVec 64
  version : Word
  trial : BitVec 16
  prism : List (BitVec 64)
  refreshEnds : Bool
deriving DecidableEq, Repr
/-- Lanes of the pair link, bit k for lane k (R298). -/
abbrev Lanes := BitVec 2
/-- One frame of a page of a checkpoint: 16 frames of 256 bytes for each of the pages 0 to 1,791 (R298, R302). -/
abbrev CkptFrame := Fin 28672
abbrev Bytes := List Byte
abbrev Dwords := List Dword
/-- Results of eight lanes, bit k for the k-th of the group (R315). -/
abbrev Lanes8 := BitVec 8
/-- A CAN controller (R391). -/
abbrev CanNo := Fin 8
/-- A transmit buffer (R401) and a schedule window (R405). -/
abbrev CanBuf := Fin 32
abbrev CanWin := Fin 64
/-- An error code of CANk_ERR.LEC. -/
abbrev CanErr := Fin 7
/-- A CAN frame as received (R391, R395). -/
structure CanFrame where
  ident : BitVec 29
  ide : Bool
  rtr : Bool
  fdf : Bool
  brs : Bool
  esi : Bool
  dlc : BitVec 4
  data : List Byte
deriving DecidableEq, Repr
/-- What a sleeping controller's wake decoder sees on the receive line: a dominant phase of so many units of 0.5 µs, or a frame (R415). -/
inductive WakeSign
  | dominant (units : Half)
  | frame (f : CanFrame)
deriving DecidableEq, Repr
/-- The cycle number in a reference message (R405). -/
abbrev Cycle := BitVec 6
/-- A classic base identifier, as a reference message carries it (R405). -/
abbrev StdId := BitVec 11

/-- An Ethernet port (R418) and a pair of ports. -/
abbrev Port := Fin 4
abbrev EthPair := Fin 2
/-- A serial port (R425) and a listen entry (R424). -/
abbrev SerPort := Fin 28
abbrev ListenNo := Fin 32
/-- A service slot (R437). -/
abbrev SvcSlot := Fin 8
/-- A source whose silence is watched (R424, R426). -/
inductive SrcUnit where
  | listen (j : ListenNo)
  | serial (k : SerPort)
deriving DecidableEq, Repr
/-- Characters of a serial line; none where one came with a framing error (R426). -/
abbrev SerChars := List (Option Byte)
/-- A UdPbC datagram (R423): the last octet of its group, whether its TAG block's checksum holds, the system function of its `s:` field as two
characters and an instance, and its sentences. -/
structure Datagram where
  group : BitVec 8
  tagOk : Bool
  talker : Half
  inst : Nat
  sentences : List Bytes
deriving DecidableEq, Repr
/-- A Grezhasel frame from a station (R430). -/
structure GrzFrame where
  crcOk : Bool
  addr : Half
  tick : Dword
  data : Bytes
deriving DecidableEq, Repr
/-- What an Ethernet frame carries for the services of R420; the bytes of a request of the host service are its UDP payload (R429). -/
inductive NetBody where
  | datagram (d : Datagram)
  | grzInput (g : GrzFrame)
  | grzService (g : GrzFrame)
  | hostRequest (req : Bytes)
  | other
deriving DecidableEq, Repr
/-- A received Ethernet frame: whether its FCS holds, source address, the sequence number of its PRP trailer, the bytes from the destination
address to the end of the payload, and what they carry. -/
structure EthFrame where
  fcsOk : Bool
  src : BitVec 48
  seq : Option Half
  bytes : Bytes
  body : NetBody
deriving DecidableEq, Repr
/-- A MAC address. -/
abbrev Mac := BitVec 48
/-- The speed and the number of lanes of a PCIe link (R428). -/
abbrev PcieGen := Fin 4
abbrev PcieWidth := Fin 3
/-- A common zone of the panel (R448). -/
abbrev Zone := Fin 4
/-- The four monitored rails (R469): VDD_CORE, VDD_SRAM, VDD_IO18 and VDD_IO33. -/
abbrev RailBits := BitVec 4
/-- A voltage in units of 0.1 V (R480). -/
abbrev Octets := BitVec 8
/-- What is sampled at reset release: the straps, and whether the external reference is present (R474, R476). -/
structure Straps where
  pairPos : Bool
  refExt : Bool
  bootStop : Bool
  extPresent : Bool
deriving DecidableEq, Repr
/-- What the owner of a pair forwards to its standby (R317). -/
inductive FwdCmd where
  | exchange | confirm | rollback | abort
deriving DecidableEq, Repr


/-- The commands of the block: one constructor for each row of the table of operations and events, in the table's order, with the
rule of the spec that the row names. -/
inductive Instr where
  /-- REGISTER_WRITE (R10): A write to a register field that has no row of its own updates it, with expert writes overriding the Lit values and ignored or clamped writes recorded as event 0xFF. -/
  | registerWrite (m : Master) (a : Addr) (v : Word)
  /-- BUS_ERROR (R486): An access to an unassigned range or a bad-width or misaligned register access completes with a bus error and records SYS event 0x00. -/
  | busError (m : Master) (a : Addr) (width : Nat) (kind : AccessKind)
  /-- LOW_WORD_READ (R12): Reading the low word of a 64-bit value latches its high word for the reading master. -/
  | lowWordRead (m : Master) (a : Addr)
  /-- LOW_WORD_WRITE (R13): Writing the low word of a 64-bit RW value buffers it for the writing master. -/
  | lowWordWrite (m : Master) (a : Addr) (v : Word)
  /-- HIGH_WORD_WRITE (R13): Writing the high word commits both halves in one cycle, or the high half alone if no low word is buffered. -/
  | highWordWrite (m : Master) (a : Addr) (v : Word)
  /-- STROBE (R28): At instant 0 of every tick the enabled Strobe lines pulse, the tick number counts and boundary actions take effect. -/
  | strobe
  /-- STROBE_PULSE_END (R28): After WIDTH microseconds the Strobe lines return to their inactive level. -/
  | strobePulseEnd
  /-- SCAN_EDGE (R178): At 0.10 T due Scan-bound tasks become ready. -/
  | scanEdge
  /-- SOLVE_EDGE (R27): At 0.20 T the staged batch starts in the Azsaina array. -/
  | solveEdge
  /-- SETTLE_EDGE (R259): At 0.70 T Solve work ends, Settle-bound tasks become ready and the shadow selector runs. -/
  | settleEdge
  /-- ARM_POINT (R30): At 0.80 T minus 2 µs the time island hands the last committed set to the output islands. -/
  | armPoint
  /-- RELEASE (R32): At 0.80 T the launch timers fire: outputs update, command frames and the Grezhasel burst start, and Keep begins. -/
  | release
  /-- FAULT_STOP (R41): When CONSEC reaches a non-zero FAULT_LIMIT the module sets FAULT_STOP and enters Stop at the end of the tick. -/
  | faultStop
  /-- TICK_PERIOD_WRITE (R19): A write of TICK_PERIOD in Stop is checked against dependent settings and accepted or ignored and recorded. -/
  | tickPeriodWrite (m : Master) (v : Word)
  /-- TICK_COUNTER_CLEAR (R46): Writing CNT_CLR clears TICK_FCNT0, TICK_FCNT1 and TICK_HWM. -/
  | tickCounterClear (m : Master) (v : Word)
  /-- SAMPLE_ARRIVAL (R53): A sample reaching Prism's input buffer is captured, Glint-filtered, assigned to a Strobe and skew-tracked. -/
  | sampleArrival (n : Stream) (x : Sample)
  /-- SLIP_MASK (R55): A slip that brings SLIPS to 3 slip-masks the stream. -/
  | slipMask (n : Stream)
  /-- SLIP_MASK_LIFT (R55): After 100 consecutive ticks without a slip the slip mask lifts. -/
  | slipMaskLift (n : Stream)
  /-- CAPTURE_CUT_OFF (R53): At 200 µs after the Strobe the windows freeze, the encoders start and the fall-back path starts. -/
  | captureCutOff
  /-- RESULT_COMMIT (R88): Prism's fixed slots evaluate validity, voting, Split and fits, select the publisher and commit the result at 590 µs. -/
  | resultCommit
  /-- STREAM_STALE (R56): A stream with no captured sample for its staleness limit becomes stale. -/
  | streamStale (n : Stream)
  /-- UNMASK (R74): After UNMASK clean ticks a masked stream rejoins its group's sum. -/
  | unmask (n : Stream)
  /-- MASK_MULTIPLIER_DOUBLE (R74): Every 100 clean unmasked ticks double the mask multiplier up to 1. -/
  | maskMultiplierDouble (n : Stream)
  /-- READMIT (R78): After READMIT passing ticks a voted-out or rejected reference rejoins the sum. -/
  | readmit (n : Stream)
  /-- ESTABLISHMENT (R84): When the agreement count reaches 20 POS_EST or HDG_EST is set. -/
  | establishment (k : RefClass)
  /-- ESTABLISHMENT_TIMEOUT (R85): 200 consecutive ticks with no valid reference clear establishment and the count. -/
  | establishmentTimeout (k : RefClass)
  /-- TABLE_PATROL (R59): After the result Prism recomputes the CRC of the next 64 KiB of weight SRAM and fails a mismatching table. -/
  | tablePatrol
  /-- PRED_ARM (R63): A write of PRISM_PRED_HDG arms the prediction set. -/
  | predArm (m : Master) (v : Word)
  /-- PRISM_GRID_WRITE (R62): A write of PRISM_GRID in Stop changes the cell size, flattens the prior and clears POS_EST, and is ignored otherwise. -/
  | prismGridWrite (m : Master) (v : Word)
  /-- EST_CLR (R85): Writing EST_CLR clears establishment and flattens both priors. -/
  | estClr (m : Master) (v : Word)
  /-- FALLBACK_COMMIT (R108): The fall-back context commits its candidate result from its tracks, median decision and EKF. -/
  | fallbackCommit
  /-- FB_LATE (R117): A fall-back not committed by 580 µs is stopped and FB_LATE is set. -/
  | fbLate
  /-- TRACK_RESTART (R110): After 3 consecutive rejected measurements a fall-back track restarts at the newest measurement. -/
  | trackRestart (n : Stream)
  /-- MAIN_RETURN (R116): When the return count reaches RETURN the main candidate is published again. -/
  | mainReturn
  /-- FILTER_OUTPUT (R95): At each output instant a chain delivers a sample to FILT_OUTn, the loop engines and Prism, clamping on overload. -/
  | filterOutput (i : Stream) (code : Code24) (overload : Bool) (strobe : Bool)
  /-- FILLING_END (R100): After 16N + 1 CIC samples have entered the FIR, FILLING clears and delivery resumes. -/
  | fillingEnd (i : Stream)
  /-- WARMING_END (R103): When the Glint window fills, its outputs are no longer marked warming. -/
  | warmingEnd (i : Stream)
  /-- ADD (R155): Integer add. -/
  | add (c : Ctx) (rd : RegNo) (rs1 : RegNo) (rs2 : RegNo)
  /-- SUB (R155): Integer subtract. -/
  | sub (c : Ctx) (rd : RegNo) (rs1 : RegNo) (rs2 : RegNo)
  /-- AND (R155): Bitwise and. -/
  | and (c : Ctx) (rd : RegNo) (rs1 : RegNo) (rs2 : RegNo)
  /-- OR (R155): Bitwise or. -/
  | or (c : Ctx) (rd : RegNo) (rs1 : RegNo) (rs2 : RegNo)
  /-- XOR (R155): Bitwise exclusive or. -/
  | xor (c : Ctx) (rd : RegNo) (rs1 : RegNo) (rs2 : RegNo)
  /-- SLL (R155): Shift left logical by a register amount. -/
  | sll (c : Ctx) (rd : RegNo) (rs1 : RegNo) (rs2 : RegNo)
  /-- SRL (R155): Shift right logical by a register amount. -/
  | srl (c : Ctx) (rd : RegNo) (rs1 : RegNo) (rs2 : RegNo)
  /-- SRA (R155): Shift right arithmetic by a register amount. -/
  | sra (c : Ctx) (rd : RegNo) (rs1 : RegNo) (rs2 : RegNo)
  /-- SLT (R155): Set when less than, signed. -/
  | slt (c : Ctx) (rd : RegNo) (rs1 : RegNo) (rs2 : RegNo)
  /-- SLTU (R155): Set when less than, unsigned. -/
  | sltu (c : Ctx) (rd : RegNo) (rs1 : RegNo) (rs2 : RegNo)
  /-- MIN (R155): Signed minimum. -/
  | min (c : Ctx) (rd : RegNo) (rs1 : RegNo) (rs2 : RegNo)
  /-- MAX (R155): Signed maximum. -/
  | max (c : Ctx) (rd : RegNo) (rs1 : RegNo) (rs2 : RegNo)
  /-- MUL (R155): Multiply, low 64 bits. -/
  | mul (c : Ctx) (rd : RegNo) (rs1 : RegNo) (rs2 : RegNo)
  /-- MULH (R155): Multiply, high 64 bits signed. -/
  | mulh (c : Ctx) (rd : RegNo) (rs1 : RegNo) (rs2 : RegNo)
  /-- DIV (R155): Signed divide rounding toward zero. -/
  | div (c : Ctx) (rd : RegNo) (rs1 : RegNo) (rs2 : RegNo)
  /-- DIVU (R155): Unsigned divide. -/
  | divu (c : Ctx) (rd : RegNo) (rs1 : RegNo) (rs2 : RegNo)
  /-- REM (R155): Signed remainder with the sign of the dividend. -/
  | rem (c : Ctx) (rd : RegNo) (rs1 : RegNo) (rs2 : RegNo)
  /-- REMU (R155): Unsigned remainder. -/
  | remu (c : Ctx) (rd : RegNo) (rs1 : RegNo) (rs2 : RegNo)
  /-- FADD (R155): FP64 add. -/
  | fadd (c : Ctx) (rd : RegNo) (rs1 : RegNo) (rs2 : RegNo)
  /-- FSUB (R155): FP64 subtract. -/
  | fsub (c : Ctx) (rd : RegNo) (rs1 : RegNo) (rs2 : RegNo)
  /-- FMUL (R155): FP64 multiply. -/
  | fmul (c : Ctx) (rd : RegNo) (rs1 : RegNo) (rs2 : RegNo)
  /-- FDIV (R155): FP64 divide. -/
  | fdiv (c : Ctx) (rd : RegNo) (rs1 : RegNo) (rs2 : RegNo)
  /-- FSQRT (R155): FP64 square root. -/
  | fsqrt (c : Ctx) (rd : RegNo) (rs1 : RegNo) (rs2 : RegNo)
  /-- FMIN (R155): IEEE 754 minimumNumber. -/
  | fmin (c : Ctx) (rd : RegNo) (rs1 : RegNo) (rs2 : RegNo)
  /-- FMAX (R155): IEEE 754 maximumNumber. -/
  | fmax (c : Ctx) (rd : RegNo) (rs1 : RegNo) (rs2 : RegNo)
  /-- FMADD (R155): Fused multiply-add into d[rd]. -/
  | fmadd (c : Ctx) (rd : RegNo) (rs1 : RegNo) (rs2 : RegNo)
  /-- FABS (R155): Clears the sign bit. -/
  | fabs (c : Ctx) (rd : RegNo) (rs1 : RegNo) (rs2 : RegNo)
  /-- FNEG (R155): Flips the sign bit. -/
  | fneg (c : Ctx) (rd : RegNo) (rs1 : RegNo) (rs2 : RegNo)
  /-- FEQ (R155): FP equality compare into a w register. -/
  | feq (c : Ctx) (rd : RegNo) (rs1 : RegNo) (rs2 : RegNo)
  /-- FLT (R155): FP less-than compare into a w register. -/
  | flt (c : Ctx) (rd : RegNo) (rs1 : RegNo) (rs2 : RegNo)
  /-- FLE (R155): FP less-or-equal compare into a w register. -/
  | fle (c : Ctx) (rd : RegNo) (rs1 : RegNo) (rs2 : RegNo)
  /-- FCVT_D_W (R155): Converts a signed integer to FP64. -/
  | fcvtDW (c : Ctx) (rd : RegNo) (rs1 : RegNo) (rs2 : RegNo)
  /-- FCVT_W_D (R155): Converts FP64 to a saturated signed integer. -/
  | fcvtWD (c : Ctx) (rd : RegNo) (rs1 : RegNo) (rs2 : RegNo)
  /-- FMV_W_D (R155): Moves the bits of a d register to a w register. -/
  | fmvWD (c : Ctx) (rd : RegNo) (rs1 : RegNo) (rs2 : RegNo)
  /-- FMV_D_W (R155): Moves the bits of a w register to a d register. -/
  | fmvDW (c : Ctx) (rd : RegNo) (rs1 : RegNo) (rs2 : RegNo)
  /-- NOP (R155): No operation. -/
  | nop (c : Ctx) (rd : RegNo) (rs1 : RegNo) (rs2 : RegNo)
  /-- JR (R155): Jumps to the address in a register. -/
  | jr (c : Ctx) (rd : RegNo) (rs1 : RegNo) (rs2 : RegNo)
  /-- MFS (R148): Reads a special register. -/
  | mfs (c : Ctx) (rd : RegNo) (rs1 : RegNo) (n : RegNo)
  /-- MTS (R148): Writes a special register, raising SPECIAL for a read-only one. -/
  | mts (c : Ctx) (n : RegNo) (rs1 : RegNo) (rs2 : RegNo)
  /-- FENCE (R160): Waits until every earlier store of the context has arrived. -/
  | fence (c : Ctx) (rd : RegNo) (rs1 : RegNo) (rs2 : RegNo)
  /-- ADDI (R154): Adds a sign-extended immediate. -/
  | addi (c : Ctx) (rd : RegNo) (rs1 : RegNo) (imm : Imm14)
  /-- SLTI (R154): Set when less than an immediate, signed. -/
  | slti (c : Ctx) (rd : RegNo) (rs1 : RegNo) (imm : Imm14)
  /-- SLTIU (R154): Set when less than an immediate, unsigned. -/
  | sltiu (c : Ctx) (rd : RegNo) (rs1 : RegNo) (imm : Imm14)
  /-- ANDI (R154): And with a zero-extended immediate. -/
  | andi (c : Ctx) (rd : RegNo) (rs1 : RegNo) (imm : Imm14)
  /-- ORI (R154): Or with a zero-extended immediate. -/
  | ori (c : Ctx) (rd : RegNo) (rs1 : RegNo) (imm : Imm14)
  /-- XORI (R154): Exclusive or with a zero-extended immediate. -/
  | xori (c : Ctx) (rd : RegNo) (rs1 : RegNo) (imm : Imm14)
  /-- LSI (R154): Shifts left by 14 and ors in an immediate. -/
  | lsi (c : Ctx) (rd : RegNo) (rs1 : RegNo) (imm : Imm14)
  /-- SLLI (R154): Shift left logical by an immediate. -/
  | slli (c : Ctx) (rd : RegNo) (rs1 : RegNo) (imm : Imm14)
  /-- SRLI (R154): Shift right logical by an immediate. -/
  | srli (c : Ctx) (rd : RegNo) (rs1 : RegNo) (imm : Imm14)
  /-- SRAI (R154): Shift right arithmetic by an immediate. -/
  | srai (c : Ctx) (rd : RegNo) (rs1 : RegNo) (imm : Imm14)
  /-- RORI (R154): Rotate right by an immediate. -/
  | rori (c : Ctx) (rd : RegNo) (rs1 : RegNo) (imm : Imm14)
  /-- LD_I (R156): Loads 64 bits from the current instance. -/
  | ldI (c : Ctx) (rt : RegNo) (rb : RegNo) (off : Half)
  /-- LW_I (R156): Loads 32 bits sign-extended from the current instance. -/
  | lwI (c : Ctx) (rt : RegNo) (rb : RegNo) (off : Half)
  /-- LB_I (R156): Loads a byte zero-extended from the current instance. -/
  | lbI (c : Ctx) (rt : RegNo) (rb : RegNo) (off : Half)
  /-- FLD_I (R156): Loads a d register from the current instance. -/
  | fldI (c : Ctx) (rt : RegNo) (rb : RegNo) (off : Half)
  /-- ST_I (R156): Stores 64 bits into the current instance and marks its page dirty. -/
  | stI (c : Ctx) (rt : RegNo) (rb : RegNo) (off : Half)
  /-- SW_I (R156): Stores 32 bits into the current instance. -/
  | swI (c : Ctx) (rt : RegNo) (rb : RegNo) (off : Half)
  /-- SB_I (R156): Stores a byte into the current instance. -/
  | sbI (c : Ctx) (rt : RegNo) (rb : RegNo) (off : Half)
  /-- FST_I (R156): Stores a d register into the current instance. -/
  | fstI (c : Ctx) (rt : RegNo) (rb : RegNo) (off : Half)
  /-- LD_G (R157): Loads 64 bits from a 40-bit physical address. -/
  | ldG (c : Ctx) (rt : RegNo) (rb : RegNo) (off : Half)
  /-- LW_G (R157): Loads 32 bits sign-extended from a physical address. -/
  | lwG (c : Ctx) (rt : RegNo) (rb : RegNo) (off : Half)
  /-- LB_G (R157): Loads a byte from a physical address. -/
  | lbG (c : Ctx) (rt : RegNo) (rb : RegNo) (off : Half)
  /-- FLD_G (R157): Loads a d register from a physical address. -/
  | fldG (c : Ctx) (rt : RegNo) (rb : RegNo) (off : Half)
  /-- ST_G (R157): Stores 64 bits to a physical address. -/
  | stG (c : Ctx) (rt : RegNo) (rb : RegNo) (off : Half)
  /-- SW_G (R157): Stores 32 bits to a physical address. -/
  | swG (c : Ctx) (rt : RegNo) (rb : RegNo) (off : Half)
  /-- SB_G (R157): Stores a byte to a physical address. -/
  | sbG (c : Ctx) (rt : RegNo) (rb : RegNo) (off : Half)
  /-- FST_G (R157): Stores a d register to a physical address. -/
  | fstG (c : Ctx) (rt : RegNo) (rb : RegNo) (off : Half)
  /-- BEQZ (R154): Branches when the register is zero. -/
  | beqz (c : Ctx) (rs : RegNo) (off : Off21)
  /-- BNEZ (R154): Branches when the register is not zero. -/
  | bnez (c : Ctx) (rs : RegNo) (off : Off21)
  /-- BLTZ (R154): Branches when the register is negative. -/
  | bltz (c : Ctx) (rs : RegNo) (off : Off21)
  /-- BGEZ (R154): Branches when the register is not negative. -/
  | bgez (c : Ctx) (rs : RegNo) (off : Off21)
  /-- JAL (R154): Writes the return address and branches. -/
  | jal (c : Ctx) (rs : RegNo) (off : Off21)
  /-- FBCALL (R162): Calls an instance, pushing a link frame and loading IB, TB and PC. -/
  | fbcall (c : Ctx) (fa : RegNo) (fb : RegNo) (idx : Half)
  /-- FBCALLR (R162): Calls the instance numbered by a register plus idx16. -/
  | fbcallr (c : Ctx) (fa : RegNo) (fb : RegNo) (idx : Half)
  /-- FBRET (R162): Pops a link frame and restores PC, IB and TB. -/
  | fbret (c : Ctx) (fa : RegNo) (fb : RegNo) (idx : Half)
  /-- INSTA (R163): Writes the physical address of an instance. -/
  | insta (c : Ctx) (fa : RegNo) (fb : RegNo) (idx : Half)
  /-- TMR (R166): Updates a TON, TOF or TP timer record and returns Q. -/
  | tmr (c : Ctx) (fa : RegNo) (fb : RegNo) (idx : Half)
  /-- EDGE (R169): Updates an edge record and reports rising and falling edges. -/
  | edge (c : Ctx) (fa : RegNo) (fb : RegNo) (idx : Half)
  /-- SUBST (R172): Reads a remote point with its quality, substituting by policy when unhealthy. -/
  | subst (c : Ctx) (fa : RegNo) (fb : RegNo) (idx : Half)
  /-- SLV (R173): Stages a problem for this or the next batch. -/
  | slv (c : Ctx) (fa : RegNo) (fb : RegNo) (idx : Half)
  /-- SLVW (R173): Returns a problem's status, blocking during Solve until this tick's result is final. -/
  | slvw (c : Ctx) (fa : RegNo) (fb : RegNo) (idx : Half)
  /-- SLVW_UNBLOCK (R173): A context blocked by SLVW resumes once the problem's result is final. -/
  | slvwUnblock (c : Ctx)
  /-- SLVR (R173): Copies the current final result record into the instance. -/
  | slvr (c : Ctx) (fa : RegNo) (fb : RegNo) (idx : Half)
  /-- PRQ (R175): Copies part of the current Prism result record into the instance. -/
  | prq (c : Ctx) (fa : RegNo) (fb : RegNo) (idx : Half)
  /-- PRQ_STALL_END (R29): A context stalled on PRQ resumes when the result is ready at 0.6 ms. -/
  | prqStallEnd (c : Ctx)
  /-- CHK (R176): Marks pages of instance data dirty and of global scratch checkpoint-relevant and dirty. -/
  | chk (c : Ctx) (fa : RegNo) (fb : RegNo) (idx : Half)
  /-- SCANEND (R181): Ends the activation, sets DONE and readies AFTER successors. -/
  | scanend (c : Ctx) (fa : RegNo) (fb : RegNo) (idx : Half)
  /-- BRK (R186): Suspends the context in Hold, and executes as NOP otherwise. -/
  | brk (c : Ctx) (fa : RegNo) (fb : RegNo) (idx : Half)
  /-- BREAKPOINT_HIT (R186): In Hold a context about to execute at an enabled breakpoint is suspended. -/
  | breakpointHit (c : Ctx)
  /-- ILLEGAL_INSTRUCTION (R154): An unlisted opcode or func code raises ILLEGAL. -/
  | illegalInstruction (c : Ctx) (word : Word)
  /-- CML_TRIG_WRITE (R178): Writing a context number triggers that free software task. -/
  | cmlTrigWrite (m : Master) (v : Word)
  /-- CML_DBG_RESUME (R186): Resumes a context suspended at a breakpoint. -/
  | cmlDbgResume (m : Master) (v : Word)
  /-- CML_DBG_STEP (R186): Executes one instruction of a suspended context and suspends it again. -/
  | cmlDbgStep (m : Master) (v : Word)
  /-- EXC_VALID_CLEAR (R185): Clearing CML_EXC.VALID clears COUNT and CML_EXC_PC. -/
  | excValidClear (m : Master) (v : Word)
  /-- SUSP_RELEASE (R185): Writing 1 to CML_TSTATc.SUSP releases a task suspended by an exception. -/
  | suspRelease (m : Master) (c : Ctx) (v : Word)
  /-- RUN_WARM (R197): Command that starts a warm restart from the newest valid checkpoint generation. -/
  | runWarm (m : Master)
  /-- RUN_COLD (R196): Command that starts a cold restart from the image's initial data. -/
  | runCold (m : Master)
  /-- STOP (R189): Command that enters Stop at the next tick boundary or cancels a pending start. -/
  | stop (m : Master)
  /-- HOLD (R192): Command that enters Hold at the next tick boundary. -/
  | hold (m : Master)
  /-- RESUME (R193): Command that returns from Hold to Run at the next tick boundary. -/
  | resume (m : Master)
  /-- LOAD (R206): Command that checks the Candidate, rotates the roles and loads it. -/
  | load (m : Master)
  /-- EXCHANGE (R213): Command that stages the Candidate for an online exchange. -/
  | exchange (m : Master)
  /-- ROLLBACK (R207): Command that checks the Shade and rolls back to it. -/
  | rollback (m : Master)
  /-- CONFIRM (R208): Command that ends the trial at once. -/
  | confirm (m : Master)
  /-- ABORT (R189): Command that discards a staged or staging exchange. -/
  | abort (m : Master)
  /-- UNKNOWN_COMMAND (R189): A PRG_CMD write with a wrong KEY or an unlisted code is refused and recorded. -/
  | unknownCommand (m : Master) (v : Word)
  /-- RESTORE_COMPLETE (R199): The restore or initialisation of tick j + 1 completes, or fails and the module stays in Stop. -/
  | restoreComplete (crcOk : Bool)
  /-- LOCAL_SNAPSHOT (R198): Every CKPT_PERIOD ticks a snapshot is taken at the end of Keep or skipped. -/
  | localSnapshot
  /-- SNAPSHOT_WRITE_COMPLETE (R198): The background MRAM write of a generation ends with its header. -/
  | snapshotWriteComplete
  /-- TRIAL_CONFIRMED (R208): The trial count reaching TRIAL_TICKS confirms the trial. -/
  | trialConfirmed
  /-- AUTO_ROLLBACK (R209): FAILS reaching 3 rolls back at once and stays in Stop. -/
  | autoRollback
  /-- STAGING_COMPLETE (R213): Background staging of an exchange ends and STAGED is set. -/
  | stagingComplete
  /-- SWAP_POINT (R216): At 1.00 T − 100 µs with the conditions met, the cores stop and the copier runs the migration table. -/
  | swapPoint
  /-- PROBLEM_END (R229): A problem ends, writes its result record and warm-start block, and frees its lanes. -/
  | problemEnd (q : Prob)
  /-- BATCH_COMPLETE (R237): The completion of the batch crosses to the time island, with LATE_ONLY if it arrives at or after 0.70 T. -/
  | batchComplete
  /-- ADMIT (R243): Writing ADMIT runs admission. -/
  | azsAdmit (m : Master) (v : Word)
  /-- ADMISSION_COMPLETE (R242): Admission ends and copies the admitted table, or refuses with a code. -/
  | admissionComplete
  /-- AZS_COUNTER_CLEAR (R246): Writing CNT_CLR clears AZS_DLM_CNT and AZS_FAIL_CNT. -/
  | azsCounterClear (m : Master) (v : Word)
  /-- SHD_DETECT_WRITE (R257): Writing a detector number to SHD_DETECT latches a detection. -/
  | shdDetectWrite (m : Master) (v : Word)
  /-- REBASE_ARM (R262): Writing SHD_REBASE arms a rebase. -/
  | rebaseArm (m : Master) (v : Word)
  /-- SHD_COUNTER_CLEAR (R271): Writing CNT_CLR clears SHD_CNT. -/
  | shdCounterClear (m : Master) (v : Word)
  /-- ENGINE_SAMPLE (R284): At each sample instant an engine computes its output code. -/
  | engineSample (e : Engine)
  /-- ENGINE_LOAD (R284): 400 ns after the sample the engine loads its code into the output. -/
  | engineLoad (e : Engine)
  /-- GPIO_EDGE (R279): A change of a GPIO's synchronised level feeds the interrupt sources and shadow detectors. -/
  | gpioEdge (pin : Pin) (level : Bool)
  /-- PULSE_EDGE (R280): An edge on A or B that holds for GLITCH changes the pulse count. -/
  | pulseEdge (p : Pulse) (line : PulseLine) (level : Bool)
  /-- INDEX_EDGE (R281): A rising Z edge copies the count to LOOP_PIDXp when ZLATCH is 1. -/
  | indexEdge (p : Pulse)
  /-- PULSE_RATE_UPDATE (R281): Every 100 µs LOOP_PRATEp is updated from the last WIN updates. -/
  | pulseRateUpdate
  /-- PCNT_PRESET (R281): A write to LOOP_PCNTp presets the count. -/
  | pcntPreset (p : Pulse) (m : Master) (v : Word)
  /-- ECL_IN_RISE (R292): A rise of ECL_IN releases every command pin within 25 ns. -/
  | eclInRise
  /-- ECL_IN_FILTERED_LOW (R293): ECL_IN low for CLAIM_FILT is taken as low, starting a claim or a takeover. -/
  | eclInFilteredLow
  /-- ECL_IN_FILTERED_HIGH (R295): ECL_IN high for CLAIM_FILT while claiming is a dual claim. -/
  | eclInFilteredHigh
  /-- ECL_TEST_PULSE (R297): Every TEST_PER ticks the owner drives ECL_OUT low for TEST_W. -/
  | eclTestPulse
  /-- ECL_TEST_PULSE_END (R297): After TEST_W the owner drives ECL_OUT high again. -/
  | eclTestPulseEnd
  /-- ECL_OK_LOST (R297): Two consecutive missing or wrong test pulses clear ECL_OK. -/
  | eclOkLost
  /-- ECL_MISMATCH (R297): An ECL_OUT read-back differing from the claim for 1 µs sets ECL_MISMATCH. -/
  | eclMismatch
  /-- HELLO_FRAME (R299): A received hello frame pairs the modules or refuses pairing. -/
  | helloFrame (h : Hello) (crcOk : Bool := true)
  /-- LINK_TRAINING_TIMEOUT (R299): Link training not completed in 50 ms refuses pairing with 0x05. -/
  | linkTrainingTimeout
  /-- HEALTH_WORD (R301): A received health word updates the partner's health. -/
  | healthWord (w : Dword) (offset : Int) (crcOk : Bool := true)
  /-- LINK_LOST (R301): No link frame for 3 ticks clears LINK_UP. -/
  | linkLost
  /-- CHECKPOINT_FRAME (R298): A checkpoint frame is received, and a CRC failure sends it again once. -/
  | checkpointFrame (crcOk : Bool) (n : CkptFrame) (data : Bytes)
  /-- WARM_START_BLOCK (R303): A warm-start block received by the standby is held until its state record commits. -/
  | warmStartBlock (q : Prob) (sig : Word) (tick : Dword) (v : Dwords) (crcOk : Bool := true)
  /-- CHECKPOINT_COMMIT (R304): A state record with matching CRC commits the checkpoint into place. -/
  | checkpointCommit (r : StateRecord)
  /-- RESYNC (R305): Writing RESYNC starts a full checkpoint. -/
  | resync (m : Master) (v : Word)
  /-- REFRESH_REQUEST (R315): A refresh request from the standby starts a full checkpoint refresh. -/
  | refreshRequest (crcOk : Bool := true)
  /-- MIRROR_FRAME (R312): Mirror values received are written into place at the next Strobe. -/
  | mirrorFrame (vals : Dwords) (crcOk : Bool := true)
  /-- MEMORY_PATROL (R314): Each tick the memories are patrolled and ECC errors corrected or counted. -/
  | memoryPatrol (corr : Nat) (unc : Nat) (inCommitted : Bool)
  /-- LANE_SELF_TEST (R315): The standby's golden problem copies end and are compared bit for bit. -/
  | laneSelfTest (passes : Lanes8)
  /-- ENCODER_CHECK (R315): In the idle slot the standby reruns one encoder on a zero window and compares its CRC. -/
  | encoderCheck (n : Stream) (crc : Word)
  /-- SWAP_FRAME (R317): A swap frame makes the standby run the migration table and rotate its roles. -/
  | swapFrame (crcOk : Bool := true)
  /-- FORWARDED_COMMAND (R317): An EXCHANGE, CONFIRM, ROLLBACK or ABORT forwarded by the owner acts on the standby. -/
  | forwardedCommand (cmd : FwdCmd) (ver : Word) (crcOk : Bool := true)
  /-- EVENT_RECORD (R322): A record offered to the recorder is rate-limited, numbered and queued or buffered, or dropped. -/
  | eventRecord (code : Code) (payload : Payload)
  /-- SUBMIT (R323): A write of REC_SUB_CODE submits a software record. -/
  | submit (m : Master) (v : Word)
  /-- RECORD_COMMIT (R324): A write-through record is committed to MRAM. -/
  | recordCommit
  /-- FLUSH (R326): Writing FLUSH starts a flush of the buffer. -/
  | flush (m : Master) (v : Word)
  /-- FLUSH_END (R326): A flush empties the buffer and writes its Flush record directly. -/
  | flushEnd
  /-- REC_MODE_WRITE (R325): A write of REC_CTRL.MODE switches to buffered at once or starts a flush to write-through. -/
  | recModeWrite (m : Master) (v : Word)
  /-- AFTERGLOW_END (R327): After the Afterglow flush the end record is written and no further record is accepted. -/
  | afterglowEnd
  /-- REC_SNAPSHOT (R334): A write of REC_SNAP latches the snapshot bounds for the writing master. -/
  | recSnapshot (m : Master) (v : Word)
  /-- READ_WINDOW (R335): A write of REC_RD_SEQ_HI starts a record fetch and clears READY. -/
  | readWindow (m : Master) (v : Word)
  /-- READ_READY (R335): The fetch completes and READY rises with the record or PRESENT 0. -/
  | readReady (m : Master)
  /-- CLEAR_REQUEST (R336): A REC_CLR_CMD request places a new challenge or is refused. -/
  | clearRequest (m : Master) (v : Word)
  /-- CLEAR_RESPONSE (R337): A write of REC_RESP clears the store if correct, or writes a Clear-refused record. -/
  | clearResponse (m : Master) (v : Word)
  /-- CHALLENGE_EXPIRY (R336): A challenge expires after 60 s of MONO. -/
  | challengeExpiry
  /-- CLEAR_LOCK_END (R336): 600 s after three wrong responses the clear lock ends. -/
  | clearLockEnd
  /-- REC_COUNTER_CLEAR (R338): Writing CNT_CLR clears REC_DROP_Q. -/
  | recCounterClear (m : Master) (v : Word)
  /-- SOURCE_ASSERT (R345): An edge of a source raises its pending count and may start its timer. -/
  | sourceAssert (n : Source)
  /-- COALESCE_TIMEOUT (R345): The source timer reaching TIME makes the source ready. -/
  | coalesceTimeout (n : Source)
  /-- DELIVERY (R347): The controller begins a delivery of the highest-priority ready source to its chosen target. -/
  | delivery
  /-- DELIVERY_COMMIT (R347): At D + 4 the delivery commits, the stamps are latched and the message leaves. -/
  | deliveryCommit
  /-- STAMP_ONLY_DELIVERY (R340): A ready receive source with no eligible target is stamped without a message. -/
  | stampOnlyDelivery (n : Source)
  /-- MASK_WRITE (R348): A write of IRQ_MASKi masks sources, with deliveries already begun raced. -/
  | maskWrite (m : Master) (i : Octet) (v : Word)
  /-- MASK_READ (R348): A read of IRQ_MASKi completes only after every earlier delivery from that word has committed. -/
  | maskRead (m : Master) (i : Octet)
  /-- PEND_CLEAR (R354): Writing 1 to IRQ_PENDi sets the pending count and timer to 0. -/
  | pendClear (m : Master) (i : Octet) (v : Word)
  /-- SOFTWARE_SOURCE_SET (R353): Writing IRQ_SWSET asserts software sources in that cycle. -/
  | softwareSourceSet (m : Master) (v : Word)
  /-- AON_LATCH (R352): An edge while the clocks are stopped sets the source's always-on latch. -/
  | aonLatch (n : Source)
  /-- AON_TRANSFER (R352): Once clocks run and the source is enabled, the latch enters the pending count as one edge. -/
  | aonTransfer (n : Source)
  /-- INTERRUPT_FRAME (R339): An interrupt frame from the partner asserts source 193. -/
  | interruptFrame (n : Source) (crcOk : Bool := true)
  /-- IRQ_COUNTER_CLEAR (R354): Writing CNT_CLR clears IRQ_ORPHAN. -/
  | irqCounterClear (m : Master) (v : Word)
  /-- INC_WRITE (R357): A write of a base increment applies from the next cycle, clamped and recorded. -/
  | incWrite (m : Master) (b : Base) (v : Dword)
  /-- TIME_SNAP (R358): A write of TIME_SNAP latches the named bases in one cycle. -/
  | timeSnap (m : Master) (v : Word)
  /-- FRAC_READ (R358): Reading a base fraction latches both seconds words for the reader. -/
  | fracRead (m : Master) (b : Base)
  /-- PHASE_ERROR (R360): A phase error from a trusted time solution sets or disciplines TAI and changes its state;
  `sec` is the TAI second after which the solution is the first (R385). -/
  | phaseError (sec : Dword)
  /-- HOLDOVER (R361): No trusted time solution for 3 s enters HOLDOVER. -/
  | holdover
  /-- SET_TAI (R359): Command that sets TAI from TIME_SET registers in FREE. -/
  | setTai (m : Master)
  /-- REALIGN (R363): Command that steps TAI by the remaining error and enters LOCKED. -/
  | realign (m : Master)
  /-- LEAP_ENTRY_WRITE (R365): A write of TIME_LEAPOFFk commits a leap-table entry. -/
  | leapEntryWrite (m : Master) (k : LeapEntry) (v : Word)
  /-- LEAP_ANNOUNCEMENT (R386): A decoded leap-second announcement writes a GNSS entry into the leap table. -/
  | leapAnnouncement (te : Nat) (off : Int)
  /-- LEAP_SECOND (R366): At T_e a new leap entry comes into force, with CIV repeating or skipping a second. -/
  | leapSecond
  /-- BEACON (R367): At each whole TAI second the Beacon pulse starts and source 112 asserts. -/
  | beacon
  /-- BEACON_PULSE_END (R367): After WIDTH ms the Beacon pulse ends. -/
  | beaconPulseEnd
  /-- CALENDAR_UPDATE (R364): At every TAI second the calendar clock is set from CIV. -/
  | calendarUpdate
  /-- REFERENCE_SWITCH (R476): A loss of EXT_OK switches the reference to the TCXO without a step. -/
  | referenceSwitch
  /-- REFERENCE_RETURN (R476): Writing SYS_CLK.RETURN switches back to the external reference when allowed. -/
  | referenceReturn (m : Master) (v : Word)
  /-- CRYSTAL_LOST (R477): No crystal oscillation for 1 s invalidates the calendar clock. -/
  | crystalLost
  /-- EPOCH_RECORD_COMMIT (R378): At 120 µs the GNSS epoch record is committed with its trust checks. -/
  | epochRecordCommit (e : Epoch)
  /-- CHECK_CLEAR (R383): CLEAR_S seconds after its condition last held a check clears. -/
  | checkClear (k : Check)
  /-- ACQUISITION_PASS (R374): The acquisition engine completes one pass every 250 µs. -/
  | acquisitionPass (c : Chain) (sys : GnssSys) (sat : Sat) (out : Nat) (elev : Nat)
  /-- BAND2_HANDOVER (R375): A band-2 channel starts from its band-1 channel after lock. -/
  | band2Handover (c : Chain) (sys : GnssSys) (sat : Sat)
  /-- LOSS_OF_LOCK (R376): C/N0 below 25 dB-Hz for 200 ms loses lock and starts a local search. -/
  | lossOfLock (c : Chain) (sys : GnssSys) (sat : Sat) (band2 : Bool)
  /-- LOCAL_SEARCH_END (R376): After 2 s of local search the satellite returns to full search. -/
  | localSearchEnd (c : Chain) (sys : GnssSys) (sat : Sat) (band2 : Bool)
  /-- NO_LOCK_RESTART (R376): A chain with no channel in lock for 10 s asserts source 111 and restarts. -/
  | noLockRestart (c : Chain)
  /-- VREF_ARM (R384): A write of GNSS_VREF_HDG arms the velocity reference set. -/
  | vrefArm (m : Master) (v : Word)
  /-- FASTEST_START (R387): GNSS command for the fastest start the kept data allow. -/
  | fastestStart (m : Master)
  /-- HOT_START (R387): GNSS command for a hot start. -/
  | hotStart (m : Master)
  /-- WARM_START (R387): GNSS command for a warm start. -/
  | warmStart (m : Master)
  /-- COLD_START (R387): GNSS command for a cold start discarding the kept data. -/
  | coldStart (m : Master)
  /-- GNSS_SLEEP_CMD (R388): GNSS command that puts the GNSS to sleep. -/
  | gnssSleepCmd (m : Master)
  /-- GNSS_WAKE_CMD (R388): GNSS command that wakes the GNSS. -/
  | gnssWakeCmd (m : Master)
  /-- FIRST_FIX (R387): The first trusted chain 0 fix after a start sets GNSS_TTFF and asserts source 108. -/
  | firstFix
  /-- GNSS_SLEEP (R388): A standby puts its GNSS to sleep at the end of its first Keep or after a wake's refresh. -/
  | gnssSleep
  /-- GNSS_WAKE_TIMER (R388): Every WAKE seconds a sleeping standby wakes its GNSS with a start. -/
  | gnssWakeTimer
  /-- CAN_FRAME_RECEIVED (R398): A received frame is filtered and written into a mailbox or the FIFO. -/
  | canFrameReceived (k : CanNo) (f : CanFrame)
  /-- TX_QUEUE (R401): Setting a CANk_TXPEND bit queues a transmit buffer. -/
  | txQueue (k : CanNo) (m : Master) (v : Word)
  /-- TX_CANCEL (R401): A write of CANk_TXCANCEL removes a pending buffer. -/
  | txCancel (k : CanNo) (m : Master) (v : Word)
  /-- TX_LAUNCH_TIME (R403): A free buffer is offered at its converted launch time. -/
  | txLaunchTime (k : CanNo) (b : CanBuf)
  /-- WINDOW_START (R405): A schedule window opens and an exclusive window launches its buffer. -/
  | windowStart (k : CanNo) (w : CanWin)
  /-- TX_END (R402): A successful transmission ends and asserts source 121 + 4k. -/
  | txEnd (k : CanNo) (b : CanBuf)
  /-- TX_ERROR (R402): A failed attempt counts against RETRY and the frame is retried or dropped. -/
  | txError (k : CanNo) (b : CanBuf) (lec : CanErr)
  /-- CYCLE_START (R407): A master starts a basic cycle and launches the reference message. -/
  | cycleStart (k : CanNo) (busBusy : Bool)
  /-- REFERENCE_MESSAGE (R408): A follower receives a reference message, with its identifier, and steps its BUS base. -/
  | referenceMessage (k : CanNo) (cycle : Cycle) (ident : StdId)
  /-- SYNC_LOSS (R408): No reference message within 1.5 × CYCLE_LEN clears SYNC. -/
  | syncLoss (k : CanNo)
  /-- BUS_OFF_RECOVERY (R412): After 128 sequences of 11 recessive bits a bus-off controller recovers. -/
  | busOffRecovery (k : CanNo)
  /-- RECOVER (R412): Writing RECOVER starts bus-off recovery. -/
  | recover (k : CanNo) (m : Master) (v : Word)
  /-- CAN_SLEEP (R415): Setting SLEEP finishes the frame, drops pending frames and stops the controller. -/
  | canSleep (k : CanNo) (m : Master) (v : Word)
  /-- CAN_WAKE (R416): A wake on the receive line clears SLEEP and asserts source 123 + 4k. -/
  | canWake (k : CanNo) (x : WakeSign := .dominant 0)
  /-- FIFO_READ_ADVANCE (R397): Advancing CANk_FIFO.RPTR consumes FIFO entries. -/
  | fifoReadAdvance (k : CanNo) (m : Master) (v : Word)
  /-- SOURCE_TIMEOUT (R424): A listen entry or serial port with no sentence for TIMEOUT ticks is marked failed. -/
  | sourceTimeout (u : SrcUnit)
  /-- ETHERNET_FRAME_RECEIVED (R418): A received frame is deduplicated by PRP and passed to its service or the receive ring. -/
  | ethernetFrameReceived (port : Port) (f : EthFrame)
  /-- PRP_ENTRY_FORGET (R418): A duplicate-table entry expires after 400 ms. -/
  | prpEntryForget (p : EthPair) (src : Mac) (seq : Half)
  /-- SUPERVISION_FRAME (R418): Every 2 s a PRP supervision frame is sent. -/
  | supervisionFrame (p : EthPair)
  /-- LAN_STATE_CHANGE (R419): A LAN goes up or down and source 152 + p asserts: the PHY reports `link`, or it has been `silent` for LAN_TO ms. -/
  | lanStateChange (port : Port) (link : Bool) (silent : Bool)
  /-- TX_DESCRIPTOR_SUBMIT (R422): Advancing the transmit ring's SW index hands descriptors to the module. -/
  | txDescriptorSubmit (p : EthPair) (m : Master) (v : Word)
  /-- RX_DESCRIPTOR_FREE (R422): Advancing the receive ring's SW index frees descriptors. -/
  | rxDescriptorFree (p : EthPair) (m : Master) (v : Word)
  /-- BURST_DELAYED_START (R421): A Grezhasel burst that found a LAN busy starts after the frame in progress ends. -/
  | burstDelayedStart (lanB : Bool)
  /-- UDPBC_DATAGRAM (R424): A UdPbC datagram is taken by a listen entry and its sentences written to the source area. -/
  | udpbcDatagram (dg : Datagram)
  /-- SENTENCE (R426): A serial sentence ending at CR LF is checked and written or counted. -/
  | sentence (k : SerPort) (chars : SerChars)
  /-- MSIX_UNMASK (R428): Unmasking an MSI-X vector sends its held message. -/
  | msixUnmask (n : Source)
  /-- PCIE_LINK_CHANGE (R428): The PCIe link changes state and source 158 asserts. -/
  | pcieLinkChange (up : Bool) (gen : PcieGen) (width : PcieWidth) (msix : Bool)
  /-- HOST_SERVICE_REQUEST (R429): An Ethernet host service request reads or writes words and is answered. -/
  | hostServiceRequest (req : Bytes)
  /-- GRZ_INPUT_FRAME (R433): A Grezhasel input frame is accepted into its shadow or dropped. -/
  | grzInputFrame (g : GrzFrame)
  /-- SERVICE_REQUEST (R437): A station's service frame is stored in a free request slot. -/
  | serviceRequest (g : GrzFrame)
  /-- SERVICE_SEND (R437): Writing GRZ_SVCSEND schedules a service response. -/
  | serviceSend (m : Master) (v : Word)
  /-- SERVICE_RESPONSE_SENT (R437): A service response is sent after the burst and source 162 asserts. -/
  | serviceResponseSent (r : SvcSlot)
  /-- SERVICE_SLOT_FREE (R437): Writing 1 to a GRZ_SVCREQ bit frees a request slot. -/
  | serviceSlotFree (m : Master) (v : Word)
  /-- LANTERN_ENABLE (R453): EN written from 0 to 1 starts the enable sequence. -/
  | lanternEnable (m : Master) (v : Word)
  /-- COMMON_DRIVE_START (R453): After RAIL_MS the common drive starts and GCLR is asserted. -/
  | commonDriveStart
  /-- GCLR_RELEASE (R453): 800 µs later GCLR is released, a full-frame region is queued and STATE becomes RUN. -/
  | gclrRelease
  /-- LANTERN_DISABLE (R454): EN written from 1 to 0 starts the shutdown sequence. -/
  | lanternDisable (m : Master) (v : Word)
  /-- SHUTDOWN_CLEAR (R454): 10 µs into shutdown GCLR is asserted. -/
  | shutdownClear
  /-- SHUTDOWN_VCOM_OFF (R454): At 810 µs GCLR is released and VCOM_EN goes inactive. -/
  | shutdownVcomOff
  /-- SHUTDOWN_DISCHARGE (R454): At 860 µs the rails are disabled and discharged. -/
  | shutdownDischarge
  /-- SHUTDOWN_END (R454): At 2,000 µs the sequence ends and STATE is OFF. -/
  | shutdownEnd
  /-- UPDATE_REQUEST (R445): A write of LAN_REQ requests an update, merged or queued. -/
  | updateRequest (m : Master) (v : Word)
  /-- LINE_WRITE (R441): A line write ends and the cursor moves on, ending or rewriting the region. -/
  | lineWrite
  /-- FRAMEBUFFER_WRITE (R444): A write into the framebuffer sets the dirty bit of its line. -/
  | framebufferWrite (m : Master) (a : Addr) (data : Bytes)
  /-- VCOM_TOGGLE (R448): A zone toggles its common electrode and applies a pending band or drive entry. -/
  | vcomToggle (z : Zone)
  /-- TEMPERATURE_SAMPLE (R450): Every second Lantern takes the panel temperature and moves the band. -/
  | temperatureSample (ohm : Half)
  /-- POWER_FAIL_INDICATION (R469): PWR_FAIL_N or a rail monitor low for 1 µs starts hold-up, withdraws the claim and starts Afterglow. -/
  | powerFailIndication (pin : Bool) (rails : RailBits)
  /-- RESET_ENTRY (R470): When the recorder and Lantern sequences have ended, the module enters reset and stops the converter. -/
  | resetEntry
  /-- PIN_RESET (R472): A low of at least 10 µs on RST_N resets every island except the always-on one. -/
  | pinReset
  /-- RESET_RELEASE (R472): After the rails, HOLD_UP, PWR_FAIL_N and RST_N have held for 2 ms, reset is released and straps sampled. -/
  | resetRelease (straps : Straps)
  /-- PLL_LOCK (R473): When every PLL locks the tick sequencer starts tick 0 in Stop. -/
  | pllLock
  /-- RST_OUT_RELEASE (R473): 1 ms after reset release RST_OUT_N and PHY_RST_N go high. -/
  | rstOutRelease
  /-- AON_LOSS (R472): Loss of VDD_AON resets the always-on island. -/
  | aonLoss
  /-- HOLD_V_UPDATE (R480): Every 1 ms HOLD_V is updated and HOLD_LOW changes are recorded. -/
  | holdVUpdate (v : Octets)
  /-- TJ_UPDATE (R468): Every 1 ms the junction temperature is updated and HOT set above 120 °C. -/
  | tjUpdate (t : Half)
  /-- BYPASS (R479): JTAG BYPASS instruction. -/
  | bypass
  /-- IDCODE (R479): JTAG IDCODE instruction. -/
  | idcode
  /-- SAMPLE_PRELOAD (R479): JTAG SAMPLE/PRELOAD instruction. -/
  | samplePreload
  /-- EXTEST (R479): JTAG EXTEST, effective only in Stop without a claim. -/
  | extest
  /-- CLAMP (R479): JTAG CLAMP, effective only in Stop without a claim. -/
  | clamp
  /-- HIGHZ (R479): JTAG HIGHZ, effective only in Stop without a claim. -/
  | highz
  /-- DBGACC (R479): JTAG DBGACC makes the port the debug bus master. -/
  | dbgacc
  /-- ECL_IN_FALL (R297): A raw falling edge on ECL_IN is stamped in the time island and starts the CLAIM_FILT low filter, and on the standby it opens the measurement of a test pulse. -/
  | eclInFall
  /-- LINK_TRAINED (R299): The pair-link lanes complete training, PAIR_LINK.LANES is set and the link comes up so that hello frames can be sent. -/
  | linkTrained (lanes : Lanes)
  /-- CHECKPOINT_TRANSFER_END (R302): The owner finishes transmitting the checkpoint of the tick, which the local snapshot and the swap point wait on. -/
  | checkpointTransferEnd (failed : List CkptFrame := [])
  /-- LOAD_COMPLETE (R206): The load or rollback that took up to 6 ms finishes unpacking and applying its settings, ends the busy state and runs admission. -/
  | loadComplete
  /-- EXT_OK_GAINED (R476): The external 10 MHz reference has been present and within tolerance for 10 s, and EXT_OK rises. -/
  | extOkGained
  /-- RING_LAUNCH_TIME (R422): A transmit-ring descriptor with a launch time reaches its converted time and its frame launches, releasing the descriptors held behind it. -/
  | ringLaunchTime (p : EthPair)
  /-- RING_FRAME_SENT (R422): A frame from a transmit ring finishes on the wire and the ring's HW index moves to the next descriptor. -/
  | ringFrameSent (p : EthPair)
  /-- OUTPUT_BURST_END (R421): The last frame of the Grezhasel output burst ends, releasing guarded frames and opening the service slot. -/
  | outputBurstEnd
  /-- CONVERTER_STOP (R470): HOLD_UP falls below 6.8 V during hold-up and the converter stops, removing the held rails before Afterglow has ended. -/
  | converterStop
  /-- CAN_BUS_ERROR (R412): A controller detects an error while receiving, raises its receive error counter and may change its error state. -/
  | canBusError (k : CanNo) (lec : CanErr) (heavy : Bool)
deriving DecidableEq, Repr

end Sys2Proof
end

