-- ==== Sys2Proof/Decode.lean ====
section
/-!
DEFINITION. Decode.lean: the commands that a word spells.  The table of operations gives its rows no bits, so no word spells a command; the
instruction words of the Cumel cores are decoded in Machine/CumelDecode.lean, as the contexts of the block decode them.
-/
namespace Sys2Proof

/-- The command that a word of `nbits` bits spells by the table: none, since the table gives no row any bits. -/
def decodeTableWord (_nbits _w : Nat) : Option Instr := none

end Sys2Proof
end

