-- ==== Sys2Proof/Machine/Flags.lean ====
section
/-!
DEFINITION. Machine/Flags.lean: IEEE 754 arithmetic in round-to-nearest-even with its sticky flags (R148), for binary64 and binary32.
A result is exact arithmetic on whole numbers, narrowed once at the end.
-/
namespace Sys2Proof.Machine

/-- A binary format: width of the exponent and of the stored significand. -/
structure Fmt where
  eb : Nat
  mb : Nat
deriving DecidableEq, Repr

/-- binary64 (R147). -/
def f64 : Fmt := ⟨11, 52⟩

/-- binary32, used by registers and tables of FP32. -/
def f32 : Fmt := ⟨8, 23⟩

/-- The exponent of the least bit of a subnormal number. -/
def Fmt.qmin (f : Fmt) : Int := 2 - 2 ^ (f.eb - 1) - f.mb

/-- What a bit pattern stands for: a finite one is (−1)^s × m × 2^e. -/
inductive FpVal where
  | nan (signalling : Bool)
  | inf (s : Bool)
  | fin (s : Bool) (m : Nat) (e : Int)
deriving DecidableEq, Repr

/-- Flags of FPFLAGS: 1 invalid, 2 divide by zero, 4 overflow, 8 underflow, 16 inexact (R148). -/
abbrev FpFlags := Nat

/-- A result: its bits and the flags it sets. -/
structure FpRes where
  bits : Nat
  flags : FpFlags
deriving DecidableEq, Repr

def Fmt.signBit (f : Fmt) (s : Bool) : Nat := if s then 2 ^ (f.eb + f.mb) else 0

/-- The default quiet NaN: 0x7FF8_0000_0000_0000 in binary64 (R148). -/
def Fmt.nan (f : Fmt) : Nat := (2 ^ f.eb - 1) * 2 ^ f.mb + 2 ^ (f.mb - 1)

def Fmt.inf (f : Fmt) (s : Bool) : Nat := f.signBit s + (2 ^ f.eb - 1) * 2 ^ f.mb

/-- Read a bit pattern. -/
def Fmt.read (f : Fmt) (b : Nat) : FpVal :=
  let s := decide (b / 2 ^ (f.eb + f.mb) % 2 = 1)
  let x := b / 2 ^ f.mb % 2 ^ f.eb
  let m := b % 2 ^ f.mb
  if x = 2 ^ f.eb - 1 then (if m = 0 then .inf s else .nan (decide (m < 2 ^ (f.mb - 1))))
  else if x = 0 then .fin s m f.qmin
  else .fin s (m + 2 ^ f.mb) (f.qmin + (x - 1 : Int))

/-- m / 2^k rounded to the nearest whole number, halves to even. -/
def rne (m k : Nat) : Nat :=
  let q := m >>> k
  let r := m - q * 2 ^ k
  if 2 * r > 2 ^ k ∨ (2 * r = 2 ^ k ∧ q % 2 = 1) then q + 1 else q

/-- Narrow the exact value (−1)^s × m × 2^e to the format.  Tininess is detected after rounding; underflow needs a tiny and inexact
result (R148). -/
def Fmt.round (f : Fmt) (s : Bool) (m : Nat) (e : Int) : FpRes :=
  if m = 0 then ⟨f.signBit s, 0⟩
  else
    let top := e + Nat.log2 m
    let q := max (top - f.mb) f.qmin
    let m' := if q ≤ e then m <<< (e - q).toNat else rne m (q - e).toNat
    let inexact := decide (e < q) && decide (m' * 2 ^ (q - e).toNat ≠ m)
    let free := if e < top - f.mb then rne m (top - f.mb - e).toNat else m <<< (e - (top - f.mb)).toNat
    let tiny := decide (top < f.qmin + f.mb) && !(decide (top + 1 = f.qmin + f.mb) && decide (free = 2 ^ (f.mb + 1)))
    let b := (q - f.qmin).toNat * 2 ^ f.mb + m'
    if (2 ^ f.eb - 1) * 2 ^ f.mb ≤ b then ⟨f.inf s, 20⟩
    else ⟨f.signBit s + b, (if inexact then 16 else 0) + (if tiny && inexact then 8 else 0)⟩

/-- The default NaN, with the invalid flag where `inv`. -/
def Fmt.bad (f : Fmt) (inv : Bool) : FpRes := ⟨f.nan, if inv then 1 else 0⟩

def FpVal.sig (v : FpVal) : Bool := match v with | .nan b => b | _ => false
def FpVal.isNan (v : FpVal) : Bool := match v with | .nan _ => true | _ => false
def FpVal.isInf (v : FpVal) : Bool := match v with | .inf _ => true | _ => false

/-- (−1)^s × m as a whole number. -/
def signed (s : Bool) (m : Nat) : Int := if s then -(m : Int) else m

/-- The exact sum of two finite values; a zero sum is +0 unless both are −0. -/
def Fmt.sum (f : Fmt) (s : Bool) (m : Nat) (e : Int) (s' : Bool) (m' : Nat) (e' : Int) : FpRes :=
  let q := min e e'
  let t := signed s (m <<< (e - q).toNat) + signed s' (m' <<< (e' - q).toNat)
  if t = 0 then ⟨f.signBit (s && s'), 0⟩ else f.round (decide (t < 0)) t.natAbs q

def Fmt.addVal (f : Fmt) (x y : FpVal) : FpRes :=
  match x, y with
  | .nan a, .nan b => f.bad (a || b)
  | .nan a, _ => f.bad a
  | _, .nan b => f.bad b
  | .inf a, .inf b => if a = b then ⟨f.inf a, 0⟩ else f.bad true
  | .inf a, _ => ⟨f.inf a, 0⟩
  | _, .inf b => ⟨f.inf b, 0⟩
  | .fin s m e, .fin s' m' e' => f.sum s m e s' m' e'

def FpVal.neg (v : FpVal) : FpVal :=
  match v with
  | .nan b => .nan b
  | .inf s => .inf !s
  | .fin s m e => .fin (!s) m e

def Fmt.add (f : Fmt) (a b : Nat) : FpRes := f.addVal (f.read a) (f.read b)
def Fmt.sub (f : Fmt) (a b : Nat) : FpRes := f.addVal (f.read a) (f.read b).neg

def Fmt.mul (f : Fmt) (a b : Nat) : FpRes :=
  match f.read a, f.read b with
  | .nan a, .nan b => f.bad (a || b)
  | .nan a, _ => f.bad a
  | _, .nan b => f.bad b
  | .inf a, .inf b => ⟨f.inf (a != b), 0⟩
  | .inf a, .fin s m _ => if m = 0 then f.bad true else ⟨f.inf (a != s), 0⟩
  | .fin s m _, .inf b => if m = 0 then f.bad true else ⟨f.inf (s != b), 0⟩
  | .fin s m e, .fin s' m' e' => f.round (s != s') (m * m') (e + e')

/-- A quotient with enough bits for one rounding, its lowest bit standing for the remainder. -/
def Fmt.div (f : Fmt) (a b : Nat) : FpRes :=
  match f.read a, f.read b with
  | .nan a, .nan b => f.bad (a || b)
  | .nan a, _ => f.bad a
  | _, .nan b => f.bad b
  | .inf _, .inf _ => f.bad true
  | .inf a, .fin s _ _ => ⟨f.inf (a != s), 0⟩
  | .fin s _ _, .inf b => ⟨f.signBit (s != b), 0⟩
  | .fin s m e, .fin s' m' e' =>
    if m' = 0 then (if m = 0 then f.bad true else ⟨f.inf (s != s'), 2⟩)
    else
      let k := 2 * f.mb + 6
      let q := (m <<< k) / m'
      let r := if q * m' = m <<< k then 0 else 1
      f.round (s != s') (2 * q + r) (e - e' - k - 1)

/-- The whole square root, from the given bit down. -/
def isqrt : Nat → Nat → Nat → Nat
  | 0, _, r => r
  | k + 1, n, r => let r' := r + 2 ^ k; isqrt k n (if r' * r' ≤ n then r' else r)

def Fmt.sqrt (f : Fmt) (a : Nat) : FpRes :=
  match f.read a with
  | .nan a => f.bad a
  | .inf s => if s then f.bad true else ⟨f.inf false, 0⟩
  | .fin s m e =>
    if m = 0 then ⟨f.signBit s, 0⟩
    else if s then f.bad true
    else
      let j := 2 * f.mb + 8
      let k := if (e - j) % 2 = 0 then j else j + 1
      let n := m <<< k
      let r := isqrt (Nat.log2 n / 2 + 1) n 0
      f.round false (2 * r + (if r * r = n then 0 else 1)) ((e - k) / 2 - 1)

/-- a + b × c with one rounding. -/
def Fmt.fma (f : Fmt) (a b c : Nat) : FpRes :=
  let x := f.read a
  let y := f.read b
  let z := f.read c
  let inv := match y, z with
    | .inf _, .fin _ m _ => decide (m = 0)
    | .fin _ m _, .inf _ => decide (m = 0)
    | _, _ => false
  if x.isNan || y.isNan || z.isNan then f.bad (x.sig || y.sig || z.sig || inv)
  else if inv then f.bad true
  else
    let p : FpVal := match y, z with
      | .fin s m e, .fin s' m' e' => .fin (s != s') (m * m') (e + e')
      | .fin s _ _, .inf s' => .inf (s != s')
      | .inf s, .fin s' _ _ => .inf (s != s')
      | .inf s, .inf s' => .inf (s != s')
      | v, _ => v
    f.addVal x p

/-- The order of two values that are no NaN: −1, 0 or 1; −0 equals +0. -/
def fpCmp (x y : FpVal) : Int :=
  match x, y with
  | .inf a, .inf b => if a = b then 0 else if a then -1 else 1
  | .inf a, _ => if a then -1 else 1
  | _, .inf b => if b then 1 else -1
  | .fin s m e, .fin s' m' e' =>
    let q := min e e'
    let d := signed s (m <<< (e - q).toNat) - signed s' (m' <<< (e' - q).toNat)
    if d < 0 then -1 else if d = 0 then 0 else 1
  | _, _ => 0

/-- `FEQ`: quiet, so only a signalling NaN sets invalid. -/
def Fmt.eq (f : Fmt) (a b : Nat) : Bool × FpFlags :=
  let x := f.read a
  let y := f.read b
  if x.isNan || y.isNan then (false, if x.sig || y.sig then 1 else 0) else (fpCmp x y = 0, 0)

/-- `FLT` and `FLE`: any NaN sets invalid (assumption log 23). -/
def Fmt.lt (f : Fmt) (a b : Nat) : Bool × FpFlags :=
  let x := f.read a
  let y := f.read b
  if x.isNan || y.isNan then (false, 1) else (fpCmp x y < 0, 0)

def Fmt.le (f : Fmt) (a b : Nat) : Bool × FpFlags :=
  let x := f.read a
  let y := f.read b
  if x.isNan || y.isNan then (false, 1) else (fpCmp x y ≤ 0, 0)

/-- The sign bit of a bit pattern. -/
def Fmt.neg? (f : Fmt) (a : Nat) : Bool := decide (a / 2 ^ (f.eb + f.mb) % 2 = 1)

/-- minimumNumber (R155): a NaN yields the other operand, two NaNs the default NaN, a signalling NaN sets invalid, −0 is below +0. -/
def Fmt.min (f : Fmt) (a b : Nat) : FpRes :=
  let x := f.read a
  let y := f.read b
  let fl := if x.sig || y.sig then 1 else 0
  if x.isNan && y.isNan then ⟨f.nan, fl⟩
  else if x.isNan then ⟨b, fl⟩
  else if y.isNan then ⟨a, fl⟩
  else
    let c := fpCmp x y
    ⟨if c < 0 ∨ (c = 0 ∧ f.neg? a) then a else b, fl⟩

/-- maximumNumber (R155). -/
def Fmt.max (f : Fmt) (a b : Nat) : FpRes :=
  let x := f.read a
  let y := f.read b
  let fl := if x.sig || y.sig then 1 else 0
  if x.isNan && y.isNan then ⟨f.nan, fl⟩
  else if x.isNan then ⟨b, fl⟩
  else if y.isNan then ⟨a, fl⟩
  else
    let c := fpCmp x y
    ⟨if c > 0 ∨ (c = 0 ∧ !f.neg? a) then a else b, fl⟩

/-- A whole number narrowed to the format. -/
def Fmt.ofInt (f : Fmt) (i : Int) : FpRes := f.round (decide (i < 0)) i.natAbs 0

/-- A value rounded to the nearest whole number, halves to even: the number and whether it changed. -/
def rneInt (s : Bool) (m : Nat) (e : Int) : Int × Bool :=
  if 0 ≤ e then (signed s (m <<< e.toNat), false)
  else
    let r := rne m (-e).toNat
    (signed s r, decide (r * 2 ^ (-e).toNat ≠ m))

/-- To a signed number of 64 bits, saturated; NaN gives 0.  NaN and saturation set invalid and not inexact (R155). -/
def Fmt.toI64 (f : Fmt) (a : Nat) : Int × FpFlags :=
  match f.read a with
  | .nan _ => (0, 1)
  | .inf s => (if s then -(2 ^ 63) else 2 ^ 63 - 1, 1)
  | .fin s m e =>
    let (r, ch) := rneInt s m e
    if r < -(2 ^ 63) then (-(2 ^ 63), 1)
    else if 2 ^ 63 ≤ r then (2 ^ 63 - 1, 1)
    else (r, if ch then 16 else 0)

/-- From one format to another. -/
def Fmt.conv (f g : Fmt) (a : Nat) : FpRes :=
  match f.read a with
  | .nan b => g.bad b
  | .inf s => ⟨g.inf s, 0⟩
  | .fin s m e => g.round s m e

/-- A binary64 that is neither NaN nor an infinity. -/
def fpFinite (a : Nat) : Bool := match f64.read a with | .fin .. => true | _ => false

/-! Shorthands over binary64 where flags do not matter. -/

def dAdd (a b : Nat) : Nat := (f64.add a b).bits
def dSub (a b : Nat) : Nat := (f64.sub a b).bits
def dMul (a b : Nat) : Nat := (f64.mul a b).bits
def dDiv (a b : Nat) : Nat := (f64.div a b).bits
def dLe (a b : Nat) : Bool := (f64.le a b).1
def dLt (a b : Nat) : Bool := (f64.lt a b).1
def dAbs (a : Nat) : Nat := a % 2 ^ 63
def dNeg (a : Nat) : Nat := a ^^^ 2 ^ 63
def dOfInt (i : Int) : Nat := (f64.ofInt i).bits
def dMin (a b : Nat) : Nat := (f64.min a b).bits
def dMax (a b : Nat) : Nat := (f64.max a b).bits

/-! The same over binary32. -/

def sAdd (a b : Nat) : Nat := (f32.add a b).bits
def sSub (a b : Nat) : Nat := (f32.sub a b).bits
def sMul (a b : Nat) : Nat := (f32.mul a b).bits
def sDiv (a b : Nat) : Nat := (f32.div a b).bits
def sLt (a b : Nat) : Bool := (f32.lt a b).1
def sNeg (a : Nat) : Nat := a ^^^ 2 ^ 31
def sOfInt (i : Int) : Nat := (f32.ofInt i).bits
def sFinite (a : Nat) : Bool := match f32.read a with | .fin .. => true | _ => false

/-- A binary32 pattern widened to binary64. -/
def widen (a : Nat) : Nat := (f32.conv f64 a).bits

/-- A binary64 pattern narrowed to binary32. -/
def narrow (a : Nat) : Nat := (f64.conv f32 a).bits

end Sys2Proof.Machine
end

