-- ==== Sys2Proof/Machine/RegMap.lean ====
section
/-!
DEFINITION. Machine/RegMap.lean: the register map of the module.
Every register of R489 has its address `R.<NAME>` (R489's block base plus offset; an indexed register is a function of its index), and
every field of the chapters' register tables has its place `F.<REGISTER>_<FIELD>`.
`regRows` gives, for each register, what its table's Access column says (RW, W1C, W1S, WO; every other bit is RO or RZ), the value its
Reset column states, and which bits the Effect column opens with "(expert)" (R10).  Values fixed by the variant, a strap or a pin stand
at 0 here; the reads that supply them are in Machine/Bus.lean.
-/
namespace Sys2Proof.Machine

/-- The place of one register field: the register's address and the field's bits hi to lo (R11: registers are 32-bit words). -/
structure Fld where
  addr : Nat
  hi : Nat
  lo : Nat
deriving DecidableEq, Repr

/-- One register, or one array of registers, of the map: address of the first, outer stride and count, inner stride and count,
the masks of its RW, W1C, W1S and WO bits, its reset word and its expert bits. -/
structure RegInfo where
  addr : Nat
  stride2 : Nat
  count2 : Nat
  stride : Nat
  count : Nat
  rw : Nat
  w1c : Nat
  w1s : Nat
  wo : Nat
  reset : Nat
  expert : Nat
deriving DecidableEq, Repr

/-! ## Register addresses (R489) -/


/-! SYS -/
def R.SYS_ID : Nat := 0x40000000
def R.SYS_CAP : Nat := 0x40000004

/-! TICK -/
def R.TICK_PERIOD : Nat := 0x40010000
def R.TICK_CTRL : Nat := 0x40010004
def R.TICK_STROBE : Nat := 0x40010008
def R.TICK_STROBE_WIDTH : Nat := 0x4001000C
def R.TICK_NUM_HI : Nat := 0x40010014
def R.TICK_NUM_LO : Nat := 0x40010010
def R.TICK_PHASE : Nat := 0x40010018
def R.TICK_STATUS : Nat := 0x4001001C
def R.TICK_FCNT0 : Nat := 0x40010020
def R.TICK_FCNT1 : Nat := 0x40010024
def R.TICK_FAULT_TICK_HI : Nat := 0x4001002C
def R.TICK_FAULT_TICK_LO : Nat := 0x40010028
def R.TICK_HWM : Nat := 0x40010030
def R.TICK_LOAD : Nat := 0x40010034

/-! PRISM -/
def R.PRISM_CTRL : Nat := 0x40040000
def R.PRISM_GRID : Nat := 0x40040004
def R.PRISM_VOTE : Nat := 0x40040008
def R.PRISM_PRIOR : Nat := 0x4004000C
def R.PRISM_EST : Nat := 0x40040010
def R.PRISM_MASKCFG : Nat := 0x40040014
def R.PRISM_STATUS : Nat := 0x40040018
def R.PRISM_VALID : Nat := 0x4004001C
def R.PRISM_VOTED : Nat := 0x40040020
def R.PRISM_MASKED : Nat := 0x40040024
def R.PRISM_SLIPPED : Nat := 0x40040028
def R.PRISM_TBL_FAIL : Nat := 0x4004002C
def R.PRISM_PRED_N : Nat := 0x40040030
def R.PRISM_PRED_E : Nat := 0x40040034
def R.PRISM_PRED_HDG : Nat := 0x40040038
def R.PRISM_CENTRE_N : Nat := 0x4004003C
def R.PRISM_CENTRE_E : Nat := 0x40040040
def R.PRISM_RES_TICK_HI : Nat := 0x40040048
def R.PRISM_RES_TICK_LO : Nat := 0x40040044
def R.PRISM_SCFG (n : Nat) : Nat := 0x40040100 + 0x10 * n
def R.PRISM_STIME (n : Nat) : Nat := 0x40040104 + 0x10 * n
def R.PRISM_SCONF (n : Nat) : Nat := 0x40040108 + 0x10 * n
def R.PRISM_SSTAT (n : Nat) : Nat := 0x4004010C + 0x10 * n

/-! FILT -/
def R.FILT_FB_CTRL : Nat := 0x40050000
def R.FILT_FB_GATE : Nat := 0x40050004
def R.FILT_FB_NOISE : Nat := 0x40050008
def R.FILT_FB_STATUS : Nat := 0x4005000C
def R.FILT_FB_HWM : Nat := 0x40050010
def R.FILT_OVLD : Nat := 0x40050014
def R.FILT_WARM : Nat := 0x40050018
def R.FILT_CH (n : Nat) : Nat := 0x40050100 + 0x10 * n
def R.FILT_GL (n : Nat) : Nat := 0x40050104 + 0x10 * n
def R.FILT_GD (n : Nat) : Nat := 0x40050108 + 0x10 * n
def R.FILT_STAT (n : Nat) : Nat := 0x4005010C + 0x10 * n
def R.FILT_OUT (n : Nat) : Nat := 0x40050280 + 0x4 * n
def R.FILT_DGL (u : Nat) : Nat := 0x40050300 + 0x10 * u
def R.FILT_DTHR (u : Nat) : Nat := 0x40050304 + 0x10 * u
def R.FILT_DSTAT (u : Nat) : Nat := 0x40050308 + 0x10 * u

/-! CML -/
def R.CML_STATUS : Nat := 0x40020000
def R.CML_EXC : Nat := 0x40020004
def R.CML_EXC_PC : Nat := 0x40020008
def R.CML_DBG : Nat := 0x4002000C
def R.CML_PTBASE : Nat := 0x40020010
def R.CML_PTCNT : Nat := 0x40020014
def R.CML_STAMP_HI : Nat := 0x4002001C
def R.CML_STAMP_LO : Nat := 0x40020018
def R.CML_DIRTY : Nat := 0x40020020
def R.CML_TRIG : Nat := 0x40020024
def R.CML_CORE (n : Nat) : Nat := 0x40020040 + 0x4 * n
def R.CML_BP (n : Nat) : Nat := 0x40020080 + 0x4 * n
def R.CML_TCFG (c : Nat) : Nat := 0x40021000 + 0x10 * c
def R.CML_TPER (c : Nat) : Nat := 0x40021004 + 0x10 * c
def R.CML_TENT (c : Nat) : Nat := 0x40021008 + 0x10 * c
def R.CML_TSTAT (c : Nat) : Nat := 0x4002100C + 0x10 * c

/-! PRG -/
def R.PRG_CMD : Nat := 0x40030000
def R.PRG_MODE : Nat := 0x40030004
def R.PRG_HOLD_OWN : Nat := 0x4003000C
def R.PRG_CTRL : Nat := 0x40030008
def R.PRG_STATUS : Nat := 0x40030010
def R.PRG_ROLES : Nat := 0x40030014
def R.PRG_LIT_VER : Nat := 0x40030018
def R.PRG_SHADE_VER : Nat := 0x4003001C
def R.PRG_CAND_VER : Nat := 0x40030020
def R.PRG_TRIAL_CNT : Nat := 0x40030024
def R.PRG_CKPT : Nat := 0x40030028
def R.PRG_XCHG : Nat := 0x4003002C

/-! AZS -/
def R.AZS_CTRL : Nat := 0x40060000
def R.AZS_STATUS : Nat := 0x40060004
def R.AZS_ADM_WCC : Nat := 0x40060008
def R.AZS_ADM_LIM : Nat := 0x4006000C
def R.AZS_ADM_INFO : Nat := 0x40060010
def R.AZS_PIVOT_EPS : Nat := 0x40060014
def R.AZS_DELTA : Nat := 0x40060018
def R.AZS_LAST : Nat := 0x4006001C
def R.AZS_CONT : Nat := 0x40060020
def R.AZS_DLM_CNT : Nat := 0x40060024
def R.AZS_FAIL_CNT : Nat := 0x40060028
def R.AZS_DLM_PROB : Nat := 0x4006002C
def R.AZS_DLM_TICK_HI : Nat := 0x40060034
def R.AZS_DLM_TICK_LO : Nat := 0x40060030
def R.AZS_POL (c : Nat) : Nat := 0x40060040 + 0x8 * c
def R.AZS_POLR (c : Nat) : Nat := 0x40060044 + 0x8 * c

/-! SHD -/
def R.SHD_CTRL : Nat := 0x40070000
def R.SHD_STATUS : Nat := 0x40070004
def R.SHD_ACTIVE : Nat := 0x40070008
def R.SHD_DETECT : Nat := 0x4007000C
def R.SHD_REBASE : Nat := 0x40070010
def R.SHD_ABSORB_LO : Nat := 0x40070014
def R.SHD_ABSORB_HI : Nat := 0x40070018
def R.SHD_BASE_LO : Nat := 0x4007001C
def R.SHD_BASE_HI : Nat := 0x40070020
def R.SHD_PROMO_TICK_HI : Nat := 0x40070028
def R.SHD_PROMO_TICK_LO : Nat := 0x40070024
def R.SHD_LASTDET : Nat := 0x4007002C
def R.SHD_PEND (i : Nat) : Nat := 0x40070040 + 0x4 * i
def R.SHD_WSE_POS : Nat := 0x40070030
def R.SHD_WSE_HDG : Nat := 0x40070034
def R.SHD_WSE_INFO : Nat := 0x40070038
def R.SHD_CNT : Nat := 0x4007003C
def R.SHD_SCEN (s : Nat) : Nat := 0x40070100 + 0x4 * s
def R.SHD_MAP (d : Nat) : Nat := 0x40070400 + 0x4 * d

/-! LOOP -/
def R.LOOP_STATUS : Nat := 0x40080000
def R.LOOP_GPIO_DIR_LO : Nat := 0x40080004
def R.LOOP_GPIO_DIR_HI : Nat := 0x40080008
def R.LOOP_GPIO_CMD_LO : Nat := 0x4008000C
def R.LOOP_GPIO_CMD_HI : Nat := 0x40080010
def R.LOOP_GPIO_OUT_LO : Nat := 0x40080014
def R.LOOP_GPIO_OUT_HI : Nat := 0x40080018
def R.LOOP_GPIO_SUB_LO : Nat := 0x4008001C
def R.LOOP_GPIO_SUB_HI : Nat := 0x40080020
def R.LOOP_GPIO_HOLD_LO : Nat := 0x40080024
def R.LOOP_GPIO_HOLD_HI : Nat := 0x40080028
def R.LOOP_GPIO_IN_LO : Nat := 0x4008002C
def R.LOOP_GPIO_IN_HI : Nat := 0x40080030
def R.LOOP_AOCFG (a : Nat) : Nat := 0x40080040 + 0x8 * a
def R.LOOP_AO (a : Nat) : Nat := 0x40080044 + 0x8 * a
def R.LOOP_PCFG (p : Nat) : Nat := 0x40080100 + 0x10 * p
def R.LOOP_PCNT (p : Nat) : Nat := 0x40080104 + 0x10 * p
def R.LOOP_PRATE (p : Nat) : Nat := 0x40080108 + 0x10 * p
def R.LOOP_PIDX (p : Nat) : Nat := 0x4008010C + 0x10 * p

/-! PAIR -/
def R.PAIR_CTRL : Nat := 0x400D0000
def R.PAIR_ECL : Nat := 0x400D0004
def R.PAIR_STATUS : Nat := 0x400D0008
def R.PAIR_CKPT : Nat := 0x400D000C
def R.PAIR_CKPT_TICK_HI : Nat := 0x400D0014
def R.PAIR_CKPT_TICK_LO : Nat := 0x400D0010
def R.PAIR_HEALTH_HI : Nat := 0x400D001C
def R.PAIR_HEALTH_LO : Nat := 0x400D0018
def R.PAIR_PHEALTH_HI : Nat := 0x400D0024
def R.PAIR_PHEALTH_LO : Nat := 0x400D0020
def R.PAIR_TIME : Nat := 0x400D0028
def R.PAIR_LINK : Nat := 0x400D002C
def R.PAIR_MIR_BASE : Nat := 0x400D0030
def R.PAIR_MIR_CNT : Nat := 0x400D0034
def R.PAIR_STEST : Nat := 0x400D0038
def R.PAIR_GNSS : Nat := 0x400D003C

/-! REC -/
def R.REC_CTRL : Nat := 0x400F0000
def R.REC_STATUS : Nat := 0x400F0004
def R.REC_NEXT_LO : Nat := 0x400F0008
def R.REC_NEXT_HI : Nat := 0x400F000C
def R.REC_USED : Nat := 0x400F0010
def R.REC_DROP_FULL : Nat := 0x400F0014
def R.REC_DROP_Q : Nat := 0x400F0018
def R.REC_SUPPR : Nat := 0x400F001C
def R.REC_RLDSUP : Nat := 0x400F1004
def R.REC_RLSUP (c : Nat) : Nat := 0x400F4000 + 0x4 * c
def R.REC_OPSEC_LO : Nat := 0x400F0020
def R.REC_OPSEC_HI : Nat := 0x400F0024
def R.REC_PCYC : Nat := 0x400F0028
def R.REC_SNAP : Nat := 0x400F0030
def R.REC_SNAP_FIRST_LO : Nat := 0x400F0034
def R.REC_SNAP_FIRST_HI : Nat := 0x400F0038
def R.REC_SNAP_LAST_LO : Nat := 0x400F003C
def R.REC_SNAP_LAST_HI : Nat := 0x400F0040
def R.REC_SNAP_BUF : Nat := 0x400F0044
def R.REC_CLR_CMD : Nat := 0x400F0050
def R.REC_CHAL : Nat := 0x400F0054
def R.REC_RESP : Nat := 0x400F0058
def R.REC_RD_SEQ_LO : Nat := 0x400F0080
def R.REC_RD_SEQ_HI : Nat := 0x400F0084
def R.REC_RD_STAT : Nat := 0x400F0088
def R.REC_RD_DATA (k : Nat) : Nat := 0x400F00C0 + 0x4 * k
def R.REC_SUB_PAY (k : Nat) : Nat := 0x400F0100 + 0x4 * k
def R.REC_SUB_CODE : Nat := 0x400F0120
def R.REC_SUB_STAT : Nat := 0x400F0124
def R.REC_RLDEF : Nat := 0x400F1000
def R.REC_RLPAR (c : Nat) : Nat := 0x400F2004 + 0x8 * c
def R.REC_RLCODE (c : Nat) : Nat := 0x400F2000 + 0x8 * c

/-! IRQ -/
def R.IRQ_CTRL : Nat := 0x400E0000
def R.IRQ_STATUS : Nat := 0x400E0004
def R.IRQ_TGTEN : Nat := 0x400E0008
def R.IRQ_HOSTLVL : Nat := 0x400E000C
def R.IRQ_PARTLVL : Nat := 0x400E0010
def R.IRQ_SWSET : Nat := 0x400E0014
def R.IRQ_ORPHAN : Nat := 0x400E0018
def R.IRQ_LVL (t : Nat) : Nat := 0x400E0040 + 0x4 * t
def R.IRQ_MASK (i : Nat) : Nat := 0x400E0080 + 0x4 * i
def R.IRQ_PEND (i : Nat) : Nat := 0x400E00A0 + 0x4 * i
def R.IRQ_RACE (i : Nat) : Nat := 0x400E00C0 + 0x4 * i
def R.IRQ_AON (i : Nat) : Nat := 0x400E00E0 + 0x4 * i
def R.IRQ_STSRC (t : Nat) : Nat := 0x400E0200 + 0x20 * t
def R.IRQ_STMFR (t : Nat) : Nat := 0x400E0204 + 0x20 * t
def R.IRQ_STTFR (t : Nat) : Nat := 0x400E0210 + 0x20 * t
def R.IRQ_STMLO (t : Nat) : Nat := 0x400E0208 + 0x20 * t
def R.IRQ_STTLO (t : Nat) : Nat := 0x400E0214 + 0x20 * t
def R.IRQ_STMHI (t : Nat) : Nat := 0x400E020C + 0x20 * t
def R.IRQ_STTHI (t : Nat) : Nat := 0x400E0218 + 0x20 * t
def R.IRQ_CFG (s : Nat) : Nat := 0x400E1000 + 0x8 * s
def R.IRQ_COAL (s : Nat) : Nat := 0x400E1004 + 0x8 * s

/-! TIME -/
def R.TIME_CTRL : Nat := 0x400A0000
def R.TIME_STATUS : Nat := 0x400A0004
def R.TIME_QUAL : Nat := 0x400A0008
def R.TIME_CMD : Nat := 0x400A000C
def R.TIME_DISC : Nat := 0x400A0010
def R.TIME_SLEW_MAX : Nat := 0x400A0014
def R.TIME_HOCOEF : Nat := 0x400A0018
def R.TIME_BEACON : Nat := 0x400A001C
def R.TIME_OFFSET : Nat := 0x400A0020
def R.TIME_SET_FRAC : Nat := 0x400A0024
def R.TIME_SET_SECLO : Nat := 0x400A0028
def R.TIME_SET_SECHI : Nat := 0x400A002C
def R.TIME_SET_ERR : Nat := 0x400A0030
def R.TIME_SNAP : Nat := 0x400A0040
def R.TIME_FRAC (b : Nat) : Nat := 0x400A0100 + 0x20 * b
def R.TIME_SECLO (b : Nat) : Nat := 0x400A0104 + 0x20 * b
def R.TIME_SECHI (b : Nat) : Nat := 0x400A0108 + 0x20 * b
def R.TIME_INCLO (b : Nat) : Nat := 0x400A010C + 0x20 * b
def R.TIME_INCHI (b : Nat) : Nat := 0x400A0110 + 0x20 * b
def R.TIME_SNFR (b : Nat) : Nat := 0x400A0114 + 0x20 * b
def R.TIME_SNLO (b : Nat) : Nat := 0x400A0118 + 0x20 * b
def R.TIME_SNHI (b : Nat) : Nat := 0x400A011C + 0x20 * b
def R.TIME_LEAPLO (k : Nat) : Nat := 0x400A0400 + 0x10 * k
def R.TIME_LEAPHI (k : Nat) : Nat := 0x400A0404 + 0x10 * k
def R.TIME_LEAPOFF (k : Nat) : Nat := 0x400A0408 + 0x10 * k

/-! GNSS -/
def R.GNSS_CTRL : Nat := 0x40090000
def R.GNSS_CMD : Nat := 0x40090004
def R.GNSS_STATUS : Nat := 0x40090008
def R.GNSS_TTFF : Nat := 0x4009000C
def R.GNSS_CHK : Nat := 0x40090010
def R.GNSS_CHK_SEEN : Nat := 0x40090014
def R.GNSS_CHKCFG : Nat := 0x40090018
def R.GNSS_CHKTOL : Nat := 0x4009001C
def R.GNSS_ACQ : Nat := 0x40090020
def R.GNSS_TUNC : Nat := 0x40090024
def R.GNSS_KEPT : Nat := 0x40090028
def R.GNSS_BL_X : Nat := 0x40090030
def R.GNSS_BL_Y : Nat := 0x40090034
def R.GNSS_BL_Z : Nat := 0x40090038
def R.GNSS_BL_CFG : Nat := 0x4009003C
def R.GNSS_ANT0_X : Nat := 0x40090040
def R.GNSS_ANT0_Y : Nat := 0x40090044
def R.GNSS_ANT0_Z : Nat := 0x40090048
def R.GNSS_VREF_N : Nat := 0x40090050
def R.GNSS_VREF_E : Nat := 0x40090054
def R.GNSS_VREF_D : Nat := 0x40090058
def R.GNSS_VREF_ATT : Nat := 0x4009005C
def R.GNSS_VREF_HDG : Nat := 0x40090060
def R.GNSS_TRK (c : Nat) : Nat := 0x40090070 + 0x4 * c
def R.GNSS_AGC (c : Nat) : Nat := 0x40090078 + 0x4 * c

/-! CAN -/
def R.CAN_CTRL (k : Nat) : Nat := 0x400B0000 + 0x1000 * k
def R.CAN_NBT (k : Nat) : Nat := 0x400B0004 + 0x1000 * k
def R.CAN_DBT (k : Nat) : Nat := 0x400B0008 + 0x1000 * k
def R.CAN_STATUS (k : Nat) : Nat := 0x400B000C + 0x1000 * k
def R.CAN_ERR (k : Nat) : Nat := 0x400B0010 + 0x1000 * k
def R.CAN_CNT (k : Nat) : Nat := 0x400B0014 + 0x1000 * k
def R.CAN_TT (k : Nat) : Nat := 0x400B0018 + 0x1000 * k
def R.CAN_TTCYC (k : Nat) : Nat := 0x400B001C + 0x1000 * k
def R.CAN_TTSTAT (k : Nat) : Nat := 0x400B0020 + 0x1000 * k
def R.CAN_MRBASE (k : Nat) : Nat := 0x400B0024 + 0x1000 * k
def R.CAN_TXPEND (k : Nat) : Nat := 0x400B0028 + 0x1000 * k
def R.CAN_TXCANCEL (k : Nat) : Nat := 0x400B002C + 0x1000 * k
def R.CAN_MBNEW (k : Nat) : Nat := 0x400B0030 + 0x1000 * k
def R.CAN_MBOVR (k : Nat) : Nat := 0x400B0034 + 0x1000 * k
def R.CAN_FIFO (k : Nat) : Nat := 0x400B0038 + 0x1000 * k
def R.CAN_WAKE (k : Nat) : Nat := 0x400B003C + 0x1000 * k
def R.CAN_WAKE_ID (k : Nat) : Nat := 0x400B0040 + 0x1000 * k
def R.CAN_WAKE_IDM (k : Nat) : Nat := 0x400B0044 + 0x1000 * k
def R.CAN_WAKE_DLO (k : Nat) : Nat := 0x400B0048 + 0x1000 * k
def R.CAN_WAKE_DHI (k : Nat) : Nat := 0x400B004C + 0x1000 * k
def R.CAN_WAKE_DMLO (k : Nat) : Nat := 0x400B0050 + 0x1000 * k
def R.CAN_WAKE_DMHI (k : Nat) : Nat := 0x400B0054 + 0x1000 * k
def R.CAN_WTIME (k w : Nat) : Nat := 0x400B0100 + 0x1000 * k + 0x8 * w
def R.CAN_WENT (k w : Nat) : Nat := 0x400B0104 + 0x1000 * k + 0x8 * w
def R.CAN_FID (k f : Nat) : Nat := 0x400B0400 + 0x1000 * k + 0x10 * f
def R.CAN_FMSK (k f : Nat) : Nat := 0x400B0404 + 0x1000 * k + 0x10 * f
def R.CAN_FACT (k f : Nat) : Nat := 0x400B0408 + 0x1000 * k + 0x10 * f
def R.CAN_TXCFG (k b : Nat) : Nat := 0x400B0C00 + 0x1000 * k + 0x4 * b

/-! NET -/
def R.NET_CTRL : Nat := 0x400C0000
def R.NET_STATUS : Nat := 0x400C0004
def R.NET_PHYDLY : Nat := 0x400C0008
def R.NET_PCIE_WIN : Nat := 0x400C000C
def R.NET_PCIE_STAT : Nat := 0x400C0010
def R.NET_SERBASE : Nat := 0x400C0014
def R.NET_450BASE : Nat := 0x400C0018
def R.NET_450CNT : Nat := 0x400C001C
def R.NET_PRP (p : Nat) : Nat := 0x400C0100 + 0x20 * p
def R.NET_MACLO (p : Nat) : Nat := 0x400C0104 + 0x20 * p
def R.NET_MACHI (p : Nat) : Nat := 0x400C0108 + 0x20 * p
def R.NET_PRPCNT (p : Nat) : Nat := 0x400C010C + 0x20 * p
def R.NET_TXBASE (p : Nat) : Nat := 0x400C0110 + 0x20 * p
def R.NET_RXBASE (p : Nat) : Nat := 0x400C0118 + 0x20 * p
def R.NET_TXHT (p : Nat) : Nat := 0x400C0114 + 0x20 * p
def R.NET_RXHT (p : Nat) : Nat := 0x400C011C + 0x20 * p
def R.NET_SERCFG (k : Nat) : Nat := 0x400C0400 + 0x8 * k
def R.NET_SERSTAT (k : Nat) : Nat := 0x400C0404 + 0x8 * k
def R.NET_450GRP (j : Nat) : Nat := 0x400C0600 + 0x8 * j
def R.NET_450SFI (j : Nat) : Nat := 0x400C0604 + 0x8 * j
def R.GRZ_CTRL : Nat := 0x400C1000
def R.GRZ_STATUS : Nat := 0x400C1004
def R.GRZ_GRPOUT : Nat := 0x400C1008
def R.GRZ_GRPIN : Nat := 0x400C100C
def R.GRZ_PIBASE : Nat := 0x400C1010
def R.GRZ_SAFEBASE : Nat := 0x400C1014
def R.GRZ_SVCBASE : Nat := 0x400C1018
def R.GRZ_BURST : Nat := 0x400C101C
def R.GRZ_CNT : Nat := 0x400C1020
def R.GRZ_SVCREQ : Nat := 0x400C1024
def R.GRZ_SVCSEND : Nat := 0x400C1028
def R.GRZ_FAIL (i : Nat) : Nat := 0x400C1100 + 0x4 * i
def R.GRZ_SADR (n : Nat) : Nat := 0x400C8000 + 0x10 * n
def R.GRZ_SPI (n : Nat) : Nat := 0x400C8004 + 0x10 * n
def R.GRZ_SPO (n : Nat) : Nat := 0x400C8008 + 0x10 * n
def R.GRZ_SCFG (n : Nat) : Nat := 0x400C800C + 0x10 * n

/-! LAN -/
def R.LAN_CTRL : Nat := 0x40100000
def R.LAN_STATUS : Nat := 0x40100004
def R.LAN_GEOM : Nat := 0x40100008
def R.LAN_FBBASE : Nat := 0x4010000C
def R.LAN_REQ : Nat := 0x40100010
def R.LAN_QUEUE : Nat := 0x40100014
def R.LAN_CNT : Nat := 0x40100018
def R.LAN_TEMP : Nat := 0x4010001C
def R.LAN_TSCALE : Nat := 0x40100020
def R.LAN_TOFF : Nat := 0x40100024
def R.LAN_TNOW : Nat := 0x40100028
def R.LAN_TH_LO : Nat := 0x4010002C
def R.LAN_TH_HI : Nat := 0x40100030
def R.LAN_CRACK : Nat := 0x40100034
def R.LAN_DRV (b : Nat) : Nat := 0x40100040 + 0x4 * b
def R.LAN_ZONE (z : Nat) : Nat := 0x40100060 + 0x4 * z
def R.LAN_DIRTY (i : Nat) : Nat := 0x40100080 + 0x4 * i

/-! SYS -/
def R.SYS_RESET : Nat := 0x40000008
def R.SYS_STRAP : Nat := 0x4000000C
def R.SYS_PWR : Nat := 0x40000010
def R.SYS_CLK : Nat := 0x40000014
def R.SYS_TEMP : Nat := 0x40000018

/-! TMX -/
def R.TMX_CTRL : Nat := 0x40110000
def R.TMX_SEL (k : Nat) : Nat := 0x40110010 + 0x4 * k

/-! LOOP -/
def R.LOOP_CFG (e : Nat) : Nat := 0x40080400 + 0x40 * e
def R.LOOP_PER (e : Nat) : Nat := 0x40080404 + 0x40 * e
def R.LOOP_KP (e : Nat) : Nat := 0x40080408 + 0x40 * e
def R.LOOP_KI (e : Nat) : Nat := 0x4008040C + 0x40 * e
def R.LOOP_KD (e : Nat) : Nat := 0x40080410 + 0x40 * e
def R.LOOP_KF (e : Nat) : Nat := 0x40080414 + 0x40 * e
def R.LOOP_KB (e : Nat) : Nat := 0x40080418 + 0x40 * e
def R.LOOP_SPSC (e : Nat) : Nat := 0x4008041C + 0x40 * e
def R.LOOP_FBSC (e : Nat) : Nat := 0x40080420 + 0x40 * e
def R.LOOP_LIM (e : Nat) : Nat := 0x40080424 + 0x40 * e
def R.LOOP_SP (e : Nat) : Nat := 0x40080428 + 0x40 * e
def R.LOOP_TRK (e : Nat) : Nat := 0x4008042C + 0x40 * e
def R.LOOP_INT (e : Nat) : Nat := 0x40080430 + 0x40 * e
def R.LOOP_STAT (e : Nat) : Nat := 0x40080434 + 0x40 * e

/-! ## Register fields (the register tables of the chapters) -/

/-! SYS -/
def F.SYS_ID_DIE_STEP : Fld := ⟨R.SYS_ID, 31, 24⟩
def F.SYS_ID_PANEL : Fld := ⟨R.SYS_ID, 23, 16⟩
def F.SYS_ID_GNSS : Fld := ⟨R.SYS_ID, 15, 8⟩
def F.SYS_ID_GRADE : Fld := ⟨R.SYS_ID, 7, 0⟩
def F.SYS_CAP_LANTERN : Fld := ⟨R.SYS_CAP, 25, 25⟩
def F.SYS_CAP_SER_X : Fld := ⟨R.SYS_CAP, 24, 24⟩
def F.SYS_CAP_GNSS_CHAINS : Fld := ⟨R.SYS_CAP, 23, 22⟩
def F.SYS_CAP_SCEN_MAX : Fld := ⟨R.SYS_CAP, 21, 16⟩
def F.SYS_CAP_THR_MAX : Fld := ⟨R.SYS_CAP, 15, 8⟩
def F.SYS_CAP_LANES : Fld := ⟨R.SYS_CAP, 7, 0⟩

/-! TICK -/
def F.TICK_PERIOD_SEL : Fld := ⟨R.TICK_PERIOD, 1, 0⟩
def F.TICK_CTRL_FAULT_LIMIT : Fld := ⟨R.TICK_CTRL, 15, 8⟩
def F.TICK_CTRL_SOVR_REPEAT : Fld := ⟨R.TICK_CTRL, 1, 1⟩
def F.TICK_CTRL_CNT_CLR : Fld := ⟨R.TICK_CTRL, 0, 0⟩
def F.TICK_STROBE_POL : Fld := ⟨R.TICK_STROBE, 31, 16⟩
def F.TICK_STROBE_EN : Fld := ⟨R.TICK_STROBE, 15, 0⟩
def F.TICK_STROBE_WIDTH_WIDTH : Fld := ⟨R.TICK_STROBE_WIDTH, 7, 0⟩
def F.TICK_NUM_HI_NUM_HI : Fld := ⟨R.TICK_NUM_HI, 31, 0⟩
def F.TICK_NUM_LO_NUM_LO : Fld := ⟨R.TICK_NUM_LO, 31, 0⟩
def F.TICK_PHASE_OFFSET : Fld := ⟨R.TICK_PHASE, 23, 8⟩
def F.TICK_PHASE_PHASE : Fld := ⟨R.TICK_PHASE, 2, 0⟩
def F.TICK_STATUS_CONSEC : Fld := ⟨R.TICK_STATUS, 15, 8⟩
def F.TICK_STATUS_FAULT_STOP : Fld := ⟨R.TICK_STATUS, 4, 4⟩
def F.TICK_STATUS_KEEP_SPILL : Fld := ⟨R.TICK_STATUS, 3, 3⟩
def F.TICK_STATUS_SETTLE_OVR : Fld := ⟨R.TICK_STATUS, 2, 2⟩
def F.TICK_STATUS_DL_MISS : Fld := ⟨R.TICK_STATUS, 1, 1⟩
def F.TICK_STATUS_SCAN_OVR : Fld := ⟨R.TICK_STATUS, 0, 0⟩
def F.TICK_FCNT0_SOVR : Fld := ⟨R.TICK_FCNT0, 31, 16⟩
def F.TICK_FCNT0_DLM : Fld := ⟨R.TICK_FCNT0, 15, 0⟩
def F.TICK_FCNT1_SETOVR : Fld := ⟨R.TICK_FCNT1, 31, 16⟩
def F.TICK_FCNT1_KSPILL : Fld := ⟨R.TICK_FCNT1, 15, 0⟩
def F.TICK_FAULT_TICK_HI_FT_HI : Fld := ⟨R.TICK_FAULT_TICK_HI, 31, 0⟩
def F.TICK_FAULT_TICK_LO_FT_LO : Fld := ⟨R.TICK_FAULT_TICK_LO, 31, 0⟩
def F.TICK_HWM_SCAN : Fld := ⟨R.TICK_HWM, 31, 16⟩
def F.TICK_HWM_SETTLE : Fld := ⟨R.TICK_HWM, 15, 0⟩
def F.TICK_LOAD_PEAK : Fld := ⟨R.TICK_LOAD, 15, 8⟩
def F.TICK_LOAD_AVG : Fld := ⟨R.TICK_LOAD, 7, 0⟩

/-! PRISM -/
def F.PRISM_CTRL_EST_CLR : Fld := ⟨R.PRISM_CTRL, 3, 3⟩
def F.PRISM_CTRL_PRIOR_EN : Fld := ⟨R.PRISM_CTRL, 2, 2⟩
def F.PRISM_CTRL_HDG_EN : Fld := ⟨R.PRISM_CTRL, 1, 1⟩
def F.PRISM_CTRL_MAIN_EN : Fld := ⟨R.PRISM_CTRL, 0, 0⟩
def F.PRISM_GRID_CELL : Fld := ⟨R.PRISM_GRID, 5, 0⟩
def F.PRISM_VOTE_READMIT : Fld := ⟨R.PRISM_VOTE, 31, 24⟩
def F.PRISM_VOTE_PEAK2 : Fld := ⟨R.PRISM_VOTE, 23, 16⟩
def F.PRISM_VOTE_VOTE_OVL : Fld := ⟨R.PRISM_VOTE, 14, 0⟩
def F.PRISM_PRIOR_DECAY : Fld := ⟨R.PRISM_PRIOR, 30, 16⟩
def F.PRISM_PRIOR_FLOOR : Fld := ⟨R.PRISM_PRIOR, 15, 0⟩
def F.PRISM_EST_EST_GATE : Fld := ⟨R.PRISM_EST, 15, 8⟩
def F.PRISM_MASKCFG_UNMASK : Fld := ⟨R.PRISM_MASKCFG, 23, 16⟩
def F.PRISM_MASKCFG_SPIKE_LIM : Fld := ⟨R.PRISM_MASKCFG, 15, 8⟩
def F.PRISM_STATUS_HDG_CNT : Fld := ⟨R.PRISM_STATUS, 31, 24⟩
def F.PRISM_STATUS_POS_CNT : Fld := ⟨R.PRISM_STATUS, 23, 16⟩
def F.PRISM_STATUS_MAIN_ACTIVE : Fld := ⟨R.PRISM_STATUS, 15, 15⟩
def F.PRISM_STATUS_PRED_STALE : Fld := ⟨R.PRISM_STATUS, 12, 12⟩
def F.PRISM_STATUS_EDGE : Fld := ⟨R.PRISM_STATUS, 11, 11⟩
def F.PRISM_STATUS_FLAT : Fld := ⟨R.PRISM_STATUS, 10, 10⟩
def F.PRISM_STATUS_CONS_FAIL : Fld := ⟨R.PRISM_STATUS, 9, 9⟩
def F.PRISM_STATUS_TBL_FAIL : Fld := ⟨R.PRISM_STATUS, 8, 8⟩
def F.PRISM_STATUS_SPLIT_HDG : Fld := ⟨R.PRISM_STATUS, 5, 5⟩
def F.PRISM_STATUS_SPLIT_POS : Fld := ⟨R.PRISM_STATUS, 4, 4⟩
def F.PRISM_STATUS_SPLIT_SEEN : Fld := ⟨R.PRISM_STATUS, 3, 3⟩
def F.PRISM_STATUS_HDG_EST : Fld := ⟨R.PRISM_STATUS, 2, 2⟩
def F.PRISM_STATUS_POS_EST : Fld := ⟨R.PRISM_STATUS, 1, 1⟩
def F.PRISM_STATUS_RES_VALID : Fld := ⟨R.PRISM_STATUS, 0, 0⟩
def F.PRISM_VALID_VALID : Fld := ⟨R.PRISM_VALID, 23, 0⟩
def F.PRISM_VOTED_VOTED : Fld := ⟨R.PRISM_VOTED, 11, 0⟩
def F.PRISM_MASKED_MASKED : Fld := ⟨R.PRISM_MASKED, 23, 0⟩
def F.PRISM_SLIPPED_SLIPPED : Fld := ⟨R.PRISM_SLIPPED, 23, 0⟩
def F.PRISM_TBL_FAIL_TFAIL : Fld := ⟨R.PRISM_TBL_FAIL, 23, 0⟩
def F.PRISM_PRED_N_PN : Fld := ⟨R.PRISM_PRED_N, 31, 0⟩
def F.PRISM_PRED_E_PE : Fld := ⟨R.PRISM_PRED_E, 31, 0⟩
def F.PRISM_PRED_HDG_PH : Fld := ⟨R.PRISM_PRED_HDG, 15, 0⟩
def F.PRISM_CENTRE_N_CN : Fld := ⟨R.PRISM_CENTRE_N, 31, 0⟩
def F.PRISM_CENTRE_E_CE : Fld := ⟨R.PRISM_CENTRE_E, 31, 0⟩
def F.PRISM_RES_TICK_HI_RT_HI : Fld := ⟨R.PRISM_RES_TICK_HI, 31, 0⟩
def F.PRISM_RES_TICK_LO_RT_LO : Fld := ⟨R.PRISM_RES_TICK_LO, 31, 0⟩
def F.PRISM_SCFG_EN (n : Nat) : Fld := ⟨(R.PRISM_SCFG n), 31, 31⟩
def F.PRISM_SCFG_TIMING (n : Nat) : Fld := ⟨(R.PRISM_SCFG n), 30, 29⟩
def F.PRISM_SCFG_GROUP (n : Nat) : Fld := ⟨(R.PRISM_SCFG n), 28, 26⟩
def F.PRISM_SCFG_KIND (n : Nat) : Fld := ⟨(R.PRISM_SCFG n), 25, 22⟩
def F.PRISM_SCFG_WIN (n : Nat) : Fld := ⟨(R.PRISM_SCFG n), 21, 16⟩
def F.PRISM_SCFG_SRC (n : Nat) : Fld := ⟨(R.PRISM_SCFG n), 15, 8⟩
def F.PRISM_SCFG_STALE (n : Nat) : Fld := ⟨(R.PRISM_SCFG n), 7, 0⟩
def F.PRISM_STIME_PERIOD (n : Nat) : Fld := ⟨(R.PRISM_STIME n), 31, 16⟩
def F.PRISM_STIME_DELAY (n : Nat) : Fld := ⟨(R.PRISM_STIME n), 15, 0⟩
def F.PRISM_SCONF_EFF (n : Nat) : Fld := ⟨(R.PRISM_SCONF n), 30, 16⟩
def F.PRISM_SCONF_CONF (n : Nat) : Fld := ⟨(R.PRISM_SCONF n), 14, 0⟩
def F.PRISM_SSTAT_AGE (n : Nat) : Fld := ⟨(R.PRISM_SSTAT n), 31, 24⟩
def F.PRISM_SSTAT_SLIPS (n : Nat) : Fld := ⟨(R.PRISM_SSTAT n), 23, 16⟩
def F.PRISM_SSTAT_OVL (n : Nat) : Fld := ⟨(R.PRISM_SSTAT n), 14, 0⟩

/-! FILT -/
def F.FILT_FB_CTRL_RETURN : Fld := ⟨R.FILT_FB_CTRL, 15, 8⟩
def F.FILT_FB_CTRL_FORCE : Fld := ⟨R.FILT_FB_CTRL, 2, 2⟩
def F.FILT_FB_CTRL_CORE : Fld := ⟨R.FILT_FB_CTRL, 1, 1⟩
def F.FILT_FB_CTRL_FB_EN : Fld := ⟨R.FILT_FB_CTRL, 0, 0⟩
def F.FILT_FB_GATE_AGREE : Fld := ⟨R.FILT_FB_GATE, 15, 8⟩
def F.FILT_FB_GATE_GATE : Fld := ⟨R.FILT_FB_GATE, 7, 0⟩
def F.FILT_FB_NOISE_QPOS : Fld := ⟨R.FILT_FB_NOISE, 31, 16⟩
def F.FILT_FB_NOISE_QHDG : Fld := ⟨R.FILT_FB_NOISE, 15, 0⟩
def F.FILT_FB_STATUS_RET_CNT : Fld := ⟨R.FILT_FB_STATUS, 31, 24⟩
def F.FILT_FB_STATUS_FB_ACTIVE : Fld := ⟨R.FILT_FB_STATUS, 8, 8⟩
def F.FILT_FB_STATUS_FB_LATE : Fld := ⟨R.FILT_FB_STATUS, 7, 7⟩
def F.FILT_FB_STATUS_FB_NOREF : Fld := ⟨R.FILT_FB_STATUS, 6, 6⟩
def F.FILT_FB_STATUS_CAUSE_FORCE : Fld := ⟨R.FILT_FB_STATUS, 3, 3⟩
def F.FILT_FB_STATUS_CAUSE_CONS : Fld := ⟨R.FILT_FB_STATUS, 2, 2⟩
def F.FILT_FB_STATUS_CAUSE_TBL : Fld := ⟨R.FILT_FB_STATUS, 1, 1⟩
def F.FILT_FB_STATUS_CAUSE_DIS : Fld := ⟨R.FILT_FB_STATUS, 0, 0⟩
def F.FILT_FB_HWM_CLR : Fld := ⟨R.FILT_FB_HWM, 31, 31⟩
def F.FILT_FB_HWM_RUN : Fld := ⟨R.FILT_FB_HWM, 15, 0⟩
def F.FILT_OVLD_OVLD : Fld := ⟨R.FILT_OVLD, 23, 0⟩
def F.FILT_WARM_WARM : Fld := ⟨R.FILT_WARM, 23, 0⟩
def F.FILT_CH_EN (n : Nat) : Fld := ⟨(R.FILT_CH n), 31, 31⟩
def F.FILT_CH_PHASE (n : Nat) : Fld := ⟨(R.FILT_CH n), 30, 30⟩
def F.FILT_CH_RATIO (n : Nat) : Fld := ⟨(R.FILT_CH n), 12, 0⟩
def F.FILT_GL_EN (n : Nat) : Fld := ⟨(R.FILT_GL n), 31, 31⟩
def F.FILT_GL_W (n : Nat) : Fld := ⟨(R.FILT_GL n), 30, 27⟩
def F.FILT_GL_RANK (n : Nat) : Fld := ⟨(R.FILT_GL n), 26, 23⟩
def F.FILT_GL_SPIKE_THR (n : Nat) : Fld := ⟨(R.FILT_GL n), 22, 0⟩
def F.FILT_GD_GD (n : Nat) : Fld := ⟨(R.FILT_GD n), 31, 0⟩
def F.FILT_STAT_SPIKES (n : Nat) : Fld := ⟨(R.FILT_STAT n), 31, 24⟩
def F.FILT_STAT_FILLING (n : Nat) : Fld := ⟨(R.FILT_STAT n), 3, 3⟩
def F.FILT_STAT_WARMING (n : Nat) : Fld := ⟨(R.FILT_STAT n), 2, 2⟩
def F.FILT_STAT_OVLD (n : Nat) : Fld := ⟨(R.FILT_STAT n), 1, 1⟩
def F.FILT_STAT_RSTRT (n : Nat) : Fld := ⟨(R.FILT_STAT n), 0, 0⟩
def F.FILT_OUT_OUT (n : Nat) : Fld := ⟨(R.FILT_OUT n), 31, 0⟩
def F.FILT_DGL_EN (u : Nat) : Fld := ⟨(R.FILT_DGL u), 31, 31⟩
def F.FILT_DGL_W (u : Nat) : Fld := ⟨(R.FILT_DGL u), 30, 27⟩
def F.FILT_DGL_RANK (u : Nat) : Fld := ⟨(R.FILT_DGL u), 26, 23⟩
def F.FILT_DGL_STREAM (u : Nat) : Fld := ⟨(R.FILT_DGL u), 4, 0⟩
def F.FILT_DTHR_THR (u : Nat) : Fld := ⟨(R.FILT_DTHR u), 31, 0⟩
def F.FILT_DSTAT_SPIKES (u : Nat) : Fld := ⟨(R.FILT_DSTAT u), 31, 24⟩
def F.FILT_DSTAT_WARMING (u : Nat) : Fld := ⟨(R.FILT_DSTAT u), 2, 2⟩
def F.FILT_DSTAT_CONFLICT (u : Nat) : Fld := ⟨(R.FILT_DSTAT u), 1, 1⟩
def F.FILT_DSTAT_KINDERR (u : Nat) : Fld := ⟨(R.FILT_DSTAT u), 0, 0⟩

/-! CML -/
def F.CML_STATUS_ENABLED : Fld := ⟨R.CML_STATUS, 23, 16⟩
def F.CML_STATUS_SCAN_PEND : Fld := ⟨R.CML_STATUS, 15, 8⟩
def F.CML_STATUS_SETTLE_PEND : Fld := ⟨R.CML_STATUS, 7, 0⟩
def F.CML_EXC_CTX : Fld := ⟨R.CML_EXC, 31, 24⟩
def F.CML_EXC_CAUSE : Fld := ⟨R.CML_EXC, 23, 16⟩
def F.CML_EXC_COUNT : Fld := ⟨R.CML_EXC, 15, 8⟩
def F.CML_EXC_VALID : Fld := ⟨R.CML_EXC, 0, 0⟩
def F.CML_EXC_PC_PC : Fld := ⟨R.CML_EXC_PC, 22, 0⟩
def F.CML_DBG_RESUME : Fld := ⟨R.CML_DBG, 31, 31⟩
def F.CML_DBG_STEP : Fld := ⟨R.CML_DBG, 30, 30⟩
def F.CML_DBG_CTX : Fld := ⟨R.CML_DBG, 7, 0⟩
def F.CML_PTBASE_BASE : Fld := ⟨R.CML_PTBASE, 21, 0⟩
def F.CML_PTCNT_COUNT : Fld := ⟨R.CML_PTCNT, 14, 0⟩
def F.CML_STAMP_HI_ST_HI : Fld := ⟨R.CML_STAMP_HI, 31, 0⟩
def F.CML_STAMP_LO_ST_LO : Fld := ⟨R.CML_STAMP_LO, 31, 0⟩
def F.CML_DIRTY_RELEVANT : Fld := ⟨R.CML_DIRTY, 31, 16⟩
def F.CML_DIRTY_DIRTY : Fld := ⟨R.CML_DIRTY, 15, 0⟩
def F.CML_TRIG_CTX : Fld := ⟨R.CML_TRIG, 7, 0⟩
def F.CML_CORE_IDLE (n : Nat) : Fld := ⟨(R.CML_CORE n), 24, 24⟩
def F.CML_CORE_CTX (n : Nat) : Fld := ⟨(R.CML_CORE n), 23, 16⟩
def F.CML_CORE_PRIO (n : Nat) : Fld := ⟨(R.CML_CORE n), 15, 12⟩
def F.CML_CORE_BUSY (n : Nat) : Fld := ⟨(R.CML_CORE n), 7, 0⟩
def F.CML_BP_EN (n : Nat) : Fld := ⟨(R.CML_BP n), 31, 31⟩
def F.CML_BP_CTX (n : Nat) : Fld := ⟨(R.CML_BP n), 30, 23⟩
def F.CML_BP_PC (n : Nat) : Fld := ⟨(R.CML_BP n), 22, 0⟩
def F.CML_TCFG_EN (c : Nat) : Fld := ⟨(R.CML_TCFG c), 31, 31⟩
def F.CML_TCFG_CORE (c : Nat) : Fld := ⟨(R.CML_TCFG c), 30, 28⟩
def F.CML_TCFG_PHASE (c : Nat) : Fld := ⟨(R.CML_TCFG c), 27, 26⟩
def F.CML_TCFG_EXC_ACT (c : Nat) : Fld := ⟨(R.CML_TCFG c), 25, 24⟩
def F.CML_TCFG_PRIO (c : Nat) : Fld := ⟨(R.CML_TCFG c), 23, 20⟩
def F.CML_TCFG_TRIG (c : Nat) : Fld := ⟨(R.CML_TCFG c), 19, 18⟩
def F.CML_TCFG_AFTER_EN (c : Nat) : Fld := ⟨(R.CML_TCFG c), 16, 16⟩
def F.CML_TCFG_AFTER (c : Nat) : Fld := ⟨(R.CML_TCFG c), 15, 8⟩
def F.CML_TCFG_SRC (c : Nat) : Fld := ⟨(R.CML_TCFG c), 7, 0⟩
def F.CML_TPER_PERIOD (c : Nat) : Fld := ⟨(R.CML_TPER c), 31, 16⟩
def F.CML_TPER_OFFSET (c : Nat) : Fld := ⟨(R.CML_TPER c), 15, 0⟩
def F.CML_TENT_INST (c : Nat) : Fld := ⟨(R.CML_TENT c), 15, 0⟩
def F.CML_TSTAT_RUN_US (c : Nat) : Fld := ⟨(R.CML_TSTAT c), 31, 16⟩
def F.CML_TSTAT_EXC (c : Nat) : Fld := ⟨(R.CML_TSTAT c), 15, 8⟩
def F.CML_TSTAT_DONE (c : Nat) : Fld := ⟨(R.CML_TSTAT c), 7, 7⟩
def F.CML_TSTAT_STOPPED (c : Nat) : Fld := ⟨(R.CML_TSTAT c), 6, 6⟩
def F.CML_TSTAT_SUSP (c : Nat) : Fld := ⟨(R.CML_TSTAT c), 5, 5⟩
def F.CML_TSTAT_MERGED (c : Nat) : Fld := ⟨(R.CML_TSTAT c), 4, 3⟩
def F.CML_TSTAT_STATE (c : Nat) : Fld := ⟨(R.CML_TSTAT c), 2, 0⟩

/-! PRG -/
def F.PRG_CMD_KEY : Fld := ⟨R.PRG_CMD, 31, 16⟩
def F.PRG_CMD_CMD : Fld := ⟨R.PRG_CMD, 3, 0⟩
def F.PRG_MODE_STOP_CAUSE : Fld := ⟨R.PRG_MODE, 15, 8⟩
def F.PRG_MODE_PEND : Fld := ⟨R.PRG_MODE, 7, 4⟩
def F.PRG_MODE_MODE : Fld := ⟨R.PRG_MODE, 1, 0⟩
def F.PRG_HOLD_OWN_OWN : Fld := ⟨R.PRG_HOLD_OWN, 0, 0⟩
def F.PRG_CTRL_TRIAL_TICKS : Fld := ⟨R.PRG_CTRL, 31, 16⟩
def F.PRG_CTRL_CKPT_PERIOD : Fld := ⟨R.PRG_CTRL, 15, 8⟩
def F.PRG_CTRL_STOP_FRAMES : Fld := ⟨R.PRG_CTRL, 1, 1⟩
def F.PRG_CTRL_RB_RUN_EN : Fld := ⟨R.PRG_CTRL, 0, 0⟩
def F.PRG_STATUS_FAILS : Fld := ⟨R.PRG_STATUS, 31, 24⟩
def F.PRG_STATUS_REFUSE : Fld := ⟨R.PRG_STATUS, 23, 16⟩
def F.PRG_STATUS_NO_IMAGE : Fld := ⟨R.PRG_STATUS, 8, 8⟩
def F.PRG_STATUS_CKPT_FIT : Fld := ⟨R.PRG_STATUS, 7, 7⟩
def F.PRG_STATUS_CKPT_VALID : Fld := ⟨R.PRG_STATUS, 6, 6⟩
def F.PRG_STATUS_AUTO_RB : Fld := ⟨R.PRG_STATUS, 5, 5⟩
def F.PRG_STATUS_TRIAL : Fld := ⟨R.PRG_STATUS, 4, 4⟩
def F.PRG_STATUS_STAGED : Fld := ⟨R.PRG_STATUS, 3, 3⟩
def F.PRG_STATUS_STAGING : Fld := ⟨R.PRG_STATUS, 2, 2⟩
def F.PRG_STATUS_BANK : Fld := ⟨R.PRG_STATUS, 1, 1⟩
def F.PRG_STATUS_REFUSED : Fld := ⟨R.PRG_STATUS, 0, 0⟩
def F.PRG_ROLES_CAND : Fld := ⟨R.PRG_ROLES, 5, 4⟩
def F.PRG_ROLES_SHADE : Fld := ⟨R.PRG_ROLES, 3, 2⟩
def F.PRG_ROLES_LIT : Fld := ⟨R.PRG_ROLES, 1, 0⟩
def F.PRG_LIT_VER_VER : Fld := ⟨R.PRG_LIT_VER, 31, 0⟩
def F.PRG_SHADE_VER_VER : Fld := ⟨R.PRG_SHADE_VER, 31, 0⟩
def F.PRG_CAND_VER_VER : Fld := ⟨R.PRG_CAND_VER, 31, 0⟩
def F.PRG_TRIAL_CNT_TCNT : Fld := ⟨R.PRG_TRIAL_CNT, 15, 0⟩
def F.PRG_CKPT_GEN : Fld := ⟨R.PRG_CKPT, 16, 16⟩
def F.PRG_CKPT_SKIP : Fld := ⟨R.PRG_CKPT, 15, 8⟩
def F.PRG_CKPT_AGE : Fld := ⟨R.PRG_CKPT, 7, 0⟩
def F.PRG_XCHG_CPY : Fld := ⟨R.PRG_XCHG, 31, 16⟩

/-! AZS -/
def F.AZS_CTRL_RESERVE : Fld := ⟨R.AZS_CTRL, 15, 8⟩
def F.AZS_CTRL_WS_EN : Fld := ⟨R.AZS_CTRL, 2, 2⟩
def F.AZS_CTRL_CNT_CLR : Fld := ⟨R.AZS_CTRL, 1, 1⟩
def F.AZS_CTRL_ADMIT : Fld := ⟨R.AZS_CTRL, 0, 0⟩
def F.AZS_STATUS_REFUSE : Fld := ⟨R.AZS_STATUS, 23, 16⟩
def F.AZS_STATUS_ADM_BUSY : Fld := ⟨R.AZS_STATUS, 8, 8⟩
def F.AZS_STATUS_ADMITTED : Fld := ⟨R.AZS_STATUS, 7, 7⟩
def F.AZS_STATUS_ADM_FAIL : Fld := ⟨R.AZS_STATUS, 6, 6⟩
def F.AZS_STATUS_LATE_ONLY : Fld := ⟨R.AZS_STATUS, 5, 5⟩
def F.AZS_STATUS_DL_MISS : Fld := ⟨R.AZS_STATUS, 4, 4⟩
def F.AZS_STATUS_NUMF : Fld := ⟨R.AZS_STATUS, 3, 3⟩
def F.AZS_STATUS_REG : Fld := ⟨R.AZS_STATUS, 2, 2⟩
def F.AZS_STATUS_SKIP : Fld := ⟨R.AZS_STATUS, 1, 1⟩
def F.AZS_STATUS_ACTIVE : Fld := ⟨R.AZS_STATUS, 0, 0⟩
def F.AZS_ADM_WCC_WCC : Fld := ⟨R.AZS_ADM_WCC, 31, 0⟩
def F.AZS_ADM_LIM_LIM : Fld := ⟨R.AZS_ADM_LIM, 31, 0⟩
def F.AZS_ADM_INFO_DEFINED : Fld := ⟨R.AZS_ADM_INFO, 31, 23⟩
def F.AZS_ADM_INFO_LANES_USED : Fld := ⟨R.AZS_ADM_INFO, 22, 16⟩
def F.AZS_ADM_INFO_REF_PROB : Fld := ⟨R.AZS_ADM_INFO, 15, 8⟩
def F.AZS_ADM_INFO_WORST : Fld := ⟨R.AZS_ADM_INFO, 2, 0⟩
def F.AZS_PIVOT_EPS_EPS : Fld := ⟨R.AZS_PIVOT_EPS, 31, 0⟩
def F.AZS_DELTA_DELTA : Fld := ⟨R.AZS_DELTA, 31, 0⟩
def F.AZS_LAST_CYC : Fld := ⟨R.AZS_LAST, 31, 0⟩
def F.AZS_CONT_STALL : Fld := ⟨R.AZS_CONT, 31, 0⟩
def F.AZS_DLM_CNT_TICKS : Fld := ⟨R.AZS_DLM_CNT, 31, 16⟩
def F.AZS_DLM_CNT_PROBS : Fld := ⟨R.AZS_DLM_CNT, 15, 0⟩
def F.AZS_FAIL_CNT_NUMF : Fld := ⟨R.AZS_FAIL_CNT, 31, 16⟩
def F.AZS_FAIL_CNT_REG : Fld := ⟨R.AZS_FAIL_CNT, 15, 0⟩
def F.AZS_DLM_PROB_COUNT : Fld := ⟨R.AZS_DLM_PROB, 31, 24⟩
def F.AZS_DLM_PROB_FIRST : Fld := ⟨R.AZS_DLM_PROB, 7, 0⟩
def F.AZS_DLM_TICK_HI_DT_HI : Fld := ⟨R.AZS_DLM_TICK_HI, 31, 0⟩
def F.AZS_DLM_TICK_LO_DT_LO : Fld := ⟨R.AZS_DLM_TICK_LO, 31, 0⟩
def F.AZS_POL_ALLOW_UNCONV (c : Nat) : Fld := ⟨(R.AZS_POL c), 31, 31⟩
def F.AZS_POL_ALLOW_COLD (c : Nat) : Fld := ⟨(R.AZS_POL c), 30, 30⟩
def F.AZS_POL_ALLOW_REG (c : Nat) : Fld := ⟨(R.AZS_POL c), 29, 29⟩
def F.AZS_POL_MAX_AGE (c : Nat) : Fld := ⟨(R.AZS_POL c), 7, 0⟩
def F.AZS_POLR_RES_LIM (c : Nat) : Fld := ⟨(R.AZS_POLR c), 31, 0⟩

/-! SHD -/
def F.SHD_CTRL_CNT_CLR : Fld := ⟨R.SHD_CTRL, 2, 2⟩
def F.SHD_CTRL_CARRY_EN : Fld := ⟨R.SHD_CTRL, 1, 1⟩
def F.SHD_CTRL_ARM : Fld := ⟨R.SHD_CTRL, 0, 0⟩
def F.SHD_STATUS_PEND_CNT : Fld := ⟨R.SHD_STATUS, 31, 24⟩
def F.SHD_STATUS_WAIT : Fld := ⟨R.SHD_STATUS, 23, 16⟩
def F.SHD_STATUS_REB_ARMED : Fld := ⟨R.SHD_STATUS, 6, 6⟩
def F.SHD_STATUS_UNMAPPED : Fld := ⟨R.SHD_STATUS, 5, 5⟩
def F.SHD_STATUS_DISARMED : Fld := ⟨R.SHD_STATUS, 4, 4⟩
def F.SHD_STATUS_REB_REF : Fld := ⟨R.SHD_STATUS, 3, 3⟩
def F.SHD_STATUS_MULTI : Fld := ⟨R.SHD_STATUS, 2, 2⟩
def F.SHD_STATUS_PROMOTED : Fld := ⟨R.SHD_STATUS, 1, 1⟩
def F.SHD_STATUS_REBASED : Fld := ⟨R.SHD_STATUS, 0, 0⟩
def F.SHD_ACTIVE_BASE_GEN : Fld := ⟨R.SHD_ACTIVE, 31, 16⟩
def F.SHD_ACTIVE_RANK : Fld := ⟨R.SHD_ACTIVE, 10, 8⟩
def F.SHD_ACTIVE_ACTIVE : Fld := ⟨R.SHD_ACTIVE, 5, 0⟩
def F.SHD_DETECT_DET : Fld := ⟨R.SHD_DETECT, 7, 0⟩
def F.SHD_REBASE_SCEN : Fld := ⟨R.SHD_REBASE, 5, 0⟩
def F.SHD_ABSORB_LO_ABS_LO : Fld := ⟨R.SHD_ABSORB_LO, 31, 0⟩
def F.SHD_ABSORB_HI_ABS_HI : Fld := ⟨R.SHD_ABSORB_HI, 31, 0⟩
def F.SHD_BASE_LO_BASE_LO : Fld := ⟨R.SHD_BASE_LO, 31, 0⟩
def F.SHD_BASE_HI_BASE_HI : Fld := ⟨R.SHD_BASE_HI, 31, 0⟩
def F.SHD_PROMO_TICK_HI_PT_HI : Fld := ⟨R.SHD_PROMO_TICK_HI, 31, 0⟩
def F.SHD_PROMO_TICK_LO_PT_LO : Fld := ⟨R.SHD_PROMO_TICK_LO, 31, 0⟩
def F.SHD_LASTDET_OFFSET : Fld := ⟨R.SHD_LASTDET, 31, 8⟩
def F.SHD_LASTDET_DET : Fld := ⟨R.SHD_LASTDET, 7, 0⟩
def F.SHD_PEND_PEND (i : Nat) : Fld := ⟨(R.SHD_PEND i), 31, 0⟩
def F.SHD_WSE_POS_POS : Fld := ⟨R.SHD_WSE_POS, 31, 0⟩
def F.SHD_WSE_HDG_NOM_HDG : Fld := ⟨R.SHD_WSE_HDG, 31, 16⟩
def F.SHD_WSE_HDG_HDG : Fld := ⟨R.SHD_WSE_HDG, 15, 0⟩
def F.SHD_WSE_INFO_VALID : Fld := ⟨R.SHD_WSE_INFO, 31, 31⟩
def F.SHD_WSE_INFO_INCOMPLETE : Fld := ⟨R.SHD_WSE_INFO, 30, 30⟩
def F.SHD_WSE_INFO_NOM_POS : Fld := ⟨R.SHD_WSE_INFO, 29, 14⟩
def F.SHD_WSE_INFO_SCEN_HDG : Fld := ⟨R.SHD_WSE_INFO, 13, 8⟩
def F.SHD_WSE_INFO_SCEN_POS : Fld := ⟨R.SHD_WSE_INFO, 5, 0⟩
def F.SHD_CNT_PROMOS : Fld := ⟨R.SHD_CNT, 31, 16⟩
def F.SHD_CNT_CONSUMED : Fld := ⟨R.SHD_CNT, 15, 0⟩
def F.SHD_SCEN_EN (s : Nat) : Fld := ⟨(R.SHD_SCEN s), 31, 31⟩
def F.SHD_SCEN_KIND (s : Nat) : Fld := ⟨(R.SHD_SCEN s), 30, 28⟩
def F.SHD_SCEN_RANK (s : Nat) : Fld := ⟨(R.SHD_SCEN s), 27, 25⟩
def F.SHD_SCEN_PRED_EN (s : Nat) : Fld := ⟨(R.SHD_SCEN s), 24, 24⟩
def F.SHD_SCEN_ALLOC (s : Nat) : Fld := ⟨(R.SHD_SCEN s), 23, 16⟩
def F.SHD_SCEN_PRED (s : Nat) : Fld := ⟨(R.SHD_SCEN s), 15, 8⟩
def F.SHD_SCEN_PARAM (s : Nat) : Fld := ⟨(R.SHD_SCEN s), 7, 0⟩
def F.SHD_MAP_EN (d : Nat) : Fld := ⟨(R.SHD_MAP d), 31, 31⟩
def F.SHD_MAP_SRC (d : Nat) : Fld := ⟨(R.SHD_MAP d), 30, 29⟩
def F.SHD_MAP_POL (d : Nat) : Fld := ⟨(R.SHD_MAP d), 28, 28⟩
def F.SHD_MAP_SCEN (d : Nat) : Fld := ⟨(R.SHD_MAP d), 21, 16⟩
def F.SHD_MAP_UNIT (d : Nat) : Fld := ⟨(R.SHD_MAP d), 7, 0⟩

/-! LOOP -/
def F.LOOP_STATUS_OWNED : Fld := ⟨R.LOOP_STATUS, 31, 31⟩
def F.LOOP_STATUS_RUNNING : Fld := ⟨R.LOOP_STATUS, 5, 0⟩
def F.LOOP_GPIO_DIR_LO_DIR : Fld := ⟨R.LOOP_GPIO_DIR_LO, 31, 0⟩
def F.LOOP_GPIO_DIR_HI_DIR : Fld := ⟨R.LOOP_GPIO_DIR_HI, 15, 0⟩
def F.LOOP_GPIO_CMD_LO_CMD : Fld := ⟨R.LOOP_GPIO_CMD_LO, 31, 0⟩
def F.LOOP_GPIO_CMD_HI_CMD : Fld := ⟨R.LOOP_GPIO_CMD_HI, 15, 0⟩
def F.LOOP_GPIO_OUT_LO_OUT : Fld := ⟨R.LOOP_GPIO_OUT_LO, 31, 0⟩
def F.LOOP_GPIO_OUT_HI_OUT : Fld := ⟨R.LOOP_GPIO_OUT_HI, 15, 0⟩
def F.LOOP_GPIO_SUB_LO_SUB : Fld := ⟨R.LOOP_GPIO_SUB_LO, 31, 0⟩
def F.LOOP_GPIO_SUB_HI_SUB : Fld := ⟨R.LOOP_GPIO_SUB_HI, 15, 0⟩
def F.LOOP_GPIO_HOLD_LO_HOLD : Fld := ⟨R.LOOP_GPIO_HOLD_LO, 31, 0⟩
def F.LOOP_GPIO_HOLD_HI_HOLD : Fld := ⟨R.LOOP_GPIO_HOLD_HI, 15, 0⟩
def F.LOOP_GPIO_IN_LO_IN : Fld := ⟨R.LOOP_GPIO_IN_LO, 31, 0⟩
def F.LOOP_GPIO_IN_HI_IN : Fld := ⟨R.LOOP_GPIO_IN_HI, 15, 0⟩
def F.LOOP_AOCFG_EN (a : Nat) : Fld := ⟨(R.LOOP_AOCFG a), 31, 31⟩
def F.LOOP_AOCFG_CMD (a : Nat) : Fld := ⟨(R.LOOP_AOCFG a), 30, 30⟩
def F.LOOP_AOCFG_HOLD (a : Nat) : Fld := ⟨(R.LOOP_AOCFG a), 29, 29⟩
def F.LOOP_AOCFG_SUB (a : Nat) : Fld := ⟨(R.LOOP_AOCFG a), 15, 0⟩
def F.LOOP_AO_REL (a : Nat) : Fld := ⟨(R.LOOP_AO a), 31, 16⟩
def F.LOOP_AO_VAL (a : Nat) : Fld := ⟨(R.LOOP_AO a), 15, 0⟩
def F.LOOP_PCFG_EN (p : Nat) : Fld := ⟨(R.LOOP_PCFG p), 31, 31⟩
def F.LOOP_PCFG_MODE (p : Nat) : Fld := ⟨(R.LOOP_PCFG p), 30, 29⟩
def F.LOOP_PCFG_ZLATCH (p : Nat) : Fld := ⟨(R.LOOP_PCFG p), 28, 28⟩
def F.LOOP_PCFG_WIN (p : Nat) : Fld := ⟨(R.LOOP_PCFG p), 23, 16⟩
def F.LOOP_PCFG_GLITCH (p : Nat) : Fld := ⟨(R.LOOP_PCFG p), 15, 8⟩
def F.LOOP_PCNT_COUNT (p : Nat) : Fld := ⟨(R.LOOP_PCNT p), 31, 0⟩
def F.LOOP_PRATE_RATE (p : Nat) : Fld := ⟨(R.LOOP_PRATE p), 31, 0⟩
def F.LOOP_PIDX_IDX (p : Nat) : Fld := ⟨(R.LOOP_PIDX p), 31, 0⟩

/-! PAIR -/
def F.PAIR_CTRL_EN : Fld := ⟨R.PAIR_CTRL, 31, 31⟩
def F.PAIR_CTRL_MODE : Fld := ⟨R.PAIR_CTRL, 30, 30⟩
def F.PAIR_CTRL_CKPT_FULL : Fld := ⟨R.PAIR_CTRL, 29, 29⟩
def F.PAIR_CTRL_COLD_TAKE : Fld := ⟨R.PAIR_CTRL, 28, 28⟩
def F.PAIR_CTRL_RESYNC : Fld := ⟨R.PAIR_CTRL, 27, 27⟩
def F.PAIR_ECL_TEST_EN : Fld := ⟨R.PAIR_ECL, 31, 31⟩
def F.PAIR_ECL_TEST_PER : Fld := ⟨R.PAIR_ECL, 23, 16⟩
def F.PAIR_ECL_CLAIM_FILT : Fld := ⟨R.PAIR_ECL, 15, 8⟩
def F.PAIR_ECL_TEST_W : Fld := ⟨R.PAIR_ECL, 7, 0⟩
def F.PAIR_STATUS_REFUSE : Fld := ⟨R.PAIR_STATUS, 31, 24⟩
def F.PAIR_STATUS_LINK_UP : Fld := ⟨R.PAIR_STATUS, 15, 15⟩
def F.PAIR_STATUS_PARTNER_OK : Fld := ⟨R.PAIR_STATUS, 14, 14⟩
def F.PAIR_STATUS_POS : Fld := ⟨R.PAIR_STATUS, 13, 13⟩
def F.PAIR_STATUS_ECL_IN : Fld := ⟨R.PAIR_STATUS, 12, 12⟩
def F.PAIR_STATUS_ECL_OUT : Fld := ⟨R.PAIR_STATUS, 11, 11⟩
def F.PAIR_STATUS_CLAIM : Fld := ⟨R.PAIR_STATUS, 10, 10⟩
def F.PAIR_STATUS_OWNED : Fld := ⟨R.PAIR_STATUS, 9, 9⟩
def F.PAIR_STATUS_ECL_MISMATCH : Fld := ⟨R.PAIR_STATUS, 7, 7⟩
def F.PAIR_STATUS_STALE_TAKE : Fld := ⟨R.PAIR_STATUS, 6, 6⟩
def F.PAIR_STATUS_TAKEOVER : Fld := ⟨R.PAIR_STATUS, 5, 5⟩
def F.PAIR_STATUS_DUAL : Fld := ⟨R.PAIR_STATUS, 4, 4⟩
def F.PAIR_STATUS_REFUSED : Fld := ⟨R.PAIR_STATUS, 3, 3⟩
def F.PAIR_STATUS_ROLE : Fld := ⟨R.PAIR_STATUS, 1, 0⟩
def F.PAIR_CKPT_ABANDON : Fld := ⟨R.PAIR_CKPT, 31, 24⟩
def F.PAIR_CKPT_REFRESH : Fld := ⟨R.PAIR_CKPT, 23, 23⟩
def F.PAIR_CKPT_PAGES : Fld := ⟨R.PAIR_CKPT, 15, 0⟩
def F.PAIR_CKPT_TICK_HI_CT_HI : Fld := ⟨R.PAIR_CKPT_TICK_HI, 31, 0⟩
def F.PAIR_CKPT_TICK_LO_CT_LO : Fld := ⟨R.PAIR_CKPT_TICK_LO, 31, 0⟩
def F.PAIR_HEALTH_HI_H_HI : Fld := ⟨R.PAIR_HEALTH_HI, 31, 0⟩
def F.PAIR_HEALTH_LO_H_LO : Fld := ⟨R.PAIR_HEALTH_LO, 31, 0⟩
def F.PAIR_PHEALTH_HI_P_HI : Fld := ⟨R.PAIR_PHEALTH_HI, 31, 0⟩
def F.PAIR_PHEALTH_LO_P_LO : Fld := ⟨R.PAIR_PHEALTH_LO, 31, 0⟩
def F.PAIR_TIME_OFFSET : Fld := ⟨R.PAIR_TIME, 31, 0⟩
def F.PAIR_LINK_CRC_ERR : Fld := ⟨R.PAIR_LINK, 31, 16⟩
def F.PAIR_LINK_LANES : Fld := ⟨R.PAIR_LINK, 1, 0⟩
def F.PAIR_MIR_BASE_BASE : Fld := ⟨R.PAIR_MIR_BASE, 21, 0⟩
def F.PAIR_MIR_CNT_COUNT : Fld := ⟨R.PAIR_MIR_CNT, 12, 0⟩
def F.PAIR_STEST_ECC_CORR : Fld := ⟨R.PAIR_STEST, 31, 24⟩
def F.PAIR_STEST_ECC_UNC : Fld := ⟨R.PAIR_STEST, 23, 16⟩
def F.PAIR_STEST_FAIL_LANE : Fld := ⟨R.PAIR_STEST, 15, 8⟩
def F.PAIR_GNSS_WAKE : Fld := ⟨R.PAIR_GNSS, 9, 0⟩

/-! REC -/
def F.REC_CTRL_MODE : Fld := ⟨R.REC_CTRL, 31, 31⟩
def F.REC_CTRL_FLUSH : Fld := ⟨R.REC_CTRL, 30, 30⟩
def F.REC_CTRL_TEST : Fld := ⟨R.REC_CTRL, 29, 29⟩
def F.REC_CTRL_CNT_CLR : Fld := ⟨R.REC_CTRL, 28, 28⟩
def F.REC_CTRL_FLUSH_FILL : Fld := ⟨R.REC_CTRL, 15, 8⟩
def F.REC_CTRL_FLUSH_MASK : Fld := ⟨R.REC_CTRL, 7, 0⟩
def F.REC_STATUS_BUF_RECS : Fld := ⟨R.REC_STATUS, 31, 16⟩
def F.REC_STATUS_BUFFERED : Fld := ⟨R.REC_STATUS, 6, 6⟩
def F.REC_STATUS_CLR_LOCK : Fld := ⟨R.REC_STATUS, 5, 5⟩
def F.REC_STATUS_CHAL_VALID : Fld := ⟨R.REC_STATUS, 4, 4⟩
def F.REC_STATUS_AFTERGLOW : Fld := ⟨R.REC_STATUS, 3, 3⟩
def F.REC_STATUS_FLUSHING : Fld := ⟨R.REC_STATUS, 2, 2⟩
def F.REC_STATUS_UNCLEAN : Fld := ⟨R.REC_STATUS, 1, 1⟩
def F.REC_STATUS_FULL : Fld := ⟨R.REC_STATUS, 0, 0⟩
def F.REC_NEXT_LO_NEXT : Fld := ⟨R.REC_NEXT_LO, 31, 0⟩
def F.REC_NEXT_HI_NEXT : Fld := ⟨R.REC_NEXT_HI, 31, 0⟩
def F.REC_USED_USED : Fld := ⟨R.REC_USED, 19, 0⟩
def F.REC_DROP_FULL_COUNT : Fld := ⟨R.REC_DROP_FULL, 31, 0⟩
def F.REC_DROP_Q_COUNT : Fld := ⟨R.REC_DROP_Q, 31, 0⟩
def F.REC_SUPPR_COUNT : Fld := ⟨R.REC_SUPPR, 31, 0⟩
def F.REC_RLDSUP_COUNT : Fld := ⟨R.REC_RLDSUP, 31, 0⟩
def F.REC_RLSUP_COUNT (c : Nat) : Fld := ⟨(R.REC_RLSUP c), 31, 0⟩
def F.REC_OPSEC_LO_OPSEC : Fld := ⟨R.REC_OPSEC_LO, 31, 0⟩
def F.REC_OPSEC_HI_OPSEC : Fld := ⟨R.REC_OPSEC_HI, 31, 0⟩
def F.REC_PCYC_PCYC : Fld := ⟨R.REC_PCYC, 31, 0⟩
def F.REC_SNAP_SNAP : Fld := ⟨R.REC_SNAP, 31, 0⟩
def F.REC_SNAP_FIRST_LO_SEQ : Fld := ⟨R.REC_SNAP_FIRST_LO, 31, 0⟩
def F.REC_SNAP_FIRST_HI_SEQ : Fld := ⟨R.REC_SNAP_FIRST_HI, 31, 0⟩
def F.REC_SNAP_LAST_LO_SEQ : Fld := ⟨R.REC_SNAP_LAST_LO, 31, 0⟩
def F.REC_SNAP_LAST_HI_SEQ : Fld := ⟨R.REC_SNAP_LAST_HI, 31, 0⟩
def F.REC_SNAP_BUF_BUF : Fld := ⟨R.REC_SNAP_BUF, 15, 0⟩
def F.REC_CLR_CMD_KEY : Fld := ⟨R.REC_CLR_CMD, 31, 16⟩
def F.REC_CLR_CMD_REQ : Fld := ⟨R.REC_CLR_CMD, 0, 0⟩
def F.REC_CHAL_CHAL : Fld := ⟨R.REC_CHAL, 31, 0⟩
def F.REC_RESP_RESP : Fld := ⟨R.REC_RESP, 31, 0⟩
def F.REC_RD_SEQ_LO_SEQ : Fld := ⟨R.REC_RD_SEQ_LO, 31, 0⟩
def F.REC_RD_SEQ_HI_SEQ : Fld := ⟨R.REC_RD_SEQ_HI, 31, 0⟩
def F.REC_RD_STAT_IN_BUF : Fld := ⟨R.REC_RD_STAT, 3, 3⟩
def F.REC_RD_STAT_CRC_OK : Fld := ⟨R.REC_RD_STAT, 2, 2⟩
def F.REC_RD_STAT_PRESENT : Fld := ⟨R.REC_RD_STAT, 1, 1⟩
def F.REC_RD_STAT_READY : Fld := ⟨R.REC_RD_STAT, 0, 0⟩
def F.REC_RD_DATA_DATA (k : Nat) : Fld := ⟨(R.REC_RD_DATA k), 31, 0⟩
def F.REC_SUB_PAY_PAY (k : Nat) : Fld := ⟨(R.REC_SUB_PAY k), 31, 0⟩
def F.REC_SUB_CODE_CODE : Fld := ⟨R.REC_SUB_CODE, 15, 0⟩
def F.REC_SUB_STAT_RESULT : Fld := ⟨R.REC_SUB_STAT, 31, 30⟩
def F.REC_SUB_STAT_SEQ : Fld := ⟨R.REC_SUB_STAT, 29, 0⟩
def F.REC_RLDEF_RATE : Fld := ⟨R.REC_RLDEF, 31, 16⟩
def F.REC_RLDEF_DEPTH : Fld := ⟨R.REC_RLDEF, 15, 0⟩
def F.REC_RLPAR_RATE (c : Nat) : Fld := ⟨(R.REC_RLPAR c), 31, 16⟩
def F.REC_RLPAR_DEPTH (c : Nat) : Fld := ⟨(R.REC_RLPAR c), 15, 0⟩
def F.REC_RLCODE_EN (c : Nat) : Fld := ⟨(R.REC_RLCODE c), 31, 31⟩
def F.REC_RLCODE_CODE (c : Nat) : Fld := ⟨(R.REC_RLCODE c), 15, 0⟩

/-! IRQ -/
def F.IRQ_CTRL_CNT_CLR : Fld := ⟨R.IRQ_CTRL, 0, 0⟩
def F.IRQ_STATUS_LAST_SRC : Fld := ⟨R.IRQ_STATUS, 15, 8⟩
def F.IRQ_STATUS_LAST_TGT : Fld := ⟨R.IRQ_STATUS, 6, 4⟩
def F.IRQ_STATUS_RR : Fld := ⟨R.IRQ_STATUS, 3, 1⟩
def F.IRQ_STATUS_ORPH : Fld := ⟨R.IRQ_STATUS, 0, 0⟩
def F.IRQ_TGTEN_EN : Fld := ⟨R.IRQ_TGTEN, 7, 0⟩
def F.IRQ_HOSTLVL_LEVEL : Fld := ⟨R.IRQ_HOSTLVL, 3, 0⟩
def F.IRQ_PARTLVL_LEVEL : Fld := ⟨R.IRQ_PARTLVL, 3, 0⟩
def F.IRQ_SWSET_SET : Fld := ⟨R.IRQ_SWSET, 31, 0⟩
def F.IRQ_ORPHAN_COUNT : Fld := ⟨R.IRQ_ORPHAN, 31, 0⟩
def F.IRQ_LVL_ELIG (t : Nat) : Fld := ⟨(R.IRQ_LVL t), 31, 31⟩
def F.IRQ_LVL_LEVEL (t : Nat) : Fld := ⟨(R.IRQ_LVL t), 4, 0⟩
def F.IRQ_MASK_MASK (i : Nat) : Fld := ⟨(R.IRQ_MASK i), 31, 0⟩
def F.IRQ_PEND_PEND (i : Nat) : Fld := ⟨(R.IRQ_PEND i), 31, 0⟩
def F.IRQ_RACE_RACE (i : Nat) : Fld := ⟨(R.IRQ_RACE i), 31, 0⟩
def F.IRQ_AON_AON (i : Nat) : Fld := ⟨(R.IRQ_AON i), 31, 0⟩
def F.IRQ_STSRC_COUNT (t : Nat) : Fld := ⟨(R.IRQ_STSRC t), 31, 24⟩
def F.IRQ_STSRC_SEQ (t : Nat) : Fld := ⟨(R.IRQ_STSRC t), 23, 8⟩
def F.IRQ_STSRC_SRC (t : Nat) : Fld := ⟨(R.IRQ_STSRC t), 7, 0⟩
def F.IRQ_STMFR_FRAC (t : Nat) : Fld := ⟨(R.IRQ_STMFR t), 31, 0⟩
def F.IRQ_STTFR_FRAC (t : Nat) : Fld := ⟨(R.IRQ_STTFR t), 31, 0⟩
def F.IRQ_STMLO_SEC_LO (t : Nat) : Fld := ⟨(R.IRQ_STMLO t), 31, 0⟩
def F.IRQ_STTLO_SEC_LO (t : Nat) : Fld := ⟨(R.IRQ_STTLO t), 31, 0⟩
def F.IRQ_STMHI_SEC_HI (t : Nat) : Fld := ⟨(R.IRQ_STMHI t), 31, 0⟩
def F.IRQ_STTHI_SEC_HI (t : Nat) : Fld := ⟨(R.IRQ_STTHI t), 31, 0⟩
def F.IRQ_CFG_EN (s : Nat) : Fld := ⟨(R.IRQ_CFG s), 31, 31⟩
def F.IRQ_CFG_EDGE (s : Nat) : Fld := ⟨(R.IRQ_CFG s), 30, 29⟩
def F.IRQ_CFG_PRIO (s : Nat) : Fld := ⟨(R.IRQ_CFG s), 23, 20⟩
def F.IRQ_CFG_TARGETS (s : Nat) : Fld := ⟨(R.IRQ_CFG s), 15, 8⟩
def F.IRQ_COAL_COUNT (s : Nat) : Fld := ⟨(R.IRQ_COAL s), 31, 24⟩
def F.IRQ_COAL_PCNT (s : Nat) : Fld := ⟨(R.IRQ_COAL s), 23, 16⟩
def F.IRQ_COAL_TIME (s : Nat) : Fld := ⟨(R.IRQ_COAL s), 15, 0⟩

/-! TIME -/
def F.TIME_CTRL_BEACON_EN : Fld := ⟨R.TIME_CTRL, 31, 31⟩
def F.TIME_CTRL_TEN_EN : Fld := ⟨R.TIME_CTRL, 30, 30⟩
def F.TIME_CTRL_DISC_EN : Fld := ⟨R.TIME_CTRL, 29, 29⟩
def F.TIME_CTRL_LEAP_GNSS : Fld := ⟨R.TIME_CTRL, 28, 28⟩
def F.TIME_STATUS_CIV_VALID : Fld := ⟨R.TIME_STATUS, 9, 9⟩
def F.TIME_STATUS_LEAP : Fld := ⟨R.TIME_STATUS, 8, 8⟩
def F.TIME_STATUS_TBL_FULL : Fld := ⟨R.TIME_STATUS, 7, 7⟩
def F.TIME_STATUS_LATE : Fld := ⟨R.TIME_STATUS, 6, 6⟩
def F.TIME_STATUS_REFSW : Fld := ⟨R.TIME_STATUS, 5, 5⟩
def F.TIME_STATUS_STEPPED : Fld := ⟨R.TIME_STATUS, 4, 4⟩
def F.TIME_STATUS_REF : Fld := ⟨R.TIME_STATUS, 3, 3⟩
def F.TIME_STATUS_STATE : Fld := ⟨R.TIME_STATUS, 2, 0⟩
def F.TIME_QUAL_ERR : Fld := ⟨R.TIME_QUAL, 31, 0⟩
def F.TIME_CMD_KEY : Fld := ⟨R.TIME_CMD, 31, 16⟩
def F.TIME_CMD_CMD : Fld := ⟨R.TIME_CMD, 3, 0⟩
def F.TIME_DISC_TC : Fld := ⟨R.TIME_DISC, 31, 16⟩
def F.TIME_DISC_LOCK_TOL : Fld := ⟨R.TIME_DISC, 15, 0⟩
def F.TIME_SLEW_MAX_MAX : Fld := ⟨R.TIME_SLEW_MAX, 15, 0⟩
def F.TIME_HOCOEF_OCXO : Fld := ⟨R.TIME_HOCOEF, 31, 16⟩
def F.TIME_HOCOEF_TCXO : Fld := ⟨R.TIME_HOCOEF, 15, 0⟩
def F.TIME_BEACON_POL : Fld := ⟨R.TIME_BEACON, 31, 31⟩
def F.TIME_BEACON_WIDTH : Fld := ⟨R.TIME_BEACON, 8, 0⟩
def F.TIME_OFFSET_OFF : Fld := ⟨R.TIME_OFFSET, 31, 0⟩
def F.TIME_SET_FRAC_FRAC : Fld := ⟨R.TIME_SET_FRAC, 31, 0⟩
def F.TIME_SET_SECLO_SEC : Fld := ⟨R.TIME_SET_SECLO, 31, 0⟩
def F.TIME_SET_SECHI_SEC : Fld := ⟨R.TIME_SET_SECHI, 31, 0⟩
def F.TIME_SET_ERR_ERR : Fld := ⟨R.TIME_SET_ERR, 31, 0⟩
def F.TIME_SNAP_BASES : Fld := ⟨R.TIME_SNAP, 15, 0⟩
def F.TIME_FRAC_FRAC (b : Nat) : Fld := ⟨(R.TIME_FRAC b), 31, 0⟩
def F.TIME_SECLO_SEC (b : Nat) : Fld := ⟨(R.TIME_SECLO b), 31, 0⟩
def F.TIME_SECHI_SEC (b : Nat) : Fld := ⟨(R.TIME_SECHI b), 31, 0⟩
def F.TIME_INCLO_INC (b : Nat) : Fld := ⟨(R.TIME_INCLO b), 31, 0⟩
def F.TIME_INCHI_INC (b : Nat) : Fld := ⟨(R.TIME_INCHI b), 31, 0⟩
def F.TIME_SNFR_SNAP (b : Nat) : Fld := ⟨(R.TIME_SNFR b), 31, 0⟩
def F.TIME_SNLO_SNAP (b : Nat) : Fld := ⟨(R.TIME_SNLO b), 31, 0⟩
def F.TIME_SNHI_SNAP (b : Nat) : Fld := ⟨(R.TIME_SNHI b), 31, 0⟩
def F.TIME_LEAPLO_TE (k : Nat) : Fld := ⟨(R.TIME_LEAPLO k), 31, 0⟩
def F.TIME_LEAPHI_TE (k : Nat) : Fld := ⟨(R.TIME_LEAPHI k), 31, 0⟩
def F.TIME_LEAPOFF_VALID (k : Nat) : Fld := ⟨(R.TIME_LEAPOFF k), 31, 31⟩
def F.TIME_LEAPOFF_SRC (k : Nat) : Fld := ⟨(R.TIME_LEAPOFF k), 30, 29⟩
def F.TIME_LEAPOFF_OFF (k : Nat) : Fld := ⟨(R.TIME_LEAPOFF k), 15, 0⟩

/-! GNSS -/
def F.GNSS_CTRL_EN : Fld := ⟨R.GNSS_CTRL, 31, 31⟩
def F.GNSS_CTRL_CH1_EN : Fld := ⟨R.GNSS_CTRL, 30, 30⟩
def F.GNSS_CTRL_B2_EN : Fld := ⟨R.GNSS_CTRL, 29, 29⟩
def F.GNSS_CTRL_HDG_EN : Fld := ⟨R.GNSS_CTRL, 28, 28⟩
def F.GNSS_CTRL_SLEEP_EN : Fld := ⟨R.GNSS_CTRL, 27, 27⟩
def F.GNSS_CTRL_BL_POS : Fld := ⟨R.GNSS_CTRL, 26, 26⟩
def F.GNSS_CTRL_CONST : Fld := ⟨R.GNSS_CTRL, 19, 16⟩
def F.GNSS_CTRL_ELEV_MASK : Fld := ⟨R.GNSS_CTRL, 7, 0⟩
def F.GNSS_CMD_KEY : Fld := ⟨R.GNSS_CMD, 31, 16⟩
def F.GNSS_CMD_CMD : Fld := ⟨R.GNSS_CMD, 3, 0⟩
def F.GNSS_STATUS_LAST_START : Fld := ⟨R.GNSS_STATUS, 23, 21⟩
def F.GNSS_STATUS_SLEEP : Fld := ⟨R.GNSS_STATUS, 20, 20⟩
def F.GNSS_STATUS_HOT_OK : Fld := ⟨R.GNSS_STATUS, 19, 19⟩
def F.GNSS_STATUS_HFIX : Fld := ⟨R.GNSS_STATUS, 18, 18⟩
def F.GNSS_STATUS_FIX1 : Fld := ⟨R.GNSS_STATUS, 17, 17⟩
def F.GNSS_STATUS_FIX0 : Fld := ⟨R.GNSS_STATUS, 16, 16⟩
def F.GNSS_STATUS_SATS0 : Fld := ⟨R.GNSS_STATUS, 15, 8⟩
def F.GNSS_STATUS_SATS1 : Fld := ⟨R.GNSS_STATUS, 7, 0⟩
def F.GNSS_TTFF_TTFF : Fld := ⟨R.GNSS_TTFF, 31, 0⟩
def F.GNSS_CHK_CLEAR_LEFT : Fld := ⟨R.GNSS_CHK, 31, 16⟩
def F.GNSS_CHK_VREF_STALE : Fld := ⟨R.GNSS_CHK, 6, 6⟩
def F.GNSS_CHK_ACTIVE : Fld := ⟨R.GNSS_CHK, 5, 0⟩
def F.GNSS_CHK_SEEN_SEEN : Fld := ⟨R.GNSS_CHK_SEEN, 5, 0⟩
def F.GNSS_CHKCFG_PWR_STEP : Fld := ⟨R.GNSS_CHKCFG, 31, 24⟩
def F.GNSS_CHKCFG_PWR_MAX : Fld := ⟨R.GNSS_CHKCFG, 23, 16⟩
def F.GNSS_CHKCFG_AGC_STEP : Fld := ⟨R.GNSS_CHKCFG, 15, 8⟩
def F.GNSS_CHKCFG_CLEAR_S : Fld := ⟨R.GNSS_CHKCFG, 7, 0⟩
def F.GNSS_CHKTOL_VEL_TOL : Fld := ⟨R.GNSS_CHKTOL, 31, 24⟩
def F.GNSS_CHKTOL_CONST_TOL : Fld := ⟨R.GNSS_CHKTOL, 23, 16⟩
def F.GNSS_CHKTOL_CLK_TOL : Fld := ⟨R.GNSS_CHKTOL, 15, 0⟩
def F.GNSS_ACQ_NC : Fld := ⟨R.GNSS_ACQ, 23, 16⟩
def F.GNSS_ACQ_THR : Fld := ⟨R.GNSS_ACQ, 15, 8⟩
def F.GNSS_TUNC_TUNC : Fld := ⟨R.GNSS_TUNC, 31, 0⟩
def F.GNSS_KEPT_EPH : Fld := ⟨R.GNSS_KEPT, 31, 24⟩
def F.GNSS_KEPT_AGE : Fld := ⟨R.GNSS_KEPT, 15, 0⟩
def F.GNSS_BL_X_BL : Fld := ⟨R.GNSS_BL_X, 31, 0⟩
def F.GNSS_BL_Y_BL : Fld := ⟨R.GNSS_BL_Y, 31, 0⟩
def F.GNSS_BL_Z_BL : Fld := ⟨R.GNSS_BL_Z, 31, 0⟩
def F.GNSS_BL_CFG_BL_EPOCHS : Fld := ⟨R.GNSS_BL_CFG, 15, 8⟩
def F.GNSS_BL_CFG_BL_TOL : Fld := ⟨R.GNSS_BL_CFG, 7, 0⟩
def F.GNSS_ANT0_X_ANT : Fld := ⟨R.GNSS_ANT0_X, 31, 0⟩
def F.GNSS_ANT0_Y_ANT : Fld := ⟨R.GNSS_ANT0_Y, 31, 0⟩
def F.GNSS_ANT0_Z_ANT : Fld := ⟨R.GNSS_ANT0_Z, 31, 0⟩
def F.GNSS_VREF_N_V : Fld := ⟨R.GNSS_VREF_N, 31, 0⟩
def F.GNSS_VREF_E_V : Fld := ⟨R.GNSS_VREF_E, 31, 0⟩
def F.GNSS_VREF_D_V : Fld := ⟨R.GNSS_VREF_D, 31, 0⟩
def F.GNSS_VREF_ATT_ROLL : Fld := ⟨R.GNSS_VREF_ATT, 31, 16⟩
def F.GNSS_VREF_ATT_PITCH : Fld := ⟨R.GNSS_VREF_ATT, 15, 0⟩
def F.GNSS_VREF_HDG_HDG : Fld := ⟨R.GNSS_VREF_HDG, 15, 0⟩
def F.GNSS_TRK_UNTRK (c : Nat) : Fld := ⟨(R.GNSS_TRK c), 31, 24⟩
def F.GNSS_TRK_B2 (c : Nat) : Fld := ⟨(R.GNSS_TRK c), 23, 16⟩
def F.GNSS_TRK_B1 (c : Nat) : Fld := ⟨(R.GNSS_TRK c), 15, 8⟩
def F.GNSS_AGC_GAIN2 (c : Nat) : Fld := ⟨(R.GNSS_AGC c), 15, 8⟩
def F.GNSS_AGC_GAIN1 (c : Nat) : Fld := ⟨(R.GNSS_AGC c), 7, 0⟩

/-! CAN -/
def F.CAN_CTRL_EN (k : Nat) : Fld := ⟨(R.CAN_CTRL k), 31, 31⟩
def F.CAN_CTRL_MODE (k : Nat) : Fld := ⟨(R.CAN_CTRL k), 30, 29⟩
def F.CAN_CTRL_FD_EN (k : Nat) : Fld := ⟨(R.CAN_CTRL k), 28, 28⟩
def F.CAN_CTRL_DUP (k : Nat) : Fld := ⟨(R.CAN_CTRL k), 27, 27⟩
def F.CAN_CTRL_BOFF_AUTO (k : Nat) : Fld := ⟨(R.CAN_CTRL k), 26, 26⟩
def F.CAN_CTRL_RECOVER (k : Nat) : Fld := ⟨(R.CAN_CTRL k), 25, 25⟩
def F.CAN_CTRL_SLEEP (k : Nat) : Fld := ⟨(R.CAN_CTRL k), 24, 24⟩
def F.CAN_CTRL_ACC_DEF (k : Nat) : Fld := ⟨(R.CAN_CTRL k), 23, 23⟩
def F.CAN_NBT_NBRP (k : Nat) : Fld := ⟨(R.CAN_NBT k), 31, 27⟩
def F.CAN_NBT_NTSEG1 (k : Nat) : Fld := ⟨(R.CAN_NBT k), 26, 19⟩
def F.CAN_NBT_NTSEG2 (k : Nat) : Fld := ⟨(R.CAN_NBT k), 18, 12⟩
def F.CAN_NBT_NSJW (k : Nat) : Fld := ⟨(R.CAN_NBT k), 11, 5⟩
def F.CAN_DBT_DBRP (k : Nat) : Fld := ⟨(R.CAN_DBT k), 31, 27⟩
def F.CAN_DBT_DTSEG1 (k : Nat) : Fld := ⟨(R.CAN_DBT k), 26, 22⟩
def F.CAN_DBT_DTSEG2 (k : Nat) : Fld := ⟨(R.CAN_DBT k), 21, 18⟩
def F.CAN_DBT_DSJW (k : Nat) : Fld := ⟨(R.CAN_DBT k), 17, 14⟩
def F.CAN_DBT_TDC (k : Nat) : Fld := ⟨(R.CAN_DBT k), 13, 13⟩
def F.CAN_DBT_TDCO (k : Nat) : Fld := ⟨(R.CAN_DBT k), 12, 6⟩
def F.CAN_STATUS_FAILED (k : Nat) : Fld := ⟨(R.CAN_STATUS k), 2, 2⟩
def F.CAN_STATUS_STATE (k : Nat) : Fld := ⟨(R.CAN_STATUS k), 1, 0⟩
def F.CAN_ERR_TEC (k : Nat) : Fld := ⟨(R.CAN_ERR k), 24, 16⟩
def F.CAN_ERR_REC (k : Nat) : Fld := ⟨(R.CAN_ERR k), 15, 8⟩
def F.CAN_ERR_LEC (k : Nat) : Fld := ⟨(R.CAN_ERR k), 2, 0⟩
def F.CAN_CNT_DROPS (k : Nat) : Fld := ⟨(R.CAN_CNT k), 31, 16⟩
def F.CAN_CNT_FIFO_OVF (k : Nat) : Fld := ⟨(R.CAN_CNT k), 15, 0⟩
def F.CAN_TT_ROLE (k : Nat) : Fld := ⟨(R.CAN_TT k), 31, 30⟩
def F.CAN_TT_TICKLOCK (k : Nat) : Fld := ⟨(R.CAN_TT k), 29, 29⟩
def F.CAN_TT_CYC_LOG (k : Nat) : Fld := ⟨(R.CAN_TT k), 28, 26⟩
def F.CAN_TT_REF_ID (k : Nat) : Fld := ⟨(R.CAN_TT k), 25, 15⟩
def F.CAN_TTCYC_CYCLE_LEN (k : Nat) : Fld := ⟨(R.CAN_TTCYC k), 31, 16⟩
def F.CAN_TTCYC_CYC_OFF (k : Nat) : Fld := ⟨(R.CAN_TTCYC k), 15, 0⟩
def F.CAN_TTSTAT_SYNC (k : Nat) : Fld := ⟨(R.CAN_TTSTAT k), 31, 31⟩
def F.CAN_TTSTAT_REF_LATE (k : Nat) : Fld := ⟨(R.CAN_TTSTAT k), 30, 30⟩
def F.CAN_TTSTAT_CYCLE (k : Nat) : Fld := ⟨(R.CAN_TTSTAT k), 29, 24⟩
def F.CAN_TTSTAT_SYNC_ERR (k : Nat) : Fld := ⟨(R.CAN_TTSTAT k), 15, 0⟩
def F.CAN_MRBASE_BASE (k : Nat) : Fld := ⟨(R.CAN_MRBASE k), 21, 0⟩
def F.CAN_TXPEND_PEND (k : Nat) : Fld := ⟨(R.CAN_TXPEND k), 31, 0⟩
def F.CAN_TXCANCEL_CANCEL (k : Nat) : Fld := ⟨(R.CAN_TXCANCEL k), 31, 0⟩
def F.CAN_MBNEW_MB (k : Nat) : Fld := ⟨(R.CAN_MBNEW k), 31, 0⟩
def F.CAN_MBOVR_MB (k : Nat) : Fld := ⟨(R.CAN_MBOVR k), 31, 0⟩
def F.CAN_FIFO_COUNT (k : Nat) : Fld := ⟨(R.CAN_FIFO k), 13, 8⟩
def F.CAN_FIFO_RPTR (k : Nat) : Fld := ⟨(R.CAN_FIFO k), 4, 0⟩
def F.CAN_WAKE_WMODE (k : Nat) : Fld := ⟨(R.CAN_WAKE k), 31, 30⟩
def F.CAN_WAKE_FILT (k : Nat) : Fld := ⟨(R.CAN_WAKE k), 29, 24⟩
def F.CAN_WAKE_IDE (k : Nat) : Fld := ⟨(R.CAN_WAKE k), 23, 23⟩
def F.CAN_WAKE_DLC (k : Nat) : Fld := ⟨(R.CAN_WAKE k), 3, 0⟩
def F.CAN_WAKE_ID_ID (k : Nat) : Fld := ⟨(R.CAN_WAKE_ID k), 28, 0⟩
def F.CAN_WAKE_IDM_ID (k : Nat) : Fld := ⟨(R.CAN_WAKE_IDM k), 28, 0⟩
def F.CAN_WAKE_DLO_D (k : Nat) : Fld := ⟨(R.CAN_WAKE_DLO k), 31, 0⟩
def F.CAN_WAKE_DHI_D (k : Nat) : Fld := ⟨(R.CAN_WAKE_DHI k), 31, 0⟩
def F.CAN_WAKE_DMLO_D (k : Nat) : Fld := ⟨(R.CAN_WAKE_DMLO k), 31, 0⟩
def F.CAN_WAKE_DMHI_D (k : Nat) : Fld := ⟨(R.CAN_WAKE_DMHI k), 31, 0⟩
def F.CAN_WTIME_START (k w : Nat) : Fld := ⟨(R.CAN_WTIME k w), 15, 0⟩
def F.CAN_WENT_EN (k w : Nat) : Fld := ⟨(R.CAN_WENT k w), 31, 31⟩
def F.CAN_WENT_KIND_SEL (k w : Nat) : Fld := ⟨(R.CAN_WENT k w), 30, 29⟩
def F.CAN_WENT_KIND_OTH (k w : Nat) : Fld := ⟨(R.CAN_WENT k w), 28, 27⟩
def F.CAN_WENT_BUF (k w : Nat) : Fld := ⟨(R.CAN_WENT k w), 26, 22⟩
def F.CAN_WENT_BASE (k w : Nat) : Fld := ⟨(R.CAN_WENT k w), 21, 16⟩
def F.CAN_WENT_REPEAT (k w : Nat) : Fld := ⟨(R.CAN_WENT k w), 15, 13⟩
def F.CAN_FID_EN (k f : Nat) : Fld := ⟨(R.CAN_FID k f), 31, 31⟩
def F.CAN_FID_IDE (k f : Nat) : Fld := ⟨(R.CAN_FID k f), 30, 30⟩
def F.CAN_FID_ID (k f : Nat) : Fld := ⟨(R.CAN_FID k f), 28, 0⟩
def F.CAN_FMSK_MASK (k f : Nat) : Fld := ⟨(R.CAN_FMSK k f), 28, 0⟩
def F.CAN_FACT_ACTION (k f : Nat) : Fld := ⟨(R.CAN_FACT k f), 31, 30⟩
def F.CAN_FACT_MB (k f : Nat) : Fld := ⟨(R.CAN_FACT k f), 4, 0⟩
def F.CAN_TXCFG_EN (k b : Nat) : Fld := ⟨(R.CAN_TXCFG k b), 31, 31⟩
def F.CAN_TXCFG_CMD (k b : Nat) : Fld := ⟨(R.CAN_TXCFG k b), 30, 30⟩
def F.CAN_TXCFG_WIN (k b : Nat) : Fld := ⟨(R.CAN_TXCFG k b), 29, 24⟩
def F.CAN_TXCFG_BOUND (k b : Nat) : Fld := ⟨(R.CAN_TXCFG k b), 23, 23⟩
def F.CAN_TXCFG_RETRY (k b : Nat) : Fld := ⟨(R.CAN_TXCFG k b), 22, 19⟩
def F.CAN_TXCFG_SUBBUF (k b : Nat) : Fld := ⟨(R.CAN_TXCFG k b), 18, 14⟩
def F.CAN_TXCFG_SUB_EN (k b : Nat) : Fld := ⟨(R.CAN_TXCFG k b), 13, 13⟩
def F.CAN_TXCFG_LT_EN (k b : Nat) : Fld := ⟨(R.CAN_TXCFG k b), 12, 12⟩
def F.CAN_TXCFG_LTBASE (k b : Nat) : Fld := ⟨(R.CAN_TXCFG k b), 11, 8⟩

/-! NET -/
def F.NET_CTRL_HOST_EN : Fld := ⟨R.NET_CTRL, 31, 31⟩
def F.NET_CTRL_HOSTPORT : Fld := ⟨R.NET_CTRL, 15, 0⟩
def F.NET_STATUS_UP : Fld := ⟨R.NET_STATUS, 7, 4⟩
def F.NET_STATUS_LINK : Fld := ⟨R.NET_STATUS, 3, 0⟩
def F.NET_PHYDLY_TX : Fld := ⟨R.NET_PHYDLY, 31, 16⟩
def F.NET_PHYDLY_RX : Fld := ⟨R.NET_PHYDLY, 15, 0⟩
def F.NET_PCIE_WIN_BASE : Fld := ⟨R.NET_PCIE_WIN, 7, 0⟩
def F.NET_PCIE_STAT_DISC : Fld := ⟨R.NET_PCIE_STAT, 31, 16⟩
def F.NET_PCIE_STAT_WIDTH : Fld := ⟨R.NET_PCIE_STAT, 7, 4⟩
def F.NET_PCIE_STAT_GEN : Fld := ⟨R.NET_PCIE_STAT, 3, 2⟩
def F.NET_PCIE_STAT_MSIX_EN : Fld := ⟨R.NET_PCIE_STAT, 1, 1⟩
def F.NET_PCIE_STAT_LINK : Fld := ⟨R.NET_PCIE_STAT, 0, 0⟩
def F.NET_SERBASE_BASE : Fld := ⟨R.NET_SERBASE, 21, 0⟩
def F.NET_450BASE_BASE : Fld := ⟨R.NET_450BASE, 21, 0⟩
def F.NET_450CNT_TAG_ERR : Fld := ⟨R.NET_450CNT, 31, 16⟩
def F.NET_450CNT_NOMATCH : Fld := ⟨R.NET_450CNT, 15, 0⟩
def F.NET_PRP_EN (p : Nat) : Fld := ⟨(R.NET_PRP p), 31, 31⟩
def F.NET_PRP_SPEED (p : Nat) : Fld := ⟨(R.NET_PRP p), 30, 30⟩
def F.NET_PRP_GUARD (p : Nat) : Fld := ⟨(R.NET_PRP p), 29, 29⟩
def F.NET_PRP_USE (p : Nat) : Fld := ⟨(R.NET_PRP p), 28, 25⟩
def F.NET_PRP_LAN_TO (p : Nat) : Fld := ⟨(R.NET_PRP p), 15, 0⟩
def F.NET_MACLO_MAC_LO (p : Nat) : Fld := ⟨(R.NET_MACLO p), 31, 0⟩
def F.NET_MACHI_MAC_HI (p : Nat) : Fld := ⟨(R.NET_MACHI p), 15, 0⟩
def F.NET_PRPCNT_FCS_ERR (p : Nat) : Fld := ⟨(R.NET_PRPCNT p), 31, 16⟩
def F.NET_PRPCNT_RXDROP (p : Nat) : Fld := ⟨(R.NET_PRPCNT p), 15, 0⟩
def F.NET_TXBASE_BASE (p : Nat) : Fld := ⟨(R.NET_TXBASE p), 15, 0⟩
def F.NET_RXBASE_BASE (p : Nat) : Fld := ⟨(R.NET_RXBASE p), 15, 0⟩
def F.NET_TXHT_SW (p : Nat) : Fld := ⟨(R.NET_TXHT p), 13, 8⟩
def F.NET_TXHT_HW (p : Nat) : Fld := ⟨(R.NET_TXHT p), 5, 0⟩
def F.NET_RXHT_SW (p : Nat) : Fld := ⟨(R.NET_RXHT p), 13, 8⟩
def F.NET_RXHT_HW (p : Nat) : Fld := ⟨(R.NET_RXHT p), 5, 0⟩
def F.NET_SERCFG_EN (k : Nat) : Fld := ⟨(R.NET_SERCFG k), 31, 31⟩
def F.NET_SERCFG_TIMEOUT (k : Nat) : Fld := ⟨(R.NET_SERCFG k), 30, 21⟩
def F.NET_SERCFG_BAUD (k : Nat) : Fld := ⟨(R.NET_SERCFG k), 19, 0⟩
def F.NET_SERSTAT_CSUM (k : Nat) : Fld := ⟨(R.NET_SERSTAT k), 31, 24⟩
def F.NET_SERSTAT_UNMATCHED (k : Nat) : Fld := ⟨(R.NET_SERSTAT k), 23, 16⟩
def F.NET_SERSTAT_OVERLONG (k : Nat) : Fld := ⟨(R.NET_SERSTAT k), 15, 8⟩
def F.NET_SERSTAT_FAILED (k : Nat) : Fld := ⟨(R.NET_SERSTAT k), 0, 0⟩
def F.NET_450GRP_EN (j : Nat) : Fld := ⟨(R.NET_450GRP j), 31, 31⟩
def F.NET_450GRP_TIMEOUT (j : Nat) : Fld := ⟨(R.NET_450GRP j), 30, 21⟩
def F.NET_450GRP_FAILED (j : Nat) : Fld := ⟨(R.NET_450GRP j), 8, 8⟩
def F.NET_450GRP_GROUP (j : Nat) : Fld := ⟨(R.NET_450GRP j), 7, 0⟩
def F.NET_450SFI_TALKER (j : Nat) : Fld := ⟨(R.NET_450SFI j), 31, 16⟩
def F.NET_450SFI_INST (j : Nat) : Fld := ⟨(R.NET_450SFI j), 13, 0⟩
def F.GRZ_CTRL_EN : Fld := ⟨R.GRZ_CTRL, 31, 31⟩
def F.GRZ_CTRL_OWNER_ONLY : Fld := ⟨R.GRZ_CTRL, 30, 30⟩
def F.GRZ_CTRL_UDP : Fld := ⟨R.GRZ_CTRL, 15, 0⟩
def F.GRZ_STATUS_FAILED : Fld := ⟨R.GRZ_STATUS, 27, 16⟩
def F.GRZ_STATUS_ACTIVE : Fld := ⟨R.GRZ_STATUS, 11, 0⟩
def F.GRZ_GRPOUT_GROUP : Fld := ⟨R.GRZ_GRPOUT, 31, 0⟩
def F.GRZ_GRPIN_GROUP : Fld := ⟨R.GRZ_GRPIN, 31, 0⟩
def F.GRZ_PIBASE_BASE : Fld := ⟨R.GRZ_PIBASE, 21, 0⟩
def F.GRZ_SAFEBASE_BASE : Fld := ⟨R.GRZ_SAFEBASE, 15, 0⟩
def F.GRZ_SVCBASE_BASE : Fld := ⟨R.GRZ_SVCBASE, 15, 0⟩
def F.GRZ_BURST_LIMIT : Fld := ⟨R.GRZ_BURST, 31, 16⟩
def F.GRZ_BURST_BURST : Fld := ⟨R.GRZ_BURST, 15, 0⟩
def F.GRZ_CNT_LATE : Fld := ⟨R.GRZ_CNT, 31, 16⟩
def F.GRZ_CNT_BAD : Fld := ⟨R.GRZ_CNT, 15, 0⟩
def F.GRZ_SVCREQ_DROPS : Fld := ⟨R.GRZ_SVCREQ, 31, 16⟩
def F.GRZ_SVCREQ_REQ : Fld := ⟨R.GRZ_SVCREQ, 7, 0⟩
def F.GRZ_SVCSEND_SEND : Fld := ⟨R.GRZ_SVCSEND, 7, 0⟩
def F.GRZ_FAIL_FAIL (i : Nat) : Fld := ⟨(R.GRZ_FAIL i), 31, 0⟩
def F.GRZ_SADR_EN (n : Nat) : Fld := ⟨(R.GRZ_SADR n), 31, 31⟩
def F.GRZ_SADR_CMD (n : Nat) : Fld := ⟨(R.GRZ_SADR n), 30, 30⟩
def F.GRZ_SADR_BCAST (n : Nat) : Fld := ⟨(R.GRZ_SADR n), 29, 29⟩
def F.GRZ_SADR_SUB_EN (n : Nat) : Fld := ⟨(R.GRZ_SADR n), 28, 28⟩
def F.GRZ_SADR_SUBPOL (n : Nat) : Fld := ⟨(R.GRZ_SADR n), 27, 26⟩
def F.GRZ_SADR_ADDR (n : Nat) : Fld := ⟨(R.GRZ_SADR n), 15, 0⟩
def F.GRZ_SPI_LEN (n : Nat) : Fld := ⟨(R.GRZ_SPI n), 31, 21⟩
def F.GRZ_SPI_OFF (n : Nat) : Fld := ⟨(R.GRZ_SPI n), 15, 0⟩
def F.GRZ_SPO_LEN (n : Nat) : Fld := ⟨(R.GRZ_SPO n), 31, 21⟩
def F.GRZ_SPO_OFF (n : Nat) : Fld := ⟨(R.GRZ_SPO n), 15, 0⟩
def F.GRZ_SCFG_ERR_EN (n : Nat) : Fld := ⟨(R.GRZ_SCFG n), 31, 31⟩
def F.GRZ_SCFG_ERRCTX (n : Nat) : Fld := ⟨(R.GRZ_SCFG n), 30, 23⟩
def F.GRZ_SCFG_LOSS (n : Nat) : Fld := ⟨(R.GRZ_SCFG n), 15, 8⟩
def F.GRZ_SCFG_FILL (n : Nat) : Fld := ⟨(R.GRZ_SCFG n), 7, 0⟩

/-! LAN -/
def F.LAN_CTRL_EN : Fld := ⟨R.LAN_CTRL, 31, 31⟩
def F.LAN_CTRL_CRACK_STOP : Fld := ⟨R.LAN_CTRL, 30, 30⟩
def F.LAN_CTRL_BPP : Fld := ⟨R.LAN_CTRL, 29, 28⟩
def F.LAN_CTRL_DIV : Fld := ⟨R.LAN_CTRL, 27, 24⟩
def F.LAN_CTRL_RAIL_MS : Fld := ⟨R.LAN_CTRL, 23, 16⟩
def F.LAN_CTRL_DEF_BAND : Fld := ⟨R.LAN_CTRL, 15, 13⟩
def F.LAN_STATUS_STATE : Fld := ⟨R.LAN_STATUS, 31, 29⟩
def F.LAN_STATUS_ZBAND : Fld := ⟨R.LAN_STATUS, 19, 16⟩
def F.LAN_STATUS_BAND : Fld := ⟨R.LAN_STATUS, 12, 10⟩
def F.LAN_STATUS_TEMP_INV : Fld := ⟨R.LAN_STATUS, 6, 6⟩
def F.LAN_STATUS_TH_ERR : Fld := ⟨R.LAN_STATUS, 5, 5⟩
def F.LAN_STATUS_CRACK : Fld := ⟨R.LAN_STATUS, 4, 4⟩
def F.LAN_STATUS_CRACK_SEEN : Fld := ⟨R.LAN_STATUS, 3, 3⟩
def F.LAN_STATUS_BANDCHG : Fld := ⟨R.LAN_STATUS, 2, 2⟩
def F.LAN_STATUS_OVF : Fld := ⟨R.LAN_STATUS, 1, 1⟩
def F.LAN_STATUS_DONE : Fld := ⟨R.LAN_STATUS, 0, 0⟩
def F.LAN_GEOM_WIDTH : Fld := ⟨R.LAN_GEOM, 26, 16⟩
def F.LAN_GEOM_HEIGHT : Fld := ⟨R.LAN_GEOM, 9, 0⟩
def F.LAN_FBBASE_BASE : Fld := ⟨R.LAN_FBBASE, 15, 0⟩
def F.LAN_REQ_IRQ : Fld := ⟨R.LAN_REQ, 31, 31⟩
def F.LAN_REQ_FORCE : Fld := ⟨R.LAN_REQ, 30, 30⟩
def F.LAN_REQ_START : Fld := ⟨R.LAN_REQ, 25, 16⟩
def F.LAN_REQ_COUNT : Fld := ⟨R.LAN_REQ, 9, 0⟩
def F.LAN_QUEUE_ACTIVE : Fld := ⟨R.LAN_QUEUE, 31, 31⟩
def F.LAN_QUEUE_REWRITE : Fld := ⟨R.LAN_QUEUE, 30, 30⟩
def F.LAN_QUEUE_CURSOR : Fld := ⟨R.LAN_QUEUE, 25, 16⟩
def F.LAN_QUEUE_DEPTH : Fld := ⟨R.LAN_QUEUE, 5, 0⟩
def F.LAN_CNT_OVF : Fld := ⟨R.LAN_CNT, 31, 16⟩
def F.LAN_CNT_LINES : Fld := ⟨R.LAN_CNT, 15, 0⟩
def F.LAN_TEMP_SRC : Fld := ⟨R.LAN_TEMP, 31, 31⟩
def F.LAN_TEMP_TIN : Fld := ⟨R.LAN_TEMP, 28, 24⟩
def F.LAN_TEMP_SET : Fld := ⟨R.LAN_TEMP, 15, 0⟩
def F.LAN_TSCALE_SCALE : Fld := ⟨R.LAN_TSCALE, 31, 0⟩
def F.LAN_TOFF_OFF : Fld := ⟨R.LAN_TOFF, 31, 0⟩
def F.LAN_TNOW_VALID : Fld := ⟨R.LAN_TNOW, 31, 31⟩
def F.LAN_TNOW_T : Fld := ⟨R.LAN_TNOW, 15, 0⟩
def F.LAN_TH_LO_TH : Fld := ⟨R.LAN_TH_LO, 31, 0⟩
def F.LAN_TH_HI_TH : Fld := ⟨R.LAN_TH_HI, 23, 0⟩
def F.LAN_CRACK_LIMIT : Fld := ⟨R.LAN_CRACK, 31, 16⟩
def F.LAN_CRACK_OHM : Fld := ⟨R.LAN_CRACK, 15, 0⟩
def F.LAN_DRV_GATE (b : Nat) : Fld := ⟨(R.LAN_DRV b), 15, 8⟩
def F.LAN_DRV_SETUP (b : Nat) : Fld := ⟨(R.LAN_DRV b), 7, 0⟩
def F.LAN_ZONE_EN (z : Nat) : Fld := ⟨(R.LAN_ZONE z), 31, 31⟩
def F.LAN_ZONE_HZ (z : Nat) : Fld := ⟨(R.LAN_ZONE z), 30, 24⟩
def F.LAN_ZONE_OFFSET (z : Nat) : Fld := ⟨(R.LAN_ZONE z), 23, 10⟩
def F.LAN_ZONE_START (z : Nat) : Fld := ⟨(R.LAN_ZONE z), 9, 0⟩
def F.LAN_DIRTY_DIRTY (i : Nat) : Fld := ⟨(R.LAN_DIRTY i), 31, 0⟩

/-! SYS -/
def F.SYS_RESET_AON_LOST : Fld := ⟨R.SYS_RESET, 4, 4⟩
def F.SYS_RESET_AFTERGLOW : Fld := ⟨R.SYS_RESET, 3, 3⟩
def F.SYS_RESET_PIN : Fld := ⟨R.SYS_RESET, 2, 2⟩
def F.SYS_RESET_POR : Fld := ⟨R.SYS_RESET, 1, 1⟩
def F.SYS_STRAP_BOOT_STOP : Fld := ⟨R.SYS_STRAP, 2, 2⟩
def F.SYS_STRAP_REF_EXT : Fld := ⟨R.SYS_STRAP, 1, 1⟩
def F.SYS_STRAP_PAIR_POS : Fld := ⟨R.SYS_STRAP, 0, 0⟩
def F.SYS_PWR_HOLD_V : Fld := ⟨R.SYS_PWR, 31, 24⟩
def F.SYS_PWR_HOLD_LOW : Fld := ⟨R.SYS_PWR, 8, 8⟩
def F.SYS_PWR_RAIL_OK : Fld := ⟨R.SYS_PWR, 7, 4⟩
def F.SYS_PWR_PF_PIN : Fld := ⟨R.SYS_PWR, 0, 0⟩
def F.SYS_CLK_RETURN : Fld := ⟨R.SYS_CLK, 31, 31⟩
def F.SYS_CLK_PLL_LOCK : Fld := ⟨R.SYS_CLK, 2, 2⟩
def F.SYS_CLK_EXT_OK : Fld := ⟨R.SYS_CLK, 1, 1⟩
def F.SYS_CLK_REF : Fld := ⟨R.SYS_CLK, 0, 0⟩
def F.SYS_TEMP_HOT : Fld := ⟨R.SYS_TEMP, 31, 31⟩
def F.SYS_TEMP_TJ : Fld := ⟨R.SYS_TEMP, 15, 0⟩

/-! TMX -/
def F.TMX_CTRL_EN : Fld := ⟨R.TMX_CTRL, 31, 31⟩
def F.TMX_SEL_EN (k : Nat) : Fld := ⟨(R.TMX_SEL k), 31, 31⟩
def F.TMX_SEL_INV (k : Nat) : Fld := ⟨(R.TMX_SEL k), 30, 30⟩
def F.TMX_SEL_SEL (k : Nat) : Fld := ⟨(R.TMX_SEL k), 9, 0⟩

/-! LOOP -/
def F.LOOP_CFG_EN (e : Nat) : Fld := ⟨(R.LOOP_CFG e), 31, 31⟩
def F.LOOP_CFG_SPSRC (e : Nat) : Fld := ⟨(R.LOOP_CFG e), 30, 29⟩
def F.LOOP_CFG_FBSRC (e : Nat) : Fld := ⟨(R.LOOP_CFG e), 28, 27⟩
def F.LOOP_CFG_SPUNIT (e : Nat) : Fld := ⟨(R.LOOP_CFG e), 26, 22⟩
def F.LOOP_CFG_FBUNIT (e : Nat) : Fld := ⟨(R.LOOP_CFG e), 21, 17⟩
def F.LOOP_CFG_OUT_EN (e : Nat) : Fld := ⟨(R.LOOP_CFG e), 4, 4⟩
def F.LOOP_CFG_OUT (e : Nat) : Fld := ⟨(R.LOOP_CFG e), 3, 0⟩
def F.LOOP_PER_PERIOD (e : Nat) : Fld := ⟨(R.LOOP_PER e), 31, 20⟩
def F.LOOP_PER_OFFSET (e : Nat) : Fld := ⟨(R.LOOP_PER e), 18, 0⟩
def F.LOOP_KP_KP (e : Nat) : Fld := ⟨(R.LOOP_KP e), 31, 0⟩
def F.LOOP_KI_KI (e : Nat) : Fld := ⟨(R.LOOP_KI e), 31, 0⟩
def F.LOOP_KD_KD (e : Nat) : Fld := ⟨(R.LOOP_KD e), 31, 0⟩
def F.LOOP_KF_KF (e : Nat) : Fld := ⟨(R.LOOP_KF e), 31, 0⟩
def F.LOOP_KB_KB (e : Nat) : Fld := ⟨(R.LOOP_KB e), 31, 0⟩
def F.LOOP_SPSC_SPSC (e : Nat) : Fld := ⟨(R.LOOP_SPSC e), 31, 0⟩
def F.LOOP_FBSC_FBSC (e : Nat) : Fld := ⟨(R.LOOP_FBSC e), 31, 0⟩
def F.LOOP_LIM_OMAX (e : Nat) : Fld := ⟨(R.LOOP_LIM e), 31, 16⟩
def F.LOOP_LIM_OMIN (e : Nat) : Fld := ⟨(R.LOOP_LIM e), 15, 0⟩
def F.LOOP_SP_SP (e : Nat) : Fld := ⟨(R.LOOP_SP e), 31, 0⟩
def F.LOOP_TRK_TRK (e : Nat) : Fld := ⟨(R.LOOP_TRK e), 15, 0⟩
def F.LOOP_INT_I (e : Nat) : Fld := ⟨(R.LOOP_INT e), 31, 0⟩
def F.LOOP_STAT_CODE (e : Nat) : Fld := ⟨(R.LOOP_STAT e), 31, 16⟩
def F.LOOP_STAT_NONFIN (e : Nat) : Fld := ⟨(R.LOOP_STAT e), 4, 4⟩
def F.LOOP_STAT_CONFLICT (e : Nat) : Fld := ⟨(R.LOOP_STAT e), 3, 3⟩
def F.LOOP_STAT_TRACK (e : Nat) : Fld := ⟨(R.LOOP_STAT e), 2, 2⟩
def F.LOOP_STAT_SAT (e : Nat) : Fld := ⟨(R.LOOP_STAT e), 1, 1⟩
def F.LOOP_STAT_RUN (e : Nat) : Fld := ⟨(R.LOOP_STAT e), 0, 0⟩

/-! ## Access and reset (the Access and Reset columns) -/

def rowsSys : List RegInfo := [
  ⟨0x40000000, 0, 1, 0, 1, 0, 0, 0, 0, 0, 0⟩ /- SYS_ID -/,
  ⟨0x40000004, 0, 1, 0, 1, 0, 0, 0, 0, 0, 0⟩ /- SYS_CAP -/,
  ⟨0x40000008, 0, 1, 0, 1, 0, 0x1E, 0, 0, 0, 0⟩ /- SYS_RESET -/,
  ⟨0x4000000C, 0, 1, 0, 1, 0, 0, 0, 0, 0, 0⟩ /- SYS_STRAP -/,
  ⟨0x40000010, 0, 1, 0, 1, 0, 0, 0, 0, 0xF1, 0⟩ /- SYS_PWR -/,
  ⟨0x40000014, 0, 1, 0, 1, 0, 0, 0, 0x80000000, 0, 0⟩ /- SYS_CLK -/,
  ⟨0x40000018, 0, 1, 0, 1, 0, 0x80000000, 0, 0, 0, 0⟩ /- SYS_TEMP -/]

def rowsTick : List RegInfo := [
  ⟨0x40010000, 0, 1, 0, 1, 0x3, 0, 0, 0, 0x1, 0⟩ /- TICK_PERIOD -/,
  ⟨0x40010004, 0, 1, 0, 1, 0xFF02, 0, 0, 0x1, 0x302, 0xFF02⟩ /- TICK_CTRL -/,
  ⟨0x40010008, 0, 1, 0, 1, 0xFFFFFFFF, 0, 0, 0, 0, 0⟩ /- TICK_STROBE -/,
  ⟨0x4001000C, 0, 1, 0, 1, 0xFF, 0, 0, 0, 0xA, 0⟩ /- TICK_STROBE_WIDTH -/,
  ⟨0x40010014, 0, 1, 0, 1, 0, 0, 0, 0, 0, 0⟩ /- TICK_NUM_HI -/,
  ⟨0x40010010, 0, 1, 0, 1, 0, 0, 0, 0, 0, 0⟩ /- TICK_NUM_LO -/,
  ⟨0x40010018, 0, 1, 0, 1, 0, 0, 0, 0, 0, 0⟩ /- TICK_PHASE -/,
  ⟨0x4001001C, 0, 1, 0, 1, 0, 0x1F, 0, 0, 0, 0⟩ /- TICK_STATUS -/,
  ⟨0x40010020, 0, 1, 0, 1, 0, 0, 0, 0, 0, 0⟩ /- TICK_FCNT0 -/,
  ⟨0x40010024, 0, 1, 0, 1, 0, 0, 0, 0, 0, 0⟩ /- TICK_FCNT1 -/,
  ⟨0x4001002C, 0, 1, 0, 1, 0, 0, 0, 0, 0, 0⟩ /- TICK_FAULT_TICK_HI -/,
  ⟨0x40010028, 0, 1, 0, 1, 0, 0, 0, 0, 0, 0⟩ /- TICK_FAULT_TICK_LO -/,
  ⟨0x40010030, 0, 1, 0, 1, 0, 0, 0, 0, 0, 0⟩ /- TICK_HWM -/,
  ⟨0x40010034, 0, 1, 0, 1, 0, 0, 0, 0, 0, 0⟩ /- TICK_LOAD -/]

def rowsCml : List RegInfo := [
  ⟨0x40020000, 0, 1, 0, 1, 0, 0, 0, 0, 0, 0⟩ /- CML_STATUS -/,
  ⟨0x40020004, 0, 1, 0, 1, 0, 0x1, 0, 0, 0, 0⟩ /- CML_EXC -/,
  ⟨0x40020008, 0, 1, 0, 1, 0, 0, 0, 0, 0, 0⟩ /- CML_EXC_PC -/,
  ⟨0x4002000C, 0, 1, 0, 1, 0, 0, 0, 0xC00000FF, 0, 0⟩ /- CML_DBG -/,
  ⟨0x40020010, 0, 1, 0, 1, 0x3FFFFF, 0, 0, 0, 0, 0x3FFFFF⟩ /- CML_PTBASE -/,
  ⟨0x40020014, 0, 1, 0, 1, 0x7FFF, 0, 0, 0, 0, 0x7FFF⟩ /- CML_PTCNT -/,
  ⟨0x4002001C, 0, 1, 0, 1, 0, 0, 0, 0, 0, 0⟩ /- CML_STAMP_HI -/,
  ⟨0x40020018, 0, 1, 0, 1, 0, 0, 0, 0, 0, 0⟩ /- CML_STAMP_LO -/,
  ⟨0x40020020, 0, 1, 0, 1, 0, 0, 0, 0, 0, 0⟩ /- CML_DIRTY -/,
  ⟨0x40020024, 0, 1, 0, 1, 0, 0, 0, 0xFF, 0, 0⟩ /- CML_TRIG -/,
  ⟨0x40020040, 0, 1, 0x4, 6, 0, 0, 0, 0, 0x1000000, 0⟩ /- CML_COREn -/,
  ⟨0x40020080, 0, 1, 0x4, 8, 0xFFFFFFFF, 0, 0, 0, 0, 0⟩ /- CML_BPn -/,
  ⟨0x40021000, 0, 1, 0x10, 256, 0xFFFDFFFF, 0, 0, 0, 0x2000000, 0x3000000⟩ /- CML_TCFGc -/,
  ⟨0x40021004, 0, 1, 0x10, 256, 0xFFFFFFFF, 0, 0, 0, 0x10000, 0⟩ /- CML_TPERc -/,
  ⟨0x40021008, 0, 1, 0x10, 256, 0xFFFF, 0, 0, 0, 0, 0⟩ /- CML_TENTc -/,
  ⟨0x4002100C, 0, 1, 0x10, 256, 0, 0x60, 0, 0, 0, 0⟩ /- CML_TSTATc -/]

def rowsPrg : List RegInfo := [
  ⟨0x40030000, 0, 1, 0, 1, 0, 0, 0, 0xFFFF000F, 0, 0⟩ /- PRG_CMD -/,
  ⟨0x40030004, 0, 1, 0, 1, 0, 0, 0, 0, 0, 0⟩ /- PRG_MODE -/,
  ⟨0x4003000C, 0, 1, 0, 1, 0x1, 0, 0, 0, 0, 0x1⟩ /- PRG_HOLD_OWN -/,
  ⟨0x40030008, 0, 1, 0, 1, 0xFFFFFF03, 0, 0, 0, 0x17700A02, 0xFFFFFF03⟩ /- PRG_CTRL -/,
  ⟨0x40030010, 0, 1, 0, 1, 0, 0x21, 0, 0, 0, 0⟩ /- PRG_STATUS -/,
  ⟨0x40030014, 0, 1, 0, 1, 0, 0, 0, 0, 0x24, 0⟩ /- PRG_ROLES: the role record, with a slot for each role (assumption log 2) -/,
  ⟨0x40030018, 0, 1, 0, 1, 0, 0, 0, 0, 0, 0⟩ /- PRG_LIT_VER -/,
  ⟨0x4003001C, 0, 1, 0, 1, 0, 0, 0, 0, 0, 0⟩ /- PRG_SHADE_VER -/,
  ⟨0x40030020, 0, 1, 0, 1, 0, 0, 0, 0, 0, 0⟩ /- PRG_CAND_VER -/,
  ⟨0x40030024, 0, 1, 0, 1, 0, 0, 0, 0, 0, 0⟩ /- PRG_TRIAL_CNT -/,
  ⟨0x40030028, 0, 1, 0, 1, 0, 0, 0, 0, 0, 0⟩ /- PRG_CKPT -/,
  ⟨0x4003002C, 0, 1, 0, 1, 0, 0, 0, 0, 0, 0⟩ /- PRG_XCHG -/]

def rowsPrism : List RegInfo := [
  ⟨0x40040000, 0, 1, 0, 1, 0x7, 0, 0, 0x8, 0x7, 0x4⟩ /- PRISM_CTRL -/,
  ⟨0x40040004, 0, 1, 0, 1, 0x3F, 0, 0, 0, 0xA, 0⟩ /- PRISM_GRID -/,
  ⟨0x40040008, 0, 1, 0, 1, 0xFFFF7FFF, 0, 0, 0, 0xA0A2666, 0xFFFF0000⟩ /- PRISM_VOTE -/,
  ⟨0x4004000C, 0, 1, 0, 1, 0x7FFFFFFF, 0, 0, 0, 0x73330500, 0x7FFFFFFF⟩ /- PRISM_PRIOR -/,
  ⟨0x40040010, 0, 1, 0, 1, 0xFF00, 0, 0, 0, 0x2400, 0xFF00⟩ /- PRISM_EST -/,
  ⟨0x40040014, 0, 1, 0, 1, 0xFFFF00, 0, 0, 0, 0x320500, 0xFFFF00⟩ /- PRISM_MASKCFG -/,
  ⟨0x40040018, 0, 1, 0, 1, 0, 0x1E08, 0, 0, 0, 0⟩ /- PRISM_STATUS -/,
  ⟨0x4004001C, 0, 1, 0, 1, 0, 0, 0, 0, 0, 0⟩ /- PRISM_VALID -/,
  ⟨0x40040020, 0, 1, 0, 1, 0, 0, 0, 0, 0, 0⟩ /- PRISM_VOTED -/,
  ⟨0x40040024, 0, 1, 0, 1, 0, 0, 0, 0, 0, 0⟩ /- PRISM_MASKED -/,
  ⟨0x40040028, 0, 1, 0, 1, 0, 0xFFFFFF, 0, 0, 0, 0⟩ /- PRISM_SLIPPED -/,
  ⟨0x4004002C, 0, 1, 0, 1, 0, 0, 0, 0, 0, 0⟩ /- PRISM_TBL_FAIL -/,
  ⟨0x40040030, 0, 1, 0, 1, 0xFFFFFFFF, 0, 0, 0, 0, 0⟩ /- PRISM_PRED_N -/,
  ⟨0x40040034, 0, 1, 0, 1, 0xFFFFFFFF, 0, 0, 0, 0, 0⟩ /- PRISM_PRED_E -/,
  ⟨0x40040038, 0, 1, 0, 1, 0xFFFF, 0, 0, 0, 0, 0⟩ /- PRISM_PRED_HDG -/,
  ⟨0x4004003C, 0, 1, 0, 1, 0, 0, 0, 0, 0, 0⟩ /- PRISM_CENTRE_N -/,
  ⟨0x40040040, 0, 1, 0, 1, 0, 0, 0, 0, 0, 0⟩ /- PRISM_CENTRE_E -/,
  ⟨0x40040048, 0, 1, 0, 1, 0, 0, 0, 0, 0, 0⟩ /- PRISM_RES_TICK_HI -/,
  ⟨0x40040044, 0, 1, 0, 1, 0, 0, 0, 0, 0, 0⟩ /- PRISM_RES_TICK_LO -/,
  ⟨0x40040100, 0, 1, 0x10, 24, 0xFFFFFFFF, 0, 0, 0, 0x10000, 0⟩ /- PRISM_SCFGn -/,
  ⟨0x40040104, 0, 1, 0x10, 24, 0xFFFFFFFF, 0, 0, 0, 0, 0⟩ /- PRISM_STIMEn -/,
  ⟨0x40040108, 0, 1, 0x10, 24, 0x7FFF, 0, 0, 0, 0, 0⟩ /- PRISM_SCONFn -/,
  ⟨0x4004010C, 0, 1, 0x10, 24, 0, 0, 0, 0, 0, 0⟩ /- PRISM_SSTATn -/]

def rowsFilt : List RegInfo := [
  ⟨0x40050000, 0, 1, 0, 1, 0xFF07, 0, 0, 0, 0x1401, 0xFF06⟩ /- FILT_FB_CTRL -/,
  ⟨0x40050004, 0, 1, 0, 1, 0xFFFF, 0, 0, 0, 0x2424, 0xFFFF⟩ /- FILT_FB_GATE -/,
  ⟨0x40050008, 0, 1, 0, 1, 0xFFFFFFFF, 0, 0, 0, 0x320014, 0xFFFFFFFF⟩ /- FILT_FB_NOISE -/,
  ⟨0x4005000C, 0, 1, 0, 1, 0, 0x80, 0, 0, 0, 0⟩ /- FILT_FB_STATUS -/,
  ⟨0x40050010, 0, 1, 0, 1, 0, 0, 0, 0x80000000, 0, 0⟩ /- FILT_FB_HWM -/,
  ⟨0x40050014, 0, 1, 0, 1, 0, 0xFFFFFF, 0, 0, 0, 0⟩ /- FILT_OVLD -/,
  ⟨0x40050018, 0, 1, 0, 1, 0, 0, 0, 0, 0, 0⟩ /- FILT_WARM -/,
  ⟨0x40050100, 0, 1, 0x10, 24, 0xC0001FFF, 0, 0, 0, 0x30, 0⟩ /- FILT_CHn -/,
  ⟨0x40050104, 0, 1, 0x10, 24, 0xFFFFFFFF, 0, 0, 0, 0x2F800000, 0x7800000⟩ /- FILT_GLn -/,
  ⟨0x40050108, 0, 1, 0x10, 24, 0, 0, 0, 0, 0, 0⟩ /- FILT_GDn -/,
  ⟨0x4005010C, 0, 1, 0x10, 24, 0, 0x3, 0, 0, 0, 0⟩ /- FILT_STATn -/,
  ⟨0x40050280, 0, 1, 0x4, 24, 0, 0, 0, 0, 0, 0⟩ /- FILT_OUTn -/,
  ⟨0x40050300, 0, 1, 0x10, 24, 0xFF80001F, 0, 0, 0, 0x2F800000, 0x7800000⟩ /- FILT_DGLu -/,
  ⟨0x40050304, 0, 1, 0x10, 24, 0xFFFFFFFF, 0, 0, 0, 0, 0⟩ /- FILT_DTHRu -/,
  ⟨0x40050308, 0, 1, 0x10, 24, 0, 0x3, 0, 0, 0, 0⟩ /- FILT_DSTATu -/]

def rowsAzs : List RegInfo := [
  ⟨0x40060000, 0, 1, 0, 1, 0xFF04, 0, 0, 0x3, 0x1004, 0xFF04⟩ /- AZS_CTRL -/,
  ⟨0x40060004, 0, 1, 0, 1, 0, 0x7E, 0, 0, 0, 0⟩ /- AZS_STATUS -/,
  ⟨0x40060008, 0, 1, 0, 1, 0, 0, 0, 0, 0, 0⟩ /- AZS_ADM_WCC -/,
  ⟨0x4006000C, 0, 1, 0, 1, 0, 0, 0, 0, 0, 0⟩ /- AZS_ADM_LIM -/,
  ⟨0x40060010, 0, 1, 0, 1, 0, 0, 0, 0, 0, 0⟩ /- AZS_ADM_INFO -/,
  ⟨0x40060014, 0, 1, 0, 1, 0xFFFFFFFF, 0, 0, 0, 0x2B800000, 0xFFFFFFFF⟩ /- AZS_PIVOT_EPS -/,
  ⟨0x40060018, 0, 1, 0, 1, 0xFFFFFFFF, 0, 0, 0, 0x35800000, 0xFFFFFFFF⟩ /- AZS_DELTA -/,
  ⟨0x4006001C, 0, 1, 0, 1, 0, 0, 0, 0, 0, 0⟩ /- AZS_LAST -/,
  ⟨0x40060020, 0, 1, 0, 1, 0, 0, 0, 0, 0, 0⟩ /- AZS_CONT -/,
  ⟨0x40060024, 0, 1, 0, 1, 0, 0, 0, 0, 0, 0⟩ /- AZS_DLM_CNT -/,
  ⟨0x40060028, 0, 1, 0, 1, 0, 0, 0, 0, 0, 0⟩ /- AZS_FAIL_CNT -/,
  ⟨0x4006002C, 0, 1, 0, 1, 0, 0, 0, 0, 0, 0⟩ /- AZS_DLM_PROB -/,
  ⟨0x40060034, 0, 1, 0, 1, 0, 0, 0, 0, 0, 0⟩ /- AZS_DLM_TICK_HI -/,
  ⟨0x40060030, 0, 1, 0, 1, 0, 0, 0, 0, 0, 0⟩ /- AZS_DLM_TICK_LO -/,
  ⟨0x40060040, 0, 1, 0x8, 8, 0xE00000FF, 0, 0, 0, 0x60000002, 0xE0000000⟩ /- AZS_POLc -/,
  ⟨0x40060044, 0, 1, 0x8, 8, 0xFFFFFFFF, 0, 0, 0, 0x3A800000, 0xFFFFFFFF⟩ /- AZS_POLRc -/]

def rowsShd : List RegInfo := [
  ⟨0x40070000, 0, 1, 0, 1, 0x3, 0, 0, 0x4, 0x2, 0x2⟩ /- SHD_CTRL -/,
  ⟨0x40070004, 0, 1, 0, 1, 0, 0x3F, 0, 0, 0, 0⟩ /- SHD_STATUS -/,
  ⟨0x40070008, 0, 1, 0, 1, 0, 0, 0, 0, 0, 0⟩ /- SHD_ACTIVE -/,
  ⟨0x4007000C, 0, 1, 0, 1, 0, 0, 0, 0xFF, 0, 0⟩ /- SHD_DETECT -/,
  ⟨0x40070010, 0, 1, 0, 1, 0, 0, 0, 0x3F, 0, 0⟩ /- SHD_REBASE -/,
  ⟨0x40070014, 0, 1, 0, 1, 0xFFFFFFFF, 0, 0, 0, 0, 0⟩ /- SHD_ABSORB_LO -/,
  ⟨0x40070018, 0, 1, 0, 1, 0xFFFFFFFF, 0, 0, 0, 0, 0⟩ /- SHD_ABSORB_HI -/,
  ⟨0x4007001C, 0, 1, 0, 1, 0, 0, 0, 0, 0, 0⟩ /- SHD_BASE_LO -/,
  ⟨0x40070020, 0, 1, 0, 1, 0, 0, 0, 0, 0, 0⟩ /- SHD_BASE_HI -/,
  ⟨0x40070028, 0, 1, 0, 1, 0, 0, 0, 0, 0, 0⟩ /- SHD_PROMO_TICK_HI -/,
  ⟨0x40070024, 0, 1, 0, 1, 0, 0, 0, 0, 0, 0⟩ /- SHD_PROMO_TICK_LO -/,
  ⟨0x4007002C, 0, 1, 0, 1, 0, 0, 0, 0, 0, 0⟩ /- SHD_LASTDET -/,
  ⟨0x40070040, 0, 1, 0x4, 8, 0, 0, 0, 0, 0, 0⟩ /- SHD_PENDi -/,
  ⟨0x40070030, 0, 1, 0, 1, 0xFFFFFFFF, 0, 0, 0, 0, 0⟩ /- SHD_WSE_POS -/,
  ⟨0x40070034, 0, 1, 0, 1, 0xFFFFFFFF, 0, 0, 0, 0, 0⟩ /- SHD_WSE_HDG -/,
  ⟨0x40070038, 0, 1, 0, 1, 0xFFFFFF3F, 0, 0, 0, 0, 0⟩ /- SHD_WSE_INFO -/,
  ⟨0x4007003C, 0, 1, 0, 1, 0, 0, 0, 0, 0, 0⟩ /- SHD_CNT -/,
  ⟨0x40070100, 0, 1, 0x4, 64, 0xFFFFFFFF, 0, 0, 0, 0, 0⟩ /- SHD_SCENs -/,
  ⟨0x40070400, 0, 1, 0x4, 256, 0xF03F00FF, 0, 0, 0, 0, 0⟩ /- SHD_MAPd -/]

def rowsLoop0 : List RegInfo := [
  ⟨0x40080000, 0, 1, 0, 1, 0, 0, 0, 0, 0, 0⟩ /- LOOP_STATUS -/,
  ⟨0x40080004, 0, 1, 0, 1, 0xFFFFFFFF, 0, 0, 0, 0, 0⟩ /- LOOP_GPIO_DIR_LO -/,
  ⟨0x40080008, 0, 1, 0, 1, 0xFFFF, 0, 0, 0, 0, 0⟩ /- LOOP_GPIO_DIR_HI -/,
  ⟨0x4008000C, 0, 1, 0, 1, 0xFFFFFFFF, 0, 0, 0, 0, 0⟩ /- LOOP_GPIO_CMD_LO -/,
  ⟨0x40080010, 0, 1, 0, 1, 0xFFFF, 0, 0, 0, 0, 0⟩ /- LOOP_GPIO_CMD_HI -/,
  ⟨0x40080014, 0, 1, 0, 1, 0xFFFFFFFF, 0, 0, 0, 0, 0⟩ /- LOOP_GPIO_OUT_LO -/,
  ⟨0x40080018, 0, 1, 0, 1, 0xFFFF, 0, 0, 0, 0, 0⟩ /- LOOP_GPIO_OUT_HI -/,
  ⟨0x4008001C, 0, 1, 0, 1, 0xFFFFFFFF, 0, 0, 0, 0, 0⟩ /- LOOP_GPIO_SUB_LO -/,
  ⟨0x40080020, 0, 1, 0, 1, 0xFFFF, 0, 0, 0, 0, 0⟩ /- LOOP_GPIO_SUB_HI -/,
  ⟨0x40080024, 0, 1, 0, 1, 0xFFFFFFFF, 0, 0, 0, 0, 0xFFFFFFFF⟩ /- LOOP_GPIO_HOLD_LO -/,
  ⟨0x40080028, 0, 1, 0, 1, 0xFFFF, 0, 0, 0, 0, 0xFFFF⟩ /- LOOP_GPIO_HOLD_HI -/,
  ⟨0x4008002C, 0, 1, 0, 1, 0, 0, 0, 0, 0, 0⟩ /- LOOP_GPIO_IN_LO -/,
  ⟨0x40080030, 0, 1, 0, 1, 0, 0, 0, 0, 0, 0⟩ /- LOOP_GPIO_IN_HI -/,
  ⟨0x40080040, 0, 1, 0x8, 16, 0xE000FFFF, 0, 0, 0, 0, 0x20000000⟩ /- LOOP_AOCFGa -/,
  ⟨0x40080044, 0, 1, 0x8, 16, 0xFFFF, 0, 0, 0, 0, 0⟩ /- LOOP_AOa -/,
  ⟨0x40080100, 0, 1, 0x10, 8, 0xF0FFFF00, 0, 0, 0, 0xA0200, 0xFFFF00⟩ /- LOOP_PCFGp -/,
  ⟨0x40080104, 0, 1, 0x10, 8, 0xFFFFFFFF, 0, 0, 0, 0, 0⟩ /- LOOP_PCNTp -/,
  ⟨0x40080108, 0, 1, 0x10, 8, 0, 0, 0, 0, 0, 0⟩ /- LOOP_PRATEp -/,
  ⟨0x4008010C, 0, 1, 0x10, 8, 0, 0, 0, 0, 0, 0⟩ /- LOOP_PIDXp -/,
  ⟨0x40080400, 0, 1, 0x40, 32, 0xFFFE001F, 0, 0, 0, 0, 0⟩ /- LOOP_CFGe -/,
  ⟨0x40080404, 0, 1, 0x40, 32, 0xFFF7FFFF, 0, 0, 0, 0xA00000, 0⟩ /- LOOP_PERe -/,
  ⟨0x40080408, 0, 1, 0x40, 32, 0xFFFFFFFF, 0, 0, 0, 0, 0⟩ /- LOOP_KPe -/,
  ⟨0x4008040C, 0, 1, 0x40, 32, 0xFFFFFFFF, 0, 0, 0, 0, 0⟩ /- LOOP_KIe -/,
  ⟨0x40080410, 0, 1, 0x40, 32, 0xFFFFFFFF, 0, 0, 0, 0, 0⟩ /- LOOP_KDe -/]

def rowsLoop1 : List RegInfo := [
  ⟨0x40080414, 0, 1, 0x40, 32, 0xFFFFFFFF, 0, 0, 0, 0, 0⟩ /- LOOP_KFe -/,
  ⟨0x40080418, 0, 1, 0x40, 32, 0xFFFFFFFF, 0, 0, 0, 0, 0xFFFFFFFF⟩ /- LOOP_KBe -/,
  ⟨0x4008041C, 0, 1, 0x40, 32, 0xFFFFFFFF, 0, 0, 0, 0x3F800000, 0⟩ /- LOOP_SPSCe -/,
  ⟨0x40080420, 0, 1, 0x40, 32, 0xFFFFFFFF, 0, 0, 0, 0x3F800000, 0⟩ /- LOOP_FBSCe -/,
  ⟨0x40080424, 0, 1, 0x40, 32, 0xFFFFFFFF, 0, 0, 0, 0xFFFF0000, 0xFFFFFFFF⟩ /- LOOP_LIMe -/,
  ⟨0x40080428, 0, 1, 0x40, 32, 0xFFFFFFFF, 0, 0, 0, 0, 0⟩ /- LOOP_SPe -/,
  ⟨0x4008042C, 0, 1, 0x40, 32, 0xFFFF, 0, 0, 0, 0, 0xFFFF⟩ /- LOOP_TRKe -/,
  ⟨0x40080430, 0, 1, 0x40, 32, 0, 0, 0, 0, 0, 0⟩ /- LOOP_INTe -/,
  ⟨0x40080434, 0, 1, 0x40, 32, 0, 0x18, 0, 0, 0, 0⟩ /- LOOP_STATe -/]

def rowsLoop : List RegInfo := rowsLoop0 ++ rowsLoop1

def rowsGnss0 : List RegInfo := [
  ⟨0x40090000, 0, 1, 0, 1, 0xFC0F00FF, 0, 0, 0, 0xFC0F000A, 0x4000000⟩ /- GNSS_CTRL -/,
  ⟨0x40090004, 0, 1, 0, 1, 0, 0, 0, 0xFFFF000F, 0, 0⟩ /- GNSS_CMD -/,
  ⟨0x40090008, 0, 1, 0, 1, 0, 0, 0, 0, 0, 0⟩ /- GNSS_STATUS -/,
  ⟨0x4009000C, 0, 1, 0, 1, 0, 0, 0, 0, 0, 0⟩ /- GNSS_TTFF -/,
  ⟨0x40090010, 0, 1, 0, 1, 0, 0, 0, 0, 0, 0⟩ /- GNSS_CHK -/,
  ⟨0x40090014, 0, 1, 0, 1, 0, 0x3F, 0, 0, 0, 0⟩ /- GNSS_CHK_SEEN -/,
  ⟨0x40090018, 0, 1, 0, 1, 0xFFFFFFFF, 0, 0, 0, 0x6370A3C, 0xFFFFFF00⟩ /- GNSS_CHKCFG -/,
  ⟨0x4009001C, 0, 1, 0, 1, 0xFFFFFFFF, 0, 0, 0, 0xA0F00C8, 0xFFFFFFFF⟩ /- GNSS_CHKTOL -/,
  ⟨0x40090020, 0, 1, 0, 1, 0xFFFF00, 0, 0, 0, 0xA2100, 0xFFFF00⟩ /- GNSS_ACQ -/,
  ⟨0x40090024, 0, 1, 0, 1, 0, 0, 0, 0, 0xFFFFFFFF, 0⟩ /- GNSS_TUNC -/,
  ⟨0x40090028, 0, 1, 0, 1, 0, 0, 0, 0, 0xFFFF, 0⟩ /- GNSS_KEPT -/,
  ⟨0x40090030, 0, 1, 0, 1, 0xFFFFFFFF, 0, 0, 0, 0, 0⟩ /- GNSS_BL_X -/,
  ⟨0x40090034, 0, 1, 0, 1, 0xFFFFFFFF, 0, 0, 0, 0, 0⟩ /- GNSS_BL_Y -/,
  ⟨0x40090038, 0, 1, 0, 1, 0xFFFFFFFF, 0, 0, 0, 0, 0⟩ /- GNSS_BL_Z -/,
  ⟨0x4009003C, 0, 1, 0, 1, 0xFFFF, 0, 0, 0, 0x141E, 0xFFFF⟩ /- GNSS_BL_CFG -/,
  ⟨0x40090040, 0, 1, 0, 1, 0xFFFFFFFF, 0, 0, 0, 0, 0⟩ /- GNSS_ANT0_X -/,
  ⟨0x40090044, 0, 1, 0, 1, 0xFFFFFFFF, 0, 0, 0, 0, 0⟩ /- GNSS_ANT0_Y -/,
  ⟨0x40090048, 0, 1, 0, 1, 0xFFFFFFFF, 0, 0, 0, 0, 0⟩ /- GNSS_ANT0_Z -/,
  ⟨0x40090050, 0, 1, 0, 1, 0xFFFFFFFF, 0, 0, 0, 0, 0⟩ /- GNSS_VREF_N -/,
  ⟨0x40090054, 0, 1, 0, 1, 0xFFFFFFFF, 0, 0, 0, 0, 0⟩ /- GNSS_VREF_E -/,
  ⟨0x40090058, 0, 1, 0, 1, 0xFFFFFFFF, 0, 0, 0, 0, 0⟩ /- GNSS_VREF_D -/,
  ⟨0x4009005C, 0, 1, 0, 1, 0xFFFFFFFF, 0, 0, 0, 0, 0⟩ /- GNSS_VREF_ATT -/,
  ⟨0x40090060, 0, 1, 0, 1, 0xFFFF, 0, 0, 0, 0, 0⟩ /- GNSS_VREF_HDG -/,
  ⟨0x40090070, 0, 1, 0x4, 2, 0, 0, 0, 0, 0, 0⟩ /- GNSS_TRKc -/]

def rowsGnss1 : List RegInfo := [
  ⟨0x40090078, 0, 1, 0x4, 2, 0, 0, 0, 0, 0, 0⟩ /- GNSS_AGCc -/]

def rowsGnss : List RegInfo := rowsGnss0 ++ rowsGnss1

def rowsTime0 : List RegInfo := [
  ⟨0x400A0000, 0, 1, 0, 1, 0xF0000000, 0, 0, 0, 0xF0000000, 0x20000000⟩ /- TIME_CTRL -/,
  ⟨0x400A0004, 0, 1, 0, 1, 0, 0xF0, 0, 0, 0, 0⟩ /- TIME_STATUS -/,
  ⟨0x400A0008, 0, 1, 0, 1, 0, 0, 0, 0, 0xFFFFFFFF, 0⟩ /- TIME_QUAL -/,
  ⟨0x400A000C, 0, 1, 0, 1, 0, 0, 0, 0xFFFF000F, 0, 0⟩ /- TIME_CMD -/,
  ⟨0x400A0010, 0, 1, 0, 1, 0xFFFFFFFF, 0, 0, 0, 0x640032, 0xFFFFFFFF⟩ /- TIME_DISC -/,
  ⟨0x400A0014, 0, 1, 0, 1, 0xFFFF, 0, 0, 0, 0x3E8, 0⟩ /- TIME_SLEW_MAX -/,
  ⟨0x400A0018, 0, 1, 0, 1, 0xFFFFFFFF, 0, 0, 0, 0x400800, 0xFFFFFFFF⟩ /- TIME_HOCOEF -/,
  ⟨0x400A001C, 0, 1, 0, 1, 0x800001FF, 0, 0, 0, 0x64, 0⟩ /- TIME_BEACON -/,
  ⟨0x400A0020, 0, 1, 0, 1, 0, 0, 0, 0, 0, 0⟩ /- TIME_OFFSET -/,
  ⟨0x400A0024, 0, 1, 0, 1, 0xFFFFFFFF, 0, 0, 0, 0, 0⟩ /- TIME_SET_FRAC -/,
  ⟨0x400A0028, 0, 1, 0, 1, 0xFFFFFFFF, 0, 0, 0, 0, 0⟩ /- TIME_SET_SECLO -/,
  ⟨0x400A002C, 0, 1, 0, 1, 0xFFFFFFFF, 0, 0, 0, 0, 0⟩ /- TIME_SET_SECHI -/,
  ⟨0x400A0030, 0, 1, 0, 1, 0xFFFFFFFF, 0, 0, 0, 0, 0⟩ /- TIME_SET_ERR -/,
  ⟨0x400A0040, 0, 1, 0, 1, 0, 0, 0, 0xFFFF, 0, 0⟩ /- TIME_SNAP -/,
  ⟨0x400A0100, 0, 1, 0x20, 5, 0, 0, 0, 0, 0, 0⟩ /- TIME_FRACb (b = 0 to 4) -/,
  ⟨0x400A0200, 0, 1, 0x20, 8, 0, 0, 0, 0, 0, 0⟩ /- TIME_FRACb (b = 8 to 15) -/,
  ⟨0x400A0104, 0, 1, 0x20, 5, 0, 0, 0, 0, 0, 0⟩ /- TIME_SECLOb (b = 0 to 4) -/,
  ⟨0x400A0204, 0, 1, 0x20, 8, 0, 0, 0, 0, 0, 0⟩ /- TIME_SECLOb (b = 8 to 15) -/,
  ⟨0x400A0108, 0, 1, 0x20, 5, 0, 0, 0, 0, 0, 0⟩ /- TIME_SECHIb (b = 0 to 4) -/,
  ⟨0x400A0208, 0, 1, 0x20, 8, 0, 0, 0, 0, 0, 0⟩ /- TIME_SECHIb (b = 8 to 15) -/,
  ⟨0x400A010C, 0, 1, 0x20, 5, 0xFFFFFFFF, 0, 0, 0, 0, 0⟩ /- TIME_INCLOb (b = 0 to 4) -/,
  ⟨0x400A020C, 0, 1, 0x20, 8, 0xFFFFFFFF, 0, 0, 0, 0, 0⟩ /- TIME_INCLOb (b = 8 to 15) -/,
  ⟨0x400A0110, 0, 1, 0x20, 5, 0xFFFFFFFF, 0, 0, 0, 0x2, 0⟩ /- TIME_INCHIb (b = 0 to 4) -/,
  ⟨0x400A0210, 0, 1, 0x20, 8, 0xFFFFFFFF, 0, 0, 0, 0x2, 0⟩ /- TIME_INCHIb (b = 8 to 15) -/]

def rowsTime1 : List RegInfo := [
  ⟨0x400A0114, 0, 1, 0x20, 5, 0, 0, 0, 0, 0, 0⟩ /- TIME_SNFRb (b = 0 to 4) -/,
  ⟨0x400A0214, 0, 1, 0x20, 8, 0, 0, 0, 0, 0, 0⟩ /- TIME_SNFRb (b = 8 to 15) -/,
  ⟨0x400A0118, 0, 1, 0x20, 5, 0, 0, 0, 0, 0, 0⟩ /- TIME_SNLOb (b = 0 to 4) -/,
  ⟨0x400A0218, 0, 1, 0x20, 8, 0, 0, 0, 0, 0, 0⟩ /- TIME_SNLOb (b = 8 to 15) -/,
  ⟨0x400A011C, 0, 1, 0x20, 5, 0, 0, 0, 0, 0, 0⟩ /- TIME_SNHIb (b = 0 to 4) -/,
  ⟨0x400A021C, 0, 1, 0x20, 8, 0, 0, 0, 0, 0, 0⟩ /- TIME_SNHIb (b = 8 to 15) -/,
  ⟨0x400A0400, 0, 1, 0x10, 32, 0xFFFFFFFF, 0, 0, 0, 0, 0⟩ /- TIME_LEAPLOk -/,
  ⟨0x400A0404, 0, 1, 0x10, 32, 0xFFFFFFFF, 0, 0, 0, 0, 0⟩ /- TIME_LEAPHIk -/,
  ⟨0x400A0408, 0, 1, 0x10, 32, 0x8000FFFF, 0, 0, 0, 0, 0⟩ /- TIME_LEAPOFFk -/]

def rowsTime : List RegInfo := rowsTime0 ++ rowsTime1

def rowsCan0 : List RegInfo := [
  ⟨0x400B0000, 0, 1, 0x1000, 8, 0xFD800000, 0, 0, 0x2000000, 0x14000000, 0⟩ /- CANk_CTRL -/,
  ⟨0x400B0004, 0, 1, 0x1000, 8, 0xFFFFFFE0, 0, 0, 0, 0x1F0F1E0, 0⟩ /- CANk_NBT -/,
  ⟨0x400B0008, 0, 1, 0x1000, 8, 0xFFFFFFC0, 0, 0, 0, 0x28CE300, 0x1FC0⟩ /- CANk_DBT -/,
  ⟨0x400B000C, 0, 1, 0x1000, 8, 0, 0, 0, 0, 0x4, 0⟩ /- CANk_STATUS -/,
  ⟨0x400B0010, 0, 1, 0x1000, 8, 0, 0, 0, 0, 0, 0⟩ /- CANk_ERR -/,
  ⟨0x400B0014, 0, 1, 0x1000, 8, 0, 0, 0, 0, 0, 0⟩ /- CANk_CNT -/,
  ⟨0x400B0018, 0, 1, 0x1000, 8, 0xFFFF8000, 0, 0, 0, 0x8000, 0⟩ /- CANk_TT -/,
  ⟨0x400B001C, 0, 1, 0x1000, 8, 0xFFFFFFFF, 0, 0, 0, 0x27100000, 0⟩ /- CANk_TTCYC -/,
  ⟨0x400B0020, 0, 1, 0x1000, 8, 0, 0x40000000, 0, 0, 0, 0⟩ /- CANk_TTSTAT -/,
  ⟨0x400B0024, 0, 1, 0x1000, 8, 0x3FFFFF, 0, 0, 0, 0, 0x3FFFFF⟩ /- CANk_MRBASE -/,
  ⟨0x400B0028, 0, 1, 0x1000, 8, 0, 0, 0xFFFFFFFF, 0, 0, 0⟩ /- CANk_TXPEND -/,
  ⟨0x400B002C, 0, 1, 0x1000, 8, 0, 0, 0, 0xFFFFFFFF, 0, 0⟩ /- CANk_TXCANCEL -/,
  ⟨0x400B0030, 0, 1, 0x1000, 8, 0, 0xFFFFFFFF, 0, 0, 0, 0⟩ /- CANk_MBNEW -/,
  ⟨0x400B0034, 0, 1, 0x1000, 8, 0, 0xFFFFFFFF, 0, 0, 0, 0⟩ /- CANk_MBOVR -/,
  ⟨0x400B0038, 0, 1, 0x1000, 8, 0x1F, 0, 0, 0, 0, 0⟩ /- CANk_FIFO -/,
  ⟨0x400B003C, 0, 1, 0x1000, 8, 0xFF80000F, 0, 0, 0, 0x2000000, 0⟩ /- CANk_WAKE -/,
  ⟨0x400B0040, 0, 1, 0x1000, 8, 0x1FFFFFFF, 0, 0, 0, 0, 0⟩ /- CANk_WAKE_ID -/,
  ⟨0x400B0044, 0, 1, 0x1000, 8, 0x1FFFFFFF, 0, 0, 0, 0, 0⟩ /- CANk_WAKE_IDM -/,
  ⟨0x400B0048, 0, 1, 0x1000, 8, 0xFFFFFFFF, 0, 0, 0, 0, 0⟩ /- CANk_WAKE_DLO -/,
  ⟨0x400B004C, 0, 1, 0x1000, 8, 0xFFFFFFFF, 0, 0, 0, 0, 0⟩ /- CANk_WAKE_DHI -/,
  ⟨0x400B0050, 0, 1, 0x1000, 8, 0xFFFFFFFF, 0, 0, 0, 0, 0⟩ /- CANk_WAKE_DMLO -/,
  ⟨0x400B0054, 0, 1, 0x1000, 8, 0xFFFFFFFF, 0, 0, 0, 0, 0⟩ /- CANk_WAKE_DMHI -/,
  ⟨0x400B0100, 0x1000, 8, 0x8, 64, 0xFFFF, 0, 0, 0, 0, 0⟩ /- CANk_WTIMEw -/,
  ⟨0x400B0104, 0x1000, 8, 0x8, 64, 0xFFFFE000, 0, 0, 0, 0, 0⟩ /- CANk_WENTw -/]

def rowsCan1 : List RegInfo := [
  ⟨0x400B0400, 0x1000, 8, 0x10, 128, 0xDFFFFFFF, 0, 0, 0, 0, 0⟩ /- CANk_FIDf -/,
  ⟨0x400B0404, 0x1000, 8, 0x10, 128, 0x1FFFFFFF, 0, 0, 0, 0, 0⟩ /- CANk_FMSKf -/,
  ⟨0x400B0408, 0x1000, 8, 0x10, 128, 0xC000001F, 0, 0, 0, 0, 0⟩ /- CANk_FACTf -/,
  ⟨0x400B0C00, 0x1000, 8, 0x4, 32, 0xFFFFFF00, 0, 0, 0, 0x180000, 0⟩ /- CANk_TXCFGb -/]

def rowsCan : List RegInfo := rowsCan0 ++ rowsCan1

def rowsNet0 : List RegInfo := [
  ⟨0x400C0000, 0, 1, 0, 1, 0x8000FFFF, 0, 0, 0, 0xB482, 0⟩ /- NET_CTRL -/,
  ⟨0x400C0004, 0, 1, 0, 1, 0, 0, 0, 0, 0, 0⟩ /- NET_STATUS -/,
  ⟨0x400C0008, 0, 1, 0, 1, 0xFFFFFFFF, 0, 0, 0, 0, 0⟩ /- NET_PHYDLY -/,
  ⟨0x400C000C, 0, 1, 0, 1, 0xFF, 0, 0, 0, 0, 0⟩ /- NET_PCIE_WIN -/,
  ⟨0x400C0010, 0, 1, 0, 1, 0, 0, 0, 0, 0, 0⟩ /- NET_PCIE_STAT -/,
  ⟨0x400C0014, 0, 1, 0, 1, 0x3FFFFF, 0, 0, 0, 0, 0x3FFFFF⟩ /- NET_SERBASE -/,
  ⟨0x400C0018, 0, 1, 0, 1, 0x3FFFFF, 0, 0, 0, 0, 0x3FFFFF⟩ /- NET_450BASE -/,
  ⟨0x400C001C, 0, 1, 0, 1, 0, 0, 0, 0, 0, 0⟩ /- NET_450CNT -/,
  ⟨0x400C0100, 0, 1, 0x20, 2, 0xFE00FFFF, 0, 0, 0, 0x20000BB8, 0x20000000⟩ /- NET_PRPp -/,
  ⟨0x400C0104, 0, 1, 0x20, 2, 0xFFFFFFFF, 0, 0, 0, 0, 0⟩ /- NET_MACLOp -/,
  ⟨0x400C0108, 0, 1, 0x20, 2, 0xFFFF, 0, 0, 0, 0, 0⟩ /- NET_MACHIp -/,
  ⟨0x400C010C, 0, 1, 0x20, 2, 0, 0, 0, 0, 0, 0⟩ /- NET_PRPCNTp -/,
  ⟨0x400C0110, 0, 1, 0x20, 2, 0xFFFF, 0, 0, 0, 0, 0xFFFF⟩ /- NET_TXBASEp -/,
  ⟨0x400C0118, 0, 1, 0x20, 2, 0xFFFF, 0, 0, 0, 0, 0xFFFF⟩ /- NET_RXBASEp -/,
  ⟨0x400C0114, 0, 1, 0x20, 2, 0x3F00, 0, 0, 0, 0, 0⟩ /- NET_TXHTp -/,
  ⟨0x400C011C, 0, 1, 0x20, 2, 0x3F00, 0, 0, 0, 0, 0⟩ /- NET_RXHTp -/,
  ⟨0x400C0400, 0, 1, 0x8, 28, 0xFFEFFFFF, 0, 0, 0, 0x12C0, 0⟩ /- NET_SERCFGk -/,
  ⟨0x400C0404, 0, 1, 0x8, 28, 0, 0, 0, 0, 0x1, 0⟩ /- NET_SERSTATk -/,
  ⟨0x400C0600, 0, 1, 0x8, 32, 0xFFE000FF, 0, 0, 0, 0x100, 0⟩ /- NET_450GRPj -/,
  ⟨0x400C0604, 0, 1, 0x8, 32, 0xFFFF3FFF, 0, 0, 0, 0x2D2D0000, 0⟩ /- NET_450SFIj -/,
  ⟨0x400C1000, 0, 1, 0, 1, 0xC000FFFF, 0, 0, 0, 0x4000B414, 0⟩ /- GRZ_CTRL -/,
  ⟨0x400C1004, 0, 1, 0, 1, 0, 0, 0, 0, 0, 0⟩ /- GRZ_STATUS -/,
  ⟨0x400C1008, 0, 1, 0, 1, 0xFFFFFFFF, 0, 0, 0, 0, 0⟩ /- GRZ_GRPOUT -/,
  ⟨0x400C100C, 0, 1, 0, 1, 0xFFFFFFFF, 0, 0, 0, 0, 0⟩ /- GRZ_GRPIN -/]

def rowsNet1 : List RegInfo := [
  ⟨0x400C1010, 0, 1, 0, 1, 0x3FFFFF, 0, 0, 0, 0, 0x3FFFFF⟩ /- GRZ_PIBASE -/,
  ⟨0x400C1014, 0, 1, 0, 1, 0xFFFF, 0, 0, 0, 0, 0xFFFF⟩ /- GRZ_SAFEBASE -/,
  ⟨0x400C1018, 0, 1, 0, 1, 0xFFFF, 0, 0, 0, 0, 0xFFFF⟩ /- GRZ_SVCBASE -/,
  ⟨0x400C101C, 0, 1, 0, 1, 0, 0, 0, 0, 0, 0⟩ /- GRZ_BURST -/,
  ⟨0x400C1020, 0, 1, 0, 1, 0, 0, 0, 0, 0, 0⟩ /- GRZ_CNT -/,
  ⟨0x400C1024, 0, 1, 0, 1, 0, 0xFF, 0, 0, 0, 0⟩ /- GRZ_SVCREQ -/,
  ⟨0x400C1028, 0, 1, 0, 1, 0, 0, 0xFF, 0, 0, 0⟩ /- GRZ_SVCSEND -/,
  ⟨0x400C1100, 0, 1, 0x4, 64, 0, 0, 0, 0, 0, 0⟩ /- GRZ_FAILi -/,
  ⟨0x400C8000, 0, 1, 0x10, 2048, 0xFC00FFFF, 0, 0, 0, 0, 0⟩ /- GRZ_SADRn -/,
  ⟨0x400C8004, 0, 1, 0x10, 2048, 0xFFE0FFFF, 0, 0, 0, 0, 0⟩ /- GRZ_SPIn -/,
  ⟨0x400C8008, 0, 1, 0x10, 2048, 0xFFE0FFFF, 0, 0, 0, 0, 0⟩ /- GRZ_SPOn -/,
  ⟨0x400C800C, 0, 1, 0x10, 2048, 0xFF80FFFF, 0, 0, 0, 0x100, 0⟩ /- GRZ_SCFGn -/]

def rowsNet : List RegInfo := rowsNet0 ++ rowsNet1

def rowsPair : List RegInfo := [
  ⟨0x400D0000, 0, 1, 0, 1, 0xF0000000, 0, 0, 0x8000000, 0, 0x30000000⟩ /- PAIR_CTRL -/,
  ⟨0x400D0004, 0, 1, 0, 1, 0x80FFFFFF, 0, 0, 0, 0x800A320A, 0xFFFF⟩ /- PAIR_ECL -/,
  ⟨0x400D0008, 0, 1, 0, 1, 0, 0xF8, 0, 0, 0, 0⟩ /- PAIR_STATUS -/,
  ⟨0x400D000C, 0, 1, 0, 1, 0, 0, 0, 0, 0, 0⟩ /- PAIR_CKPT -/,
  ⟨0x400D0014, 0, 1, 0, 1, 0, 0, 0, 0, 0, 0⟩ /- PAIR_CKPT_TICK_HI -/,
  ⟨0x400D0010, 0, 1, 0, 1, 0, 0, 0, 0, 0, 0⟩ /- PAIR_CKPT_TICK_LO -/,
  ⟨0x400D001C, 0, 1, 0, 1, 0, 0, 0, 0, 0, 0⟩ /- PAIR_HEALTH_HI -/,
  ⟨0x400D0018, 0, 1, 0, 1, 0, 0, 0, 0, 0, 0⟩ /- PAIR_HEALTH_LO -/,
  ⟨0x400D0024, 0, 1, 0, 1, 0, 0, 0, 0, 0, 0⟩ /- PAIR_PHEALTH_HI -/,
  ⟨0x400D0020, 0, 1, 0, 1, 0, 0, 0, 0, 0, 0⟩ /- PAIR_PHEALTH_LO -/,
  ⟨0x400D0028, 0, 1, 0, 1, 0, 0, 0, 0, 0, 0⟩ /- PAIR_TIME -/,
  ⟨0x400D002C, 0, 1, 0, 1, 0, 0, 0, 0, 0, 0⟩ /- PAIR_LINK -/,
  ⟨0x400D0030, 0, 1, 0, 1, 0x3FFFFF, 0, 0, 0, 0, 0x3FFFFF⟩ /- PAIR_MIR_BASE -/,
  ⟨0x400D0034, 0, 1, 0, 1, 0x1FFF, 0, 0, 0, 0, 0x1FFF⟩ /- PAIR_MIR_CNT -/,
  ⟨0x400D0038, 0, 1, 0, 1, 0, 0, 0, 0, 0xFF00, 0⟩ /- PAIR_STEST -/,
  ⟨0x400D003C, 0, 1, 0, 1, 0x3FF, 0, 0, 0, 0x3C, 0⟩ /- PAIR_GNSS -/]

def rowsIrq : List RegInfo := [
  ⟨0x400E0000, 0, 1, 0, 1, 0, 0, 0, 0x1, 0, 0⟩ /- IRQ_CTRL -/,
  ⟨0x400E0004, 0, 1, 0, 1, 0, 0x1, 0, 0, 0, 0⟩ /- IRQ_STATUS -/,
  ⟨0x400E0008, 0, 1, 0, 1, 0xFF, 0, 0, 0, 0x3F, 0⟩ /- IRQ_TGTEN -/,
  ⟨0x400E000C, 0, 1, 0, 1, 0xF, 0, 0, 0, 0, 0⟩ /- IRQ_HOSTLVL -/,
  ⟨0x400E0010, 0, 1, 0, 1, 0xF, 0, 0, 0, 0xF, 0xF⟩ /- IRQ_PARTLVL -/,
  ⟨0x400E0014, 0, 1, 0, 1, 0, 0, 0, 0xFFFFFFFF, 0, 0⟩ /- IRQ_SWSET -/,
  ⟨0x400E0018, 0, 1, 0, 1, 0, 0, 0, 0, 0, 0⟩ /- IRQ_ORPHAN -/,
  ⟨0x400E0040, 0, 1, 0x4, 8, 0, 0, 0, 0, 0x1F, 0⟩ /- IRQ_LVLt -/,
  ⟨0x400E0080, 0, 1, 0x4, 8, 0xFFFFFFFF, 0, 0, 0, 0, 0⟩ /- IRQ_MASKi -/,
  ⟨0x400E00A0, 0, 1, 0x4, 8, 0, 0xFFFFFFFF, 0, 0, 0, 0⟩ /- IRQ_PENDi -/,
  ⟨0x400E00C0, 0, 1, 0x4, 8, 0, 0xFFFFFFFF, 0, 0, 0, 0⟩ /- IRQ_RACEi -/,
  ⟨0x400E00E0, 0, 1, 0x4, 8, 0, 0xFFFFFFFF, 0, 0, 0, 0⟩ /- IRQ_AONi -/,
  ⟨0x400E0200, 0, 1, 0x20, 8, 0, 0, 0, 0, 0, 0⟩ /- IRQ_STSRCt -/,
  ⟨0x400E0204, 0, 1, 0x20, 8, 0, 0, 0, 0, 0, 0⟩ /- IRQ_STMFRt -/,
  ⟨0x400E0210, 0, 1, 0x20, 8, 0, 0, 0, 0, 0, 0⟩ /- IRQ_STTFRt -/,
  ⟨0x400E0208, 0, 1, 0x20, 8, 0, 0, 0, 0, 0, 0⟩ /- IRQ_STMLOt -/,
  ⟨0x400E0214, 0, 1, 0x20, 8, 0, 0, 0, 0, 0, 0⟩ /- IRQ_STTLOt -/,
  ⟨0x400E020C, 0, 1, 0x20, 8, 0, 0, 0, 0, 0, 0⟩ /- IRQ_STMHIt -/,
  ⟨0x400E0218, 0, 1, 0x20, 8, 0, 0, 0, 0, 0, 0⟩ /- IRQ_STTHIt -/,
  ⟨0x400E1000, 0, 1, 0x8, 256, 0xE0F0FF00, 0, 0, 0, 0, 0⟩ /- IRQ_CFGs -/,
  ⟨0x400E1004, 0, 1, 0x8, 256, 0xFF00FFFF, 0, 0, 0, 0x1000000, 0xFFFF⟩ /- IRQ_COALs -/]

def rowsRec0 : List RegInfo := [
  ⟨0x400F0000, 0, 1, 0, 1, 0xA000FFFF, 0, 0, 0x50000000, 0x807F, 0xFFFF⟩ /- REC_CTRL -/,
  ⟨0x400F0004, 0, 1, 0, 1, 0, 0x2, 0, 0, 0, 0⟩ /- REC_STATUS -/,
  ⟨0x400F0008, 0, 1, 0, 1, 0, 0, 0, 0, 0, 0⟩ /- REC_NEXT_LO -/,
  ⟨0x400F000C, 0, 1, 0, 1, 0, 0, 0, 0, 0, 0⟩ /- REC_NEXT_HI -/,
  ⟨0x400F0010, 0, 1, 0, 1, 0, 0, 0, 0, 0, 0⟩ /- REC_USED -/,
  ⟨0x400F0014, 0, 1, 0, 1, 0, 0, 0, 0, 0, 0⟩ /- REC_DROP_FULL -/,
  ⟨0x400F0018, 0, 1, 0, 1, 0, 0, 0, 0, 0, 0⟩ /- REC_DROP_Q -/,
  ⟨0x400F001C, 0, 1, 0, 1, 0, 0, 0, 0, 0, 0⟩ /- REC_SUPPR -/,
  ⟨0x400F1004, 0, 1, 0, 1, 0, 0, 0, 0, 0, 0⟩ /- REC_RLDSUP -/,
  ⟨0x400F4000, 0, 1, 0x4, 1024, 0, 0, 0, 0, 0, 0⟩ /- REC_RLSUPc -/,
  ⟨0x400F0020, 0, 1, 0, 1, 0, 0, 0, 0, 0, 0⟩ /- REC_OPSEC_LO -/,
  ⟨0x400F0024, 0, 1, 0, 1, 0, 0, 0, 0, 0, 0⟩ /- REC_OPSEC_HI -/,
  ⟨0x400F0028, 0, 1, 0, 1, 0, 0, 0, 0, 0, 0⟩ /- REC_PCYC -/,
  ⟨0x400F0030, 0, 1, 0, 1, 0, 0, 0, 0xFFFFFFFF, 0, 0⟩ /- REC_SNAP -/,
  ⟨0x400F0034, 0, 1, 0, 1, 0, 0, 0, 0, 0, 0⟩ /- REC_SNAP_FIRST_LO -/,
  ⟨0x400F0038, 0, 1, 0, 1, 0, 0, 0, 0, 0, 0⟩ /- REC_SNAP_FIRST_HI -/,
  ⟨0x400F003C, 0, 1, 0, 1, 0, 0, 0, 0, 0, 0⟩ /- REC_SNAP_LAST_LO -/,
  ⟨0x400F0040, 0, 1, 0, 1, 0, 0, 0, 0, 0, 0⟩ /- REC_SNAP_LAST_HI -/,
  ⟨0x400F0044, 0, 1, 0, 1, 0, 0, 0, 0, 0, 0⟩ /- REC_SNAP_BUF -/,
  ⟨0x400F0050, 0, 1, 0, 1, 0, 0, 0, 0xFFFF0001, 0, 0⟩ /- REC_CLR_CMD -/,
  ⟨0x400F0054, 0, 1, 0, 1, 0, 0, 0, 0, 0, 0⟩ /- REC_CHAL -/,
  ⟨0x400F0058, 0, 1, 0, 1, 0, 0, 0, 0xFFFFFFFF, 0, 0⟩ /- REC_RESP -/,
  ⟨0x400F0080, 0, 1, 0, 1, 0xFFFFFFFF, 0, 0, 0, 0, 0⟩ /- REC_RD_SEQ_LO -/,
  ⟨0x400F0084, 0, 1, 0, 1, 0xFFFFFFFF, 0, 0, 0, 0, 0⟩ /- REC_RD_SEQ_HI -/]

def rowsRec1 : List RegInfo := [
  ⟨0x400F0088, 0, 1, 0, 1, 0, 0, 0, 0, 0, 0⟩ /- REC_RD_STAT -/,
  ⟨0x400F00C0, 0, 1, 0x4, 16, 0, 0, 0, 0, 0, 0⟩ /- REC_RD_DATAk -/,
  ⟨0x400F0100, 0, 1, 0x4, 8, 0xFFFFFFFF, 0, 0, 0, 0, 0⟩ /- REC_SUB_PAYk -/,
  ⟨0x400F0120, 0, 1, 0, 1, 0, 0, 0, 0xFFFF, 0, 0⟩ /- REC_SUB_CODE -/,
  ⟨0x400F0124, 0, 1, 0, 1, 0, 0, 0, 0, 0, 0⟩ /- REC_SUB_STAT -/,
  ⟨0x400F1000, 0, 1, 0, 1, 0xFFFFFFFF, 0, 0, 0, 0x32001F4, 0⟩ /- REC_RLDEF -/,
  ⟨0x400F2004, 0, 1, 0x8, 1024, 0xFFFFFFFF, 0, 0, 0, 0, 0⟩ /- REC_RLPARc -/,
  ⟨0x400F2000, 0, 1, 0x8, 1024, 0x8000FFFF, 0, 0, 0, 0, 0⟩ /- REC_RLCODEc -/]

def rowsRec : List RegInfo := rowsRec0 ++ rowsRec1

def rowsLan : List RegInfo := [
  ⟨0x40100000, 0, 1, 0, 1, 0xFFFFE000, 0, 0, 0, 0x2058000, 0x40FF0000⟩ /- LAN_CTRL -/,
  ⟨0x40100004, 0, 1, 0, 1, 0, 0xF, 0, 0, 0, 0⟩ /- LAN_STATUS -/,
  ⟨0x40100008, 0, 1, 0, 1, 0x7FF03FF, 0, 0, 0, 0x50003C0, 0⟩ /- LAN_GEOM -/,
  ⟨0x4010000C, 0, 1, 0, 1, 0xFFFF, 0, 0, 0, 0, 0xFFFF⟩ /- LAN_FBBASE -/,
  ⟨0x40100010, 0, 1, 0, 1, 0, 0, 0, 0xC3FF03FF, 0, 0⟩ /- LAN_REQ -/,
  ⟨0x40100014, 0, 1, 0, 1, 0, 0, 0, 0, 0, 0⟩ /- LAN_QUEUE -/,
  ⟨0x40100018, 0, 1, 0, 1, 0, 0, 0, 0, 0, 0⟩ /- LAN_CNT -/,
  ⟨0x4010001C, 0, 1, 0, 1, 0x9F00FFFF, 0, 0, 0, 0, 0⟩ /- LAN_TEMP -/,
  ⟨0x40100020, 0, 1, 0, 1, 0xFFFFFFFF, 0, 0, 0, 0, 0⟩ /- LAN_TSCALE -/,
  ⟨0x40100024, 0, 1, 0, 1, 0xFFFFFFFF, 0, 0, 0, 0, 0⟩ /- LAN_TOFF -/,
  ⟨0x40100028, 0, 1, 0, 1, 0, 0, 0, 0, 0, 0⟩ /- LAN_TNOW -/,
  ⟨0x4010002C, 0, 1, 0, 1, 0xFFFFFFFF, 0, 0, 0, 0xECF6000A, 0⟩ /- LAN_TH_LO -/,
  ⟨0x40100030, 0, 1, 0, 1, 0xFFFFFF, 0, 0, 0, 0x372819, 0⟩ /- LAN_TH_HI -/,
  ⟨0x40100034, 0, 1, 0, 1, 0xFFFF0000, 0, 0, 0, 0x7D0FFFF, 0⟩ /- LAN_CRACK -/,
  ⟨0x40100040, 0, 1, 0x4, 8, 0xFFFF, 0, 0, 0, 0x1414, 0xFFFF⟩ /- LAN_DRVb -/,
  ⟨0x40100060, 0, 1, 0, 1, 0xFFFFFFFF, 0, 0, 0, 0xBC000000, 0⟩ /- LAN_ZONEz (z = 0) -/,
  ⟨0x40100064, 0, 1, 0x4, 3, 0xFFFFFFFF, 0, 0, 0, 0x3C000000, 0⟩ /- LAN_ZONEz (z = 1 to 3) -/,
  ⟨0x40100080, 0, 1, 0x4, 30, 0, 0, 0xFFFFFFFF, 0, 0, 0⟩ /- LAN_DIRTYi -/]

def rowsTmx : List RegInfo := [
  ⟨0x40110000, 0, 1, 0, 1, 0x80000000, 0, 0, 0, 0, 0⟩ /- TMX_CTRL -/,
  ⟨0x40110010, 0, 1, 0x4, 8, 0xC00003FF, 0, 0, 0, 0, 0⟩ /- TMX_SELk -/]

/-- The rows of the register block with number `b` (R320: SYS is 0, TMX is 0x11). -/
def regRows (b : Nat) : List RegInfo :=
  match b with
  | 0 => rowsSys
  | 1 => rowsTick
  | 2 => rowsCml
  | 3 => rowsPrg
  | 4 => rowsPrism
  | 5 => rowsFilt
  | 6 => rowsAzs
  | 7 => rowsShd
  | 8 => rowsLoop
  | 9 => rowsGnss
  | 10 => rowsTime
  | 11 => rowsCan
  | 12 => rowsNet
  | 13 => rowsPair
  | 14 => rowsIrq
  | 15 => rowsRec
  | 16 => rowsLan
  | 17 => rowsTmx
  | _ => []

/-- The row covers address `a`: one of its registers stands there. -/
def RegInfo.covers (r : RegInfo) (a : Nat) : Bool :=
  let d := a - r.addr
  let i := if r.stride2 = 0 then 0 else d / r.stride2
  let d' := d - i * r.stride2
  let j := if r.stride = 0 then 0 else d' / r.stride
  Nat.ble r.addr a && Nat.blt d (r.stride * r.count + r.stride2 * r.count2 + 4) &&
    (decide (i < r.count2) && decide (j < r.count) && decide (d' = j * r.stride))

/-- The number of the register block that holds address `a` of the register region. -/
def blockOf (a : Nat) : Nat := a / 0x10000 % 0x4000

/-- The row of the register at address `a`; none at an unassigned offset (R14).  The CAN block repeats at 0x1000 strides inside its 64 KiB. -/
def regInfo? (a : Nat) : Option RegInfo := (regRows (blockOf a)).find? (·.covers a)

/-- The word the register at address `a` holds after reset (the Reset column); 0 at an unassigned offset (R14). -/
def regReset (a : Nat) : Word :=
  match regInfo? a with
  | some r => BitVec.ofNat 32 r.reset
  | none => 0

/-- The word a register holds after a write of `v` over `old`, by its access codes: RW bits take the value, W1C bits clear where 1 is
written, W1S bits set where 1 is written, and RO, RZ and WO bits keep what they hold (a WO bit holds 0, so it reads 0). -/
def RegInfo.written (r : RegInfo) (old v : Word) : Word :=
  let rw := BitVec.ofNat 32 r.rw
  let c := BitVec.ofNat 32 r.w1c
  let t := BitVec.ofNat 32 r.w1s
  (old &&& ~~~rw &&& ~~~(c &&& v)) ||| (v &&& rw) ||| (v &&& t)

end Sys2Proof.Machine
end

