-- ==== Sys2Proof/Config.lean ====
section
/-!
DEFINITION. Config.lean: what the spec leaves open.
Every constant here is opaque: it has no body, so nothing proved in this package can rest on a value of it.
-/
namespace Sys2Proof

/-- A fresh value the spec leaves open, drawn by number (the state's counter of draws gives the number). -/
opaque Config.free : Nat → Nat

/-- The clear response that answers a challenge under a clearing key (R336: it is computed off the module, by a function the spec does
not give). -/
opaque Config.clearResponse : Nat → Nat → BitVec 32

/-- The FP64 sum of products of two vectors on a group of g lanes (R221, R223): the order in which a lane and a group sum is not in the spec. -/
opaque Config.dot : Nat → List Nat → List Nat → Nat

/-- Pivot i of a factorisation and s_i, the largest magnitude in row i of the matrix before elimination (R234), from everything the
factorisation reads, the pivots used before i included; places 0 and 1, as FP64. -/
opaque Config.azsPivot : List Nat → Nat → Nat

/-- Where one iteration of a method goes (R231: the spec names the methods, their step to the boundary and their over-relaxation, and not the rest of
their arithmetic): from the data, the pivots and the iterate, in the order x, s, λ, ν and the multipliers of lo and hi, to the words of the
direction for the interior point, and of the point of operator splitting before it is relaxed for ADMM. -/
opaque Config.azsStep : List Nat → Nat → Nat

/-- ADMM's iterate past x, from the same and the relaxed words (R231). -/
opaque Config.azsProject : List Nat → Nat → Nat

/-- The factor of a lane group that stands in its work area (R222, R226), word by word, from the data, the pivots and the iterate. -/
opaque Config.azsFactor : List Nat → Nat → Nat

/-- The bound multipliers of a warm start, which takes x, s, λ and ν alone from its block (R232). -/
opaque Config.warmBounds : List Nat → Nat → Nat

/-- An encoder's tile: from everything it reads (R60) and a cell or bin number to the 16-bit log-likelihood.  The spec does not give the
network's shape. -/
opaque Config.encode : List Nat → Nat → Nat

/-- An encoder's validity bit from the same inputs (R60). -/
opaque Config.encodeValid : List Nat → Bool

/-- The FP16 evaluation of an overlap from the three sums of exponentials (R77), of which the spec does not order the roundings: how far it lies from
the exact coefficient, and whether it gives a NaN or an overflow (R90). -/
opaque Config.overlapUlps : List Nat → Nat
opaque Config.overlapBad : List Nat → Bool

/-- The covariance and gain arithmetic of the fall-back's Kalman filters (R110, R113), of which the spec gives the model and not the
numbers: from the words before, the interval, the measurements and their variances to the words after. -/
opaque Config.kalman : List Nat → List Nat

/-- The covariance words of a track or of the EKF predicted over an interval (R110, R112). -/
opaque Config.trackCov : List Nat → List Nat

/-- A raw value of a source-table value type above 3, which R205 does not name. -/
opaque Config.rawValue : Nat → Nat → Nat

/-- North and east of a latitude and longitude in the local level plane at the datum (R205): places 0 and 1, as FP64. -/
opaque Config.levelPlane : List Nat → Nat → Nat

/-- The vector from the vessel to the target of a range and bearing (R205, decode 2): places 0 and 1, north and east. -/
opaque Config.rangeVector : List Nat → Nat → Nat

/-- The vector from the vessel's origin to a sensor at a place of the vessel frame (R205): places 0 and 1, north and east. -/
opaque Config.leverArm : List Nat → Nat → Nat

/-- The circular median of headings (R111). -/
opaque Config.circMedian : List Nat → Nat

/-- The observer's model (R124): from the parameters, the state, the force and the interval to a word of the state after it.  The spec gives the
terms of the model and not its equations. -/
opaque Config.obsModel : List Nat → Nat → Nat

/-- The observer's correction gains (R125) before they are scaled, from the parameters, the state, the innovation and the measurement ages (R98): place 3i + k is what a unit
of innovation k (north, east, heading) adds to word i of the state. -/
opaque Config.obsGain : List Nat → Nat → Nat

/-- A low-pass step (R131): from the value before, the input, the interval and the time constant. -/
opaque Config.smooth : List Nat → Nat

/-- Cosine, sine and atan2 of FP64 degrees: the spec gives no roundings. -/
opaque Config.cosDeg : Nat → Nat
opaque Config.sinDeg : Nat → Nat
opaque Config.atan2Deg : Nat → Nat → Nat

/-- The power cuts of a thruster (R249), from its entry: place 2k is the slope and place 2k + 1 the constant of cut k, in the builder's scaled
units.  The spec does not say how the coefficients of a power curve give the cuts. -/
opaque Config.powerCut : List Nat → Nat → Nat

/-- The hash that gives SIG (R254), from the free variables, the finite rows and the thruster table. -/
opaque Config.sigHash : List Nat → Nat

/-- The coefficients of the predictive problem's matrix block (R268), word by word in FP64, from what the rule names.  The spec gives the terms, rows
and counts and not the coefficients. -/
opaque Config.predMat : List Nat → Nat → Nat

/-- The hull of a predictive problem (R268), from the thrusters and powers that a scenario leaves: places 0 to 4 are h of a step's corner and coupling
rows, 5 to 7 lo and 8 to 10 hi of surge, sway and yaw. -/
opaque Config.predHull : List Nat → Nat → Nat

/-- f and h past the hull of a predictive problem (R268), word by word. -/
opaque Config.predVec : List Nat → Nat → Nat

/-- The C/N0 in dB-Hz that the acquisition engine finds in the non-coherent sum of the outputs of NC passes (R374). -/
opaque Config.acqCn0 : List Nat → Nat

/-- The 10⁻⁵ tail of the χ² distribution with this many degrees of freedom, as FP64 (R383). -/
opaque Config.chi2 : Nat → Nat

/-- The azimuth in degrees of a vector of the vessel frame, from its x and y in mm (R382). -/
opaque Config.vesselAzimuth : Int → Int → Nat

/-- The azimuth in degrees of a measured baseline, levelled with roll and pitch (R382): from north, east and down in m and the word of
GNSS_VREF_ATT. -/
opaque Config.levelAzimuth : List Nat → Nat

/-- The 32 bytes of an entry of the channel table (R380), whose fields the spec names without their places: from system, satellite, band, state,
C/N0, Doppler, elevation, azimuth, used and excluded; of no channel, from no fields. -/
opaque Config.channelEntry : List Int → Nat

/-- The CRC-32C over the frames of a checkpoint (R302), whose headers the spec does not lay out: from the page list, the cells of its pages and its
warm-start blocks. -/
opaque Config.ckptCrc : List Nat → List (Nat × BitVec 8) → List (Nat × Nat × Nat × List Nat) → BitVec 32

/-- The trajectory that a predictive x gives (R269) from the starting state: place 3t + k is north, east or heading at step t. -/
opaque Config.trajectory : List Nat → Nat → Nat

/-- The offsets of the edge records that a state map lists, from the map's bytes (R152: the spec names the map and not its layout). -/
opaque Config.edgeRecords : List (BitVec 8) → List Nat

/-- Latitude (place 0) and longitude (place 1) of the point of WGS 84 that lies a given way north and east of another (R381): from latitude,
longitude and height of that one and the two lengths in m. -/
opaque Config.refPoint : List Nat → Nat → Nat

/-- What a sentence field stores that does not have its type's form (R218): from type, characters, the next field's characters and the scale. -/
opaque Config.sentenceField : Nat → List (BitVec 8) → List (BitVec 8) → Nat → Nat

/-- The word of the DP library ROM at which each block of the library (R121, R256) begins, in the order of `LibBlock`; the spec gives the
block's work and not its address. -/
opaque Config.romWord : Nat → BitVec 18

/-- The block's entry PC: the ROM stands at 0x40_0000 of the code space (R150). -/
def Config.romEntry (n : Nat) : Nat := 0x400000 + 4 * (Config.romWord n).toNat

end Sys2Proof
end

