-- ==== Sys2Proof/Machine/State.lean ====
section
/-!
DEFINITION. Machine/State.lean: the state of the block, all of it plain data, and the state after reset.

A register of R489 has its one home in `regs`, keyed by its address, and a register the spec keeps for each bus master in
`mregs`.  Both are sparse: what is not listed holds its reset value.  Memory of R486's regions is `mem`, sparse in the same way.
What the chapters name beside the registers and memories (queues, latches, windows, pending work) stands in one structure for each block.
-/
namespace Sys2Proof.Machine

/-- A sparse table: entries with strictly rising keys; a key not listed holds the table's default. -/
abbrev Tbl (β : Type) := List (Nat × β)

/-- The value of a time base: whole seconds, and nanoseconds with a 32-bit binary fraction in units of 2⁻³² ns (R356, R357). -/
structure BaseVal where
  sec : Nat := 0
  ns : Nat := 0
deriving DecidableEq, Repr

/-- One record of the event recorder (R319), before its CRC is computed. -/
structure Rec where
  seq : Nat
  secs : Nat
  aux : Nat
  tick : Nat
  code : Nat
  flags : Nat
  source : Nat
  payload : Payload
deriving DecidableEq, Repr

/-- Records of one code suppressed since the last accepted one (R333). -/
structure Suppressed where
  code : Nat
  count : Nat
  first : Nat
  last : Nat
deriving DecidableEq, Repr

/-- The event recorder's own state (R319 to R337). -/
structure RecSt where
  /-- Accepted records waiting to be written through, oldest first (R324). -/
  queue : List Rec := []
  /-- Records in the SRAM buffer, oldest first (R325). -/
  buffer : List Rec := []
  /-- The next sequence number, held in the always-on island (R329). -/
  next : Nat := 1
  /-- The sequence number of slot 0 (R334). -/
  first : Nat := 0
  /-- Tokens of each rate-limit bucket in 1/16,000 record; key 1,024 is the default bucket (R332). -/
  tokens : Tbl Nat := []
  suppressed : List Suppressed := []
  /-- The cause of the flush that runs (R326). -/
  flush : Option Nat := none
  /-- Records flushed by the flush that runs. -/
  flushed : Nat := 0
  /-- A write of MODE 0 waits for the buffer to empty (R325). -/
  toThrough : Bool := false
  /-- Records written between the Afterglow-start and the Afterglow-end record (R327). -/
  agFlushed : Nat := 0
  /-- No further record is accepted until the next reset (R327). -/
  closed : Bool := false
  /-- Wrong clear responses in a row (R336). -/
  wrong : Nat := 0
  /-- Masters (R319 codes) whose read window has a fetch under way (R335). -/
  fetching : List Nat := []
deriving DecidableEq, Repr

/-- A delivery between its cycle D and its commit at D + 4 (R347): a stamp-only one has target 8 (R340). -/
structure Delivery where
  src : Nat
  tgt : Nat
  count : Nat
  /-- Addresses of the MONO stamps it will write: the messages it covers (R349). -/
  stamps : List Nat := []
  /-- The source number that the target is told: of an edge from the partner, the original one (R339). -/
  orig : Nat := src
deriving DecidableEq, Repr

/-- The interrupt controller's state beside its registers. -/
structure IrqSt where
  /-- The timer of each source, in time-island cycles (R345). -/
  timer : Tbl Nat := []
  inFlight : List Delivery := []
  /-- Always-on latches that are set (R352). -/
  aon : List Nat := []
  /-- Stored messages that wait for the stamp of a delivery of their source: source and the stamp's address (R349, R396). -/
  awaiting : List (Nat × Nat) := []
  /-- MONO and TAI at the latest delivery of each receive source (R51, R349). -/
  stamp : Tbl (BaseVal × BaseVal) := []
  /-- The original source number of the partner's latest interrupt frame (R339). -/
  partnerSrc : Nat := 0
  /-- MSI-X vectors the host has unmasked, those whose message is held, and the vector of the last message posted (R428). -/
  msixOpen : List Nat := []
  msixHeld : List Nat := []
  msixLast : Option Nat := none
  /-- The original source number of the last interrupt frame sent to the partner (R339). -/
  frameLast : Option Nat := none
deriving DecidableEq, Repr

/-- A committed entry of the leap-second table (R365). -/
structure LeapRow where
  te : Nat
  off : Int
  gnss : Bool
deriving DecidableEq, Repr

/-- The time bases and the discipline engine. -/
structure TimeSt where
  bases : Tbl BaseVal := []
  /-- The last frequency corrections, newest first, at most 60, in units of the increment (R360). -/
  corr : List Int := []
  /-- The error estimate in ns at `errFrom`, from which it grows in HOSTSET and HOLDOVER (R361). -/
  err0 : Nat := 0
  errFrom : BaseVal := {}
  /-- The remaining phase error in units of 2⁻³² ns (R360). -/
  f : Int := 0
  /-- The valid entries of the leap-second table as committed, by entry number (R365). -/
  leap : Tbl LeapRow := []
  /-- MONO, in units of 2⁻³² ns, at which the last Beacon pulse ends (R367, R370). -/
  beaconEnd : Nat := 0
  /-- MONO at the last trusted time solution (R359). -/
  lastSol : Nat := 0
  /-- MONO at the last SET_TAI that succeeded, and TAI as it stood before it (R359). -/
  hostSet : Option (Nat × BaseVal) := none
deriving DecidableEq, Repr

/-- The always-on island: what survives a loss of VDD_CORE (R321, R329, R352, R364). -/
structure AonSt where
  /-- The calendar clock is valid (R364). -/
  calValid : Bool := false
  cal : BaseVal := {}
  /-- Operating seconds of earlier power cycles (R321). -/
  opsec : Nat := 0
  /-- The offset of the leap-table entry last in force (R359). -/
  lastOff : Int := 0
deriving DecidableEq, Repr

/-- The solver grade of the variant code (R1, R2). -/
inductive Grade where
  | s | m | l
deriving DecidableEq, Repr

/-- What is fused into the module (R1 to R5). -/
structure Variant where
  dieStep : Nat
  grade : Grade
  /-- GNSS option 2: two antenna chains (R3). -/
  gnss2 : Bool
  /-- Panel option P: the Lantern panel; option X otherwise (R3). -/
  panelP : Bool
deriving DecidableEq, Repr

/-- What a load copies into module storage that has no bus address (R205). -/
structure SiteSt where
  /-- The source table's entries, 64 bytes each. -/
  sources : List (List Byte) := []
  /-- The 64 bytes of the site record; empty when the image carries none. -/
  site : List Byte := []
deriving DecidableEq, Repr

/-- What a context with an activation waits for (R173, R175, R179, R436). -/
inductive Wait where
  | no | after | io | gate
deriving DecidableEq, Repr

/-- An activation of a context, with the settings it started with (R177). -/
structure Act where
  cfg : Word
  per : Word
  ent : Word
  /-- Its first instruction's registers have been set up (R181). -/
  started : Bool := false
  /-- Run time in time-island cycles (CML_TSTATc.RUN_US). -/
  run : Nat := 0
  wait : Wait := .no
  /-- The core has chosen it, and does not switch among equals (R180). -/
  turn : Bool := false
  /-- Resumed at a breakpoint: the next instruction is executed (R186). -/
  skip : Bool := false
deriving DecidableEq, Repr

/-- The Cumel cluster's state beside its registers and the context store. -/
structure CmlSt where
  /-- The activations that have not ended, by context. -/
  acts : Tbl Act := []
  /-- Contexts with one new activation held pending (R182). -/
  held : List Nat := []
  /-- Scan- and Settle-bound tasks due in this tick that have not ended, and whether their edge has passed (R26). -/
  scanLeft : List Nat := []
  settleLeft : List Nat := []
  scanOpen : Bool := false
  settleOpen : Bool := false
  /-- The completion event of Scan, and that of Settle, reached the time island too late (R25). -/
  scanLate : Bool := false
  settleLate : Bool := false
  /-- Dirty pages: 0 to 1,023 instance data, 1,024 to 1,791 global scratch (R159). -/
  dirty : List Nat := []
  /-- Checkpoint-relevant pages of global scratch, numbered as above (R176). -/
  relevant : List Nat := []
  /-- Points that have been good since start (R172). -/
  good : List Nat := []
  /-- Scan tasks of a core wait for these error-task contexts: core and context (R436). -/
  gates : List (Nat × Nat) := []
  /-- The core on which the fall-back context runs (R108). -/
  fbCore : Option Nat := none
  /-- Cycles each core has run a context in this tick (CML_COREn.BUSY). -/
  busy : Tbl Nat := []
  /-- Contexts blocked in `SLVW` or `PRQ` (the latter where true), with fa, fb and idx16 of the instruction (R173, R175). -/
  blocked : Tbl (Bool × Nat × Nat × Nat) := []
  /-- Contexts that a write of CML_DBG lets execute one instruction (R186), within the command that writes it. -/
  steps : List Nat := []
  /-- Identities of the library instances whose first scan since the last start is still to come (R128, R139, R265). -/
  libNew : List Nat := []
  /-- After a warm restart the observer has not taken a valid result (R128). -/
  obsWait : Bool := false
  /-- POS_EST has been set since the cold restart (R141). -/
  alarmLift : Bool := false
deriving DecidableEq, Repr

/-- Command outputs between staging and the pins (R31, R273). -/
structure OutSt where
  /-- Codes of the last committed set, by output; an output not listed has been in no commit since the load or restart. -/
  cAo : Tbl Nat := []
  /-- Command GPIO levels of the last committed set, by pin. -/
  cGpio : Tbl Nat := []
  /-- Committed set-points of command-class engines. -/
  cSp : Tbl Word := []
  /-- Released values; an output not listed is released-empty (R31). -/
  rAo : Tbl Nat := []
  rGpio : Tbl Nat := []
  rSp : Tbl Word := []
  /-- This tick's staged set has been committed. -/
  committed : Bool := false
  /-- The next Release is the first one in Stop (R190, R194). -/
  firstStop : Bool := false
  /-- Command outputs carry their substitute state (R276). -/
  substituted : Bool := false
  /-- The level each command GPIO output was last loaded with, driven or not (R275, R276). -/
  gLevel : Tbl Nat := []
  /-- Command analogue outputs driven since the module last came to hold ownership: their output switches are closed (R275). -/
  driven : List Nat := []
  /-- The launch timer of each output island (0 loop, 1 network, 2 + k CAN controller k), as its deviation from the TICK base in units of
  2⁻³² ns since the last realignment (R32). -/
  timers : Tbl Int := []
deriving DecidableEq, Repr

/-- A pulse input's filtered levels, the counts at its last rate updates, newest first, and the last rate an engine was given (R280, R281,
R285). -/
structure PulseSt where
  a : Bool := false
  b : Bool := false
  counts : List Nat := []
  rate : Nat := 0
deriving DecidableEq, Repr

/-- The loop engines' state beside their registers (R284, R287). -/
structure LoopSt where
  /-- Engines that have not sampled since they were enabled. -/
  fresh : List Nat := []
  /-- The previous feedback of each engine (FP32). -/
  fbPrev : Tbl Nat := []
  /-- The output instant of each engine's last sample is still to come: the code that it loads, none while it tracks. -/
  load : Tbl (Option Nat) := []
  /-- The launch timer's time, in units of 2⁻³² ns, at each engine's last sample (R283). -/
  sampledAt : Tbl Nat := []
  pulses : Tbl PulseSt := []
deriving DecidableEq, Repr

/-- What a warm restart or a takeover restores: a generation of the local checkpoint or the committed state of the pair (R197, R302): the
cells of instance data and of relevant scratch, and the current warm-start blocks as SIG, tick and vector. -/
structure Ckpt where
  seq : Nat := 0
  /-- Bytes of instance data that it holds, from the start. -/
  extent : Nat := 0x400000
  tick : Nat := 0
  stamp : Nat := 0
  version : Nat := 0
  trial : Nat := 0
  cells : List Host.Cell := []
  relevant : List Nat := []
  prism : List Nat := []
  warm : Tbl (Nat × Nat × List Nat) := []
  /-- The page list of a checkpoint's state record, and its CRC-32C over every frame (R302). -/
  pages : List Nat := []
  crc : Nat := 0
deriving DecidableEq, Repr

/-- How the program that runs was last started, for the library blocks' rules (R127, R128, R139). -/
inductive Started where
  | cold | warm | takeover
deriving DecidableEq, Repr

/-- A load between its command and its end: LOAD, ROLLBACK, automatic rollback or the load at power-up. -/
inductive Loading where
  | load | rollback | auto | boot
deriving DecidableEq, Repr

/-- What a launched transmission carries: the slot of a buffer, the released frame of a command buffer, or a substitute slot (R401, R410). -/
inductive TxKind where
  | slot | released | sub
deriving DecidableEq, Repr

/-- A CAN controller's state beside its registers and message RAM. -/
structure CanSt where
  /-- Transmissions launched in an exclusive window and not ended, and MONO at the end of that window (R406). -/
  launched : Tbl TxKind := []
  launchEnd : Tbl Nat := []
  /-- Buffers whose attempt may be running: they stood first in arbitration at an instant at which the rules let them start (R403). -/
  offered : List Nat := []
  /-- Launched buffers that were cancelled: they are removed at the end of their attempt (R401). -/
  cancel : List Nat := []
  /-- The reference message that waits for an idle bus, and the last one launched (R405, R409). -/
  refPend : Option CanFrame := none
  refOut : Option CanFrame := none
  /-- BUS at the predicted start of the next cycle (R407, R408). -/
  busNext : Nat := 0
  /-- Queued buffers of a twin pair whose frame has left this bus, sent or dropped, and not yet the other (R414). -/
  sent : List Nat := []
  /-- MONO from which the controller takes part in traffic after a wake: it integrates on 11 recessive bits first (R416). -/
  joinAt : Nat := 0
  /-- SLEEP was set while a launched frame was in progress: the controller sleeps when it ends (R415). -/
  sleepDue : Bool := false
  /-- Failed attempts of each buffer's frame (R402). -/
  attempts : Tbl Nat := []
  /-- Launch times not reached, in TICK (R403). -/
  waiting : Tbl Nat := []
  /-- Released frames of command buffers (R410), and the buffers of the last commit. -/
  released : Tbl (List Byte) := []
  committed : List Nat := []
  /-- What each command buffer launches in its window of this tick. -/
  now : Tbl TxKind := []
  /-- The next SEQ of each receive slot: 0 to 31 a mailbox, 32 to 63 a FIFO entry (R396). -/
  seq : Tbl Nat := []
  /-- The window that is open, and MONO at the cycle start (R405). -/
  window : Option Nat := none
  cycleAt : Nat := 0
  /-- The role in force is that of a master (R404). -/
  master : Bool := false
  /-- RECOVER was written since bus-off (R412). -/
  recovering : Bool := false
  /-- A condition of R413 has held in this tick. -/
  bad : Bool := false
  /-- The last frames accepted for a twin pair: bus, identifier word, data, MONO and window (R414). -/
  twin : List (Nat × Nat × List Byte × Nat × Option Nat) := []
deriving DecidableEq, Repr

/-- The program lifecycle's state beside its registers. -/
structure PrgSt where
  /-- A restore (true: warm) or initialisation runs in this tick (R199). -/
  restoring : Option Bool := none
  /-- It has completed, and Run begins at the next boundary. -/
  startReady : Bool := false
  /-- Between a swap point and the tick boundary: deliveries wait (R216). -/
  swapping : Bool := false
  /-- A load whose end is awaited (R206). -/
  loading : Option Loading := none
  /-- A mode command that came in the cycle of a boundary not taken yet, or later: it waits for the boundary after that (R24, R189). -/
  pendLate : Option Nat := none
  /-- The slot whose image is staged or being staged, and whether the exchange is a rollback in Run (R210, R213). -/
  staging : Option (Nat × Bool) := none
  /-- The two generations of the local checkpoint, those whose header is valid (R198). -/
  gens : Tbl Ckpt := []
  /-- A snapshot being written in the background, and its generation. -/
  writing : Option (Nat × Ckpt) := none
  /-- Ticks since the last snapshot fell due. -/
  since : Nat := 0
  started : Started := .cold
  /-- The loaded program has been in Run (R198). -/
  ran : Bool := false
  /-- The checkpoint tick of that start. -/
  startTick : Nat := 0
  /-- The copier time of the exchange at this boundary, in units of 10 ns (R216). -/
  copier : Nat := 0
  /-- The expert fields as the Lit bank holds them: the masked words of the registers that the last load wrote (R10). -/
  expert : Tbl Word := []
deriving DecidableEq, Repr

/-- A checkpoint that a standby is receiving (R298, R303, R304). -/
structure RxSt where
  /-- Frames received, by number: 16 to a page. -/
  frames : Tbl (List Byte) := []
  /-- Frames that failed their CRC once. -/
  failed : List Nat := []
  warm : Tbl (Nat × Nat × List Nat) := []
  /-- A frame failed twice: the transfer is abandoned. -/
  bad : Bool := false
deriving DecidableEq, Repr

/-- Pair operation's state beside its registers. -/
structure PairSt where
  /-- The pair is established: hello frames have been accepted (R299). -/
  paired : Bool := false
  /-- Filtered ECL_IN, true for high: an edge changes it only once the line has stood for CLAIM_FILT (R293). -/
  filtered : Bool := false
  /-- The tick in which the partner's last health word was received (R301), and in which any frame arrived. -/
  healthTick : Option Nat := none
  frameTick : Option Nat := none
  /-- The tick in which the link trained. -/
  upTick : Nat := 0
  /-- The falling edge of ECL_IN since which it is low: MONO, tick, and whether it came before that tick's Release (R297, R307). -/
  fall : Option (Nat × Nat × Bool) := none
  /-- MONO at the rising edge of ECL_IN since which it is high (R293). -/
  rise : Nat := 0
  /-- ECL_OUT is low for a test pulse, until MONO reaches this (R297). -/
  testEnd : Option Nat := none
  eclOk : Bool := false
  /-- Consecutive expected test pulses that were missing or of a wrong width, up to 3; the pulse of this tick has been judged. -/
  wrongPulse : Nat := 0
  pulseSeen : Bool := false
  /-- Partner tick position less own in cycles, to be taken over at the next boundary (R300). -/
  align : Option Int := none
  timeOk : Bool := false
  /-- The committed checkpoint of a standby (R304), and the one being received. -/
  committed : Option Ckpt := none
  rx : RxSt := {}
  /-- The pages frozen for the checkpoint whose transmission runs, and those of them that came from a refresh (R302, R304). -/
  tx : Option (List Nat) := none
  txRefresh : List Nat := []
  /-- Frames of that transfer that failed their CRC and are sent again (R298). -/
  txAgain : List Nat := []
  /-- The problems whose warm-start blocks this owner has sent in the Solve of this tick (R303). -/
  txBlocks : List Nat := []
  /-- The warm-start blocks of a full checkpoint have not been sent yet (R305). -/
  warmDue : Bool := false
  /-- A full checkpoint is due, and the pages a refresh has not sent (R305). -/
  fullDue : Bool := false
  refreshLeft : List Nat := []
  /-- A refresh that began at pair start or on a request holds READY at 0. -/
  refreshHold : Bool := false
  /-- CKPT_FULL at T = 5 ms has been recorded (R306). -/
  fullNoted : Bool := false
  /-- The first Run tick of a decided takeover (R307, R308). -/
  takeover : Option Nat := none
  /-- Mirror values received and not written, and the tick of the last ones (R312). -/
  mirror : List Nat := []
  mirrorTick : Option Nat := none
  /-- The mirror values sampled at the last Release. -/
  mirrorOut : List Nat := []
  /-- Skipped mirror entries that were recorded since the last configuration load (R312). -/
  mirrorNoted : List Nat := []
  /-- No uncorrectable error since the last refresh; lanes and streams that fail (R314, R315). -/
  memOk : Bool := true
  badLanes : List Nat := []
  badStreams : List Nat := []
  /-- LANES_OK, and the groups of a cycle over all lanes that have passed so far (R315). -/
  lanesOk : Bool := true
  laneRun : Option Nat := none
  /-- Of each stream, the CRC of its encoder's tile on a zero window, stored at the last configuration load (R315). -/
  tiles : Tbl Nat := []
  /-- The last hello frame this module sent (R9, R20, R299). -/
  helloOut : Option Hello := none
  /-- The checkpoint that is being sent: the cells of its frozen pages, its blocks and its state record (R302). -/
  txCkpt : Option Ckpt := none
  /-- The command that this module as owner forwarded last, with its version, and the tick of the last swap frame it sent (R317). -/
  cmdOut : Option (FwdCmd × Nat) := none
  swapOut : Option Nat := none
  /-- The tick of the last refresh request that this module as standby sent (R315). -/
  refreshAsked : Option Nat := none
  /-- A Mirror claim was made after this tick's arm point, so that the Release drives nothing yet (R313). -/
  lateClaim : Bool := false
  /-- The version that the owner forwarded an exchange for (R317). -/
  forwarded : Option Nat := none
deriving DecidableEq, Repr

/-- What `SUBST` judges points by (R172), under keys 65536 × source kind + unit: a station's entry, 64 × controller + mailbox, a port, a
listen entry or a pin.  The tick of the last refresh, that tick as it stood at the Strobe, and the units that were marked failed then. -/
structure PointSt where
  live : Tbl Nat := []
  seen : Tbl Nat := []
  failed : List Nat := []
  /-- The listed bytes of the point table as they stood at the Strobe. -/
  table : List Host.Cell := []
deriving DecidableEq, Repr

/-- A frame of an output burst before its launch: its entry, the data of a command entry, and the substitute flag (R432). -/
structure GrzTodo where
  entry : Nat
  data : Option (List Byte)
  sub : Bool
deriving DecidableEq, Repr

/-- A launched output frame (R430). -/
structure GrzOut where
  entry : Nat
  addr : Nat
  flags : Nat
  tick : Nat
  data : List Byte
deriving DecidableEq, Repr

/-- Grezhasel's state beside its registers (R432 to R437). -/
structure GrzSt where
  /-- Released frames of command entries, and receive shadows, by entry. -/
  released : Tbl (List Byte) := []
  shadow : Tbl (List Byte) := []
  /-- Entries whose frame was launched in this tick, and their miss counts. -/
  launched : List Nat := []
  miss : Tbl Nat := []
  /-- Entries marked failed since the last Strobe. -/
  errDue : List Nat := []
  /-- The burst runs: frames to launch, the cycle of the tick at which the next one starts on the first LAN to start, the LANs on which it has not
  started, and the cycle at which it started on each of the others. -/
  burst : Bool := false
  todo : List GrzTodo := []
  nextAt : Nat := 0
  late : List Nat := []
  startAt : Tbl Nat := []
  /-- The burst's length in cycles. -/
  len : Nat := 0
  /-- The frames of the last burst. -/
  frames : List GrzOut := []
  /-- Responses whose service slot has opened, and the last response sent. -/
  slot : List Nat := []
  reply : Option (Nat × List Byte) := none
deriving DecidableEq, Repr

/-- A ring of a pair beside its registers (R422). -/
structure RingSt where
  /-- Launch times of queued transmit descriptors in TICK, and those refused for lying more than 10 s ahead (R368). -/
  launch : Tbl Nat := []
  refused : List Nat := []
  /-- The next descriptor's launch time has been reached. -/
  due : Bool := false
  /-- The next descriptor's frame is on the wire, and on these LANs. -/
  sending : Bool := false
  lans : List Nat := []
  /-- MONO at which it has left the wire. -/
  endAt : Nat := 0
  /-- Receive descriptors filled and not freed. -/
  filled : Nat := 0
deriving DecidableEq, Repr

/-- A frame that a pair sent beside the Grezhasel burst. -/
inductive Sent where
  | supervision
  | ring (frame : List Byte) (lanA lanB : Bool)
  | reply (seq status : Nat) (words : List Nat)
deriving DecidableEq, Repr

/-- The network island's state beside its registers. -/
structure NetSt where
  /-- Nodes heard on each pair, oldest first: pair and MAC address (R418). -/
  nodes : List (Nat × Nat) := []
  /-- Frames whose second copy is a duplicate: pair, MAC address and PRP sequence number, and MONO at the first copy (R418). -/
  seen : List ((Nat × Nat × Nat) × Nat) := []
  /-- MONO at the last supervision frame of each pair, and at the last frame received on each port (R418, R419). -/
  supAt : Tbl Nat := []
  heardAt : Tbl Nat := []
  rings : Tbl RingSt := []
  /-- The PRP sequence number of the next frame and the last frame sent, by pair. -/
  prpSeq : Tbl Nat := []
  sent : Tbl Sent := []
  /-- The next sequence word of each source area: ports, then 64 + listen entries (R424). -/
  areaSeq : Tbl Nat := []
  /-- Frames of the module's own that the Release guard holds, by pair, oldest first (R421). -/
  guarded : List (Nat × Sent) := []
  /-- MONO, in units of 2⁻³² ns, up to which a frame of the module's own keeps both LANs of a pair busy (R33). -/
  busyTo : Tbl Nat := []
deriving DecidableEq, Repr

/-- A region of lines (R445 to R447): the active one, or one that waits. -/
structure Lines where
  lo : Nat
  hi : Nat
  force : Bool
  irq : Bool
deriving DecidableEq, Repr

/-- The active region's pass: its cursor, its rewrite range, and whether it is a rewrite pass (R446). -/
structure Pass where
  region : Lines
  cursor : Nat
  rewrite : Option (Nat × Nat) := none
  rewriting : Bool := false
  /-- The line whose write runs. -/
  line : Option Nat := none
  /-- The line at the cursor waits for its zone's toggle (R449). -/
  waiting : Bool := false
  /-- The data words that follow its line address on LAN_D, and its line time in units of 10 ns (R441). -/
  data : List Nat := []
  time : Nat := 0
  /-- MONO at which the next line can start at the earliest, and at the end of the write that runs (R445, R449). -/
  readyAt : Nat := 0
  endAt : Nat := 0
deriving DecidableEq, Repr

/-- Lantern's state beside its registers (R440 to R455). -/
structure LanSt where
  active : Option Pass := none
  queue : List Lines := []
  /-- The band and drive entry that each zone has applied (R451). -/
  applied : Tbl (Nat × Word) := []
  /-- SET has been written since enable (R450). -/
  setWritten : Bool := false
  /-- Rows of the shutdown schedule that have passed (R454). -/
  shutStep : Nat := 0
  /-- MONO at the start of the enable or shutdown sequence that ran last, and at each zone's next toggle (R448, R453, R454). -/
  since : Nat := 0
  toggleAt : Tbl Nat := []
  /-- The whole second of MONO at which the temperature was taken last (R450). -/
  tempAt : Nat := 0
deriving DecidableEq, Repr

/-- The levels of the output pins that the commands drive. -/
structure PinSt where
  /-- Lantern's clear, rail enable, discharge, electrode enable and electrodes; discharge is active after reset (R455). -/
  gclr : Bool := false
  railEn : Bool := false
  disch : Bool := true
  vcomEn : Bool := false
  vcom : BitVec 4 := 0
  /-- BEACON is in its pulse (R367). -/
  beacon : Bool := false
  /-- Strobe lines in their pulse; `State.strobeLevels` gives their levels (R28). -/
  strobe : BitVec 16 := 0
  /-- RST_OUT_N and PHY_RST_N (R463, R473). -/
  rstOut : Bool := false
  phyRst : Bool := false
deriving DecidableEq, Repr

/-- An admitted descriptor of problem memory (R225), with its worst-case cycles (R241). -/
structure AzsDesc where
  n : Nat
  m : Nat
  p : Nat
  method : Nat
  k : Nat
  g : Nat
  slice : Nat
  pol : Nat
  warm : Bool
  wsSrc : Nat
  mat : Nat
  vec : Nat
  res : Nat
  ws : Nat
  work : Nat
  cyc : Nat
deriving DecidableEq, Repr

/-- Why admission runs (R243). -/
inductive Admit where
  | load | period | swap | command
deriving DecidableEq, Repr

/-- The Azsaina array's state beside its registers and problem memory. -/
structure AzsSt where
  /-- The admitted table in force, by problem number (R226). -/
  table : Tbl AzsDesc := []
  /-- The table admitted last, which applies from the next tick boundary (R243). -/
  next : Option (Tbl AzsDesc) := none
  /-- The admission that runs, and RESERVE as it stood when it started (R246). -/
  admitting : Option Admit := none
  reserve : Nat := 16
  /-- Problems staged for the next Solve edge, and those whose staging came too late for an edge that has not been taken yet (R24, R173). -/
  staged : List Nat := []
  after : List Nat := []
  /-- Staged problems of the running batch whose results are not final. -/
  batch : List Nat := []
  /-- The table that the batch started with, on which it ends (R243). -/
  running : Tbl AzsDesc := []
  /-- Every problem of the batch has ended, in this time-island cycle of the tick, and its completion event is on its way (R25, R237). -/
  crossing : Option Nat := none
  /-- The module entered Stop during the batch: its results are discarded (R240). -/
  discard : Bool := false
deriving DecidableEq, Repr

/-- The shadow selector's state beside its registers. -/
structure ShdSt where
  /-- The tick in which each pending detection was stamped (R258, R265). -/
  stamp : Tbl Nat := []
  /-- The entry of an armed rebase (R262). -/
  rebase : Option Nat := none
  /-- The tick in which BASE_GEN last changed (R270). -/
  genTick : Nat := 0
  /-- Surge and sway force of each thruster in the plan composed last, and in the one released last (R266). -/
  plan : Tbl (Nat × Nat) := []
  released : Tbl (Nat × Nat) := []
deriving DecidableEq, Repr

/-- A sample in a stream's window or buffer (R49): its value and second value (FP64), quality field, measurement instant (MONO in units
of 2⁻³² ns), assigned tick, skew in the same units, and whether its Glint filter was warming. -/
structure Samp where
  value : Nat
  second : Nat
  quality : Option Nat
  m : Nat
  tick : Nat
  skew : Int := 0
  warm : Bool := false
deriving DecidableEq, Repr

/-- A Prism stream's state beside its registers (R49 to R56, R73, R74, R78). -/
structure StreamSt where
  /-- Captured samples, newest first. -/
  window : List Samp := []
  /-- Samples that wait for their tick, oldest first. -/
  waiting : List Samp := []
  /-- The newest unfiltered samples of a digitally filtered stream, newest first (R102, R105). -/
  raw : List Samp := []
  /-- Cadence: m0, m_prev and j, once aligned (R54). -/
  cadence : Option (Nat × Nat × Int) := none
  /-- Ticks of the slips in the last 100 ticks, newest first. -/
  slips : List Nat := []
  /-- The last tick in which it slipped. -/
  lastSlip : Nat := 0
  /-- The tick of the last capture. -/
  lastCap : Nat := 0
  stale : Bool := false
  slipMask : Bool := false
  /-- Failure signs of the samples captured since the last result: range and rate (R73). -/
  badSample : Bool := false
  /-- Consecutive ticks without a sign while masked, and while unmasked; the mask multiplier in sixteenths (R74). -/
  clean : Nat := 0
  cleanUp : Nat := 0
  mult : Nat := 16
  /-- Consecutive passing ticks of a voted-out reference (R78). -/
  pass : Nat := 0
  /-- The main path has voted the reference out (R78). -/
  out : Bool := false
  /-- Consecutive ticks in which a rejected fall-back reference passes (R111), and rejected measurements in a row (R110). -/
  fbPass : Nat := 0
  fbRej : Nat := 0
  fbOut : Bool := false
  /-- The track's words (R110): north, east, their velocities, NN, NE, EE (or heading, rate and variance), the measurement instant, then what
  else its filter keeps. -/
  track : List Nat := []
deriving DecidableEq, Repr

/-- A candidate result or the published one (R89, R115): FP64 words and flags. -/
structure Cand where
  n : Nat := 0
  e : Nat := 0
  cov : List Nat := [0, 0, 0]
  hdg : Nat := 0
  hdgVar : Nat := 0
  second : List Nat := [0, 0, 0]
  hdgSecond : List Nat := [0, 0]
  valid : Bool := false
  edge : Bool := false
  flat : Bool := false
  fail : Bool := false
  splitPos : Bool := false
  splitHdg : Bool := false
  validSet : List Nat := []
  votedSet : List Nat := []
  /-- Groups 0 to 5: value A, value B, covariance AA, AB, BB, flags, contributing streams. -/
  groups : List (List Nat) := []
deriving DecidableEq, Repr

/-- What the next prior is formed from (R64, R83, R87). -/
inductive Prior where
  | fused | flat | bowl
deriving DecidableEq, Repr

/-- Prism and the fall-back path beside their registers and grid SRAM. -/
structure PrismSt where
  streams : Tbl StreamSt := []
  /-- The capture cut-off of this tick has not passed (R53). -/
  capturing : Bool := false
  /-- CONF as latched at the Strobe (R66). -/
  conf : Tbl Nat := []
  /-- A prediction set was armed since the previous Strobe (R63). -/
  armed : Bool := false
  posPrior : Prior := .flat
  hdgPrior : Prior := .flat
  /-- Grid centre in mm from the datum (R63). -/
  cn : Int := 0
  ce : Int := 0
  /-- The previous result lay on the border, and its peak cell's centre in mm (R63). -/
  edgeAt : Option (Int × Int) := none
  /-- Consecutive ticks with no valid position and heading reference (R85). -/
  noPos : Nat := 0
  noHdg : Nat := 0
  /-- The predicted heading as latched at the Strobe (R88). -/
  predHdg : Nat := 0
  /-- The main path runs in this tick, as decided at its Strobe. -/
  ran : Bool := false
  /-- Streams whose encoder cleared its validity bit in this tick (R60, R73). -/
  encBad : List Nat := []
  /-- An FP16 or FP32 stage of this tick gave a NaN or an overflow (R90). -/
  fpBad : Bool := false
  /-- The path that last supplied a result: true for the main path (R115). -/
  pub : Option Bool := none
  /-- The return count has reached RETURN in this tick: MAIN_RETURN publishes the main candidate (R116). -/
  returning : Bool := false
  /-- Strobe outputs of this tick by input, and whether each was warming (R50, R100). -/
  strobeOut : Tbl (Int × Bool) := []
  /-- The published result, this tick's main candidate and fall-back candidate. -/
  last : Cand := {}
  /-- The 1,024 bytes of the record last published (R87, R89); empty before the first. -/
  lastRec : List Byte := []
  main : Option Cand := none
  fb : Option Cand := none
  /-- The fall-back was published in the previous tick, after a consistency failure in its current spell. -/
  fbCons : Bool := false
  /-- The EKF's words (R113): north, east, their velocities, heading, heading rate, NN, NE, EE, heading variance, then what else it keeps; and
  its prediction interval in ticks (R117). -/
  ekf : List Nat := []
  fbTicks : Nat := 1
  /-- The fall-back context runs (R108). -/
  fbRuns : Bool := false
  /-- Where each stream's encoder table stands in weight SRAM (R57). -/
  tables : Tbl Nat := []
  /-- The next 64 KiB of weight SRAM that the patrol checks (R59). -/
  patrol : Nat := 0
  /-- Glint windows of the analogue inputs, newest output first (R102). -/
  glint : Tbl (List Int) := []
  /-- Ticks of the spikes of each input (key n) and digital unit (key 32 + u) in the last 100 ticks (R104). -/
  spikes : Tbl (List Nat) := []
  /-- Inputs whose chains restart after their next Strobe output (R100). -/
  restart : List Nat := []
  /-- Inputs that have delivered nothing since they were enabled (R285). -/
  silent : List Nat := []
deriving DecidableEq, Repr

/-- Instructions of the JTAG port (R479). -/
inductive Jtag where
  | bypass | idcode | samplePreload | extest | clamp | highz | dbgacc
deriving DecidableEq, Repr

/-- Reset and test (R472, R479). -/
structure SysSt where
  /-- The module is in reset. -/
  inReset : Bool := true
  /-- VDD_CORE is up, so that MONO counts, in a pin reset too (R355). -/
  coreOn : Bool := false
  /-- Causes that SYS_RESET reports from the next release on: bits as there.  A module that has never been powered reports POR and AON_LOST. -/
  causes : Word := 0x12
  /-- MONO at the last release, and at the last reading of HOLD_UP and of the junction temperature (R473, R480). -/
  releasedAt : Nat := 0
  holdAt : Nat := 0
  tjAt : Nat := 0
  /-- The JTAG instruction in force, and the word that IDCODE shifts out. -/
  jtag : Jtag := .idcode
  tdr : Word := 0
deriving DecidableEq, Repr

/-- The tick sequencer's state beside its registers. -/
structure TickSt where
  /-- MONO at the Strobe of the current tick, in units of 2⁻³² ns. -/
  strobeMono : Nat := 0
  /-- An accepted period that takes effect at the next boundary (R18). -/
  newPeriod : Option Nat := none
  /-- This tick has had a window fault (R41). -/
  faulted : Bool := false
  /-- The limit of R41 has been reached: the fault Stop comes at the end of the tick. -/
  stopDue : Bool := false
  /-- This tick has had a settle overrun (R39). -/
  settleOvr : Bool := false
  /-- Time-island cycles since the Strobe. -/
  cycles : Nat := 0
  /-- The pulse width in µs that applies in this tick (R28, R46). -/
  pulseUs : Nat := 10
  /-- The tick sequencer runs (R473). -/
  running : Bool := false
deriving DecidableEq, Repr

/-- What a tracking channel does (R373, R376). -/
inductive Track where
  | locked | searching
deriving DecidableEq, Repr

/-- A channel given to a signal of a satellite, and what it latched at the last epoch (R373, R376, R377, R380). -/
structure Channel where
  chain : Nat
  sys : GnssSys
  sat : Nat
  band2 : Bool
  elev : Nat
  track : Track
  /-- Code phase, carrier phase and Doppler in mHz. -/
  code : Nat := 0
  carrier : Int := 0
  doppler : Int := 0
  /-- C/N0 in units of 0.1 dB-Hz, azimuth, and whether the last solution used or excluded the satellite. -/
  cn0 : Nat := 0
  azim : Nat := 0
  used : Bool := false
  excluded : Bool := false
  /-- MONO since which its C/N0 is below 25 dB-Hz, and at its last loss of lock. -/
  low : Option Nat := none
  lostAt : Nat := 0
deriving DecidableEq, Repr

/-- The acquisition engine's target: passes made, the outputs of the passes of the segment under way, and whether a segment before it has reached
THR (R374). -/
structure Acq where
  chain : Nat
  sys : GnssSys
  sat : Nat
  passes : Nat
  outs : List Nat
  hit : Bool
deriving DecidableEq, Repr

/-- The GNSS baseband's state beside its registers. -/
structure GnssSt where
  channels : List Channel := []
  acq : Option Acq := none
  /-- Of each chain, MONO since which no channel of it is in lock (R376). -/
  unlocked : Tbl Nat := []
  /-- TAI at the last Strobe, the epoch (R377). -/
  epochTai : BaseVal := {}
  /-- Entries of the channel table that show a channel, by chain (R380). -/
  rows : Tbl Nat := []
  /-- The phase error of a first time solution after a whole TAI second that time has not taken, in units of 2⁻³² ns, and the TAI second of the last
  time solution (R385). -/
  timeSol : Option Int := none
  solSec : Option Nat := none
  /-- A velocity reference was armed since the last Strobe, and the set latched last: N, E, D in mm/s, attitude and heading words (R384). -/
  armed : Bool := false
  vref : List Int := [0, 0, 0, 0, 0]
  /-- MONO at the last epoch in which each check's condition held: keys 0 to 5, and 6 for RESID of chain 1 (R383). -/
  held : Tbl Nat := []
  /-- MONO, C/N0 and AGC gains of the epochs of the last second and the one before them, newest first: chain 0's mean, gains 1 and 2, then chain
  1's (R383). -/
  power : List (Nat × List Nat) := []
  /-- Consecutive epochs of a velocity difference, by chain, and without a baseline fix (R383). -/
  velBad : Tbl Nat := []
  noFix : Nat := 0
  /-- The last HFIXQ. -/
  hfix : Nat := 0
  /-- The last trusted clock bias (FP64) and TAI less MONO at it, in units of 2⁻³² ns (R383). -/
  bias : Option (Nat × Int) := none
  /-- MONO at the start that runs, and at the last entry to sleep (R387, R388). -/
  startAt : Nat := 0
  sleepAt : Nat := 0
  /-- It was woken in its standby role to refresh its data (R388). -/
  woken : Bool := false
  /-- Visible signals that found no free channel, with the elevation of their satellite (R373). -/
  untracked : List Channel := []
  /-- A SLEEP or WAKE command acts until the next change of the pair role (R388). -/
  manual : Bool := false
  /-- The values kept (R387): the last trusted position of chain 0 (latitude, longitude, height) and the clock drift. -/
  place : List Nat := []
  drift : Option Nat := none
  /-- Kept data (R387), with calendar seconds: ephemerides, almanac, trusted position. -/
  eph : List (GnssSys × Nat × Nat) := []
  almanac : List (GnssSys × Nat × Nat) := []
  /-- The satellites' last known elevations, and the GLONASS frequency numbers (R387). -/
  elevs : List (GnssSys × Nat × Nat) := []
  glonass : Tbl Int := []
  position : Option Nat := none
deriving DecidableEq, Repr

/-- The state of the block. -/
structure State where
  variant : Variant
  /-- The commands that wait, first in, first out. -/
  pending : List Instr
  /-- Memory of the regions of R486, by address. -/
  mem : List Host.Cell
  /-- The registers of R489, by address; one not listed holds its reset value. -/
  regs : Tbl Word
  /-- The word in force of a register whose last write takes effect only at a later edge (R46, R92, R177, R264, R417). -/
  inForce : Tbl Word
  /-- Registers kept for each bus master, by master and address. -/
  mregs : Tbl Word
  /-- High words latched for a master by its read of the low word (R12). -/
  latches : Tbl Word
  /-- Low words held for a master until it writes the high word (R13). -/
  lowBufs : Tbl Word
  recorder : RecSt
  irq : IrqSt
  time : TimeSt
  aon : AonSt
  pins : PinSt
  cml : CmlSt
  out : OutSt
  loop : LoopSt
  can : Tbl CanSt
  prg : PrgSt
  pair : PairSt
  azs : AzsSt
  shd : ShdSt
  prism : PrismSt
  gnss : GnssSt
  points : PointSt
  grz : GrzSt
  net : NetSt
  lan : LanSt
  tick : TickSt
  sys : SysSt
  site : SiteSt
  /-- How many free values have been drawn: the model's own field, not the spec's. -/
  freeCtr : Nat
deriving DecidableEq, Repr

/-- Why the machine stops with a fault.  No command of the table does: the module answers a bad access with a bus error and an event
(R486) and an exception of a context with R185, and both are next states. -/
inductive Fault where
  /-- Never raised by a meaning; it is here so that the type has a name for a fault.  Safe. -/
  | none_
deriving DecidableEq, Repr

/-- Why a command has no outcome in the model. -/
inductive Refusal where
  /-- Raised by an arm of `exec` whose command has no meaning yet.  Safe: nothing is claimed of it. -/
  | notModelled (mnemonic : String)
deriving DecidableEq, Repr

/-- The machine right after reset: every register at its reset value, nothing written in memory, no command waiting. -/
def State.reset : State where
  variant := { dieStep := 1, grade := .l, gnss2 := true, panelP := true }
  pending := []
  mem := []
  regs := []
  inForce := []
  mregs := []
  latches := []
  lowBufs := []
  recorder := { tokens := [(1024, 8000000)] }
  irq := {}
  time := {}
  aon := {}
  pins := {}
  cml := {}
  out := {}
  loop := {}
  can := []
  prg := {}
  pair := {}
  azs := {}
  shd := {}
  prism := {}
  gnss := {}
  points := {}
  grz := {}
  net := {}
  lan := {}
  tick := {}
  sys := {}
  site := {}
  freeCtr := 0

end Sys2Proof.Machine
end

