-- ==== Sys2Proof/Machine/Ops.lean ====
section
/-!
DEFINITION. Machine/Ops.lean: the named operations over sparse tables, registers and memory, free values, the readings of the time
bases, the event recorder's acceptance of a record, and the assertion of an interrupt source.  Every command's meaning is written
over these.
-/
namespace Sys2Proof.Machine

/-- A bit as a number. -/
def b2n (b : Bool) : Nat := if b then 1 else 0

/-! ## Sparse tables -/

/-- The value listed for a key. -/
def tget? {β : Type} : Tbl β → Nat → Option β
  | [], _ => none
  | (j, v) :: l, k => if j = k then some v else tget? l k

/-- The value of a key, `d` where none is listed. -/
def tget {β : Type} (d : β) (l : Tbl β) (k : Nat) : β := (tget? l k).getD d

/-- List a value for a key, keeping the keys rising. -/
def tput {β : Type} : Tbl β → Nat → β → Tbl β
  | [], k, v => [(k, v)]
  | (j, w) :: l, k, v =>
    if k < j then (k, v) :: (j, w) :: l
    else if k = j then (k, v) :: l
    else (j, w) :: tput l k v

/-- Take a key out of the table. -/
def tdel {β : Type} : Tbl β → Nat → Tbl β
  | [], _ => []
  | (j, w) :: l, k => if j = k then tdel l k else (j, w) :: tdel l k

/-- Give a key the value `v`, where `d` is what an unlisted key holds: `d` itself is never listed. -/
def tset {β : Type} [DecidableEq β] (d : β) (l : Tbl β) (k : Nat) (v : β) : Tbl β :=
  if v = d then tdel l k else tput l k v

/-- Every key of the table lies above `k`. -/
def tabove {β : Type} (k : Nat) (l : Tbl β) : Bool := l.all (fun e => decide (k < e.1))

/-- The canonical form: keys strictly rise and no entry equals what its key holds when it is not listed. -/
def twf {β : Type} [DecidableEq β] (d : Nat → β) : Tbl β → Bool
  | [] => true
  | (k, v) :: l => decide (v ≠ d k) && tabove k l && twf d l

/-! ## Registers -/

/-- The word a register holds. -/
def State.reg (s : State) (a : Nat) : Word := tget (regReset a) s.regs a

/-- Give a register a word. -/
def State.setReg (s : State) (a : Nat) (v : Word) : State := { s with regs := tset (regReset a) s.regs a v }

/-- The word register a holds after a plain write of `v`: its access codes say which bits take it. -/
def State.plain (s : State) (a : Nat) (v : Word) : Word :=
  match regInfo? a with
  | some r => r.written (s.reg a) v
  | none => s.reg a

/-- A plain write of register a. -/
def State.writeReg (s : State) (a : Nat) (v : Word) : State := s.setReg a (s.plain a v)

/-- A register field as a number. -/
def State.f (s : State) (x : Fld) : Nat := bitsOf (s.reg x.addr) x.hi x.lo

/-- A register field is not 0. -/
def State.b (s : State) (x : Fld) : Bool := s.f x != 0

/-- A register field as a signed number. -/
def State.fi (s : State) (x : Fld) : Int := signedOf (x.hi + 1 - x.lo) (s.f x)

/-- Write a register field. -/
def State.put (s : State) (x : Fld) (v : Nat) : State := s.setReg x.addr (withBits (s.reg x.addr) x.hi x.lo v)

/-- Write a register field with a signed number. -/
def State.puti (s : State) (x : Fld) (v : Int) : State := s.put x (unsignedOf (x.hi + 1 - x.lo) v)

/-- Set a one-bit field from a condition. -/
def State.putb (s : State) (x : Fld) (v : Bool) : State := s.put x (if v then 1 else 0)

/-- Add to a count that saturates at its field's largest value. -/
def State.count (s : State) (x : Fld) (d : Nat := 1) : State :=
  s.put x (satAdd (2 ^ (x.hi + 1 - x.lo) - 1) (s.f x) d)

/-- Add to a count that wraps. -/
def State.bump (s : State) (x : Fld) : State := s.put x (s.f x + 1)

/-- One bit of a bitmap kept in consecutive registers: bit k mod 32 of the word k / 32 words after `a`. -/
def State.bit (s : State) (a k : Nat) : Bool := (s.reg (a + 4 * (k / 32))).getLsbD (k % 32)

/-- Write one bit of such a bitmap. -/
def State.setBit (s : State) (a k : Nat) (v : Bool) : State :=
  let w := a + 4 * (k / 32)
  s.setReg w (withBits (s.reg w) (k % 32) (k % 32) (if v then 1 else 0))

/-- A 64-bit value in two consecutive registers, low word first (R12). -/
def State.reg64 (s : State) (lo : Nat) : Nat := (s.reg (lo + 4)).toNat * 2 ^ 32 + (s.reg lo).toNat

/-- Write a 64-bit value into two consecutive registers. -/
def State.setReg64 (s : State) (lo v : Nat) : State :=
  (s.setReg lo (BitVec.ofNat 32 v)).setReg (lo + 4) (BitVec.ofNat 32 (v / 2 ^ 32))

/-- The registers of an array that do not hold their reset word, as index and word: `a` is the first address, with a stride and a count. -/
def State.listed (s : State) (a stride count : Nat) : List (Nat × Word) :=
  s.regs.filterMap fun e =>
    if a ≤ e.1 ∧ e.1 < a + stride * count ∧ (e.1 - a) % stride = 0 then some ((e.1 - a) / stride, e.2) else none

/-- The word in force of a register whose writes take effect at a later edge. -/
def State.eff (s : State) (a : Nat) : Word := (tget? s.inForce a).getD (s.reg a)

/-- Write a register that keeps its old word in force until its edge. -/
def State.setLater (s : State) (a : Nat) (v : Word) : State :=
  ({ s with inForce := if (tget? s.inForce a).isSome then s.inForce else tput s.inForce a (s.reg a) }).setReg a v

/-- From its edge on, what was written is in force, for the registers from `a` up to before `b`. -/
def State.takeEffect (s : State) (a b : Nat) : State :=
  { s with inForce := s.inForce.filter fun e => decide (e.1 < a) || decide (b ≤ e.1) }

/-- The registers of an array that do not hold their reset word, with the word in force. -/
def State.listedEff (s : State) (a stride count : Nat) : List (Nat × Word) :=
  (List.range count).filterMap fun i =>
    let k := a + stride * i
    if (tget? s.regs k).isSome || (tget? s.inForce k).isSome then some (i, s.eff k) else none

/-- The number of a bus master in the codes of R319. -/
def masterCode (m : Master) : Nat :=
  match m with
  | .cc0 => 0 | .cc1 => 1 | .cc2 => 2 | .cc3 => 3 | .sc0 => 4 | .sc1 => 5
  | .dma => 6 | .pcieHost => 7 | .pairLink => 8 | .debug => 9 | .ethHost => 10

/-- The key of a register that is kept for each master. -/
def mkey (m : Master) (a : Nat) : Nat := masterCode m * 2 ^ 40 + a

/-- A master's own copy of a register (R12, R323, R334, R358). -/
def State.mreg (s : State) (m : Master) (a : Nat) : Word := tget 0 s.mregs (mkey m a)

def State.setMreg (s : State) (m : Master) (a : Nat) (v : Word) : State :=
  { s with mregs := tset 0 s.mregs (mkey m a) v }

def State.mput (s : State) (m : Master) (x : Fld) (v : Nat) : State :=
  s.setMreg m x.addr (withBits (s.mreg m x.addr) x.hi x.lo v)

/-! ## Activations -/

/-- The activation of a context that has not ended. -/
def State.act? (s : State) (c : Nat) : Option Act := tget? s.cml.acts c

def State.setAct (s : State) (c : Nat) (a : Act) : State := { s with cml := { s.cml with acts := tput s.cml.acts c a } }

/-- Change the activation of a context, if it has one. -/
def State.modAct (s : State) (c : Nat) (g : Act → Act) : State :=
  match s.act? c with
  | some a => s.setAct c (g a)
  | none => s

/-! ## Free values -/

/-- Draw a value the spec leaves open: below `n` where `n` is above 0. -/
def State.draw (s : State) (n : Nat := 0) : Nat × State :=
  (Config.free s.freeCtr % n, { s with freeCtr := s.freeCtr + 1 })

/-- n bytes the spec leaves open. -/
def State.drawBytes (s : State) : Nat → List Byte × State
  | 0 => ([], s)
  | n + 1 =>
    let (v, s) := s.draw 256
    let (l, s) := s.drawBytes n
    (BitVec.ofNat 8 v :: l, s)

/-! ## Memory (R486) -/

/-- The regions of the address map (R149, R486). -/
inductive Region where
  | cumel | rom | problem | weights | grid | epochs | channels | registers | mram | lpddr | unassigned
deriving DecidableEq, Repr

/-- The region that holds an address (R486, R149). -/
def regionOf (a : Nat) : Region :=
  if a < 0x1000000 then .cumel
  else if a < 0x1100000 then .rom
  else if a < 0x10000000 then .unassigned
  else if a < 0x10400000 then .problem
  else if a < 0x20000000 then .unassigned
  else if a < 0x20800000 then .weights
  else if a < 0x20C00000 then .grid
  else if a < 0x30000000 then .unassigned
  else if a < 0x30000400 then .epochs
  else if a < 0x30001000 then .unassigned
  else if a < 0x30003000 then .channels
  else if a < 0x40000000 then .unassigned
  else if a < 0x40120000 then .registers
  else if a < 0x80000000 then .unassigned
  else if a < 0x84000000 then .mram
  else if a < 0x100000000 then .unassigned
  else if a < 0x200000000 then .lpddr
  else .unassigned

/-- Where the context store starts (R145). -/
def ctxBase : Nat := 0xF00000

/-- Start of instance data (R149). -/
def instBase : Nat := 0x800000

/-- Start of global scratch (R149). -/
def scratchBase : Nat := 0xC00000

/-- Start of MRAM and of LPDDR5 (R486). -/
def mramBase : Nat := 0x80000000
def lpddrBase : Nat := 0x100000000

/-- What an unlisted byte of memory reads as: the context number in the CTX word of each slot (R145), and 0 elsewhere, where the spec gives
no contents after reset (assumption log 3). -/
def memDefault (a : Nat) : Byte :=
  if ctxBase ≤ a ∧ a < 0x1000000 ∧ a % 0x1000 = 0x20C then BitVec.ofNat 8 ((a - ctxBase) / 0x1000) else 0

/-- Bytes that ignore every write: the ROM (R149), and in each context slot w0, CTX and the reserved bytes (R145). -/
def writeIgnored (a : Nat) : Bool :=
  let o := a % 0x1000
  (decide (0x1000000 ≤ a) && decide (a < 0x1100000)) ||
  (decide (ctxBase ≤ a) && decide (a < 0x1000000) &&
    (decide (o < 8) || (decide (0x20C ≤ o) && decide (o < 0x210)) || (decide (0x218 ≤ o) && decide (o < 0x240))))

/-- Read one byte of memory. -/
def State.byte (s : State) (a : Nat) : Byte := tget (memDefault a) s.mem a

/-- Store one byte, as a master's write or the module's own; bytes that ignore writes keep what they hold. -/
def State.setByte (s : State) (a : Nat) (v : Byte) : State :=
  if writeIgnored a then s else { s with mem := tset (memDefault a) s.mem a v }

/-- Read n bytes, little-endian. -/
def State.rd (s : State) : Nat → Nat → Nat
  | _, 0 => 0
  | a, n + 1 => (s.byte a).toNat + 256 * s.rd (a + 1) n

/-- Store the low n bytes of `v`, little-endian. -/
def State.wr (s : State) : Nat → Nat → Nat → State
  | _, 0, _ => s
  | a, n + 1, v => (s.setByte a (BitVec.ofNat 8 v)).wr (a + 1) n (v / 256)

/-- Store a list of bytes. -/
def State.wrBytes (s : State) : Nat → List Byte → State
  | _, [] => s
  | a, b :: l => (s.setByte a b).wrBytes (a + 1) l

/-- Read a list of n bytes. -/
def State.rdBytes (s : State) (a n : Nat) : List Byte := (List.range n).map fun i => s.byte (a + i)

/-- The canonical form of memory. -/
def memWf (m : List Host.Cell) : Bool := twf memDefault m

/-! ## CRC-32C -/

/-- Eight steps of the reflected CRC-32C polynomial (assumption log 6). -/
def crcStep : Nat → Nat → Nat
  | 0, c => c
  | n + 1, c => crcStep n (if c % 2 = 1 then (c / 2) ^^^ 0x82F63B78 else c / 2)

/-- CRC-32C of a list of bytes. -/
def crc32c (l : List Byte) : Nat :=
  (l.foldl (fun c b => crcStep 8 (c ^^^ b.toNat)) 0xFFFFFFFF) ^^^ 0xFFFFFFFF

/-- The little-endian bytes of a number. -/
def bytesLE : Nat → Nat → List Byte
  | 0, _ => []
  | n + 1, v => BitVec.ofNat 8 v :: bytesLE n (v / 256)

/-- The number spelt by little-endian bytes. -/
def leBytes : List Byte → Nat
  | [] => 0
  | b :: l => b.toNat + 256 * leBytes l

/-! ## The mode and the tick -/

/-- The module's mode (R188): the coding of PRG_MODE.MODE. -/
inductive Mode where
  | stop | run | hold
deriving DecidableEq, Repr

/-- The mode in force, whose one home is PRG_MODE.MODE. -/
def State.mode (s : State) : Mode :=
  match s.f F.PRG_MODE_MODE with
  | 1 => .run
  | 2 => .hold
  | _ => .stop

/-- Enter a mode. -/
def State.setMode (s : State) (m : Mode) : State :=
  s.put F.PRG_MODE_MODE (match m with | .stop => 0 | .run => 1 | .hold => 2)

/-- The tick number (R22). -/
def State.tickNo (s : State) : Nat := s.reg64 R.TICK_NUM_LO

/-- The tick period in ms (R17). -/
def State.periodMs (s : State) : Nat :=
  match s.f F.TICK_PERIOD_SEL with
  | 0 => 5
  | 1 => 10
  | _ => 20

/-- The tick period in µs. -/
def State.periodUs (s : State) : Nat := 1000 * s.periodMs

/-- The time island's cycle of this tick lies before the cycle of the edge `us` µs after the Strobe (R24). -/
def State.beforeEdge (s : State) (us : Nat) : Bool := decide (s.tick.cycles < 500 * us)

/-- Phase p, whose edge lies `us` µs after the Strobe, has begun: an event in the cycle of the edge belongs to it, the edge's command taken or not
(R24). -/
def State.begun (s : State) (p us : Nat) : Bool := decide (p ≤ s.f F.TICK_PHASE_PHASE) || !s.beforeEdge us

/-! ## Remote points (R172) -/

/-- The key of a source unit in the tables of `PointSt`. -/
def pointKey (kind unit : Nat) : Nat := 65536 * kind + unit

/-- A refresh of a unit in the current tick. -/
def State.refreshPoint (s : State) (kind unit : Nat) : State :=
  let live := tput s.points.live (pointKey kind unit) s.tickNo
  let seen := if s.tick.running && decide (s.tick.cycles = 0) then tput s.points.seen (pointKey kind unit) s.tickNo else s.points.seen
  { s with points := { s.points with live := live, seen := seen } }

/-! ## Time -/

/-- Units of 2⁻³² ns in one second. -/
def nsPerSec : Nat := 1000000000 * 2 ^ 32

/-- The value of base b (R355). CIV is TAI plus the offset in force (R365). -/
def State.base (s : State) (b : Nat) : BaseVal :=
  if b = 2 then
    let t := tget {} s.time.bases 1
    { t with sec := unsignedOf 64 ((t.sec : Int) + s.fi F.TIME_OFFSET_OFF) }
  else tget {} s.time.bases b

def State.setBase (s : State) (b : Nat) (v : BaseVal) : State :=
  { s with time := { s.time with bases := tset {} s.time.bases b v } }

/-- The published fraction of a base in units of 2⁻³² s: the nanosecond count × 2³² / 10⁹, rounded down (R357). -/
def BaseVal.frac (v : BaseVal) : Nat := v.ns / 1000000000

/-- A base moved by a signed amount of units of 2⁻³² ns; a base does not go below 0. -/
def BaseVal.shift (v : BaseVal) (d : Int) : BaseVal :=
  let t := ((v.sec * nsPerSec + v.ns : Nat) : Int) + d
  ⟨t.toNat / nsPerSec, t.toNat % nsPerSec⟩

/-- A base as one count of units of 2⁻³² ns. -/
def BaseVal.total (v : BaseVal) : Nat := v.sec * nsPerSec + v.ns

/-- MONO in units of 2⁻³² ns. -/
def State.mono (s : State) : Nat := (s.base 0).total

/-- The power-fail indication has come, and the GNSS, network, CAN and pair link islands are stopped (R470). -/
def State.dark (s : State) : Bool := s.b F.REC_STATUS_AFTERGLOW

/-- Operating seconds: MONO's seconds of this power cycle added to those of earlier ones (R321). -/
def State.opsec (s : State) : Nat := s.aon.opsec + (s.base 0).sec

/-! ## The event recorder (R319 to R333) -/

/-- Where a record's fields lie in payload bytes (R488): one u32 word, or one u64 at the next multiple of 8. -/
inductive PayItem where
  | u32 (n : Nat)
  | u64 (n : Nat)
deriving DecidableEq, Repr

/-- Items laid out as R488 gives, from byte offset `o`. -/
def payNat : Nat → List PayItem → Nat
  | _, [] => 0
  | o, .u32 n :: l => (n % 2 ^ 32) * 2 ^ (8 * o) + payNat (o + 4) l
  | o, .u64 n :: l =>
    let o' := (o + 7) / 8 * 8
    (n % 2 ^ 64) * 2 ^ (8 * o') + payNat (o' + 8) l

/-- A payload of items (R488). -/
def pay (l : List PayItem) : Payload := BitVec.ofNat 256 (payNat 0 l)

/-- A payload of u32 words. -/
def payW (l : List Nat) : Payload := pay (l.map .u32)

/-- A list of up to k items in k words; places with no item hold 0xFFFF_FFFF (R488). -/
def payList (k : Nat) (l : List Nat) : Payload := payW ((List.range k).map fun i => l.getD i 0xFFFFFFFF)

/-- The 64 bytes of a record with its CRC (R319). -/
def Rec.bytes (r : Rec) : List Byte :=
  let head := bytesLE 8 r.seq ++ bytesLE 8 r.secs ++ bytesLE 4 r.aux ++ bytesLE 4 r.tick ++ bytesLE 2 r.code ++
    bytesLE 1 r.flags ++ bytesLE 1 r.source
  let tail := bytesLE 32 r.payload.toNat
  head ++ bytesLE 4 (crc32c (head ++ [0, 0, 0, 0] ++ tail)) ++ tail

/-- Records the store can hold (R319). -/
def storeCap : Nat := 786432

/-- Write a record to its slot of the store, (sequence − FIRST) (R334), and count it. -/
def State.toStore (s : State) (r : Rec) : State :=
  (s.wrBytes (mramBase + 64 * (r.seq - s.recorder.first)) r.bytes).put F.REC_USED_USED (s.f F.REC_USED_USED + 1)

/-- Calendar time applies: not in Run, in Hold, or under TEST (R321). -/
def State.calendar (s : State) : Bool := decide (s.mode ≠ .run) || s.b F.REC_CTRL_TEST

/-- The seconds, the word at 0x10 and flags 0 to 2 of a record accepted now (R321). -/
def State.stamp (s : State) : Nat × Nat × Nat :=
  if s.calendar then
    if s.b F.TIME_STATUS_CIV_VALID then ((s.base 2).sec, (s.base 2).frac, 3)
    else if s.aon.calValid then (s.aon.cal.sec, s.aon.cal.frac / 131072 * 131072, 5)
    else (0, 0, 1)
  else (s.opsec, (s.reg R.REC_PCYC).toNat, 0)

/-- Buffered recording is in force (R325). -/
def State.buffered (s : State) : Bool := s.b F.REC_STATUS_BUFFERED

/-- Take the next sequence number and make the record; the first record of an empty store fixes FIRST (R322, R329). -/
def State.newRecord (s : State) (src code : Nat) (p : Payload) (inBuf : Bool) : Rec × State :=
  let r := s.recorder
  let st := s.stamp
  let n := r.next
  let empty := decide (s.f F.REC_USED_USED = 0) && r.queue.isEmpty && r.buffer.isEmpty
  ({ seq := n, secs := st.1, aux := st.2.1, tick := s.tickNo % 2 ^ 32, code := code, flags := st.2.2 + (if inBuf then 8 else 0),
     source := src, payload := p },
   { s with recorder := { r with next := n + 1, first := if empty then n else r.first } })

/-- The FLUSH_MASK class of an event code (R326): 0 fault Stop, 1 window fault, 2 takeover, 3 promotion, 4 Split or consistency failure,
5 deadline miss, 6 uncorrectable ECC. -/
def flushClasses (code : Nat) (faultStop : Bool) : List Nat :=
  (if code = 0x0104 ∨ code = 0x0303 ∨ (code = 0x0200 ∧ faultStop) then [0] else []) ++
  (if code = 0x0100 ∨ code = 0x0101 ∨ code = 0x0102 then [1] else []) ++
  (if code = 0x0D02 then [2] else []) ++
  (if code = 0x0700 then [3] else []) ++
  (if code = 0x0400 ∨ code = 0x0407 then [4] else []) ++
  (if code = 0x0101 ∨ code = 0x0600 then [5] else []) ++
  (if code = 0x0D09 then [6] else [])

/-- Start a flush for a cause; a second cause joins the flush that runs (R326). -/
def State.startFlush (s : State) (cause : Nat) : State :=
  match s.recorder.flush with
  | some _ => s
  | none =>
    ({ s with recorder := { s.recorder with flush := some cause, flushed := 0 } }).put F.REC_STATUS_FLUSHING 1

/-- The fill trigger: the buffer has reached FLUSH_FILL/256 of its size (R326). -/
def State.fillTrigger (s : State) : State :=
  let t := s.f F.REC_CTRL_FLUSH_FILL
  if t ≠ 0 ∧ t * 128 ≤ s.recorder.buffer.length then s.startFlush 8 else s

/-- Put an accepted record into the buffer or the queue, or, written directly, into the store (R324 to R326). -/
def State.place (s : State) (src code : Nat) (p : Payload) (direct : Bool) : State :=
  if direct ∧ s.recorder.queue = [] ∧ s.recorder.buffer = [] then
    let (r, s) := s.newRecord src code p false
    s.toStore r
  else if s.buffered then
    let (r, s) := s.newRecord src code p true
    ({ s with recorder := { s.recorder with buffer := s.recorder.buffer ++ [r] } }).fillTrigger
  else
    let (r, s) := s.newRecord src code p false
    { s with recorder := { s.recorder with queue := s.recorder.queue ++ [r] } }

/-- What became of an offered record: the coding of REC_SUB_STAT.RESULT. -/
inductive Offer where
  | accepted (seq : Nat)
  | suppressed
  | dropped
deriving DecidableEq, Repr

/-! ## Interrupt sources (R342 to R345) and detectors (R257) -/

/-- Source n belongs to a feature that is fused off (R6, R342, R372): serial ports 16 to 27 on a P variant, Lantern on an X variant, chain 1
and baseline heading on GNSS option 1. -/
def State.sourceFused (s : State) (n : Nat) : Bool :=
  (decide (180 ≤ n) && decide (n ≤ 191) && s.variant.panelP) || (decide (n = 195) && !s.variant.panelP) ||
  ((decide (n = 105) || decide (n = 106)) && !s.variant.gnss2)

/-- The source is assigned (R344), and its feature is not fused off (R6). -/
def State.sourceExists (s : State) (n : Nat) : Bool :=
  (n = 0 || (1 ≤ n && n ≤ 5) || n = 8 || n = 9 || (16 ≤ n && n ≤ 24) || (32 ≤ n && n ≤ 34) || (40 ≤ n && n ≤ 42) ||
    (48 ≤ n && n ≤ 195) || (200 ≤ n && n ≤ 231)) && !s.sourceFused n

/-- The number of ones of a word. -/
def popcount (w : Word) : Nat := ((List.range 32).filter fun i => w.getLsbD i).length

/-- Refresh SHD_STATUS.PEND_CNT, the number of pending detections. -/
def State.countPend (s : State) : State :=
  s.put F.SHD_STATUS_PEND_CNT (min 255 (((List.range 8).map fun i => popcount (s.reg (R.SHD_PEND i))).foldl (· + ·) 0))

/-- An event on detector d, which latches a detection or merges into a pending one when the detector is enabled; SHD_LASTDET shows it
either way (R257, R258). -/
def State.detect (s : State) (d : Nat) : State :=
  if bitsOf (s.eff (R.SHD_MAP d)) 31 31 = 1 then
    let s := if s.bit (R.SHD_PEND 0) d then s else { s with shd := { s.shd with stamp := tput s.shd.stamp d s.tickNo } }
    let s := s.setBit (R.SHD_PEND 0) d true
    let s := s.put F.SHD_LASTDET_OFFSET (s.f F.TICK_PHASE_OFFSET)
    (s.put F.SHD_LASTDET_DET d).countPend
  else s

/-- The enabled detectors whose SRC and UNIT name an event, in increasing order. -/
def State.detectorsOf (s : State) (src unit : Nat) : List Nat :=
  (s.listedEff (R.SHD_MAP 0) 4 256).filterMap fun e =>
    if bitsOf e.2 31 31 = 1 ∧ bitsOf e.2 30 29 = src ∧ bitsOf e.2 7 0 = unit then some e.1 else none

/-- A source asserts: the detectors that name it see the assertion whatever its enable (R343); enabled, it raises its pending count, and
the first held edge starts its timer (R345).  Disabled, its assertion is dropped (R342). -/
def State.assertSrc (s : State) (n : Nat) : State :=
  if s.sourceExists n then
    let s := (s.detectorsOf 2 n).foldl (·.detect ·) s
    if s.b (F.IRQ_CFG_EN n) then
      let s := if s.f (F.IRQ_COAL_PCNT n) = 0 then { s with irq := { s.irq with timer := tset 0 s.irq.timer n 0 } } else s
      s.count (F.IRQ_COAL_PCNT n)
    else s
  else s

/-- A message stored for source n waits for the stamp of the delivery that covers its edge; an edge that is dropped is covered by none (R342,
R349, R350). -/
def State.awaitStamp (s : State) (n a : Nat) : State :=
  if s.sourceExists n && s.b (F.IRQ_CFG_EN n) then { s with irq := { s.irq with awaiting := s.irq.awaiting ++ [(n, a)] } } else s

/-! ## Acceptance -/

/-- The queue, or in buffered mode the buffer, is full (R324, R325). -/
def State.recFull (s : State) : Bool :=
  if s.buffered then decide (32768 ≤ s.recorder.buffer.length) else decide (256 ≤ s.recorder.queue.length)

/-- Accept a record, or drop it for a full queue, buffer or store, or after Afterglow's end.  The last slot takes the Store-full record, the way
the record that found it would have gone (R324, R325, R327, R331). -/
def State.accept (s : State) (src code : Nat) (p : Payload) (direct : Bool) : Offer × State :=
  let total := s.f F.REC_USED_USED + s.recorder.queue.length + s.recorder.buffer.length
  if s.recorder.closed then (.dropped, s)
  else if s.b F.REC_STATUS_FULL then (.dropped, s.count F.REC_DROP_FULL_COUNT)
  else if !direct && s.recFull then (.dropped, s.count F.REC_DROP_Q_COUNT)
  else if storeCap ≤ total + 1 then
    let s := s.place 0x10 0x0F03 (pay [.u32 (total + 1), .u64 s.tickNo]) direct
    (.dropped, ((s.put F.REC_STATUS_FULL 1).assertSrc 194).count F.REC_DROP_FULL_COUNT)
  else (.accepted s.recorder.next, s.place src code p direct)

/-- The rate-limit bucket of a code: the lowest enabled entry that names it, or the default bucket 1,024 (R332). -/
def State.bucketOf (s : State) (code : Nat) : Nat :=
  match (s.listed (R.REC_RLCODE 0) 8 1024).find? (fun e => bitsOf e.2 31 31 = 1 ∧ bitsOf e.2 15 0 = code) with
  | some e => e.1
  | none => 1024

/-- Count a suppressed record (R332) and remember it for the summary (R333). -/
def State.suppress (s : State) (b code : Nat) : State :=
  let s := (if b = 1024 then s.count F.REC_RLDSUP_COUNT else s.count (F.REC_RLSUP_COUNT b)).count F.REC_SUPPR_COUNT
  let t := s.tickNo % 2 ^ 32
  let l := s.recorder.suppressed
  let l := match l.find? (·.code = code) with
    | some _ => l.map fun x => if x.code = code then { x with count := x.count + 1, last := t } else x
    | none => l ++ [⟨code, 1, t, t⟩]
  { s with recorder := { s.recorder with suppressed := l } }

/-- The summary of what was suppressed of a code, offered before the next accepted record of that code; one that is dropped stays due (R333). -/
def State.summarise (s : State) (code : Nat) : State :=
  match s.recorder.suppressed.find? (·.code = code) with
  | some x =>
    match s.accept 0x10 0x0F02 (payW [x.code, x.count, x.first, x.last]) false with
    | (.accepted _, s) => { s with recorder := { s.recorder with suppressed := s.recorder.suppressed.filter (·.code ≠ code) } }
    | (_, s) => s
  | none => s

/-- An event of a class that FLUSH_MASK enables starts a flush of the buffer, whatever became of its record (R326). -/
def State.flushOn (s : State) (code : Nat) (faultStop : Bool) : State :=
  match (flushClasses code faultStop).find? (fun c => (s.reg R.REC_CTRL).getLsbD c) with
  | some c => if s.buffered then s.startFlush c else s
  | none => s

/-- A record costs a token of its bucket, but for the recorder's own codes (R332). -/
def State.spend (s : State) (b code : Nat) : State :=
  if 0x0F00 ≤ code ∧ code ≤ 0x0F0F then s
  else { s with recorder := { s.recorder with tokens := tset 0 s.recorder.tokens b (tget 0 s.recorder.tokens b - 16000) } }

/-- Offer a record: the rate limit, the summary of what was suppressed before, then acceptance (R322, R332, R333). -/
def State.offerRec (s : State) (src code : Nat) (p : Payload) : Offer × State :=
  if s.b F.REC_STATUS_FULL then (.dropped, s.count F.REC_DROP_FULL_COUNT)
  else
    let b := s.bucketOf code
    if ¬(0x0F00 ≤ code ∧ code ≤ 0x0F0F) ∧ tget 0 s.recorder.tokens b < 16000 then (.suppressed, s.suppress b code)
    else ((s.spend b code).summarise code).accept src code p false

/-- A record is offered, and its event may start a flush (R326); after Afterglow's end nothing is taken (R327).  `faultStop` says that the event
puts the module in Stop by a fault (FLUSH_MASK bit 0). -/
def State.offer (s : State) (src code : Nat) (p : Payload) (faultStop : Bool := false) : Offer × State :=
  if s.recorder.closed then (.dropped, s)
  else
    let r := s.offerRec src code p
    (r.1, r.2.flushOn code faultStop)

/-- The module records an event of its own, with source 0x10 (R323). -/
def State.record (s : State) (code : Nat) (p : Payload) (faultStop : Bool := false) : State := (s.offer 0x10 code p faultStop).2

/-- An event whose items are u32 words (R488). -/
def State.event (s : State) (code : Nat) (items : List Nat) : State := s.record code (payW items)

/-- A register write that was ignored, refused or clamped and recorded: event 0xFF of the register's block (R487, R488). -/
def State.recordWrite (s : State) (m : Master) (a : Nat) (v : Word) (reason : Nat := 0) : State :=
  s.record (blockOf a * 0x100 + 0xFF) (pay [.u64 a, .u32 v.toNat, .u32 (masterCode m), .u32 reason])

/-- A bus error: recorded under SYS event 0x00 with the address, width, kind and master (R11, R488), and source 0 (R344). -/
def State.busError (s : State) (m : Master) (a width : Nat) (k : AccessKind) : State :=
  (s.record 0 (pay [.u64 a, .u32 width, .u32 (match k with | .read => 0 | .write => 1 | .fetch => 2), .u32 (masterCode m)])).assertSrc 0

end Sys2Proof.Machine
end

