-- ==== Sys2Proof/Machine/Operands.lean ====
section
/-!
DEFINITION. Machine/Operands.lean: the registers of a Cumel context, which live in its slot of the context store (R145 to R147), the
instance and type tables (R151, R152), and the dirty and relevant marks of pages (R159, R176).
-/
namespace Sys2Proof.Machine

/-! ## Context registers (R145, R147) -/

/-- The slot of context c. -/
def slot (c : Nat) : Nat := ctxBase + 0x1000 * c

/-- Register w[r]; w0 reads zero. -/
def State.w (s : State) (c r : Nat) : Dword := if r = 0 then 0 else BitVec.ofNat 64 (s.rd (slot c + 8 * r) 8)

/-- Write w[r]; a write of w0 is discarded. -/
def State.setW (s : State) (c r : Nat) (v : Dword) : State := s.wr (slot c + 8 * r) 8 v.toNat

/-- Register d[r]. -/
def State.d (s : State) (c r : Nat) : Dword := BitVec.ofNat 64 (s.rd (slot c + 0x100 + 8 * r) 8)

def State.setD (s : State) (c r : Nat) (v : Dword) : State := s.wr (slot c + 0x100 + 8 * r) 8 v.toNat

/-- PC, 23 bits. -/
def State.pc (s : State) (c : Nat) : Nat := s.rd (slot c + 0x200) 4 % 2 ^ 23

def State.setPc (s : State) (c v : Nat) : State := s.wr (slot c + 0x200) 4 (v % 2 ^ 23)

/-- IB, 22 bits. -/
def State.ib (s : State) (c : Nat) : Nat := s.rd (slot c + 0x204) 4 % 2 ^ 22

def State.setIb (s : State) (c v : Nat) : State := s.wr (slot c + 0x204) 4 (v % 2 ^ 22)

/-- TB, 12 bits. -/
def State.tb (s : State) (c : Nat) : Nat := s.rd (slot c + 0x208) 4 % 2 ^ 12

def State.setTb (s : State) (c v : Nat) : State := s.wr (slot c + 0x208) 4 (v % 2 ^ 12)

/-- FPFLAGS, five sticky bits. -/
def State.fpflags (s : State) (c : Nat) : Nat := s.rd (slot c + 0x210) 4 % 32

def State.setFpflags (s : State) (c v : Nat) : State := s.wr (slot c + 0x210) 4 (v % 32)

/-- DEPTH, link-stack frames in use; a stored value above 220 acts as 220 (assumption log 20). -/
def State.depth (s : State) (c : Nat) : Nat := min 220 (s.rd (slot c + 0x214) 4)

def State.setDepth (s : State) (c v : Nat) : State := s.wr (slot c + 0x214) 4 v

/-- Link-stack frame k of context c. -/
def frameAt (c k : Nat) : Nat := slot c + 0x240 + 16 * k

/-! ## Program tables (R149 to R152) -/

/-- Where the active program bank starts. -/
def State.bankBase (s : State) : Nat := 0x400000 * s.f F.PRG_STATUS_BANK

/-- Where the staging program bank starts. -/
def State.stagingBase (s : State) : Nat := 0x400000 * (1 - s.f F.PRG_STATUS_BANK)

/-- A type-table entry of a bank: entry PC, size, state-map offset and flags. -/
structure TypeEnt where
  entry : Nat
  size : Nat
  map : Nat
  defined : Bool
  rom : Bool
deriving DecidableEq, Repr

def State.typeIn (s : State) (bank t : Nat) : TypeEnt :=
  let a := bank + 0x1000 + 16 * t
  let fl := s.rd (a + 12) 4
  { entry := s.rd a 4, size := s.rd (a + 4) 4, map := s.rd (a + 8) 4, defined := fl % 2 = 1, rom := fl / 2 % 2 = 1 }

def State.typeEnt (s : State) (t : Nat) : TypeEnt := s.typeIn s.bankBase t

/-- An instance-table entry of a bank: identity, base, type and the defined flag. -/
structure InstEnt where
  ident : Nat
  base : Nat
  type : Nat
  defined : Bool
deriving DecidableEq, Repr

def State.instIn (s : State) (bank n : Nat) : InstEnt :=
  let a := bank + 0x11000 + 16 * n
  { ident := s.rd a 4, base := s.rd (a + 4) 4, type := s.rd (a + 8) 2, defined := s.rd (a + 10) 2 % 2 = 1 }

def State.instEnt (s : State) (n : Nat) : InstEnt := s.instIn s.bankBase n

/-- The instances of the active bank whose flags are listed in memory, in increasing number: every other entry holds flags 0. -/
def State.instNos (s : State) : List Nat :=
  let a := s.bankBase + 0x11000
  s.mem.filterMap fun c => if a ≤ c.1 ∧ c.1 < a + 0x100000 ∧ (c.1 - a) % 16 = 10 then some ((c.1 - a) / 16) else none

/-- Instance n and its type, when n is in range and both are defined (R162). -/
def State.instOf (s : State) (n : Int) : Option (InstEnt × TypeEnt) :=
  if n < 0 ∨ 65536 ≤ n then none
  else
    let e := s.instEnt n.toNat
    let t := s.typeEnt e.type
    if e.defined && decide (e.type < 4096) && t.defined then some (e, t) else none

/-! ## Dirty pages (R159, R176) -/

/-- The page number of an address: 0 to 1,023 in instance data, 1,024 to 1,791 in global scratch. -/
def pageOf (a : Nat) : Option Nat :=
  if instBase ≤ a ∧ a < scratchBase then some ((a - instBase) / 4096)
  else if scratchBase ≤ a ∧ a < ctxBase then some (1024 + (a - scratchBase) / 4096)
  else none

/-- Where a numbered page starts. -/
def pageAddr (p : Nat) : Nat := if p < 1024 then instBase + 4096 * p else scratchBase + 4096 * (p - 1024)

/-- Put a number into an increasing list without repeats. -/
def addTo : List Nat → Nat → List Nat
  | [], k => [k]
  | j :: l, k => if k < j then k :: j :: l else if k = j then j :: l else j :: addTo l k

def State.markDirty (s : State) (p : Nat) : State := { s with cml := { s.cml with dirty := addTo s.cml.dirty p } }

/-- A Cumel store to address a marks its page: instance data always, global scratch when the page is relevant (R159). -/
def State.touch (s : State) (a : Nat) : State :=
  match pageOf a with
  | some p => if p < 1024 || s.cml.relevant.contains p then s.markDirty p else s
  | none => s

/-- A store by a context: the bytes and the dirty bits of the pages of its first and last byte. -/
def State.ctxStore (s : State) (a n v : Nat) : State := ((s.wr a n v).touch a).touch (a + n - 1)

/-- A copy of bytes by a context (`SLVR`, `PRQ`) with the dirty bits of every page it touches. -/
def State.ctxCopy (s : State) (a : Nat) (l : List Byte) : State :=
  (List.range ((l.length + 4094) / 4096 + 1)).foldl (fun s i => if 4096 * i < l.length + a % 4096 then s.touch (a / 4096 * 4096 + 4096 * i) else s)
    (s.wrBytes a l)

end Sys2Proof.Machine
end

