-- ==== Sys2Proof/Machine/Outputs.lean ====
section
/-!
DEFINITION. Machine/Outputs.lean: command outputs (R31, R272 to R278) and the pair claim that gates them (R275, R291, R292).
-/
namespace Sys2Proof.Machine

/-! ## Classes -/

/-- The engine that drives analogue output a: the lowest-numbered enabled one with OUT_EN 1 that names it (R278). -/
def State.driverOf (s : State) (a : Nat) : Option Nat :=
  (List.range 32).find? fun e =>
    s.b (F.LOOP_CFG_EN e) && s.b (F.LOOP_CFG_OUT_EN e) && decide (s.f (F.LOOP_CFG_OUT e) = a)

/-- Analogue output a is a command output, by the class bit in force (R272). -/
def State.aoCommand (s : State) (a : Nat) : Bool := decide (bitsOf (s.eff (R.LOOP_AOCFG a)) 30 30 = 1)

/-- Engine e drives a command output (R278). -/
def State.engineCommand (s : State) (e : Nat) : Bool :=
  let a := s.f (F.LOOP_CFG_OUT e)
  s.b (F.LOOP_CFG_EN e) && s.b (F.LOOP_CFG_OUT_EN e) && s.aoCommand a && decide (s.driverOf a = some e)

/-- GPIO pin k is an output. -/
def State.gpioOut (s : State) (k : Nat) : Bool := s.bit R.LOOP_GPIO_DIR_LO k

/-- GPIO pin k is a command output, by the class bit in force (R272). -/
def State.gpioCommand (s : State) (k : Nat) : Bool :=
  s.gpioOut k && (s.eff (R.LOOP_GPIO_CMD_LO + 4 * (k / 32))).getLsbD (k % 32)

/-! ## CAN command frames (R394, R410) -/

/-- A controller's state. -/
def State.canSt (s : State) (k : Nat) : CanSt := tget {} s.can k
def State.setCan (s : State) (k : Nat) (x : CanSt) : State := { s with can := tset {} s.can k x }

/-- The controller whose registers govern bus k: an even controller's for its twin (R414). -/
def State.canReg (s : State) (k : Nat) : Nat := if k % 2 = 1 ∧ s.b (F.CAN_CTRL_DUP (k - 1)) then k - 1 else k

/-- Where controller k's message RAM starts (R394). -/
def State.canRam (s : State) (k : Nat) : Nat := scratchBase + s.f (F.CAN_MRBASE_BASE k) / 0x2000 * 0x2000

/-- Where transmit slot b starts. -/
def State.txSlot (s : State) (k b : Nat) : Nat := s.canRam k + 0x50 * b

/-- Buffer b's configuration word in force (R417). -/
def State.txcfg (s : State) (k b : Nat) : Word := s.eff (R.CAN_TXCFG k b)

/-- A command-frame slot: enabled, with CMD. -/
def State.canCommand (s : State) (k b : Nat) : Bool := bitsOf (s.txcfg k b) 31 30 = 3

/-- At the commit, the slots of pending command buffers become their released frames, and PEND clears (R410). -/
def State.commitCan (s : State) : State :=
  (List.range 8).foldl (fun s k =>
    let l := (List.range 32).filter fun b => s.canCommand k b && s.bit (R.CAN_TXPEND k) b
    let x := s.canSt k
    let rel := l.foldl (fun r b => tput r b (s.rdBytes (s.txSlot k b) 0x50)) x.released
    let s := l.foldl (fun s b => s.setBit (R.CAN_TXPEND k) b false) s
    s.setCan k { x with released := rel, committed := l }) s

/-! ## Grezhasel entries (R431, R432) -/

/-- The station entries that are enabled, in table order. -/
def State.grzEntries (s : State) : List Nat :=
  ((s.listed (R.GRZ_SADR 0) 0x10 2048).map Prod.fst).filter fun n => s.b (F.GRZ_SADR_EN n)

/-- The enabled non-broadcast entry of a station address. -/
def State.grzEntry (s : State) (addr : Nat) : Option Nat :=
  s.grzEntries.find? fun n => !s.b (F.GRZ_SADR_BCAST n) && decide (s.f (F.GRZ_SADR_ADDR n) = addr)

/-- Where the process image starts. -/
def State.grzBase (s : State) : Nat := scratchBase + s.f F.GRZ_PIBASE_BASE / 0x100000 * 0x100000

/-- Where the input and the output area of entry n stand. -/
def State.grzIn (s : State) (n : Nat) : Nat := s.grzBase + 8 * s.f (F.GRZ_SPI_OFF n)
def State.grzOut (s : State) (n : Nat) : Nat := s.grzBase + 0x80000 + 8 * s.f (F.GRZ_SPO_OFF n)

/-- The output area of entry n as it stands. -/
def State.grzOutData (s : State) (n : Nat) : List Byte := s.rdBytes (s.grzOut n) (s.f (F.GRZ_SPO_LEN n))

/-- At the commit, the output areas of command entries become their released frames. -/
def State.commitGrz (s : State) : State :=
  let l := s.grzEntries.filter fun n => s.b (F.GRZ_SADR_CMD n)
  { s with grz := { s.grz with released := l.foldl (fun t n => tput t n (s.grzOutData n)) s.grz.released } }

/-! ## Source areas (R424, R426) -/

/-- Where the source areas of port k and listen entry j stand. -/
def State.serArea (s : State) (k : Nat) : Nat := scratchBase + s.f F.NET_SERBASE_BASE / 0x20000 * 0x20000 + 0x1000 * k
def State.listenArea (s : State) (j : Nat) : Nat := scratchBase + s.f F.NET_450BASE_BASE / 0x8000 * 0x8000 + 0x400 * j

/-! ## Commit (R31, R273) -/

/-- The staged analogue, GPIO and set-point values commit in one step. -/
def State.commitOutputs (s : State) : State :=
  let ao := (List.range 16).foldl (fun l a => if s.aoCommand a then tput l a (s.f (F.LOOP_AO_VAL a)) else l) s.out.cAo
  let gp := (List.range 48).foldl (fun l k => if s.gpioCommand k then tput l k (b2n (s.bit R.LOOP_GPIO_OUT_LO k)) else l) s.out.cGpio
  let sp := (List.range 32).foldl (fun l e => if s.engineCommand e then tput l e (s.reg (R.LOOP_SP e)) else l) s.out.cSp
  { s with out := { s.out with cAo := ao, cGpio := gp, cSp := sp, committed := true } }.commitCan.commitGrz

/-- Of a discarded staged set, the command frames of controller k: pending command buffers are pending no more, and each slot is reloaded
from its released frame (R39, R273, R410). -/
def State.reloadCan (s : State) (k : Nat) : State :=
  let l := (List.range 32).filter (s.canCommand k ·)
  l.foldl (fun s b =>
    let s := s.setBit (R.CAN_TXPEND k) b false
    match tget? (s.canSt k).released b with
    | some x => s.wrBytes (s.txSlot k b) x
    | none => s) s

/-- Of a discarded staged set, the output areas of command entries: each is reloaded from its released frame (R39, R273, R432). -/
def State.reloadGrz (s : State) : State :=
  (s.grzEntries.filter fun n => s.b (F.GRZ_SADR_CMD n)).foldl (fun s n =>
    match tget? s.grz.released n with
    | some x => s.wrBytes (s.grzOut n) x
    | none => s) s

/-- A discarded staged set: every staged value is reloaded from its released value; a released-empty output has none and keeps the value written
(R39, R273; DESIGN CHOICE: assumption log 67). -/
def State.reloadStaged (s : State) : State :=
  let s := s.out.rAo.foldl (fun s e => if s.aoCommand e.1 then s.put (F.LOOP_AO_VAL e.1) e.2 else s) s
  let s := s.out.rGpio.foldl (fun s e => if s.gpioCommand e.1 then s.setBit R.LOOP_GPIO_OUT_LO e.1 (e.2 = 1) else s) s
  let s := s.out.rSp.foldl (fun s e => if s.engineCommand e.1 then s.setReg (R.LOOP_SP e.1) e.2 else s) s
  ((List.range 8).foldl (·.reloadCan ·) s).reloadGrz

/-- Every command output is released-empty from a load or a restart (R31). -/
def State.releaseEmpty (s : State) : State :=
  { s with out := { s.out with cAo := [], cGpio := [], cSp := [], rAo := [], rGpio := [], rSp := [], committed := false },
           grz := { s.grz with released := [] }, shd := { s.shd with plan := [], released := [] },
           can := s.can.map fun e => (e.1, { e.2 with released := [], committed := [], now := [] }) }

/-! ## The claim and the pins (R275, R291, R292) -/

/-- Ownership: the claim is held and ECL_IN is low (R291). -/
def State.owns (s : State) : Bool := s.b F.PAIR_STATUS_CLAIM && !s.b F.PAIR_STATUS_ECL_IN

/-- Command pins are driven and command frames launched: ownership is held, and a Mirror claim came before the arm point (R35, R291, R313). -/
def State.drives (s : State) : Bool := s.owns && !s.pair.lateClaim

/-- Every command pin is released: the output switches open (R275, R292). -/
def State.releasePins (s : State) : State := { s.put F.LOOP_STATUS_OWNED 0 with out := { s.out with driven := [] } }

/-- Command analogue output a is driven from here on while ownership is held (R275). -/
def State.driveAo (s : State) (a : Nat) : State :=
  if s.b F.LOOP_STATUS_OWNED then { s with out := { s.out with driven := a :: s.out.driven.filter (· ≠ a) } } else s

/-- The output switch of analogue output a is closed (R275, R277). -/
def State.aoClosed (s : State) (a : Nat) : Bool := s.b (F.LOOP_AOCFG_EN a) && (!s.aoCommand a || s.out.driven.contains a)

/-- The module's role in the pair (PAIR_STATUS.ROLE): unpaired, owner, standby or non-owner in Run (R294). -/
def State.refreshRole (s : State) : State :=
  let r := if s.pair.paired = false then 0
    else if s.b F.PAIR_STATUS_CLAIM then 1
    else if s.mode = .run then 3 else 2
  { s.put F.PAIR_STATUS_ROLE r with gnss := { s.gnss with manual := s.gnss.manual && decide (s.f F.PAIR_STATUS_ROLE = r) } }

/-- Paired operation is enabled and established. -/
def State.inPair (s : State) : Bool := s.b F.PAIR_CTRL_EN && s.pair.paired

/-- The owner of a Penumbra pair sends checkpoints and warm-start blocks (R302, R303). -/
def State.sendsCkpt (s : State) : Bool :=
  s.inPair && !s.b F.PAIR_CTRL_MODE && s.b F.PAIR_STATUS_CLAIM && s.b F.PAIR_STATUS_LINK_UP

/-- A frame has arrived on the link, and LINK_UP shows it (R301, R318). -/
def State.linkFrame (s : State) : State := { s.put F.PAIR_STATUS_LINK_UP 1 with pair := { s.pair with frameTick := some s.tickNo } }

/-- A link frame arrives: with a right CRC it acts, and one that fails its CRC is counted (R298). -/
def State.frameIn (s : State) (crcOk : Bool) (g : State → State) : State :=
  if s.dark then s else if crcOk then g s.linkFrame else s.linkFrame.count F.PAIR_LINK_CRC_ERR

/-- Hold or drop the claim: ECL_OUT follows it, OWNED follows it and ECL_IN, and without ownership the pins are released (R291, R292). -/
def State.setClaim (s : State) (c : Bool) : State :=
  let s := (s.putb F.PAIR_STATUS_CLAIM c).putb F.PAIR_STATUS_ECL_OUT c
  let s := s.putb F.PAIR_STATUS_OWNED s.owns
  let s := if s.owns then s else s.releasePins
  s.refreshRole

/-- While the claim is held and filtered ECL_IN is high, there is a dual claim: unit B withdraws (R295). -/
def State.dualClaim (s : State) : State :=
  if s.b F.PAIR_STATUS_CLAIM && s.pair.filtered then
    let s := ((s.put F.PAIR_STATUS_DUAL 1).event 0x0D01 []).assertSrc 192
    if s.b F.PAIR_STATUS_POS then s.setClaim false else s
  else s

/-- Take the claim; a line that is filtered high then is a dual claim at once (R294, R295, R308). -/
def State.takeClaim (s : State) : State := (s.setClaim true).dualClaim

end Sys2Proof.Machine
end

