-- ==== Sys2Proof/Machine/Sched.lean ====
section
/-!
DEFINITION. Machine/Sched.lean: the task scheduler of the Cumel cluster (R177 to R183, R436), exceptions (R184, R185), and entry to Stop
(R189 to R194, R208).
-/
namespace Sys2Proof.Machine

/-! ## Descriptors (R177, R178, R187) -/

def cfgCore (w : Word) : Nat := bitsOf w 30 28
def cfgPhase (w : Word) : Nat := bitsOf w 27 26
def cfgExcAct (w : Word) : Nat := bitsOf w 25 24
def cfgPrio (w : Word) : Nat := bitsOf w 23 20
def cfgTrig (w : Word) : Nat := bitsOf w 19 18
def cfgAfterEn (w : Word) : Bool := bitsOf w 16 16 = 1
def cfgAfter (w : Word) : Nat := bitsOf w 15 8
def cfgSrc (w : Word) : Nat := bitsOf w 7 0

/-- A task's configuration word in force. -/
def State.tcfg (s : State) (c : Nat) : Word := s.eff (R.CML_TCFG c)

/-- The task is enabled.  On CORE 6 or 7 it is due and becomes ready like any other, and never runs (R178, R187). -/
def cfgRuns (w : Word) : Bool := decide (bitsOf w 31 31 = 1)

/-- PERIOD k of a period word; 0 acts as 1. -/
def perK (w : Word) : Nat := max 1 (bitsOf w 31 16)

/-- The contexts 0 to 254 whose tasks are enabled. -/
def State.tasks (s : State) : List Nat :=
  (List.range 255).filter fun c =>
    ((tget? s.regs (R.CML_TCFG c)).isSome || (tget? s.inForce (R.CML_TCFG c)).isSome) && cfgRuns (s.tcfg c)

/-- A phase-bound or periodic task is due in the current tick (R26, R178). -/
def State.periodDue (s : State) (c : Nat) : Bool :=
  let p := s.eff (R.CML_TPER c)
  cfgRuns (s.tcfg c) && decide (s.tickNo % perK p = bitsOf p 15 0 % perK p)

/-- A context is due in this tick for the purpose of AFTER (R179). -/
def State.dueForAfter (s : State) (c : Nat) : Bool :=
  let w := s.tcfg c
  if cfgPhase w = 0 ∧ cfgTrig w ≠ 0 then (s.act? c).isSome || s.cml.held.contains c
  else s.periodDue c

/-- The predecessor of an activation has executed `SCANEND` in this tick or is not due in it (R179). -/
def State.afterOk (s : State) (w : Word) : Bool :=
  !cfgAfterEn w || s.b (F.CML_TSTAT_DONE (cfgAfter w)) || !s.dueForAfter (cfgAfter w)

/-- An error task that holds the Scan tasks of a core is still going (R436). -/
def State.gated (s : State) (w : Word) : Bool :=
  decide (cfgPhase w = 1) && s.cml.gates.any fun g => decide (g.1 = cfgCore w)

/-- A context is suspended at a breakpoint (STATE 0b100) or by an exception (0b101). -/
def State.atBreak (s : State) (c : Nat) : Bool := decide (s.f (F.CML_TSTAT_STATE c) = 4)
def State.suspended (s : State) (c : Nat) : Bool := s.atBreak c || decide (s.f (F.CML_TSTAT_STATE c) = 5)

/-! ## Time of the tick -/

/-- Microseconds since the Strobe. -/
def State.offsetUs (s : State) : Nat := s.f F.TICK_PHASE_OFFSET

/-! ## Entry to Stop (R189 to R191, R194, R208) -/

/-- The partner is healthy: its word was received in this tick or the previous one and has READY set (R301). -/
def State.partnerHealthy (s : State) : Bool :=
  s.pair.paired && (match s.pair.healthTick with
    | some t => decide (s.tickNo ≤ t + 1)
    | none => false) && s.bit R.PAIR_PHEALTH_LO 0

/-- End every activation but those suspended by an exception, and drop pending ones; registers and link stacks stay as they were (R185,
R194). -/
def State.dropTasks (s : State) : State :=
  let kept := s.cml.acts.filter fun e => decide (s.f (F.CML_TSTAT_STATE e.1) = 5)
  let s := (s.cml.acts.filter fun e => decide (s.f (F.CML_TSTAT_STATE e.1) ≠ 5)).foldl (fun s e =>
    (s.put (F.CML_TSTAT_STATE e.1) 0).put (F.CML_TSTAT_RUN_US e.1) (min 0xFFFF (e.2.run / 500))) s
  let s := (s.cml.held.filter fun c => s.f (F.CML_TSTAT_STATE c) = 6).foldl (fun s c => s.put (F.CML_TSTAT_STATE c) 0) s
  let s := { s with cml := { s.cml with acts := kept, held := [], gates := [], blocked := [], scanLeft := [], settleLeft := [] } }
  (List.range 6).foldl (fun s n =>
    if s.cml.fbCore = some n then s
    else ((s.put (F.CML_CORE_IDLE n) 1).put (F.CML_CORE_CTX n) 0).put (F.CML_CORE_PRIO n) 0) s

/-- A start fails: the failure is counted and recorded, and the trial count starts again (R208, R211). -/
def State.startFails (s : State) : State :=
  let s := s.put F.PRG_STATUS_FAILS (min 3 (s.f F.PRG_STATUS_FAILS + 1))
  let s := s.put F.PRG_TRIAL_CNT_TCNT 0
  s.event 0x0305 [(s.reg R.PRG_LIT_VER).toNat, (s.reg R.PRG_SHADE_VER).toNat]

/-- A staged or staging exchange is discarded (R213). -/
def State.dropExchange (s : State) : State := (s.put F.PRG_STATUS_STAGED 0).put F.PRG_STATUS_STAGING 0

/-- Enter Stop, with the cause of PRG_MODE.STOP_CAUSE. -/
def State.enterStop (s : State) (cause : Nat) : State :=
  let fault := decide (cause = 2 ∨ cause = 3)
  let s := ({ s with prg := { s.prg with pendLate := none } }.setMode .stop).put F.PRG_MODE_STOP_CAUSE cause
  let pend := s.f F.PRG_MODE_PEND
  let s := if pend ≠ 0 ∧ fault then (s.put F.PRG_MODE_PEND 0).event 0x0307 [pend] else s.put F.PRG_MODE_PEND 0
  let s := (s.dropExchange).dropTasks
  let s := { s with out := { s.out with firstStop := true, committed := false }, azs := { s.azs with discard := true, staged := [], after := [] } }
  let s := if fault && s.b F.PRG_STATUS_TRIAL then s.startFails else s
  if s.b F.PAIR_STATUS_CLAIM && s.partnerHealthy then s.setClaim false else s.refreshRole

/-! ## Windows (R25, R26, R31) -/

/-- TICK_HWM keeps the latest completion. -/
def State.hwm (s : State) (x : Fld) (us : Nat) : State := s.put x (max (s.f x) (min 0xFFFF us))

/-- A completion event crosses into the time island in 3 to 5 cycles; whether it arrives before the cycle of the edge at `us` µs (R25). -/
def State.crossing (s : State) (us : Nat) : Bool × State :=
  let (x, s) := s.draw 3
  (decide (s.tick.cycles + 3 + x < 500 * us), s)

/-- Scan is complete, when its completion event arrives before the Solve edge (R25). -/
def State.scanComplete (s : State) : State :=
  let (ok, s) := s.crossing (2 * s.periodUs / 10)
  if ok then s.hwm F.TICK_HWM_SCAN (s.offsetUs - s.periodUs / 10)
  else { s with cml := { s.cml with scanLate := true } }

/-- What follows the completion of Settle: in Run the staged set commits (R31); in Hold it is discarded (R192). -/
def State.settled (s : State) : State := if s.mode = .run then s.commitOutputs else s.reloadStaged

/-- Settle is complete, when its completion event arrives before the arm point (R25, R30). -/
def State.settleComplete (s : State) : State :=
  let (ok, s) := s.crossing (8 * s.periodUs / 10 - 2)
  if ok then (s.hwm F.TICK_HWM_SETTLE (s.offsetUs - s.periodUs * 7 / 10)).settled
  else { s with cml := { s.cml with settleLate := true } }

/-- A phase-bound task has ended; the last one due completes its window. -/
def State.leaveWindow (s : State) (c : Nat) : State :=
  let s := if s.cml.scanLeft.contains c then
      let l := s.cml.scanLeft.filter (· ≠ c)
      let s := { s with cml := { s.cml with scanLeft := l } }
      if l = [] ∧ s.cml.scanOpen then s.scanComplete else s
    else s
  if s.cml.settleLeft.contains c then
    let l := s.cml.settleLeft.filter (· ≠ c)
    let s := { s with cml := { s.cml with settleLeft := l } }
    if l = [] ∧ s.cml.settleOpen then s.settleComplete else s
  else s

/-! ## Activations (R178, R181, R182) -/

/-- A new activation of context c with the settings in force (R177). -/
def State.newAct (s : State) (c : Nat) : State :=
  s.setAct c { cfg := s.tcfg c, per := s.eff (R.CML_TPER c), ent := s.eff (R.CML_TENT c), wait := .after }

/-- Context 255 leaves its core: DONE when its run has ended, STOPPED when it was stopped at 580 µs; it has run since the capture cut-off, above every
task of its core (R108, R117, R144; assumption log 18). -/
def State.endFb (s : State) (done : Bool) : State :=
  if s.cml.fbCore.isSome then
    let s := { s with cml := { s.cml with fbCore := none } }.put (F.CML_TSTAT_RUN_US 255) (min 0xFFFF (s.offsetUs - 200))
    if done then s.put (F.CML_TSTAT_DONE 255) 1 else s.put (F.CML_TSTAT_STOPPED 255) 1
  else s

/-- End the activation of c: the link stack is empty, the context idle; `done` by `SCANEND`, else STOPPED (R181).  A pending activation
then starts (R182). -/
def State.endAct (s : State) (c : Nat) (done : Bool) : State :=
  match s.act? c with
  | none => if c = 255 then (s.setDepth c 0).endFb done else s.setDepth c 0
  | some a =>
    let s := (s.setDepth c 0).put (F.CML_TSTAT_STATE c) 0
    let s := s.put (F.CML_TSTAT_RUN_US c) (min 0xFFFF (a.run / 500))
    let s := if done then s.put (F.CML_TSTAT_DONE c) 1 else s.put (F.CML_TSTAT_STOPPED c) 1
    let s := { s with cml := { s.cml with
      acts := tdel s.cml.acts c, blocked := tdel s.cml.blocked c, gates := s.cml.gates.filter (·.2 ≠ c) } }
    let s := if done then s.leaveWindow c else s
    if s.cml.held.contains c then
      ({ s with cml := { s.cml with held := s.cml.held.filter (· ≠ c) } }).newAct c
    else s

/-- A trigger of context c: in Run and Hold it starts an activation, or, while one has not ended, holds one more pending, and merges into
a pending one (R182).  A suspended task starts none (R43, R185), nor does any after a power-fail indication (R470); a window task is
held pending never, and between a swap point and its boundary every activation waits (R216). -/
def State.activate (s : State) (c : Nat) : State :=
  if s.mode = .stop ∨ s.b (F.CML_TSTAT_SUSP c) ∨ s.atBreak c ∨ s.b F.REC_STATUS_AFTERGLOW then s
  else
    match s.act? c, s.prg.swapping with
    | none, false => s.newAct c
    | _, _ =>
      if cfgPhase (s.tcfg c) = 1 ∨ cfgPhase (s.tcfg c) = 2 then s
      else if s.cml.held.contains c then s.put (F.CML_TSTAT_MERGED c) (min 3 (s.f (F.CML_TSTAT_MERGED c) + 1))
      else { s with cml := { s.cml with held := addTo s.cml.held c } }

/-! ## Exceptions (R184, R185) -/

/-- Codes of R184. -/
inductive Exc where
  | illegal | align | bounds | bus | inst | linkOvf | linkUnf | point | problem | special
deriving DecidableEq, Repr

def Exc.code (e : Exc) : Nat :=
  match e with
  | .illegal => 1 | .align => 2 | .bounds => 3 | .bus => 4 | .inst => 5
  | .linkOvf => 6 | .linkUnf => 7 | .point => 8 | .problem => 9 | .special => 11

/-- The descriptor word that governs context c now: its activation's, else the one in force; context 255's is fixed (R144). -/
def State.curCfg (s : State) (c : Nat) : Word :=
  match s.act? c with
  | some a => a.cfg
  | none => if c = 255 then 0 else s.tcfg c

/-- What an exception of context c at its PC leaves behind: cause, record, interrupt, latch and count (R185). -/
def State.noteExc (s : State) (c : Nat) (e : Exc) : State :=
  let pc := s.pc c
  let s := s.put (F.CML_TSTAT_EXC c) e.code
  let s := s.record 0x0200 (payW [c, pc, e.code]) (decide (2 ≤ cfgExcAct (s.curCfg c)))
  let s := s.assertSrc 8
  let s := if s.b F.CML_EXC_VALID then s
    else (((s.put F.CML_EXC_CTX c).put F.CML_EXC_CAUSE e.code).put F.CML_EXC_VALID 1).put F.CML_EXC_PC_PC pc
  s.count F.CML_EXC_COUNT

/-- What EXC_ACT of the task makes of it: the activation ends, the context is suspended, or the module enters Stop. -/
def State.excAct (s : State) (c : Nat) : State :=
  match cfgExcAct (s.curCfg c) with
  | 0 => s.endAct c true
  | 1 => (s.put (F.CML_TSTAT_SUSP c) 1).put (F.CML_TSTAT_STATE c) 5
  | _ => s.enterStop 3

/-- The exception of context c at its PC (R185). -/
def State.exception (s : State) (c : Nat) (e : Exc) : State := (s.noteExc c e).excAct c

/-! ## The cores (R179, R180) -/

/-- Waits through AFTER and through an error task of R436 judged anew. -/
def State.judgeWaits (s : State) : State :=
  let judge := fun (a : Act) =>
    match a.wait with
    | .after | .gate => { a with wait := if s.afterOk a.cfg then (if s.gated a.cfg then .gate else .no) else .after }
    | _ => a
  { s with cml := { s.cml with acts := s.cml.acts.map fun e => (e.1, judge e.2) } }

/-- Context x goes before y on a core: higher priority, then the one that has the core, then the lower number. -/
def ahead (x y : Nat × Act) : Bool :=
  decide (cfgPrio y.2.cfg < cfgPrio x.2.cfg) ||
  (decide (cfgPrio x.2.cfg = cfgPrio y.2.cfg) &&
    ((x.2.turn && !y.2.turn) || (x.2.turn == y.2.turn && decide (x.1 < y.1))))

/-- The context core n runs: its highest-priority ready one (R180). -/
def State.pick (s : State) (n : Nat) : Option (Nat × Act) :=
  s.cml.acts.foldl (fun b e =>
    if cfgCore e.2.cfg = n ∧ e.2.wait = .no ∧ s.suspended e.1 = false then
      match b with
      | none => some e
      | some x => if ahead e x then some e else b
    else b) none

/-- Show on the registers which context each core runs and the state of every activation; a context whose one activation is pending shows 0b110. -/
def State.showCores (s : State) : State :=
  let run := (List.range 6).map fun n => if s.cml.fbCore = some n then none else (s.pick n).map (·.1)
  let s := (List.range 6).foldl (fun s n =>
    if s.cml.fbCore = some n then ((s.put (F.CML_CORE_IDLE n) 0).put (F.CML_CORE_CTX n) 255).put (F.CML_CORE_PRIO n) 15
    else match s.pick n with
      | some e => ((s.put (F.CML_CORE_IDLE n) 0).put (F.CML_CORE_CTX n) e.1).put (F.CML_CORE_PRIO n) (cfgPrio e.2.cfg)
      | none => ((s.put (F.CML_CORE_IDLE n) 1).put (F.CML_CORE_CTX n) 0).put (F.CML_CORE_PRIO n) 0) s
  let s := s.put (F.CML_TSTAT_STATE 255) (if s.cml.fbCore.isSome then 2 else 0)
  let s := (s.cml.held.filter fun c => (s.act? c).isNone && !s.suspended c).foldl (fun s c => s.put (F.CML_TSTAT_STATE c) 6) s
  s.cml.acts.foldl (fun s e =>
    if s.suspended e.1 then s.modAct e.1 ({ · with turn := false })
    else if e.2.wait ≠ .no then (s.modAct e.1 ({ · with turn := false })).put (F.CML_TSTAT_STATE e.1) 3
    else if run.contains (some e.1) then (s.modAct e.1 ({ · with turn := true })).put (F.CML_TSTAT_STATE e.1) 2
    else s.put (F.CML_TSTAT_STATE e.1) 1) s

/-- The contexts that the cores run and that have not entered their program yet, the lower core first. -/
def State.toEnter (s : State) : List (Nat × Act) :=
  (List.range 6).filterMap fun n =>
    s.cml.acts.find? fun e => decide (cfgCore e.2.cfg = n) && !e.2.started && decide (s.f (F.CML_TSTAT_STATE e.1) = 2)

/-- The start of an activation: PC, IB and TB from the instance CML_TENTc.INST, as by `FBCALL` from depth 0 (R181); without an instance INST is
recorded as the cause of an exception. -/
def State.enterTask (s : State) (c : Nat) (a : Act) : State :=
  let s := s.modAct c ({ · with started := true })
  match s.instOf (bitsOf a.ent 15 0) with
  | some (e, t) => (((s.setPc c t.entry).setIb c e.base).setTb c e.type).setDepth c 0
  | none => s.noteExc c .inst

/-- The new contexts of all cores enter their programs in one cycle: each exception is recorded, the lower core first, before any of them acts
(R185). -/
def State.enterTasks (s : State) (l : List (Nat × Act)) : State :=
  let bad := l.filter fun e => (s.instOf (bitsOf e.2.ent 15 0)).isNone
  let s := l.foldl (fun s e => s.enterTask e.1 e.2) s
  ((bad.filter fun e => decide (cfgExcAct e.2.cfg < 2)) ++ (bad.filter fun e => decide (2 ≤ cfgExcAct e.2.cfg))).foldl
    (fun s e => s.excAct e.1) s

/-- Choose the contexts that run and let each new one enter its program; an entry that raises an exception makes a new choice. -/
def State.reschedule : Nat → State → State
  | 0, s => s
  | n + 1, s =>
    let s := s.judgeWaits.showCores
    if s.toEnter = [] then s else State.reschedule n (s.enterTasks s.toEnter)

/-- After any change of the set of activations. -/
def State.sched (s : State) : State := s.reschedule 1024

/-- An exception and what the cores run after it. -/
def State.excSched (s : State) (c : Nat) (e : Exc) : State := (s.exception c e).sched

/-! ## Window edges (R37, R39, R43, R178) -/

/-- The contexts of one phase that are due now. -/
def State.dueIn (s : State) (phase : Nat) : List Nat :=
  s.tasks.filter fun c => decide (cfgPhase (s.tcfg c) = phase) && s.periodDue c

/-- A task is exempt in Hold: suspended at a breakpoint, or waiting through AFTER on such a context (R43). -/
def State.exempt (s : State) : Nat → Nat → Bool
  | 0, _ => false
  | n + 1, c =>
    s.atBreak c ||
    (match s.act? c with
     | some a => decide (a.wait = .after) && cfgAfterEn a.cfg && s.exempt n (cfgAfter a.cfg)
     | none => false)

/-- Stop the tasks of a window that has ended: each still going ends with STOPPED set; suspended and exempt ones stay (R37, R39, R43). -/
def State.stopWindow (s : State) (l : List Nat) : State :=
  l.foldl (fun s c =>
    if (s.act? c).isSome && !s.suspended c && !s.exempt 256 c then s.endAct c false else s) s

/-- An edge makes the due tasks of a phase ready. -/
def State.startPhase (s : State) (phase : Nat) : State := ((s.dueIn phase).foldl (·.activate ·) s).sched

end Sys2Proof.Machine
end

