-- ==== Sys2Proof/Machine/Azsaina.lean ====
section
/-!
DEFINITION. Machine/Azsaina.lean: the solver array (R221 to R246): descriptors, admission, staging, the batch, result records, misses.
-/
namespace Sys2Proof.Machine

/-- Start of problem memory (R225). -/
def probBase : Nat := 0x10000000

/-- Lanes fitted (R2, R5). -/
def State.lanes (s : State) : Nat :=
  match s.variant.grade with
  | .s => 32
  | .m => 48
  | .l => 64

/-! ## Descriptors and sizes (R222, R225, R226) -/

/-- Descriptor q as it stands in problem memory; none where it is not defined. -/
def State.azsDesc (s : State) (q : Nat) : Option AzsDesc :=
  let a := probBase + 64 * q
  let fl := s.rd (a + 11) 1
  if fl % 2 = 0 then none
  else some {
    n := s.rd a 2, m := s.rd (a + 2) 2, p := s.rd (a + 4) 2, method := s.rd (a + 6) 1, k := s.rd (a + 7) 1, g := s.rd (a + 8) 1,
    slice := s.rd (a + 9) 1, pol := s.rd (a + 10) 1, warm := fl / 2 % 2 = 1, wsSrc := s.rd (a + 12) 2, mat := s.rd (a + 16) 4,
    vec := s.rd (a + 20) 4, res := s.rd (a + 24) 4, ws := s.rd (a + 28) 4, work := s.rd (a + 32) 4, cyc := 0 }

/-- Every defined descriptor, in increasing problem number. -/
def State.azsDefined (s : State) : Tbl AzsDesc := (List.range 256).filterMap fun q => (s.azsDesc q).map (Prod.mk q)

def ceilDiv (a b : Nat) : Nat := (a + b - 1) / b

def AzsDesc.rows (d : AzsDesc) : Nat := d.n + d.m + d.p
def AzsDesc.matSize (d : AzsDesc) : Nat := 8 * (d.n * d.n + d.m * d.n + d.p * d.n)
def AzsDesc.vecSize (d : AzsDesc) : Nat := 16 + 8 * (3 * d.n + d.m + d.p)
def AzsDesc.recSize (d : AzsDesc) : Nat := 32 + 8 * d.n
def AzsDesc.wsLen (d : AzsDesc) : Nat := d.n + 2 * d.m + d.p
def AzsDesc.blkSize (d : AzsDesc) : Nat := 16 + 8 * d.wsLen
def AzsDesc.workSize (d : AzsDesc) : Nat := if d.g = 1 then 0 else (4 * d.n * (d.n + 1) + 63) / 64 * 64

/-- Check 0x01: every field in range (R222, R225). -/
def AzsDesc.inRange (d : AzsDesc) : Bool :=
  (d.g = 1 || d.g = 2 || d.g = 4 || d.g = 8) &&
  (let u := if d.g = 1 then 1 else if d.g = 2 then 2 else if d.g = 4 then 3 else 4
   decide (1 ≤ d.n ∧ d.n ≤ 96 * u ∧ d.m ≤ 192 * u ∧ d.p ≤ 16 * u ∧ d.p ≤ d.n)) &&
  decide (d.method ≤ 1 ∧ 4 ≤ d.k ∧ d.k ≤ 64 ∧ d.pol ≤ 7)

/-- An area of problem memory lies in 0x4000 to 0x3F_FFFF and is 64-aligned (check 0x02). -/
def areaOk (off size : Nat) : Bool := size = 0 || decide (off % 64 = 0 ∧ 0x4000 ≤ off ∧ off + size ≤ 0x400000)

def AzsDesc.areasOk (d : AzsDesc) : Bool :=
  areaOk d.mat d.matSize && areaOk d.vec d.vecSize && areaOk d.res (2 * d.recSize) && areaOk d.ws (2 * d.blkSize) && areaOk d.work d.workSize

/-- The areas the array writes. -/
def AzsDesc.written (d : AzsDesc) : List (Nat × Nat) :=
  [(d.res, 2 * d.recSize), (d.ws, 2 * d.blkSize), (d.work, d.workSize)].filter (·.2 ≠ 0)

/-- Two areas overlap. -/
def overlap (x y : Nat × Nat) : Bool := decide (x.1 < y.1 + y.2 ∧ y.1 < x.1 + x.2)

/-- The areas overlap none of those before them (check 0x03). -/
def apart : List (Nat × Nat) → List (Nat × Nat) → Bool
  | _, [] => true
  | seen, x :: l => !seen.any (overlap x) && apart (x :: seen) l

/-! ## Worst-case cycles and placement (R241) -/

def AzsDesc.setup (d : AzsDesc) : Nat := 4096 + ceilDiv (d.n * d.rows) d.g
def AzsDesc.factor (d : AzsDesc) : Nat :=
  if d.method = 0 then 0 else ceilDiv (ceilDiv (d.n * d.n * (d.m + d.p)) 16 + ceilDiv (d.n * d.n * d.n) 24) d.g
def AzsDesc.iter (d : AzsDesc) : Nat :=
  (if d.method = 0 then ceilDiv (ceilDiv (d.n * d.n * (d.m + d.p)) 16 + ceilDiv (d.n * d.n * d.n) 24 + 36 * d.rows) d.g
   else ceilDiv (ceilDiv (d.n * (d.n + 2 * (d.m + d.p))) 2 + 24 * d.rows) d.g) + 1024 * Nat.log2 d.g

/-- C, the worst-case cycle count. -/
def AzsDesc.worst (d : AzsDesc) : Nat := d.setup + d.factor + d.k * d.iter

/-- A placed problem: its number, first lane, group size, start and finish. -/
structure Placed where
  q : Nat
  lane : Nat
  g : Nat
  start : Nat
  finish : Nat
deriving DecidableEq, Repr

/-- When lane x is free after the problems placed so far. -/
def freeAt (l : List Placed) (x : Nat) : Nat :=
  l.foldl (fun b e => if e.lane ≤ x ∧ x < e.lane + e.g then max b e.finish else b) 0

/-- When the group of g lanes from a is free. -/
def groupFree (l : List Placed) (a g : Nat) : Nat := ((List.range g).map fun i => freeAt l (a + i)).foldl max 0

/-- The lane lists of residue r (R241), in placement order. -/
def placement (lanes r : Nat) (t : Tbl AzsDesc) : List Placed :=
  t.foldl (fun l e =>
    let d := e.2
    if d.slice / 2 ^ r % 2 = 1 then
      let best := (List.range (lanes / d.g)).foldl (fun (b : Option (Nat × Nat)) i =>
        let f := groupFree l (i * d.g) d.g
        match b with
        | none => some (f, i * d.g)
        | some x => if f < x.1 then some (f, i * d.g) else b) none
      match best with
      | some (f, a) => l ++ [⟨e.1, a, d.g, f, f + d.cyc⟩]
      | none => l
    else l) []

/-! ## Admission (R242, R243) -/

/-- The window W in cycles of 800 MHz. -/
def State.azsWindow (s : State) : Nat := 400000 * s.periodMs

/-- The admissible limit. -/
def State.azsLimit (s : State) : Nat := s.azsWindow - s.azsWindow * s.azs.reserve / 256 - 16

/-- Checks 0x01 to 0x05 of one problem against the defined table; `seen` are the written areas of the problems before it. -/
def State.azsCheck (s : State) (t : Tbl AzsDesc) (seen : List (Nat × Nat)) (d : AzsDesc) : Option Nat :=
  if !d.inRange then some 1
  else if !d.areasOk then some 2
  else if !apart seen d.written then some 3
  else match tget? t d.wsSrc with
    | none => some 4
    | some e => if e.n ≠ d.n ∨ e.m ≠ d.m ∨ e.p ≠ d.p then some 4 else if s.lanes < d.g then some 5 else none

/-- The first problem that fails a check, with the code. -/
def State.azsRefuse (s : State) (t : Tbl AzsDesc) : List (Nat × Nat) → Tbl AzsDesc → Option (Nat × Nat)
  | _, [] => none
  | seen, (q, d) :: l =>
    match s.azsCheck t seen d with
    | some c => some (c, q)
    | none => s.azsRefuse t (d.written ++ seen) l

/-- What admission finds: a refusal (code and problem), or the table. -/
def State.azsJudge (s : State) : Sum (Nat × Nat) (Tbl AzsDesc) :=
  let t := s.azsDefined
  match s.azsRefuse t [] t with
  | some x => .inl x
  | none =>
    let t := t.map fun e => (e.1, { e.2 with cyc := e.2.worst })
    match ((List.range 8).filterMap fun r => (placement s.lanes r t).find? (fun e => decide (s.azsLimit < e.finish))).head? with
    | some e => .inl (6, e.q)
    | none => .inr t

/-- worst[r]. -/
def worstOf (l : List Placed) : Nat := (l.map (·.finish)).foldl max 0

/-- Start admission; a load's outranks one that runs. -/
def State.admitBatch (s : State) (k : Admit) : State :=
  { s with azs := { s.azs with admitting := some k, reserve := s.f F.AZS_CTRL_RESERVE } }.put F.AZS_STATUS_ADM_BUSY 1

/-- Write a cleared result record: NEVER, AGE 0, x all zero (R240). -/
def State.clearRecord (s : State) (q : Nat) (d : AzsDesc) : State :=
  let one := bytesLE 4 (2 ^ 29) ++ bytesLE 2 q ++ List.replicate (26 + 8 * d.n) 0
  s.wrBytes (probBase + d.res) (one ++ one)

/-- Invalidate both warm-start blocks (assumption log 30: a block's header is SIG, a valid word and the tick). -/
def State.clearWarm (s : State) (d : AzsDesc) : State :=
  (s.wr (probBase + d.ws + 4) 4 0).wr (probBase + d.ws + d.blkSize + 4) 4 0

/-- The descriptors agree in what a swap must leave unchanged for records to be kept (R240). -/
def sameAreas (x y : AzsDesc) : Bool :=
  decide (x.n = y.n ∧ x.m = y.m ∧ x.p = y.p ∧ x.method = y.method ∧ x.g = y.g ∧ x.mat = y.mat ∧ x.vec = y.vec ∧ x.res = y.res ∧
    x.ws = y.ws ∧ x.work = y.work)

/-- Clear the areas of a table's problems; `keep` says which are kept. -/
def State.clearAreas (s : State) (t : Tbl AzsDesc) (keep : Nat → AzsDesc → Bool) (warm : Bool) : State :=
  t.foldl (fun s e =>
    if keep e.1 e.2 then s
    else
      let s := s.clearRecord e.1 e.2
      if warm then s.clearWarm e.2 else s) s

/-- The defined problems whose fields and areas are in order, admitted or not. -/
def State.azsSound (s : State) : Tbl AzsDesc := s.azsDefined.filter fun e => e.2.inRange && e.2.areasOk

/-- ADMISSION_COMPLETE (R242, R243).  A configuration load clears the records and warm-start blocks of its problems whether it is admitted or not
(R240). -/
def State.admissionEnd (s : State) : State :=
  match s.azs.admitting with
  | none => s
  | some k =>
    let s := { s with azs := { s.azs with admitting := none } }.put F.AZS_STATUS_ADM_BUSY 0
    match s.azsJudge with
    | .inl (code, q) =>
      let s := ((s.put F.AZS_STATUS_ADM_FAIL 1).put F.AZS_STATUS_REFUSE code).put F.AZS_ADM_INFO_REF_PROB q
      let s := (s.event 0x0602 [q]).assertSrc 34
      let s := if k = .load then s.clearAreas s.azsSound (fun _ _ => false) true else s
      if k = .load ∨ k = .period then
        { s with azs := { s.azs with table := [], next := none } }.put F.AZS_STATUS_ADMITTED 0
      else s
    | .inr t =>
      let s := t.foldl (fun s e => s.wr (probBase + 64 * e.1 + 0x24) 4 e.2.cyc) s
      let w := (List.range 8).map fun r => worstOf (placement s.lanes r t)
      let top := w.foldl max 0
      let used := ((List.range 8).map fun r =>
        let l := placement s.lanes r t
        ((List.range s.lanes).filter fun x => decide (0 < freeAt l x)).length).foldl max 0
      let s := (s.put F.AZS_ADM_WCC_WCC top).put F.AZS_ADM_LIM_LIM s.azsLimit
      let s := ((s.put F.AZS_ADM_INFO_DEFINED t.length).put F.AZS_ADM_INFO_LANES_USED used).put F.AZS_ADM_INFO_WORST
        ((List.range 8).findIdx fun r => w.getD r 0 = top)
      let s := match k with
        | .load => s.clearAreas t (fun _ _ => false) true
        | .swap => s.clearAreas t (fun q d => match tget? s.azs.table q with
            | some e => sameAreas d e
            | none => false) true
        | _ => s
      { s with azs := { s.azs with next := some t } }

/-- ADMISSION_COMPLETE (R242). -/
def execAdmissionComplete (s : State) : Host.Outcome State Fault Refusal := .next s.admissionEnd

/-- At a tick boundary the table admitted last comes into force. -/
def State.installTable (s : State) : State :=
  match s.azs.next with
  | some t => ({ s with azs := { s.azs with table := t, next := none } }).put F.AZS_STATUS_ADMITTED 1
  | none => s

/-- A write of AZS_CTRL (R246): WS_EN applies from the next Solve edge, RESERVE at the next admission. -/
def State.azsCtrlWrite (s : State) (v : Word) : State :=
  let s := s.setLater R.AZS_CTRL (v &&& 0xFF04)
  let s := if v.getLsbD 1 then (s.setReg R.AZS_DLM_CNT 0).setReg R.AZS_FAIL_CNT 0 else s
  if v.getLsbD 0 && s.azs.admitting.isNone then s.admitBatch .command else s

/-- ADMIT and AZS_COUNTER_CLEAR are writes of AZS_CTRL. -/
def execAzsAdmit (_m : Master) (v : Word) (s : State) : Host.Outcome State Fault Refusal := .next (s.azsCtrlWrite (v ||| 1))

/-- AZS_COUNTER_CLEAR (R246). -/
def execAzsCounterClear (_m : Master) (v : Word) (s : State) : Host.Outcome State Fault Refusal := .next (s.azsCtrlWrite (v ||| 2))

/-! ## Result records (R227, R228) -/

/-- The address of record i (0 or 1) of a problem. -/
def AzsDesc.recAt (d : AzsDesc) (i : Nat) : Nat := probBase + d.res + i * d.recSize

/-- The current record: the one with the higher final tick. -/
def State.curRec (s : State) (d : AzsDesc) : Nat :=
  if s.rd (d.recAt 0 + 8) 8 < s.rd (d.recAt 1 + 8) 8 then 1 else 0

/-- The status word of the current record. -/
def State.recStatus (s : State) (d : AzsDesc) : Nat := s.rd (d.recAt (s.curRec d)) 4

/-- A record before it is judged and written. -/
structure AzsRec where
  never : Bool
  age : Nat
  iter : Nat
  skip : Bool := false
  miss : Bool := false
  numf : Bool := false
  reg : Bool
  cold : Bool
  conv : Bool
  pivots : Nat
  rp : Nat
  rd : Nat
  obj : Nat
  delta : Nat
  x : List Nat
deriving DecidableEq, Repr

/-- The policy class accepts a record (R245). -/
def State.usable (s : State) (pol : Nat) (r : AzsRec) : Bool :=
  let lim := (s.reg (R.AZS_POLR pol)).toNat
  !r.never && decide (r.age ≤ s.f (F.AZS_POL_MAX_AGE pol)) &&
  (r.conv || (s.b (F.AZS_POL_ALLOW_UNCONV pol) && (f32.le r.rp lim).1 && (f32.le r.rd lim).1)) &&
  (!r.cold || s.b (F.AZS_POL_ALLOW_COLD pol)) && (!r.reg || s.b (F.AZS_POL_ALLOW_REG pol))

/-- The 32-byte head and x of a record (R227). -/
def AzsRec.bytes (r : AzsRec) (q : Nat) (usable : Bool) (tick : Nat) : List Byte :=
  let st := (if usable then 2 ^ 30 else 0) + (if r.never then 2 ^ 29 else 0) + min 255 r.age * 2 ^ 16 + r.iter % 256 * 2 ^ 8 +
    (if r.skip then 32 else 0) + (if r.miss then 16 else 0) + (if r.numf then 8 else 0) + (if r.reg then 4 else 0) +
    (if r.cold then 2 else 0) + (if r.conv then 1 else 0)
  bytesLE 4 st ++ bytesLE 2 q ++ bytesLE 1 (min 255 r.pivots) ++ [0] ++ bytesLE 8 tick ++ bytesLE 4 r.rp ++ bytesLE 4 r.rd ++
    bytesLE 4 r.obj ++ bytesLE 4 r.delta ++ (r.x.map (bytesLE 8)).flatten

/-- Write a final record over the older one. -/
def State.putRec (s : State) (q : Nat) (d : AzsDesc) (r : AzsRec) : State :=
  s.wrBytes (d.recAt (1 - s.curRec d)) (r.bytes q (s.usable d.pol r) s.tickNo)

/-- The record a problem gets that produced no x in this tick: the current one's x, residuals and flags with AGE one higher (R235, R236,
R239). -/
def State.carryRec (s : State) (d : AzsDesc) : AzsRec :=
  let a := d.recAt (s.curRec d)
  let st := s.rd a 4
  let never := decide (st / 2 ^ 29 % 2 = 1)
  { never := never
    age := min 255 (st / 2 ^ 16 % 256 + 1)
    iter := if never then 0 else st / 2 ^ 8 % 256
    reg := !never && decide (st / 4 % 2 = 1)
    cold := !never && decide (st / 2 % 2 = 1)
    conv := !never && decide (st % 2 = 1)
    pivots := if never then 0 else s.rd (a + 6) 1
    rp := if never then 0 else s.rd (a + 0x10) 4
    rd := if never then 0 else s.rd (a + 0x14) 4
    obj := if never then 0 else s.rd (a + 0x18) 4
    delta := if never then 0 else min (2 ^ 32 - 1) (s.rd (a + 0x1C) 4 + (s.tickNo - s.rd (a + 8) 8))
    x := (List.range d.n).map fun i => if never then 0 else s.rd (a + 0x20 + 8 * i) 8 }

/-! ## Solving (R229 to R235) -/

/-- Consecutive FP64 words from an offset of problem memory. -/
def State.probWords (s : State) (off n : Nat) : List Nat := (List.range n).map fun i => s.rd (probBase + off + 8 * i) 8

/-- The lower triangle of H, diagonal included (R224). -/
def State.lowerH (s : State) (d : AzsDesc) : List Nat :=
  ((List.range d.n).map fun i => s.probWords (d.mat + 8 * d.n * i) (i + 1)).flatten

/-- G then E. -/
def State.rowsGE (s : State) (d : AzsDesc) : List Nat := s.probWords (d.mat + 8 * d.n * d.n) ((d.m + d.p) * d.n)

/-- A part of the vector block: f, h, e, lo, hi in this order. -/
def State.vecPart (s : State) (d : AzsDesc) (start n : Nat) : List Nat := s.probWords (d.vec + 16 + 8 * start) n

def isNan64 (a : Nat) : Bool := (f64.read a).isNan

/-- The data are rejected (R230). -/
def State.azsRejects (s : State) (d : AzsDesc) : Bool :=
  let f := s.vecPart d 0 d.n
  let h := s.vecPart d d.n d.m
  let e := s.vecPart d (d.n + d.m) d.p
  let lo := s.vecPart d (d.n + d.m + d.p) d.n
  let hi := s.vecPart d (2 * d.n + d.m + d.p) d.n
  let fin := s.lowerH d ++ s.rowsGE d ++ f ++ e
  !fin.all fpFinite || (h ++ lo ++ hi).any isNan64 ||
    (f32.read (s.rd (probBase + d.vec + 4) 4)).isNan || (f32.read (s.rd (probBase + d.vec + 8) 4)).isNan ||
    (lo.zip hi).any fun b => dLt b.2 b.1

/-- SIG of a problem's vector block (R233). -/
def State.sig (s : State) (d : AzsDesc) : Nat := s.rd (probBase + d.vec) 4

/-- Block i of a warm-start area. -/
def AzsDesc.blkAt (d : AzsDesc) (i : Nat) : Nat := probBase + d.ws + i * d.blkSize

/-- The current warm-start block as it stood at the Solve edge: the newest valid one that this tick's batch did not write (R232, R233). -/
def State.warmBlock (s : State) (d : AzsDesc) : Option Nat :=
  let ok := fun i => decide (s.rd (d.blkAt i + 4) 4 ≠ 0 ∧ s.rd (d.blkAt i + 8) 8 ≠ s.tickNo)
  if ok 0 && (!ok 1 || decide (s.rd (d.blkAt 1 + 8) 8 ≤ s.rd (d.blkAt 0 + 8) 8)) then some 0
  else if ok 1 then some 1
  else none

/-- The start point: the block of WS_SRC when the warm start is allowed and its tag agrees (R232). -/
def State.warmStart (s : State) (d : AzsDesc) : Option (List Nat) :=
  if d.warm && decide (bitsOf (s.eff R.AZS_CTRL) 2 2 = 1) then
    match tget? s.azs.running d.wsSrc with
    | some e =>
      match s.warmBlock e with
      | some i =>
        if s.rd (e.blkAt i) 4 = s.sig d then some ((List.range e.wsLen).map fun j => s.rd (e.blkAt i + 16 + 8 * j) 8) else none
      | none => none
    | none => none
  else none

/-- The data of a solve: what its result depends on beside the start point (R223, R231); for ADMM the step RHO stands among them. -/
def State.azsData (s : State) (d : AzsDesc) : List Nat :=
  [d.n, d.m, d.p, d.method, d.k, d.g] ++ (if d.method = 0 then [] else [s.rd (probBase + d.vec + 8) 4]) ++
    s.lowerH d ++ s.rowsGE d ++ s.vecPart d 0 (3 * d.n + d.m + d.p)

/-- Row i of H, by its lower triangle (R224). -/
def State.rowH (s : State) (d : AzsDesc) (i : Nat) : List Nat :=
  (List.range d.n).map fun j => s.rd (probBase + d.mat + 8 * (d.n * max i j + min i j)) 8

/-- Row i of G followed by E, and column j of it. -/
def State.rowGE (s : State) (d : AzsDesc) (i : Nat) : List Nat := s.probWords (d.mat + 8 * d.n * (d.n + i)) d.n
def State.colGE (s : State) (d : AzsDesc) (j : Nat) : List Nat :=
  (List.range (d.m + d.p)).map fun i => s.rd (probBase + d.mat + 8 * (d.n * (d.n + i) + j)) 8

/-- The iterate of a solve: x, s, λ, ν and the multipliers of lo and hi. -/
structure Iterate where
  x : List Nat
  s : List Nat
  l : List Nat
  nu : List Nat
  zlo : List Nat
  zhi : List Nat
deriving DecidableEq, Repr

def Iterate.words (i : Iterate) : List Nat := i.x ++ i.s ++ i.l ++ i.nu ++ i.zlo ++ i.zhi

/-- The iterate whose words are given, for a problem's sizes. -/
def AzsDesc.iterate (d : AzsDesc) (w : Nat → Nat) : Iterate :=
  let part := fun (a k : Nat) => (List.range k).map fun i => w (a + i)
  ⟨part 0 d.n, part d.n d.m, part (d.n + d.m) d.m, part (d.n + 2 * d.m) d.p, part d.wsLen d.n, part (d.wsLen + d.n) d.n⟩

/-- Where a solve starts (R232): warm from the block, every s and λ of the interior point raised to at least 10⁻³; cold at 0 clamped into the
bounds with s = max(h − Gx, 1), λ and the bound multipliers 1 and ν 0; a cold ADMM at 0. -/
def State.startPoint (s : State) (d : AzsDesc) (start : Option (List Nat)) : Iterate :=
  match start with
  | some b =>
    let i := d.iterate fun j => if j < d.wsLen then b.getD j 0 else Config.warmBounds b (j - d.wsLen)
    let up := fun (l : List Nat) => if d.method = 0 then l.map (dMax · (dDiv (dOfInt 1) (dOfInt 1000))) else l
    { i with s := up i.s, l := up i.l }
  | none =>
    if d.method = 0 then
      let o := d.n + d.m + d.p
      let x := ((s.vecPart d o d.n).zip (s.vecPart d (o + d.n) d.n)).map fun b => dMin (dMax 0 b.1) b.2
      let h := s.vecPart d d.n d.m
      let one := fun k => List.replicate k (dOfInt 1)
      ⟨x, (List.range d.m).map fun i => dMax (dSub (h.getD i 0) (Config.dot d.g (s.rowGE d i) x)) (dOfInt 1), one d.m, List.replicate d.p 0,
        one d.n, one d.n⟩
    else d.iterate fun _ => 0

/-- A factorisation (R234): each pivot is compared with ε × s_i before it is used, and one at or below it is replaced by δ.  The answer is the pivots
used and how many were replaced. -/
def factorise (n : Nat) (inp : List Nat) (eps delta : Nat) : List Nat × Nat :=
  (List.range n).foldl (fun r i =>
    let w := Config.azsPivot (inp ++ i :: r.1)
    if dLe (w 0) (dMul eps (w 1)) then (r.1 ++ [delta], r.2 + 1) else (r.1 ++ [w 0], r.2)) ([], 0)

/-- The objective at x: ½ xᵀHx + fᵀx. -/
def State.objective (s : State) (d : AzsDesc) (x : List Nat) : Nat :=
  let hx := (List.range d.n).map fun i => Config.dot d.g (s.rowH d i) x
  dAdd (dDiv (Config.dot d.g x hx) (dOfInt 2)) (Config.dot d.g (s.vecPart d 0 d.n) x)

/-- r_p: the largest violation of Gx ≤ h, Ex = e and the bounds (R231). -/
def State.primalResidual (s : State) (d : AzsDesc) (x : List Nat) : Nat :=
  let b := s.vecPart d d.n (d.m + d.p)
  let lo := s.vecPart d (d.n + d.m + d.p) d.n
  let hi := s.vecPart d (2 * d.n + d.m + d.p) d.n
  let row := fun i => dSub (Config.dot d.g (s.rowGE d i) x) (b.getD i 0)
  (((List.range (d.m + d.p)).map fun i => if i < d.m then row i else dAbs (row i)) ++ (lo.zip x).map (fun e => dSub e.1 e.2) ++
    (x.zip hi).map (fun e => dSub e.1 e.2)).foldl dMax 0

/-- r_d: the largest entry of Hx + f + Gᵀλ + Eᵀν + z (R231). -/
def State.dualResidual (s : State) (d : AzsDesc) (i : Iterate) : Nat :=
  let f := s.vecPart d 0 d.n
  let one := dOfInt 1
  ((List.range d.n).map fun j => dAbs (Config.dot d.g (s.rowH d j ++ [one] ++ s.colGE d j ++ [one, dNeg one])
    (i.x ++ [f.getD j 0] ++ (i.l ++ i.nu) ++ [i.zhi.getD j 0, i.zlo.getD j 0]))).foldl dMax 0

/-- lo and hi of a problem. -/
def State.boxOf (s : State) (d : AzsDesc) : List (Nat × Nat) :=
  (s.vecPart d (d.n + d.m + d.p) d.n).zip (s.vecPart d (2 * d.n + d.m + d.p) d.n)

/-- How far the step from v along w may go before it reaches the boundary at 0, where it goes there: −v / w. -/
def toBoundary (v w : Nat) : Option Nat := if dLt w 0 then some (dNeg (dDiv v w)) else none

/-- The interior point's step (R231): 0.99 of the distance to the boundary, which is where an entry of s, λ or a bound multiplier or the distance of an
entry of x from a bound reaches 0, and never more than the whole direction (assumption log 69). -/
def State.interiorStep (s : State) (d : AzsDesc) (i w : Iterate) : Nat :=
  let pairs := (i.s ++ i.l ++ i.zlo ++ i.zhi).zip (w.s ++ w.l ++ w.zlo ++ w.zhi) ++
    (((s.boxOf d).zip (i.x.zip w.x)).map fun e => [(dSub e.2.1 e.1.1, e.2.2), (dSub e.1.2 e.2.1, dNeg e.2.2)]).flatten
  let far := dDiv (dOfInt 99) (dOfInt 100)
  (pairs.filterMap fun e => toBoundary e.1 e.2).foldl (fun a x => dMin a (dMul far x)) (dOfInt 1)

/-- The words of an iterate moved by a step along a direction. -/
def moved (i w : Iterate) (a : Nat) : Nat → Nat := fun j => dAdd (i.words.getD j 0) (dMul a (w.words.getD j 0))

/-- The words that ADMM's over-relaxation by 1.6 gives: 1.6 of the new and −0.6 of the old (R231). -/
def relaxed (i w : Iterate) : Nat → Nat := fun j =>
  dSub (dMul (dDiv (dOfInt 8) (dOfInt 5)) (w.words.getD j 0)) (dMul (dDiv (dOfInt 3) (dOfInt 5)) (i.words.getD j 0))

/-- The iterate after an iteration. -/
def State.nextIterate (s : State) (d : AzsDesc) (inp : List Nat) (i : Iterate) : Iterate :=
  let w := d.iterate fun j => Config.azsStep (inp ++ i.words) j % 2 ^ 64
  if d.method = 0 then d.iterate (moved i w (s.interiorStep d i w))
  else
    let r := relaxed i w
    let all := inp ++ i.words ++ (List.range i.words.length).map r
    d.iterate fun j => if j < d.n then r j else Config.azsProject all j % 2 ^ 64

/-- The mean complementarity product of an interior-point iterate (R231): s and λ of the rows with a finite h, and the distances to finite bounds with
their multipliers; 0 where there is none. -/
def State.complementarity (s : State) (d : AzsDesc) (i : Iterate) : Nat :=
  let rows := ((s.vecPart d d.n d.m).zip (i.s.zip i.l)).filter fun e => fpFinite e.1
  let lo := ((s.boxOf d).zip (i.x.zip i.zlo)).filter fun e => fpFinite e.1.1
  let hi := ((s.boxOf d).zip (i.x.zip i.zhi)).filter fun e => fpFinite e.1.2
  let l := rows.map (·.2) ++ lo.map (fun e => (dSub e.2.1 e.1.1, e.2.2)) ++ hi.map (fun e => (dSub e.1.2 e.2.1, e.2.2))
  if l = [] then 0 else dDiv (Config.dot d.g (l.map Prod.fst) (l.map Prod.snd)) (dOfInt l.length)

/-- A solve under way: the iterate, the pivots in use and those replaced so far, whether it has failed, and the factor's words. -/
structure SolveRun where
  it : Iterate
  used : List Nat
  replaced : Nat
  failed : Bool
  factor : List Nat := []
deriving DecidableEq, Repr

/-- Iteration i: the interior point factors anew, ADMM once before the first; a NaN or an infinity at its end fails the problem (R231, R235). -/
def State.solveStep (s : State) (d : AzsDesc) (inp : List Nat) (r : SolveRun) (i : Nat) : SolveRun :=
  if r.failed then r
  else
    let word := fun (x : Fld) => widen (s.eff x.addr).toNat
    let (used, k, fac) := if d.method = 0 ∨ i = 0 then
        let u := factorise d.n (inp ++ r.it.words) (word F.AZS_PIVOT_EPS_EPS) (word F.AZS_DELTA_DELTA)
        (u.1, u.2, inp ++ u.1 ++ r.it.words)
      else (r.used, 0, r.factor)
    let it := s.nextIterate d (inp ++ used) r.it
    ⟨it, used, r.replaced + k, !((it.x ++ it.s ++ it.l ++ it.nu).all fpFinite && fpFinite (s.objective d it.x)), fac⟩

/-- A solve of exactly k iterations, or up to the one that fails. -/
def State.solve (s : State) (d : AzsDesc) (start : Option (List Nat)) : SolveRun :=
  (List.range d.k).foldl (s.solveStep d (s.azsData d)) ⟨s.startPoint d start, [], 0, false, []⟩

/-- The last factor of a lane group's solve stands in its work area, n(n + 1) / 2 words; a lane keeps its own (R222, R226). -/
def State.putFactor (s : State) (d : AzsDesc) (r : SolveRun) : State :=
  if d.g = 1 then s
  else s.wrBytes (probBase + d.work) ((List.range (d.n * (d.n + 1) / 2)).map fun i => bytesLE 8 (Config.azsFactor r.factor i % 2 ^ 64)).flatten

/-- Write the final iterate into the older block of a warm-start area, tagged with SIG and the tick (R233). -/
def State.putWarm (s : State) (d : AzsDesc) (v : List Nat) : State :=
  let older := if s.rd (d.blkAt 0 + 4) 4 = 0 then 0
    else if s.rd (d.blkAt 1 + 4) 4 = 0 then 1
    else if s.rd (d.blkAt 0 + 8) 8 ≤ s.rd (d.blkAt 1 + 8) 8 then 0 else 1
  s.wrBytes (d.blkAt older) (bytesLE 4 (s.sig d) ++ bytesLE 4 1 ++ bytesLE 8 s.tickNo ++ (v.map (bytesLE 8)).flatten)

/-- The owner of a Penumbra pair sends a warm-start block as soon as it is written (R303). -/
def State.sendBlock (s : State) (q : Nat) : State :=
  if s.sendsCkpt then { s with pair := { s.pair with txBlocks := s.pair.txBlocks ++ [q] } } else s

/-- A numerical failure (R235). -/
def State.azsFail (s : State) (q : Nat) (d : AzsDesc) : State :=
  let s := s.putRec q d { s.carryRec d with numf := true }
  (((s.count F.AZS_FAIL_CNT_NUMF).put F.AZS_STATUS_NUMF 1).event 0x0601 [q]).assertSrc 33

/-- An ended problem that replaced a pivot (R234). -/
def State.azsReg (s : State) (replaced : Nat) : State := if replaced = 0 then s else (s.count F.AZS_FAIL_CNT_REG).put F.AZS_STATUS_REG 1

/-- A problem that ends: its data are rejected, it fails, or it runs to its last iteration (R230 to R235). -/
def State.azsFinish (s : State) (q : Nat) (d : AzsDesc) : State :=
  if s.azsRejects d then s.azsFail q d
  else
    let start := s.warmStart d
    let r := s.solve d start
    let s := (s.azsReg r.replaced).putFactor d r
    if r.failed then s.azsFail q d
    else
      let tol := widen (s.rd (probBase + d.vec + 4) 4)
      let rp := s.primalResidual d r.it.x
      let rd := s.dualResidual d r.it
      let x : AzsRec := {
        never := false, age := 0, iter := d.k, reg := decide (r.replaced ≠ 0), cold := start.isNone,
        conv := dLe rp tol && dLe rd tol && (d.method = 1 || dLe (s.complementarity d r.it) tol),
        pivots := r.replaced, rp := narrow rp, rd := narrow rd, obj := narrow (s.objective d r.it.x), delta := 0, x := r.it.x }
      ((s.putRec q d x).putWarm d (r.it.x ++ r.it.s ++ r.it.l ++ r.it.nu)).sendBlock q

/-- The residue of the current tick (R241). -/
def State.residue (s : State) : Nat := s.tickNo % 8

/-- An earlier problem of a lane that q needs has not ended, so q cannot (R229). -/
def State.azsBlocked (s : State) (q : Nat) : Bool :=
  let l := placement s.lanes s.residue s.azs.running
  match l.find? (·.q = q) with
  | none => false
  | some e => (l.takeWhile (·.q ≠ q)).any fun x =>
      s.azs.batch.contains x.q && decide (x.lane < e.lane + e.g ∧ e.lane < x.lane + x.g)

/-- The edge at 0.70 T reaches the array 3.75 to 6.25 ns after it: a result that becomes final in a cycle before that is in time (R236).  The
crossing within those bounds is free. -/
def State.inSolve (s : State) : Bool × State :=
  let (x, s) := s.draw 3
  (decide (s.tick.cycles < 500 * (7 * s.periodUs / 10) + 1 + x), s)

/-- A problem whose result is discarded leaves no more than a lane group's factor (R194, R226, R240). -/
def State.azsUnseen (s : State) (d : AzsDesc) : State := if s.azsRejects d then s else s.putFactor d (s.solve d (s.warmStart d))

/-- A problem of the batch ends, with its result final. -/
def State.endProblem (s : State) (q : Nat) (d : AzsDesc) : State :=
  let s := if s.azs.discard then s.azsUnseen d else s.azsFinish q d
  let l := s.azs.batch.filter (· ≠ q)
  let s := { s with azs := { s.azs with batch := l } }
  if l = [] then ({ s with azs := { s.azs with crossing := some s.tick.cycles } }).put F.AZS_STATUS_ACTIVE 0 else s

/-- PROBLEM_END, in time for the edge at 0.70 T; one that comes too late is missed at that edge (R229, R236). -/
def State.problemEnd (s : State) (q : Nat) : State :=
  if s.azs.batch.contains q && !s.azsBlocked q then
    match tget? s.azs.running q with
    | none => s
    | some d =>
      let (ok, s) := s.inSolve
      if ok || s.azs.discard then s.endProblem q d else s
  else s

/-! ## Windows (R27, R236 to R240) -/

/-- The first window fault of a tick makes it a faulted tick; CONSEC counts, and at a FAULT_LIMIT that is not 0 a Stop is due (R41). -/
def State.faultTick (s : State) : State :=
  if s.tick.faulted then s
  else
    let s := { s with tick := { s.tick with faulted := true } }.count F.TICK_STATUS_CONSEC
    let l := s.f F.TICK_CTRL_FAULT_LIMIT
    if l ≠ 0 ∧ l ≤ s.f F.TICK_STATUS_CONSEC then { s with tick := { s.tick with stopDue := true } } else s

/-- A window fault: its flag, count, tick, event and source (R40).  `x` is the flag, `n` the count. -/
def State.windowFault (s : State) (x n : Fld) (code : Nat) (items : List Nat) (src : Nat) : State :=
  let s := ((s.put x 1).count n).setReg64 R.TICK_FAULT_TICK_LO s.tickNo
  ((s.event code items).assertSrc src).faultTick

/-- The tick's deadline miss (R38, R40). -/
def State.tickMiss (s : State) : State := s.windowFault F.TICK_STATUS_DL_MISS F.TICK_FCNT0_DLM 0x0101 [] 2

/-- At the Solve edge WS_EN, ε and δ as written come into force (R246). -/
def State.azsEdge (s : State) : State := (s.takeEffect R.AZS_CTRL (R.AZS_CTRL + 4)).takeEffect R.AZS_PIVOT_EPS (R.AZS_DELTA + 4)

/-- The Solve edge: in Run the staged problems of the lists in force start; in Hold staged problems are dropped (R27, R192, R229, R240).  A problem
staged before a boundary that took it off the lists is not run, and what was staged too late for this edge waits for the next (R173). -/
def State.startBatch (s : State) : State :=
  let l := s.azs.staged.filter fun q => match tget? s.azs.table q with
    | some d => decide (d.slice / 2 ^ s.residue % 2 = 1)
    | none => false
  let s := { s with azs := { s.azs with staged := s.azs.after, after := [], batch := (if s.mode = Mode.run then l else []), running := s.azs.table, crossing := none, discard := false } }
  s.putb F.AZS_STATUS_ACTIVE (decide (s.azs.batch ≠ []))

/-- After a scan overrun, the admitted problems due in this residue that were not staged are marked (R239). -/
def State.skipUnstaged (s : State) : State :=
  let l := s.azs.table.filter fun e => decide (e.2.slice / 2 ^ s.residue % 2 = 1) && !s.azs.staged.contains e.1
  if l = [] then s
  else (l.foldl (fun s e => s.putRec e.1 e.2 { s.carryRec e.2 with skip := true }) s).put F.AZS_STATUS_SKIP 1

/-- The 0.70 T edge reaches the array: what is not final is missed (R236). -/
def State.endBatch (s : State) : State :=
  let l := s.azs.batch
  let s := { s with azs := { s.azs with batch := [] } }.put F.AZS_STATUS_ACTIVE 0
  if l = [] ∨ s.azs.discard then s
  else
    let q := l.foldl addTo []
    let s := q.foldl (fun s p => match tget? s.azs.running p with
      | some d => s.putRec p d { s.carryRec d with miss := true }
      | none => s) s
    let s := (s.put F.AZS_STATUS_DL_MISS 1).count F.AZS_DLM_CNT_PROBS q.length
    let s := (s.count F.AZS_DLM_CNT_TICKS).setReg R.AZS_DLM_PROB (BitVec.ofNat 32 (min 255 q.length * 2 ^ 24 + q.headD 0))
    let s := s.setReg64 R.AZS_DLM_TICK_LO s.tickNo
    let s := (s.record 0x0600 (payList 8 q)).assertSrc 32
    let (w, s) := s.draw (2 ^ 32)
    ((s.setReg R.AZS_LAST (BitVec.ofNat 32 s.azsWindow)).setReg R.AZS_CONT (BitVec.ofNat 32 w)).tickMiss

/-- BATCH_COMPLETE: the completion reaches the time island, 3 to 5 cycles after the last problem's end at the earliest; in the cycle of the edge at
0.70 T or later the tick has a deadline miss though no problem has (R25, R237).  The batch's length and stalls depend on contention, which is
outside the model, and are free. -/
def State.batchComplete (s : State) : State :=
  match s.azs.crossing with
  | none => s
  | some t =>
    let (x, s) := s.draw 3
    let s := { s with azs := { s.azs with crossing := none } }
    let (c, s) := s.draw (2 ^ 32)
    let (w, s) := s.draw (2 ^ 32)
    let s := (s.setReg R.AZS_LAST (BitVec.ofNat 32 c)).setReg R.AZS_CONT (BitVec.ofNat 32 w)
    let late := s.begun 3 (7 * s.periodUs / 10) || decide (500 * (7 * s.periodUs / 10) ≤ t + 3 + x)
    if late ∧ s.azs.discard = false then
      ((s.put F.AZS_STATUS_LATE_ONLY 1).put F.AZS_DLM_PROB_COUNT 0).tickMiss
    else s

/-- PROBLEM_END (R229). -/
def execProblemEnd (q : Prob) (s : State) : Host.Outcome State Fault Refusal := .next (s.problemEnd q.toNat)

/-- BATCH_COMPLETE (R237). -/
def execBatchComplete (s : State) : Host.Outcome State Fault Refusal := .next s.batchComplete

/-! ## Staging and status (R173, R244) -/

/-- A staging made now reaches the array before the cycle of this tick's Solve edge, after a crossing of 3.75 to 6.25 ns (R24, R36, R173).  The
crossing within those bounds is free. -/
def State.inScan (s : State) : Bool × State :=
  let (x, s) := s.draw 3
  (decide (s.f F.TICK_PHASE_PHASE ≤ 1) && decide (s.tick.cycles + 2 + x < 500 * (2 * s.periodUs / 10)), s)

/-- What `SLV` returns for an admitted problem, and the state after it: 0 this batch, 1 next batch, 2 not in the residue, 3 already
staged.  A staging too late for an edge that has not been taken yet is kept apart. -/
def State.stage (s : State) (q : Nat) (d : AzsDesc) : Nat × State :=
  let (this, s) := s.inScan
  let r := if this then s.residue else (s.tickNo + 1) % 8
  let apart := !this && decide (s.f F.TICK_PHASE_PHASE ≤ 1)
  if d.slice / 2 ^ r % 2 = 0 then (2, s)
  else if (if apart then s.azs.after else s.azs.staged).contains q then (3, s)
  else if apart then (1, { s with azs := { s.azs with after := addTo s.azs.after q } })
  else (if this then 0 else 1, { s with azs := { s.azs with staged := addTo s.azs.staged q } })

/-- The problem's result for this tick is staged but not final. -/
def State.notFinal (s : State) (q : Nat) : Bool :=
  s.azs.batch.contains q || (decide (s.f F.TICK_PHASE_PHASE ≤ 1) && s.azs.staged.contains q)

/-- `SLVW` blocks: between the Solve edge and 0.70 T, while the result for this tick is not final. -/
def State.slvwBlocks (s : State) (q : Nat) : Bool :=
  decide (s.f F.TICK_PHASE_PHASE = 2) && !s.begun 3 (7 * s.periodUs / 10) && s.azs.batch.contains q

/-- The word `SLVW` returns. -/
def State.slvwWord (s : State) (q : Nat) (d : AzsDesc) : Nat := s.recStatus d + (if s.notFinal q then 2 ^ 31 else 0)

end Sys2Proof.Machine
end

