-- ==== Sys2Proof/Machine/TimeBases.lean ====
section
/-!
DEFINITION. Machine/TimeBases.lean: the time bases, the discipline engine, the leap-second table and the time commands (R355 to R370).
-/
namespace Sys2Proof.Machine

/-! ## TAI's state and quality (R359, R361) -/

/-- The states of TAI (R359). -/
inductive TaiState where
  | free | hostset | locked | holdover | recovering
deriving DecidableEq, Repr

/-- TAI's state, held in TIME_STATUS.STATE. -/
def State.tai (s : State) : TaiState :=
  match s.f F.TIME_STATUS_STATE with
  | 1 => .hostset
  | 2 => .locked
  | 3 => .holdover
  | 4 => .recovering
  | _ => .free

def State.setTaiState (s : State) (t : TaiState) : State :=
  s.put F.TIME_STATUS_STATE (match t with | .free => 0 | .hostset => 1 | .locked => 2 | .holdover => 3 | .recovering => 4)

/-- K of R361 for the reference in use, in 1/256 ns/s. -/
def State.holdoverK (s : State) : Nat :=
  if s.b F.TIME_STATUS_REF then s.f F.TIME_HOCOEF_OCXO else s.f F.TIME_HOCOEF_TCXO

/-- The error estimate in ns (TIME_QUAL.ERR, R359): it grows by K × t in HOSTSET and HOLDOVER and saturates (R361), and follows the GNSS time
uncertainty in LOCKED and the remaining phase error in RECOVERING. -/
def State.taiErr (s : State) : Nat :=
  match s.tai with
  | .free => 0xFFFFFFFF
  | .hostset | .holdover =>
    min 0xFFFFFFFF (s.time.err0 + s.holdoverK * (s.mono - s.time.errFrom.total) / (256 * nsPerSec))
  | .locked => min 0xFFFFFFFF ((s.reg R.GNSS_TUNC).toNat + 5)
  | .recovering => min 0xFFFFFFFF (s.time.f.natAbs / 2 ^ 32 + 20)

/-- Fix the error estimate now. -/
def State.setErr (s : State) (e : Nat) : State :=
  { s with time := { s.time with err0 := e, errFrom := s.base 0 } }

/-! ## The leap-second table (R365, R366) -/

/-- The entry with the largest T_e at or before TAI second `t`, with its number. -/
def leapAt (l : Tbl LeapRow) (t : Nat) : Option (Nat × LeapRow) :=
  l.foldl (fun b e =>
    if e.2.te ≤ t then
      match b with
      | none => some e
      | some x => if x.2.te < e.2.te then some e else b
    else b) none

/-- Bring TIME_OFFSET, CIV_VALID and LEAP in line with TAI and the table (R359, R365, R366). -/
def State.refreshLeap (s : State) : State :=
  let t := (s.base 1).sec
  match leapAt s.time.leap t with
  | none => ((s.put F.TIME_OFFSET_OFF 0).put F.TIME_STATUS_CIV_VALID 0).put F.TIME_STATUS_LEAP 0
  | some (_, e) =>
    let inserted := match (if e.te = 0 then none else leapAt s.time.leap (e.te - 1)) with
      | some (_, p) => decide (e.off = p.off - 1 ∧ t = e.te)
      | none => false
    let s := s.puti F.TIME_OFFSET_OFF e.off
    let s := s.putb F.TIME_STATUS_CIV_VALID (decide (s.tai ≠ .free))
    let s := s.putb F.TIME_STATUS_LEAP inserted
    { s with aon := { s.aon with lastOff := e.off } }

/-- A change of the table raises source 117 and records an event (R365). -/
def State.leapChanged (s : State) (k : Nat) : State :=
  ((s.refreshLeap).event 0x0A04 [k]).assertSrc 117

/-- Commit entry k. -/
def State.commitLeap (s : State) (k te : Nat) (off : Int) (valid gnss : Bool) : State :=
  let s := s.setReg64 (R.TIME_LEAPLO k) te
  let s := s.setReg (R.TIME_LEAPOFF k)
    (BitVec.ofNat 32 ((if valid then 2 ^ 31 else 0) + (if gnss then 2 ^ 29 else 0) + unsignedOf 16 off))
  let l := if valid then tput s.time.leap k ⟨te, off, gnss⟩ else tdel s.time.leap k
  { s with time := { s.time with leap := l } }

/-- A write of TIME_LEAPOFFk commits entry k with the T_e its other two words hold (R365). -/
def State.leapWrite (s : State) (k : Nat) (v : Word) : State :=
  (s.commitLeap k (s.reg64 (R.TIME_LEAPLO k)) (signedOf 16 (bitsOf v 15 0)) (decide (bitsOf v 31 31 = 1)) false).leapChanged k

/-- LEAP_ENTRY_WRITE (R365). -/
def execLeapEntryWrite (_m : Master) (k : LeapEntry) (v : Word) (s : State) : Host.Outcome State Fault Refusal :=
  .next (s.leapWrite k v)

/-- A decoded leap-second announcement (R365, R386): it replaces the entry with the same T_e, else takes the lowest free entry, else the
valid entry with the smallest T_e unless that entry is in force. -/
def State.leapGnss (s : State) (te : Nat) (off : Int) : State :=
  if s.b F.TIME_CTRL_LEAP_GNSS then
    match s.time.leap.find? (·.2.te = te) with
    | some (k, e) =>
      let s := if e.gnss = false ∧ e.off ≠ off then s.event 0x0A08 [k] else s
      (s.commitLeap k te off true true).leapChanged k
    | none =>
      match (List.range 32).find? (fun k => (tget? s.time.leap k).isNone) with
      | some k => (s.commitLeap k te off true true).leapChanged k
      | none =>
        let least := s.time.leap.foldl (fun (b : Option (Nat × LeapRow)) e =>
          match b with
          | none => some e
          | some x => if e.2.te < x.2.te then some e else b) none
        match least, leapAt s.time.leap (s.base 1).sec with
        | some (k, _), some (j, _) =>
          if k = j then (s.put F.TIME_STATUS_TBL_FULL 1).event 0x0A09 [k] else (s.commitLeap k te off true true).leapChanged k
        | some (k, _), none => (s.commitLeap k te off true true).leapChanged k
        | none, _ => s
  else s

/-- LEAP_SECOND: TAI reaches a T_e, and the entry comes into force (R366). -/
def execLeapSecond (s : State) : Host.Outcome State Fault Refusal := .next s.refreshLeap

/-! ## The time island's clock (R22, R357) -/

/-- The increment of base b; CIV's is TAI's (R355). -/
def State.inc (s : State) (b : Nat) : Nat := s.reg64 (R.TIME_INCLO (if b = 2 then 1 else b))

/-- One base counts n cycles: each adds its increment. -/
def State.countBase (s : State) (n b : Nat) : State :=
  let v := s.base b
  let t := v.ns + n * s.inc b
  s.setBase b ⟨v.sec + t / nsPerSec, t % nsPerSec⟩

/-- The bases that count by themselves: CIV follows TAI (R355). -/
def countedBases : List Nat := [0, 1, 3, 4, 8, 9, 10, 11, 12, 13, 14, 15]

/-- Every base counts n cycles; an entry of the leap-second table whose second TAI reaches comes into force (R357, R366). -/
def State.countBases (s : State) (n : Nat) : State :=
  let t := countedBases.foldl (·.countBase n ·) s
  if (t.base 1).sec = (s.base 1).sec then t else t.refreshLeap

/-- The calendar clock runs on its crystal whether the module is in reset or not (R364; assumption log 41). -/
def State.countCalendar (s : State) (n : Nat) : State :=
  if s.aon.calValid then { s with aon := { s.aon with cal := s.aon.cal.shift (n * (2 * 2 ^ 32)) } } else s

/-- The calendar clock as it reads, in steps of 2⁻¹⁵ s (R364). -/
def State.calendarNow (s : State) : BaseVal :=
  { s.aon.cal with ns := s.aon.cal.ns * 32768 / nsPerSec * nsPerSec / 32768 }

/-- Sources with a pending count, in increasing number. -/
def State.held (s : State) : List Nat := (s.listed (R.IRQ_COAL 0) 8 256).filterMap fun e => if bitsOf e.2 23 16 ≠ 0 then some e.1 else none

/-- Every source with a pending count counts its timer (R345). -/
def State.countTimers (s : State) (n : Nat) : State :=
  { s with irq := { s.irq with timer := s.held.map fun k => (k, tget 0 s.irq.timer k + n) } }

/-- Run times of the contexts that the cores run, and the cores' busy cycles (R180, R187). -/
def State.countCores (s : State) (n : Nat) : State :=
  (List.range 6).foldl (fun s k =>
    if s.b (F.CML_CORE_IDLE k) then s
    else
      let s := { s with cml := { s.cml with busy := tput s.cml.busy k (tget 0 s.cml.busy k + n) } }
      s.modAct (s.f (F.CML_CORE_CTX k)) fun a => { a with run := a.run + n }) s

/-- The tick stands n cycles further from its Strobe. -/
def State.countTick (s : State) (n : Nat) : State :=
  let c := s.tick.cycles + n
  { s.put F.TICK_PHASE_OFFSET (min 0xFFFF (c / 500)) with tick := { s.tick with cycles := c } }

/-- n cycles of 2 ns pass in the time island.  In a reset only the always-on island's clock and, with VDD_CORE up, MONO run (R355, R364). -/
def State.elapse (s : State) (n : Nat) : State :=
  let s := s.countCalendar n
  if s.sys.inReset then (if s.sys.coreOn then s.countBase n 0 else s)
  else
    let s := (s.countBases n).countTimers n
    if s.tick.running then (s.countTick n).countCores n else s

/-- One microsecond, in units of 2⁻³² ns. -/
def usUnits : Nat := 1000 * 2 ^ 32

/-- One millisecond in units of 2⁻³² ns. -/
def msUnits : Nat := 1000 * usUnits

/-- Cycles until base b reaches the value t, in units of 2⁻³² ns. -/
def State.cyclesTo (s : State) (b t : Nat) : Nat :=
  let d := t - (s.base b).total
  let i := max 1 (s.inc b)
  (d + i - 1) / i

/-- An event whose instant lies n cycles ahead: within the tick that runs the clock moves on to its instant, and it takes place; the instant of
one that lies beyond the tick has not come, and nothing happens (assumption log 54). -/
def State.whenDue (s : State) (n : Nat) (g : State → State) : State :=
  if n = 0 then g s
  else if s.tick.running && decide (500 * s.periodUs < s.tick.cycles + n) then s
  else g (s.elapse n)

/-! ## The discipline engine (R360 to R363) -/

/-- The increment 2.0 in 32.32 ns (R357). -/
def incNominal : Int := 2 ^ 33

def State.setInc (s : State) (b v : Nat) : State := s.setReg64 (R.TIME_INCLO b) v

/-- A TICKLOCK master copies every change of the TICK increment (R407). -/
def State.copyTickInc (s : State) : State :=
  (List.range 8).foldl (fun s k =>
    let role := s.f (F.CAN_TT_ROLE k)
    if s.b (F.CAN_CTRL_EN k) && s.b (F.CAN_TT_TICKLOCK k) && (decide (role = 1) || decide (role = 3)) then s.setInc (8 + k) (s.inc 3) else s) s

/-- A new increment of TICK. -/
def State.setTickInc (s : State) (v : Nat) : State := (s.setInc 3 v).copyTickInc

/-- The quotient rounded to the nearest whole number, halves away from zero. -/
def divNearest (a b : Int) : Int := if a < 0 then -((-a + b / 2) / b) else (a + b / 2) / b

/-- y_f, the average of the frequency corrections of the last 60 s, in units of the increment (R360). -/
def State.yf (s : State) : Int :=
  if s.time.corr = [] then 0 else divNearest (s.time.corr.foldl (· + ·) 0) s.time.corr.length

/-- TC in seconds, 1 to 10,000 (R370). -/
def State.discTc (s : State) : Nat := min 10000 (max 1 (s.f F.TIME_DISC_TC))

/-- SLEW_MAX in ns/s, 1 to 1,000 (R370). -/
def State.slewMax (s : State) : Nat := min 1000 (max 1 (s.f F.TIME_SLEW_MAX_MAX))

/-- The engine writes TAI's increment, 2.0 × (1 + y_f − y_p) with y_p = clamp(−f/TC, ±SLEW_MAX) (R360).  `f` is in units of 2⁻³² ns, so
f/TC in ns/s as a ratio is f / (TC × 10⁹ × 2³²), and the increment changes by 2³³ of it.  What it corrects in LOCKED is a correction of
frequency that y_f averages; the slew of a recovery is none, so that it stays within SLEW_MAX of 2.0 × (1 + y_f) (R362; assumption log 47). -/
def State.discipline (s : State) : State :=
  if s.b F.TIME_CTRL_DISC_EN then
    let lim : Int := s.slewMax
    let den : Int := (s.discTc : Int) * 2 ^ 32
    let slew := max (-lim * den) (min (lim * den) s.time.f)
    let corr := s.yf + divNearest (2 ^ 33 * slew) (den * 1000000000)
    let s := s.setInc 1 (incNominal + corr).toNat
    if s.tai = .locked then { s with time := { s.time with corr := (corr :: s.time.corr).take 60 } } else s
  else s

/-- Enter LOCKED: source 115 and an event (R362, R369). -/
def State.enterLocked (s : State) : State := ((s.setTaiState .locked).event 0x0A02 []).assertSrc 115

/-- A whole-second step of TAI by k seconds; the fraction is not touched (R362). -/
def State.secondStep (s : State) (k : Int) : State :=
  if k = 0 then s
  else
    let t := s.base 1
    let s := s.setBase 1 { t with sec := ((t.sec : Int) + k).toNat }
    let s := (s.put F.TIME_STATUS_STEPPED 1).refreshLeap
    (s.event 0x0A03 [unsignedOf 32 k]).assertSrc 116

/-- e rounded to the nearest whole second, halves toward zero (R362). -/
def wholeSeconds (e : Int) : Int :=
  let h : Int := nsPerSec
  if e < 0 then -((-e + (h - 1) / 2) / h) else (e + (h - 1) / 2) / h

/-- The first trusted solution after HOLDOVER or HOSTSET: the error is split, whole seconds step at once, the rest is slewed (R362). -/
def State.recover (s : State) (e : Int) : State :=
  let k := wholeSeconds e
  let s := s.secondStep k
  { s with time := { s.time with f := e - k * (nsPerSec : Int) } }

/-- LOCK_TOL in units of 2⁻³² ns. -/
def State.lockTol (s : State) : Int := (s.f F.TIME_DISC_LOCK_TOL : Int) * 2 ^ 32

/-- A SET_TAI in the cycle of a first trusted solution: the solution wins, so the command counts as refused and TAI stands as before it
(R359). -/
def State.undoHostSet (s : State) : State :=
  match s.time.hostSet with
  | some (t, v) =>
    if s.tai = .hostset ∧ t = s.mono then ((s.setBase 1 v).setTaiState .free).event 0x0A0A [] else s
  | none => s

/-- The phase error e of a trusted time solution, GNSS time less TAI, in units of 2⁻³² ns (R359, R360, R362). -/
def State.phaseError (s : State) (e : Int) : State :=
  let s := s.undoHostSet
  let s := match s.tai with
    | .free =>
      let s := s.setBase 1 ((s.base 1).shift e)
      let s := { s with time := { s.time with f := 0 } }
      (s.enterLocked).refreshLeap
    | .hostset =>
      if (e.natAbs : Int) ≤ s.lockTol then ({ s with time := { s.time with f := e } }).enterLocked
      else (((s.recover e).setTaiState .recovering).event 0x0A01 []).assertSrc 114
    | .holdover => (((s.recover e).setTaiState .recovering).event 0x0A01 []).assertSrc 114
    | .recovering =>
      let s := { s with time := { s.time with f := e } }
      if (e.natAbs : Int) ≤ s.lockTol then s.enterLocked else s
    | .locked => { s with time := { s.time with f := e } }
  s.discipline

/-- PHASE_ERROR: the discipline engine takes the phase error of the first time solution after the whole TAI second that the command names; of
another second none waits (R385). -/
def State.takePhase (s : State) (sec : Nat) : State :=
  match s.gnss.timeSol with
  | some e => if s.gnss.solSec = some sec then { s with gnss := { s.gnss with timeSol := none } }.phaseError e else s
  | none => s

/-- PHASE_ERROR (R360). -/
def execPhaseError (sec : Dword) (s : State) : Host.Outcome State Fault Refusal := .next (s.takePhase sec.toNat)

/-- HOLDOVER, in LOCKED or RECOVERING, at 3 s after the last trusted time solution (R359, R361). -/
def State.enterHoldover (s : State) : State :=
  if s.tai = .locked ∨ s.tai = .recovering then
    s.whenDue (s.cyclesTo 0 (s.time.lastSol + 3 * nsPerSec)) fun s =>
      let s := s.setErr s.taiErr
      let s := if s.b F.TIME_CTRL_DISC_EN then s.setInc 1 (incNominal + s.yf).toNat else s
      ((s.setTaiState .holdover).event 0x0A00 []).assertSrc 113
  else s

/-- HOLDOVER (R361). -/
def execHoldover (s : State) : Host.Outcome State Fault Refusal := .next s.enterHoldover

/-- SET_TAI from the TIME_SET registers, in FREE only (R359). -/
def State.setTai (s : State) : State :=
  if s.tai = .free then
    let s := { s with time := { s.time with hostSet := some (s.mono, s.base 1) } }
    let s := s.setBase 1 ⟨s.reg64 R.TIME_SET_SECLO, (s.reg R.TIME_SET_FRAC).toNat * 1000000000⟩
    (((s.setErr (s.reg R.TIME_SET_ERR).toNat).setTaiState .hostset)).refreshLeap
  else s.event 0x0A0A []

/-- SET_TAI (R359). -/
def execSetTai (_m : Master) (s : State) : Host.Outcome State Fault Refusal := .next s.setTai

/-- REALIGN: TAI steps by f, only while BEACON_EN is 0 and TAI is RECOVERING (R363). -/
def State.realign (s : State) : State :=
  if s.b F.TIME_CTRL_BEACON_EN = false ∧ s.tai = .recovering then
    let s := s.setBase 1 ((s.base 1).shift s.time.f)
    let s := { s with time := { s.time with f := 0 } }
    (s.enterLocked).refreshLeap
  else s.event 0x0A0A []

/-- REALIGN (R363). -/
def execRealign (_m : Master) (s : State) : Host.Outcome State Fault Refusal := .next s.realign

/-- A write of TIME_CMD: another KEY is ignored and recorded, another code refused and recorded (R370). -/
def State.timeCmdWrite (s : State) (m : Master) (v : Word) : State :=
  if bitsOf v 31 16 ≠ 0x5449 then s.recordWrite m R.TIME_CMD v
  else
    match bitsOf v 3 0 with
    | 1 => s.setTai
    | 2 => s.realign
    | _ => s.recordWrite m R.TIME_CMD v

/-- A switch of the reference: REFSW, an event and source 118; in holdover ERR rises by 50 ns and K changes from now on (R357, R361). -/
def State.refSwitch (s : State) (external : Bool) : State :=
  let e := s.taiErr
  let grows := decide (s.tai = .holdover)
  let s := if s.tai = .holdover ∨ s.tai = .hostset then s.setErr (e + (if grows then 50 else 0)) else s
  let s := (s.putb F.TIME_STATUS_REF external).put F.TIME_STATUS_REFSW 1
  (s.event 0x0A05 []).assertSrc 118

/-- A write of SYS_CLK: RETURN 1 goes back to the external reference where REF_EXT is high and the reference present; any other RETURN write
is ignored and recorded (R476). -/
def State.refReturn (s : State) (m : Master) (v : Word) : State :=
  if bitsOf v 31 31 = 0 then s
  else if s.b F.SYS_STRAP_REF_EXT && s.b F.SYS_CLK_EXT_OK then
    (if s.b F.SYS_CLK_REF then s else (s.put F.SYS_CLK_REF 1).refSwitch true)
  else s.recordWrite m R.SYS_CLK v

/-! ## Increments and readings (R357, R358) -/

/-- The number names a base of the table of R355. -/
def baseExists (b : Nat) : Bool := decide (b < 5) || (decide (8 ≤ b) && decide (b < 16))

/-- A write of base b's increment: ignored and recorded for MONO and CIV, clamped and recorded outside ±122 ppm (R357). -/
def State.incWrite (s : State) (m : Master) (b : Nat) (v : Nat) : State :=
  if baseExists b = false then s
  else if b = 0 ∨ b = 2 then s.recordWrite m (R.TIME_INCHI b) (BitVec.ofNat 32 (v / 2 ^ 32))
  else
    let c := max 0x00000001FFF00000 (min 0x0000000200100000 v)
    let s := if b = 3 then s.setTickInc c else s.setInc b c
    if c = v then s else s.recordWrite m (R.TIME_INCHI b) (BitVec.ofNat 32 (v / 2 ^ 32))

/-- INC_WRITE (R357). -/
def execIncWrite (m : Master) (b : Base) (v : Dword) (s : State) : Host.Outcome State Fault Refusal :=
  .next (s.incWrite m b v.toNat)

/-- TIME_SNAP: every named base is latched into the master's own snapshot registers in one cycle (R358). -/
def State.timeSnap (s : State) (m : Master) (v : Word) : State :=
  (List.range 16).foldl (fun t b =>
    if v.getLsbD b && baseExists b then
      let x := s.base b
      let t := t.setMreg m (R.TIME_SNFR b) (BitVec.ofNat 32 x.frac)
      let t := t.setMreg m (R.TIME_SNLO b) (BitVec.ofNat 32 x.sec)
      t.setMreg m (R.TIME_SNHI b) (BitVec.ofNat 32 (x.sec / 2 ^ 32))
    else t) s

/-- TIME_SNAP (R358). -/
def execTimeSnap (m : Master) (v : Word) (s : State) : Host.Outcome State Fault Refusal := .next (s.timeSnap m v)

/-- Reading a base's fraction latches both seconds words for the reader (R358). -/
def State.fracRead (s : State) (m : Master) (b : Nat) : State :=
  if baseExists b then
    let x := s.base b
    let l := tput s.latches (mkey m (R.TIME_SECLO b)) (BitVec.ofNat 32 x.sec)
    { s with latches := tput l (mkey m (R.TIME_SECHI b)) (BitVec.ofNat 32 (x.sec / 2 ^ 32)) }
  else s

/-- FRAC_READ (R358). -/
def execFracRead (m : Master) (b : Base) (s : State) : Host.Outcome State Fault Refusal := .next (s.fracRead m b)

/-! ## Beacon and calendar (R364, R367) -/

/-- Width of a Beacon pulse in ms, 1 to 500 (R370). -/
def State.beaconWidth (s : State) : Nat := min 500 (max 1 (s.f F.TIME_BEACON_WIDTH))

/-- The cycles to the next whole second of TAI: none in the first cycle of a second (R367). -/
def State.toWholeSecond (s : State) : Nat :=
  let v := s.base 1
  if v.ns < max 1 (s.inc 1) then 0 else s.cyclesTo 1 ((v.sec + 1) * nsPerSec)

/-- At a whole TAI second the Beacon pulse starts, as wide as WIDTH says now, and source 112 asserts (R367, R370). -/
def State.beaconStart (s : State) : State :=
  { s with pins := { s.pins with beacon := true },
           time := { s.time with beaconEnd := s.mono + s.beaconWidth * (1000000 * 2 ^ 32) } }.assertSrc 112

/-- BEACON, with TAI valid and BEACON_EN 1 (R367). -/
def execBeacon (s : State) : Host.Outcome State Fault Refusal :=
  .next (if s.tai ≠ .free ∧ s.b F.TIME_CTRL_BEACON_EN then s.whenDue s.toWholeSecond State.beaconStart else s)

/-- A timing output is not gated: its enable is 1 and TAI is valid (R367). -/
def State.timeOut (s : State) (en : Fld) : Bool := s.b en && decide (s.tai ≠ .free)

/-- The level of BEACON: high in a pulse and low outside with POL 0, the other way round with POL 1; gated, inactive (R367, R370). -/
def State.beaconLevel (s : State) : Bool := (s.pins.beacon && s.timeOut F.TIME_CTRL_BEACON_EN) != s.b F.TIME_BEACON_POL

/-- The level of REF10M_OUT: high in the first 50 ns of every whole 100 ns of TAI; gated, low (R367; assumption log 65). -/
def State.ref10mLevel (s : State) : Bool := s.timeOut F.TIME_CTRL_TEN_EN && decide ((s.base 1).ns / 2 ^ 32 % 100 < 50)

/-- BEACON_PULSE_END: WIDTH ms after its start the pulse ends, and the output returns to its inactive level (R367). -/
def State.beaconStop (s : State) : State :=
  if s.pins.beacon then s.whenDue (s.cyclesTo 0 s.time.beaconEnd) fun s => { s with pins := { s.pins with beacon := false } } else s

/-- BEACON_PULSE_END (R367). -/
def execBeaconPulseEnd (s : State) : Host.Outcome State Fault Refusal := .next s.beaconStop

/-- CALENDAR_UPDATE: while CIV is valid the always-on clock is set from it (R364). -/
def execCalendarUpdate (s : State) : Host.Outcome State Fault Refusal :=
  if s.b F.TIME_STATUS_CIV_VALID then
    .next { s with aon := { s.aon with calValid := true, cal := s.base 2 } }
  else .next s

/-- CRYSTAL_LOST: the calendar clock is invalid (R477). -/
def execCrystalLost (s : State) : Host.Outcome State Fault Refusal :=
  .next ({ s with aon := { s.aon with calValid := false } }.event 0x0003 [])

/-! ## Launch times (R368) -/

/-- What becomes of a launch time. -/
inductive Launch where
  | refused
  | now
  | at (tick : Nat)
deriving DecidableEq, Repr

/-- A launch time in base b, in units of 2⁻³² ns, converted to a TICK value with the current values and increments; more than 10 s ahead
is refused, and a time already passed launches at once (R368). -/
def State.launchAt (s : State) (b t : Nat) : Launch × State :=
  let now := (s.base b).total
  if t ≤ now then (.now, ((s.put F.TIME_STATUS_LATE 1).event 0x0A06 [b]).assertSrc 119)
  else if 10 * nsPerSec < t - now then (.refused, s.event 0x0A07 [b])
  else (.at ((s.base 3).total + (t - now) * s.inc 3 / max 1 (s.inc b)), s)

/-- The launch timer of output island i (0 loop, 1 network, 2 + k CAN controller k, 10 the analogue front end): its copy of the TICK base
(R32). -/
def State.launchTimer (s : State) (i : Nat) : BaseVal := (s.base 3).shift (tget 0 s.out.timers i)

/-- Cycles until the launch timer of output island i reaches the TICK value t (R32, R368). -/
def State.cyclesToLaunch (s : State) (i t : Nat) : Nat :=
  let d := t - (s.launchTimer i).total
  let n := max 1 (s.inc 3)
  (d + n - 1) / n

end Sys2Proof.Machine
end

