-- ==== Sys2Proof/Machine/Irq.lean ====
section
/-!
DEFINITION. Machine/Irq.lean: the interrupt controller (R339 to R354).
-/
namespace Sys2Proof.Machine

/-! ## Readiness and targets (R340, R345, R346) -/

/-- The receive sources of the serial, network and CAN blocks (R340). -/
def recvSource (n : Nat) : Bool :=
  (decide (120 ≤ n) && decide (n < 152) && decide (n % 4 = 0)) || n = 154 || n = 156 || n = 160 || (decide (164 ≤ n) && decide (n ≤ 191))

/-- Time-island cycles of `n` microseconds. -/
def usCycles (n : Nat) : Nat := 500 * n

/-- Source n is ready (R345). -/
def State.srcReady (s : State) (n : Nat) : Bool :=
  let c := s.f (F.IRQ_COAL_PCNT n)
  let t := s.f (F.IRQ_COAL_TIME n)
  decide (max 1 (s.f (F.IRQ_COAL_COUNT n)) ≤ c) ||
    (decide (0 < t) && decide (0 < c) && decide (usCycles t ≤ tget 0 s.irq.timer n))

/-- Source n is masked. -/
def State.srcMasked (s : State) (n : Nat) : Bool := s.bit (R.IRQ_MASK 0) n

/-- Target t meets the mode and link conditions of R340. -/
def State.tgtOpen (s : State) (t : Nat) : Bool :=
  if t < 6 then decide (s.mode ≠ .stop) else if t = 7 then s.b F.PAIR_STATUS_LINK_UP else true

/-- Target t is eligible for source n (R340). -/
def State.eligible (s : State) (n t : Nat) : Bool :=
  (s.reg (R.IRQ_CFG n)).getLsbD (8 + t) && (s.reg R.IRQ_TGTEN).getLsbD t && s.tgtOpen t

/-- The level of target t plus 1: 0 when idle (R339). -/
def State.level (s : State) (t : Nat) : Nat :=
  if t < 6 then (if s.b (F.CML_CORE_IDLE t) then 0 else s.f (F.CML_CORE_PRIO t) + 1)
  else if t = 6 then s.f F.IRQ_HOSTLVL_LEVEL + 1
  else s.f F.IRQ_PARTLVL_LEVEL + 1

/-- Targets in the order that follows the rotation pointer. -/
def State.rotation (s : State) : List Nat := (List.range 8).map fun i => (s.f F.IRQ_STATUS_RR + 1 + i) % 8

/-- The target for source n: the eligible one with the lowest level, the first after the rotation pointer among equals (R346). -/
def State.target (s : State) (n : Nat) : Option Nat :=
  s.rotation.foldl (fun b t =>
    if s.eligible n t then
      match b with
      | none => some t
      | some x => if s.level t < s.level x then some t else b
    else b) none

/-- The source to deliver next: ready, unmasked and with an eligible target, of the highest PRIO, the lowest number among equals (R346). -/
def State.nextSource (s : State) : Option Nat :=
  s.held.foldl (fun b n =>
    if s.srcReady n && !s.srcMasked n && (s.target n).isSome then
      match b with
      | none => some n
      | some x => if s.f (F.IRQ_CFG_PRIO x) < s.f (F.IRQ_CFG_PRIO n) then some n else b
    else b) none

/-- The count and timer of source n go to 0; a message whose edge is no longer counted is covered by no delivery (R349, R350). -/
def State.clearSrc (s : State) (n : Nat) : State :=
  let s := s.put (F.IRQ_COAL_PCNT n) 0
  { s with irq := { s.irq with timer := tdel s.irq.timer n, awaiting := s.irq.awaiting.filter (·.1 ≠ n) } }

/-! ## Delivery (R347 to R349) -/

/-- Cycle D of a delivery of source n to target t: the controller takes the count, the messages that wait for this stamp and the number the target
will be told, and sets count and timer to 0 (R339, R347). -/
def State.begin_ (s : State) (n t : Nat) : State :=
  let d : Delivery := { src := n, tgt := t, count := s.f (F.IRQ_COAL_PCNT n), stamps := (s.irq.awaiting.filter (·.1 = n)).map (·.2),
                        orig := if n = 193 then s.irq.partnerSrc else n }
  let s := s.clearSrc n
  { s with irq := { s.irq with inFlight := s.irq.inFlight ++ [d] } }

/-- DELIVERY: cycle D for the next source and its target; deliveries wait from a swap point to the tick boundary (R216). -/
def State.deliver (s : State) : State :=
  if s.prg.swapping then s
  else
    match s.nextSource with
    | none => s
    | some n =>
      match s.target n with
      | none => s
      | some t => (s.begin_ n t).put F.IRQ_STATUS_RR t

/-- DELIVERY (R347). -/
def execDelivery (s : State) : Host.Outcome State Fault Refusal := .next s.deliver

/-- MONO in the form of special register 10 and of the stored stamps: seconds and fraction in units of 2⁻³² s (R148). -/
def BaseVal.form (v : BaseVal) : Nat := (v.sec * 2 ^ 32 + v.frac) % 2 ^ 64

/-- MONO and TAI are latched into the messages that a delivery of source n covers; a stored frame or sentence holds MONO (R349, R396, R424). -/
def State.stampMessages (s : State) (n : Nat) (l : List Nat) : State :=
  let s := l.foldl (fun s a => s.wr a 8 (s.base 0).form) s
  if recvSource n then { s with irq := { s.irq with stamp := tput s.irq.stamp n (s.base 0, s.base 1) } } else s

/-- The stamp registers of target t at commit (R349): MONO, TAI, the source and count, and SEQ one higher. -/
def State.stampTarget (s : State) (d : Delivery) : State :=
  let t := d.tgt
  let m := s.base 0
  let a := s.base 1
  let s := (s.put (F.IRQ_STMFR_FRAC t) m.frac).setReg64 (R.IRQ_STMLO t) m.sec
  let s := (s.put (F.IRQ_STTFR_FRAC t) a.frac).setReg64 (R.IRQ_STTLO t) a.sec
  let s := s.put (F.IRQ_STSRC_COUNT t) d.count
  let s := s.bump (F.IRQ_STSRC_SEQ t)
  let s := s.put (F.IRQ_STSRC_SRC t) d.orig
  (s.put F.IRQ_STATUS_LAST_SRC d.src).put F.IRQ_STATUS_LAST_TGT t

/-- An MSI-X message to the host: discarded and counted while the link is down or MSI-X is disabled, held while its vector is masked
(R428). -/
def State.toHost (s : State) (n : Nat) : State :=
  if s.b F.NET_PCIE_STAT_LINK && s.b F.NET_PCIE_STAT_MSIX_EN then
    if s.irq.msixOpen.contains n then { s with irq := { s.irq with msixLast := some n } }
    else { s with irq := { s.irq with msixHeld := addTo s.irq.msixHeld n } }
  else s.count F.NET_PCIE_STAT_DISC

/-- The free interrupt tasks of a core that name source n (R339). -/
def State.tasksFor (s : State) (core n : Nat) : List Nat :=
  s.tasks.filter fun c =>
    let w := s.tcfg c
    decide (cfgPhase w = 0 ∧ cfgTrig w = 1 ∧ cfgSrc w = n ∧ cfgCore w = core)

/-- The message reaches its target: a core's tasks are triggered, or the delivery is an orphan (R341); the host and the partner get a
message. -/
def State.message (s : State) (d : Delivery) : State :=
  if d.tgt < 6 then
    match s.tasksFor d.tgt d.src with
    | [] => (((s.count F.IRQ_ORPHAN_COUNT).put F.IRQ_STATUS_ORPH 1)).event 0x0E00 [d.src]
    | l => (l.foldl (·.activate ·) s).sched
  else if d.tgt = 6 then s.toHost d.src
  else { s with irq := { s.irq with frameLast := some d.src } }

/-- Cycle D + 4 of the oldest delivery in flight (R347). -/
def State.commitDelivery (s : State) : State :=
  match s.irq.inFlight with
  | [] => s
  | d :: l =>
    let s := { s with irq := { s.irq with inFlight := l } }
    let s := s.stampMessages d.src d.stamps
    if d.tgt = 8 then s else (s.stampTarget d).message d

/-- DELIVERY_COMMIT (R347). -/
def execDeliveryCommit (s : State) : Host.Outcome State Fault Refusal := .next s.commitDelivery

/-- STAMP_ONLY_DELIVERY: cycle D of the delivery of a receive source that is ready, unmasked and without an eligible target, in the way of R347 and
without a message (R340); it too waits from a swap point to the tick boundary (R216). -/
def State.stampOnly (s : State) (n : Nat) : State :=
  if recvSource n && s.srcReady n && !s.srcMasked n && (s.target n).isNone && !s.prg.swapping then
    s.begin_ n 8
  else s

/-- STAMP_ONLY_DELIVERY (R340). -/
def execStampOnlyDelivery (n : Source) (s : State) : Host.Outcome State Fault Refusal := .next (s.stampOnly n.toNat)

/-! ## Masks (R348) -/

/-- A write of IRQ_MASKi: a delivery already begun from a source it masks is raced. -/
def State.maskWrite (s : State) (i : Nat) (v : Word) : State :=
  let s := s.writeReg (R.IRQ_MASK i) v
  s.irq.inFlight.foldl (fun s d => if d.src / 32 = i ∧ v.getLsbD (d.src % 32) then s.setBit (R.IRQ_RACE 0) d.src true else s) s

/-- MASK_WRITE (R348). -/
def execMaskWrite (_m : Master) (i : Octet) (v : Word) (s : State) : Host.Outcome State Fault Refusal := .next (s.maskWrite i.val v)

/-- Commit deliveries, oldest first, until none from word i is in flight. -/
def State.drainWord (s : State) (i : Nat) : Nat → State
  | 0 => s
  | n + 1 => if s.irq.inFlight.any (fun d => decide (d.src / 32 = i)) then (s.commitDelivery).drainWord i n else s

/-- A read of IRQ_MASKi completes only after every delivery from that word that had begun has committed. -/
def State.maskRead (s : State) (i : Nat) : State := s.drainWord i s.irq.inFlight.length

/-- MASK_READ (R348). -/
def execMaskRead (_m : Master) (i : Octet) (s : State) : Host.Outcome State Fault Refusal := .next (s.maskRead i.val)

/-! ## Pending counts, software sources, latches (R345, R352 to R354) -/

/-- PEND_CLEAR: writing 1 sets the source's count and timer to 0. -/
def State.pendClear (s : State) (i : Nat) (v : Word) : State :=
  (List.range 32).foldl (fun s k => if v.getLsbD k then s.clearSrc (32 * i + k) else s) s

/-- PEND_CLEAR (R354). -/
def execPendClear (_m : Master) (i : Octet) (v : Word) (s : State) : Host.Outcome State Fault Refusal := .next (s.pendClear i.val v)

/-- SOFTWARE_SOURCE_SET: bit k asserts source 200 + k in this cycle (R353). -/
def State.swSet (s : State) (v : Word) : State :=
  (List.range 32).foldl (fun s k => if v.getLsbD k then s.assertSrc (200 + k) else s) s

/-- SOFTWARE_SOURCE_SET (R353). -/
def execSoftwareSourceSet (_m : Master) (v : Word) (s : State) : Host.Outcome State Fault Refusal := .next (s.swSet v)

/-- SOURCE_ASSERT (R345). -/
def execSourceAssert (n : Source) (s : State) : Host.Outcome State Fault Refusal := .next (s.assertSrc n.toNat)

/-- COALESCE_TIMEOUT: time passes until the timer of a source with a pending count stands at TIME, and the source is ready (R345). -/
def State.coalesced (s : State) (n : Nat) : State :=
  if 0 < s.f (F.IRQ_COAL_PCNT n) ∧ 0 < s.f (F.IRQ_COAL_TIME n) then
    s.whenDue (usCycles (s.f (F.IRQ_COAL_TIME n)) - tget 0 s.irq.timer n) id
  else s

/-- COALESCE_TIMEOUT (R345). -/
def execCoalesceTimeout (n : Source) (s : State) : Host.Outcome State Fault Refusal := .next (s.coalesced n.toNat)

/-- AON_LATCH: an edge without clocks sets the source's latch; several set it once (R352). -/
def State.aonLatch (s : State) (n : Nat) : State :=
  if s.sourceExists n then { s with irq := { s.irq with aon := addTo s.irq.aon n } } else s

/-- AON_LATCH (R352). -/
def execAonLatch (n : Source) (s : State) : Host.Outcome State Fault Refusal := .next (s.aonLatch n.toNat)

/-- The clocks of the time island and of source n's own island run: no reset, and the GNSS or the CAN controller of the source is not asleep (R352,
R388, R415). -/
def State.clocked (s : State) (n : Nat) : Bool :=
  !s.sys.inReset && !(decide (104 ≤ n) && decide (n ≤ 111) && s.b F.GNSS_STATUS_SLEEP) &&
    !(decide (120 ≤ n) && decide (n < 152) && decide (s.f (F.CAN_STATUS_STATE ((n - 120) / 4)) = 3))

/-- AON_TRANSFER: once the clocks run, a latch whose source is enabled enters the pending count as one edge and sets its bit of IRQ_AON (R352). -/
def State.aonTransfer (s : State) (n : Nat) : State :=
  if s.irq.aon.contains n && s.b (F.IRQ_CFG_EN n) && s.clocked n then
    let s := { s with irq := { s.irq with aon := s.irq.aon.filter (· ≠ n) } }
    (s.setBit (R.IRQ_AON 0) n true).assertSrc n
  else s

/-- AON_TRANSFER (R352). -/
def execAonTransfer (n : Source) (s : State) : Host.Outcome State Fault Refusal := .next (s.aonTransfer n.toNat)

/-- INTERRUPT_FRAME: the partner's frame asserts source 193 here (R339). -/
def execInterruptFrame (n : Source) (s : State) (crcOk : Bool := true) : Host.Outcome State Fault Refusal :=
  .next (s.frameIn crcOk fun s => { s with irq := { s.irq with partnerSrc := n.toNat } }.assertSrc 193)

/-- A write of IRQ_CTRL: CNT_CLR clears IRQ_ORPHAN (R354). -/
def State.irqCtrlWrite (s : State) (v : Word) : State := if v.getLsbD 0 then s.put F.IRQ_ORPHAN_COUNT 0 else s

/-- IRQ_COUNTER_CLEAR (R354). -/
def execIrqCounterClear (_m : Master) (v : Word) (s : State) : Host.Outcome State Fault Refusal := .next (s.irqCtrlWrite v)

/-- A write of IRQ_CFGs: EN 0 clears the pending count (R342); a fused-off source's register ignores it (R6). -/
def State.irqCfgWrite (s : State) (n : Nat) (v : Word) : State :=
  if s.sourceFused n then s
  else
    let s := s.setReg (R.IRQ_CFG n) (v &&& 0xE0F0FF00)
    if bitsOf v 31 31 = 0 then s.clearSrc n else s

/-- MSIX_UNMASK: unmasking a vector sends the message it held (R428). -/
def State.msixUnmask (s : State) (n : Nat) : State :=
  let s := { s with irq := { s.irq with msixOpen := addTo s.irq.msixOpen n } }
  if s.irq.msixHeld.contains n then
    { s with irq := { s.irq with msixHeld := s.irq.msixHeld.filter (· ≠ n), msixLast := some n } }
  else s

/-- MSIX_UNMASK (R428). -/
def execMsixUnmask (n : Source) (s : State) : Host.Outcome State Fault Refusal := .next (s.msixUnmask n.toNat)

end Sys2Proof.Machine
end

