-- ==== Sys2Proof/Machine/Can.lean ====
section
/-!
DEFINITION. Machine/Can.lean: the CAN FD controllers and the schedule matrix (R391 to R417).  What happens on a bus (a frame that
arrives, the end or failure of an attempt, a reference message) is a command; which frames the module may start is decided here.
-/
namespace Sys2Proof.Machine

/-! ## State of a controller -/

/-- Event e of controller k (R487). -/
def State.canEvent (s : State) (k e : Nat) (items : List Nat) : State := s.event (0x0B00 + 0x10 * k + e) items

/-- A condition of R413 holds now. -/
def State.canBadNow (s : State) (k : Nat) : Bool :=
  let r := s.canReg k
  let st := s.f (F.CAN_STATUS_STATE k)
  let role := bitsOf (s.eff (R.CAN_TT r)) 31 30
  !s.b (F.CAN_CTRL_EN r) || decide (2 ≤ st) ||
    ((decide (role = 2) || (decide (role = 3) && !(s.canSt r).master)) && !s.b (F.CAN_TTSTAT_SYNC k))

/-- Remember for this tick that a condition of R413 has held. -/
def State.canNote (s : State) (k : Nat) : State :=
  if s.canBadNow k then s.setCan k { s.canSt k with bad := true } else s

/-- STATE from the error counters: error-active, error-passive or bus-off; a change asserts source 122 + 4k and is recorded (R412). -/
def State.canState (s : State) (k st : Nat) : State :=
  if s.f (F.CAN_STATUS_STATE k) = st then s
  else (((s.put (F.CAN_STATUS_STATE k) st).canEvent k 0 [k]).assertSrc (122 + 4 * k)).canNote k

/-- The buses of controller r: itself and its twin (R414). -/
def State.buses (s : State) (r : Nat) : List Nat := if s.b (F.CAN_CTRL_DUP r) && decide (r % 2 = 0) then [r, r + 1] else [r]

/-- The frame of queued buffer b has left bus k: the buffer is free when no other bus of its controller has it to send (R402, R414). -/
def State.leaves (s : State) (k b : Nat) : State :=
  let r := s.canReg k
  let rest := (s.buses r).any fun j =>
    decide (j ≠ k) && decide (s.f (F.CAN_STATUS_STATE j) < 2) && !(s.canSt j).sent.contains b
  if rest then s.setCan k { s.canSt k with sent := addTo (s.canSt k).sent b }
  else (s.buses r).foldl (fun s j => s.setCan j { s.canSt j with sent := (s.canSt j).sent.filter (· ≠ b) }) (s.setBit (R.CAN_TXPEND r) b false)

/-- Every pending frame is dropped, each counted, with one event (R402, R415). -/
def State.canDropAll (s : State) (k : Nat) : State :=
  let l := (List.range 32).filter fun b => s.bit (R.CAN_TXPEND (s.canReg k)) b && !(s.canSt k).sent.contains b
  let n := l.length + ((s.canSt k).launched.filter fun e => decide (e.2 ≠ .slot)).length
  let s := l.foldl (fun s b => s.leaves k b) s
  let s := s.setCan k { s.canSt k with launched := [], attempts := [], waiting := [], offered := [], cancel := [] }
  if n = 0 then s else (s.count (F.CAN_CNT_DROPS k) n).canEvent k 3 [k]

/-- The counters after a change: bus-off above 255 drops what is pending (R402, R412). -/
def State.canErrors (s : State) (k tec rec : Nat) : State :=
  if 255 < tec then
    let s := (s.put (F.CAN_ERR_TEC k) (min 511 tec)).put (F.CAN_ERR_REC k) (min 255 rec)
    let s := s.setCan k { s.canSt k with recovering := false }
    (s.canState k 2).canDropAll k
  else
    let s := (s.put (F.CAN_ERR_TEC k) tec).put (F.CAN_ERR_REC k) (min 255 rec)
    s.canState k (if 127 < tec ∨ 127 < rec then 1 else 0)

/-- The controller takes part in traffic: enabled, not bus-off and not asleep, and integrated after a wake (R416). -/
def State.canOn (s : State) (k : Nat) : Bool :=
  s.b (F.CAN_CTRL_EN (s.canReg k)) && decide (s.f (F.CAN_STATUS_STATE k) < 2) && decide ((s.canSt k).joinAt ≤ s.mono) &&
  !(s.canSt k).sleepDue && !s.dark

/-! ## Lengths (R391, R392, R405) -/

/-- Data bytes of a DLC. -/
def dlcBytes (fd : Bool) (dlc : Nat) : Nat :=
  if dlc ≤ 8 then dlc
  else if !fd then 8
  else [12, 16, 20, 24, 32, 48, 64].getD (dlc - 9) 64

/-- Nominal and data bit times in units of 12.5 ns (R392). -/
def State.nomBit (s : State) (r : Nat) : Nat :=
  (s.f (F.CAN_NBT_NBRP r) + 1) * (3 + s.f (F.CAN_NBT_NTSEG1 r) + s.f (F.CAN_NBT_NTSEG2 r))
def State.dataBit (s : State) (r : Nat) : Nat :=
  (s.f (F.CAN_DBT_DBRP r) + 1) * (3 + s.f (F.CAN_DBT_DTSEG1 r) + s.f (F.CAN_DBT_DTSEG2 r))

/-- Worst-case length of the frame of a slot in units of 12.5 ns, with stuff bits and 3 bits of intermission (R405). -/
def State.frameLen (s : State) (r : Nat) (slot : List Byte) : Nat :=
  let w0 := leBytes (slot.take 4)
  let w1 := leBytes ((slot.drop 4).take 4)
  let ext := decide (w0 / 2 ^ 29 % 2 = 1)
  let rtr := decide (w0 / 2 ^ 30 % 2 = 1)
  let fd := decide (w1 / 2 ^ 5 % 2 = 1) && !rtr
  let brs := decide (w1 / 2 ^ 6 % 2 = 1)
  let n := dlcBytes fd (w1 % 16)
  if fd then
    let arb := if ext then 36 else 17
    let nominal := arb + (arb - 1) / 4 + 12
    let body := 5 + 8 * n
    let crc := if n ≤ 16 then 21 + 6 else 25 + 7
    let dataPart := body + body / 4 + crc + 1
    nominal * s.nomBit r + dataPart * (if brs then s.dataBit r else s.nomBit r)
  else
    let body := (if ext then 54 else 34) + (if rtr then 0 else 8 * n)
    (body + (body - 1) / 4 + 10 + 3) * s.nomBit r

/-! ## Windows (R404, R405) -/

def State.canRole (s : State) (r : Nat) : Nat := bitsOf (s.eff (R.CAN_TT r)) 31 30

/-- Window w in force: enabled; its start in µs; its kind in the current cycle; its buffer. -/
def State.winOn (s : State) (r w : Nat) : Bool := bitsOf (s.eff (R.CAN_WENT r w)) 31 31 = 1
def State.winStart (s : State) (r w : Nat) : Nat := bitsOf (s.eff (R.CAN_WTIME r w)) 15 0
def State.winBuf (s : State) (r w : Nat) : Nat := bitsOf (s.eff (R.CAN_WENT r w)) 26 22
def State.winKind (s : State) (r w : Nat) : Nat :=
  let e := s.eff (R.CAN_WENT r w)
  let p := 2 ^ min 6 (bitsOf e 15 13)
  if s.f (F.CAN_TTSTAT_CYCLE r) % p = bitsOf e 21 16 % p then bitsOf e 30 29 else bitsOf e 28 27

/-- The end of window w in µs from the cycle start: the next enabled window's start, or the cycle's end. -/
def State.winEnd (s : State) (r w : Nat) : Nat :=
  let a := s.winStart r w
  ((List.range 64).filter fun v => s.winOn r v && decide (a < s.winStart r v)).foldl (fun e v => min e (s.winStart r v))
    (bitsOf (s.eff (R.CAN_TTCYC r)) 31 16)

/-- A frame of this length that starts now ends by the end of window w. -/
def State.fitsWindow (s : State) (r w len : Nat) : Bool :=
  let now := s.mono - (s.canSt r).cycleAt
  decide (now * 2 + len * 25 * 2 ^ 32 ≤ s.winEnd r w * 2000 * 2 ^ 32)

/-- The schedule lets this controller transmit: the master's, or a synchronised follower's. -/
def State.canSynced (s : State) (k : Nat) : Bool := (s.canSt (s.canReg k)).master || s.b (F.CAN_TTSTAT_SYNC k)

/-- The controller may send the frame of a slot with these words: an FD frame only with FD_EN, and a remote frame is never one (R391). -/
def State.fdAllowed (s : State) (r w0 w1 : Nat) : Bool :=
  s.b (F.CAN_CTRL_FD_EN r) || decide (w1 / 2 ^ 5 % 2 = 0) || decide (w0 / 2 ^ 30 % 2 = 1)

/-- The frame in slot b ends by the end of the window that is open (R405). -/
def State.slotFits (s : State) (r w b : Nat) : Bool := s.fitsWindow r w (s.frameLen r (s.rdBytes (s.txSlot r b) 0x50))

/-- Buffer b of bus k may start now by the rules of R401, R403 and R405, arbitration apart. -/
def State.mayStart (s : State) (k b : Nat) : Bool :=
  let r := s.canReg k
  let c := s.txcfg r b
  let a := s.txSlot r b
  let free := bitsOf c 23 23 = 0
  let due := (tget? (s.canSt r).waiting b).isNone
  s.canOn k && decide (s.f (F.CAN_CTRL_MODE r) = 0 ∨ s.f (F.CAN_CTRL_MODE r) = 2) && s.bit (R.CAN_TXPEND r) b &&
  !(s.canSt k).sent.contains b && decide (bitsOf c 31 31 = 1) && !s.canCommand r b && due && s.fdAllowed r (s.rd a 4) (s.rd (a + 4) 4) &&
  (if s.canRole r = 0 then free
   else s.canSynced k && (match (s.canSt r).window with
     | some w => (match s.winKind r w with
       | 0 => free && s.slotFits r w b
       | 1 => false
       | 2 => !free && decide (bitsOf c 29 24 = w) && s.slotFits r w b
       | _ => false)
     | none => false))

/-- The place of a slot's frame in arbitration: the lower identifier wins, and a base one against an extended one that begins with it (R403). -/
def State.arbKey (s : State) (r b : Nat) : Nat :=
  let w := s.rd (s.txSlot r b) 4
  if w / 2 ^ 29 % 2 = 1 then w % 2 ^ 29 * 2 + 1 else w % 2 ^ 11 * 2 ^ 19

/-- The buffer of bus k that stands first in arbitration; of two with one identifier the lower number (DESIGN CHOICE: assumption log 72). -/
def State.firstOffer (s : State) (k : Nat) : Option Nat :=
  let r := s.canReg k
  ((List.range 32).filter (s.mayStart k)).foldl (fun o b =>
    match o with
    | none => some b
    | some x => if s.arbKey r b < s.arbKey r x then some b else o) none

/-- The buffer that stands first on bus k may start from here on. -/
def State.offerNow (s : State) (k : Nat) : State :=
  match s.firstOffer k with
  | some b => s.setCan k { s.canSt k with offered := addTo (s.canSt k).offered b }
  | none => s

/-- What the buses of controller r may start from here on. -/
def State.noteOffers (s : State) (r : Nat) : State := (s.buses r).foldl (·.offerNow ·) s

/-- The bus is idle again after a frame: a reference message that waited for it is launched (R409). -/
def State.busIdle (s : State) (k : Nat) : State :=
  match (s.canSt k).refPend with
  | some m => s.setCan k { s.canSt k with refPend := none, refOut := some m }
  | none => s

/-! ## Reception (R396 to R398, R414) -/

/-- The control and data words of a received frame in a slot: identifier word and control word without SEQ. -/
def canWord0 (f : CanFrame) : Nat := f.ident.toNat + b2n f.ide * 2 ^ 29 + b2n f.rtr * 2 ^ 30
def canWord1 (f : CanFrame) (filter seq : Nat) : Nat :=
  f.dlc.toNat + b2n f.fdf * 2 ^ 5 + b2n f.brs * 2 ^ 6 + b2n f.esi * 2 ^ 7 + filter * 2 ^ 16 + seq * 2 ^ 24

/-- Write a received frame into receive slot q (0 to 31 a mailbox, 32 to 63 a FIFO entry); its stamp follows at delivery (R396). -/
def State.writeSlot (s : State) (r q filter : Nat) (f : CanFrame) : State :=
  let a := s.canRam r + (if q < 32 then 0xA00 + 0x50 * q else 0x1400 + 0x50 * (q - 32))
  let x := s.canSt r
  let seq := tget 0 x.seq q
  let s := s.setCan r { x with seq := tset 0 x.seq q ((seq + 1) % 255) }
  let s := (s.wr (a + 4) 4 (canWord1 f filter 0xFF)).wr a 4 (canWord0 f)
  let s := (s.wrBytes (a + 0x10) ((f.data ++ List.replicate 64 0).take 64)).wr (a + 4) 4 (canWord1 f filter seq)
  s.awaitStamp (120 + 4 * r) (a + 8)

/-- A mailbox takes a frame (R397, R400). -/
def State.toMailbox (s : State) (r m filter : Nat) (f : CanFrame) : State :=
  let s := if s.bit (R.CAN_MBNEW r) m then s.setBit (R.CAN_MBOVR r) m true else s
  let s := (s.setBit (R.CAN_MBNEW r) m true).writeSlot r m filter f
  s.refreshPoint 1 (64 * r + m)

/-- The FIFO takes a frame, or drops it when it is full; the answer says whether it was taken (R397). -/
def State.toFifo (s : State) (r filter : Nat) (f : CanFrame) : Bool × State :=
  let n := s.f (F.CAN_FIFO_COUNT r)
  if 32 ≤ n then (false, (s.count (F.CAN_CNT_FIFO_OVF r)).canEvent r 4 [r])
  else
    let q := (s.f (F.CAN_FIFO_RPTR r) + n) % 32
    (true, (s.writeSlot r (32 + q) filter f).put (F.CAN_FIFO_COUNT r) (n + 1))

/-- The first filter that matches a frame, and its action and mailbox (R398). -/
def State.canFilter (s : State) (r : Nat) (f : CanFrame) : Option (Nat × Nat × Nat) :=
  ((List.range 128).find? fun n =>
    let w := s.eff (R.CAN_FID r n)
    decide (bitsOf w 31 31 = 1) && decide (bitsOf w 30 30 = b2n f.ide) &&
    decide ((f.ident.toNat ^^^ bitsOf w 28 0) &&& bitsOf (s.eff (R.CAN_FMSK r n)) 28 0 = 0)).map fun n =>
      (n, bitsOf (s.eff (R.CAN_FACT r n)) 31 30, bitsOf (s.eff (R.CAN_FACT r n)) 4 0)

/-- Route an accepted frame; a frame that is stored asserts the receive source (R398). -/
def State.canRoute (s : State) (r : Nat) (f : CanFrame) : State :=
  match s.canFilter r f with
  | some (n, act, m) =>
    match act with
    | 1 => (s.toMailbox r m n f).assertSrc (120 + 4 * r)
    | 2 => let (ok, s) := s.toFifo r n f; if ok then s.assertSrc (120 + 4 * r) else s
    | 3 => let (_, s) := (s.toMailbox r m n f).toFifo r n f; s.assertSrc (120 + 4 * r)
    | _ => s
  | none =>
    if s.b (F.CAN_CTRL_ACC_DEF r) then
      let (ok, s) := s.toFifo r 0xFF f
      if ok then s.assertSrc (120 + 4 * r) else s
    else s

/-- A copy on the other bus of a twin pair has been accepted: the same window, or within 1 ms without a matrix (R414). -/
def State.twinCopy (s : State) (k r : Nat) (f : CanFrame) : Bool :=
  (s.canSt r).twin.any fun (b, w, d, t, win) =>
    decide (b ≠ k ∧ w = canWord0 f ∧ d = f.data) &&
    (if s.canRole r = 0 then decide (s.mono ≤ t + 1000000 * 2 ^ 32)
     else decide (win = (s.canSt r).window) && decide ((s.canSt r).cycleAt ≤ t))

/-- A frame accepted on bus k (R398, R414). -/
def State.canAccept (s : State) (k : Nat) (f : CanFrame) : State :=
  let r := s.canReg k
  if s.b (F.CAN_CTRL_DUP r) then
    if s.twinCopy k r f then s
    else
      let x := s.canSt r
      let s := s.setCan r { x with twin := ((k, canWord0 f, f.data, s.mono, x.window) :: x.twin).take 32 }
      s.canRoute r f
  else s.canRoute r f

/-- The receive error counter after a frame received without error: one less, or, above 127, a value from 119 to 127 (ISO 11898-1). -/
def State.recGood (s : State) (k : Nat) : State :=
  let rec_ := s.f (F.CAN_ERR_REC k)
  let (n, s) := if 127 < rec_ then (let (v, s) := s.draw 9; (119 + v, s)) else (rec_ - 1, s)
  s.canErrors k (s.f (F.CAN_ERR_TEC k)) n

/-- A received frame in error. -/
def State.recBad (s : State) (k lec : Nat) (heavy : Bool) : State :=
  let s := s.put (F.CAN_ERR_LEC k) lec
  s.canErrors k (s.f (F.CAN_ERR_TEC k)) (s.f (F.CAN_ERR_REC k) + (if heavy then 8 else 1))

/-- The shortest length of a frame in units of 2⁻³² ns: no stuff bit (R416; assumption log 72). -/
def State.frameLeast (s : State) (r : Nat) (f : CanFrame) : Nat :=
  let n := if f.rtr then 0 else dlcBytes f.fdf f.dlc.toNat
  let bits := (if f.ide then 64 else 44) + 8 * n
  bits * (if f.fdf && f.brs then min (s.nomBit r) (s.dataBit r) else s.nomBit r) * 25 * 2 ^ 31

/-- CAN_FRAME_RECEIVED (R391, R393, R398): without FD_EN an FD frame is answered with an error frame; a controller in internal loopback
receives nothing from the bus, and one that has woken no frame that began before it had integrated (R416). -/
def State.canReceived (s : State) (k : Nat) (f : CanFrame) : State :=
  let r := s.canReg k
  if !s.canOn k || decide (s.f (F.CAN_CTRL_MODE r) = 2) || decide (s.mono < (s.canSt k).joinAt + s.frameLeast r f ∧ (s.canSt k).joinAt ≠ 0) then s
  else if f.fdf && !s.b (F.CAN_CTRL_FD_EN r) then (s.recBad k 2 false).busIdle k
  else ((s.recGood k).canAccept k f).busIdle k

/-- CAN_FRAME_RECEIVED (R398). -/
def execCanFrameReceived (k : CanNo) (f : CanFrame) (s : State) : Host.Outcome State Fault Refusal := .next (s.canReceived k.val f)

/-- CAN_BUS_ERROR: an error while receiving (R412); `heavy` where ISO 11898-1 adds 8. -/
def execCanBusError (k : CanNo) (lec : CanErr) (heavy : Bool) (s : State) : Host.Outcome State Fault Refusal :=
  if s.canOn k.val then .next ((s.recBad k.val lec.val heavy).busIdle k.val) else .next s

/-- FIFO_READ_ADVANCE: a write of RPTR consumes the entries it passes (R397). -/
def State.fifoAdvance (s : State) (k : Nat) (v : Word) : State :=
  let old := s.f (F.CAN_FIFO_RPTR k)
  let new := bitsOf v 4 0
  let d := (new + 32 - old) % 32
  (s.put (F.CAN_FIFO_RPTR k) new).put (F.CAN_FIFO_COUNT k) (s.f (F.CAN_FIFO_COUNT k) - d)

/-- FIFO_READ_ADVANCE (R397). -/
def execFifoReadAdvance (k : CanNo) (_m : Master) (v : Word) (s : State) : Host.Outcome State Fault Refusal :=
  .next (s.fifoAdvance k.val v)

/-! ## Transmission (R401 to R403, R406) -/

/-- A buffer is queued: a free one with LT_EN waits for its converted launch time, and one refused is not queued (R401, R403, R368). -/
def State.canQueue (s : State) (k b : Nat) : State :=
  let c := s.txcfg k b
  let s := if (s.canSt k).cancel = [] then s else s.setCan k { s.canSt k with cancel := (s.canSt k).cancel.filter (· ≠ b) }
  if bitsOf c 31 31 = 0 then s
  else if bitsOf c 23 23 = 0 ∧ bitsOf c 12 12 = 1 then
    let lb := bitsOf c 11 8
    let base := if lb = 0 ∨ lb = 1 ∨ 8 ≤ lb then lb else 3
    match s.launchAt base (s.rd (s.txSlot k b + 8) 8 * 1000000000) with
    | (.refused, s) => s
    | (.now, s) => s.setBit (R.CAN_TXPEND k) b true
    | (.at t, s) => (s.setBit (R.CAN_TXPEND k) b true).setCan k { s.canSt k with waiting := tput (s.canSt k).waiting b t }
  else s.setBit (R.CAN_TXPEND k) b true

/-- TX_QUEUE: a write of CANk_TXPEND queues the buffers whose bits it sets. -/
def State.canPendWrite (s : State) (k : Nat) (v : Word) : State :=
  ((List.range 32).foldl (fun s b => if v.getLsbD b && !s.bit (R.CAN_TXPEND k) b then s.canQueue k b else s) s).noteOffers k

/-- TX_QUEUE (R401). -/
def execTxQueue (k : CanNo) (_m : Master) (v : Word) (s : State) : Host.Outcome State Fault Refusal := .next (s.canPendWrite k.val v)

/-- Cancel buffer b of controller k: a launched one is removed at the end of its attempt, and another at once, though an attempt of it that runs goes
on to its end (R401). -/
def State.cancelBuf (s : State) (k b : Nat) : State :=
  if (s.buses k).any fun j => (tget? (s.canSt j).launched b).isSome then s.setCan k { s.canSt k with cancel := addTo (s.canSt k).cancel b }
  else
    let s := (s.buses k).foldl (fun s j => s.setCan j { s.canSt j with sent := (s.canSt j).sent.filter (· ≠ b) }) (s.setBit (R.CAN_TXPEND k) b false)
    s.setCan k { s.canSt k with waiting := tdel (s.canSt k).waiting b }

/-- TX_CANCEL: pending buffers are removed (R401). -/
def State.canCancel (s : State) (k : Nat) (v : Word) : State :=
  ((List.range 32).foldl (fun s b => if v.getLsbD b then s.cancelBuf k b else s) s).noteOffers k

/-- TX_CANCEL (R401). -/
def execTxCancel (k : CanNo) (_m : Master) (v : Word) (s : State) : Host.Outcome State Fault Refusal := .next (s.canCancel k.val v)

/-- TX_LAUNCH_TIME: at the converted time, on the controller's launch timer, the buffer is offered (R368, R403). -/
def State.launchTime (s : State) (k b : Nat) : State :=
  match tget? (s.canSt k).waiting b with
  | some t =>
    s.whenDue (s.cyclesToLaunch (2 + k) t) fun s => (s.setCan k { s.canSt k with waiting := tdel (s.canSt k).waiting b }).noteOffers k
  | none => s

/-- TX_LAUNCH_TIME (R403). -/
def execTxLaunchTime (k : CanNo) (b : CanBuf) (s : State) : Host.Outcome State Fault Refusal := .next (s.launchTime k.val b.val)

/-- A frame leaves its buffer, sent or dropped: the attempts made are written to the slot's control word (R402). -/
def State.txDone (s : State) (k b attempts : Nat) : State :=
  let r := s.canReg k
  let x := s.canSt k
  let s := s.setCan k { x with launched := tdel x.launched b, launchEnd := tdel x.launchEnd b, attempts := tdel x.attempts b,
                               offered := x.offered.filter (· ≠ b), cancel := x.cancel.filter (· ≠ b) }
  let s := s.setByte (s.txSlot r b + 6) (BitVec.ofNat 8 attempts)
  if s.canCommand r b then s else s.leaves k b

/-- The frame that buffer b sends: its slot, its released frame, or the slot of its substitute. -/
def State.txFrame (s : State) (r b : Nat) (t : TxKind) : List Byte :=
  match t with
  | .slot => s.rdBytes (s.txSlot r b) 0x50
  | .released => tget [] (s.canSt r).released b
  | .sub => s.rdBytes (s.txSlot r (bitsOf (s.txcfg r b) 18 14)) 0x50

/-- The frame of a slot as its own controller receives it in loopback (R393). -/
def slotFrame (l : List Byte) : CanFrame :=
  let w0 := leBytes (l.take 4)
  let w1 := leBytes ((l.drop 4).take 4)
  let rtr := decide (w0 / 2 ^ 30 % 2 = 1)
  let fd := decide (w1 / 32 % 2 = 1) && !rtr
  { ident := BitVec.ofNat 29 w0, ide := decide (w0 / 2 ^ 29 % 2 = 1), rtr := rtr, fdf := fd,
    brs := decide (w1 / 64 % 2 = 1) && fd, esi := decide (w1 / 128 % 2 = 1) && fd, dlc := BitVec.ofNat 4 w1,
    data := if rtr then [] else (l.drop 0x10).take (dlcBytes fd (w1 % 16)) }

/-- Buffer b of bus k is in transmission or may be. -/
def State.txRuns (s : State) (k b : Nat) : Option TxKind :=
  match tget? (s.canSt k).launched b with
  | some t => some t
  | none => if s.canOn k && ((s.canSt k).offered.contains b || decide (s.firstOffer k = some b)) then some .slot else none

/-- Enter sleep: pending frames are dropped, CAN_STB is active, the clock stops (R415). -/
def State.canSleepNow (s : State) (k : Nat) : State :=
  ((s.setCan k { s.canSt k with sleepDue := false }).canDropAll k).canState k 3

/-- SLEEP is set: a launched frame in progress ends first (R415). -/
def State.canSleep (s : State) (k : Nat) : State :=
  if (s.canSt k).launched = [] then s.canSleepNow k else s.setCan k { s.canSt k with sleepDue := true }

/-- The frame in progress when SLEEP was set has ended. -/
def State.endSleep (s : State) (k : Nat) : State := if (s.canSt k).sleepDue then s.canSleepNow k else s

/-- TX_END: a successful end (R402). -/
def State.txEnd (s : State) (k b : Nat) : State :=
  match s.txRuns k b with
  | none => s
  | some t =>
    let r := s.canReg k
    let l := s.txFrame r b t
    let s := s.txDone k b (tget 0 (s.canSt k).attempts b + 1)
    let s := s.canErrors k (s.f (F.CAN_ERR_TEC k) - 1) (s.f (F.CAN_ERR_REC k))
    let s := s.assertSrc (121 + 4 * k)
    let s := if s.f (F.CAN_CTRL_MODE r) = 2 then s.canAccept k (slotFrame l) else s
    ((s.endSleep k).busIdle k).noteOffers r

/-- TX_END (R402). -/
def execTxEnd (k : CanNo) (b : CanBuf) (s : State) : Host.Outcome State Fault Refusal := .next (s.txEnd k.val b.val)

/-- A frame is dropped (R402). -/
def State.txDrop (s : State) (k b attempts : Nat) : State :=
  (((s.txDone k b attempts).count (F.CAN_CNT_DROPS k)).canEvent k 2 [b]).assertSrc (121 + 4 * k)

/-- The frame of buffer b can be tried again by the end of the exclusive window in which it was launched, and one of no such window at any time
(R406). -/
def State.retryFits (s : State) (k b : Nat) (l : List Byte) : Bool :=
  match tget? (s.canSt k).launchEnd b with
  | some e => decide (s.mono * 2 + s.frameLen (s.canReg k) l * 25 * 2 ^ 32 ≤ e * 2)
  | none => true

/-- Buffer b was cancelled while its attempt ran (R401). -/
def State.cancelled (s : State) (r b : Nat) (t : TxKind) : Bool :=
  (s.canSt r).cancel.contains b || (decide (t = .slot) && !s.bit (R.CAN_TXPEND r) b)

/-- TX_ERROR: a failed attempt; the frame is tried again, in an exclusive window only when it can end by the window's end (R402, R406).  A retry of
a frame launched before ECL_IN rose is no new launch and goes on after the rise (R35; DESIGN CHOICE: assumption log 67). -/
def State.txError (s : State) (k b lec : Nat) : State :=
  match s.txRuns k b with
  | none => s
  | some t =>
    let r := s.canReg k
    let n := tget 0 (s.canSt k).attempts b + 1
    let passiveAck := decide (s.f (F.CAN_STATUS_STATE k) = 1 ∧ lec = 3)
    let s := (s.put (F.CAN_ERR_LEC k) lec).setCan k { s.canSt k with attempts := tput (s.canSt k).attempts b n }
    let s := s.setByte (s.txSlot r b + 6) (BitVec.ofNat 8 n)
    let s := s.canErrors k (s.f (F.CAN_ERR_TEC k) + (if passiveAck then 0 else 8)) (s.f (F.CAN_ERR_REC k))
    let s := if s.f (F.CAN_STATUS_STATE k) = 2 then s
      else if s.cancelled r b t then s.txDone k b n
      else if bitsOf (s.txcfg r b) 22 19 < n ∨ s.retryFits k b (s.txFrame r b t) = false then s.txDrop k b n
      else s.setCan k { s.canSt k with offered := (s.canSt k).offered.filter (· ≠ b) }
    ((s.endSleep k).busIdle k).noteOffers r

/-- TX_ERROR (R402). -/
def execTxError (k : CanNo) (b : CanBuf) (lec : CanErr) (s : State) : Host.Outcome State Fault Refusal :=
  .next (s.txError k.val b.val lec.val)

/-! ## The schedule (R404 to R411) -/

/-- Schedule, filter and buffer registers take effect at a cycle start (R417). -/
def State.canTake (s : State) (r : Nat) : State := s.takeEffect (R.CAN_TT r) (R.CAN_CTRL r + 0x1000)

/-- CYCLE_LEN of controller r, in units of 2⁻³² ns. -/
def State.cycleLen (s : State) (r : Nat) : Nat := bitsOf (s.eff (R.CAN_TTCYC r)) 31 16 * usUnits

/-- BUS at the next cycle start, one CYCLE_LEN after the start that BUS predicted, or after now where it predicted none. -/
def State.nextStart (s : State) (r : Nat) : Nat :=
  let t := (s.base (8 + r)).total
  let p := (s.canSt r).busNext
  if p ≤ t ∧ t < p + s.cycleLen r then p + s.cycleLen r else t + s.cycleLen r

/-- A cycle begins. -/
def State.beginCycle (s : State) (r cycle : Nat) (master : Bool) : State :=
  let s := s.canTake r
  let next := s.nextStart r
  let x := { s.canSt r with window := none, cycleAt := s.mono, master := master, offered := [], busNext := next }
  (s.put (F.CAN_TTSTAT_CYCLE r) cycle).setCan r x

/-- Cycles of the matrix. -/
def State.canCycles (s : State) (r : Nat) : Nat := 2 ^ min 6 (bitsOf (s.eff (R.CAN_TT r)) 28 26)

/-- The role that the controller takes at its cycle start is the master's (R404). -/
def State.mastersNow (s : State) (k : Nat) : Bool :=
  let role := s.f (F.CAN_TT_ROLE k)
  s.b (F.CAN_CTRL_EN k) && !s.dark && decide (s.f (F.CAN_STATUS_STATE k) ≠ 3) && (decide (role = 1) || (decide (role = 3) && s.owns))

/-- Cycles until the master's next cycle start: with TICKLOCK CYC_OFF µs after the Strobe, without it when BUS reaches the scheduled instant
(R407). -/
def State.cyclesToStart (s : State) (k : Nat) : Nat :=
  if s.b (F.CAN_TT_TICKLOCK k) then 500 * s.f (F.CAN_TTCYC_CYC_OFF k) - s.tick.cycles else s.cyclesTo (8 + k) (s.canSt k).busNext

/-- The reference message: a classic base frame with REF_ID and the cycle number (R405). -/
def State.refFrame (s : State) (k cycle : Nat) : CanFrame :=
  { ident := BitVec.ofNat 29 (bitsOf (s.eff (R.CAN_TT k)) 25 15), ide := false, rtr := false, fdf := false, brs := false, esi := false, dlc := 1,
    data := [BitVec.ofNat 8 (cycle % 64)] }

/-- A master's cycle begins and its reference message is launched, or waits for an idle bus (R405, R409); with TICKLOCK the cycle follows the tick
number. -/
def State.masterCycle (s : State) (k : Nat) (busBusy : Bool) : State :=
  let s := s.canTake k
  let c := if s.b (F.CAN_TT_TICKLOCK k) then s.tickNo % s.canCycles k else (s.f (F.CAN_TTSTAT_CYCLE k) + 1) % s.canCycles k
  let s := s.beginCycle k c true
  let m := s.refFrame k c
  if busBusy then (s.setCan k { s.canSt k with refPend := some m }).put (F.CAN_TTSTAT_REF_LATE k) 1
  else s.setCan k { s.canSt k with refPend := none, refOut := some m }

/-- CYCLE_START: a master's cycle starts at its scheduled instant; a controller that is no master any more follows from here on (R404, R407,
R409, R411). -/
def State.cycleStart (s : State) (k : Nat) (busBusy : Bool) : State :=
  if s.mastersNow k then s.whenDue (s.cyclesToStart k) (·.masterCycle k busBusy)
  else if (s.canSt k).master then (s.canTake k).setCan k { (s.canTake k).canSt k with master := false, window := none, offered := [] }
  else s

/-- CYCLE_START (R407). -/
def execCycleStart (k : CanNo) (busBusy : Bool) (s : State) : Host.Outcome State Fault Refusal := .next (s.cycleStart k.val busBusy)

/-- SYNC changes: an event and source 122 + 4k (R412). -/
def State.setSync (s : State) (k : Nat) (v : Bool) : State :=
  if s.b (F.CAN_TTSTAT_SYNC k) = v then s
  else (((s.putb (F.CAN_TTSTAT_SYNC k) v).canEvent k 1 [k]).assertSrc (122 + 4 * k)).canNote k

/-- The step that takes BUS to the value predicted for the start of this cycle, missed cycles counted, in units of 2⁻³² ns; without SYNC nothing was
predicted, and the step is free (R408; assumption log 72). -/
def State.busStep (s : State) (k cycle : Nat) : Int × State :=
  if s.b (F.CAN_TTSTAT_SYNC k) then
    let missed := (cycle + s.canCycles k - s.f (F.CAN_TTSTAT_CYCLE k) - 1) % s.canCycles k
    ((((s.canSt k).busNext + missed * s.cycleLen k : Nat) : Int) - (s.base (8 + k)).total, s)
  else
    let (x, s) := s.draw (2 ^ 32)
    (((x : Int) - 2 ^ 31) * 2 ^ 32, s)

/-- REFERENCE_MESSAGE: a follower takes the cycle number and steps its BUS base to the value it predicted; SYNC_ERR shows the step in ns; a frame with
another identifier than REF_ID is none (R405, R408). -/
def State.refMessage (s : State) (k cycle ident : Nat) : State :=
  let role := s.f (F.CAN_TT_ROLE k)
  if s.canOn k && (decide (role = 2) || (decide (role = 3) && !s.owns)) && decide (ident = bitsOf (s.eff (R.CAN_TT k)) 25 15) then
    let (d, s) := s.busStep k cycle
    let s := s.setBase (8 + k) ((s.base (8 + k)).shift d)
    let s := s.puti (F.CAN_TTSTAT_SYNC_ERR k) (max (-32768) (min 32767 (d.tdiv (2 ^ 32))))
    ((s.beginCycle k cycle false).setSync k true).busIdle k
  else s

/-- REFERENCE_MESSAGE (R408). -/
def execReferenceMessage (k : CanNo) (cycle : Cycle) (ident : StdId) (s : State) : Host.Outcome State Fault Refusal :=
  .next (s.refMessage k.val cycle.toNat ident.toNat)

/-- SYNC_LOSS: a follower has had no reference message within 1.5 × CYCLE_LEN of the predicted cycle start (R408). -/
def State.syncLoss (s : State) (k : Nat) : State :=
  if (s.canSt k).master || !s.b (F.CAN_TTSTAT_SYNC k) then s
  else s.whenDue (s.cyclesTo (8 + k) ((s.canSt k).busNext + s.cycleLen k * 3 / 2)) (·.setSync k false)

/-- SYNC_LOSS (R408). -/
def execSyncLoss (k : CanNo) (s : State) : Host.Outcome State Fault Refusal := .next (s.syncLoss k.val)

/-- Launch buffer b on the buses of controller r, in a window that ends at `e`. -/
def State.launch (s : State) (r b : Nat) (t : TxKind) (e : Nat) : State :=
  (s.buses r).foldl (fun s k =>
    if s.canOn k && !(decide (t = .slot) && (s.canSt k).sent.contains b) then
      s.setCan k { s.canSt k with launched := tput (s.canSt k).launched b t, launchEnd := tput (s.canSt k).launchEnd b e,
                                  attempts := tdel (s.canSt k).attempts b }
    else s) s

/-- What the buffer of an exclusive window launches: a command buffer its frame of this tick, only with ownership; another its pending
slot (R405, R410). -/
def State.exclusiveKind (s : State) (r b : Nat) : Option TxKind :=
  if bitsOf (s.txcfg r b) 31 31 = 0 ∨ s.f (F.CAN_CTRL_MODE r) = 1 ∨ s.f (F.CAN_CTRL_MODE r) = 3 then none
  else if s.canCommand r b then (if s.drives then tget? (s.canSt r).now b else none)
  else if s.bit (R.CAN_TXPEND r) b then some .slot
  else none

/-- An exclusive window launches its buffer when the frame can end by the window's end (R405, R406). -/
def State.openExclusive (s : State) (k w : Nat) : State :=
  let b := s.winBuf k w
  match s.exclusiveKind k b with
  | some t =>
    let l := s.txFrame k b t
    if s.fitsWindow k w (s.frameLen k l) && s.fdAllowed k (leBytes (l.take 4)) (leBytes ((l.drop 4).take 4)) then
      let s := s.launch k b t ((s.canSt k).cycleAt + s.winEnd k w * usUnits)
      s.setCan k { s.canSt k with now := tdel (s.canSt k).now b }
    else s
  | none => s

/-- Window w opens: attempts of the window before it have ended. -/
def State.openWindow (s : State) (k w : Nat) : State :=
  let s := (s.buses k).foldl (fun s j => s.setCan j { s.canSt j with offered := [] }) s
  let s := s.setCan k { s.canSt k with window := some w }
  (if s.winKind k w = 1 then s.openExclusive k w else s).noteOffers k

/-- WINDOW_START: START µs after the cycle start window w opens (R405). -/
def State.windowStart (s : State) (k w : Nat) : State :=
  if s.b (F.CAN_CTRL_EN k) && decide (s.canRole k ≠ 0) && s.winOn k w && s.canSynced k then
    s.whenDue (s.cyclesTo 0 ((s.canSt k).cycleAt + s.winStart k w * usUnits)) (·.openWindow k w)
  else s

/-- WINDOW_START (R405). -/
def execWindowStart (k : CanNo) (w : CanWin) (s : State) : Host.Outcome State Fault Refusal := .next (s.windowStart k.val w.val)

/-- The command frames of this Release (R31, R39, R190, R192, R410): in Run the committed set, again after a settle overrun under
SOVR_REPEAT; in Hold the last released ones; at the first Stop Release the substitute slots. -/
def State.canRelease (s : State) (overrun : Bool) : State :=
  (List.range 8).foldl (fun s k =>
    let x := s.canSt k
    let again := x.committed.map fun b => (b, TxKind.released)
    let l : List (Nat × TxKind) := match s.mode with
      | .run => if overrun && !s.b F.TICK_CTRL_SOVR_REPEAT then [] else again
      | .hold => again
      | .stop =>
        if s.out.firstStop && s.b F.PRG_CTRL_STOP_FRAMES then
          ((List.range 32).filter fun b => s.canCommand k b && decide (bitsOf (s.txcfg k b) 13 13 = 1) &&
            (tget? x.released b).isSome).map fun b => (b, TxKind.sub)
        else []
    s.setCan k { x with now := l.foldl (fun t e => tput t e.1 e.2) [] }) s

/-- At the Strobe nothing of the last tick's command frames is left to launch, and failure is judged (R413, R414). -/
def State.canStrobe (s : State) : State :=
  let s := (List.range 8).foldl (fun s k => (s.canNote k).setCan k { (s.canNote k).canSt k with now := [] }) s
  let failed := fun k => (s.canSt k).bad
  let s := (List.range 8).foldl (fun s k =>
    let twin := s.b (F.CAN_CTRL_DUP (k / 2 * 2))
    s.putb (F.CAN_STATUS_FAILED k) (if twin then failed (k / 2 * 2) && failed (k / 2 * 2 + 1) else failed k)) s
  (List.range 8).foldl (fun s k => (s.setCan k { s.canSt k with bad := false }).canNote k) s

/-! ## Errors, sleep and wake (R412, R415, R416) -/

/-- BUS_OFF_RECOVERY: 128 sequences of 11 recessive bits, automatic or since RECOVER was written (R412). -/
def State.boffRecovery (s : State) (k : Nat) : State :=
  if s.f (F.CAN_STATUS_STATE k) = 2 ∧ (s.b (F.CAN_CTRL_BOFF_AUTO (s.canReg k)) ∨ (s.canSt k).recovering) then
    let s := s.setCan k { s.canSt k with recovering := false }
    s.canErrors k 0 0
  else s

/-- BUS_OFF_RECOVERY (R412). -/
def execBusOffRecovery (k : CanNo) (s : State) : Host.Outcome State Fault Refusal := .next (s.boffRecovery k.val)

/-- CAN_STB of controller k is active (R415, R416). -/
def State.canStb (s : State) (k : Nat) : Bool := decide (s.f (F.CAN_STATUS_STATE k) = 3)

/-- A controller's own clock and schedule at enable: with TICKLOCK a master sets BUS to TICK less CYC_OFF (R407). -/
def State.canEnable (s : State) (k : Nat) : State :=
  let role := s.f (F.CAN_TT_ROLE k)
  let s := s.setCan k { s.canSt k with busNext := (s.base (8 + k)).total }
  if s.b (F.CAN_TT_TICKLOCK k) && (decide (role = 1) || decide (role = 3)) then
    let s := s.setBase (8 + k) ((s.base 3).shift (-((s.f (F.CAN_TTCYC_CYC_OFF k) * 1000 * 2 ^ 32 : Nat) : Int)))
    s.setInc (8 + k) (s.inc 3)
  else s

/-- A write of CANk_CTRL: EN 1 of a master with TICKLOCK and another cycle than T is ignored and recorded; RECOVER; SLEEP (R407, R412,
R415). -/
def State.canCtrlWrite (s : State) (m : Master) (k : Nat) (v : Word) : State :=
  let v := if k % 2 = 1 then withBits v 27 27 0 else v
  let was := s.b (F.CAN_CTRL_EN k)
  let role := s.f (F.CAN_TT_ROLE k)
  let clash := decide (bitsOf v 31 31 = 1) && !was && s.b (F.CAN_TT_TICKLOCK k) && (decide (role = 1) || decide (role = 3)) &&
    decide (s.f (F.CAN_TTCYC_CYCLE_LEN k) ≠ s.periodUs)
  if clash then s.recordWrite m (R.CAN_CTRL k) v
  else
    let asleep := s.f (F.CAN_STATUS_STATE k) = 3
    let s := s.writeReg (R.CAN_CTRL k) (withBits v 25 25 0)
    let s := if s.b (F.CAN_CTRL_EN k) && !was then s.canEnable k else s
    let s := if bitsOf v 25 25 = 1 ∧ s.f (F.CAN_STATUS_STATE k) = 2 then s.setCan k { s.canSt k with recovering := true } else s
    let s := if bitsOf v 24 24 = 1 ∧ ¬asleep then s.canSleep k else s
    s.canNote k

/-- RECOVER (R412). -/
def execRecover (k : CanNo) (m : Master) (v : Word) (s : State) : Host.Outcome State Fault Refusal :=
  .next (s.canCtrlWrite m k.val (withBits v 25 25 1))

/-- CAN_SLEEP (R415). -/
def execCanSleep (k : CanNo) (m : Master) (v : Word) (s : State) : Host.Outcome State Fault Refusal :=
  .next (s.canCtrlWrite m k.val (withBits v 24 24 1))

/-- A frame wake is in force: at no more than 500 kbit/s (R415). -/
def State.frameWake (s : State) (k : Nat) : Bool := decide (s.f (F.CAN_WAKE_WMODE k) = 1 ∧ 160 ≤ s.nomBit (s.canReg k))

/-- A frame is controller k's wake frame: a classic data frame of its format and DLC that matches under the masks (R415). -/
def State.isWakeFrame (s : State) (k : Nat) (f : CanFrame) : Bool :=
  let n := min 8 (s.f (F.CAN_WAKE_DLC k))
  let data := fun lo hi => (bytesLE 4 (s.f lo) ++ bytesLE 4 (s.f hi)).take n
  !f.fdf && !f.rtr && decide (b2n f.ide = s.f (F.CAN_WAKE_IDE k) ∧ f.dlc.toNat = s.f (F.CAN_WAKE_DLC k)) &&
  decide ((f.ident.toNat ^^^ s.f (F.CAN_WAKE_ID_ID k)) &&& s.f (F.CAN_WAKE_IDM_ID k) = 0) &&
  (List.zip ((f.data ++ List.replicate 8 0).take n) (List.zip (data (F.CAN_WAKE_DLO_D k) (F.CAN_WAKE_DHI_D k)) (data (F.CAN_WAKE_DMLO_D k) (F.CAN_WAKE_DMHI_D k)))).all
    fun (x, d, m) => decide ((x ^^^ d) &&& m = 0)

/-- The wake decoder of a sleeping controller wakes on what it sees (R415). -/
def State.wakesOn (s : State) (k : Nat) (x : WakeSign) : Bool :=
  match x with
  | .dominant n => !s.frameWake k && decide (max 1 (s.f (F.CAN_WAKE_FILT k)) ≤ n.toNat)
  | .frame f => s.frameWake k && s.isWakeFrame k f

/-- CAN_WAKE: SLEEP clears, source 123 + 4k enters through its always-on latch, and 11 recessive bits pass before the controller takes part in
traffic (R416). -/
def State.canWake (s : State) (k : Nat) (x : WakeSign) : State :=
  if s.f (F.CAN_STATUS_STATE k) = 3 ∧ s.wakesOn k x then
    let s := (s.put (F.CAN_CTRL_SLEEP k) 0).setSync k false
    let s := s.setCan k { s.canSt k with joinAt := s.mono + 11 * s.nomBit (s.canReg k) * 25 * 2 ^ 31 }
    let s := s.canState k (if 127 < s.f (F.CAN_ERR_TEC k) ∨ 127 < s.f (F.CAN_ERR_REC k) then 1 else 0)
    (s.canEvent k 5 [k]).aonLatch (123 + 4 * k)
  else s

/-- CAN_WAKE (R415, R416). -/
def execCanWake (k : CanNo) (s : State) (x : WakeSign := .dominant 0) : Host.Outcome State Fault Refusal := .next (s.canWake k.val x)

/-- A schedule, filter or buffer register written in Run waits for the next cycle start of a controller that runs cycles (R417). -/
def State.canLaterWrite (s : State) (k a : Nat) (v : Word) : State :=
  if s.mode = .run ∧ s.b (F.CAN_CTRL_EN k) ∧ s.canRole k ≠ 0 then s.setLater a (s.plain a v) else s.writeReg a v

/-- Writes of the bit timing take effect only while EN is 0 (R392). -/
def State.canTimingWrite (s : State) (m : Master) (k a : Nat) (v : Word) : State :=
  if s.b (F.CAN_CTRL_EN k) then s.recordWrite m a v else s.writeReg a v

end Sys2Proof.Machine
end

