-- ==== Sys2Proof/Machine/Filters.lean ====
section
/-!
DEFINITION. Machine/Filters.lean: the analogue chains and Glint rank filters (R93 to R107, R120), and the capture of samples by Prism
(R49 to R56).
-/
namespace Sys2Proof.Machine

/-! ## Rank filters (R102 to R104) -/

/-- Put x into a list kept in ascending order. -/
def insertBy {α : Type} (lt : α → α → Bool) (x : α) : List α → List α
  | [] => [x]
  | y :: l => if lt x y then x :: y :: l else y :: insertBy lt x l

def sortBy {α : Type} (lt : α → α → Bool) : List α → List α
  | [] => []
  | x :: l => insertBy lt x (sortBy lt l)

/-- A window setting W: below 3 acts as 3, an even value as one less. -/
def glintW (w : Nat) : Nat := if w < 3 then 3 else if w % 2 = 0 then w - 1 else w

/-- A rank setting K: 0xF or W or more selects the median. -/
def glintK (w k : Nat) : Nat := if k = 15 ∨ w ≤ k then (w - 1) / 2 else k

/-- The samples a filter of width w uses from a window, newest first (R103). -/
def glintUsed {α : Type} (w : Nat) (l : List α) : List α :=
  let m := min l.length w
  l.take (if m % 2 = 1 then m else m - 1)

/-- The output of the filter: the sample of the scaled rank among those used, and the centre one (R102, R103). -/
def glintOut {α : Type} (lt : α → α → Bool) (w k : Nat) (l : List α) : Option (α × α) :=
  let u := glintUsed w l
  let r := (2 * k * (u.length - 1) + (w - 1) - 1) / (2 * (w - 1))
  match (sortBy lt u)[r]?, u[(u.length - 1) / 2]? with
  | some x, some c => some (x, c)
  | _, _ => none

/-- Note a spike of a filter (key n for input n, 32 + u for unit u) and show the count of the last 100 ticks (R104). -/
def State.spiked (s : State) (key : Nat) (x : Fld) (now : Bool) : State :=
  let l := (tget [] s.prism.spikes key).filter fun t => decide (s.tickNo < t + 100)
  let l := if now then s.tickNo :: l else l
  ({ s with prism := { s.prism with spikes := tset [] s.prism.spikes key l } }).put x (min 255 l.length)

/-- Spikes of a filter in the last 100 ticks. -/
def State.spikeCount (s : State) (key : Nat) : Nat :=
  ((tget [] s.prism.spikes key).filter fun t => decide (s.tickNo < t + 100)).length

/-- At the Strobe the counts of the last 100 ticks lose the tick that has left them (R104). -/
def State.ageSpikes (s : State) : State :=
  s.prism.spikes.foldl (fun s e =>
    s.put (if e.1 < 32 then F.FILT_STAT_SPIKES e.1 else F.FILT_DSTAT_SPIKES (e.1 - 32)) (min 255 (s.spikeCount e.1))) s

/-! ## Analogue chains (R95 to R100) -/

/-- CIC samples in a tick (R94). -/
def State.cicPerTick (s : State) : Nat := 96 * s.periodMs

/-- Twice the CIC samples of the Glint delay of the Strobe sample (R98). -/
def glintDelay2 (S N w : Nat) : Nat :=
  let k := (w - 1) / 2
  let per := if S ≤ N then [S] else (if S % N = 0 then [] else [S % N]) ++ List.replicate (S / N) N
  2 * ((List.range k).map fun i => per.getD (i % max 1 per.length) S).foldl (· + ·) 0

/-- FILT_GDn for a chain's settings, in units of 10 ns, rounded to nearest (R98). -/
def groupDelay (S : Nat) (ch gl : Word) : Nat :=
  let n := bitsOf ch 12 0
  let fir := if n ≤ 1 then 0 else if bitsOf ch 30 30 = 1 then 5 * n else 16 * n
  let g := if bitsOf gl 31 31 = 1 then glintDelay2 S n (glintW (bitsOf gl 30 27)) else 0
  (2 * (315 + 64 * (fir + g)) * 3125 + 384) / 768

/-- FILT_WARM shows the inputs that fill or warm. -/
def State.showWarm (s : State) (i : Nat) : State :=
  s.setBit R.FILT_WARM i (s.b (F.FILT_STAT_FILLING i) || s.b (F.FILT_STAT_WARMING i))

/-- The settings of input i written last take effect and its chain restarts (R100). -/
def State.restartChain (s : State) (i : Nat) : State :=
  let was := decide (bitsOf (s.eff (R.FILT_CH i)) 31 31 = 1)
  let s := s.takeEffect (R.FILT_CH i) (R.FILT_CH i + 8)
  let s := { s with prism := { s.prism with glint := tdel s.prism.glint i, restart := s.prism.restart.filter (· ≠ i) } }
  let s := s.put (F.FILT_GD_GD i) (groupDelay s.cicPerTick (s.reg (R.FILT_CH i)) (s.reg (R.FILT_GL i)))
  let s := s.putb (F.FILT_STAT_WARMING i) (s.b (F.FILT_CH_EN i) && s.b (F.FILT_GL_EN i))
  if s.b (F.FILT_CH_EN i) then
    let s := if was then s else { s with prism := { s.prism with silent := addTo s.prism.silent i } }
    (((s.put (F.FILT_STAT_FILLING i) 1).put (F.FILT_STAT_RSTRT i) 1).event 0x0501 [i]).showWarm i
  else (s.put (F.FILT_STAT_FILLING i) 0).showWarm i

/-- FILT_GDn of every chain that has a setting in force, for the tick period in force (R98): a new period changes S. -/
def State.showDelays (s : State) : State :=
  (List.range 24).foldl (fun s i =>
    if s.f (F.FILT_GD_GD i) = 0 then s
    else s.put (F.FILT_GD_GD i) (groupDelay s.cicPerTick (s.eff (R.FILT_CH i)) (s.eff (R.FILT_GL i)))) s

/-- Chain i runs under the settings in force. -/
def State.chainOn (s : State) (i : Nat) : Bool := bitsOf (s.eff (R.FILT_CH i)) 31 31 = 1

/-- At the Strobe, changed chains that deliver a Strobe sample restart after it, and the others at once (R100). -/
def State.strobeChains (s : State) : State :=
  (List.range 24).foldl (fun s i =>
    if (tget? s.inForce (R.FILT_CH i)).isSome || (tget? s.inForce (R.FILT_GL i)).isSome then
      if s.chainOn i && !s.b (F.FILT_STAT_FILLING i) then
        { s with prism := { s.prism with restart := addTo s.prism.restart i } }
      else s.restartChain i
    else s) s

/-- An output after its Glint filter: the value, and whether the window is not full (R102 to R104). -/
def State.chainGlint (s : State) (i : Nat) (code : Int) : Int × Bool × State :=
  let g := s.eff (R.FILT_GL i)
  if bitsOf g 31 31 = 1 then
    let w := glintW (bitsOf g 30 27)
    let l := (code :: tget [] s.prism.glint i).take w
    let s := { s with prism := { s.prism with glint := tset [] s.prism.glint i l } }
    let warm := decide (l.length < w)
    match glintOut (fun a b : Int => decide (a < b)) w (glintK w (bitsOf g 26 23)) l with
    | some (x, c) =>
      let s := s.spiked i (F.FILT_STAT_SPIKES i) (decide ((bitsOf g 22 0 : Int) < (x - c).natAbs))
      (x, warm, (s.putb (F.FILT_STAT_WARMING i) warm).showWarm i)
    | none => (code, warm, s)
  else (code, false, s)

/-! ## Streams (R47 to R56) -/

/-- Stream n's configuration word in force. -/
def State.scfg (s : State) (n : Nat) : Word := s.eff (R.PRISM_SCFG n)

def scfgEn (w : Word) : Bool := bitsOf w 31 31 = 1
def scfgKind (w : Word) : Nat := bitsOf w 25 22
def scfgSrc (w : Word) : Nat := bitsOf w 15 8

def State.stream (s : State) (n : Nat) : StreamSt := tget {} s.prism.streams n

def State.setStream (s : State) (n : Nat) (x : StreamSt) : State :=
  { s with prism := { s.prism with streams := tset {} s.prism.streams n x } }

/-- Units of 2⁻³² ns in the tick period. -/
def State.periodUnits (s : State) : Nat := s.periodMs * 1000000 * 2 ^ 32

/-- A little-endian field of a source-table entry. -/
def entryField (e : List Byte) (off k : Nat) : Nat := leBytes ((e.drop off).take k)

/-- The source-table entry a stream names, when its kind agrees (R205). -/
def State.srcEntry (s : State) (n : Nat) : Option (List Byte) :=
  let w := s.scfg n
  match s.site.sources[scfgSrc w]? with
  | some e => if entryField e 0 1 = scfgKind w then some e else none
  | none => none

/-- The receive source whose delivery stamps a stream's samples (R51, R344). -/
def State.stampSource (s : State) (n : Nat) : Option Nat :=
  match s.srcEntry n with
  | some e =>
    let unit := entryField e 1 1
    match scfgKind (s.scfg n) with
    | 2 => some (164 + unit)
    | 3 => some 154
    | 4 => some 160
    | 5 => some (120 + 4 * unit)
    | _ => none
  | none => none

/-- A stream can become valid: its KIND is not reserved, its source exists, and its chain is fitted (R48, R205). -/
def State.streamExists (s : State) (n : Nat) : Bool :=
  let w := s.scfg n
  let k := scfgKind w
  scfgEn w &&
    (if k ≤ 1 then true
     else if k ≤ 5 then (s.srcEntry n).isSome
     else if k = 6 then (scfgSrc w = 0 || (scfgSrc w = 1 && s.variant.gnss2))
     else k = 7 && s.variant.gnss2)

/-- The tick of the latest Strobe at or before instant m (R50). -/
def State.tickAtOrBefore (s : State) (m : Nat) : Nat :=
  let d : Int := (m : Int) - s.tick.strobeMono
  ((s.tickNo : Int) + d / (s.periodUnits : Int)).toNat

/-- The tick of the Strobe nearest to instant m, the earlier one when halfway (R52). -/
def State.nearestTick (s : State) (m : Nat) : Nat :=
  let p : Int := s.periodUnits
  let d : Int := (m : Int) - s.tick.strobeMono
  ((s.tickNo : Int) + (2 * d + p - 1) / (2 * p)).toNat

/-- Stream n is triggered: TIMING 0b00. -/
def State.triggered (s : State) (n : Nat) : Bool := bitsOf (s.scfg n) 30 29 = 0

/-- The tick a sample with measurement instant m belongs to (R50, R52). -/
def State.assign (s : State) (n m : Nat) : Nat :=
  if s.triggered n then
    let k := scfgKind (s.scfg n)
    if k ≤ 1 ∨ 6 ≤ k then s.tickNo else s.tickAtOrBefore m
  else s.nearestTick m

/-- Units of 2⁻³² ns in the declared delay and period of a stream. -/
def State.delayUnits (s : State) (n : Nat) : Nat := s.f (F.PRISM_STIME_DELAY n) * 10000 * 2 ^ 32
def State.cadenceUnits (s : State) (n : Nat) : Nat := s.f (F.PRISM_STIME_PERIOD n) * 100000 * 2 ^ 32

/-- The measurement instant of a sample of KIND 0, 1, 6 or 7, produced at the Strobe: the Strobe's MONO, less D where the stream is not
triggered.  R51 names no arrival stamp for such a source: that the Strobe's MONO stands for it is a DESIGN CHOICE (assumption log 59). -/
def State.strobeInstant (s : State) (n : Nat) : Nat := s.tick.strobeMono - (if s.triggered n then 0 else s.delayUnits n)

/-- The measurement instant of a sample: its arrival stamp less D, or its time field converted from TAI to MONO (R50, R52). -/
def State.instant (s : State) (n stamp : Nat) (time : Option Nat) : Nat :=
  match bitsOf (s.scfg n) 30 29, time with
  | 2, some t => if s.tai = .free then stamp - s.delayUnits n else (t + s.mono) - (s.base 1).total
  | _, _ => stamp - s.delayUnits n

/-- Round half away from zero. -/
def roundHalfAway (a b : Int) : Int := if a < 0 then -((-2 * a + b) / (2 * b)) else (2 * a + b) / (2 * b)

/-- Skew tracking of a captured sample (R54): the skew, whether it slipped, and the cadence after it. -/
def State.track (s : State) (n m : Nat) : Int × Bool × Option (Nat × Nat × Int) :=
  let p : Int := s.cadenceUnits n
  match (s.stream n).cadence with
  | none => (0, false, some (m, m, 0))
  | some (m0, mp, j) =>
    let j' := j + roundHalfAway ((m : Int) - mp) p
    let skew := (m : Int) - (m0 + j' * p)
    if (s.periodUnits : Int) < skew.natAbs then (0, true, some (m, m, 0)) else (skew, false, some (m0, m, j'))

/-- SLIPS of the last 100 ticks. -/
def State.slipCount (s : State) (n : Nat) : Nat := ((s.stream n).slips.filter fun t => decide (s.tickNo < t + 100)).length

/-- A slip: its bit, its count, an event and the slip interrupt (R55). -/
def State.slip (s : State) (n : Nat) : State :=
  let x := s.stream n
  let s := s.setStream n { x with slips := s.tickNo :: x.slips.filter fun t => decide (s.tickNo < t + 100), lastSlip := s.tickNo }
  let s := (s.setBit R.PRISM_SLIPPED n true).put (F.PRISM_SSTAT_SLIPS n) (min 255 (s.slipCount n))
  (s.event 0x0404 [n]).assertSrc 19

/-- The enabled digital unit that filters stream n: the lowest-numbered that names it (R105). -/
def State.unitOf (s : State) (n : Nat) : Option Nat :=
  let k := scfgKind (s.scfg n)
  if 2 ≤ k ∧ k ≤ 5 then
    (List.range 24).find? fun u => s.b (F.FILT_DGL_EN u) && decide (s.f (F.FILT_DGL_STREAM u) = n)
  else none

/-- CONFLICT, KINDERR and WARMING of every digital unit (R105, R120). -/
def State.judgeUnits (s : State) : State :=
  (List.range 24).foldl (fun s u =>
    let n := s.f (F.FILT_DGL_STREAM u)
    let s := s.putb (F.FILT_DSTAT_WARMING u)
      (s.unitOf n = some u && decide ((s.stream n).raw.length < glintW (s.f (F.FILT_DGL_W u))))
    if s.b (F.FILT_DGL_EN u) then
      let n := s.f (F.FILT_DGL_STREAM u)
      let k := scfgKind (s.scfg n)
      if 24 ≤ n ∨ k < 2 ∨ 5 < k then s.put (F.FILT_DSTAT_KINDERR u) 1
      else if s.unitOf n ≠ some u then s.put (F.FILT_DSTAT_CONFLICT u) 1
      else s
    else s) s

/-- A sample after its digital Glint unit: value, instant of the centre sample and warming mark (R105, R106).  The window of unfiltered samples
stands with the stream: a unit that is switched off, moved or replaced leaves it as it is, and the unit that filters the stream next goes on
with it.  The spec says nothing of it: DESIGN CHOICE (assumption log 59). -/
def State.unitGlint (s : State) (n : Nat) (x : Samp) : Samp × State :=
  match s.unitOf n with
  | none => (x, s)
  | some u =>
    let w := glintW (s.f (F.FILT_DGL_W u))
    let st := s.stream n
    let l := (x :: st.raw).take w
    let s := s.setStream n { st with raw := l }
    let warm := decide (l.length < w)
    match glintOut (fun a b : Samp => dLt a.value b.value) w (glintK w (s.f (F.FILT_DGL_RANK u))) l with
    | none => (x, s)
    | some (y, c) =>
      let diff := dAbs (dSub y.value c.value)
      let s := s.spiked (32 + u) (F.FILT_DSTAT_SPIKES u) (dLt (widen (s.reg (R.FILT_DTHR u)).toNat) diff)
      ({ x with value := y.value, m := c.m, warm := warm }, s.putb (F.FILT_DSTAT_WARMING u) warm)

/-- The encoder table header of stream n: its address in weight SRAM. -/
def State.tableAt (s : State) (n : Nat) : Option Nat := tget? s.prism.tables n

/-- The range and rate signs of a captured sample against the one before it (R73). -/
def State.sampleSign (s : State) (n : Nat) (x : Samp) : Bool :=
  match s.tableAt n with
  | none => false
  | some a =>
    let lo := widen (s.rd (a + 0x20) 4)
    let hi := widen (s.rd (a + 0x24) 4)
    let rate := widen (s.rd (a + 0x28) 4)
    dLt x.value lo || dLt hi x.value ||
    (match (s.stream n).window.head? with
     | some p =>
       let dt := dDiv (dOfInt ((x.m : Int) - p.m)) (dOfInt nsPerSec)
       dLt rate (dDiv (dAbs (dSub x.value p.value)) (dAbs dt))
     | none => false)

/-- The window of stream n in grid SRAM, one entry of 64 bytes a sample (R89; assumption log 60). -/
def windowAt (n : Nat) : Nat := 0x208E0000 + 0x1000 * n

/-- A sample as its 64 bytes of a stream window in grid SRAM; R89 places the windows and gives no layout (assumption log 60). -/
def sampBytes (x : Samp) : List Byte :=
  bytesLE 8 x.value ++ bytesLE 8 x.second ++ bytesLE 8 (x.quality.getD 0) ++ bytesLE 16 x.m ++ bytesLE 8 x.tick ++
    bytesLE 8 (unsignedOf 64 (x.skew / (1000 * 2 ^ 32))) ++ bytesLE 8 (b2n x.warm + 2 * b2n x.quality.isSome)

/-- Capture a sample in this tick: Glint filter, assignment, skew and window, which is written to its area of grid SRAM (R49, R53, R54, R89).  A
window that a new WIN has made too long is cut with the next capture, and is read whole until then: DESIGN CHOICE (assumption log 68). -/
def State.captureSamp (s : State) (n : Nat) (x : Samp) : State :=
  let (x, s) := s.unitGlint n x
  let x := { x with tick := min s.tickNo (s.assign n x.m) }
  let follows := !s.triggered n && decide (s.cadenceUnits n ≠ 0)
  let (skew, slipped, cad) := if follows then s.track n x.m else (0, false, (s.stream n).cadence)
  let x := { x with skew := skew }
  let bad := s.sampleSign n x
  let st := s.stream n
  let win := bitsOf (s.scfg n) 21 16
  let w := (x :: st.window).take (if win = 0 then 64 else win)
  let s := (s.wrBytes (windowAt n) (w.map sampBytes).flatten).setStream n { st with
    window := w, cadence := cad, lastCap := s.tickNo, stale := false,
    badSample := st.badSample || bad }
  let s := s.put (F.PRISM_SSTAT_AGE n) (min 255 (s.tickNo - x.tick))
  if slipped then s.slip n else s

/-- A sample reaches Prism's input buffer: captured in this tick before the cut-off when its tick has come, else it waits (R53). -/
def State.sample (s : State) (n : Nat) (x : Samp) : State :=
  if s.streamExists n then
    if s.prism.capturing ∧ x.tick ≤ s.tickNo then s.captureSamp n x
    else
      let st := s.stream n
      s.setStream n { st with waiting := st.waiting ++ [x] }
  else s

/-- At the Strobe the samples that waited and whose tick has come are captured. -/
def State.captureWaiting (s : State) : State :=
  (List.range 24).foldl (fun s n =>
    let st := s.stream n
    let ready := st.waiting.filter fun x => decide (x.tick ≤ s.tickNo)
    if ready = [] then s
    else ready.foldl (·.captureSamp n ·) (s.setStream n { st with waiting := st.waiting.filter fun x => decide (s.tickNo < x.tick) })) s

/-- A raw field of a source-table value type as an FP64 number (R205): 0 FP64, 1 FP32, 2 INT32, 3 INT16. -/
def valueOf (ty raw : Nat) : Nat :=
  match ty with
  | 0 => raw
  | 1 => widen (raw % 2 ^ 32)
  | 2 => dOfInt (signedOf 32 raw)
  | 3 => dOfInt (signedOf 16 raw)
  | _ => Config.rawValue ty raw

/-- The area that the offsets of a source-table entry count in (R205): the source area of its port or listen entry, where the sentence there has the
entry's format, the input area of its station, or the message RAM of its controller. -/
def State.fieldArea (s : State) (e : List Byte) : Option Nat :=
  let u := entryField e 1 1
  let sentence := fun a => if s.rd (a + 4) 4 = entryField e 4 2 then some a else none
  match entryField e 0 1 with
  | 2 => if u < 28 then sentence (s.serArea u) else none
  | 3 => if u < 32 then sentence (s.listenArea u) else none
  | 4 => (s.grzEntry (entryField e 2 2)).map s.grzIn
  | _ => if u < 8 then some (s.canRam (s.canReg u)) else none

/-- The bytes of a value type. -/
def valueSize (ty : Nat) : Nat := match ty with | 0 => 8 | 3 => 2 | _ => 4

/-- The primary and second values of a sample (R205): for a stream with a source-table entry the fields at its offsets by its value type, 0 where
it has no second value; none where the area holds no such sample.  A stream of KIND 0x0, 0x1, 0x6 or 0x7 takes what its source delivers.  The
scales belong to the fall-back's decoding (assumption log 59). -/
def State.sampleValues (s : State) (n : Nat) (x : Sample) : Option (Nat × Nat) :=
  match s.srcEntry n with
  | some e =>
    let ty := entryField e 0x0E 1
    (s.fieldArea e).map fun a =>
      let at' := fun o => valueOf ty (s.rd (a + o) (valueSize ty))
      (at' (entryField e 6 2), if entryField e 8 2 = 0xFFFF then 0 else at' (entryField e 8 2))
  | none => some (x.value.toNat, x.second.toNat)

/-- A field that the stream's source-table entry places at offset `o`: the entry says 0xFFFF where the sample has none (R205). -/
def State.fieldAt {α : Type} (s : State) (n o : Nat) (x : Option α) : Option α :=
  match s.srcEntry n with
  | some e => if entryField e o 2 = 0xFFFF then none else x
  | none => x

/-- SAMPLE_ARRIVAL (R51 to R54): the stamp is that of the delivery of the source's receive interrupt, and MONO now for a source without
one. -/
def State.sampleArrival (s : State) (n : Nat) (x : Sample) : State :=
  let stamp := match s.stampSource n with
    | some k => (tget (s.base 0, s.base 1) s.irq.stamp k).1.total
    | none => s.mono
  let m := s.instant n stamp (s.fieldAt n 0x0C x.time)
  match s.sampleValues n x with
  | some (a, b) =>
    s.sample n { value := a, second := b, quality := (s.fieldAt n 0x0A x.quality).map (·.toNat), m := m, tick := s.assign n m }
  | none => s

/-- SAMPLE_ARRIVAL (R53). -/
def execSampleArrival (n : Stream) (x : Sample) (s : State) : Host.Outcome State Fault Refusal := .next (s.sampleArrival n.val x)

/-! ## FILTER_OUTPUT (R95, R96, R99) -/

/-- The enabled streams that input i feeds: KIND 0x0 on i, KIND 0x1 on i as its first or second input (R48). -/
def State.fedBy (s : State) (i : Nat) : List Nat :=
  (List.range 24).filter fun n =>
    let w := s.scfg n
    scfgEn w && ((scfgKind w = 0 && scfgSrc w = i) || (scfgKind w = 1 && (scfgSrc w = i || scfgSrc w + 1 = i)))

/-- Stream n takes the Strobe's outputs of its inputs once all of them are there (R48, R50). -/
def State.strobeSample (s : State) (n : Nat) : State :=
  let src := scfgSrc (s.scfg n)
  let m := s.strobeInstant n
  let one := decide (scfgKind (s.scfg n) = 0)
  match tget? s.prism.strobeOut src, tget? s.prism.strobeOut (if one then src else src + 1) with
  | some (a, wa), some (b, wb) =>
    s.sample n { value := dOfInt a, second := if one then 0 else dOfInt b, quality := none, m := m, tick := s.assign n m, warm := wa || wb }
  | _, _ => s

/-- An output of input i (R95): clamped on overload (R99), Glint-filtered, written to FILT_OUT, and at the Strobe captured by Prism, before a
changed chain restarts (R100). -/
def State.filterOutput (s : State) (i : Nat) (code : Int) (clip strobe : Bool) : State :=
  if s.chainOn i && !s.b (F.FILT_STAT_FILLING i) then
    let code := if clip then (if code < 0 then -8388607 else 8388607) else code
    let s := if clip then ((s.put (F.FILT_STAT_OVLD i) 1).setBit R.FILT_OVLD i true).event 0x0500 [i] else s
    let (y, warm, s) := s.chainGlint i code
    let s := s.puti (F.FILT_OUT_OUT i) y
    let s := { s with prism := { s.prism with silent := s.prism.silent.filter (· ≠ i) } }
    if strobe then
      let s := { s with prism := { s.prism with strobeOut := tput s.prism.strobeOut i (y, warm) } }
      let s := (s.fedBy i).foldl (·.strobeSample ·) s
      if s.prism.restart.contains i then s.restartChain i else s
    else s
  else s

/-- FILTER_OUTPUT (R95). -/
def execFilterOutput (i : Stream) (code : Code24) (overload strobe : Bool) (s : State) : Host.Outcome State Fault Refusal :=
  .next (s.filterOutput i.val code.toInt overload strobe)

/-- FILLING_END: 16N + 1 CIC samples have entered the FIR (R100). -/
def execFillingEnd (i : Stream) (s : State) : Host.Outcome State Fault Refusal :=
  .next ((s.put (F.FILT_STAT_FILLING i.val) 0).showWarm i.val)

/-- WARMING_END: the Glint window is full (R103). -/
def execWarmingEnd (i : Stream) (s : State) : Host.Outcome State Fault Refusal :=
  .next ((s.put (F.FILT_STAT_WARMING i.val) 0).showWarm i.val)

/-! ## Staleness and slips (R55, R56) -/

/-- The staleness limit in ticks (R56). -/
def State.staleLimit (s : State) (n : Nat) : Nat :=
  let l := bitsOf (s.scfg n) 7 0
  let p := s.f (F.PRISM_STIME_PERIOD n)
  if l ≠ 0 then l
  else if s.triggered n then 2
  else if p ≠ 0 then (p * 100 + s.periodUs - 1) / s.periodUs + 2
  else 100

/-- STREAM_STALE: no new sample has been captured for the limit (R56). -/
def State.goStale (s : State) (n : Nat) : State :=
  let x := s.stream n
  if x.lastCap + s.staleLimit n ≤ s.tickNo then s.setStream n { x with stale := true } else s

/-- STREAM_STALE (R56). -/
def execStreamStale (n : Stream) (s : State) : Host.Outcome State Fault Refusal := .next (s.goStale n.val)

/-- SLIP_MASK: three slips in the last 100 ticks (R55).  A reference shows in PRISM_MASKED at once; an environmental stream carries the slip
sign, and its masking follows from that (R73, R74). -/
def State.slipMasked (s : State) (n : Nat) : State :=
  if 3 ≤ s.slipCount n then
    let s := s.setStream n { s.stream n with slipMask := true }
    if n < 12 then s.setBit R.PRISM_MASKED n true else s
  else s

/-- SLIP_MASK (R55). -/
def execSlipMask (n : Stream) (s : State) : Host.Outcome State Fault Refusal := .next (s.slipMasked n.val)

/-- SLIP_MASK_LIFT: 100 consecutive ticks without a slip (R55).  A masked environmental stream stays masked until UNMASK. -/
def State.slipLift (s : State) (n : Nat) : State :=
  let x := s.stream n
  if x.slipMask ∧ x.lastSlip + 100 ≤ s.tickNo then
    let s := s.setStream n { x with slipMask := false }
    if n < 12 then s.setBit R.PRISM_MASKED n false else s
  else s

/-- SLIP_MASK_LIFT (R55). -/
def execSlipMaskLift (n : Stream) (s : State) : Host.Outcome State Fault Refusal := .next (s.slipLift n.val)

end Sys2Proof.Machine
end

