-- ==== Sys2Proof/Machine/Image.lean ====
section
/-!
DEFINITION. Machine/Image.lean: the layout of a configuration image in its slot and in a program bank (R201, R204): header, section
directory, zero-run data and register settings.
-/
namespace Sys2Proof.Machine

/-- Where slot k starts in MRAM, and the size of a slot (R201). -/
def slotBase (k : Nat) : Nat := 0x83000000 + 0x400000 * k
def slotSize : Nat := 0x400000

/-- An entry of the section directory (R204). -/
structure Sect where
  kind : Nat
  packing : Nat
  stream : Nat
  off : Nat
  psize : Nat
  usize : Nat
  crc : Nat
deriving DecidableEq, Repr

/-- Entry i of the section directory of the header that starts at address `h`. -/
def State.sect (s : State) (h i : Nat) : Sect :=
  let a := h + 0x40 + 32 * i
  { kind := s.rd a 1, packing := s.rd (a + 1) 1, stream := s.rd (a + 2) 2, off := s.rd (a + 4) 4, psize := s.rd (a + 8) 4,
    usize := s.rd (a + 12) 4, crc := s.rd (a + 16) 4 }

/-- The sections that a header names, in directory order. -/
def State.sects (s : State) (h : Nat) : List Sect := (List.range (min 32 (s.rd (h + 0x24) 2))).map (s.sect h)

/-- Unpack zero-run data to at most `room` bytes: a u16 count of zeros, a u16 count of literal bytes, the literal bytes.  None where the data
write past their unpacked size or end before it (R204). -/
def unzero : Nat → List Byte → Nat → Option (List Byte)
  | 0, _, _ => none
  | fuel + 1, l, room =>
    if l = [] then (if room = 0 then some [] else none)
    else if l.length < 4 then none
    else
      let z := leBytes (l.take 2)
      let n := leBytes ((l.drop 2).take 2)
      if room < z + n ∨ l.length < 4 + n then none
      else match unzero fuel (l.drop (4 + n)) (room - z - n) with
        | some r => some (List.replicate z 0 ++ (l.drop 4).take n ++ r)
        | none => none

/-- The unpacked data of a section of the slot at `h`; none where they are malformed. -/
def State.unpack (s : State) (h : Nat) (x : Sect) : Option (List Byte) :=
  let l := s.rdBytes (h + x.off) x.psize
  if x.packing = 1 then unzero (x.psize + 1) l x.usize
  else if x.psize = x.usize then some l else none

/-- The (address, value) pairs of register settings. -/
def settingPairs : Nat → List Byte → List (Nat × Nat)
  | 0, _ => []
  | n + 1, l => (leBytes (l.take 4), leBytes ((l.drop 4).take 4)) :: settingPairs n (l.drop 8)

/-- Every register setting of the slot at `h`, in order. -/
def State.settings (s : State) (h : Nat) : List (Nat × Nat) :=
  ((s.sects h).map fun x =>
    if x.kind = 2 then (match s.unpack h x with | some l => settingPairs (l.length / 8) l | none => []) else []).flatten

/-- Sections that a load places in a program bank behind its header, one after another: program content, then at the next multiple of 16 the
migration tables (assumption log 9).  Each answer is the section and its bank offset. -/
def placeSects : Nat → List Sect → List (Sect × Nat)
  | _, [] => []
  | o, x :: l =>
    if x.kind = 0 then (x, o) :: placeSects (o + x.usize) l else placeSects o l

def placeTables : Nat → List Sect → List (Sect × Nat)
  | _, [] => []
  | o, x :: l =>
    if x.kind = 3 ∨ x.kind = 4 then (x, (o + 15) / 16 * 16) :: placeTables ((o + 15) / 16 * 16 + x.usize) l else placeTables o l

/-- Where each placed section of a directory stands in its bank. -/
def placed (l : List Sect) : List (Sect × Nat) :=
  let p := placeSects 0x1000 l
  p ++ placeTables (0x1000 + ((p.map fun e => e.1.usize).foldl (· + ·) 0)) l

/-- The bank address of the migration table (kind 3) or the reverse one (kind 4) of the image in a bank. -/
def State.migrationTable (s : State) (bank kind : Nat) : Option Nat :=
  ((placed (s.sects bank)).find? fun e => e.1.kind = kind).map fun e => bank + e.2

/-- Copy the header and the placed sections of the slot at `h` into the bank, which holds nothing else afterwards (R204, R206; assumption
log 33). -/
def State.fillBank (s : State) (h bank : Nat) : State :=
  let s := { s with mem := s.mem.filter fun e => decide (e.1 < bank) || decide (bank + 0x400000 ≤ e.1) }
  let s := (s.mem.filterMap fun e => if h ≤ e.1 ∧ e.1 < h + 0x1000 then some (bank + (e.1 - h), e.2) else none).foldl
    (fun (s : State) (e : Nat × Byte) => s.setByte e.1 e.2) s
  (placed (s.sects h)).foldl (fun s e =>
    match s.unpack h e.1 with
    | some l => s.wrBytes (bank + e.2) (l.take (0x400000 - e.2))
    | none => s) s

end Sys2Proof.Machine
end

