-- ==== Sys2Proof/Machine/Lantern.lean ====
section
/-!
DEFINITION. Machine/Lantern.lean: the panel driver (R440 to R456).
-/
namespace Sys2Proof.Machine

/-! ## Geometry (R441 to R444) -/

/-- The panel driver is there, and its registers with it (R6). -/
def State.lanExists (s : State) : Bool := s.variant.panelP

/-- Lines and pixels in a line; larger values act as the largest, and 0 as 1 (assumption log 32). -/
def State.lanH (s : State) : Nat := max 1 (min 960 (s.f F.LAN_GEOM_HEIGHT))
def State.lanW (s : State) : Nat := max 1 (min 1280 (s.f F.LAN_GEOM_WIDTH))

/-- Storage bits of a pixel (R443). -/
def State.pixelBits (s : State) : Nat := match s.f F.LAN_CTRL_BPP with | 1 => 4 | 2 => 8 | _ => 1

/-- The line stride in bytes. -/
def State.lanStride (s : State) : Nat := ((s.lanW * s.pixelBits + 7) / 8 + 63) / 64 * 64

/-- Where the framebuffer starts. -/
def State.fbBase (s : State) : Nat := lpddrBase + 0x10000 * s.f F.LAN_FBBASE_BASE

/-- Bits of a pixel on LAN_D (R441). -/
def State.lineBits (s : State) : Nat := match s.f F.LAN_CTRL_BPP with | 1 => 3 | 2 => 6 | _ => 1

/-- The clock divider, 2 to 16 (R441). -/
def State.lanDiv (s : State) : Nat := match s.f F.LAN_CTRL_DIV with | 0 => 16 | 1 => 2 | d => d

/-- Data clocks of a line (R441). -/
def State.lineClocks (s : State) : Nat := (s.lanW * s.lineBits + 15) / 16

/-- Line y's pixels, pixel 0 in the lowest bits, as they stand in the framebuffer; bits above a pixel's own are ignored (R443). -/
def State.lineBitsOf (s : State) (y : Nat) : Nat :=
  let w := s.rd (s.fbBase + y * s.lanStride) s.lanStride
  (List.range s.lanW).foldr (fun i n => w / 2 ^ (i * s.pixelBits) % 2 ^ s.lineBits + 2 ^ s.lineBits * n) 0

/-- The data words of a line write: packed from bit 0 upward, the last padded with zeros (R441). -/
def State.lineData (s : State) (y : Nat) : List Nat := (List.range s.lineClocks).map fun i => s.lineBitsOf y / 2 ^ (16 * i) % 65536

def State.zoneOn (s : State) (z : Nat) : Bool := decide (z = 0) || s.b (F.LAN_ZONE_EN z)

/-- The zone of line y: the enabled one whose start is the last at or before it (R448). -/
def State.zoneOf (s : State) (y : Nat) : Nat :=
  ((List.range 4).filter fun z => s.zoneOn z && decide (s.f (F.LAN_ZONE_START z) ≤ y)).foldl
    (fun b z => if s.f (F.LAN_ZONE_START b) ≤ s.f (F.LAN_ZONE_START z) then z else b) 0

/-- The time of a write of line y in units of 10 ns, with the drive entry its zone has applied (R441, R451). -/
def State.lineTime (s : State) (y : Nat) : Nat :=
  let e := match tget? s.lan.applied (s.zoneOf y) with | some (_, w) => w | none => s.reg (R.LAN_DRV (s.f F.LAN_STATUS_BAND))
  (8 + s.lineClocks) * s.lanDiv + bitsOf e 7 0 + 10 * max 1 (bitsOf e 15 8)

/-- The half-period of zone z in µs, and its first toggle in µs after the start of common drive (R448). -/
def State.halfPeriod (s : State) (z : Nat) : Nat :=
  let h := max 1 (min 120 (s.f (F.LAN_ZONE_HZ z)))
  (1000000 + h) / (2 * h)
def State.firstToggle (s : State) (z : Nat) : Nat := s.f (F.LAN_ZONE_OFFSET z) * 100 % s.halfPeriod z

/-- The line that holds address `a` of the framebuffer. -/
def State.fbLine (s : State) (a : Nat) : Option Nat :=
  if s.fbBase ≤ a ∧ (a - s.fbBase) / s.lanStride < s.lanH then some ((a - s.fbBase) / s.lanStride) else none

/-- Line y is dirty, or is marked so (R444). -/
def State.dirty (s : State) (y : Nat) : Bool := s.bit (R.LAN_DIRTY 0) y
def State.setDirty (s : State) (y : Nat) (v : Bool) : State := s.setBit (R.LAN_DIRTY 0) y v

/-- The LPDDR5 controller marks the lines of n bytes written from address `a` on (R444). -/
def State.markLines (s : State) (a n : Nat) : State :=
  if s.lanExists then
    (List.range n).foldl (fun s i => match s.fbLine (a + i) with | some y => s.setDirty y true | none => s) s
  else s

/-- FRAMEBUFFER_WRITE: a master's write into LPDDR5. -/
def State.fbWrite (s : State) (a : Nat) (data : List Byte) : State :=
  if regionOf a = .lpddr ∧ a + data.length ≤ 0x200000000 then (s.wrBytes a data).markLines a data.length else s

/-- FRAMEBUFFER_WRITE (R444). -/
def execFramebufferWrite (_m : Master) (a : Addr) (data : Bytes) (s : State) : Host.Outcome State Fault Refusal :=
  .next (s.fbWrite a.toNat data)

/-! ## Regions (R445 to R447) -/

/-- Registers show the active region and the queue. -/
def State.showLan (s : State) : State :=
  let s := (s.putb F.LAN_QUEUE_ACTIVE s.lan.active.isSome).put F.LAN_QUEUE_DEPTH s.lan.queue.length
  match s.lan.active with
  | some p => (s.putb F.LAN_QUEUE_REWRITE p.rewriting).put F.LAN_QUEUE_CURSOR p.cursor
  | none => (s.put F.LAN_QUEUE_REWRITE 0).put F.LAN_QUEUE_CURSOR 0

def Lines.overlaps (a b : Lines) : Bool := decide (a.lo ≤ b.hi ∧ b.lo ≤ a.hi)

/-- The smallest range that spans both, with FORCE and IRQ ORed. -/
def Lines.join (a b : Lines) : Lines := ⟨min a.lo b.lo, max a.hi b.hi, a.force || b.force, a.irq || b.irq⟩

/-- A request merges into the active region (R446). -/
def Pass.merge (p : Pass) (r : Lines) : Pass :=
  let rw := if r.lo < p.cursor then
      (match p.rewrite with
       | some (a, b) => some (min a r.lo, max b (min r.hi (p.cursor - 1)))
       | none => some (r.lo, min r.hi (p.cursor - 1)))
    else p.rewrite
  { p with region := ⟨p.region.lo, max p.region.hi r.hi, p.region.force || r.force, p.region.irq || r.irq⟩, rewrite := rw }

/-- The next line of a pass to write, from its cursor on. -/
def State.nextLine (s : State) (p : Pass) : Option Nat :=
  ((List.range (p.region.hi + 1 - p.cursor)).map (p.cursor + ·)).find? fun y => p.region.force || p.rewriting || s.dirty y

/-- The write of line y of pass p starts: its dirty bit clears as its reading starts (R444). -/
def State.startLine (s : State) (p : Pass) (y : Nat) : State :=
  let t := max s.mono p.readyAt + s.lineTime y * (10 * 2 ^ 32)
  let p := { p with cursor := y + 1, line := some y, waiting := false, data := s.lineData y, time := s.lineTime y, endAt := t }
  { s with lan := { s.lan with active := some p } }.setDirty y false

/-- Line y of pass p starts, or waits for its zone's toggle when its write would still run then (R449). -/
def State.offerLine (s : State) (p : Pass) (y : Nat) : State :=
  match tget? s.lan.toggleAt (s.zoneOf y) with
  | some t =>
    if t < max s.mono p.readyAt + s.lineTime y * (10 * 2 ^ 32) then
      { s with lan := { s.lan with active := some { p with cursor := y, line := none, waiting := true } } }
    else s.startLine p y
  | none => s.startLine p y

/-- A region is taken from the queue: its first line starts within 2 µs (R445; the time is free). -/
def State.takeRegion (s : State) (r : Lines) (l : List Lines) : State :=
  let (d, s) := s.draw 1001
  { s with lan := { s.lan with active := some { region := r, cursor := r.lo, readyAt := s.mono + d * 2 ^ 33 }, queue := l } }

/-- The engine goes on: it offers the next line, starts the rewrite pass, or ends the region and takes the next one (R444 to R446, R449). -/
def State.lanRun (s : State) : Nat → State
  | 0 => s
  | n + 1 =>
    match s.lan.active with
    | none =>
      match s.lan.queue with
      | [] => s
      | r :: l => (s.takeRegion r l).lanRun n
    | some p =>
      match s.nextLine p with
      | some y => s.offerLine p y
      | none =>
        match p.rewrite with
        | some (a, b) =>
          ({ s with lan := { s.lan with active := some { region := { p.region with lo := a, hi := b }, cursor := a, rewriting := true } } }).lanRun n
        | none =>
          let s := { s with lan := { s.lan with active := none } }
          let s := if p.region.irq then (s.put F.LAN_STATUS_DONE 1).assertSrc 195 else s
          s.lanRun n

/-- Steps enough for every queued region. -/
def lanFuel : Nat := 200

/-- A request that is taken (R446, R447). -/
def State.lanTake (s : State) (r : Lines) : State :=
  let s := match s.lan.active with
    | some p =>
      if r.overlaps p.region then { s with lan := { s.lan with active := some (p.merge r) } }
      else
        match s.lan.queue.findIdx? r.overlaps with
        | some i => { s with lan := { s.lan with queue := s.lan.queue.modify i (·.join r) } }
        | none =>
          if s.lan.queue.length < 32 then { s with lan := { s.lan with queue := s.lan.queue ++ [r] } }
          else
            let s := { s with lan := { s.lan with queue := [⟨0, s.lanH - 1, true, true⟩] } }
            (((s.put F.LAN_STATUS_OVF 1).count F.LAN_CNT_OVF).event 0x1000 []).assertSrc 195
    | none => { s with lan := { s.lan with queue := s.lan.queue ++ [r] } }
  (if s.lan.active.isNone then s.lanRun lanFuel else s).showLan

/-- STATE of LAN_STATUS: 0 OFF, 1 RAILS, 2 CLEAR, 3 RUN, 4 SHUTDOWN. -/
def State.lanState (s : State) : Nat := s.f F.LAN_STATUS_STATE

/-- A write of LAN_REQ (R445). -/
def State.lanRequest (s : State) (v : Word) : State :=
  if s.lanExists = false then s
  else if s.lanState ≠ 3 then s.event 0x1003 []
  else
    let lo := bitsOf v 25 16
    let n := bitsOf v 9 0
    if n = 0 ∨ s.lanH ≤ lo then s
    else s.lanTake ⟨lo, min (s.lanH - 1) (lo + n - 1), decide (bitsOf v 30 30 = 1), decide (bitsOf v 31 31 = 1)⟩

/-- UPDATE_REQUEST (R445). -/
def execUpdateRequest (_m : Master) (v : Word) (s : State) : Host.Outcome State Fault Refusal := .next (s.lanRequest v)

/-- The write of the line in progress has ended (R441, R446). -/
def State.endLine (s : State) : State :=
  match s.lan.active with
  | some p => (({ s with lan := { s.lan with active := some { p with line := none } } }.bump F.LAN_CNT_LINES).lanRun lanFuel).showLan
  | none => s

/-- LINE_WRITE: the write of the line in progress ends, its line time after its start (R441, R446). -/
def State.lineWritten (s : State) : State :=
  match s.lan.active with
  | some p => if p.line.isSome then s.whenDue (s.cyclesTo 0 p.endAt) (·.endLine) else s
  | none => s

/-- LINE_WRITE (R441). -/
def execLineWrite (s : State) : Host.Outcome State Fault Refusal := .next s.lineWritten

/-! ## Zones (R448, R451) -/

/-- ZBAND shows the zones that have applied the current band. -/
def State.showBands (s : State) : State :=
  (List.range 4).foldl (fun s z =>
    let ok := s.zoneOn z && (match tget? s.lan.applied z with | some (b, _) => decide (b = s.f F.LAN_STATUS_BAND) | none => false)
    s.setReg R.LAN_STATUS (withBits (s.reg R.LAN_STATUS) (16 + z) (16 + z) (b2n ok))) s

/-- Zone z applies the current band and its drive entry. -/
def State.applyBand (s : State) (z : Nat) : State :=
  let b := s.f F.LAN_STATUS_BAND
  { s with lan := { s.lan with applied := tput s.lan.applied z (b, s.reg (R.LAN_DRV b)) } }.showBands

/-- A line of zone z that waits starts on the edge of the zone's toggle (R449). -/
def State.startWaiting (s : State) (z : Nat) : State :=
  match s.lan.active with
  | some p => if p.waiting && decide (s.zoneOf p.cursor = z) then (s.startLine p p.cursor).showLan else s
  | none => s

/-- A zone changes phase, applies what is pending, and its waiting line starts; its next toggle is a half-period away (R448, R449, R451). -/
def State.toggle (s : State) (z : Nat) : State :=
  let t := tget 0 s.lan.toggleAt z + s.halfPeriod z * usUnits
  (({ s with pins := { s.pins with vcom := s.pins.vcom ^^^ BitVec.ofNat 4 (2 ^ z) },
             lan := { s.lan with toggleAt := tput s.lan.toggleAt z t } }.applyBand z).startWaiting z)

/-- VCOM_TOGGLE, at the zone's next toggle (R448). -/
def State.vcomToggle (s : State) (z : Nat) : State :=
  if s.zoneOn z && (decide (s.lanState = 2) || decide (s.lanState = 3)) then
    s.whenDue (s.cyclesTo 0 (tget 0 s.lan.toggleAt z)) (·.toggle z)
  else s

/-- VCOM_TOGGLE (R448). -/
def execVcomToggle (z : Zone) (s : State) : Host.Outcome State Fault Refusal := .next (s.vcomToggle z.val)

/-! ## Temperature (R450) -/

/-- Threshold TH(k), k from 1 to 7, in °C. -/
def State.th (s : State) (k : Nat) : Int :=
  let w := s.reg (if k ≤ 4 then R.LAN_TH_LO else R.LAN_TH_HI)
  let j := (k - 1) % 4
  signedOf 8 (bitsOf w (8 * j + 7) (8 * j))

/-- The thresholds strictly ascend. -/
def State.thOrdered (s : State) : Bool := [1, 2, 3, 4, 5, 6].all fun k => decide (s.th k < s.th (k + 1))

/-- A write of a threshold register: unordered ones set TH_ERR. -/
def State.thWrite (s : State) (a : Nat) (v : Word) : State :=
  let s := s.writeReg a v
  s.putb F.LAN_STATUS_TH_ERR (!s.thOrdered)

/-- The band that a temperature leads to from band b: `ge x` says that it is at least x °C. -/
def bandStep (th : Nat → Int) (ge : Int → Bool) : Nat → Nat → Nat
  | 0, b => b
  | n + 1, b =>
    if b < 7 ∧ ge (th (b + 1)) = true then bandStep th ge n (b + 1)
    else if 0 < b ∧ ge (th b - 2) = false then bandStep th ge n (b - 1)
    else b

/-- The panel temperature: whether it is valid, its value (in 0.1 °C for SET, in °C otherwise), and the number of units in one °C. -/
def State.panelTemp (s : State) : Bool × FpVal × Int :=
  if s.b F.LAN_TEMP_SRC then
    let i := s.f F.LAN_TEMP_TIN
    let ok := decide (i < 24) && s.b (F.FILT_CH_EN i) && !s.b (F.FILT_STAT_FILLING i)
    let code := (f32.ofInt (s.fi (F.FILT_OUT_OUT i))).bits
    (ok, f32.read (f32.add (f32.mul code (s.reg R.LAN_TSCALE).toNat).bits (s.reg R.LAN_TOFF).toNat).bits, 1)
  else
    let t := s.fi F.LAN_TEMP_SET
    (s.lan.setWritten, .fin (decide (t < 0)) t.natAbs 0, 10)

/-- The temperature in 0.1 °C, rounded to the nearest and held within T. -/
def tenths (t : FpVal) (unit : Int) : Option Int :=
  match t with
  | .fin s m e => some (max (-32768) (min 32767 (rneInt s (m * (10 / unit).toNat) e).1))
  | _ => none

/-- The band moves with a valid temperature, unless the thresholds are unordered. -/
def State.takeTemp (s : State) : State :=
  let (ok, t, unit) := s.panelTemp
  let s := (s.putb F.LAN_STATUS_TEMP_INV (!ok)).putb F.LAN_TNOW_VALID ok
  if ok = false then s
  else
    let (v, s) := match tenths t unit with
      | some x => (unsignedOf 16 x, s)
      | none => s.draw 65536
    let s := s.put F.LAN_TNOW_T v
    let b := s.f F.LAN_STATUS_BAND
    let ge := fun (x : Int) => decide (0 ≤ fpCmp t (.fin (decide (x * unit < 0)) (x * unit).natAbs 0))
    let b' := if s.b F.LAN_STATUS_TH_ERR || t.isNan then b else bandStep s.th ge 8 b
    if b' = b then s
    else ((((s.put F.LAN_STATUS_BAND b').put F.LAN_STATUS_BANDCHG 1).event 0x1001 []).assertSrc 195).showBands

/-! ## Shutdown and enable (R452 to R454) -/

/-- Shutdown starts: the line is aborted, regions are discarded, toggling stops, and every line is dirty. -/
def State.lanShutdown (s : State) : State :=
  if s.lanState = 0 ∨ s.lanState = 4 then s
  else
    let s := { s with lan := { s.lan with active := none, queue := [], shutStep := 0, since := s.mono } }.put F.LAN_STATUS_STATE 4
    ((List.range 30).foldl (fun s i => s.setReg (R.LAN_DIRTY i) (BitVec.allOnes 32)) s).showLan

/-- The crack loop: OHM, and in RUN the comparison with LIMIT (R452). -/
def State.takeCrack (s : State) (ohm : Nat) : State :=
  let s := s.put F.LAN_CRACK_OHM ohm
  if s.lanState ≠ 3 then s
  else
    let now := decide (s.f F.LAN_CRACK_LIMIT < ohm)
    if s.b F.LAN_STATUS_CRACK = now then s
    else
      let s := s.putb F.LAN_STATUS_CRACK now
      let s := if now then s.put F.LAN_STATUS_CRACK_SEEN 1 else s
      let s := (s.event 0x1002 []).assertSrc 195
      if now && s.b F.LAN_CTRL_CRACK_STOP then s.lanShutdown else s

/-- The whole second of MONO at which the temperature is taken next. -/
def State.tempNext (s : State) : Nat := max (s.lan.tempAt + 1) ((s.mono + nsPerSec - 1) / nsPerSec)

/-- TEMPERATURE_SAMPLE: once every whole second of MONO, with the loop's resistance, 0xFFFF for an open one (R450, R452). -/
def State.takeReadings (s : State) (ohm : Nat) : State :=
  let n := s.tempNext
  if s.lanExists then
    s.whenDue (s.cyclesTo 0 (n * nsPerSec)) fun s => ({ s with lan := { s.lan with tempAt := n } }.takeTemp).takeCrack ohm
  else s

/-- TEMPERATURE_SAMPLE (R450). -/
def execTemperatureSample (ohm : Half) (s : State) : Host.Outcome State Fault Refusal := .next (s.takeReadings ohm.toNat)

/-- The enable sequence starts (R453). -/
def State.lanEnable (s : State) : State :=
  let s := { s with lan := { s.lan with setWritten := false, since := s.mono }, pins := { s.pins with disch := false, railEn := true } }
  (s.put F.LAN_STATUS_STATE 1).put F.LAN_STATUS_BAND (s.f F.LAN_CTRL_DEF_BAND)

/-- A write of LAN_CTRL: EN starts a sequence; BPP and DIV take a write only while EN is 0 (R442, R453, R454). -/
def State.lanCtrlWrite (s : State) (m : Master) (v : Word) : State :=
  let was := s.b F.LAN_CTRL_EN
  let kept := withBits v 29 24 (bitsOf (s.reg R.LAN_CTRL) 29 24)
  let t := s.writeReg R.LAN_CTRL (if was then kept else v)
  let t := if was ∧ kept ≠ v then t.recordWrite m R.LAN_CTRL v else t
  let now := t.b F.LAN_CTRL_EN
  if now && !was then t.lanEnable else if was && !now then t.lanShutdown else t

/-- LANTERN_ENABLE and LANTERN_DISABLE: the write of LAN_CTRL that changes EN. -/
def execLanternEnable (m : Master) (v : Word) (s : State) : Host.Outcome State Fault Refusal :=
  if s.lanExists then .next (s.lanCtrlWrite m (withBits v 31 31 1)) else .next s
/-- LANTERN_DISABLE (R454). -/
def execLanternDisable (m : Master) (v : Word) (s : State) : Host.Outcome State Fault Refusal :=
  if s.lanExists then .next (s.lanCtrlWrite m (withBits v 31 31 0)) else .next s

/-- A write of a register that takes one only while EN is 0 (R442). -/
def State.lanFixedWrite (s : State) (m : Master) (a : Nat) (v : Word) : State :=
  if s.b F.LAN_CTRL_EN then s.recordWrite m a v else s.writeReg a v

/-- A write of LAN_ZONEz: zone 0 stays enabled and starts at line 0. -/
def State.zoneWrite (s : State) (m : Master) (z : Nat) (v : Word) : State :=
  s.lanFixedWrite m (R.LAN_ZONE z) (if z = 0 then withBits (withBits v 31 31 1) 9 0 0 else v)

/-- A write of LAN_TEMP. -/
def State.lanTempWrite (s : State) (v : Word) : State := { s.writeReg R.LAN_TEMP v with lan := { s.lan with setWritten := true } }

/-- An instant of the sequence that runs: `us` µs after its start (R453, R454). -/
def State.lanAt (s : State) (us : Nat) (g : State → State) : State := s.whenDue (s.cyclesTo 0 (s.lan.since + us * usUnits)) g

/-- RAIL_MS in µs; 0 acts as 1. -/
def State.railUs (s : State) : Nat := 1000 * max 1 (s.f F.LAN_CTRL_RAIL_MS)

/-- Common drive starts in every enabled zone, each with a positive phase (R448, R453). -/
def State.driveZones (s : State) : State :=
  let zones := (List.range 4).filter s.zoneOn
  let on := zones.foldl (fun n z => n + 2 ^ z) 0
  let first := zones.foldl (fun t z => tput t z (s.mono + s.firstToggle z * usUnits)) []
  let s := { s with pins := { s.pins with vcomEn := true, gclr := true, vcom := BitVec.ofNat 4 on },
                    lan := { s.lan with applied := [], toggleAt := first } }
  zones.foldl (·.applyBand ·) (s.put F.LAN_STATUS_STATE 2)

/-- COMMON_DRIVE_START: RAIL_MS after the enable (R453). -/
def State.commonDrive (s : State) : State := if s.lanState = 1 then s.lanAt s.railUs (·.driveZones) else s

/-- COMMON_DRIVE_START (R453). -/
def execCommonDriveStart (s : State) : Host.Outcome State Fault Refusal := .next s.commonDrive

/-- GCLR_RELEASE: 800 µs later, with a forced full-frame region (R453). -/
def State.gclrRelease (s : State) : State :=
  if s.lanState = 2 then
    s.lanAt (s.railUs + 800) fun s =>
      ({ s with pins := { s.pins with gclr := false } }.put F.LAN_STATUS_STATE 3).lanTake ⟨0, s.lanH - 1, true, true⟩
  else s

/-- GCLR_RELEASE (R453). -/
def execGclrRelease (s : State) : Host.Outcome State Fault Refusal := .next s.gclrRelease

/-- Row n of the shutdown schedule, `us` µs after its start, in order (R454). -/
def State.shutRow (s : State) (n us : Nat) (g : PinSt → PinSt) : State :=
  if s.lanState = 4 ∧ s.lan.shutStep = n then
    s.lanAt us fun s => { s with pins := g s.pins, lan := { s.lan with shutStep := n + 1 } }
  else s

/-- SHUTDOWN_CLEAR (R454). -/
def execShutdownClear (s : State) : Host.Outcome State Fault Refusal := .next (s.shutRow 0 10 fun p => { p with gclr := true })
/-- SHUTDOWN_VCOM_OFF (R454). -/
def execShutdownVcomOff (s : State) : Host.Outcome State Fault Refusal :=
  .next (s.shutRow 1 810 fun p => { p with gclr := false, vcomEn := false, vcom := 0 })
/-- SHUTDOWN_DISCHARGE (R454). -/
def execShutdownDischarge (s : State) : Host.Outcome State Fault Refusal :=
  .next (s.shutRow 2 860 fun p => { p with railEn := false, disch := true })

/-- SHUTDOWN_END: 2,000 µs after its start the sequence ends (R454). -/
def State.shutEnd (s : State) : State :=
  if s.lanState = 4 ∧ s.lan.shutStep = 3 then s.lanAt 2000 (·.put F.LAN_STATUS_STATE 0) else s

/-- SHUTDOWN_END (R454). -/
def execShutdownEnd (s : State) : Host.Outcome State Fault Refusal := .next s.shutEnd

end Sys2Proof.Machine
end

