-- ==== Sys2Proof/Machine/Net.lean ====
section
/-!
DEFINITION. Machine/Net.lean: the Ethernet pairs and their rings (R418 to R422), IEC 61162-450 and the serial ports (R423 to R426), the
PCIe link (R428) and Grezhasel (R430 to R437).
-/
namespace Sys2Proof.Machine

/-! ## Pairs (R418 to R421) -/

/-- Pair p runs. -/
def State.pairOn (s : State) (p : Nat) : Bool := s.b (F.NET_PRP_EN p) && !s.dark

/-- The pair that a service is bound to: bit 0 IEC 61162-450, 1 Grezhasel, 2 IEEE 1588, 3 host service (R420). -/
def State.bound (s : State) (service p : Nat) : Bool := s.pairOn p && (s.reg (R.NET_PRP p)).getLsbD (25 + service)

/-- The pair that a service runs on. -/
def State.pairOf (s : State) (service : Nat) : Option Nat := [0, 1].find? (s.bound service ·)

/-- A write of NET_PRPp: SPEED takes effect only while EN is 0. -/
def State.netPrpWrite (s : State) (p : Nat) (v : Word) : State :=
  let t := s.writeReg (R.NET_PRP p) (if s.b (F.NET_PRP_EN p) then withBits v 30 30 (s.f (F.NET_PRP_SPEED p)) else v)
  if t.b (F.NET_PRP_EN p) then t else { t with net := { t.net with supAt := tdel t.net.supAt p } }

/-- MONO at which a port's LAN has been silent for LAN_TO ms; 0 where it has received nothing (R419). -/
def State.silentAt (s : State) (port : Nat) : Nat :=
  match tget? s.net.heardAt port with
  | some t => t + max 1 (s.f (F.NET_PRP_LAN_TO (port / 2))) * msUnits
  | none => 0

/-- A LAN is up while its PHY reports link and it has received a frame within LAN_TO ms; a change is recorded (R419). -/
def State.judgeLan (s : State) (port : Nat) : State :=
  let now := (s.reg R.NET_STATUS).getLsbD port && decide (s.mono < s.silentAt port)
  if (s.reg R.NET_STATUS).getLsbD (4 + port) = now then s
  else
    let s := s.setReg R.NET_STATUS (withBits (s.reg R.NET_STATUS) (4 + port) (4 + port) (b2n now))
    (s.event 0x0C00 [port]).assertSrc (152 + port / 2)

/-- A frame has been received on a port (R419). -/
def State.heardOn (s : State) (port : Nat) : State := { s with net := { s.net with heardAt := tput s.net.heardAt port s.mono } }.judgeLan port

/-- LAN_STATE_CHANGE: the PHY's link changes, or, where it stays, the LAN has been silent for LAN_TO ms (R419). -/
def State.lanChange (s : State) (port : Nat) (link silent : Bool) : State :=
  if s.dark then s
  else if (s.reg R.NET_STATUS).getLsbD port = link then
    if silent then s.whenDue (s.cyclesTo 0 (s.silentAt port)) (·.judgeLan port) else s
  else (s.setReg R.NET_STATUS (withBits (s.reg R.NET_STATUS) port port (b2n link))).judgeLan port

/-- LAN_STATE_CHANGE (R419). -/
def execLanStateChange (port : Port) (link silent : Bool) (s : State) : Host.Outcome State Fault Refusal :=
  .next (s.lanChange port.val link silent)

/-- Pair p sends a frame: it goes to its LANs with the next sequence number in its trailer (R418). -/
def State.send (s : State) (p : Nat) (x : Sent) : State :=
  { s with net := { s.net with prpSeq := tput s.net.prpSeq p ((tget 0 s.net.prpSeq p + 1) % 65536), sent := tput s.net.sent p x } }

/-- A node is heard: a full table of 512 loses its oldest entry, with what was seen of it (R418). -/
def State.hearNode (s : State) (p mac : Nat) : State :=
  let l := s.net.nodes
  if l.contains (p, mac) then s
  else
    let mine := l.filter (·.1 = p)
    let (l, seen) := if mine.length < 512 then (l, s.net.seen) else
      match mine with
      | o :: _ => (l.filter (· ≠ o), s.net.seen.filter fun x => (x.1.1, x.1.2.1) ≠ o)
      | [] => (l, s.net.seen)
    { s with net := { s.net with nodes := l ++ [(p, mac)], seen := seen } }

/-- MONO at the first copy of a frame that has been seen, and is not forgotten yet: 400 ms (R418). -/
def State.seenAt (s : State) (key : Nat × Nat × Nat) : Option Nat := (s.net.seen.find? (·.1 = key)).map (·.2)

def State.seenNow (s : State) (key : Nat × Nat × Nat) : Bool :=
  match s.seenAt key with
  | some t => decide (s.mono < t + 400 * msUnits)
  | none => false

/-- PRP_ENTRY_FORGET: 400 ms after the first copy (R418). -/
def State.prpForget (s : State) (key : Nat × Nat × Nat) : State :=
  match s.seenAt key with
  | some t => s.whenDue (s.cyclesTo 0 (t + 400 * msUnits)) fun s => { s with net := { s.net with seen := s.net.seen.filter (·.1 ≠ key) } }
  | none => s

/-- PRP_ENTRY_FORGET (R418). -/
def execPrpEntryForget (p : EthPair) (src : Mac) (seq : Half) (s : State) : Host.Outcome State Fault Refusal :=
  .next (s.prpForget (p.val, src.toNat, seq.toNat))

/-! ## Rings (R422) -/

def State.ring (s : State) (p : Nat) : RingSt := tget {} s.net.rings p
def State.setRing (s : State) (p : Nat) (x : RingSt) : State := { s with net := { s.net with rings := tset {} s.net.rings p x } }

/-- Where a ring, its descriptor i and its buffer i stand. -/
def ringAt (base : Nat) : Nat := lpddrBase + 0x10000 * base
def descAt (base i : Nat) : Nat := ringAt base + 0x10 * i
def bufAt (base i : Nat) : Nat := ringAt base + 0x1000 + 0x800 * i

/-- The 64 indices from i on up to before j, around the ring. -/
def ringSpan (i j : Nat) : List Nat := (List.range ((j + 64 - i) % 64)).map fun k => (i + k) % 64

/-- Nanoseconds that n bytes of wire time take at the pair's speed (R430). -/
def State.wireNs (s : State) (p n : Nat) : Nat := n * (if s.b (F.NET_PRP_SPEED p) then 80 else 8)

/-- The instant of the Release in the tick, in ns. -/
def State.releaseNs (s : State) : Nat := s.periodUs * 800

/-- The Release guard holds a frame of n wire bytes: it would not end before the Release, or the burst runs (R421). -/
def State.guarded (s : State) (p n : Nat) : Bool :=
  let now := 2 * s.tick.cycles
  s.b (F.NET_PRP_GUARD p) &&
    ((s.grz.burst && decide (s.pairOf 1 = some p)) || (decide (now < s.releaseNs) && decide (s.releaseNs < now + s.wireNs p n)))

/-- The least wire time of a frame in bytes, with preamble, trailer, FCS and gap: what a supervision frame takes (assumption log 65). -/
def leastWire : Nat := 90

/-- Wire bytes of a frame: a ring's takes 30 bytes more than it holds: preamble, trailer, FCS and gap. -/
def Sent.wire (x : Sent) : Nat :=
  match x with
  | .supervision => leastWire
  | .ring f _ _ => f.length + 30
  | .reply _ _ l => leastWire + 4 * l.length

/-- MONO at which the frames under way on pair p have left the wire. -/
def State.wireFree (s : State) (p : Nat) : Nat :=
  max s.mono (max (tget 0 s.net.busyTo p) (if (s.ring p).sending then (s.ring p).endAt else 0))

/-- A frame of the module's own keeps both LANs busy until the frames under way and it have ended (R33). -/
def State.sendNow (s : State) (p : Nat) (x : Sent) : State :=
  let t := s.wireFree p + s.wireNs p x.wire * 2 ^ 32
  { s with net := { s.net with busyTo := tput s.net.busyTo p t } }.send p x

/-- A frame of the module's own is on the LANs of pair p. -/
def State.ownBusy (s : State) (p : Nat) : Bool := decide (s.mono < tget 0 s.net.busyTo p)

/-- A frame of the module's own is sent, or held while the guard holds it (R421). -/
def State.sendOwn (s : State) (p : Nat) (x : Sent) : State :=
  if s.guarded p x.wire then { s with net := { s.net with guarded := s.net.guarded ++ [(p, x)] } } else s.sendNow p x

/-- SUPERVISION_FRAME, every 2 s of MONO, the first as soon as the pair runs (R418, R421; assumption log 65). -/
def State.supervision (s : State) (p : Nat) : State :=
  if s.pairOn p then
    s.whenDue (match tget? s.net.supAt p with | some t => s.cyclesTo 0 (t + 2 * nsPerSec) | none => 0) fun s =>
      { s with net := { s.net with supAt := tput s.net.supAt p s.mono } }.sendOwn p .supervision
  else s

/-- SUPERVISION_FRAME (R418). -/
def execSupervisionFrame (p : EthPair) (s : State) : Host.Outcome State Fault Refusal := .next (s.supervision p.val)

/-- The bytes of the transmit frame at descriptor i; on the wire it takes 30 bytes more: preamble, trailer, FCS and gap. -/
def State.txBytes (s : State) (p i : Nat) : List Byte :=
  let base := s.f (F.NET_TXBASE_BASE p)
  s.rdBytes (bufAt base i) (min 0x800 (s.rd (descAt base i) 2))

/-- The next transmit descriptor starts, where it may: descriptors go in order, one with a launch time not yet reached holds back those after
it, and a refused one is passed over (R422, R368). -/
def State.ringKick (s : State) (p : Nat) : Nat → State
  | 0 => s
  | n + 1 =>
    let x := s.ring p
    let i := s.f (F.NET_TXHT_HW p)
    if x.sending ∨ i = s.f (F.NET_TXHT_SW p) ∨ s.pairOn p = false then s
    else if x.refused.contains i then
      ((s.put (F.NET_TXHT_HW p) ((i + 1) % 64)).setRing p { x with refused := x.refused.filter (· ≠ i) }).ringKick p n
    else if (tget? x.launch i).isSome ∧ x.due = false then s
    else if s.guarded p ((s.txBytes p i).length + 30) then s
    else
      let fl := s.rd (descAt (s.f (F.NET_TXBASE_BASE p)) i + 2) 1
      let both := decide (fl / 2 % 4 = 3 ∨ fl / 2 % 4 = 0)
      let a := both || decide (fl / 2 % 4 = 1)
      let b := both || decide (fl / 2 % 4 = 2)
      let lans := (if a then [0] else []) ++ (if b then [1] else [])
      let t := s.wireFree p + s.wireNs p ((s.txBytes p i).length + 30) * 2 ^ 32
      let s := s.setRing p { x with sending := true, lans := lans, due := false, launch := tdel x.launch i, endAt := t }
      s.send p (.ring (s.txBytes p i) a b)

/-- A descriptor is handed to the module: its launch time is converted at once (R368). -/
def State.queueDesc (s : State) (p i : Nat) : State :=
  let a := descAt (s.f (F.NET_TXBASE_BASE p)) i
  if s.rd (a + 2) 1 % 2 = 0 then s
  else
    let b := s.rd (a + 3) 1
    let base := if b = 0 ∨ b = 1 ∨ (8 ≤ b ∧ b ≤ 15) then b else 3
    match s.launchAt base (s.rd (a + 8) 8 * 1000000000) with
    | (.refused, s) => s.setRing p { s.ring p with refused := addTo (s.ring p).refused i }
    | (.now, s) => s
    | (.at t, s) => s.setRing p { s.ring p with launch := tput (s.ring p).launch i t }

/-- TX_DESCRIPTOR_SUBMIT: a write of NET_TXHTp moves SW on (R422). -/
def State.txSubmit (s : State) (p : Nat) (v : Word) : State :=
  let sw := bitsOf v 13 8
  let l := ringSpan (s.f (F.NET_TXHT_SW p)) sw
  (l.foldl (·.queueDesc p ·) (s.put (F.NET_TXHT_SW p) sw)).ringKick p 64

/-- TX_DESCRIPTOR_SUBMIT (R422). -/
def execTxDescriptorSubmit (p : EthPair) (_m : Master) (v : Word) (s : State) : Host.Outcome State Fault Refusal :=
  .next (s.txSubmit p.val v)

/-- RING_LAUNCH_TIME: the launch time of the next descriptor, on the network island's launch timer (R422, R368). -/
def State.ringLaunch (s : State) (p : Nat) : State :=
  match tget? (s.ring p).launch (s.f (F.NET_TXHT_HW p)) with
  | some t => s.whenDue (s.cyclesToLaunch 1 t) fun s => (s.setRing p { s.ring p with due := true }).ringKick p 64
  | none => s

/-- RING_LAUNCH_TIME (R422). -/
def execRingLaunchTime (p : EthPair) (s : State) : Host.Outcome State Fault Refusal := .next (s.ringLaunch p.val)

/-- RING_FRAME_SENT: the frame has left the wire, and HW moves to the next descriptor, which starts where it may (R422). -/
def State.ringSent (s : State) (p : Nat) : State :=
  if (s.ring p).sending then
    s.whenDue (s.cyclesTo 0 (s.ring p).endAt) fun s =>
      ((s.put (F.NET_TXHT_HW p) ((s.f (F.NET_TXHT_HW p) + 1) % 64)).setRing p { s.ring p with sending := false }).ringKick p 64
  else s

/-- RING_FRAME_SENT (R422). -/
def execRingFrameSent (p : EthPair) (s : State) : Host.Outcome State Fault Refusal := .next (s.ringSent p.val)

/-- A frame that no service claims goes to the receive ring, or is dropped and counted where every descriptor is filled (R422). -/
def State.toRing (s : State) (p lan : Nat) (bytes : List Byte) : State :=
  let x := s.ring p
  if 64 ≤ x.filled then s.count (F.NET_PRPCNT_RXDROP p)
  else
    let base := s.f (F.NET_RXBASE_BASE p)
    let i := s.f (F.NET_RXHT_HW p)
    let d := descAt base i
    let l := bytes.take 0x800
    let s := (s.wrBytes (bufAt base i) l).wr d 4 (l.length + (2 ^ lan + 0x80) * 0x10000)
    let s := (s.put (F.NET_RXHT_HW p) ((i + 1) % 64)).setRing p { x with filled := x.filled + 1 }
    (s.awaitStamp 156 (d + 8)).assertSrc 156

/-- RX_DESCRIPTOR_FREE: a write of NET_RXHTp moves SW on (R422). -/
def State.rxFree (s : State) (p : Nat) (v : Word) : State :=
  let sw := bitsOf v 13 8
  let d := (sw + 64 - s.f (F.NET_RXHT_SW p)) % 64
  (s.put (F.NET_RXHT_SW p) sw).setRing p { s.ring p with filled := (s.ring p).filled - d }

/-- RX_DESCRIPTOR_FREE (R422). -/
def execRxDescriptorFree (p : EthPair) (_m : Master) (v : Word) (s : State) : Host.Outcome State Fault Refusal := .next (s.rxFree p.val v)

/-! ## Sentences (R218, R424, R426) -/

/-- Split a line into its sentences, each from its start character to before CR LF, and count those discarded for their length or a framing
error (R426). -/
def scanLine : SerChars → Option (List Byte) → List (List Byte) × Nat
  | [], _ => ([], 0)
  | c :: l, cur =>
    match c, cur with
    | none, none => scanLine l none
    | none, some _ => let (a, n) := scanLine l none; (a, n + 1)
    | some x, cur =>
      if x = 0x24 ∨ x = 0x21 then scanLine l (some [x])
      else match cur with
        | none => scanLine l none
        | some y =>
          let y := y ++ [x]
          if 82 < y.length then let (a, n) := scanLine l none; (a, n + 1)
          else if x = 0x0A ∧ y.getD (y.length - 2) 0 = 0x0D then
            let (a, n) := scanLine l none; (y.take (y.length - 2) :: a, n)
          else scanLine l (some y)

/-- A hexadecimal digit. -/
def hexDigit (b : Byte) : Option Nat :=
  let n := b.toNat
  if 0x30 ≤ n ∧ n ≤ 0x39 then some (n - 0x30)
  else if 0x41 ≤ n ∧ n ≤ 0x46 then some (n - 0x37)
  else if 0x61 ≤ n ∧ n ≤ 0x66 then some (n - 0x57)
  else none

/-- The text of a sentence behind its start character, and its checksum: none when absent, else whether it is right. -/
def checkSum (l : List Byte) : List Byte × Option Bool :=
  let body := (l.drop 1).takeWhile (· ≠ 0x2A)
  match (l.drop 1).drop body.length with
  | [] => (body, none)
  | _ :: h =>
    let want := (body.foldl (fun (a : Byte) b => a ^^^ b) 0).toNat
    (body, some (match h with
      | [a, b] => (match hexDigit a, hexDigit b with | some x, some y => decide (16 * x + y = want) | _, _ => false)
      | _ => false))

/-- The fields of a text, split at commas. -/
def splitFields : List Byte → List (List Byte)
  | [] => [[]]
  | b :: l =>
    if b = 0x2C then [] :: splitFields l
    else match splitFields l with
      | f :: r => (b :: f) :: r
      | [] => [[b]]

/-- Where sentence format n of the active bank stands; 0 for an absent one (R204, R217). -/
def State.formatOff (s : State) (n : Nat) : Nat := s.rd (s.bankBase + 0x440 + 4 * (64 + n)) 4

/-- Format n matches the talker and formatter of a text (R218). -/
def State.formatFits (s : State) (n : Nat) (body : List Byte) : Bool :=
  let o := s.formatOff n
  let h := s.rdBytes (s.bankBase + o) 5
  decide (o ≠ 0) && decide (5 ≤ body.length) && (decide (h.take 2 = [0x2D, 0x2D]) || decide (h.take 2 = body.take 2)) &&
    decide (h.drop 2 = (body.drop 2).take 3)

/-- The lowest-numbered format that matches. -/
def State.formatOf (s : State) (body : List Byte) : Option Nat := (List.range 128).find? (s.formatFits · body)

/-- The digits of a decimal number: their value and how many stand behind the point; none for anything else. -/
def decimalOf (l : List Byte) : Option (Int × Nat) :=
  let (neg, l) := match l with
    | b :: r => if b = 0x2D then (true, r) else if b = 0x2B then (false, r) else (false, b :: r)
    | [] => (false, [])
  let a := l.takeWhile (· ≠ 0x2E)
  let b := (l.drop a.length).drop 1
  if (a ++ b).all (fun x => decide (0x30 ≤ x.toNat) && decide (x.toNat ≤ 0x39)) && !(a ++ b).isEmpty then
    let n : Nat := (a ++ b).foldl (fun (n : Nat) (x : Byte) => 10 * n + (x.toNat - 0x30)) 0
    some (if neg then -(n : Int) else n, b.length)
  else none

/-- The number n / den times an FP32 scale, rounded once to FP64 (R218). -/
def scaled (n : Int) (den : Nat) (scale : Nat) : Nat :=
  match f32.read scale with
  | .nan _ => f64.nan
  | .inf s => if n = 0 then f64.nan else f64.inf (s != decide (n < 0))
  | .fin s m e =>
    let a := n.natAbs * m * 2 ^ 200
    let q := a / den
    (f64.round (s != decide (n < 0)) (2 * q + (if q * den = a then 0 else 1)) (e - 201)).bits

/-- Degrees and minutes, dd…mm.mm with k digits behind the point, as 60 × 10^k times the degrees. -/
def degMin (n : Nat) (k : Nat) : Nat := n / (100 * 10 ^ k) * (60 * 10 ^ k) + n % (100 * 10 ^ k)

/-- hhmmss.ss with k digits behind the point, as 10^k times the seconds of the day. -/
def daySeconds (n : Nat) (k : Nat) : Nat := (n / 10 ^ (k + 4) * 3600 + n / 10 ^ (k + 2) % 100 * 60) * 10 ^ k + n % 10 ^ (k + 2)

/-- A hemisphere letter of the next field: positive for the first, negative for the second. -/
def hemisphere (next : List Byte) (pos neg : Byte) : Option Int :=
  if next = [pos] then some 1 else if next = [neg] then some (-1) else none

/-- The number a field stands for, as a numerator and a denominator (R218): latitude and longitude in signed degrees, UTC in seconds of the day, a
character by its code, a hex byte by its value (assumption log 31); none for a field that has not its type's form. -/
def fieldNumber (ty : Nat) (f next : List Byte) : Option (Int × Nat) :=
  match ty, decimalOf f with
  | 0, some (n, k) => some (n, 10 ^ k)
  | 1, some (n, 0) => some (n, 1)
  | 2, some (.ofNat n, k) => (hemisphere next 0x4E 0x53).map fun s => (s * degMin n k, 60 * 10 ^ k)
  | 3, some (.ofNat n, k) => (hemisphere next 0x45 0x57).map fun s => (s * degMin n k, 60 * 10 ^ k)
  | 4, some (.ofNat n, k) => some (daySeconds n k, 10 ^ k)
  | 5, _ => match f with
    | [b] => some (b.toNat, 1)
    | _ => none
  | 6, _ => match f.map hexDigit with
    | [some a] => some (a, 1)
    | [some a, some b] => some (16 * a + b, 1)
    | _ => none
  | _, _ => none

/-- The value of a field: its number times the scale; what a field without a number stores is the configuration's. -/
def fieldValue (ty scale : Nat) (f next : List Byte) : Nat :=
  match fieldNumber ty f next with
  | some (n, d) => scaled n d scale
  | none => Config.sentenceField ty f next scale % 2 ^ 64

/-- Write the fields of an accepted sentence into a source area of `size` bytes (R218, R424). -/
def State.writeFields (s : State) (area size n : Nat) (body : List Byte) : State :=
  let a := s.bankBase + s.formatOff n
  let fs := (splitFields (body.drop 5)).drop 1
  (List.range (min 32 (s.rd (a + 5) 1))).foldl (fun s i =>
    let x := a + 8 + 8 * i
    let k := s.rd x 1
    let o := s.rd (x + 2) 2
    if o + 8 ≤ size then s.wr (area + o) 8 (fieldValue (s.rd (x + 1) 1) (s.rd (x + 4) 4) (fs.getD k []) (fs.getD (k + 1) [])) else s) s

/-- The next value of a source area's sequence word, which is never all ones. -/
def nextSeq (n : Nat) : Nat := (n + 1) % 0xFFFFFFFF

/-- An accepted sentence goes to source area `u`, with its format number and the stamp of the delivery that covers it (R424). -/
def State.writeArea (s : State) (u area size src n : Nat) (body : List Byte) : State :=
  let q := tget 0 s.net.areaSeq u
  let s := (((s.wr area 4 0xFFFFFFFF).writeFields area size n body).wr (area + 4) 4 n).wr area 4 q
  ({ s with net := { s.net with areaSeq := tput s.net.areaSeq u (nextSeq q) } }.awaitStamp src (area + 8)).assertSrc src

/-- What becomes of one sentence (R426). -/
inductive Sorted where
  | badSum
  | unmatched
  | accepted (fmt : Nat) (body : List Byte)
deriving DecidableEq, Repr

def State.sortSentence (s : State) (l : List Byte) : Sorted :=
  match checkSum l with
  | (_, some false) => .badSum
  | (body, sum) =>
    match s.formatOf body with
    | none => .unmatched
    | some n => if sum = none ∧ s.rd (s.bankBase + s.formatOff n + 6) 1 % 2 = 1 then .badSum else .accepted n body

/-- One sentence of port k. -/
def State.serSentence (s : State) (k : Nat) (l : List Byte) : State :=
  match s.sortSentence l with
  | .badSum => (s.count (F.NET_SERSTAT_CSUM k)).assertSrc 163
  | .unmatched => (s.count (F.NET_SERSTAT_UNMATCHED k)).assertSrc 163
  | .accepted n body => (s.writeArea k (s.serArea k) 0x1000 (164 + k) n body).refreshPoint 3 k

/-- Port k exists on this variant (R425). -/
def State.serExists (s : State) (k : Nat) : Bool := decide (k < 16) || !s.variant.panelP

/-- SENTENCE: a line of port k up to CR LF (R426). -/
def State.serLine (s : State) (k : Nat) (chars : SerChars) : State :=
  if s.serExists k && s.b (F.NET_SERCFG_EN k) && !s.dark then
    let (l, extra) := scanLine chars none
    let s := if extra = 0 then s else (s.count (F.NET_SERSTAT_OVERLONG k) extra).assertSrc 163
    l.foldl (·.serSentence k ·) s
  else s

/-- SENTENCE (R426). -/
def execSentence (k : SerPort) (chars : SerChars) (s : State) : Host.Outcome State Fault Refusal := .next (s.serLine k.val chars)

/-- The multicast groups that pair p has joined by IGMPv2, as the last octet of 239.192.0.x: those of its enabled listen entries (R423). -/
def State.joined (s : State) (p : Nat) : List Nat :=
  if s.bound 0 p then (((List.range 32).filter fun j => s.b (F.NET_450GRP_EN j)).map fun j => s.f (F.NET_450GRP_GROUP j)).eraseDups else []

/-- The listen entry that takes a datagram (R424). -/
def State.listenFor (s : State) (d : Datagram) : Option Nat :=
  (List.range 32).find? fun j =>
    s.b (F.NET_450GRP_EN j) && decide (s.f (F.NET_450GRP_GROUP j) = d.group.toNat) &&
    ((decide (s.f (F.NET_450SFI_TALKER j) = 0x2D2D) && decide (s.f (F.NET_450SFI_INST j) = 0)) ||
     (decide (s.f (F.NET_450SFI_TALKER j) = d.talker.toNat) && decide (s.f (F.NET_450SFI_INST j) = d.inst)))

/-- One sentence of a datagram that entry j took. -/
def State.listenSentence (s : State) (j : Nat) (l : List Byte) : State :=
  match s.sortSentence l with
  | .accepted n body => (s.writeArea (64 + j) (s.listenArea j) 0x400 154 n body).refreshPoint 2 j
  | _ => s.assertSrc 163

/-- UDPBC_DATAGRAM (R423, R424). -/
def State.datagram (s : State) (d : Datagram) : State :=
  if (s.pairOf 0).isNone then s
  else if d.tagOk = false then (s.count F.NET_450CNT_TAG_ERR).assertSrc 155
  else
    match s.listenFor d with
    | none => s.count F.NET_450CNT_NOMATCH
    | some j =>
      d.sentences.foldl (fun s b =>
        let (l, extra) := scanLine (b.map some) none
        let s := if extra = 0 then s else s.assertSrc 163
        l.foldl (·.listenSentence j ·) s) s

/-- UDPBC_DATAGRAM (R424). -/
def execUdpbcDatagram (d : Datagram) (s : State) : Host.Outcome State Fault Refusal := .next (s.datagram d)

/-- Ticks since the last accepted sentence have reached the limit (R424). -/
def State.silentFor (s : State) (key limit : Nat) : Bool :=
  match tget? s.points.live key with
  | some t => decide (limit ≤ s.tickNo - t)
  | none => true

/-- A listen entry or serial port with this enable and TIMEOUT fails at the end of this tick (R424, R426). -/
def State.sourceFails (s : State) (en : Bool) (key limit : Nat) : Bool := !en || (decide (limit ≠ 0) && s.silentFor key limit)

/-- An entry or port is marked failed or healthy at the end of a tick (R424, R426). -/
def State.judgeSource (s : State) (u : SrcUnit) : State :=
  match u with
  | .listen j => s.putb (F.NET_450GRP_FAILED j.val) (s.sourceFails (s.b (F.NET_450GRP_EN j.val)) (pointKey 2 j.val) (s.f (F.NET_450GRP_TIMEOUT j.val)))
  | .serial k =>
    if s.serExists k.val then
      s.putb (F.NET_SERSTAT_FAILED k.val) (s.sourceFails (s.b (F.NET_SERCFG_EN k.val)) (pointKey 3 k.val) (s.f (F.NET_SERCFG_TIMEOUT k.val)))
    else s

/-- SOURCE_TIMEOUT: the end of the tick judges the entry or port (R424). -/
def State.sourceTimeout (s : State) (u : SrcUnit) : State := s.whenDue (500 * s.periodUs - s.tick.cycles) (·.judgeSource u)

/-- SOURCE_TIMEOUT (R424). -/
def execSourceTimeout (u : SrcUnit) (s : State) : Host.Outcome State Fault Refusal := .next (s.sourceTimeout u)

/-- At the end of a tick every entry and port is judged (R424). -/
def State.judgeSources (s : State) : State :=
  let s := (List.finRange 32).foldl (fun s j => s.judgeSource (.listen j)) s
  (List.finRange 28).foldl (fun s k => s.judgeSource (.serial k)) s

/-- A write of NET_SERCFGk: a rate outside 300 to 115,200 is ignored and recorded (R439). -/
def State.serCfgWrite (s : State) (m : Master) (k : Nat) (v : Word) : State :=
  if 300 ≤ bitsOf v 19 0 ∧ bitsOf v 19 0 ≤ 115200 then s.writeReg (R.NET_SERCFG k) v
  else (s.setReg (R.NET_SERCFG k) (withBits v 19 0 (s.f (F.NET_SERCFG_BAUD k)))).recordWrite m (R.NET_SERCFG k) v

/-! ## PCIe (R428) -/

/-- PCIE_LINK_CHANGE. -/
def execPcieLinkChange (up : Bool) (gen : PcieGen) (width : PcieWidth) (msix : Bool) (s : State) : Host.Outcome State Fault Refusal :=
  let s := s.putb F.NET_PCIE_STAT_LINK up
  let s := (s.put F.NET_PCIE_STAT_GEN (if up then gen.val else 0)).put F.NET_PCIE_STAT_WIDTH (if up then width.val else 0)
  .next ((s.putb F.NET_PCIE_STAT_MSIX_EN (up && msix)).assertSrc 158)

/-! ## Grezhasel output (R430, R432) -/

/-- Grezhasel runs, on a pair that runs. -/
def State.grzOn (s : State) : Bool := s.b F.GRZ_CTRL_EN && (s.pairOf 1).isSome

/-- The pair of Grezhasel. -/
def State.grzPair (s : State) : Nat := (s.pairOf 1).getD 0

/-- Wire time of an output frame of entry n, in ns (R430). -/
def State.grzWire (s : State) (n : Nat) : Nat := s.wireNs s.grzPair (96 + s.f (F.GRZ_SPO_LEN n))

/-- The output burst in ns (R431, R432). -/
def State.grzBurst (s : State) : Nat := (s.grzEntries.map s.grzWire).foldl (· + ·) 0

/-- The safe input and the safe output image (R435, R439). -/
def State.grzSafe (s : State) : Nat := lpddrBase + 0x10000 * s.f F.GRZ_SAFEBASE_BASE

/-- Entry n's area of the safe output image. -/
def State.safeOut (s : State) (n : Nat) : List Byte := s.rdBytes (s.grzSafe + 0x80000 + 8 * s.f (F.GRZ_SPO_OFF n)) (s.f (F.GRZ_SPO_LEN n))

/-- What entry n launches at this Release, if anything (R31, R39, R190, R192, R432). -/
def State.grzPlan (s : State) (overrun : Bool) (n : Nat) : Option GrzTodo :=
  if s.b (F.GRZ_SADR_CMD n) then
    match tget? s.grz.released n with
    | none => none
    | some d =>
      match s.mode with
      | .run => if overrun && !s.b F.TICK_CTRL_SOVR_REPEAT then none else some ⟨n, some d, false⟩
      | .hold => some ⟨n, some d, false⟩
      | .stop =>
        if s.out.firstStop && s.b F.PRG_CTRL_STOP_FRAMES && s.b (F.GRZ_SADR_SUB_EN n) then some ⟨n, some (s.safeOut n), true⟩ else none
  else some ⟨n, none, false⟩

/-- The UDP payload of an output frame (R430). -/
def GrzOut.bytes (x : GrzOut) : List Byte :=
  let l := bytesLE 2 0x5A47 ++ [1, BitVec.ofNat 8 x.flags] ++ bytesLE 2 x.addr ++ bytesLE 2 x.data.length ++ bytesLE 8 x.tick ++
    bytesLE 4 0 ++ x.data
  l ++ bytesLE 4 (crc32c l)

/-- Ownership does not withhold entry n (R35, R432). -/
def State.grzAllowed (s : State) (n : Nat) : Bool := s.drives || (!s.b (F.GRZ_SADR_CMD n) && !s.b F.GRZ_CTRL_OWNER_ONLY)

/-- The next frame of the burst starts. -/
def State.grzLaunch (s : State) : State :=
  match s.grz.todo with
  | [] => s
  | x :: l =>
    let n := x.entry
    let s := { s with grz := { s.grz with todo := l, nextAt := s.grz.nextAt + s.grzWire n / 2 } }
    if s.grzAllowed n then
      let o : GrzOut :=
        { entry := n, addr := s.f (F.GRZ_SADR_ADDR n), flags := b2n (s.b (F.GRZ_SADR_BCAST n)) + 8 * b2n x.sub + 16 * b2n s.owns, tick := s.tickNo,
          data := x.data.getD (s.grzOutData n) }
      { s with grz := { s.grz with launched := addTo s.grz.launched n, frames := s.grz.frames ++ [o] } }
    else s

/-- The frames still to launch, all of them. -/
def State.grzFlush (s : State) : State := s.grz.todo.foldl (fun s _ => s.grzLaunch) s

/-- The frames whose predecessor has ended by now start. -/
def State.grzUpTo (s : State) : Nat → State
  | 0 => s
  | n + 1 =>
    if s.grz.burst ∧ s.grz.late.length < 2 ∧ s.grz.todo ≠ [] ∧ s.grz.nextAt ≤ s.tick.cycles then s.grzLaunch.grzUpTo n else s

/-- In a time-island cycle. -/
def State.grzCycle (s : State) : State := s.grzUpTo s.grz.todo.length

/-- The frames that the guard held start after the burst: the module's own, then those of the rings (R421). -/
def State.grzOpen (s : State) : State :=
  let l := s.net.guarded
  let s := l.foldl (fun s e => s.sendNow e.1 e.2) { s with net := { s.net with guarded := [] } }
  (s.ringKick 0 64).ringKick 1 64

/-- The service slot opens directly after the burst (R437). -/
def State.openSlot (s : State) : State :=
  if s.grzOn then { s with grz := { s.grz with slot := (List.range 8).filter fun r => (s.reg R.GRZ_SVCSEND).getLsbD r } } else s

/-- The LANs of Grezhasel's pair that are busy: both with a frame of the module's own, or those of the transmit ring's frame (R33). -/
def State.busyLans (s : State) : List Nat :=
  if s.ownBusy s.grzPair then [0, 1] else if (s.ring s.grzPair).sending then (s.ring s.grzPair).lans else []

/-- At the Release the burst starts, on a busy LAN after the frame in progress ends (R33, R421, R432). -/
def State.grzRelease (s : State) (overrun : Bool) : State :=
  let todo := if s.grzOn then (s.grzEntries.filter s.grzAllowed).filterMap (s.grzPlan overrun) else []
  let late := if s.b (F.NET_PRP_GUARD s.grzPair) then [] else s.busyLans
  if todo = [] then ({ s with grz := { s.grz with burst := false, todo := [], late := [], frames := [] } }.openSlot).grzOpen
  else
    let len := (todo.map fun x => s.grzWire x.entry / 2).foldl (· + ·) 0
    let s := { s with grz := { s.grz with burst := true, todo := todo, late := late, frames := [], slot := [], nextAt := s.tick.cycles, len := len } }
    let s := { s with grz := { s.grz with startAt := ([0, 1].filter fun k => !late.contains k).map fun k => (k, s.tick.cycles) } }
    if late.length < 2 then s.grzLaunch else s

/-- BURST_DELAYED_START: the frame in progress has ended, and the burst starts on that LAN; a burst that runs on the other LAN keeps its times there, and
the LAN that starts late carries the same frames that much later (R33, R421). -/
def State.grzDelayed (s : State) (lan : Nat) : State :=
  let first := decide (s.grz.late.length = 2)
  let next := if first then s.tick.cycles else s.grz.nextAt
  let s := { s with grz := { s.grz with late := s.grz.late.filter (· ≠ lan), startAt := tput s.grz.startAt lan s.tick.cycles, nextAt := next } }
  let s := (s.event 0x0C01 [2 * s.grzPair + lan]).assertSrc 157
  if first then s.grzLaunch else s

/-- BURST_DELAYED_START, for a LAN on which the burst waits, when the frame in progress has left the wire (R421). -/
def State.burstDelayed (s : State) (lan : Nat) : State :=
  if s.grz.burst && s.grz.late.contains lan then s.whenDue (s.cyclesTo 0 (s.wireFree s.grzPair)) (·.grzDelayed lan) else s

/-- BURST_DELAYED_START (R421). -/
def execBurstDelayedStart (lanB : Bool) (s : State) : Host.Outcome State Fault Refusal := .next (s.burstDelayed (b2n lanB))

/-- The last frame of the burst has ended on both LANs (R421, R437). -/
def State.endBurst (s : State) : State := ({ s.grzFlush with grz := { s.grzFlush.grz with burst := false } }.openSlot).grzOpen

/-- OUTPUT_BURST_END: the burst's length after its start on the LAN that started last (R421, R437). -/
def State.burstEnd (s : State) : State :=
  if s.grz.burst && s.grz.late.isEmpty then
    s.whenDue (s.grz.startAt.foldl (fun m e => max m e.2) 0 + s.grz.len - s.tick.cycles) (·.endBurst)
  else s

/-- OUTPUT_BURST_END (R421). -/
def execOutputBurstEnd (s : State) : Host.Outcome State Fault Refusal := .next s.burstEnd

/-! ## Grezhasel input (R433 to R436) -/

/-- GRZ_INPUT_FRAME (R433). -/
def State.grzInput (s : State) (g : GrzFrame) : State :=
  if s.grzOn = false then s
  else if g.tick.toNat ≠ s.tickNo ∨ s.beforeEdge s.periodUs = false then s.count F.GRZ_CNT_LATE
  else
    match s.grzEntry g.addr.toNat with
    | none => s.count F.GRZ_CNT_BAD
    | some n =>
      if g.crcOk = false ∨ g.data.length ≠ s.f (F.GRZ_SPI_LEN n) then s.count F.GRZ_CNT_BAD
      else if (tget? s.grz.shadow n).isSome then s
      else { s with grz := { s.grz with shadow := tput s.grz.shadow n g.data } }.assertSrc 160

/-- GRZ_INPUT_FRAME (R433). -/
def execGrzInputFrame (g : GrzFrame) (s : State) : Host.Outcome State Fault Refusal := .next (s.grzInput g)

/-- Judge one station at the end of a tick in which its frame was launched (R434). -/
def State.judgeStation (s : State) (n : Nat) : State :=
  if (tget? s.grz.shadow n).isSome then
    let s := { s with grz := { s.grz with miss := tdel s.grz.miss n } }
    if s.bit (R.GRZ_FAIL 0) n then ((s.setBit (R.GRZ_FAIL 0) n false).event 0x0C04 [s.f (F.GRZ_SADR_ADDR n)]).assertSrc 159 else s
  else
    let k := tget 0 s.grz.miss n + 1
    let s := { s with grz := { s.grz with miss := tput s.grz.miss n k } }
    if max 1 (s.f (F.GRZ_SCFG_LOSS n)) ≤ k ∧ s.bit (R.GRZ_FAIL 0) n = false then
      (({ s with grz := { s.grz with errDue := addTo s.grz.errDue n } }.setBit (R.GRZ_FAIL 0) n true).event 0x0C03 [s.f (F.GRZ_SADR_ADDR n)]).assertSrc 159
    else s

/-- At the end of a tick (R434). -/
def State.grzEnd (s : State) : State :=
  let l := s.grz.launched.filter fun n => s.b (F.GRZ_SADR_EN n) && !s.b (F.GRZ_SADR_BCAST n)
  let s := l.foldl (·.judgeStation ·) s
  { s with grz := { s.grz with launched := [] } }

/-- The shadows of all stations that answered are committed at once: the input read (R433). -/
def State.inputRead (s : State) : State :=
  let s := s.grz.shadow.foldl (fun s e => (s.wrBytes (s.grzIn e.1) e.2).refreshPoint 0 e.1) s
  { s with grz := { s.grz with shadow := [] } }

/-- A failed station's input area takes its substitute (R435). -/
def State.substituteIn (s : State) (n : Nat) : State :=
  let len := s.f (F.GRZ_SPI_LEN n)
  match s.f (F.GRZ_SADR_SUBPOL n) with
  | 1 => s.wrBytes (s.grzIn n) (List.replicate len (BitVec.ofNat 8 (s.f (F.GRZ_SCFG_FILL n))))
  | 2 => s.wrBytes (s.grzIn n) (s.rdBytes (s.grzSafe + 8 * s.f (F.GRZ_SPI_OFF n)) len)
  | _ => s

/-- A task that a write to CML_TRIG may trigger: a free one with TRIG software (R178, R187). -/
def State.softTask (s : State) (c : Nat) : Bool :=
  let w := s.tcfg c
  decide (c < 255) && cfgRuns w && decide (cfgPhase w = 0 ∧ cfgTrig w = 2)

/-- The error task of newly failed stations is triggered, and holds the Scan tasks of its core until it has ended (R436). -/
def State.errorTasks (s : State) : State :=
  let l := (s.grz.errDue.filter fun n => s.b (F.GRZ_SCFG_ERR_EN n)).map fun n => s.f (F.GRZ_SCFG_ERRCTX n)
  let s := { s with grz := { s.grz with errDue := [] } }
  (l.foldl addTo []).foldl (fun s c =>
    if s.softTask c then
      let t := s.activate c
      if (t.act? c).isSome then { t with cml := { t.cml with gates := t.cml.gates ++ [(cfgCore (s.tcfg c), c)] } } else t
    else s.record 0x02FF (pay [.u64 R.CML_TRIG, .u32 c, .u32 0x10, .u32 0])) s

/-- At the Strobe of a tick (R433, R435, R436). -/
def State.grzStrobe (s : State) : State :=
  let s := s.inputRead
  let s := (s.grzEntries.filter fun n => s.bit (R.GRZ_FAIL 0) n).foldl (·.substituteIn ·) s
  s.errorTasks.sched

/-! ## Service frames (R437) -/

/-- Where request slot r and response slot r stand. -/
def State.svcReq (s : State) (r : Nat) : Nat := lpddrBase + 0x10000 * s.f F.GRZ_SVCBASE_BASE + 0x800 * r
def State.svcResp (s : State) (r : Nat) : Nat := s.svcReq r + 0x4000

/-- SERVICE_REQUEST: a station's service frame takes the first free request slot, or is dropped and counted. -/
def State.svcRequest (s : State) (g : GrzFrame) : State :=
  if s.grzOn = false then s
  else if g.crcOk = false ∨ 1440 < g.data.length then s.count F.GRZ_CNT_BAD
  else
    match (List.range 8).find? fun r => !(s.reg R.GRZ_SVCREQ).getLsbD r with
    | none => s.count F.GRZ_SVCREQ_DROPS
    | some r =>
      let a := s.svcReq r
      let s := ((s.wr a 8 (g.addr.toNat + g.data.length * 0x10000)).wr (a + 8) 8 (s.base 0).form).wrBytes (a + 16) g.data
      (s.setReg R.GRZ_SVCREQ (withBits (s.reg R.GRZ_SVCREQ) r r 1)).assertSrc 161

/-- SERVICE_REQUEST (R437). -/
def execServiceRequest (g : GrzFrame) (s : State) : Host.Outcome State Fault Refusal := .next (s.svcRequest g)

/-- SERVICE_SLOT_FREE: writing 1 frees a request slot. -/
def State.svcFree (s : State) (v : Word) : State := s.put F.GRZ_SVCREQ_REQ (bitsOf (s.reg R.GRZ_SVCREQ &&& ~~~v) 7 0)

/-- SERVICE_SLOT_FREE (R437). -/
def execServiceSlotFree (_m : Master) (v : Word) (s : State) : Host.Outcome State Fault Refusal := .next (s.svcFree v)

/-- SERVICE_SEND: writing 1 asks for a response. -/
def State.svcSend (s : State) (v : Word) : State := s.put F.GRZ_SVCSEND_SEND (bitsOf (s.reg R.GRZ_SVCSEND ||| v) 7 0)

/-- SERVICE_SEND (R437). -/
def execServiceSend (_m : Master) (v : Word) (s : State) : Host.Outcome State Fault Refusal := .next (s.svcSend v)

/-- SERVICE_RESPONSE_SENT: the response of slot r has gone out in the service slot. -/
def State.svcSent (s : State) (r : Nat) : State :=
  if s.grz.slot.contains r then
    let a := s.svcResp r
    let s := { s with grz := { s.grz with slot := s.grz.slot.filter (· ≠ r),
                                          reply := some (s.rd a 2, s.rdBytes (a + 16) (min 1440 (s.rd (a + 2) 2))) } }
    (s.setReg R.GRZ_SVCSEND (withBits (s.reg R.GRZ_SVCSEND) r r 0)).assertSrc 162
  else s

/-- SERVICE_RESPONSE_SENT (R437). -/
def execServiceResponseSent (r : SvcSlot) (s : State) : Host.Outcome State Fault Refusal := .next (s.svcSent r.val)

/-! ## Points at the Strobe (R172) -/

/-- Units marked failed now, as keys of `PointSt`. -/
def State.failedUnits (s : State) : List Nat :=
  (s.grzEntries.filter fun n => s.bit (R.GRZ_FAIL 0) n).map (pointKey 0) ++
  ((List.range 8).filter fun k => s.b (F.CAN_STATUS_FAILED k)).map (pointKey 1) ++
  ((List.range 32).filter fun j => s.b (F.NET_450GRP_FAILED j)).map (pointKey 2) ++
  ((List.range 28).filter fun k => s.b (F.NET_SERSTAT_FAILED k) || !s.serExists k).map (pointKey 3)

/-- Health and ages are taken as they stand at the Strobe. -/
def State.latchPoints (s : State) : State :=
  let a := scratchBase + s.f F.CML_PTBASE_BASE / 16 * 16
  let n := 32 * min 16384 (s.f F.CML_PTCNT_COUNT)
  { s with points := { s.points with seen := s.points.live, failed := s.failedUnits, table := s.mem.filter fun c => a ≤ c.1 ∧ c.1 < a + n } }

end Sys2Proof.Machine
end

