-- ==== Sys2Proof/Machine/Shadow.lean ====
section
/-!
DEFINITION. Machine/Shadow.lean: the shadow-plan selector (R247, R257 to R265, R271).
-/
namespace Sys2Proof.Machine

/-! ## The scenario table (R247) -/

/-- SCEN_MAX of the grade (R2, R5). -/
def State.scenMax (s : State) : Nat := s.lanes - 1

/-- Scenario entry k in force. -/
def State.scen (s : State) (k : Nat) : Word := if k ≤ s.scenMax then s.eff (R.SHD_SCEN k) else 0

def scenEn (w : Word) : Bool := bitsOf w 31 31 = 1
def scenKind (w : Word) : Nat := bitsOf w 30 28
def scenParam (w : Word) : Nat := bitsOf w 7 0
def scenRank (w : Word) : Nat := bitsOf w 27 25
def scenPredEn (w : Word) : Bool := bitsOf w 24 24 = 1
def scenAlloc (w : Word) : Nat := bitsOf w 23 16
def scenPred (w : Word) : Nat := bitsOf w 15 8

/-- The entry that detector d promotes. -/
def State.detScen (s : State) (d : Nat) : Nat := bitsOf (s.eff (R.SHD_MAP d)) 21 16

/-- Bit k of the absorbed set in force. -/
def State.inBase (s : State) (k : Nat) : Bool := s.bit R.SHD_BASE_LO k

/-- Pending detectors, in increasing number. -/
def State.pendDet (s : State) : List Nat := (List.range 256).filter fun d => s.bit (R.SHD_PEND 0) d

/-- Consume a detection. -/
def State.consume (s : State) (d : Nat) : State :=
  let s := s.setBit (R.SHD_PEND 0) d false
  { s with shd := { s.shd with stamp := tdel s.shd.stamp d } }

/-- Consume a detection without promotion. -/
def State.consumeCounted (s : State) (d : Nat) : State := (s.consume d).count F.SHD_CNT_CONSUMED

/-! ## Warm starts carried on promotion (R261) -/

/-- The current warm-start block of a problem: the newest valid one. -/
def State.curWarm (s : State) (d : AzsDesc) : Option Nat :=
  let ok := fun i => decide (s.rd (d.blkAt i + 4) 4 ≠ 0)
  if ok 0 && (!ok 1 || decide (s.rd (d.blkAt 1 + 8) 8 ≤ s.rd (d.blkAt 0 + 8) 8)) then some 0 else if ok 1 then some 1 else none

/-- Copy the current block of problem p over the current block of problem q, with the later of the two ticks. -/
def State.carryBlock (s : State) (p q : Nat) : State :=
  match tget? s.azs.table p, tget? s.azs.table q with
  | some x, some y =>
    match s.curWarm x with
    | none => s
    | some i =>
      let j := (s.curWarm y).getD 0
      let t := max (s.rd (x.blkAt i + 8) 8) (s.rd (y.blkAt j + 8) 8)
      (s.wrBytes (y.blkAt j) (s.rdBytes (x.blkAt i) (min x.blkSize y.blkSize))).wr (y.blkAt j + 8) 8 t
  | _, _ => s

/-- On promotion of scenario c the blocks are carried to entry 0's problems when CARRY_EN is 1. -/
def State.carryWarm (s : State) (c : Nat) : State :=
  if s.b F.SHD_CTRL_CARRY_EN then
    let w := s.scen c
    let z := s.scen 0
    let s := s.carryBlock (scenAlloc w) (scenAlloc z)
    if scenPredEn w && scenPredEn z then s.carryBlock (scenPred w) (scenPred z) else s
  else s

/-! ## The selector (R259, R262) -/

/-- Accept or refuse an armed rebase. -/
def State.rebaseStep (s : State) : State :=
  match s.shd.rebase with
  | none => s
  | some k =>
    let s := ({ s with shd := { s.shd with rebase := none } }).put F.SHD_STATUS_REB_ARMED 0
    if k = s.f F.SHD_ACTIVE_ACTIVE then
      let s := (s.setReg R.SHD_BASE_LO (s.reg R.SHD_ABSORB_LO)).setReg R.SHD_BASE_HI (s.reg R.SHD_ABSORB_HI)
      let s := ((s.bump F.SHD_ACTIVE_BASE_GEN).put F.SHD_ACTIVE_ACTIVE 0).put F.SHD_ACTIVE_RANK 0
      let s := { s with shd := { s.shd with genTick := s.tickNo } }
      ((s.put F.SHD_STATUS_REBASED 1).put F.SHD_STATUS_WAIT 0).event 0x0703 [k]
    else ((s.put F.SHD_STATUS_REB_REF 1).event 0x0702 [k]).assertSrc 42

/-- Judge one detection seen at this edge, after what ARM, its entry and the base say of it. -/
def State.judgeDet (s : State) (d : Nat) : State :=
  let k := s.detScen d
  if s.b F.SHD_CTRL_ARM = false then ((s.consumeCounted d).put F.SHD_STATUS_DISARMED 1).event 0x0704 [k]
  else if k = 0 ∨ scenEn (s.scen k) = false then ((s.consumeCounted d).put F.SHD_STATUS_UNMAPPED 1).event 0x0705 [k]
  else if s.inBase k then s.consumeCounted d
  else s

/-- A detection seen at this edge that judging it does not consume is a candidate. -/
def State.candidate (s : State) (d : Nat) : Bool :=
  let k := s.detScen d
  s.b F.SHD_CTRL_ARM && decide (k ≠ 0) && scenEn (s.scen k) && !s.inBase k

/-- The candidate of highest RANK, ties to the lowest entry. -/
def State.bestScen (s : State) (l : List Nat) : Option Nat :=
  l.foldl (fun b k =>
    match b with
    | none => some k
    | some x =>
      if scenRank (s.scen x) < scenRank (s.scen k) ∨ (scenRank (s.scen x) = scenRank (s.scen k) ∧ k < x) then some k else b) none

/-- Promote scenario c. -/
def State.promote (s : State) (c : Nat) : State :=
  let s := (s.put F.SHD_ACTIVE_ACTIVE c).put F.SHD_ACTIVE_RANK (scenRank (s.scen c))
  let s := (s.pendDet.filter fun d => decide (s.detScen d = c)).foldl (·.consume ·) s
  let s := ((s.put F.SHD_STATUS_PROMOTED 1).count F.SHD_CNT_PROMOS).setReg64 R.SHD_PROMO_TICK_LO s.tickNo
  let s := (s.carryWarm c).put F.SHD_STATUS_WAIT 0
  (s.event 0x0700 [c]).assertSrc 40

/-- One step of the selector at a Settle edge in Run; `seen` are the detections stamped before the edge, so one that the edge's own cycle brings,
by a deadline miss or a refused rebase, waits for the next (R258). -/
def State.selector (s : State) (seen : List Nat) : State :=
  let s := s.rebaseStep
  let l := ((seen.filter s.candidate).map s.detScen).eraseDups
  let s := seen.foldl (·.judgeDet ·) s
  let act := s.f F.SHD_ACTIVE_ACTIVE
  let s := s.put F.SHD_ACTIVE_RANK (if act = 0 then 0 else scenRank (s.scen act))
  let s := if act ≠ 0 then s.put F.SHD_STATUS_WAIT (min 255 (s.f F.SHD_STATUS_WAIT + 1)) else s
  let s := match s.bestScen l with
    | some c => if act = 0 ∨ scenRank (s.scen act) < scenRank (s.scen c) then s.promote c else s
    | none => s
  let s := if 1 < l.length then ((s.put F.SHD_STATUS_MULTI 1).event 0x0701 [l.headD 0]).assertSrc 41 else s
  s.countPend

/-- The Settle edge: descriptor writes take effect (R271), and in Run the selector steps (R265). -/
def State.shadowEdge (s : State) (seen : List Nat) : State :=
  let s := s.takeEffect (R.SHD_SCEN 0) (R.SHD_MAP 256)
  if s.mode = .run then s.selector seen else s

/-! ## Commands (R257, R262, R271) -/

/-- A write of SHD_DETECT latches a detection on an enabled detector. -/
def execShdDetectWrite (_m : Master) (v : Word) (s : State) : Host.Outcome State Fault Refusal := .next (s.detect (bitsOf v 7 0))

/-- A write of SHD_REBASE arms a rebase. -/
def State.armRebase (s : State) (v : Word) : State :=
  { s with shd := { s.shd with rebase := some (bitsOf v 5 0) } }.put F.SHD_STATUS_REB_ARMED 1

/-- REBASE_ARM (R262). -/
def execRebaseArm (_m : Master) (v : Word) (s : State) : Host.Outcome State Fault Refusal := .next (s.armRebase v)

/-- A write of SHD_CTRL. -/
def State.shdCtrlWrite (s : State) (v : Word) : State :=
  let s := s.setReg R.SHD_CTRL (v &&& 3)
  if v.getLsbD 2 then s.setReg R.SHD_CNT 0 else s

/-- SHD_COUNTER_CLEAR (R271). -/
def execShdCounterClear (_m : Master) (v : Word) (s : State) : Host.Outcome State Fault Refusal := .next (s.shdCtrlWrite (v ||| 4))

/-! ## Restarts and loads (R265) -/

/-- ACTIVE, BASE and ABSORB cleared. -/
def State.clearActive (s : State) : State :=
  let s := (s.put F.SHD_ACTIVE_ACTIVE 0).put F.SHD_ACTIVE_RANK 0
  let s := ((s.setReg R.SHD_BASE_LO 0).setReg R.SHD_BASE_HI 0).setReg R.SHD_ABSORB_LO 0
  (s.setReg R.SHD_ABSORB_HI 0).put F.SHD_STATUS_WAIT 0

/-- A cold restart or a configuration load. -/
def State.shadowCold (s : State) : State :=
  let s := (s.clearActive).put F.SHD_ACTIVE_BASE_GEN 0
  let s := s.pendDet.foldl (·.consume ·) s
  ({ s with shd := { s.shd with rebase := none, genTick := 0 } }.put F.SHD_STATUS_REB_ARMED 0).countPend

/-- A warm restart or a takeover to the checkpoint of tick n. -/
def State.shadowWarm (s : State) (n : Nat) : State :=
  let s := s.clearActive
  let s := (s.pendDet.filter fun d => decide (tget 0 s.shd.stamp d < n)).foldl (·.consume ·) s
  ({ s with shd := { s.shd with rebase := none } }.put F.SHD_STATUS_REB_ARMED 0).countPend

/-- A swap clears an ACTIVE whose entry the new image disables, and records it. -/
def State.shadowSwap (s : State) : State :=
  let a := s.f F.SHD_ACTIVE_ACTIVE
  if a ≠ 0 ∧ scenEn (s.scen a) = false then
    ((s.put F.SHD_ACTIVE_ACTIVE 0).put F.SHD_ACTIVE_RANK 0).event 0x0706 [a]
  else s

end Sys2Proof.Machine
end

