-- ==== Sys2Proof/Machine/Check.lean ====
section
/-!
DEFINITION. Machine/Check.lean: the checks of a configuration image (R206, R207, R213, R482 to R484), and those of a change of the tick
period (R19).
An image is judged on a copy of the state that has its program in the active bank and its settings in the registers it governs.
-/
namespace Sys2Proof.Machine

/-! ## Image-governed registers (R206) -/

/-- Registers that stand alone and that the manual says a load writes from the image. -/
def governedAlone : List Nat :=
  [R.TICK_PERIOD, R.TICK_STROBE, R.CML_PTBASE, R.CML_PTCNT, R.LOOP_GPIO_CMD_LO, R.LOOP_GPIO_CMD_HI, R.PAIR_CTRL, R.PAIR_ECL, R.REC_RLDEF,
   R.IRQ_TGTEN, R.IRQ_PARTLVL, R.GNSS_CTRL, R.GNSS_BL_X, R.GNSS_BL_Y, R.GNSS_BL_Z, R.GNSS_BL_CFG, R.GNSS_ANT0_X, R.GNSS_ANT0_Y,
   R.GNSS_ANT0_Z]

/-- Address a is one of `n` registers from `first`, `stride` apart. -/
def inArray (a first stride n : Nat) : Bool := decide (first ≤ a ∧ a < first + stride * n ∧ (a - first) % stride = 0)

/-- Every RW field of the register at address a is image-governed. -/
def governedAll (a : Nat) : Bool :=
  governedAlone.contains a || inArray a (R.PRISM_SCFG 0) 0x10 24 || inArray a (R.FILT_CH 0) 0x10 24 ||
  inArray a (R.CML_TCFG 0) 0x10 255 || inArray a (R.CML_TPER 0) 0x10 255 || inArray a (R.CML_TENT 0) 0x10 255 ||
  inArray a (R.SHD_SCEN 0) 4 64 || inArray a (R.SHD_MAP 0) 4 256 || inArray a (R.REC_RLCODE 0) 8 1024 || inArray a (R.REC_RLPAR 0) 8 1024 ||
  inArray a (R.IRQ_CFG 0) 8 256 || inArray a (R.IRQ_COAL 0) 8 256 || inArray a (R.TIME_LEAPLO 0) 0x10 32 ||
  inArray a (R.TIME_LEAPHI 0) 0x10 32 || inArray a (R.TIME_LEAPOFF 0) 0x10 32 || decide (blockOf a = 11) || decide (blockOf a = 12) ||
  decide (blockOf a = 16)

/-- The bits of a register that a load sets to their reset value before it applies the settings; of LOOP_AOCFGa only the class (R272). -/
def governedBits (a : Nat) : Word :=
  if inArray a (R.LOOP_AOCFG 0) 8 16 then BitVec.ofNat 32 (2 ^ 30)
  else if governedAll a then (match regInfo? a with | some r => BitVec.ofNat 32 r.rw | none => 0)
  else 0

/-- The word a governed register takes when the settings do not name it. -/
def governedWord (a : Nat) (w : Word) : Word := (w &&& ~~~(governedBits a)) ||| (regReset a &&& governedBits a)

/-! ## The state an image is judged on -/

/-- One register setting, as the bare word of its register or of problem memory. -/
def State.rawSetting (s : State) (e : Nat × Nat) : State :=
  let v := BitVec.ofNat 32 e.2
  if e.1 = R.TICK_PERIOD ∧ bitsOf v 1 0 = 3 then s
  else match regionOf e.1 with
    | .problem => s.wr e.1 4 e.2
    | .registers =>
      (match regInfo? e.1 with
       | some r => if e.1 % 4 = 0 then s.setReg e.1 (r.written (s.reg e.1) v) else s
       | none => s)
    | _ => s

/-- The copy of the state with the image of the slot at `h`. -/
def State.asImage (s : State) (h : Nat) : State :=
  let s := s.regs.foldl (fun s e => s.setReg e.1 (governedWord e.1 e.2)) { s with inForce := [] }
  (s.settings h).foldl (·.rawSetting ·) (s.fillBank h s.bankBase)

/-- A refusal's four words (R483). -/
abbrev Refused := Nat × Nat × Nat × Nat

/-- A condition that concerns entry n. -/
def offends (code n : Nat) : Refused := (code, 0, n, 0)

/-- The first answer that there is. -/
def firstOf {α : Type} : List (Option α) → Option α
  | [] => none
  | some x :: _ => some x
  | none :: l => firstOf l

/-- A capacity limit (R482). -/
def limit (code order count cap : Nat) : Option Refused := if cap < count then some (code, order, count, cap) else none

/-- The first entry of a list, in increasing number, of which a condition holds. -/
def firstBad (code : Nat) (l : List Nat) (bad : Nat → Bool) : Option Refused := (l.find? bad).map (offends code)

/-! ## The slot and its sections (R203, R204) -/

/-- The bytes used of the slot at `h`. -/
def State.usedBytes (s : State) (h : Nat) : Nat := s.rd (h + 4) 4

/-- The slot CRC passes over a number of bytes a slot can hold. -/
def State.slotCrcOk (s : State) (h : Nat) : Bool :=
  let n := s.usedBytes h
  decide (0x1000 ≤ n ∧ n ≤ slotSize) && decide (crc32c (s.rdBytes (h + 12) (n - 12)) = s.rd (h + 8) 4)

/-- The slot holds an image that could run: its CRC passes and its version is not 0 (R207). -/
def State.usableSlot (s : State) (h : Nat) : Bool := decide (s.rd h 4 ≠ 0) && s.slotCrcOk h

/-- Section i lies in the bytes used. -/
def Sect.inside (x : Sect) (used : Nat) : Bool := decide (x.off + x.psize ≤ used)

/-- Every section CRC that can be formed passes, then the rules of structure in their order (R204). -/
def State.checkSections (s : State) (h : Nat) : Option Refused :=
  let used := s.usedBytes h
  let n := s.rd (h + 0x24) 2
  let l := List.range (min 32 n)
  let bad := fun (f : Sect → Bool) => firstBad 0x12 l fun i => f (s.sect h i)
  firstOf [
    firstBad 0x01 l fun i =>
      let x := s.sect h i
      x.inside used && (match s.unpack h x with | some d => decide (crc32c d ≠ x.crc) | none => false),
    if 1 ≤ n ∧ n ≤ 32 then none else some (offends 0x12 0),
    bad fun x => decide (6 < x.kind),
    bad fun x => !x.inside used,
    bad fun x => decide (x.packing = 1) && (s.unpack h x).isNone,
    bad fun x => decide (x.packing ≠ 1) && decide (x.psize ≠ x.usize),
    bad fun x => decide (x.kind = 2) && decide (x.usize % 8 ≠ 0)]

/-! ## Variant (R8, R48, R248) -/

/-- The requirement bytes are met. -/
def State.variantOk (s : State) (h : Nat) : Bool :=
  let rank := match s.variant.grade with | .s => 0 | .m => 1 | .l => 2
  let g := s.rd (h + 0xC) 1
  let o := s.rd (h + 0xD) 1
  let p := s.rd (h + 0xE) 1
  (g = 0 || g = 0x53 || (g = 0x4D && decide (1 ≤ rank)) || (g = 0x4C && decide (rank = 2))) &&
  (o = 0 || o = 0x31 || (o = 0x32 && s.variant.gnss2)) &&
  (p = 0 || (p = 0x50 && s.variant.panelP) || (p = 0x58 && !s.variant.panelP))

/-- Scenario entry k as an image gives it, fused off or not. -/
def State.imageScen (s : State) (k : Nat) : Word := s.eff (R.SHD_SCEN k)

/-- The scenario entries that an image enables (R248). -/
def State.scens (s : State) : List Nat := (List.range 64).filter fun k => scenEn (s.imageScen k)

/-- The problems an entry names. -/
def State.scenProbs (s : State) (k : Nat) : List Nat :=
  let w := s.imageScen k
  if scenPredEn w then [scenAlloc w, scenPred w] else [scenAlloc w]

/-- n, m, p and g of a problem. -/
def State.shape (s : State) (q : Nat) : Option (Nat × Nat × Nat × Nat) := (s.azsDesc q).map fun d => (d.n, d.m, d.p, d.g)

/-- An entry's problems have the shapes of those that entry 0 names, enabled or not; where entry 0 has no predictive problem there is none to
compare with (R248). -/
def State.shapesOk (s : State) (k : Nat) : Bool :=
  let w0 := s.imageScen 0
  let w := s.imageScen k
  decide (s.shape (scenAlloc w) = s.shape (scenAlloc w0)) &&
    (!scenPredEn w || !scenPredEn w0 || decide (s.shape (scenPred w) = s.shape (scenPred w0)))

/-- The blocks of the DP library (R121, R256). -/
inductive LibBlock where
  | modeseq | observer | control | alarm | allocb | predb | conseq
deriving DecidableEq, Repr

def LibBlock.num (b : LibBlock) : Nat :=
  match b with | .modeseq => 0 | .observer => 1 | .control => 2 | .alarm => 3 | .allocb => 4 | .predb => 5 | .conseq => 6

def libBlocks : List LibBlock := [.modeseq, .observer, .control, .alarm, .allocb, .predb, .conseq]

/-- Instances an image may hold (R121, R256). -/
def LibBlock.most (b : LibBlock) : Nat :=
  match b with | .modeseq => 1 | .observer => 1 | .control => 1 | .alarm => 4 | .allocb => 64 | .predb => 64 | .conseq => 1

/-- Bytes of an instance, and of each item it holds beside them: alarm points, thrusters, scenario entries (R121, R256). -/
def LibBlock.size (b : LibBlock) : Nat × Nat :=
  match b with
  | .modeseq => (512, 0)
  | .observer => (1024, 0)
  | .control => (1024, 0)
  | .alarm => (256, 32)
  | .allocb => (4096, 64)
  | .predb => (8192, 0)
  | .conseq => (2048, 32)

/-- The items an instance of `size` bytes holds. -/
def LibBlock.items (b : LibBlock) (size : Nat) : Nat := (size - b.size.1) / b.size.2

/-- The library block whose body a type has: it is in ROM, at the block's entry. -/
def libOf (t : TypeEnt) : Option LibBlock := if t.rom then libBlocks.find? fun b => decide (t.entry = Config.romEntry b.num) else none

/-- Every defined instance, in increasing number. -/
def State.instances (s : State) : List (Nat × InstEnt) :=
  s.instNos.filterMap fun n => let e := s.instEnt n; if e.defined then some (n, e) else none

/-- Every defined instance of a defined type. -/
def State.typed (s : State) : List (Nat × InstEnt × TypeEnt) :=
  s.instances.filterMap fun x =>
    let t := s.typeEnt x.2.type
    if x.2.type < 4096 ∧ t.defined then some (x.1, x.2, t) else none

/-- Where the image's instance of a library block stands: the lowest-numbered, where there are more. -/
def State.libInst (s : State) (b : LibBlock) : Option Nat :=
  (s.typed.find? fun x => decide (libOf x.2.2 = some b)).map fun x => instBase + x.2.1.base

/-- The thrusters an image declares: an allocation builder's instance holds 64 bytes for each (R256; assumption log 34). -/
def State.thrusters (s : State) : Nat :=
  s.typed.foldl (fun n x => if libOf x.2.2 = some .allocb then max n (LibBlock.allocb.items x.2.2.size) else n) 0

/-- Most thrusters of the variant (R2). -/
def State.thrMax (s : State) : Nat := match s.variant.grade with | .s => 12 | .m => 20 | .l => 32

/-- The variant check, code 0x02; `t` is the judged copy. -/
def State.checkVariant (t : State) (h : Nat) : Option Refused :=
  let l := t.scens
  let named := (l.map t.scenProbs).flatten
  firstOf [
    if t.variantOk h then none else some (offends 0x02 0),
    limit 0x02 5 (l.filter (· ≠ 0)).length t.scenMax,
    limit 0x02 7 t.thrusters t.thrMax,
    firstBad 0x02 (List.range 24) fun n =>
      let w := t.scfg n
      scfgEn w && !t.variant.gnss2 && (decide (scfgKind w = 7) || (decide (scfgKind w = 6) && decide (scfgSrc w = 1))),
    firstBad 0x02 l fun k => decide (6 ≤ bitsOf (t.imageScen k) 30 28),
    firstBad 0x02 l fun k => (t.scenProbs k).any fun q => (t.azsDesc q).isNone,
    firstBad 0x02 l fun k => (t.scenProbs k).any fun q => decide (1 < named.count q),
    firstBad 0x02 l fun k => !t.shapesOk k]

/-! ## Instances, library, filters, tasks (R101, R122, R152, R179, R187) -/

/-- The instance-layout check, code 0x03. -/
def State.checkLayout (t : State) : Option Refused :=
  let l := t.typed
  let span := fun (x : Nat × InstEnt × TypeEnt) => (x.2.1.base, x.2.2.size)
  firstOf [
    limit 0x03 9 t.instances.length 65536,
    (l.find? fun x => l.any fun y => decide (x.1 ≠ y.1) && overlap (span x) (span y)).map fun x => offends 0x03 x.1,
    (l.find? fun x => decide (0x400000 < x.2.1.base + x.2.2.size)).map fun x => offends 0x03 x.1,
    (t.instances.find? fun x => !(l.any fun y => decide (x.1 = y.1))).map fun x => offends 0x03 x.1]

/-- The library counts, code 0x04: the first instance beyond what its type allows. -/
def State.checkLibrary (t : State) : Option Refused :=
  let l := t.typed.filterMap fun x => (libOf x.2.2).map fun b => (x.1, b)
  (l.find? fun x => decide (x.2.most < (l.filter fun y => decide (y.2 = x.2) && decide (y.1 ≤ x.1)).length)).map fun x => offends 0x04 x.1

/-- The filter pairing, code 0x05: both inputs of an enabled stream of KIND 0x1 have the same FIR and Glint settings. -/
def State.checkPairing (t : State) : Option Refused :=
  firstBad 0x05 (List.range 24) fun n =>
    let w := t.scfg n
    let i := scfgSrc w
    scfgEn w && decide (scfgKind w = 1) && decide (i < 23) &&
      !(decide (bitsOf (t.reg (R.FILT_CH i)) 30 0 = bitsOf (t.reg (R.FILT_CH (i + 1))) 30 0) &&
        decide (t.reg (R.FILT_GL i) = t.reg (R.FILT_GL (i + 1))))

/-- The context that an enabled task waits for through AFTER. -/
def State.afterOf (t : State) (c : Nat) : Option Nat :=
  let w := t.tcfg c
  if bitsOf w 31 31 = 1 ∧ cfgAfterEn w then some (cfgAfter w) else none

/-- Following AFTER links from x leads back to c. -/
def State.cycles (t : State) (c : Nat) : Nat → Nat → Bool
  | 0, _ => false
  | n + 1, x => match t.afterOf x with
    | some y => decide (y = c) || t.cycles c n y
    | none => false

/-- The task descriptors, code 0x06. -/
def State.checkTasks (t : State) : Option Refused :=
  let l := (List.range 255).filter fun c => bitsOf (t.tcfg c) 31 31 = 1
  firstOf [
    limit 0x06 8 ((List.range 256).filter fun c => bitsOf (t.tcfg c) 31 31 = 1).length 255,
    limit 0x06 10 ((List.range 32).filter fun k => t.b (F.IRQ_CFG_EN (200 + k))).length 32,
    firstBad 0x06 l fun c => match t.afterOf c with | some y => decide (cfgPhase (t.tcfg y) ≠ cfgPhase (t.tcfg c)) | none => false,
    firstBad 0x06 l fun c => t.cycles c 256 c,
    firstBad 0x06 l fun c => decide (6 ≤ cfgCore (t.tcfg c))]

/-! ## Tables (R217), CAN, network and panel -/

/-- Entry i of a table directory, as an address in the bank; none for an absent table. -/
def State.tableOf (s : State) (bank i : Nat) : Option Nat :=
  let o := s.rd (bank + 0x440 + 4 * i) 4
  if o = 0 then none else some (bank + o)

/-- The limits of a state machine, of a sentence format and of a curve. -/
def State.machineOk (s : State) (a : Nat) : Bool :=
  let st := s.rd a 1 + 1
  let ev := s.rd (a + 1) 1
  decide (1 ≤ ev ∧ ev ≤ 32) && (List.range (st * ev)).all fun i =>
    let e := s.rd (a + 8 + 2 * i) 2
    decide (e = 0xFFFF) || decide (e % 256 < st)

def State.sentenceOk (s : State) (a : Nat) : Bool := let n := s.rd (a + 5) 1; decide (1 ≤ n ∧ n ≤ 32)

def State.curveOk (s : State) (a : Nat) : Bool :=
  let n := s.rd a 1
  decide (2 ≤ n ∧ n ≤ 64) && (List.range (n - 1)).all fun i => dLt (s.rd (a + 8 + 16 * i) 8) (s.rd (a + 8 + 16 * (i + 1)) 8)

/-- Table i of the directory keeps its limits. -/
def State.tableKept (s : State) (bank i : Nat) : Bool :=
  match s.tableOf bank i with
  | none => true
  | some a => if i < 64 then s.machineOk a else if i < 192 then s.sentenceOk a else s.curveOk a

/-- The controllers whose registers are in use: an enabled even controller with DUP speaks for its twin. -/
def State.canOnes (s : State) : List Nat := (List.range 8).filter fun k => s.b (F.CAN_CTRL_EN k) && decide (s.canReg k = k)

/-- CYCLE_LEN equals a period in µs (R407). -/
def State.cycleLenOk (s : State) (k us : Nat) : Bool := decide (bitsOf (s.eff (R.CAN_TTCYC k)) 31 16 = us)

/-- Controller k takes its cycles from the tick. -/
def State.tickLocked (s : State) (k : Nat) : Bool := bitsOf (s.eff (R.CAN_TT k)) 29 29 = 1

/-- Command buffer b is bound to a window that is on, which starts, counted from the Strobe of its cycle's tick, at or after the Release and before
the end of a tick of `us` µs (R19, R407, R410). -/
def State.cmdWindowOk (s : State) (k b us : Nat) : Bool :=
  let w := bitsOf (s.txcfg k b) 29 24
  let t := bitsOf (s.eff (R.CAN_TTCYC k)) 15 0 + s.winStart k w
  bitsOf (s.txcfg k b) 23 23 = 1 && s.winOn k w && decide (us * 8 ≤ t * 10 ∧ t < us)

/-- A command buffer meets R410 on a tick of `us` µs. -/
def State.cmdBufferOk (s : State) (k b us : Nat) : Bool :=
  let c := s.txcfg k b
  let w := bitsOf c 29 24
  let e := s.eff (R.CAN_WENT k w)
  decide (bitsOf e 30 29 = 1) && decide (bitsOf e 15 13 = 0) &&
    (decide (s.canRole k = 1) || decide (s.canRole k = 3)) && s.tickLocked k && s.cmdWindowOk k b us

/-- The command buffers of a controller. -/
def State.cmdBuffers (s : State) (k : Nat) : List Nat := (List.range 32).filter (s.canCommand k ·)

/-- The table check, code 0x08.  The limits 2, 3, 4 and 6 of R482 are the numbers of registers there are: no image exceeds them. -/
def State.checkTable (t : State) (h : Nat) : Option Refused :=
  let us := t.periodUs
  let kinds := t.sects h
  let sec := fun (kind : Nat) =>
    (((List.range kinds.length).zip kinds).filter fun x => decide (x.2.kind = kind)).map Prod.fst
  let can := List.range 8
  let ents := t.grzEntries
  let own := ents.filter fun n => !t.b (F.GRZ_SADR_BCAST n)
  let uses := fun (v : Nat) => ((List.range 2).filter fun p => (t.reg (R.NET_PRP p)).getLsbD (25 + v)).length
  firstOf [
    limit 0x08 1 ents.length 2048,
    if 190 * us < t.grzBurst then some (0x08, 12, (t.grzBurst + 999) / 1000, 19 * us / 100) else none,
    (sec 5)[1]?.map (offends 0x08),
    (sec 6)[1]?.map (offends 0x08),
    firstBad 0x08 (List.range 448) fun i => !t.tableKept t.bankBase i,
    firstBad 0x08 t.canOnes fun k => t.canOnes.any fun j => decide (j ≠ k) && overlap (t.canRam k, 0x2000) (t.canRam j, 0x2000),
    firstBad 0x08 can fun k => t.tickLocked k && (!t.cycleLenOk k us || decide (t.canRole k = 2)),
    firstBad 0x08 can fun k => (t.cmdBuffers k).any fun b => !t.cmdBufferOk k b us,
    if [0, 1, 2, 3].all fun v => uses v = 1 then none else some (offends 0x08 0),
    firstBad 0x08 own fun n => own.any fun m => decide (m ≠ n) && decide (t.f (F.GRZ_SADR_ADDR m) = t.f (F.GRZ_SADR_ADDR n)),
    firstBad 0x08 ents fun n => decide (1440 < t.f (F.GRZ_SPI_LEN n)) || decide (1440 < t.f (F.GRZ_SPO_LEN n)),
    firstBad 0x08 ents fun n => decide (0x80000 < 8 * t.f (F.GRZ_SPI_OFF n) + t.f (F.GRZ_SPI_LEN n)) ||
      decide (0x80000 < 8 * t.f (F.GRZ_SPO_OFF n) + t.f (F.GRZ_SPO_LEN n)),
    firstBad 0x08 ents fun n => t.b (F.GRZ_SCFG_ERR_EN n) && !t.softTask (t.f (F.GRZ_SCFG_ERRCTX n)),
    if t.lanExists then firstBad 0x08 [1, 2, 3] fun z => t.zoneOn z &&
        (decide (t.lanH ≤ t.f (F.LAN_ZONE_START z)) ||
         (List.range z).any fun y => t.zoneOn y && decide (t.f (F.LAN_ZONE_START z) ≤ (if y = 0 then 0 else t.f (F.LAN_ZONE_START y))))
      else none,
    if t.lanExists ∧ !t.thOrdered then some (offends 0x08 0) else none]

/-! ## The whole check (R206, R207) -/

/-- The first step of a load on the slot at `h`; `fresh` where its version must differ from the Lit version. -/
def State.imageCheck (s : State) (h : Nat) (fresh : Bool) : Option Refused :=
  let ver := s.rd h 4
  if ver = 0 then some (offends 0x0B 0)
  else if fresh ∧ ver = (s.reg R.PRG_LIT_VER).toNat then some (offends 0x07 0)
  else if s.slotCrcOk h = false then some (offends 0x01 0)
  else match s.checkSections h with
    | some x => some x
    | none =>
      let t := s.asImage h
      firstOf [t.checkVariant h, t.checkLayout, t.checkLibrary, t.checkPairing, t.checkTasks, t.checkTable h]

/-! ## The further checks of a staging (R213, R215) -/

/-- Copier time of the entries of a migration table in tenths of a ns: 64 bytes a ns for COPY and INIT, and 2 ns an entry. -/
def copierTime (l : List (Nat × Nat)) : Nat :=
  (l.foldl (fun n e => if e.1 ≤ 1 then n + e.2 else n) 0) * 10 / 64 + 20 * l.length

/-! ## A change of the tick period (R18, R19) -/

/-- The period in µs that SEL 0 to 2 stands for. -/
def selUs (sel : Nat) : Nat := if sel = 0 then 5000 else if sel = 1 then 10000 else 20000

/-- Why a period of `us` µs is not accepted: of the enabled controllers with TICKLOCK 1, 1 the CAN cycle length, 2 the command-window
placement; 3 the output burst (R19). -/
def State.periodReason (s : State) (us : Nat) : Option Nat :=
  let locked := s.canOnes.filter s.tickLocked
  if locked.any fun k => !s.cycleLenOk k us then some 1
  else if locked.any fun k => (s.cmdBuffers k).any fun b => !s.cmdWindowOk k b us then some 2
  else if 190 * us < s.grzBurst then some 3
  else none

/-- TICK_PERIOD_WRITE: in Stop and with SEL 0 to 2 an accepted period takes effect at the next boundary; any other write is recorded. -/
def State.periodWrite (s : State) (m : Master) (v : Word) : State :=
  let sel := bitsOf v 1 0
  if s.mode ≠ .stop ∨ sel = 3 then s.recordWrite m R.TICK_PERIOD v
  else match s.periodReason (selUs sel) with
    | some r => s.recordWrite m R.TICK_PERIOD v r
    | none => { s with tick := { s.tick with newPeriod := some sel } }

/-- TICK_PERIOD_WRITE (R19). -/
def execTickPeriodWrite (m : Master) (v : Word) (s : State) : Host.Outcome State Fault Refusal := .next (s.periodWrite m v)

end Sys2Proof.Machine
end

