-- ==== Sys2Proof/Machine/CmlRegs.lean ====
section
/-!
DEFINITION. Machine/CmlRegs.lean: writes of the CML block that act on contexts (R177, R178, R182, R185 to R187).
-/
namespace Sys2Proof.Machine

/-- A write of CML_EXC: clearing VALID clears COUNT and CML_EXC_PC (R185). -/
def State.excClear (s : State) (v : Word) : State :=
  if v.getLsbD 0 then ((s.put F.CML_EXC_VALID 0).put F.CML_EXC_COUNT 0).setReg R.CML_EXC_PC 0 else s

/-- EXC_VALID_CLEAR (R185). -/
def execExcValidClear (_m : Master) (v : Word) (s : State) : Host.Outcome State Fault Refusal := .next (s.excClear (v ||| 1))

/-- A write of 1 to CML_TSTATc.SUSP releases a task suspended by an exception: its activation is over, with its run time in RUN_US, and a
pending one starts (R185, R187; assumption log 35). -/
def State.suspRelease (s : State) (c : Nat) : State :=
  if s.b (F.CML_TSTAT_SUSP c) then
    let s := s.put (F.CML_TSTAT_SUSP c) 0
    if s.f (F.CML_TSTAT_STATE c) = 5 then
      let s := s.put (F.CML_TSTAT_RUN_US c) (min 0xFFFF ((s.act? c).elim 0 Act.run / 500))
      let s := { s.put (F.CML_TSTAT_STATE c) 0 with cml := { s.cml with acts := tdel s.cml.acts c } }
      if s.cml.held.contains c then
        (({ s with cml := { s.cml with held := s.cml.held.filter (· ≠ c) } }).newAct c).sched
      else s.sched
    else s
  else s

/-- A write of CML_TSTATc: STOPPED clears where 1 is written, and SUSP releases. -/
def State.tstatWrite (s : State) (c : Nat) (v : Word) : State :=
  let s := if v.getLsbD 6 then s.put (F.CML_TSTAT_STOPPED c) 0 else s
  if v.getLsbD 5 then s.suspRelease c else s

/-- SUSP_RELEASE (R185). -/
def execSuspRelease (_m : Master) (c : Ctx) (v : Word) (s : State) : Host.Outcome State Fault Refusal :=
  .next (s.tstatWrite c.toNat (v ||| 32))

/-- A write of CML_TRIG triggers a free task with TRIG software; any other write is ignored and recorded (R178, R187). -/
def State.trigWrite (s : State) (m : Master) (v : Word) : State :=
  let c := bitsOf v 7 0
  if s.softTask c then (s.activate c).sched else s.recordWrite m R.CML_TRIG v

/-- CML_TRIG_WRITE (R178). -/
def execCmlTrigWrite (m : Master) (v : Word) (s : State) : Host.Outcome State Fault Refusal := .next (s.trigWrite m v)

/-- CML_DBG.RESUME: a context suspended at a breakpoint goes on, and executes the instruction it stands at (R186). -/
def State.dbgResume (s : State) (c : Nat) : State :=
  if s.atBreak c then ((s.put (F.CML_TSTAT_STATE c) 1).modAct c ({ · with skip := true })).sched else s

/-- CML_DBG_RESUME (R186). -/
def execCmlDbgResume (_m : Master) (v : Word) (s : State) : Host.Outcome State Fault Refusal := .next (s.dbgResume (bitsOf v 7 0))

/-- A write of CML_DBG: RESUME, or STEP, which the command that made the write carries out (R186). -/
def State.dbgWrite (s : State) (v : Word) : State :=
  let c := bitsOf v 7 0
  if v.getLsbD 31 then s.dbgResume c
  else if v.getLsbD 30 ∧ s.atBreak c then { s with cml := { s.cml with steps := s.cml.steps ++ [c] } }
  else s

/-- A write of a task descriptor: in Run it applies from the next tick, in Stop and Hold at once (R177). -/
def State.taskWrite (s : State) (a : Nat) (v : Word) : State :=
  if s.mode = .run then s.setLater a (s.plain a v) else s.writeReg a v

end Sys2Proof.Machine
end

