-- ==== Sys2Proof/Machine/Gnss.lean ====
section
/-!
DEFINITION. Machine/Gnss.lean: the GNSS baseband (R371 to R389).  What the antennas and the signal processing deliver (detections, the
solutions of an epoch, decoded messages) are operands; what the module does with them is here.
-/
namespace Sys2Proof.Machine

/-! ## Chains and channels (R372 to R376) -/

def sysBit (y : GnssSys) : Nat := match y with | .gps => 0 | .galileo => 1 | .beidou => 2 | .glonass => 3

/-- The baseband runs. -/
def State.gnssOn (s : State) : Bool := s.b F.GNSS_CTRL_EN && !s.b F.GNSS_STATUS_SLEEP && !s.dark

/-- Chain c runs: chain 1 only on option 2 with CH1_EN (R372). -/
def State.chainRuns (s : State) (c : Nat) : Bool :=
  s.gnssOn && (decide (c = 0) || (s.variant.gnss2 && s.b F.GNSS_CTRL_CH1_EN))

/-- The constellation is enabled, by the word in force since the last Strobe (R373). -/
def State.sysOn (s : State) (y : GnssSys) : Bool := (s.eff R.GNSS_CTRL).getLsbD (16 + sysBit y)

def State.elevMask (s : State) : Nat := min 45 (bitsOf (s.eff R.GNSS_CTRL) 7 0)

/-- A channel of chain c is in lock. -/
def State.inLock (s : State) (c : Nat) : Bool := s.gnss.channels.any fun x => decide (x.chain = c ∧ x.track = .locked)

/-- MONO since which a chain has no channel in lock (R376). -/
def State.noteLock (s : State) : State :=
  [0, 1].foldl (fun s c =>
    let u := s.gnss.unlocked
    { s with gnss := { s.gnss with unlocked := if s.inLock c then tdel u c else if (tget? u c).isSome then u else tput u c s.mono } }) s

/-- GNSS_TRKc counts the signals in lock and those without a channel. -/
def State.showTrk (s : State) : State :=
  let s := s.noteLock
  [0, 1].foldl (fun s c =>
    let n := fun b => (s.gnss.channels.filter fun x => decide (x.chain = c ∧ x.band2 = b ∧ x.track = .locked)).length
    let u := (s.gnss.untracked.filter (·.chain = c)).length
    ((s.put (F.GNSS_TRK_B1 c) (n false)).put (F.GNSS_TRK_B2 c) (n true)).put (F.GNSS_TRK_UNTRK c) (min 255 u)) s

def sameSignal (c : Nat) (y : GnssSys) (sat : Nat) (b2 : Bool) (x : Channel) : Bool :=
  decide (x.chain = c ∧ x.sys = y ∧ x.sat = sat ∧ x.band2 = b2)

/-- Give a signal a channel of its chain, or count it as untracked (R373). -/
def State.giveChannel (s : State) (x : Channel) : State :=
  let rest := s.gnss.channels.filter fun y => !sameSignal x.chain x.sys x.sat x.band2 y
  let wait := s.gnss.untracked.filter fun y => !sameSignal x.chain x.sys x.sat x.band2 y
  if 128 ≤ (rest.filter (·.chain = x.chain)).length then { s with gnss := { s.gnss with untracked := wait ++ [x] } }.showTrk
  else { s with gnss := { s.gnss with channels := rest ++ [x], untracked := wait } }.showTrk

/-- The order in which waiting signals get a channel: decreasing elevation, and band 1 of a satellite before its band 2 (R373). -/
def waitsBefore (x y : Channel) : Bool := decide (y.elev < x.elev) || (decide (y.elev = x.elev) && !x.band2 && y.band2)

/-- Put a signal into that order. -/
def waitInsert (x : Channel) : List Channel → List Channel
  | [] => [x]
  | y :: l => if waitsBefore y x then y :: waitInsert x l else x :: y :: l

/-- A channel that has become free goes to a waiting signal, which searches near what was found of it (R373, R376). -/
def State.placeWaiting (s : State) : State :=
  [0, 1].foldl (fun s c =>
    let free := 128 - (s.gnss.channels.filter (·.chain = c)).length
    let l := (((s.gnss.untracked.filter (·.chain = c)).foldl (fun l x => waitInsert x l) []).take free).map fun x =>
      { x with track := Track.searching, lostAt := s.mono }
    let got := fun (x : Channel) => l.any (sameSignal x.chain x.sys x.sat x.band2)
    { s with gnss := { s.gnss with channels := s.gnss.channels ++ l, untracked := s.gnss.untracked.filter fun x => !got x } }) s

/-- Channels that do not stay are released, and waiting signals placed (R373). -/
def State.keepChannels (s : State) (stays : Channel → Bool) : State :=
  ({ s with gnss := { s.gnss with channels := s.gnss.channels.filter stays, untracked := s.gnss.untracked.filter stays } }.placeWaiting).showTrk

/-- A chain switched off and, with B2_EN at 0, band 2 are not tracked (R372, R375). -/
def State.fed (s : State) (x : Channel) : Bool := s.chainRuns x.chain && (!x.band2 || s.b F.GNSS_CTRL_B2_EN)

/-- A write of GNSS_CTRL releases at once what it leaves without a chain or a band; constellations and the mask wait for the Strobe (R373, R375). -/
def State.dropUnfed (s : State) : State := s.keepChannels s.fed

/-- The code segments of 1 ms that a search tries (R371). -/
def codeSegments (y : GnssSys) : Nat := match y with | .galileo => 4 | .beidou => 10 | _ => 1

/-- Passes that the search of a satellite takes: NC for each segment of its code (R374). -/
def State.acqPasses (s : State) (y : GnssSys) : Nat := codeSegments y * min 20 (max 1 (s.f F.GNSS_ACQ_NC))

/-- The search under way for a satellite of a chain, or a new one. -/
def State.acqTarget (s : State) (c : Nat) (y : GnssSys) (sat : Nat) : Acq :=
  match s.gnss.acq with
  | some x => if x.chain = c ∧ x.sys = y ∧ x.sat = sat then x else ⟨c, y, sat, 0, [], false⟩
  | none => ⟨c, y, sat, 0, [], false⟩

/-- ACQUISITION_PASS: one pass for a satellite of a chain gives `out`; NC consecutive ones of a segment are summed, and after every segment of its
code one sum must have reached THR, and the signal is given a channel (R373, R374).  The code phase and Doppler found are the signal's, and free. -/
def State.acqPass (s : State) (c : Nat) (y : GnssSys) (sat out elev : Nat) : State :=
  if s.chainRuns c && s.sysOn y && decide (s.elevMask ≤ elev) then
    let x := s.acqTarget c y sat
    let outs := x.outs ++ [out]
    let full := decide (s.acqPasses .gps ≤ outs.length)
    let hit := x.hit || (full && decide (s.f F.GNSS_ACQ_THR ≤ Config.acqCn0 outs))
    if x.passes + 1 < s.acqPasses y then
      { s with gnss := { s.gnss with acq := some { x with passes := x.passes + 1, outs := if full then [] else outs, hit := hit } } }
    else
      let s := { s with gnss := { s.gnss with acq := none } }
      if hit then
        let (code, s) := s.draw (2 ^ 32)
        let (dop, s) := s.draw 20000001
        s.giveChannel { chain := c, sys := y, sat := sat, band2 := false, elev := elev, track := .locked, code := code, doppler := (dop : Int) - 10000000 }
      else s
  else s

/-- ACQUISITION_PASS (R374). -/
def execAcquisitionPass (c : Chain) (sys : GnssSys) (sat : Sat) (out elev : Nat) (s : State) : Host.Outcome State Fault Refusal :=
  .next (s.acqPass c.val sys sat.toNat out elev)

/-- BAND2_HANDOVER: a band-2 channel starts from the code phase of the band-1 channel in lock of the same satellite and from its Doppler scaled by
the carriers (R375). -/
def State.band2 (s : State) (c : Nat) (y : GnssSys) (sat : Nat) : State :=
  match s.gnss.channels.find? (sameSignal c y sat false) with
  | some x =>
    if s.chainRuns c && s.b F.GNSS_CTRL_B2_EN && decide (y ≠ .glonass) && decide (x.track = .locked) then
      s.giveChannel { x with band2 := true, doppler := x.doppler * 117645 / 157542, carrier := 0, cn0 := 0, low := none }
    else s
  | none => s

/-- BAND2_HANDOVER (R375). -/
def execBand2Handover (c : Chain) (sys : GnssSys) (sat : Sat) (s : State) : Host.Outcome State Fault Refusal :=
  .next (s.band2 c.val sys sat.toNat)

/-- What happens to a channel of a signal, or nothing. -/
def State.onChannel (s : State) (c : Nat) (y : GnssSys) (sat : Nat) (b2 : Bool) (g : Channel → State) : State :=
  match s.gnss.channels.find? (sameSignal c y sat b2) with
  | some x => g x
  | none => s

/-- LOSS_OF_LOCK: a channel whose C/N0 has been below 25 dB-Hz for 200 ms searches near its prediction (R376). -/
def State.loseLock (s : State) (c : Nat) (y : GnssSys) (sat : Nat) (b2 : Bool) : State :=
  s.onChannel c y sat b2 fun x =>
    match x.low, x.track with
    | some t, .locked =>
      s.whenDue (s.cyclesTo 0 (t + 200000 * usUnits)) fun s =>
        let now := s.mono
        let l := s.gnss.channels.map fun x => if sameSignal c y sat b2 x then { x with track := Track.searching, lostAt := now } else x
        { s with gnss := { s.gnss with channels := l } }.showTrk
    | _, _ => s

/-- LOSS_OF_LOCK (R376). -/
def execLossOfLock (c : Chain) (sys : GnssSys) (sat : Sat) (band2 : Bool) (s : State) : Host.Outcome State Fault Refusal :=
  .next (s.loseLock c.val sys sat.toNat band2)

/-- LOCAL_SEARCH_END: 2 s after the loss the satellite of a channel that still searches returns to the full search (R376). -/
def State.endSearch (s : State) (c : Nat) (y : GnssSys) (sat : Nat) (b2 : Bool) : State :=
  s.onChannel c y sat b2 fun x =>
    match x.track with
    | .searching =>
      s.whenDue (s.cyclesTo 0 (x.lostAt + 2 * nsPerSec)) fun s =>
        let s := { s with gnss := { s.gnss with channels := s.gnss.channels.filter fun x => !sameSignal c y sat b2 x } }
        s.placeWaiting.showTrk
    | _ => s

/-- LOCAL_SEARCH_END (R376). -/
def execLocalSearchEnd (c : Chain) (sys : GnssSys) (sat : Sat) (band2 : Bool) (s : State) : Host.Outcome State Fault Refusal :=
  .next (s.endSearch c.val sys sat.toNat band2)

/-- A GNSS source asserts, and its event is recorded (R389). -/
def State.gnssSource (s : State) (n : Nat) (items : List Nat) : State := (s.event (0x0900 + (n - 104)) items).assertSrc n

/-! ## Starts and kept data (R387) -/

/-- The age of kept data in seconds of the calendar clock. -/
def State.calAge (s : State) (t : Nat) : Nat := s.aon.cal.sec - t

/-- The kept ephemerides that are usable: at most 2 h old, for GLONASS 30 min. -/
def State.usableEph (s : State) : List (GnssSys × Nat × Nat) :=
  s.gnss.eph.filter fun e => decide (s.calAge e.2.2 ≤ (if e.1 = .glonass then 1800 else 7200))

/-- The satellite was last seen above the mask. -/
def State.aboveMask (s : State) (y : GnssSys) (sat : Nat) : Bool :=
  s.gnss.elevs.any fun e => decide (e.1 = y ∧ e.2.1 = sat ∧ s.elevMask ≤ e.2.2)

/-- The kept data allow a hot start now. -/
def State.hotOk (s : State) : Bool :=
  s.aon.calValid && decide (5 ≤ (s.usableEph.filter fun e => s.aboveMask e.1 e.2.1).length) &&
  (match s.gnss.position with | some t => decide (s.calAge t ≤ 14400) | none => false)

/-- The kept data allow a warm start now: the almanac is as old as its oldest satellite's (DEDUCED: assumption log 73). -/
def State.warmOk (s : State) : Bool :=
  s.aon.calValid && s.gnss.position.isSome && !s.gnss.almanac.isEmpty && s.gnss.almanac.all fun e => decide (s.calAge e.2.2 ≤ 2592000)

/-- The word of GNSS_KEPT. -/
def State.keptWord (s : State) : Nat :=
  min 255 s.usableEph.length * 2 ^ 24 + (match s.gnss.position with | some t => min 0xFFFF (s.calAge t) | none => 0xFFFF)

/-- The fastest start the kept data allow: 1 hot, 2 warm, 3 cold. -/
def State.fastest (s : State) : Nat := if s.hotOk then 1 else if s.warmOk then 2 else 3

/-- A trusted fix or heading is gained or lost (R389). -/
def State.setFix (s : State) (x : Fld) (src : Nat) (items : List Nat) (v : Bool) : State :=
  if s.b x = v then s else (s.putb x v).gnssSource src items

/-- Chain c is not trusted, nor is the heading, and it uses no satellite. -/
def State.dropFix (s : State) (c : Nat) : State :=
  let s := if c = 0 then (s.setFix F.GNSS_STATUS_FIX0 104 [0] false).put F.GNSS_STATUS_SATS0 0
    else (s.setFix F.GNSS_STATUS_FIX1 105 [1] false).put F.GNSS_STATUS_SATS1 0
  s.setFix F.GNSS_STATUS_HFIX 106 [] false

/-- No chain is trusted. -/
def State.dropFixes (s : State) : State := (s.dropFix 0).dropFix 1

/-- Chain c acquires anew, and of chain 0 TTFF runs. -/
def State.chainStart (s : State) (c : Nat) : State :=
  let now := s.mono
  let other := fun (x : Channel) => decide (x.chain ≠ c)
  let s := { s.dropFix c with gnss := { (s.dropFix c).gnss with
    channels := s.gnss.channels.filter other, untracked := s.gnss.untracked.filter other, unlocked := tput s.gnss.unlocked c now,
    acq := match s.gnss.acq with | some x => if x.chain = c then none else some x | none => none } }
  if c = 0 then { s with gnss := { s.gnss with startAt := now } }.put F.GNSS_TTFF_TTFF 0xFFFFFFFF else s

/-- A start of the given kind: both chains acquire anew. -/
def State.gnssStart (s : State) (kind : Nat) : State :=
  let s := if s.b F.GNSS_STATUS_SLEEP then (s.put F.GNSS_STATUS_SLEEP 0).gnssSource 110 [] else s
  (((s.chainStart 0).chainStart 1).showTrk).put F.GNSS_STATUS_LAST_START kind

/-- A start command: 1 fastest, 2 hot, 3 warm, 4 cold. -/
def State.startCommand (s : State) (k : Nat) : State :=
  if !s.b F.GNSS_CTRL_EN then s
  else match k with
    | 2 => if s.hotOk then s.gnssStart 1 else (s.event 0x0908 [2]).gnssStart s.fastest
    | 3 => if s.hotOk || s.warmOk then s.gnssStart 2 else (s.event 0x0908 [3]).gnssStart s.fastest
    | 4 => { s with gnss := { s.gnss with eph := [], almanac := [], position := none, place := [], drift := none, elevs := [], glonass := [] } }.gnssStart 3
    | _ => s.gnssStart s.fastest

/-- NO_LOCK_RESTART: a chain with no channel in lock for 10 s asserts source 111 and starts again (R376). -/
def State.noLock (s : State) (c : Nat) : State :=
  match tget? s.gnss.unlocked c with
  | some t =>
    if s.chainRuns c then
      s.whenDue (s.cyclesTo 0 (t + 10 * nsPerSec)) fun s =>
        (((s.gnssSource 111 [c]).chainStart c).showTrk).put F.GNSS_STATUS_LAST_START s.fastest
    else s
  | none => s

/-- NO_LOCK_RESTART (R376). -/
def execNoLockRestart (c : Chain) (s : State) : Host.Outcome State Fault Refusal := .next (s.noLock c.val)

/-- FIRST_FIX: the first trusted fix of chain 0 after a start sets GNSS_TTFF (R387). -/
def State.firstFix (s : State) : State :=
  if s.b F.GNSS_STATUS_FIX0 && decide (s.f F.GNSS_TTFF_TTFF = 0xFFFFFFFF) then
    (s.put F.GNSS_TTFF_TTFF ((s.mono - s.gnss.startAt) / (1000000 * 2 ^ 32))).gnssSource 108 []
  else s

/-- FIRST_FIX (R387). -/
def execFirstFix (s : State) : Host.Outcome State Fault Refusal := .next s.firstFix

/-! ## Fixes and sleep (R388) -/

/-- Enter sleep: chains and baseband are unpowered, the kept data stay. -/
def State.gnssSleep (s : State) : State :=
  if s.b F.GNSS_STATUS_SLEEP then s
  else
    let g := { s.gnss with channels := [], untracked := [], acq := none, woken := false, noFix := 0, velBad := [], power := [], hfix := 0 }
    let s := { s with gnss := { g with sleepAt := s.mono, unlocked := [] } }
    ((s.dropFixes.showTrk).put F.GNSS_STATUS_SLEEP 1).gnssSource 110 []

/-- Leave sleep with a start (R388). -/
def State.gnssWake (s : State) (kind : Nat) : State := if s.b F.GNSS_STATUS_SLEEP then s.gnssStart kind else s

/-- A write of GNSS_CMD (R387, R388). -/
def State.gnssCmdWrite (s : State) (m : Master) (v : Word) : State :=
  if bitsOf v 31 16 ≠ 0x474E then s.recordWrite m R.GNSS_CMD v
  else match bitsOf v 3 0 with
    | 1 => s.startCommand 1
    | 2 => s.startCommand 2
    | 3 => s.startCommand 3
    | 4 => s.startCommand 4
    | 5 => { s.gnssSleep with gnss := { s.gnssSleep.gnss with manual := true } }
    | 6 => { s.gnssWake s.fastest with gnss := { (s.gnssWake s.fastest).gnss with manual := true } }
    | _ => s.recordWrite m R.GNSS_CMD v

/-- The word of a GNSS command. -/
def gnssCmd (k : Nat) : Word := BitVec.ofNat 32 (0x474E0000 + k)

/-- FASTEST_START (R387). -/
def execFastestStart (m : Master) (s : State) : Host.Outcome State Fault Refusal := .next (s.gnssCmdWrite m (gnssCmd 1))
/-- HOT_START (R387). -/
def execHotStart (m : Master) (s : State) : Host.Outcome State Fault Refusal := .next (s.gnssCmdWrite m (gnssCmd 2))
/-- WARM_START (R387). -/
def execWarmStart (m : Master) (s : State) : Host.Outcome State Fault Refusal := .next (s.gnssCmdWrite m (gnssCmd 3))
/-- COLD_START (R387). -/
def execColdStart (m : Master) (s : State) : Host.Outcome State Fault Refusal := .next (s.gnssCmdWrite m (gnssCmd 4))
/-- GNSS_SLEEP_CMD (R388). -/
def execGnssSleepCmd (m : Master) (s : State) : Host.Outcome State Fault Refusal := .next (s.gnssCmdWrite m (gnssCmd 5))
/-- GNSS_WAKE_CMD (R388). -/
def execGnssWakeCmd (m : Master) (s : State) : Host.Outcome State Fault Refusal := .next (s.gnssCmdWrite m (gnssCmd 6))

/-- The role that sleeps: a standby in Penumbra with SLEEP_EN, with no SLEEP or WAKE command since the last change of role. -/
def State.sleepRole (s : State) : Bool :=
  !s.gnss.manual &&
  decide (s.f F.PAIR_STATUS_ROLE = 2) && !s.b F.PAIR_CTRL_MODE && s.b F.GNSS_CTRL_SLEEP_EN && s.b F.GNSS_CTRL_EN

/-- A wake's refresh is over: every satellite tracked has an ephemeris at most 30 min old, or 30 s have passed (R388). -/
def State.refreshed (s : State) : Bool :=
  decide (s.gnss.startAt + 30 * nsPerSec ≤ s.mono) ||
  s.gnss.channels.all fun x => s.gnss.eph.any fun e => decide (e.1 = x.sys ∧ e.2.1 = x.sat) && decide (s.calAge e.2.2 ≤ 1800)

/-- GNSS_SLEEP: at the end of the first Keep in the role; after a wake, once its refresh is over and its first fix has come (R388). -/
def State.roleSleep (s : State) : State :=
  if !s.sleepRole || s.b F.GNSS_STATUS_SLEEP then s
  else if s.gnss.woken then (if s.refreshed && decide (s.f F.GNSS_TTFF_TTFF ≠ 0xFFFFFFFF) then s.gnssSleep else s)
  else if s.f F.TICK_PHASE_PHASE = 5 then (s.elapse (500 * s.periodUs - s.tick.cycles)).gnssSleep
  else s

/-- GNSS_SLEEP (R388). -/
def execGnssSleep (s : State) : Host.Outcome State Fault Refusal := .next s.roleSleep

/-- PAIR_GNSS.WAKE in s: 1 to 600, and 60 for other values (R311). -/
def State.wakePeriod (s : State) : Nat :=
  let n := s.f F.PAIR_GNSS_WAKE
  if 1 ≤ n ∧ n ≤ 600 then n else 60

/-- GNSS_WAKE_TIMER: WAKE seconds after a standby's GNSS went to sleep it wakes with a start (R311, R388). -/
def State.roleWake (s : State) : State :=
  if s.sleepRole && s.b F.GNSS_STATUS_SLEEP then
    s.whenDue (s.cyclesTo 0 (s.gnss.sleepAt + s.wakePeriod * nsPerSec)) fun s =>
      { s.gnssWake s.fastest with gnss := { (s.gnssWake s.fastest).gnss with woken := true } }
  else s

/-- GNSS_WAKE_TIMER (R388). -/
def execGnssWakeTimer (s : State) : Host.Outcome State Fault Refusal := .next s.roleWake

/-! ## The velocity reference (R384) -/

/-- VREF_ARM: a write of GNSS_VREF_HDG arms the set. -/
def State.vrefArm (s : State) (v : Word) : State :=
  { s.put F.GNSS_VREF_HDG_HDG (bitsOf v 15 0) with gnss := { s.gnss with armed := true } }

/-- VREF_ARM (R384). -/
def execVrefArm (_m : Master) (v : Word) (s : State) : Host.Outcome State Fault Refusal := .next (s.vrefArm v)

/-- At the Strobe the epoch's TAI and the reference are latched, and a change of CONST or ELEV_MASK, or a satellite that has set, releases channels; a
baseband that does not run has no trusted fix (R372, R373, R377, R384). -/
def State.gnssStrobe (s : State) : State :=
  let s := s.takeEffect R.GNSS_CTRL (R.GNSS_CTRL + 4)
  let s := { s with gnss := { s.gnss with epochTai := s.base 1 } }
  let s := s.keepChannels fun x => s.fed x && s.sysOn x.sys && decide (s.elevMask ≤ x.elev)
  let s := if s.gnssOn then s else s.dropFixes
  let s := s.putb F.GNSS_CHK_VREF_STALE (!s.gnss.armed)
  if s.gnss.armed then
    { s with gnss := { s.gnss with armed := false, vref :=
        [s.fi F.GNSS_VREF_N_V, s.fi F.GNSS_VREF_E_V, s.fi F.GNSS_VREF_D_V, ((s.reg R.GNSS_VREF_ATT).toNat : Int),
         (s.f F.GNSS_VREF_HDG_HDG : Int)] } }
  else s

/-! ## Checks (R383) -/

/-- CLEAR_S in units of 2⁻³² ns. -/
def State.clearTime (s : State) : Nat := max 1 (s.f F.GNSS_CHKCFG_CLEAR_S) * nsPerSec

/-- Check k is active. -/
def State.checkOn (s : State) (k : Nat) : Bool := (s.reg R.GNSS_CHK).getLsbD k

/-- GNSS_CHK.CLEAR_LEFT: whole seconds, rounded up, until the last active check clears. -/
def State.showLeft (s : State) : State :=
  let last := (s.gnss.held.map (·.2)).foldl max 0
  s.put F.GNSS_CHK_CLEAR_LEFT
    (if s.f F.GNSS_CHK_ACTIVE = 0 then 0 else min 0xFFFF ((last + s.clearTime - s.mono + nsPerSec - 1) / nsPerSec))

/-- The condition of a check holds in this epoch: it becomes or stays active.  Keys 0 and 6 are RESID of chains 0 and 1. -/
def State.checkHolds (s : State) (key : Nat) : State :=
  let k := if key = 6 then 0 else key
  let s := { s with gnss := { s.gnss with held := tput s.gnss.held key s.mono } }
  if s.checkOn k then s
  else
    let s := s.put F.GNSS_CHK_ACTIVE (s.f F.GNSS_CHK_ACTIVE ||| 2 ^ k)
    (s.put F.GNSS_CHK_SEEN_SEEN (s.f F.GNSS_CHK_SEEN_SEEN ||| 2 ^ k)).gnssSource 107 [k]

/-- The keys of a check. -/
def checkKeys (k : Nat) : List Nat := if k = 0 then [0, 6] else [k]

/-- A check clears whose condition last held CLEAR_S seconds of MONO ago, or more. -/
def State.dropCheck (s : State) (k : Nat) : State :=
  let old := fun key => match tget? s.gnss.held key with
    | some t => decide (t + s.clearTime ≤ s.mono)
    | none => true
  let keys := checkKeys k
  let held := keys.foldl (fun h key => if old key then tdel h key else h) s.gnss.held
  let s := { s with gnss := { s.gnss with held := held } }
  let s := if keys.all fun key => (tget? held key).isNone then s.put F.GNSS_CHK_ACTIVE (s.f F.GNSS_CHK_ACTIVE &&& (63 - 2 ^ k)) else s
  s.showLeft

/-- CHECK_CLEAR: CLEAR_S seconds of MONO after the last epoch in which its condition held; RESID of two chains by itself for each (R383). -/
def State.checkClear (s : State) (k : Nat) : State :=
  match (checkKeys k).filterMap (tget? s.gnss.held) with
  | [] => s.dropCheck k
  | t :: l => s.whenDue (s.cyclesTo 0 (l.foldl min t + s.clearTime)) (·.dropCheck k)

/-- CHECK_CLEAR (R383). -/
def execCheckClear (k : Check) (s : State) : Host.Outcome State Fault Refusal := .next (s.checkClear k.val)

end Sys2Proof.Machine

namespace Sys2Proof

/-- The signals of chain c in an epoch, and those whose satellites its solution used. -/
def Epoch.of (e : Epoch) (c : Nat) : List SigMeas := e.sigs.filter fun x => decide (x.chain.val = c)
def Epoch.usedBy (e : Epoch) (c : Nat) : List SigMeas := (e.of c).filter (·.used)

/-- Satellites and constellations that a chain's solution used (R379, R380). -/
def Epoch.sats (e : Epoch) (c : Nat) : Nat := (((e.usedBy c).map fun x => (x.sys, x.sat)).eraseDups).length
def Epoch.consts (e : Epoch) (c : Nat) : Nat := (((e.usedBy c).map (·.sys)).eraseDups).length

/-- Every satellite used has both bands tracked (R379). -/
def Epoch.dual (e : Epoch) (c : Nat) : Bool :=
  (e.usedBy c).all fun x => [false, true].all fun b => (e.of c).any fun y => decide (y.sys = x.sys ∧ y.sat = x.sat ∧ y.band2 = b)

/-- The solution includes a GPS, Galileo or BeiDou satellite (R379). -/
def Epoch.timing (e : Epoch) (c : Nat) : Bool := (e.usedBy c).any fun x => decide (x.sys ≠ .glonass)

/-- Mean band-1 C/N0 of a chain and the highest of any signal, in units of 0.1 dB-Hz (R383). -/
def Epoch.meanCn0 (e : Epoch) (c : Nat) : Nat :=
  let l := (e.of c).filter fun x => !x.band2
  (l.map (·.cn0)).foldl (· + ·) 0 / max 1 l.length
def Epoch.peakCn0 (e : Epoch) (c : Nat) : Nat := ((e.of c).map (·.cn0)).foldl max 0

/-- Satellites common to both chains on band 1 without a cycle slip, with a C/N0 above `least` (R382, R383). -/
def Epoch.common (e : Epoch) (least : Nat) : Nat :=
  ((e.of 0).filter fun x => !x.band2 && !x.slip && decide (least ≤ x.cn0) && (e.of 1).any fun y =>
    !y.band2 && !y.slip && decide (least ≤ y.cn0 ∧ y.sys = x.sys ∧ y.sat = x.sat)).length

/-- Chain c has a solution: one needs 3 + C satellites (R379). -/
def Epoch.solved (e : Epoch) (c : Nat) : Bool := (if c = 0 then e.c0.solved else e.c1.solved) && decide (3 + e.consts c ≤ e.sats c)

/-- RESID for one chain: the sum exceeds the tail, and so does what leaving out any one satellite leaves (R383). -/
def Epoch.residBad (e : Epoch) (c : Nat) : Bool :=
  let x := if c = 0 then e.c0 else e.c1
  let d := (e.usedBy c).length - (3 + e.consts c)
  e.solved c && Machine.dLt (Config.chi2 d % 2 ^ 64) x.sumsq.toNat && x.leftOut.all fun r => Machine.dLt (Config.chi2 (d - 1) % 2 ^ 64) r.toNat

/-- A signal's channel. -/
def SigMeas.on (x : SigMeas) (y : Machine.Channel) : Bool := Machine.sameSignal x.chain.val x.sys x.sat.toNat x.band2 y

end Sys2Proof

namespace Sys2Proof.Machine

/-- POWER for one chain against its values 1 s earlier and within the last second (`o` is the chain's place in the history). -/
def State.powerBad (s : State) (o : Nat) (e : Epoch) (c : Nat) (x : ChainSol) : Bool :=
  let now := s.mono
  let old := s.gnss.power.find? fun p => decide (p.1 + nsPerSec ≤ now)
  let rose := match old with
    | some p => decide (now < p.1 + nsPerSec + s.periodMs * 1000 * usUnits) && decide (p.2.getD o 0 + 10 * s.f F.GNSS_CHKCFG_PWR_STEP < e.meanCn0 c)
    | none => false
  let fell := fun (i gain : Nat) => s.gnss.power.any fun p =>
    decide (now ≤ p.1 + nsPerSec) && decide (gain + s.f F.GNSS_CHKCFG_AGC_STEP < p.2.getD (o + i) 0)
  rose || decide (10 * s.f F.GNSS_CHKCFG_PWR_MAX < e.peakCn0 c) || fell 1 x.agc1 || fell 2 x.agc2

/-- The history with this epoch: the last second, and the one value before it. -/
def State.notePower (s : State) (l : List Nat) : State :=
  let now := s.mono
  let young := s.gnss.power.filter fun p => decide (now < p.1 + nsPerSec)
  let old := (s.gnss.power.filter fun p => decide (p.1 + nsPerSec ≤ now)).take 1
  { s with gnss := { s.gnss with power := (now, l) :: (young ++ old) } }

/-- The horizontal velocity of a chain differs from the reference by more than VEL_TOL. -/
def State.velBad (s : State) (x : ChainSol) : Bool :=
  let mm := fun i => dDiv (dOfInt (s.gnss.vref.getD i 0)) (dOfInt 1000)
  let d := fun i => dSub (x.vel.getD i 0).toNat (mm i)
  let tol := dDiv (dOfInt (s.f F.GNSS_CHKTOL_VEL_TOL)) (dOfInt 20)
  dLt (dMul tol tol) (dAdd (dMul (d 0) (d 0)) (dMul (d 1) (d 1)))

/-- CONST for one chain. -/
def State.constBad (s : State) (x : ChainSol) : Bool :=
  let out := (x.apart.filter fun d => decide (1000 * s.f F.GNSS_CHKTOL_CONST_TOL < d)).length
  decide (2 ≤ x.apart.length) && decide (1 ≤ out) && !(decide (3 ≤ x.apart.length) && decide (out = 1))

/-- The configured baseline's squared length in mm². -/
def State.baseline2 (s : State) : Int :=
  s.fi F.GNSS_BL_X_BL * s.fi F.GNSS_BL_X_BL + s.fi F.GNSS_BL_Y_BL * s.fi F.GNSS_BL_Y_BL + s.fi F.GNSS_BL_Z_BL * s.fi F.GNSS_BL_Z_BL

/-- Baseline heading runs: option 2, HDG_EN, and a configured length from 0.5 to 20 m (R382). -/
def State.hdgRuns (s : State) : Bool :=
  s.chainRuns 1 && s.b F.GNSS_CTRL_HDG_EN && decide (250000 ≤ s.baseline2 ∧ s.baseline2 ≤ 400000000)

/-- A fixed baseline's length differs from the configured one by more than BL_TOL. -/
def State.lengthBad (s : State) (e : Epoch) : Bool :=
  let l := (f64.sqrt (dOfInt s.baseline2)).bits
  let d := dSub (dMul (widen e.blLength.toNat) (dOfInt 1000)) l
  dLt (dOfInt (s.f F.GNSS_BL_CFG_BL_TOL)) (dAbs d)

/-- HFIXQ of an epoch: a fix is found with 5 common satellites, a ratio of 3 and a length within BL_TOL, and is kept while 5 remain; without one the
baseline floats (R382). -/
def State.hfixq (s : State) (e : Epoch) : Nat :=
  if s.hdgRuns && e.solved 0 && e.solved 1 then
    (if 5 ≤ e.common 0 ∧ (s.gnss.hfix = 2 ∨ (e.blFound ∧ 300 ≤ e.blRatio ∧ s.lengthBad e = false)) then 2 else 1)
  else 0

/-- The heading: the azimuth of the measured baseline, levelled, less that of the configured one, from 0 to below 360 (R382). -/
def State.blHeading (s : State) (e : Epoch) : Nat :=
  let m := Config.levelAzimuth ((e.blVec.map (·.toNat)) ++ [(s.gnss.vref.getD 3 0).toNat]) % 2 ^ 64
  let h := dSub m (Config.vesselAzimuth (s.fi F.GNSS_BL_X_BL) (s.fi F.GNSS_BL_Y_BL) % 2 ^ 64)
  if dLt h 0 then dAdd h (dOfInt 360) else if dLe (dOfInt 360) h then dSub h (dOfInt 360) else h

/-- TAI less MONO, in units of 2⁻³² ns. -/
def State.taiOffset (s : State) : Int := ((s.base 1).total : Int) - (s.mono : Int)

/-- The predicted clock bias: the last trusted one less the TAI correction applied since (R383). -/
def State.predictedBias (s : State) : Option Nat :=
  s.gnss.bias.map fun b => dSub b.1 (dDiv (dOfInt (s.taiOffset - b.2)) (dOfInt (2 ^ 32)))

/-- CLOCK, not evaluated while TAI is FREE or nothing has been trusted. -/
def State.clockBad (s : State) (e : Epoch) : Bool :=
  match s.predictedBias with
  | some p => decide (s.f F.TIME_STATUS_STATE ≠ 0) && (e.solved 0 || e.solved 1) &&
      dLt (dOfInt ((s.f F.GNSS_CHKTOL_CLK_TOL : Int) + s.taiErr)) (dAbs (dSub e.bias.toNat p))
  | none => false

/-- The checks of one epoch, in the order of the table. -/
def State.runChecks (s : State) (e : Epoch) (hfix : Nat) : State :=
  let two := s.chainRuns 1
  let s := if e.residBad 0 then s.checkHolds 0 else s
  let s := if two && e.residBad 1 then s.checkHolds 6 else s
  let s := if s.powerBad 0 e 0 e.c0 || (two && s.powerBad 3 e 1 e.c1) then s.checkHolds 1 else s
  let vel := fun (s : State) (c : Nat) (x : ChainSol) =>
    { s with gnss := { s.gnss with velBad := tset 0 s.gnss.velBad c (if e.solved c && s.velBad x then tget 0 s.gnss.velBad c + 1 else 0) } }
  let s := if s.b F.GNSS_CHK_VREF_STALE then s
    else
      let s := vel s 0 e.c0
      let s := if two then vel s 1 e.c1 else s
      if 10 ≤ tget 0 s.gnss.velBad 0 ∨ 10 ≤ tget 0 s.gnss.velBad 1 then s.checkHolds 2 else s
  let s := if s.constBad e.c0 || (two && s.constBad e.c1) then s.checkHolds 3 else s
  let s := { s with gnss := { s.gnss with noFix := if s.hdgRuns && decide (hfix ≠ 2) && decide (8 ≤ e.common 401) then s.gnss.noFix + 1 else 0 } }
  let s := if s.hdgRuns && ((decide (hfix = 2) && s.lengthBad e) || decide ((max 1 (s.f F.GNSS_BL_CFG_BL_EPOCHS) : Nat) ≤ s.gnss.noFix)) then
      s.checkHolds 4
    else s
  let s := if s.clockBad e then s.checkHolds 5 else s
  (s.notePower [e.meanCn0 0, e.c0.agc1, e.c0.agc2, e.meanCn0 1, e.c1.agc1, e.c1.agc2]).showLeft

/-! ## Epochs (R377 to R381) -/

/-- A chain's solution is trusted (R379, R383). -/
def State.trusts (s : State) (c : Nat) (e : Epoch) : Bool :=
  e.solved c && decide (4 + e.consts c ≤ e.sats c) && (tget? s.gnss.held (if c = 0 then 0 else 6)).isNone &&
  !(s.checkOn 1 || s.checkOn 2 || s.checkOn 3 || s.checkOn 5) && !(s.checkOn 4 && s.b F.GNSS_CTRL_BL_POS)

/-- A vector of the vessel frame, in mm, as north, east and down in m: rotated by roll, then pitch, then heading of the velocity reference
latched last (R381; the order is that of assumption log 65). -/
def State.levelled (s : State) (v : List Int) : List Nat :=
  let m := fun i => dDiv (dOfInt (v.getD i 0)) (dOfInt 1000)
  let att := (s.gnss.vref.getD 3 0).toNat
  let deg := fun (k : Int) => dDiv (dOfInt k) (dOfInt 100)
  let roll := deg (signedOf 16 (att / 65536))
  let pitch := deg (signedOf 16 (att % 65536))
  let hdg := dDiv (dMul (dOfInt (s.gnss.vref.getD 4 0)) (dOfInt 360)) (dOfInt 65536)
  let turn := fun (a x y : Nat) =>
    let c := Config.cosDeg a % 2 ^ 64
    let k := Config.sinDeg a % 2 ^ 64
    (dSub (dMul x c) (dMul y k), dAdd (dMul x k) (dMul y c))
  let (y, z) := turn roll (m 1) (m 2)
  let (z, x) := turn pitch z (m 0)
  let (n, e) := turn hdg x y
  [n, e, z]

/-- Chain c's antenna from the reference point, in mm of the vessel frame: the lever arm, for chain 1 with the baseline (R381, R382). -/
def State.antenna (s : State) (c : Nat) : List Int :=
  let bl := fun (v : Int) => if c = 0 then 0 else v
  [s.fi F.GNSS_ANT0_X_ANT + bl (s.fi F.GNSS_BL_X_BL), s.fi F.GNSS_ANT0_Y_ANT + bl (s.fi F.GNSS_BL_Y_BL),
   s.fi F.GNSS_ANT0_Z_ANT + bl (s.fi F.GNSS_BL_Z_BL)]

/-- The reference point's latitude, longitude and height: a chain's antenna less its arm, and the antenna itself without one (R381). -/
def State.refPoint (s : State) (c : Nat) (x : ChainSol) : List Nat :=
  let p := fun i => (x.pos.getD i 0).toNat
  if s.antenna c = [0, 0, 0] then [p 0, p 1, p 2]
  else
  let v := s.levelled (s.antenna c)
  let l := [p 0, p 1, p 2, dNeg (v.getD 0 0), dNeg (v.getD 1 0)]
  [Config.refPoint l 0, Config.refPoint l 1, dAdd (p 2) (v.getD 2 0)]

/-- The 128 bytes of a chain's block (R380). -/
def chainBlock (x : ChainSol) (ref : List Nat) (fixq sats consts : Nat) : List Byte :=
  let q := fun (l : List Nat) => (l.map (bytesLE 8)).flatten
  let pad := fun (n : Nat) (l : List Nat) => (List.range n).map fun i => l.getD i 0
  q (pad 3 (x.pos.map (·.toNat))) ++ q ref ++ q (pad 3 (x.vel.map (·.toNat))) ++
    ((pad 4 (x.cov.map (·.toNat))).map (bytesLE 4)).flatten ++ [BitVec.ofNat 8 fixq, BitVec.ofNat 8 sats, BitVec.ofNat 8 consts, 0] ++
    bytesLE 4 x.hdop.toNat ++ bytesLE 4 x.rms.toNat ++ List.replicate 28 0

/-- Where the record of tick n is written (R380). -/
def epochAt (n : Nat) : Nat := 0x30000000 + 0x200 * (n % 2)

/-- The samples for Prism: KIND 0x6 reads the chain block named by SRC, KIND 0x7 the heading fields (R378, R380). -/
def State.gnssSamples (s : State) (ref0 ref1 : List Nat) (q0 q1 hq heading : Nat) : State :=
  (List.range 24).foldl (fun s n =>
    let w := s.scfg n
    let m := s.strobeInstant n
    let put := fun (v w q : Nat) => s.sample n { value := v, second := w, quality := some q, m := m, tick := s.assign n m }
    if !scfgEn w then s
    else if scfgKind w = 6 then
      (if scfgSrc w = 0 then put (ref0.getD 0 0) (ref0.getD 1 0) q0 else if scfgSrc w = 1 then put (ref1.getD 0 0) (ref1.getD 1 0) q1 else s)
    else if scfgKind w = 7 then put heading 0 hq
    else s) s

/-- The kept data are refreshed (R387). -/
def State.refreshKept (s : State) (e : Epoch) (t0 : Bool) : State :=
  let now := s.aon.cal.sec
  let put := fun (v : Nat) (l : List (GnssSys × Nat × Nat)) (x : GnssSys × Sat) =>
    (x.1, x.2.toNat, v) :: l.filter fun y => !decide (y.1 = x.1 ∧ y.2.1 = x.2.toNat)
  let pos := if t0 then (match s.gnss.position with
      | some t => if t < now then some now else some t
      | none => some now) else s.gnss.position
  let place : List Nat := e.c0.pos.map fun (v : BitVec 64) => v.toNat
  let fresh := t0 && decide (s.gnss.position ≠ pos)
  { s with gnss := { s.gnss with eph := (e.eph.foldl (put now) s.gnss.eph).take 128,
                                 elevs := (e.sigs.foldl (fun l x => put x.elev l (x.sys, x.sat)) s.gnss.elevs).take 128,
                                 glonass := e.glonass.foldl (fun l x => tput l x.1.toNat x.2) s.gnss.glonass,
                                 place := if fresh then place else s.gnss.place,
                                 drift := if fresh then some e.drift.toNat else s.gnss.drift,
                                 almanac := (e.almanac.foldl (put now) s.gnss.almanac).take 128, position := pos } }

/-- Entry i of chain k in the channel table (R380). -/
def channelAt (k i : Nat) : Nat := 0x30001000 + 0x20 * (128 * k + i)

/-- The fields of a channel's entry. -/
def Channel.fields (x : Channel) : List Int :=
  [(sysBit x.sys : Int), (x.sat : Int), (b2n x.band2 : Int), (match x.track with | .locked => 1 | .searching => 2), (x.cn0 : Int), x.doppler,
   (x.elev : Int), (x.azim : Int), (b2n x.used : Int), (b2n x.excluded : Int)]

/-- The channel table takes an entry of 32 bytes for each channel in use, and one that was in use and is not shows none; the spec names an entry's
fields and not their places, so the bytes are free for given fields (R380; assumption log 44). -/
def State.showChannels (s : State) : State :=
  [0, 1].foldl (fun s k =>
    let l := s.gnss.channels.filter (·.chain = k)
    let n := min 128 l.length
    let s := (List.range (max n (tget 0 s.gnss.rows k))).foldl (fun s i =>
      s.wrBytes (channelAt k i) (bytesLE 32 (Config.channelEntry (match l[i]? with | some x => x.fields | none => []) % 2 ^ 256))) s
    { s with gnss := { s.gnss with rows := tset 0 s.gnss.rows k n } }) s

/-- What a channel takes of its signal at an epoch: a measurement means lock, and a C/N0 below 25 dB-Hz is timed (R376, R377, R380). -/
def State.latched (s : State) (x : SigMeas) (y : Channel) : Channel :=
  { y with track := .locked, code := x.code, carrier := x.carrier, doppler := x.doppler, cn0 := x.cn0, elev := x.elev, azim := x.azim,
           used := x.used, excluded := x.excluded,
           low := if 250 ≤ x.cn0 then none else match y.low with | some t => some t | none => some s.mono }

/-- All channels latch; one without a measurement was neither used nor excluded (R377). -/
def State.latchSigs (s : State) (l : List SigMeas) : State :=
  let g := fun (y : Channel) => match l.find? (·.on y) with
    | some x => s.latched x y
    | none => { y with used := false, excluded := false }
  { s with gnss := { s.gnss with channels := s.gnss.channels.map g } }.showTrk

/-- An epoch as the baseband can have it: only signals with a channel, and nothing of a chain or a baseline that does not run (R372, R382). -/
def State.heard (s : State) (e : Epoch) : Epoch :=
  let none_ : ChainSol := { solved := false, pos := [], vel := [], cov := [], hdop := 0, rms := 0, sumsq := 0, leftOut := [], agc1 := 0, agc2 := 0, apart := [] }
  let e := { e with sigs := e.sigs.filter fun x => s.gnss.channels.any x.on, c0 := if s.chainRuns 0 then e.c0 else none_,
                    c1 := if s.chainRuns 1 then e.c1 else none_ }
  if s.hdgRuns then e else { e with blFound := false, blVec := [], blElev := 0, hdgVar := 0, blLength := 0 }

/-- An FP64 number of ns in units of 2⁻³² ns, toward zero; none where it is no finite number. -/
def fixedNs (x : Nat) : Option Int :=
  let e := x / 2 ^ 52 % 2 ^ 11
  let m := x % 2 ^ 52 + (if e = 0 then 0 else 2 ^ 52)
  let sh := max 1 e + 32
  let v : Nat := if 1075 ≤ sh then m * 2 ^ (sh - 1075) else m / 2 ^ (1075 - sh)
  if e = 2047 then none else some (if x / 2 ^ 63 % 2 = 1 then -(v : Int) else (v : Int))

/-- The first time solution after a whole TAI second gives the discipline engine its phase error: the record's clock bias, in GPS time (R385). -/
def State.timeSolution (s : State) (e : Epoch) : State :=
  let sec := s.gnss.epochTai.sec
  let first := decide (s.gnss.solSec ≠ some sec)
  let x := fixedNs (dAdd e.bias.toNat e.toGps.toNat)
  { s with gnss := { s.gnss with solSec := some sec, timeSol := if first then x else s.gnss.timeSol } }

/-- What a trusted solution leaves: GNSS_TUNC, the bias for the prediction, and the instant from which HOLDOVER counts (R359, R383, R385). -/
def State.noteTrusted (s : State) (e : Epoch) : State :=
  { s.setReg R.GNSS_TUNC e.tunc with gnss := { s.gnss with bias := some (e.bias.toNat, s.taiOffset) },
                                     time := { s.time with lastSol := s.mono } }

/-- The heading fields of a record (R380): they hold zero where no baseline runs. -/
def State.headingBytes (s : State) (e : Epoch) (hq : Nat) : List Byte :=
  bytesLE 8 (if s.hdgRuns then s.blHeading e else 0) ++ bytesLE 8 e.blElev.toNat ++ bytesLE 4 e.hdgVar.toNat ++ bytesLE 4 e.blLength.toNat ++
    [BitVec.ofNat 8 hq, BitVec.ofNat 8 (if s.hdgRuns then e.common 0 else 0), 0, 0] ++ bytesLE 4 0

/-- EPOCH_RECORD_COMMIT, at 120 µs (R377 to R385). -/
def State.epoch (s : State) (e : Epoch) : State :=
  if !s.gnssOn then s
  else
    let s := s.elapse (500 * 120 - s.tick.cycles)
    let e := s.heard e
    let s := s.latchSigs e.sigs
    let hfix := s.hfixq e
    let s := s.runChecks e hfix
    let t0 := s.trusts 0 e
    let t1 := s.chainRuns 1 && s.trusts 1 e
    let th := decide (hfix = 2) && t0 && t1 && !s.checkOn 4
    let time := (t0 && e.timing 0) || (t1 && e.timing 1)
    let q := fun (t : Bool) (c : Nat) => if t then (if e.dual c then 2 else 1) else 0
    let hq := if th then 2 else if hfix = 1 ∧ s.f F.GNSS_CHK_ACTIVE = 0 then 1 else 0
    let ref0 := s.refPoint 0 e.c0
    let ref1 := s.refPoint 1 e.c1
    let pred := (s.predictedBias).getD 0
    let tai := s.gnss.epochTai
    let body := bytesLE 4 (b2n t0 + 2 * b2n t1 + 4 * b2n th + 8 * b2n time) ++ bytesLE 4 (s.reg R.GNSS_CHK).toNat ++
      bytesLE 8 tai.sec ++ bytesLE 4 tai.frac ++ bytesLE 4 e.tunc.toNat ++
      chainBlock e.c0 ref0 (q t0 0) (e.sats 0) (e.consts 0) ++ chainBlock e.c1 ref1 (q t1 1) (e.sats 1) (e.consts 1) ++ s.headingBytes e hq ++
      bytesLE 8 e.bias.toNat ++ bytesLE 8 e.drift.toNat ++ bytesLE 8 pred ++ List.replicate 0xA8 0
    let at' := epochAt s.tickNo
    let s := (((s.wr at' 8 (2 ^ 64 - 1)).wrBytes (at' + 8) body).wr at' 8 s.tickNo).showChannels
    let s := ((s.setFix F.GNSS_STATUS_FIX0 104 [0] t0).setFix F.GNSS_STATUS_FIX1 105 [1] t1).setFix F.GNSS_STATUS_HFIX 106 [] th
    let s := (s.put F.GNSS_STATUS_SATS0 (min 255 (e.sats 0))).put F.GNSS_STATUS_SATS1 (min 255 (e.sats 1))
    let s := (s.put (F.GNSS_AGC_GAIN1 0) e.c0.agc1).put (F.GNSS_AGC_GAIN2 0) e.c0.agc2
    let s := (s.put (F.GNSS_AGC_GAIN1 1) e.c1.agc1).put (F.GNSS_AGC_GAIN2 1) e.c1.agc2
    let s := if t0 || t1 then s.noteTrusted e else s
    let s := if time then s.timeSolution e else s
    let s := { s with gnss := { s.gnss with hfix := hfix } }
    (s.refreshKept e t0).gnssSamples ref0 ref1 (q t0 0) (q t1 1) hq (if s.hdgRuns then s.blHeading e else 0)

/-- EPOCH_RECORD_COMMIT (R378). -/
def execEpochRecordCommit (e : Epoch) (s : State) : Host.Outcome State Fault Refusal := .next (s.epoch e)

/-- LEAP_ANNOUNCEMENT: a decoded announcement becomes a GNSS entry, and source 109 asserts (R365, R386). -/
def State.leapAnnounce (s : State) (te : Nat) (off : Int) : State :=
  let t := s.leapGnss te off
  if s.b F.TIME_CTRL_LEAP_GNSS && t.time.leap.any fun e => decide (e.2 = { te := te, off := off, gnss := true }) then
    t.gnssSource 109 []
  else t

/-- LEAP_ANNOUNCEMENT (R386). -/
def execLeapAnnouncement (te : Nat) (off : Int) (s : State) : Host.Outcome State Fault Refusal := .next (s.leapAnnounce te off)

end Sys2Proof.Machine
end

