-- ==== Sys2Proof/Machine/Loop.lean ====
section
/-!
DEFINITION. Machine/Loop.lean: analogue and GPIO outputs at a Release (R272 to R279), pulse inputs (R280, R281) and the loop engines
(R282 to R288).
-/
namespace Sys2Proof.Machine

/-! ## GPIO levels (R279) -/

/-- The enabled GPIO detectors whose UNIT is pin k and whose POL is the edge, in increasing order (R257). -/
def State.gpioDetectors (s : State) (k : Nat) (rise : Bool) : List Nat :=
  (s.listedEff (R.SHD_MAP 0) 4 256).filterMap fun e =>
    if bitsOf e.2 31 31 = 1 ∧ bitsOf e.2 30 29 = 1 ∧ bitsOf e.2 7 0 = k ∧ bitsOf e.2 28 28 = (if rise then 1 else 0)
    then some e.1 else none

/-- Source 48 + k takes this edge (R342). -/
def State.gpioEdgeTaken (s : State) (k : Nat) (rise : Bool) : Bool :=
  match s.f (F.IRQ_CFG_EDGE (48 + k)) with
  | 1 => !rise
  | 2 => true
  | _ => rise

/-- The synchronised level of pin k is `v`; a change is an edge for detectors and for source 48 + k (R279). -/
def State.gpioLevel (s : State) (k : Nat) (v : Bool) : State :=
  if s.bit R.LOOP_GPIO_IN_LO k = v then s
  else
    let s := (s.setBit R.LOOP_GPIO_IN_LO k v).refreshPoint 4 k
    let s := (s.gpioDetectors k v).foldl (·.detect ·) s
    if s.gpioEdgeTaken k v then s.assertSrc (48 + k) else s

/-- GPIO_EDGE (R279). -/
def execGpioEdge (pin : Pin) (level : Bool) (s : State) : Host.Outcome State Fault Refusal := .next (s.gpioLevel pin.val level)

/-! ## Non-command outputs (R274) -/

/-- Analogue output a, direct and non-command, holds VAL; switched off it holds code 0 (R277). -/
def State.refreshAo (s : State) (a : Nat) : State :=
  if !s.b (F.LOOP_AOCFG_EN a) then s.put (F.LOOP_AO_REL a) 0
  else if !s.aoCommand a && (s.driverOf a).isNone then s.put (F.LOOP_AO_REL a) (s.f (F.LOOP_AO_VAL a))
  else s

/-- GPIO k, a non-command output, is at its OUT level. -/
def State.refreshGpio (s : State) (k : Nat) : State :=
  if s.gpioOut k && !s.gpioCommand k then s.gpioLevel k (s.bit R.LOOP_GPIO_OUT_LO k) else s

/-- Every non-command output is as last written. -/
def State.refreshDirect (s : State) : State :=
  (List.range 48).foldl (·.refreshGpio ·) ((List.range 16).foldl (·.refreshAo ·) s)

/-- A write of LOOP_AOCFGa: the class bit waits for the next Release (R272). -/
def State.aocfgWrite (s : State) (a : Nat) (v : Word) : State := (s.setLater (R.LOOP_AOCFG a) (s.plain (R.LOOP_AOCFG a) v)).refreshAo a

/-- A write of LOOP_AOa. -/
def State.aoWrite (s : State) (a : Nat) (v : Word) : State := (s.put (F.LOOP_AO_VAL a) (bitsOf v 15 0)).refreshAo a

/-- A write of a GPIO direction word, which takes effect only in Stop (R279). -/
def State.gpioDirWrite (s : State) (m : Master) (r : Nat) (v : Word) : State :=
  if s.mode = .stop then (List.range 48).foldl (·.refreshGpio ·) (s.writeReg r v) else s.recordWrite m r v

/-- A write of a GPIO output word (R273, R274). -/
def State.gpioOutWrite (s : State) (r : Nat) (v : Word) : State := (List.range 48).foldl (·.refreshGpio ·) (s.writeReg r v)

/-! ## A Release (R31, R275, R276) -/

/-- The substitute code of analogue output a: SUB, or the released code under HOLD unless the output is released-empty (R276). -/
def State.subCode (s : State) (a : Nat) (released : Option Nat) : Nat :=
  match released with
  | some v => if s.b (F.LOOP_AOCFG_HOLD a) then v else s.f (F.LOOP_AOCFG_SUB a)
  | none => s.f (F.LOOP_AOCFG_SUB a)

/-- The substitute code that a command-class engine tracks: under HOLD its output's code at the time (R276, R287). -/
def State.engineSub (s : State) (e : Nat) : Nat :=
  let a := s.f (F.LOOP_CFG_OUT e)
  s.subCode a ((tget? s.out.rSp e).map fun _ => s.f (F.LOOP_AO_REL a))

/-- What a direct command analogue output is loaded with at this Release; none: it holds its code. -/
def State.aoLoad (s : State) (a : Nat) : Option Nat :=
  match tget? s.out.rAo a with
  | none => some (s.f (F.LOOP_AOCFG_SUB a))
  | some v =>
    if s.mode ≠ .stop then some v
    else if s.out.firstStop then some (s.subCode a (some v))
    else none

/-- The level a command GPIO output is loaded with at this Release; none: it holds its level. -/
def State.gpioLoad (s : State) (k : Nat) : Option Nat :=
  let sub := b2n (s.bit R.LOOP_GPIO_SUB_LO k)
  match tget? s.out.rGpio k with
  | none => some sub
  | some v =>
    if s.mode ≠ .stop then some v
    else if s.out.firstStop then some (if s.bit R.LOOP_GPIO_HOLD_LO k then v else sub)
    else none

/-- Load analogue output a, a command output, at the Release edge. -/
def State.releaseAo (s : State) (a : Nat) : State :=
  if s.aoCommand a && s.b (F.LOOP_AOCFG_EN a) then
    match s.driverOf a with
    | none => (match s.aoLoad a with
      | some v => s.put (F.LOOP_AO_REL a) v
      | none => s).driveAo a
    | some e =>
      if (tget? s.out.rSp e).isNone || (decide (s.mode = .stop) && s.out.firstStop) then (s.put (F.LOOP_AO_REL a) (s.engineSub e)).driveAo a
      else s
  else s

/-- Load command GPIO k, and drive it while ownership is held. -/
def State.releaseGpio (s : State) (k : Nat) : State :=
  if s.gpioCommand k then
    let s := match s.gpioLoad k with
      | some v => { s with out := { s.out with gLevel := tput s.out.gLevel k v } }
      | none => s
    if s.b F.LOOP_STATUS_OWNED then s.gpioLevel k (decide (tget 0 s.out.gLevel k = 1)) else s
  else s

/-- The Release in the loop island: classes take effect, in Run the last committed set is released, and every command output is loaded for
the mode; command pins are driven from here on when the module holds ownership (R31, R32, R275, R276). -/
def State.loopRelease (s : State) : State :=
  let s := (s.takeEffect (R.LOOP_AOCFG 0) (R.LOOP_AOCFG 16)).takeEffect R.LOOP_GPIO_CMD_LO (R.LOOP_GPIO_CMD_HI + 4)
  let s := s.putb F.LOOP_STATUS_OWNED s.drives
  let s := if s.mode = .run then
      { s with out := { s.out with rAo := s.out.cAo, rGpio := s.out.cGpio, rSp := s.out.cSp }, shd := { s.shd with released := if s.out.committed then s.shd.plan else s.shd.released } }
    else s
  let s := (List.range 16).foldl (·.releaseAo ·) s
  let s := (List.range 48).foldl (·.releaseGpio ·) s
  let s := s.refreshDirect
  { s with out := { s.out with substituted := decide (s.mode = .stop), firstStop := false } }

/-! ## Pulse inputs (R280, R281) -/

def State.pulse (s : State) (p : Nat) : PulseSt := tget {} s.loop.pulses p
def State.setPulse (s : State) (p : Nat) (v : PulseSt) : State := { s with loop := { s.loop with pulses := tset {} s.loop.pulses p v } }

/-- Input p counts: enabled, and MODE is not off. -/
def State.pulseOn (s : State) (p : Nat) : Bool := s.b (F.LOOP_PCFG_EN p) && s.b (F.LOOP_PCFG_MODE p)

/-- How an edge changes the count (R280); in quadrature A leading counts up. -/
def pulseStep (mode : Nat) (line : PulseLine) (level : Bool) (x : PulseSt) : Int :=
  match mode, line with
  | 1, .a => if level then 1 else 0
  | 2, .a => if level = x.b then -1 else 1
  | 2, .b => if level = x.a then 1 else -1
  | 3, .a => if level then 1 else 0
  | 3, .b => if level then -1 else 0
  | _, _ => 0

/-- PULSE_EDGE: a level that has held for GLITCH changes the count (R280). -/
def State.pulseEdge (s : State) (p : Nat) (line : PulseLine) (level : Bool) : State :=
  let x := s.pulse p
  let old := match line with | .a => x.a | .b => x.b
  if old = level then s
  else
    let d := if s.pulseOn p then pulseStep (s.f (F.LOOP_PCFG_MODE p)) line level x else 0
    let s := s.setPulse p (match line with | .a => { x with a := level } | .b => { x with b := level })
    s.setReg (R.LOOP_PCNT p) (s.reg (R.LOOP_PCNT p) + BitVec.ofInt 32 d)

/-- PULSE_EDGE (R280). -/
def execPulseEdge (p : Pulse) (line : PulseLine) (level : Bool) (s : State) : Host.Outcome State Fault Refusal :=
  .next (s.pulseEdge p.val line level)

/-- INDEX_EDGE: a rising edge of Z copies the count under ZLATCH and is the event of source 96 + p (R281, R344). -/
def State.indexEdge (s : State) (p : Nat) : State :=
  let s := if s.b (F.LOOP_PCFG_ZLATCH p) then s.setReg (R.LOOP_PIDX p) (s.reg (R.LOOP_PCNT p)) else s
  s.assertSrc (96 + p)

/-- INDEX_EDGE (R281). -/
def execIndexEdge (p : Pulse) (s : State) : Host.Outcome State Fault Refusal := .next (s.indexEdge p.val)

/-- PCNT_PRESET: a write of LOOP_PCNTp (R281). -/
def State.pcntPreset (s : State) (p : Nat) (v : Word) : State := s.setReg (R.LOOP_PCNT p) v

/-- PCNT_PRESET (R281). -/
def execPcntPreset (p : Pulse) (_m : Master) (v : Word) (s : State) : Host.Outcome State Fault Refusal := .next (s.pcntPreset p.val v)

/-- n / d as an FP32 word. -/
def sRatio (n : Int) (d : Nat) : Nat :=
  let m := n.natAbs <<< 40
  let q := m / d
  (f32.round (decide (n < 0)) (2 * q + (if q * d = m then 0 else 1)) (-41)).bits

/-- LOOP_PRATEp from the counts at the last WIN updates (R281); an input that is off reads 0 (R280). -/
def State.pulseRate (s : State) (p : Nat) : State :=
  let x := s.pulse p
  let w := max 1 (s.f (F.LOOP_PCFG_WIN p))
  let now := s.f (F.LOOP_PCNT_COUNT p)
  let d := signedOf 32 (unsignedOf 32 ((now : Int) - (x.counts.getD (w - 1) 0 : Nat)))
  let rate := sRatio (d * 10000) w
  let x := { x with counts := (now :: x.counts).take 256 }
  if s.pulseOn p then (s.setPulse p { x with rate := rate }).setReg (R.LOOP_PRATE p) (BitVec.ofNat 32 rate)
  else (s.setPulse p x).setReg (R.LOOP_PRATE p) 0

/-- PULSE_RATE_UPDATE, every 100 µs, for every input (R281). -/
def execPulseRateUpdate (s : State) : Host.Outcome State Fault Refusal := .next ((List.range 8).foldl (·.pulseRate ·) s)

/-- A write of LOOP_PCFGp: an input switched on has delivered no rate yet (R285). -/
def State.pcfgWrite (s : State) (p : Nat) (v : Word) : State :=
  let was := s.pulseOn p
  let s := s.writeReg (R.LOOP_PCFG p) v
  if s.pulseOn p ∧ was = false then s.setPulse p { s.pulse p with rate := 0 }
  else if s.pulseOn p then s else s.setReg (R.LOOP_PRATE p) 0

/-! ## Engines (R282 to R288) -/

/-- A number that is not negative rounded to a whole number, halves away from zero (R284). -/
def sRound (a : Nat) : Nat :=
  match f32.read a with
  | .fin false m e => if 0 ≤ e then m <<< e.toNat else (2 * m + 2 ^ (-e).toNat) / 2 ^ ((-e).toNat + 1)
  | _ => 0

/-- The raw value of a source: 1 an analogue input, 2 a pulse rate, 3 a pulse count (R282, R285). -/
def State.engineSource (s : State) (src unit : Nat) : Nat :=
  match src with
  | 1 => if 24 ≤ unit ∨ s.prism.silent.contains unit then 0 else sOfInt (s.fi (F.FILT_OUT_OUT unit))
  | 2 => if 8 ≤ unit then 0 else (s.pulse unit).rate
  | 3 => if 8 ≤ unit then 0 else sOfInt (s.fi (F.LOOP_PCNT_COUNT unit))
  | _ => 0

/-- The register set-point: the released one for a command-class engine, 0 while it has none (R285, R286). -/
def State.engineSetpoint (s : State) (e : Nat) : Nat :=
  if s.engineCommand e then ((tget? s.out.rSp e).getD 0).toNat else (s.reg (R.LOOP_SP e)).toNat

/-- A command-class engine's output carries its substitute state (R276, R31). -/
def State.engineSubbed (s : State) (e : Nat) : Bool :=
  s.engineCommand e && (s.out.substituted || (tget? s.out.rSp e).isNone)

/-- The engine tracks in this sample (R287). -/
def State.tracking (s : State) (e : Nat) : Bool :=
  s.loop.fresh.contains e || s.engineSubbed e || (s.engineCommand e && !s.b F.LOOP_STATUS_OWNED)

/-- The code tracked: the substitute code first, in Stop and while the output carries it, then LOOP_TRKe without ownership; the spec names none for the
first sample of an engine otherwise, where it is a free value. -/
def State.tracked (s : State) (e : Nat) : Nat × State :=
  if s.engineSubbed e || decide (s.mode = .stop) then (s.engineSub e, s)
  else if !s.b F.LOOP_STATUS_OWNED then (s.f (F.LOOP_TRK_TRK e), s)
  else s.draw 65536

/-- Another enabled engine with a lower number drives this engine's output (R278). -/
def State.conflict (s : State) (e : Nat) : Bool :=
  s.b (F.LOOP_CFG_OUT_EN e) && decide (s.driverOf (s.f (F.LOOP_CFG_OUT e)) ≠ some e)

/-- One sample of engine e (R284, R288), in FP32 and in the order of the rule. -/
def State.engineSample (s : State) (e : Nat) : State :=
  if !s.b (F.LOOP_CFG_EN e) then s
  else
    let g := fun r => (s.reg r).toNat
    let spRaw := match s.f (F.LOOP_CFG_SPSRC e) with
      | 0 => s.engineSetpoint e
      | k => s.engineSource k (s.f (F.LOOP_CFG_SPUNIT e))
    let sp := sMul (g (R.LOOP_SPSC e)) spRaw
    let fb := match s.f (F.LOOP_CFG_FBSRC e) with
      | 0 => 0
      | k => sMul (g (R.LOOP_FBSC e)) (s.engineSource k (s.f (F.LOOP_CFG_FBUNIT e)))
    let fbPrev := if s.loop.fresh.contains e then fb else tget 0 s.loop.fbPrev e
    let dt := sRatio (max 1 (s.f (F.LOOP_PER_PERIOD e)) : Nat) 10000
    let err := sSub sp fb
    let p := sMul (g (R.LOOP_KP e)) err
    let d := sDiv (sMul (g (R.LOOP_KD e) ^^^ 2 ^ 31) (sSub fb fbPrev)) dt
    let ff := sMul (g (R.LOOP_KF e)) sp
    let full := sOfInt 65535
    let track := s.tracking e
    let (trk, s) := if track then s.tracked e else (0, s)
    let i0 := g (R.LOOP_INT e)
    let i1 := if track then sSub (sSub (sSub (sDiv (sOfInt trk) full) ff) p) d else i0
    let v := sAdd (sAdd (sAdd ff p) i1) d
    let x := sMul v full
    let hi := sOfInt (s.f (F.LOOP_LIM_OMAX e))
    let lo := sOfInt (s.f (F.LOOP_LIM_OMIN e))
    let y := if sLt hi x then hi else x
    let y := if sLt y lo then lo else y
    let c := sRound y
    let i2 := if track then i1 else
      sAdd (sAdd i1 (sMul (sMul (g (R.LOOP_KI e)) err) dt)) (sMul (sMul (g (R.LOOP_KB e)) (sSub (sDiv (sOfInt c) full) v)) dt)
    let ok := sFinite v && sFinite i2
    let s := if ok then
        ((s.put (F.LOOP_STAT_CODE e) c).putb (F.LOOP_STAT_SAT e) (sLt x y || sLt y x)).setReg (R.LOOP_INT e) (BitVec.ofNat 32 i2)
      else s.put (F.LOOP_STAT_NONFIN e) 1
    let s := if s.conflict e then s.put (F.LOOP_STAT_CONFLICT e) 1 else s
    let code := if track then none else some (s.f (F.LOOP_STAT_CODE e))
    let outputs := s.b (F.LOOP_CFG_OUT_EN e) && !s.conflict e
    { s with loop := { s.loop with
        fresh := s.loop.fresh.filter (· ≠ e)
        fbPrev := tset 0 s.loop.fbPrev e fb
        sampledAt := tput s.loop.sampledAt e (s.launchTimer 0).total
        load := if outputs then tput s.loop.load e code else tdel s.loop.load e } }

/-- Cycles until the engine's next sample instant (R283): on the loop island's launch timer, OFFSET µs, taken modulo P, past a whole multiple of
P = PERIOD × 100 µs, and later than its last sample. -/
def State.cyclesToSample (s : State) (e : Nat) : Nat :=
  let us := 1000 * 2 ^ 32
  let p := max 1 (s.f (F.LOOP_PER_PERIOD e)) * 100 * us
  let off := s.f (F.LOOP_PER_OFFSET e) * us % p
  let t := off + ((s.launchTimer 0).total + p - 1 - off) / p * p
  s.cyclesToLaunch 0 (if t ≤ tget 0 s.loop.sampledAt e then t + p else t)

/-- ENGINE_SAMPLE, at the engine's next sample instant (R283, R284). -/
def execEngineSample (e : Engine) (s : State) : Host.Outcome State Fault Refusal :=
  .next (if s.b (F.LOOP_CFG_EN e.val) then s.whenDue (s.cyclesToSample e.val) (·.engineSample e.val) else s)

/-- The engine's output instant: it loads the code it computed, and its command output is driven from here on; one that it does not load, in Stop,
is driven too and holds its code (R275, R276). -/
def State.engineLoad (s : State) (e : Nat) : State :=
  match tget? s.loop.load e with
  | none => s
  | some c =>
    let s := { s with loop := { s.loop with load := tdel s.loop.load e } }
    let a := s.f (F.LOOP_CFG_OUT e)
    if decide (s.driverOf a = some e) && s.b (F.LOOP_AOCFG_EN a) then
      (let s := match c with
        | some v => if s.engineSubbed e then s else s.put (F.LOOP_AO_REL a) v
        | none => s
       if s.aoCommand a then s.driveAo a else s)
    else s

/-- ENGINE_LOAD, 400 ns after the engine's sample (R284). -/
def execEngineLoad (e : Engine) (s : State) : Host.Outcome State Fault Refusal :=
  .next (if (tget? s.loop.load e.val).isSome then
    s.whenDue (s.cyclesToLaunch 0 (tget 0 s.loop.sampledAt e.val + 400 * 2 ^ 32)) (·.engineLoad e.val) else s)

/-- A write of LOOP_CFGe: EN starts and stops the engine; the first sample after that tracks (R284, R287). -/
def State.engineCfgWrite (s : State) (e : Nat) (v : Word) : State :=
  let was := s.b (F.LOOP_CFG_EN e)
  let s := s.writeReg (R.LOOP_CFG e) v
  let on := s.b (F.LOOP_CFG_EN e)
  let s := if on = was then s
    else if on then { s with loop := { s.loop with fresh := e :: s.loop.fresh.filter (· ≠ e) } }
    else { s with loop := { s.loop with fresh := s.loop.fresh.filter (· ≠ e), load := tdel s.loop.load e, sampledAt := tdel s.loop.sampledAt e } }
  let s := s.putb (F.LOOP_STAT_RUN e) on
  s.put F.LOOP_STATUS_RUNNING ((List.range 32).filter fun k => s.b (F.LOOP_CFG_EN k)).length

end Sys2Proof.Machine
end

