-- ==== Sys2Proof/Machine/Maps.lean ====
section
/-!
DEFINITION. Machine/Maps.lean: the maps of grid SRAM (R61, R71, R72, R89) and the arithmetic over them: sums, peaks, fits, overlaps, bowls and
weighted distances (R65 to R72, R77, R81, R84, R87).
-/
namespace Sys2Proof.Machine

/-! ## Grid SRAM (R89) -/

def posTile (n : Nat) : Nat := 0x20800000 + 0x8000 * n
def grpTile (n : Nat) : Nat := 0x20840000 + 0x8000 * (n - 12)
def hdgTile (n : Nat) : Nat := 0x208A0000 + 0x800 * (n - 8)
def posFused : Nat := 0x208B0000
def posPriorAt : Nat := 0x208C0000
def hdgFused : Nat := 0x208D0000
def hdgPriorAt : Nat := 0x208D1000
/-- The result buffer of tick n. -/
def resultAt (n : Nat) : Nat := 0x20BFF800 + 0x400 * (n % 2)

/-- A set of streams as a bitmap. -/
def bitSum (l : List Nat) : Nat := (l.eraseDups.map fun n => 2 ^ n).foldl (· + ·) 0

def cells : Nat := 16384
def bins : Nat := 720

/-- A map of signed numbers of w bytes. -/
def State.rdMap (s : State) (a w n : Nat) : List Int := (List.range n).map fun i => signedOf (8 * w) (s.rd (a + w * i) w)

def State.wrMap (s : State) (a w : Nat) (l : List Int) : State := s.wrBytes a ((l.map fun x => bytesLE w (unsignedOf (8 * w) x)).flatten)

def maxOf (l : List Int) : Int := l.foldl max (l.headD 0)

/-- A product in Q0.15 rounded toward minus infinity (R65). -/
def q15 (w : Nat) (x : Int) : Int := (w : Int) * x / 32768

def satI32 (x : Int) : Int := max (-(2 ^ 31)) (min (2 ^ 31 - 1) x)

/-- Weighted tiles added one after another onto a starting map, each sum held in a saturating int32; and whether a cell saturated (R65). -/
def accumulate (start : List Int) (terms : List (Nat × List Int)) : List Int × Bool :=
  terms.foldl (fun acc t =>
    let raw := (acc.1.zip t.2).map fun x => x.1 + q15 t.1 x.2
    let sat := raw.map satI32
    (sat, acc.2 || decide (raw ≠ sat))) (start, false)

/-! ## Peaks (R67, R70) -/

/-- Squared distance of cell i from the grid centre. -/
def centreDist (i : Nat) : Nat := (((i / 128 : Nat) : Int) - 64).natAbs ^ 2 + (((i % 128 : Nat) : Int) - 64).natAbs ^ 2

/-- The place of the best entry by value, then by a distance, then by the lower place. -/
def bestOf (dist : Nat → Nat) (l : List (Nat × Int)) : Option (Nat × Int) :=
  l.foldl (fun b e =>
    match b with
    | none => some e
    | some x => if x.2 < e.2 ∨ (x.2 = e.2 ∧ dist e.1 < dist x.1) then some e else b) none

def indexed (l : List Int) : List (Nat × Int) := (List.range l.length).zip l

/-- Cell i is a local maximum: no neighbour is higher.  A cell of a plateau, equal to a neighbour, counts as one: the spec does not say, DESIGN
CHOICE (assumption log 61). -/
def localMax (l : List Int) (i : Nat) : Bool :=
  let v := l.getD i 0
  ([-1, 0, 1] : List Int).all fun dr => ([-1, 0, 1] : List Int).all fun dq =>
    let r := ((i / 128 : Nat) : Int) + dr
    let q := ((i % 128 : Nat) : Int) + dq
    if 0 ≤ r ∧ r < 128 ∧ 0 ≤ q ∧ q < 128 then decide (l.getD (128 * r.toNat + q.toNat) 0 ≤ v) else true

def apartBy (n a b : Nat) : Bool := decide (n < ((a : Int) - b).natAbs)

/-- The second peak: the highest local maximum more than 4 cells from the peak in row or column (R70). -/
def secondCell (l : List Int) (i : Nat) : Option (Nat × Int) :=
  bestOf centreDist ((indexed l).filter fun e =>
    (apartBy 4 (e.1 / 128) (i / 128) || apartBy 4 (e.1 % 128) (i % 128)) && localMax l e.1)

def binApart (a b : Nat) : Nat := min ((a + 720 - b) % 720) ((b + 720 - a) % 720)

/-- The second peak of a heading map: more than 4 bins from the peak (R70, R71).  Of two that are equally high it is the lower bin: R71 breaks ties of
the peak alone, DESIGN CHOICE (assumption log 68). -/
def secondBin (l : List Int) (b : Nat) : Option (Nat × Int) :=
  bestOf (fun _ => 0) ((indexed l).filter fun e => decide (4 < binApart e.1 b) &&
    decide (l.getD ((e.1 + 719) % 720) 0 ≤ e.2) && decide (l.getD ((e.1 + 1) % 720) 0 ≤ e.2))

def onEdge (i : Nat) : Bool := i / 128 = 0 || i / 128 = 127 || i % 128 = 0 || i % 128 = 127

/-- A difference of map values in nats. -/
def nats (x : Int) : Nat := dDiv (dOfInt x) (dOfInt 64)

/-! ## Fits in FP32 (R68, R71)

Each whole-number difference is narrowed once, and the operations follow in the order of the formulas (assumption log 61). -/

/-- The 3 × 3 values around cell i of a 128 × 128 map, row by row. -/
def around (l : List Int) (i : Nat) : List Int :=
  let at' := fun j => l.getD j 0
  [at' (i - 129), at' (i - 128), at' (i - 127), at' (i - 1), at' i, at' (i + 1), at' (i + 127), at' (i + 128), at' (i + 129)]

/-- The curvature is negative definite: hxx < 0 and hxx × hyy > hxy². -/
def negDef (l : List Int) : Bool :=
  let v := fun k => l.getD k 0
  let hxx := v 7 - 2 * v 4 + v 1
  let hyy := v 5 - 2 * v 4 + v 3
  let hxy4 := v 8 - v 6 - v 2 + v 0
  decide (hxx < 0) && decide (hxy4 * hxy4 < 16 * hxx * hyy)

/-- An FP32 number clamped to ±0.5. -/
def clampHalf (x : Nat) : Nat :=
  let h := sDiv (sOfInt 1) (sOfInt 2)
  if sLt h x then h else if sLt x (sNeg h) then sNeg h else x

/-- A quadratic fit: offset in cells by row and column, −64 × inverse(H) as rr, rq and qq in cells², and whether every FP32 result is finite. -/
structure Fit where
  dr : Nat
  dq : Nat
  krr : Nat
  krq : Nat
  kqq : Nat
  ok : Bool
deriving DecidableEq, Repr

/-- The fit of R68 to nine values with a negative definite curvature. -/
def fitCell (l : List Int) : Fit :=
  let v := fun k => l.getD k 0
  let gx := sDiv (sOfInt (v 7 - v 1)) (sOfInt 2)
  let gy := sDiv (sOfInt (v 5 - v 3)) (sOfInt 2)
  let hxx := sOfInt (v 7 - 2 * v 4 + v 1)
  let hyy := sOfInt (v 5 - 2 * v 4 + v 3)
  let hxy := sDiv (sOfInt (v 8 - v 6 - v 2 + v 0)) (sOfInt 4)
  let det := sSub (sMul hxx hyy) (sMul hxy hxy)
  let dr := sNeg (sDiv (sSub (sMul hyy gx) (sMul hxy gy)) det)
  let dq := sNeg (sDiv (sSub (sMul hxx gy) (sMul hxy gx)) det)
  let k := fun (h : Nat) => sMul (sOfInt (-64)) (sDiv h det)
  let r : Fit := ⟨clampHalf dr, clampHalf dq, k hyy, k (sNeg hxy), k hxx, true⟩
  { r with ok := [gx, gy, hxx, hyy, hxy, det, dr, dq, r.krr, r.krq, r.kqq].all sFinite }

/-- The three bins around bin b. -/
def bins3 (l : List Int) (b : Nat) : List Int := [l.getD ((b + 719) % 720) 0, l.getD b 0, l.getD ((b + 1) % 720) 0]

/-- The fit of R71 to three bins with h negative: the offset in bins and the variance in deg², and whether both are finite. -/
def fitBins (l : List Int) : Nat × Nat × Bool :=
  let v := fun k => l.getD k 0
  let g := sDiv (sOfInt (v 2 - v 0)) (sOfInt 2)
  let h := sOfInt (v 2 - 2 * v 1 + v 0)
  let off := sNeg (sDiv g h)
  let var := sMul (sDiv (sOfInt (-64)) h) (sDiv (sOfInt 1) (sOfInt 4))
  (clampHalf off, var, [g, h, off, var].all sFinite)

/-! ## Places and angles in FP64 -/

/-- A metre value of a whole number of mm, as FP64. -/
def metres (mm : Int) : Nat := dDiv (dOfInt mm) (dOfInt 1000)

/-- A heading in degrees brought into 0 up to but not including 360. -/
def wrap360 (x : Nat) : Nat :=
  let full := dOfInt 360
  let x := if dLt x 0 then dAdd x full else x
  if dLe full x then dSub x full else x

/-- The difference of two headings, from −180 to 180 degrees. -/
def angleDiff (a b : Nat) : Nat :=
  let d := dSub a b
  if dLt (dOfInt 180) d then dSub d (dOfInt 360) else if dLt d (dOfInt (-180)) then dAdd d (dOfInt 360) else d

/-- A covariance NN, NE, EE. -/
def addCov (a b : List Nat) : List Nat := (List.range 3).map fun k => dAdd (a.getD k 0) (b.getD k 0)

/-- dᵀ Σ⁻¹ d for a vector and a covariance NN, NE, EE. -/
def weighted (dn de : Nat) (c : List Nat) : Nat :=
  let v := fun k => c.getD k 0
  let det := dSub (dMul (v 0) (v 2)) (dMul (v 1) (v 1))
  let num := dAdd (dSub (dMul (v 2) (dMul dn dn)) (dMul (dOfInt 2) (dMul (v 1) (dMul dn de)))) (dMul (v 0) (dMul de de))
  dDiv num det

/-- d² / σ² for headings. -/
def weightedAngle (d var : Nat) : Nat := dDiv (dMul d d) var

/-- A covariance inflated by ¼ d dᵀ (R81). -/
def inflate (cov : List Nat) (dn de : Nat) : List Nat :=
  let q := fun a b => dDiv (dMul a b) (dOfInt 4)
  [dAdd (cov.getD 0 0) (q dn dn), dAdd (cov.getD 1 0) (q dn de), dAdd (cov.getD 2 0) (q de de)]

/-- A variance of headings inflated by ¼ d². -/
def inflateAngle (var d : Nat) : Nat := dAdd var (dDiv (dMul d d) (dOfInt 4))

/-- A quarter of a gate setting, as FP64. -/
def quarter (n : Nat) : Nat := dDiv (dOfInt n) (dOfInt 4)

/-- A bowl value −½ x² of a weighted squared distance, in units of 1/64 nat, rounded to the nearest (R87; assumption log 61). -/
def bowlOf (x : Nat) : Int := (f64.toI64 (dMul x (dOfInt (-32)))).1

/-! ## Overlap (R77) -/

/-- e^(−2ⁱ/128) in units of 2⁻⁸⁰, rounded to the nearest, for i from 0 to 12. -/
def expUnits : List Nat := [1199517884247602415533664, 1190183162014445497215110, 1171731082387052328278021, 1135680706918470334476688, 1066873291264453557108401, 941512374991113148383581, 733250574914497105090166, 444738954937557665364703, 163610318209599982778094, 22142248755328544799276, 405549432387121495037, 136046678332955822, 15310036716]

/-- e^(−k/128) in units of 2⁻⁸⁰; from k = 8,192 on, where it lies below 2⁻⁹², it is 0. -/
def expTerm (k : Nat) : Nat :=
  if 8192 ≤ k then 0
  else ((List.range 13).zip expUnits).foldl (fun acc e => if k / 2 ^ e.1 % 2 = 1 then acc * e.2 / 2 ^ 80 else acc) (2 ^ 80)

/-- The unit in the last place of the FP16 number nearest to v · 2⁻³⁰, in units of 2⁻³⁰; 64 for a subnormal number. -/
def halfUlp (v : Nat) : Nat := 2 ^ (max 16 (Nat.log2 v) - 10)

/-- The Bhattacharyya coefficient of three sums of exponentials in units of 2⁻³⁰: S_pc / √(S_p × S_c). -/
def coefficient (pc p c : Nat) : Nat :=
  let d := p * c
  pc * 2 ^ 30 / max 1 (isqrt (Nat.log2 d / 2 + 1) d 0)

/-- The overlap Σ √(p C) of the masses of two tiles in Q0.15, none for a NaN or an overflow (R77, R90).  With p ∝ e^(t/64) and C ∝ e^(c/64) it is the sum
of e^((t+c)/128) over the root of the product of the two sums.  The spec computes it in FP16 and does not order the roundings: the model takes the
FP16 number nearest to the coefficient, moved by a free number of at most 16 units in the last place, and narrows it downwards (assumption log
61). -/
def overlapOf (t c : List Int) : Option Nat :=
  let a := maxOf t
  let b := maxOf c
  let sum := fun (l : List Nat) => (l.map expTerm).foldl (· + ·) 0
  let dt := t.map fun x => (a - x).toNat
  let dc := c.map fun x => (b - x).toNat
  let sums := [sum ((dt.zip dc).map fun x => x.1 + x.2), sum (dt.map (2 * ·)), sum (dc.map (2 * ·))]
  if Config.overlapBad sums then none
  else
    let v := coefficient (sums.getD 0 0) (sums.getD 1 0) (sums.getD 2 0)
    let u := halfUlp v
    let r : Int := ((v + u / 2) / u + Config.overlapUlps sums % 33 : Nat) - 16
    some (min 32767 ((r * u).toNat / 32768))

end Sys2Proof.Machine
end

