-- ==== Sys2Proof/Machine/Prism.lean ====
section
/-!
DEFINITION. Machine/Prism.lean: Prism's main path (R57 to R92): encoder tables, priors, encoders, masking, voting and the main candidate.
The maps and tiles live in grid SRAM, where any master reads and writes them (R89).
-/
namespace Sys2Proof.Machine

/-! ## Encoder tables (R57 to R59) -/

/-- The class of a stream: 0 position, 1 heading, 2 group. -/
def classOf (n : Nat) : Nat := if n < 8 then 0 else if n < 12 then 1 else 2

def State.tblFailed (s : State) (n : Nat) : Bool := s.bit R.PRISM_TBL_FAIL n

/-- A table fails: its bit, TBL_FAIL, an event and the table interrupt. -/
def State.failTable (s : State) (n : Nat) : State :=
  let s := (s.setBit R.PRISM_TBL_FAIL n true).put F.PRISM_STATUS_TBL_FAIL 1
  (s.event 0x0406 [n]).assertSrc 21

/-- The CRC of the weights of the table at `a` matches its header. -/
def State.weightsOk (s : State) (a : Nat) : Bool :=
  decide (crc32c (s.rdBytes (a + 64) (s.rd (a + 8) 4)) = s.rd (a + 0x38) 4)

/-- Enabled streams. -/
def State.enabledStreams (s : State) : List Nat := (List.range 24).filter fun n => scfgEn (s.scfg n)

/-- The group of an environmental stream; 6 and 7 are no group (R72). -/
def State.groupOf (s : State) (n : Nat) : Nat := bitsOf (s.scfg n) 28 26

/-- The streams with a table in weight SRAM. -/
def State.tabled (s : State) : List Nat := (List.range 24).filter fun n => (s.tableAt n).isSome

/-- The checks of one table (R58) that concern it alone or with the tables of its group.  An enabled stream for which the image carries no
table fails: R57 has a table for each enabled stream and R58 gives no verdict where there is none; DESIGN CHOICE (assumption log 60).  The tables
'of a group' are those whose streams PRISM_SCFGn.GROUP puts into it, and the header's group number is not compared: DESIGN CHOICE (assumption log
68). -/
def State.tableOk (s : State) (n : Nat) : Bool :=
  match s.tableAt n with
  | none => false
  | some a =>
    let size := s.rd (a + 8) 4
    let side := [s.rd (a + 4) 1, s.rd (a + 5) 1].filter (· ≠ 0xFF)
    let cell := s.rd (a + 3) 1
    decide (crc32c (s.rdBytes a 0x3C) = s.rd (a + 0x3C) 4) && decide (size ≤ 262144) && s.weightsOk a &&
      decide (s.rd a 1 = n) && decide (s.rd (a + 1) 1 = classOf n) &&
      (cell = 0 || decide (cell = s.f F.PRISM_GRID_CELL)) && side.all (fun k => k < 24 && scfgEn (s.scfg k)) &&
      (decide (n < 12) || decide (6 ≤ s.groupOf n) || (s.tabled.filter fun k => decide (12 ≤ k ∧ s.groupOf k = s.groupOf n)).all fun k =>
        match s.tableAt k with
        | some b => decide (s.rdBytes (a + 0x10) 16 = s.rdBytes (b + 0x10) 16)
        | none => true)

/-- Check every table at a configuration load, those of streams that are not enabled too, under the stream settings that the load wrote: the flags of
an earlier load fall, and each failing table is flagged (R58).  At a swap the load's boundary is the Strobe from which they are in force. -/
def State.checkTables (s : State) : State :=
  let s := s.takeEffect (R.PRISM_SCFG 0) (R.PRISM_SCFG 24)
  let l := (List.range 24).filter fun n => scfgEn (s.scfg n) || (s.tableAt n).isSome
  let sum := fun (f : Nat → Nat) => (l.filterMap fun n => (s.tableAt n).map f).foldl (· + ·) 0
  let big := decide (8388608 < sum fun a => s.rd (a + 8) 4) || decide (1000000000 < sum fun a => s.rd (a + 12) 4)
  let s := (s.setReg R.PRISM_TBL_FAIL 0).put F.PRISM_STATUS_TBL_FAIL 0
  l.foldl (fun s n => if s.tableOk n && !big then s else s.failTable n) s

/-- Change k bytes of the record that the current tick has published, in its buffer and as the last published result (R87, R89). -/
def State.patchRecord (s : State) (off k v : Nat) : State :=
  let l := s.prism.lastRec
  { s.wr (resultAt s.tickNo + off) k v with prism := { s.prism with lastRec := l.take off ++ bytesLE k v ++ l.drop (off + k) } }

/-- The record takes PRISM_STATUS as it now stands. -/
def State.patchStatus (s : State) : State := s.patchRecord 8 4 (s.reg R.PRISM_STATUS).toNat

/-- The current tick's record, where it has been published, carries the failure of stream n's table: TBL_FAIL of PRISM_STATUS and flag bit 6 of
the stream (R59, R89). -/
def State.failInRecord (s : State) (n : Nat) : State :=
  if s.rd (resultAt s.tickNo) 8 = s.tickNo then
    let f := 0x285 + 0x10 * n
    s.patchStatus.patchRecord f 1 (s.rd (resultAt s.tickNo + f) 1 ||| 0x40)
  else s

/-- TABLE_PATROL: the tables of the next 64 KiB are checked anew; a mismatch stops the main path from the next Strobe, and this tick's result
carries it (R59).  A table that crosses a 64 KiB piece is rechecked whole with each piece that it overlaps: the spec does not say how a CRC is
carried from piece to piece, DESIGN CHOICE (assumption log 60). -/
def State.tablePatrol (s : State) : State :=
  let lo := 0x20000000 + 65536 * s.prism.patrol
  let l := s.tabled.filter fun n => match s.tableAt n with
    | some a => decide (lo < a + 64 + s.rd (a + 8) 4 ∧ a + 64 < lo + 65536) && !s.tblFailed n
    | none => false
  let s := { s with prism := { s.prism with patrol := (s.prism.patrol + 1) % 128 } }
  l.foldl (fun s n => match s.tableAt n with
    | some a => if s.weightsOk a then s else (s.failTable n).failInRecord n
    | none => s) s

/-- TABLE_PATROL (R59). -/
def execTablePatrol (s : State) : Host.Outcome State Fault Refusal := .next s.tablePatrol

/-! ## The Strobe (R63, R64, R66, R88, R119) -/

/-- Cell size in mm. -/
def State.cellMm (s : State) : Int := 10 * s.f F.PRISM_GRID_CELL

/-- A coordinate rounded to the lattice, halves away from zero. -/
def toLattice (c x : Int) : Int := c * roundHalfAway x c

/-- The grid centre of the tick (R63). -/
def State.recentre (s : State) : State :=
  let c := s.cellMm
  match s.prism.edgeAt with
  | some (n, e) => { s with prism := { s.prism with cn := toLattice c n, ce := toLattice c e } }
  | none =>
    if s.prism.armed then
      { s with prism := { s.prism with cn := toLattice c (s.fi F.PRISM_PRED_N_PN), ce := toLattice c (s.fi F.PRISM_PRED_E_PE) } }
    else s.put F.PRISM_STATUS_PRED_STALE 1

/-- A map shifted so that its highest cell is 0, decayed and clipped (R64).  The product with DECAY is rounded toward minus infinity, as that of
R65; R64 gives no rounding: DESIGN CHOICE (assumption log 61). -/
def State.decay (s : State) (l : List Int) : List Int :=
  let top := maxOf l
  let fl : Int := s.f F.PRISM_PRIOR_FLOOR
  l.map fun x => max (-fl) (q15 (s.f F.PRISM_PRIOR_DECAY) (x - top))

/-- The fused map moved by a whole-cell shift; cells that enter take −FLOOR. -/
def State.shiftMap (s : State) (l : List Int) (dr dq : Int) : List Int :=
  let fl : Int := s.f F.PRISM_PRIOR_FLOOR
  (List.range cells).map fun i =>
    let r := (i / 128 : Nat) + dr
    let q := (i % 128 : Nat) + dq
    if 0 ≤ r ∧ r < 128 ∧ 0 ≤ q ∧ q < 128 then l.getD (128 * r.toNat + q.toNat) 0 else -fl

/-- Centre of cell i in mm. -/
def State.cellCentre (s : State) (i : Nat) : Int × Int :=
  let c := s.cellMm
  (s.prism.cn + (((i / 128 : Nat) : Int) - 64) * c, s.prism.ce + (((i % 128 : Nat) : Int) - 64) * c)

/-- The position bowl around the last published position, its covariance widened by (1 m)² on each axis, clipped at −FLOOR (R87). -/
def State.posBowl (s : State) : List Int :=
  let fl : Int := s.f F.PRISM_PRIOR_FLOOR
  let p := s.prism.last
  let c := addCov p.cov [dOfInt 1, 0, dOfInt 1]
  (List.range cells).map fun i =>
    let (n, e) := s.cellCentre i
    max (-fl) (bowlOf (weighted (dSub (metres n) p.n) (dSub (metres e) p.e) c))

/-- The heading bowl, formed in the same way; that its variance is widened by (1°)² is the model's reading of 'in the same way' (assumption log
61). -/
def State.hdgBowl (s : State) : List Int :=
  let fl : Int := s.f F.PRISM_PRIOR_FLOOR
  let p := s.prism.last
  let v := dAdd p.hdgVar (dOfInt 1)
  (List.range bins).map fun b => max (-fl) (bowlOf (weightedAngle (angleDiff (dDiv (dOfInt b) (dOfInt 2)) p.hdg) v))

/-- The priors of the tick, after the recentring from (n0, e0).  After a change of the cell size without an armed prediction the old centre is no
whole multiple of the new cells, and the shift in cells is then rounded toward minus infinity: DESIGN CHOICE (assumption log 68). -/
def State.formPriors (s : State) (n0 e0 : Int) : State :=
  let p := s.prism
  let flat := fun n => List.replicate n (0 : Int)
  let c := s.cellMm
  let pos := if s.b F.PRISM_CTRL_PRIOR_EN = false then flat cells else match p.posPrior with
    | .flat => flat cells
    | .bowl => s.posBowl
    | .fused => s.decay (s.shiftMap (s.rdMap posFused 4 cells) ((p.cn - n0) / c) ((p.ce - e0) / c))
  let hdg := if s.b F.PRISM_CTRL_PRIOR_EN = false then flat bins else match p.hdgPrior with
    | .flat => flat bins
    | .bowl => s.hdgBowl
    | .fused => s.decay (s.rdMap hdgFused 4 bins)
  let s := (s.wrMap posPriorAt 4 pos).wrMap hdgPriorAt 4 hdg
  { s with prism := { s.prism with posPrior := .fused, hdgPrior := .fused } }

/-- The main path runs from the Strobe on: MAIN_EN in force, and no table has failed (R58, R59, R119). -/
def State.mainOn (s : State) : Bool :=
  decide (bitsOf (s.eff R.PRISM_CTRL) 0 0 = 1) && !s.b F.PRISM_STATUS_TBL_FAIL

/-- The main path starts again: its priors are the bowls around the last published result, once there has been one, and the return count is 0
(R119). -/
def State.mainStart (s : State) : State :=
  let s := if s.prism.last.groups.isEmpty then s else { s with prism := { s.prism with posPrior := .bowl, hdgPrior := .bowl } }
  s.put F.FILT_FB_STATUS_RET_CNT 0

/-- Prism's work at the Strobe. -/
def State.prismStrobe (s : State) : State :=
  let s := (s.takeEffect (R.PRISM_SCFG 0) (R.PRISM_SCFG 24)).takeEffect R.PRISM_CTRL (R.PRISM_CTRL + 4)
  let s := s.judgeUnits.ageSpikes
  let conf := (List.range 24).foldl (fun l n => tset 0 l n (s.f (F.PRISM_SCONF_CONF n))) []
  let on := s.mainOn && !s.b F.REC_STATUS_AFTERGLOW
  let s := if on && !s.prism.ran then s.mainStart else s
  let n0 := s.prism.cn
  let e0 := s.prism.ce
  let s := s.recentre
  let s := { s with prism := { s.prism with conf := conf, main := none, fb := none, encBad := [], fpBad := false, returning := false,
                                            strobeOut := [], predHdg := s.f F.PRISM_PRED_HDG_PH, armed := false, edgeAt := none, ran := on } }
  let s := if on then s.formPriors n0 e0 else s
  let s := { s with prism := { s.prism with capturing := true } }
  let s := (List.range 24).foldl (fun s n =>
    let s := if scfgEn (s.scfg n) then s.put (F.PRISM_SSTAT_SLIPS n) (min 255 (s.slipCount n)) else s
    match (s.stream n).window.head? with
    | some x => s.put (F.PRISM_SSTAT_AGE n) (min 255 (s.tickNo - x.tick))
    | none => s) s
  s.captureWaiting.strobeChains

/-! ## The capture cut-off and the encoders (R53, R60, R88) -/

/-- What one window contributes to an encoder's inputs, read from its area of grid SRAM, which a master's write corrupts (R60, R89): value, second
value, quality, age, skew and flags of each sample that the window holds. -/
def State.windowWords (s : State) (n : Nat) : List Nat :=
  ((List.range (min 64 (s.stream n).window.length)).map fun i =>
    let w := fun o => s.rd (windowAt n + 64 * i + o) 8
    [w 0, w 8, w 16, s.tickNo - w 40, w 48, w 56]).flatten

/-- Everything the encoder of stream n reads (R60). -/
def State.encInputs (s : State) (n a : Nat) : List Nat :=
  let side := [s.rd (a + 4) 1, s.rd (a + 5) 1].filter (· < 24)
  (s.rdBytes a (64 + s.rd (a + 8) 4)).map (·.toNat) ++ s.windowWords n ++ (side.map s.windowWords).flatten ++
    [unsignedOf 64 s.prism.cn, unsignedOf 64 s.prism.ce, s.f F.PRISM_GRID_CELL, s.prism.predHdg]

/-- Run the encoder of stream n: its tile goes to grid SRAM, and a cleared validity bit is kept. -/
def State.runEncoder (s : State) (n a : Nat) : State :=
  let inp := s.encInputs n a
  let tile := fun k => (List.range k).map fun i => signedOf 16 (Config.encode inp i)
  let s := if Config.encodeValid inp then s else { s with prism := { s.prism with encBad := addTo s.prism.encBad n } }
  if n < 8 then s.wrMap (posTile n) 2 (tile cells)
  else if n < 12 then s.wrMap (hdgTile n) 2 (tile bins)
  else s.wrMap (grpTile n) 2 (tile cells)

def State.runEncoders (s : State) : State :=
  s.enabledStreams.foldl (fun s n => match s.tableAt n with
    | some a => s.runEncoder n a
    | none => s) s

/-- CAPTURE_CUT_OFF: no further sample enters a window, chains still waiting to restart do, the encoders run, and the fall-back context starts on its core
(R53, R60, R88, R108).  A tick without a run lengthens the fall-back's next prediction interval. -/
def State.cutOff (s : State) : State :=
  let s := { s with prism := { s.prism with capturing := false } }
  let s := s.prism.restart.foldl (·.restartChain ·) s
  let s := if s.prism.ran then s.runEncoders else s
  if s.b F.FILT_FB_CTRL_FB_EN then
    ({ s with prism := { s.prism with fbRuns := true },
              cml := { s.cml with fbCore := some (4 + bitsOf (s.eff R.FILT_FB_CTRL) 1 1) } }).sched
  else { s with prism := { s.prism with fbTicks := s.prism.fbTicks + 1 } }

/-- CAPTURE_CUT_OFF (R53). -/
def execCaptureCutOff (s : State) : Host.Outcome State Fault Refusal := .next s.cutOff

/-- The stream is stale.  One that has captured nothing is stale at once, before its limit has passed: the spec does not say, DESIGN CHOICE
(assumption log 59). -/
def State.isStale (s : State) (n : Nat) : Bool := (s.stream n).stale || decide ((s.stream n).window = [])

/-- A reference is valid (R76). -/
def State.refValid (s : State) (n : Nat) : Bool :=
  s.streamExists n && (s.tableAt n).isSome && !s.tblFailed n && decide (0 < tget 0 s.prism.conf n) && !s.isStale n && !(s.stream n).slipMask &&
    !s.prism.encBad.contains n

/-- The main path has voted reference n out (R78). -/
def State.votedOut (s : State) (n : Nat) : Bool := (s.stream n).out

/-- PRISM_MASKED shows stream n: masked for a failure sign (R74), or a slip-masked reference (R55). -/
def State.masked (s : State) (n : Nat) : Bool := s.bit R.PRISM_MASKED n

/-! ## Failure signs and masking (R73, R74) -/

/-- Spikes that the sign of a stream tests (R104). -/
def State.streamSpikes (s : State) (n : Nat) : Nat :=
  let w := s.scfg n
  let src := scfgSrc w
  let inp := fun i => if bitsOf (s.eff (R.FILT_GL i)) 31 31 = 1 then s.spikeCount i else 0
  if scfgKind w = 0 then inp src
  else if scfgKind w = 1 then inp src + inp (src + 1)
  else match s.unitOf n with
    | some u => s.spikeCount (32 + u)
    | none => 0

/-- A failure sign of an environmental or motion stream. -/
def State.hasSign (s : State) (n : Nat) : Bool :=
  let x := s.stream n
  x.badSample || s.isStale n || decide (s.f F.PRISM_MASKCFG_SPIKE_LIM < s.streamSpikes n) || x.slipMask || s.prism.encBad.contains n

/-- Mask a stream or count its clean ticks. -/
def State.maskStep (s : State) (n : Nat) : State :=
  let x := s.stream n
  if s.hasSign n then
    let s := s.setStream n { x with badSample := false, clean := 0, cleanUp := 0, mult := if s.masked n then x.mult else max 1 (x.mult / 2) }
    if s.masked n then s else ((s.setBit R.PRISM_MASKED n true).event 0x0403 [n]).assertSrc 18
  else if s.masked n then s.setStream n { x with badSample := false, clean := x.clean + 1 }
  else s.setStream n { x with badSample := false, cleanUp := x.cleanUp + 1 }

/-- Every enabled environmental and motion stream is judged in every tick, whichever path is published (R74). -/
def State.maskAll (s : State) : State := (s.enabledStreams.filter (12 ≤ ·)).foldl (·.maskStep ·) s

/-- UNMASK: a masked stream has had UNMASK consecutive clean ticks (R74). -/
def State.unmask (s : State) (n : Nat) : State :=
  let x := s.stream n
  if 12 ≤ n ∧ s.masked n ∧ s.f F.PRISM_MASKCFG_UNMASK ≤ x.clean then
    (s.setStream n { x with clean := 0, cleanUp := 0 }).setBit R.PRISM_MASKED n false
  else s

/-- UNMASK (R74). -/
def execUnmask (n : Stream) (s : State) : Host.Outcome State Fault Refusal := .next (s.unmask n.val)

/-- MASK_MULTIPLIER_DOUBLE: 100 consecutive clean unmasked ticks (R74). -/
def State.multDouble (s : State) (n : Nat) : State :=
  let x := s.stream n
  if 12 ≤ n ∧ s.masked n = false ∧ 100 ≤ x.cleanUp then s.setStream n { x with cleanUp := 0, mult := min 16 (2 * x.mult) } else s

/-- MASK_MULTIPLIER_DOUBLE (R74). -/
def execMaskMultiplierDouble (n : Stream) (s : State) : Host.Outcome State Fault Refusal := .next (s.multDouble n.val)

/-- The effective weight of an environmental or motion stream (R66, R74). -/
def State.groupWeight (s : State) (n : Nat) : Nat :=
  if scfgEn (s.scfg n) && !s.masked n && s.streamExists n && (s.tableAt n).isSome && !s.tblFailed n then tget 0 s.prism.conf n * (s.stream n).mult / 16 else 0

/-! ## Voting (R77 to R82) -/

/-- A reference's tile. -/
def State.refTile (s : State) (n : Nat) : List Int :=
  if n < 8 then s.rdMap (posTile n) 2 cells else s.rdMap (hdgTile n) 2 bins

/-- The weighted sum of the tiles of some references, onto a starting map (R65). -/
def State.sumTiles (s : State) (start : List Int) (l : List Nat) : List Int × Bool :=
  accumulate start (l.map fun n => (tget 0 s.prism.conf n, s.refTile n))

/-- The overlap of reference n with the other references of a set, and whether its FP16 stage gave a NaN or an overflow (R77).  Where the set
holds no other reference there is no consensus mass, and the overlap is 0: the spec does not say, DESIGN CHOICE (assumption log 61). -/
def State.overlapWith (s : State) (n : Nat) (set : List Nat) : Nat × Bool :=
  let l := set.filter (· ≠ n)
  if l = [] then (0, false)
  else
    let t := s.refTile n
    match overlapOf t (s.sumTiles (t.map fun _ => 0) l).1 with
    | some v => (v, false)
    | none => (0, true)

/-- What voting and the Split test find for one class: overlaps of pass 2, references voted out now, Split, and a NaN or overflow. -/
structure Vote where
  ovl : List (Nat × Nat)
  out : List Nat
  split : Bool
  bad : Bool
deriving DecidableEq, Repr

/-- The test of one class: `v` its valid references (R77, R78, R80, R82).  A voted-out reference is tested against those that are not. -/
def State.judgeClass (s : State) (v : List Nat) : Vote :=
  let thr := s.f F.PRISM_VOTE_VOTE_OVL
  let inn := v.filter fun n => !s.votedOut n
  let one := v.map fun n => (n, s.overlapWith n v)
  let p1 := v.filter fun n => decide (thr ≤ (tget (0, false) one n).1)
  let two := v.map fun n => (n, s.overlapWith n (if s.votedOut n then inn else p1))
  let ovl := two.map fun e => (e.1, e.2.1)
  let bad := (one ++ two).any fun e => e.2.2
  let low := inn.filter fun n => decide (tget 0 ovl n < thr)
  if 3 ≤ v.length then
    if 2 ≤ (inn.filter fun n => !low.contains n).length then ⟨ovl, low, false, bad⟩ else ⟨ovl, [], true, bad⟩
  else
    match v with
    | [a, b] => ⟨ovl, [], decide ((s.overlapWith a [b]).1 < thr ∨ (s.overlapWith b [a]).1 < thr), bad⟩
    | _ => ⟨ovl, [], false, bad⟩

/-- Apply a class's vote: overlaps, pass counts, bits, events and interrupts (R78, R79). -/
def State.applyVote (s : State) (all v : List Nat) (r : Vote) : State :=
  let thr := s.f F.PRISM_VOTE_VOTE_OVL
  let s := all.foldl (fun s n => s.put (F.PRISM_SSTAT_OVL n) (tget 0 r.ovl n)) s
  let s := (all.filter fun n => s.votedOut n).foldl (fun s n =>
    let x := s.stream n
    if v.contains n then s.setStream n { x with pass := if thr ≤ tget 0 r.ovl n then x.pass + 1 else 0 }
    else (s.setStream n { x with pass := 0, out := false }).setBit R.PRISM_VOTED n false) s
  r.out.foldl (fun s n =>
    (((s.setStream n { s.stream n with pass := 0, out := true }).setBit R.PRISM_VOTED n true).event 0x0402 [n]).assertSrc 17) s

/-- A class enters or leaves Split (R80, R82): `k` is 0 for position and 1 for heading. -/
def State.setSplit (s : State) (k : Nat) (x : Fld) (now : Bool) : State :=
  if s.b x = now then s
  else if now then (((s.put x 1).put F.PRISM_STATUS_SPLIT_SEEN 1).event 0x0400 [k]).assertSrc 16
  else ((s.put x 0).event 0x0401 [k]).assertSrc 16

/-- READMIT: a voted-out reference, or one the fall-back rejected, has passed READMIT ticks in a row (R78, R111); its PRISM_VOTED bit clears where
that path supplies the result. -/
def State.readmit (s : State) (n : Nat) : State :=
  let lim := s.f F.PRISM_VOTE_READMIT
  let x := s.stream n
  let s := if x.out ∧ lim ≤ x.pass then
      let s := s.setStream n { x with out := false, pass := 0 }
      if s.b F.FILT_FB_STATUS_FB_ACTIVE && x.fbOut then s else s.setBit R.PRISM_VOTED n false
    else s
  let x := s.stream n
  if x.fbOut ∧ lim ≤ x.fbPass then
    let s := s.setStream n { x with fbOut := false, fbPass := 0 }
    if s.b F.FILT_FB_STATUS_FB_ACTIVE && !x.out then s.setBit R.PRISM_VOTED n false else s
  else s

/-- READMIT (R78). -/
def execReadmit (n : Stream) (s : State) : Host.Outcome State Fault Refusal := .next (s.readmit n.val)

/-! ## Fitted peaks (R67 to R71) -/

/-- A fitted peak of a position map: position, covariance and flags; `ok` when every FP32 result is finite. -/
structure Peak where
  cell : Nat
  n : Nat
  e : Nat
  cov : List Nat
  edge : Bool
  flat : Bool
  ok : Bool
deriving DecidableEq, Repr

/-- The peak at cell i of a position map, fitted (R68, R69).  An EDGE peak has no fit, and takes the previous result's covariance as a FLAT one
does: R69 names none, DESIGN CHOICE (assumption log 61). -/
def State.fitAt (s : State) (l : List Int) (i : Nat) : Peak :=
  let (cn, ce) := s.cellCentre i
  let v := around l i
  if onEdge i then ⟨i, metres cn, metres ce, s.prism.last.cov, true, false, true⟩
  else if negDef v then
    let f := fitCell v
    let c := sDiv (sOfInt (s.f F.PRISM_GRID_CELL)) (sOfInt 100)
    let cov := [f.krr, f.krq, f.kqq].map fun k => sMul k (sMul c c)
    let at' := fun (m : Int) (d : Nat) => dAdd (metres m) (dMul (widen d) (metres s.cellMm))
    ⟨i, at' cn f.dr, at' ce f.dq, cov.map widen, false, false, f.ok && cov.all sFinite⟩
  else ⟨i, metres cn, metres ce, s.prism.last.cov, false, true, true⟩

/-- Distance of bin b from the predicted heading, in 1/65,536 turns × 720 units (R71). -/
def State.binDist (s : State) (b : Nat) : Nat :=
  let d := (b * 65536 + 720 * 65536 - s.prism.predHdg * 720) % (720 * 65536)
  min d (720 * 65536 - d)

/-- A fitted heading peak. -/
structure HdgPeak where
  bin : Nat
  h : Nat
  var : Nat
  flat : Bool
  ok : Bool
deriving DecidableEq, Repr

/-- The fitted heading at bin b (R71). -/
def State.fitBin (s : State) (l : List Int) (b : Nat) : HdgPeak :=
  let v := bins3 l b
  let half := fun (x : Nat) => dDiv x (dOfInt 2)
  if v.getD 2 0 - 2 * v.getD 1 0 + v.getD 0 0 < 0 then
    let (off, var, ok) := fitBins v
    ⟨b, wrap360 (dAdd (half (dOfInt b)) (half (widen off))), widen var, false, ok⟩
  else ⟨b, half (dOfInt b), s.prism.last.hdgVar, true, true⟩

/-! ## The main candidate -/

/-- The references whose tiles the sum takes: those not voted out, and in Split of two valid references both (R65, R81). -/
def State.summed (s : State) (v : List Nat) (split : Bool) : List Nat :=
  if split ∧ v.length = 2 then v else v.filter fun n => !s.votedOut n

/-- Note a NaN or an overflow of an FP16 or FP32 stage (R90). -/
def State.noteFp (s : State) (ok : Bool) : State := if ok then s else { s with prism := { s.prism with fpBad := true } }

/-- The position part of the main candidate (R65 to R70, R81, R90); `v` are the valid position references.  The model's choices where the spec is
silent, DESIGN CHOICE (assumption log 68): FLAT and EDGE are those of the selected peak alone, neither of the other peak nor of a reference's own;
the nearer of the two peaks is the one whose cell is nearer, not its fitted place; the margin is the higher peak's value less the lower's,
whichever is selected. -/
def State.mainPosition (s : State) (c : Cand) (v : List Nat) (split : Bool) : Cand × State :=
  let (fused, sat) := s.sumTiles (s.rdMap posPriorAt 4 cells) (s.summed v split)
  let s := s.wrMap posFused 4 fused
  match bestOf centreDist (indexed fused) with
  | none => (c, s)
  | some (i, top) =>
    let sec := (secondCell fused i).filter fun x => split || decide (top - x.2 ≤ 64 * (s.f F.PRISM_VOTE_PEAK2 : Int))
    let p := s.fitAt fused i
    let q := sec.map fun x => (s.fitAt fused x.1, nats (top - x.2))
    let swap := split && (match sec with | some x => decide (centreDist x.1 < centreDist i) | none => false)
    let (sel, second) := match q with
      | none => (p, ([0, 0, 0] : List Nat))
      | some (y, m) => if swap then (y, [p.n, p.e, m]) else (p, [y.n, y.e, m])
    let lim := metres (32 * s.cellMm)
    let wide := fun (x : Nat) => dLt lim (f64.sqrt x).bits
    let s := s.noteFp (p.ok && (match q with | some y => y.1.ok | none => true))
    let bad := sel.flat || sel.edge || sat || wide (sel.cov.getD 0 0) || wide (sel.cov.getD 2 0)
    let cov := match q with
      | some (y, _) => if split then inflate sel.cov (dSub p.n y.n) (dSub p.e y.e) else sel.cov
      | none => sel.cov
    let s := if sel.edge then { s with prism := { s.prism with edgeAt := some (s.cellCentre sel.cell) } } else s
    ({ c with n := sel.n, e := sel.e, cov := cov, second := second, valid := decide (v ≠ []), flat := sel.flat, edge := sel.edge, fail := bad }, s)

/-- The heading part (R71, R81), with the same choices as the position part.  HDG_EN acts as written, in the tick of the write too: the spec gives a
time to MAIN_EN alone, DESIGN CHOICE (assumption log 68). -/
def State.mainHeading (s : State) (c : Cand) (v : List Nat) (split : Bool) : Cand × State :=
  if s.b F.PRISM_CTRL_HDG_EN then
    let (fused, sat) := s.sumTiles (s.rdMap hdgPriorAt 4 bins) (s.summed v split)
    let s := s.wrMap hdgFused 4 fused
    match bestOf s.binDist (indexed fused) with
    | none => (c, s)
    | some (b, top) =>
      let sec := (secondBin fused b).filter fun x => split || decide (top - x.2 ≤ 64 * (s.f F.PRISM_VOTE_PEAK2 : Int))
      let p := s.fitBin fused b
      let q := sec.map fun x => (s.fitBin fused x.1, nats (top - x.2))
      let swap := split && (match sec with | some x => decide (s.binDist x.1 < s.binDist b) | none => false)
      let (sel, second) := match q with
        | none => (p, ([0, 0] : List Nat))
        | some (y, m) => if swap then (y, [p.h, m]) else (p, [y.h, m])
      let var := match q with
        | some (y, _) => if split then inflateAngle sel.var (angleDiff p.h y.h) else sel.var
        | none => sel.var
      let s := s.noteFp (p.ok && (match q with | some y => y.1.ok | none => true))
      ({ c with hdg := sel.h, hdgVar := var, hdgSecond := second, flat := c.flat || sel.flat, fail := c.fail || sat }, s)
  else ({ c with hdg := 0, hdgVar := 0, hdgSecond := [0, 0] }, s)

/-- A group whose every stream is masked: invalid, with the values of its last valid tick (R75). -/
def State.groupNone (s : State) (g : Nat) : List Nat := (s.prism.last.groups.getD g [0, 0, 0, 0, 0, 0, 0]).set 5 0

/-- Group g's result words, and whether its FP32 results are finite (R72, R75).  Row r of the 128 stands for axis A at
min + (r + ½) × (max − min) / 128, and columns for axis B in the same way; R72 names the axes and not the places of the cells (assumption log
61). -/
def State.mainGroup (s : State) (g : Nat) : List Nat × Bool :=
  let l := s.enabledStreams.filter fun n => decide (12 ≤ n ∧ s.groupOf n = g ∧ 0 < s.groupWeight n)
  let sum := (accumulate (List.replicate cells (0 : Int)) (l.map fun n => (s.groupWeight n, s.rdMap (grpTile n) 2 cells))).1
  match l, bestOf centreDist (indexed sum) with
  | n :: _, some (i, _) =>
    let old := s.prism.last.groups.getD g [0, 0, 0, 0, 0, 0, 0]
    let v := around sum i
    let fits := !onEdge i && negDef v
    let f := if fits then fitCell v else ⟨0, 0, 0, 0, 0, true⟩
    let axis := fun k => s.rd ((s.tableAt n).getD 0 + 0x10 + 4 * k) 4
    let step := fun k => sDiv (sSub (axis (k + 1)) (axis k)) (sOfInt 128)
    let place := fun (k cell off : Nat) => sAdd (axis k) (sMul (sAdd (sDiv (sOfInt (2 * cell + 1 : Nat)) (sOfInt 2)) off) (step k))
    let words := [place 0 (i / 128) f.dr, place 2 (i % 128) f.dq, sMul f.krr (sMul (step 0) (step 0)), sMul f.krq (sMul (step 0) (step 2)),
      sMul f.kqq (sMul (step 2) (step 2))]
    (((words.map widen).take 2 ++ (if fits then (words.map widen).drop 2 else (old.drop 2).take 3)) ++
      [1 + 2 * b2n (onEdge i) + 4 * b2n (!onEdge i && !negDef v), bitSum l], f.ok && words.all sFinite)
  | _, _ => (s.groupNone g, true)

/-- A reference's own peak, from its tile alone: position and covariance, or heading and variance (R77). -/
def State.ownPeak (s : State) (n : Nat) : List Nat × Bool :=
  let t := s.refTile n
  if n < 8 then
    match bestOf centreDist (indexed t) with
    | some (i, _) => let p := s.fitAt t i; ([p.n, p.e] ++ p.cov, p.ok)
    | none => ([], true)
  else
    match bestOf s.binDist (indexed t) with
    | some (b, _) => let p := s.fitBin t b; ([p.h, p.var], p.ok)
    | none => ([], true)

/-- The valid references of a class. -/
def State.validRefs (s : State) (k : RefClass) : List Nat :=
  (match k with | .position => [0, 1, 2, 3, 4, 5, 6, 7] | .heading => [8, 9, 10, 11]).filter s.refValid

/-- The main path's work from 460 to 580 µs: voting, Split, sums, fits and the consistency test (R77 to R81, R90). -/
def State.mainPath (s : State) : State :=
  let vp := s.validRefs .position
  let vh := s.validRefs .heading
  let rp := s.judgeClass vp
  let rh := s.judgeClass vh
  let s := s.noteFp (!rp.bad && !rh.bad && (vp ++ vh).all fun n => (s.ownPeak n).2)
  let s := (s.applyVote [0, 1, 2, 3, 4, 5, 6, 7] vp rp).applyVote [8, 9, 10, 11] vh rh
  let c : Cand := { validSet := vp ++ vh ++ ((s.enabledStreams.filter fun n => 12 ≤ n && !s.masked n && s.streamExists n)),
                    splitPos := rp.split, splitHdg := rh.split }
  let (c, s) := s.mainPosition c vp rp.split
  let (c, s) := s.mainHeading c vh rh.split
  let groups := (List.range 6).map s.mainGroup
  let s := s.noteFp (groups.all (·.2))
  let c := { c with votedSet := (List.range 12).filter s.votedOut, groups := groups.map (·.1),
                    fail := decide (vp ≠ []) && (c.fail || s.prism.fpBad) }
  { s with prism := { s.prism with main := some c } }

end Sys2Proof.Machine
end

