-- ==== Sys2Proof/Machine/Fallback.lean ====
section
/-!
DEFINITION. Machine/Fallback.lean: the fall-back path (R108 to R114, R117): decoding by the source table, tracks, medians and the EKF.
-/
namespace Sys2Proof.Machine

/-! ## Decoding (R109, R205) -/

/-- The class of stream that a decode code of R205 serves: 0 position, 1 heading, 2 group. -/
def decodeClass (d : Nat) : Option Nat := if d ≤ 2 then some 0 else if d = 3 then some 1 else if d = 4 then some 2 else none

/-- North and east, heading, or axes A and B of the two scaled values of a sample (R205).  The spherical geometry of decode 1, the direction that
a bearing of decode 2 is counted from, and the attitude that turns a lever arm are not in the spec: free values (assumption log 63). -/
def State.placeOf (s : State) (e : List Byte) (a b : Nat) : Nat × Nat :=
  let d := entryField e 0x0F 1
  let arm := [entryField e 0x20 4, entryField e 0x24 4, entryField e 0x28 4]
  let (x, y) := match d with
    | 1 =>
      let l := (List.range 3).map (fun k => leBytes ((s.site.site.drop (8 * k)).take 8)) ++ [a, b]
      (Config.levelPlane l 0, Config.levelPlane l 1)
    | 2 =>
      let l := [a, b] ++ s.prism.ekf
      (dSub (entryField e 0x30 8) (Config.rangeVector l 0), dSub (entryField e 0x38 8) (Config.rangeVector l 1))
    | _ => (a, b)
  if 2 < d ∨ arm = [0, 0, 0] then (x, y)
  else (dSub x (Config.leverArm (arm ++ s.prism.ekf) 0), dSub y (Config.leverArm (arm ++ s.prism.ekf) 1))

/-- A sample decoded by the stream's source-table entry: value A, value B, σ (R109, R205); none when the entry serves another class, or its
quality field is 0, which R373 calls no measurement. -/
def State.decoded (s : State) (n : Nat) (x : Samp) : Option (Nat × Nat × Nat) :=
  match s.srcEntry n with
  | some e =>
    let q := if entryField e 0x0A 2 = 0xFFFF then none else x.quality
    let sigma := match q with
      | some k => dMul (widen (entryField e 0x1C 4)) (dOfInt k)
      | none => widen (entryField e 0x18 4)
    let p := s.placeOf e (dMul x.value (widen (entryField e 0x10 4))) (dMul x.second (widen (entryField e 0x14 4)))
    if q = some 0 ∨ decodeClass (entryField e 0x0F 1) ≠ some (classOf n) then none else some (p.1, p.2, sigma)
  | none => none

/-- The newest captured sample of stream n and its decoded value. -/
def State.measured (s : State) (n : Nat) : Option (Samp × Nat × Nat × Nat) :=
  match (s.stream n).window.head? with
  | some y => (s.decoded n y).map fun d => (y, d)
  | none => none

/-- A reference is valid for the fall-back (R109): a stream with no entry never is. -/
def State.fbValid (s : State) (n : Nat) : Bool :=
  scfgEn (s.scfg n) && decide (0 < tget 0 s.prism.conf n) && !s.isStale n && !(s.stream n).slipMask && (s.measured n).isSome

/-- The measurement variance of reference n: σ² divided by CONF / 32,768 (R109). -/
def State.measVar (s : State) (n sigma : Nat) : Nat :=
  dDiv (dMul sigma sigma) (dDiv (dOfInt ((tget 0 s.prism.conf n : Nat) : Int)) (dOfInt 32768))

/-! ## Track level (R110) -/

/-- The gate of R110, GATE / 4. -/
def State.fbGate (s : State) : Nat := quarter (s.f F.FILT_FB_GATE_GATE)

/-- Seconds between two instants in units of 2⁻³² ns. -/
def secondsFrom (a b : Nat) : Nat := dDiv (dOfInt ((b : Int) - a)) (dOfInt nsPerSec)

/-- The words of a track that restarts at a measurement: its place exactly, with the measurement's variance; velocity and the rest of the filter
are not in the spec, and free. -/
def trackAt (n a b var m : Nat) : List Nat :=
  let k := Config.kalman [a, b, var]
  if n < 8 then [a, b, k.getD 2 0, k.getD 3 0, var, 0, var, m] ++ k.drop 8 else [a, k.getD 1 0, var, m] ++ k.drop 4

/-- Position and covariance of a track, or heading and variance (R110, R118). -/
def trackPeak (n : Nat) (t : List Nat) : List Nat :=
  if n < 8 then [t.getD 0 0, t.getD 1 0, t.getD 4 0, t.getD 5 0, t.getD 6 0] else [t.getD 0 0, t.getD 2 0]

/-- The squared innovation of a measurement, weighted by the inverse of its covariance: the track's constant-velocity prediction over the time
since its last measurement, its predicted covariance plus the measurement's variance (R110). -/
def innovation (n : Nat) (t : List Nat) (a b var m : Nat) : Nat :=
  let v := fun k => t.getD k 0
  if n < 8 then
    let dt := secondsFrom (v 7) m
    let p := Config.trackCov (t ++ [dt])
    weighted (dSub a (dAdd (v 0) (dMul (v 2) dt))) (dSub b (dAdd (v 1) (dMul (v 3) dt))) (addCov p [var, 0, var])
  else
    let dt := secondsFrom (v 3) m
    weightedAngle (angleDiff a (dAdd (v 0) (dMul (v 1) dt))) (dAdd ((Config.trackCov (t ++ [dt])).getD 0 0) var)

/-- A track after a measurement that passed the gate: the filter's words, and the measurement's instant. -/
def trackNext (n : Nat) (t : List Nat) (a b var m : Nat) : List Nat :=
  let k := Config.kalman (t ++ [a, b, var, m])
  let w := if n < 8 then 7 else 3
  (List.range w).map (k.getD · 0) ++ [m] ++ k.drop (w + 1)

/-- One track step of a valid reference (R110): the first measurement starts the track; a new one within the gate is applied, another is
counted, and with the third in a row the reference is rejected at once, until it has passed READMIT ticks. -/
def State.trackStep (s : State) (n : Nat) : State :=
  let x := s.stream n
  match s.measured n with
  | none => s
  | some (y, a, b, sigma) =>
    let var := s.measVar n sigma
    if x.track = [] then s.setStream n { x with track := trackAt n a b var y.m }
    else if x.lastCap < s.tickNo then s
    else if dLe (innovation n x.track a b var y.m) s.fbGate then
      s.setStream n { x with track := trackNext n x.track a b var y.m, fbRej := 0 }
    else
      let third := decide (3 ≤ x.fbRej + 1)
      s.setStream n { x with fbRej := x.fbRej + 1, fbOut := x.fbOut || third, fbPass := if third then 0 else x.fbPass }

/-- TRACK_RESTART: after three rejected measurements in a row the track restarts at the newest one, and the reference waits for READMIT passing
ticks (R110). -/
def State.trackRestart (s : State) (n : Nat) : State :=
  let x := s.stream n
  if 3 ≤ x.fbRej then
    match s.measured n with
    | some (y, a, b, sigma) =>
      s.setStream n { x with track := trackAt n a b (s.measVar n sigma) y.m, fbRej := 0, fbOut := true, fbPass := 0 }
    | none => s
  else s

/-- TRACK_RESTART (R110). -/
def execTrackRestart (n : Stream) (s : State) : Host.Outcome State Fault Refusal := .next (s.trackRestart n.val)

/-! ## Decision level (R111, R112) -/

/-- The median of FP64 words: with an even count the mean of the two middle ones (R111). -/
def median (l : List Nat) : Nat :=
  let t := sortBy dLt l
  let k := t.length
  if k % 2 = 1 then t.getD (k / 2) 0 else dDiv (dAdd (t.getD (k / 2 - 1) 0) (t.getD (k / 2) 0)) (dOfInt 2)

/-- The squared distance of two peaks, weighted by the inverse of the sum of their covariances (R84, R112). -/
def peakDist (heading : Bool) (a b : List Nat) : Nat :=
  let v := fun (l : List Nat) k => l.getD k 0
  if heading then weightedAngle (angleDiff (v a 0) (v b 0)) (dAdd (v a 1) (v b 1))
  else weighted (dSub (v a 0) (v b 0)) (dSub (v a 1) (v b 1)) (addCov (a.drop 2) (b.drop 2))

/-- The track of reference n lies within the gate of a median, weighted by its own covariance (R111). -/
def State.nearMedian (s : State) (heading : Bool) (med : List Nat) (n : Nat) : Bool :=
  let p := trackPeak n (s.stream n).track
  let m := fun k => med.getD k 0
  dLe (if heading then weightedAngle (angleDiff (p.getD 0 0) (m 0)) (p.getD 1 0)
       else weighted (dSub (p.getD 0 0) (m 0)) (dSub (p.getD 1 0) (m 1)) (p.drop 2)) s.fbGate

/-- What the decision level finds for one class: the valid references that pass, those it rejects now, and Split. -/
structure FbVote where
  pass : List Nat
  out : List Nat
  split : Bool
deriving DecidableEq, Repr

/-- The decision level of one class: `v` its valid references (R111, R112).  With two, both pass when they agree; one alone passes: the spec gives
no test for it (assumption log 63). -/
def State.fbJudge (s : State) (v : List Nat) (heading : Bool) : FbVote :=
  let peak := fun n => trackPeak n (s.stream n).track
  let inn := fun (l : List Nat) => l.filter fun n => !(s.stream n).fbOut
  if 3 ≤ v.length then
    let med := if heading then [Config.circMedian (v.map fun n => (peak n).getD 0 0)]
      else [median (v.map fun n => (peak n).getD 0 0), median (v.map fun n => (peak n).getD 1 0)]
    let pass := v.filter (s.nearMedian heading med)
    if 2 ≤ (inn pass).length then ⟨pass, (inn v).filter fun n => !pass.contains n, false⟩ else ⟨pass, [], true⟩
  else
    match v with
    | [a, b] => if dLe (peakDist heading (peak a) (peak b)) s.fbGate then ⟨v, [], false⟩ else ⟨[], [], true⟩
    | _ => ⟨v, [], false⟩

/-- Rejections and consecutive passing ticks of one class: `all` its references (R110, R111). -/
def State.fbMark (s : State) (all : List Nat) (r : FbVote) : State :=
  all.foldl (fun s n =>
    let x := s.stream n
    if r.out.contains n then s.setStream n { x with fbOut := true, fbPass := 0 }
    else s.setStream n { x with fbPass := if x.fbOut && r.pass.contains n then x.fbPass + 1 else 0 }) s

/-! ## Measurement level (R113) -/

/-- The EKF's words predicted over `dt` seconds: places moved by their velocities (R113). -/
def ekfPredict (x : List Nat) (dt : Nat) : List Nat :=
  let v := fun k => x.getD k 0
  if x = [] then []
  else [dAdd (v 0) (dMul (v 2) dt), dAdd (v 1) (dMul (v 3) dt), v 2, v 3, wrap360 (dAdd (v 4) (dMul (v 5) dt)), v 5] ++
    Config.trackCov (x ++ [dt])

/-- The measurement of reference n with its variance, shifted by the EKF's velocity times its age, n less the assigned tick (R53, R113). -/
def State.ekfMeasure (s : State) (pred : List Nat) (n : Nat) : List Nat :=
  match s.measured n with
  | some (y, a, b, sigma) =>
    let age := dDiv (dOfInt (((s.tickNo - y.tick) * s.periodMs : Nat) : Int)) (dOfInt 1000)
    let v := fun k => pred.getD k 0
    if n < 8 then [0, dAdd a (dMul (v 2) age), dAdd b (dMul (v 3) age), s.measVar n sigma]
    else [1, wrap360 (dAdd a (dMul (v 5) age)), 0, s.measVar n sigma]
  | none => []

/-- The square of how far the track of reference n lies from the EKF prediction (R112). -/
def State.fromPrediction (s : State) (pred : List Nat) (n : Nat) : Nat :=
  let t := (s.stream n).track
  let v := fun (l : List Nat) k => l.getD k 0
  if n < 8 then
    let a := dSub (v t 0) (v pred 0)
    let b := dSub (v t 1) (v pred 1)
    dAdd (dMul a a) (dMul b b)
  else let d := angleDiff (v t 0) (v pred 4); dMul d d

/-- The references that the measurement level takes, and the two that Split sets against each other: those that are not rejected, and in Split
only the one nearer the EKF prediction, against the next nearest (R111, R112). -/
def State.fbTaken (s : State) (pred v : List Nat) (r : FbVote) : List Nat × Option (Nat × Nat) :=
  if r.split then
    let l := sortBy (fun a b => dLt (s.fromPrediction pred a) (s.fromPrediction pred b)) v
    ((l.filter fun n => !(s.stream n).fbOut).take 1, match l with | a :: b :: _ => some (a, b) | _ => none)
  else (v.filter fun n => !(s.stream n).fbOut, none)

/-! ## Groups (R114) -/

/-- The median result of group g: the decoded values of its unmasked streams, axis by axis, and their mean variance divided by their number. -/
def State.fbGroup (s : State) (g : Nat) : List Nat :=
  let l := (s.enabledStreams.filter fun n => decide (12 ≤ n ∧ s.groupOf n = g) && !s.masked n).filterMap fun n =>
    (s.measured n).map fun d => (n, d.2)
  if l = [] then s.groupNone g
  else
    let vals := l.map (·.2)
    let k := dOfInt vals.length
    let var := dDiv (dDiv ((vals.map fun x => dMul x.2.2 x.2.2).foldl dAdd 0) k) k
    [median (vals.map (·.1)), median (vals.map (·.2.1)), var, 0, var, 1, bitSum (l.map (·.1))]

/-! ## The fall-back's run (R108, R117) -/

/-- The candidate of the tick, from the EKF's words after its measurements `x` (R112 to R114). -/
def State.fbCand (s : State) (refs : List Nat) (x : List Nat) (sp sh : Option (Nat × Nat)) (rp rh : FbVote) : Cand :=
  let w := fun k => x.getD k 0
  let tr := fun n k => (s.stream n).track.getD k 0
  { n := w 0, e := w 1, hdg := w 4
    cov := match sp with
      | some (a, b) => inflate [w 6, w 7, w 8] (dSub (tr a 0) (tr b 0)) (dSub (tr a 1) (tr b 1))
      | none => [w 6, w 7, w 8]
    hdgVar := match sh with
      | some (a, b) => inflateAngle (w 9) (angleDiff (tr a 0) (tr b 0))
      | none => w 9
    valid := refs.any (· < 8), splitPos := rp.split, splitHdg := rh.split
    validSet := refs ++ (s.enabledStreams.filter fun n => 12 ≤ n && !s.masked n && s.streamExists n)
    votedSet := refs.filter fun n => (s.stream n).fbOut, groups := (List.range 6).map s.fbGroup }

/-- FALLBACK_COMMIT: tracks, medians and the EKF give the candidate, and the context leaves its core (R108 to R114).  A run that an exception has ended
commits nothing (R144, R185). -/
def State.fallbackCommit (s : State) : State :=
  if s.prism.fbRuns && s.cml.fbCore.isSome then
    let refs := (List.range 12).filter s.fbValid
    let s := refs.foldl (·.trackStep ·) s
    let vp := refs.filter (· < 8)
    let vh := refs.filter (8 ≤ ·)
    let rp := s.fbJudge vp false
    let rh := s.fbJudge vh true
    let s := (s.fbMark [0, 1, 2, 3, 4, 5, 6, 7] rp).fbMark [8, 9, 10, 11] rh
    let dt := dDiv (dOfInt ((s.prism.fbTicks * s.periodMs : Nat) : Int)) (dOfInt 1000)
    let pred := ekfPredict s.prism.ekf dt
    let (up, sp) := s.fbTaken pred vp rp
    let (uh, sh) := s.fbTaken pred vh rh
    let x := Config.kalman (pred ++ [dt, s.f F.FILT_FB_NOISE_QPOS, s.f F.FILT_FB_NOISE_QHDG] ++ ((up ++ uh).map (s.ekfMeasure pred)).flatten)
    let c := s.fbCand refs x sp sh rp rh
    let s := { s with prism := { s.prism with fb := some c, ekf := x, fbTicks := 1, fbRuns := false } }.endFb true
    let s := s.putb F.FILT_FB_STATUS_FB_NOREF (!c.valid)
    let run := s.offsetUs - 200
    (s.put F.FILT_FB_HWM_RUN (max (s.f F.FILT_FB_HWM_RUN) (min 0xFFFF run))).sched
  else s

/-- FALLBACK_COMMIT (R108). -/
def execFallbackCommit (s : State) : Host.Outcome State Fault Refusal := .next s.fallbackCommit

/-- FB_LATE: a fall-back not committed by 580 µs is stopped; its next run starts from the last committed state, over the longer interval
(R117). -/
def State.fbLate (s : State) : State :=
  if s.prism.fbRuns then
    let s := { s with prism := { s.prism with fb := none, fbTicks := s.prism.fbTicks + 1, fbRuns := false } }.endFb false
    (((s.put F.FILT_FB_STATUS_FB_LATE 1).event 0x0503 []).assertSrc 24).sched
  else s

/-- FB_LATE (R117). -/
def execFbLate (s : State) : Host.Outcome State Fault Refusal := .next s.fbLate

end Sys2Proof.Machine
end

