-- ==== Sys2Proof/Machine/Result.lean ====
section
/-!
DEFINITION. Machine/Result.lean: establishment (R83 to R86, R118), the choice of the published result and its record (R89, R90, R115, R116), the
writes of PRISM registers that act, and Prism's restarts (R87).
-/
namespace Sys2Proof.Machine

/-! ## Establishment (R84, R85, R118) -/

/-- The peak words of reference n for the agreement test: position or heading with covariance, from its tile or its track. -/
def State.refPeak (s : State) (n : Nat) (main : Bool) : List Nat :=
  if main then (s.ownPeak n).1 else trackPeak n (s.stream n).track

/-- Two references of a class agree within EST_GATE / 4 (R84). -/
def State.agree (s : State) (main : Bool) (a b : Nat) : Bool :=
  dLe (peakDist (decide (8 ≤ a)) (s.refPeak a main) (s.refPeak b main)) (quarter (s.f F.PRISM_EST_EST_GATE))

/-- Some pair of a list agrees. -/
def somePair (r : Nat → Nat → Bool) : List Nat → Bool
  | [] => false
  | a :: l => l.any (r a) || somePair r l

/-- Count agreement in a class. -/
def State.countClass (s : State) (x : Fld) (main : Bool) (use : List Nat) (split : Bool) : State :=
  if somePair (s.agree main) use && !split then s.put x (min 20 (s.f x + 1)) else s.put x 0

/-- ESTABLISHMENT: the count has reached 20; the flag is set in this tick's result, with an event and the interrupt (R84). -/
def State.establish (s : State) (k : RefClass) : State :=
  let cnt := match k with | .position => F.PRISM_STATUS_POS_CNT | .heading => F.PRISM_STATUS_HDG_CNT
  let est := match k with | .position => F.PRISM_STATUS_POS_EST | .heading => F.PRISM_STATUS_HDG_EST
  if 20 ≤ s.f cnt ∧ s.b est = false then
    let s := s.put est 1
    let s := if k = .position then { s with cml := { s.cml with alarmLift := true } } else s
    (s.patchStatus.event 0x0405 [match k with | .position => 0 | .heading => 1]).assertSrc 20
  else s

/-- ESTABLISHMENT (R84). -/
def execEstablishment (k : RefClass) (s : State) : Host.Outcome State Fault Refusal := .next (s.establish k)

/-- Establishment and count of a class cleared. -/
def State.unestablish (s : State) (k : RefClass) : State :=
  match k with
  | .position => (s.put F.PRISM_STATUS_POS_EST 0).put F.PRISM_STATUS_POS_CNT 0
  | .heading => (s.put F.PRISM_STATUS_HDG_EST 0).put F.PRISM_STATUS_HDG_CNT 0

/-- ESTABLISHMENT_TIMEOUT: 200 consecutive ticks with no valid reference of the class (R85). -/
def execEstablishmentTimeout (k : RefClass) (s : State) : Host.Outcome State Fault Refusal :=
  if 200 ≤ (match k with | .position => s.prism.noPos | .heading => s.prism.noHdg) then .next (s.unestablish k) else .next s

/-- EST_CLR (R85): both classes cleared and both priors flat. -/
def State.estClear (s : State) : State :=
  let s := (s.unestablish .position).unestablish .heading
  { s with prism := { s.prism with posPrior := .flat, hdgPrior := .flat } }

/-- A write of PRISM_CTRL: MAIN_EN takes effect at the next Strobe (R119). -/
def State.prismCtrlWrite (s : State) (v : Word) : State :=
  let s := s.setLater R.PRISM_CTRL (v &&& 7)
  if v.getLsbD 3 then s.estClear else s

/-- EST_CLR (R85). -/
def execEstClr (_m : Master) (v : Word) (s : State) : Host.Outcome State Fault Refusal := .next (s.prismCtrlWrite (v ||| 8))

/-- A write of PRISM_PRED_HDG arms the prediction set (R63). -/
def State.predArm (s : State) (v : Word) : State :=
  { s.setReg R.PRISM_PRED_HDG (v &&& 0xFFFF) with prism := { s.prism with armed := true } }

/-- PRED_ARM (R63). -/
def execPredArm (_m : Master) (v : Word) (s : State) : Host.Outcome State Fault Refusal := .next (s.predArm v)

/-- A write of PRISM_GRID (R62): in Stop a legal cell size takes effect, flattens the position prior and clears establishment (R85). -/
def State.gridWrite (s : State) (m : Master) (v : Word) : State :=
  let c := bitsOf v 5 0
  if s.mode ≠ .stop ∨ c < 1 ∨ 50 < c then s.recordWrite m R.PRISM_GRID v
  else if c = s.f F.PRISM_GRID_CELL then s
  else
    let s := ((s.put F.PRISM_GRID_CELL c).unestablish .position).unestablish .heading
    { s with prism := { s.prism with posPrior := .flat } }

/-- PRISM_GRID_WRITE (R62). -/
def execPrismGridWrite (m : Master) (v : Word) (s : State) : Host.Outcome State Fault Refusal := .next (s.gridWrite m v)

/-! ## The published result (R89, R90, R115, R116) -/

/-- The effective weight of stream n in a result with the given valid and voted-out streams (R66). -/
def State.effWeight (s : State) (valid voted : List Nat) (n : Nat) : Nat :=
  if valid.contains n && !voted.contains n then (if n < 12 then tget 0 s.prism.conf n else s.groupWeight n) else 0

/-- The bytes of stream n's entry of the record.  A stream that has captured no sample has age 255, and the skew is rounded to whole
microseconds toward minus infinity: the spec says neither, DESIGN CHOICE (assumption log 60). -/
def State.streamBytes (s : State) (n : Nat) (valid voted : List Nat) : List Byte :=
  let x := s.stream n
  let y := x.window.head?
  let fl := b2n (valid.contains n) + 2 * b2n (scfgEn (s.scfg n) && s.isStale n) + 4 * b2n (voted.contains n) + 8 * b2n (s.masked n) +
    16 * b2n (decide (x.lastSlip = s.tickNo ∧ x.slips ≠ [])) + 32 * b2n (s.prism.encBad.contains n) + 64 * b2n (s.tblFailed n) +
    128 * b2n (match y with | some z => z.warm | none => false)
  let age := match y with | some z => min 255 (s.tickNo - z.tick) | none => 255
  let skew : Int := match y with | some z => z.skew / (1000 * 2 ^ 32) | none => 0
  bytesLE 2 (s.effWeight valid voted n) ++ bytesLE 2 (s.f (F.PRISM_SSTAT_OVL n)) ++ bytesLE 1 age ++ bytesLE 1 fl ++
    bytesLE 1 (min 255 (s.slipCount n)) ++ [0] ++ bytesLE 4 (unsignedOf 32 skew) ++ [0, 0, 0, 0]

/-- The 1,024 bytes of the result record (R89). -/
def State.recordBytes (s : State) (c : Cand) (voted : List Nat) : List Byte :=
  let d := fun (l : List Nat) => (l.map (bytesLE 8)).flatten
  bytesLE 8 s.tickNo ++ bytesLE 4 (s.reg R.PRISM_STATUS).toNat ++ bytesLE 4 (bitSum c.validSet) ++ bytesLE 4 (bitSum voted) ++
    bytesLE 4 (s.reg R.PRISM_MASKED).toNat ++ d [c.n, c.e] ++ d (c.cov.take 3) ++ d [c.hdg, c.hdgVar] ++ d (c.second.take 3) ++
    d (c.hdgSecond.take 2) ++ d [metres s.prism.cn, metres s.prism.ce] ++ List.replicate 120 0 ++
    (((List.range 6).map fun g =>
      let r := c.groups.getD g [0, 0, 0, 0, 0, 0, 0]
      d (r.take 5) ++ bytesLE 4 (r.getD 5 0) ++ bytesLE 4 (r.getD 6 0) ++ List.replicate 16 0).flatten) ++
    (((List.range 24).map fun n => s.streamBytes n c.validSet voted).flatten)

/-- The voted-out references that a result shows: those of its own path, and those the main path has voted out where it ran in the tick (R78,
R111). -/
def State.shownVotes (s : State) (c : Cand) : List Nat :=
  (c.votedSet ++ (match s.prism.main with | some m => m.votedSet | none => [])).filter (· < 12)

/-- Publish a candidate as the record of this tick, from the main path, the fall-back or neither: registers and result buffer, whose tick field is
all ones while its body is written (R89, R115). -/
def State.publish (s : State) (c : Cand) (who : Option Bool) : State :=
  let s := (s.putb F.PRISM_STATUS_MAIN_ACTIVE (who = some true)).putb F.FILT_FB_STATUS_FB_ACTIVE (who = some false)
  let s := s.putb F.PRISM_STATUS_RES_VALID c.valid
  let s := s.setReg R.PRISM_VALID (BitVec.ofNat 32 (bitSum c.validSet))
  let s := s.setReg64 R.PRISM_RES_TICK_LO s.tickNo
  let s := (s.puti F.PRISM_CENTRE_N_CN s.prism.cn).puti F.PRISM_CENTRE_E_CE s.prism.ce
  let voted := s.shownVotes c
  let s := s.setReg R.PRISM_VOTED (BitVec.ofNat 32 (bitSum voted))
  let s := (List.range 24).foldl (fun s n => s.put (F.PRISM_SCONF_EFF n) (s.effWeight c.validSet voted n)) s
  let body := s.recordBytes c voted
  let s := (s.wr (resultAt s.tickNo) 8 (2 ^ 64 - 1)).wrBytes (resultAt s.tickNo) body
  let was := s.prism.pub
  let s := { s with prism := { s.prism with last := c, lastRec := body, pub := who.or was } }
  if who = none ∨ was = none ∨ was = who then s else (s.event 0x0502 [b2n (who = some true)]).assertSrc 23

/-- The main candidate and the fall-back agree on position (R116). -/
def State.returnAgree (s : State) (a b : Cand) : Bool :=
  dLe (peakDist false ([a.n, a.e] ++ a.cov) ([b.n, b.e] ++ b.cov)) (quarter (s.f F.FILT_FB_GATE_AGREE))

/-- The causes for which the fall-back is to be published, other than the return count: disabled, table failed, consistency, forced (R115). -/
def State.fbCauses (s : State) : Bool × Bool × Bool × Bool :=
  (decide (bitsOf (s.eff R.PRISM_CTRL) 0 0 = 0), s.b F.PRISM_STATUS_TBL_FAIL, (match s.prism.main with | some c => c.fail | none => false),
   s.b F.FILT_FB_CTRL_FORCE)

/-- What publishing a candidate brings with it: Split, agreement counts and the ticks without a valid reference, then the record. -/
def State.conclude (s : State) (c : Cand) (who : Option Bool) : State :=
  let s := (s.setSplit 0 F.PRISM_STATUS_SPLIT_POS c.splitPos).setSplit 1 F.PRISM_STATUS_SPLIT_HDG c.splitHdg
  let use := fun (p : Nat → Bool) => c.validSet.filter fun n => p n && !c.votedSet.contains n
  let s := s.countClass F.PRISM_STATUS_POS_CNT (who = some true) (use fun n => decide (n < 8)) c.splitPos
  let s := s.countClass F.PRISM_STATUS_HDG_CNT (who = some true) (use fun n => decide (8 ≤ n ∧ n < 12)) c.splitHdg
  let none' := fun (p : Nat → Bool) (k : Nat) => if c.validSet.any p then 0 else k + 1
  let s := { s with prism := { s.prism with noPos := none' (fun n => decide (n < 8)) s.prism.noPos,
                                            noHdg := none' (fun n => decide (8 ≤ n ∧ n < 12)) s.prism.noHdg } }
  s.publish c who

/-- The main candidate is published: no cause of the fall-back stands, and the return count is 0 again. -/
def State.concludeMain (s : State) (c : Cand) : State :=
  ({ s with prism := { s.prism with fbCons := false } }.setReg R.FILT_FB_STATUS (s.reg R.FILT_FB_STATUS &&& 0xC0)).conclude c (some true)

/-- The fall-back candidate is published, with every cause that applies: CAUSE_CONS stands from a consistency failure until the return (R115). -/
def State.concludeFb (s : State) (c : Cand) : State :=
  let (dis, tbl, cons, force) := s.fbCauses
  let cons := cons || (s.b F.FILT_FB_STATUS_FB_ACTIVE && s.prism.fbCons)
  let s := { s with prism := { s.prism with fbCons := cons } }
  ((((s.putb F.FILT_FB_STATUS_CAUSE_DIS dis).putb F.FILT_FB_STATUS_CAUSE_TBL tbl).putb F.FILT_FB_STATUS_CAUSE_CONS cons).putb
    F.FILT_FB_STATUS_CAUSE_FORCE force).conclude c (some false)

/-- Neither path has a result: the last published position with RES_VALID 0, no stream and no group valid (R115; assumption log 62). -/
def State.concludeNone (s : State) : State :=
  let l := s.prism.last
  s.conclude { l with valid := false, validSet := [], votedSet := [], splitPos := false, splitHdg := false,
                      groups := l.groups.map (·.set 5 0) } none

/-- Flags, event and interrupt of the main candidate (R68, R69, R90). -/
def State.noteMain (s : State) : State :=
  match s.prism.main with
  | some c =>
    let s := if c.flat then s.put F.PRISM_STATUS_FLAT 1 else s
    let s := if c.edge then s.put F.PRISM_STATUS_EDGE 1 else s
    if c.fail then ((s.put F.PRISM_STATUS_CONS_FAIL 1).event 0x0407 []).assertSrc 22 else s
  | none => s

/-- The return count of a tick (R116). -/
def State.countReturn (s : State) : State :=
  match s.prism.main, s.prism.fb with
  | some a, some b => if !a.fail && s.returnAgree a b then
      s.put F.FILT_FB_STATUS_RET_CNT (min 255 (s.f F.FILT_FB_STATUS_RET_CNT + 1)) else s.put F.FILT_FB_STATUS_RET_CNT 0
  | _, _ => s.put F.FILT_FB_STATUS_RET_CNT 0

/-- RESULT_COMMIT (R88, R90, R115 to R118): failure signs, the main path's stages, then the choice of the published record.  In the tick in which
the return count reaches RETURN the record is left to MAIN_RETURN, the next command; ESTABLISHMENT sets establishment. -/
def State.resultCommit (s : State) : State :=
  let s := s.maskAll
  let s := (if s.prism.ran then s.mainPath else s).noteMain
  let wasFb := s.b F.FILT_FB_STATUS_FB_ACTIVE
  let s := if wasFb then s.countReturn else s
  let (dis, tbl, cons, force) := s.fbCauses
  let cause := dis || tbl || cons || force
  let usable := s.b F.FILT_FB_CTRL_FB_EN && (match s.prism.fb with | some c => c.valid | none => false)
  match s.prism.main with
  | some c =>
    if (cause || wasFb) && usable then
      if !cause && decide (max 1 (s.f F.FILT_FB_CTRL_RETURN) ≤ s.f F.FILT_FB_STATUS_RET_CNT) then
        { s with prism := { s.prism with returning := true } }
      else s.concludeFb (s.prism.fb.getD {})
    else s.concludeMain c
  | none => if usable then s.concludeFb (s.prism.fb.getD {}) else s.concludeNone

/-- RESULT_COMMIT (R88). -/
def execResultCommit (s : State) : Host.Outcome State Fault Refusal := .next s.resultCommit

/-- MAIN_RETURN: the return count has reached RETURN in this tick, and the main candidate is published again (R116). -/
def State.mainReturn (s : State) : State :=
  match s.prism.main with
  | some c => if s.prism.returning then { s with prism := { s.prism with returning := false } }.concludeMain c else s
  | none => s

/-- MAIN_RETURN (R116). -/
def execMainReturn (s : State) : Host.Outcome State Fault Refusal := .next s.mainReturn

/-! ## Restarts (R83, R87) -/

/-- A cold start of Prism. -/
def State.prismCold (s : State) : State := s.estClear

/-- A warm restart: the priors are rebuilt as bowls around the last published position and heading, and establishment carries over. -/
def State.prismWarm (s : State) : State :=
  { s with prism := { s.prism with posPrior := .bowl, hdgPrior := .bowl } }

/-- The streams of a bitmap. -/
def streamsOf (x : Nat) : List Nat := (List.range 24).filter fun n => decide (x / 2 ^ n % 2 = 1)

/-- A result as 57 words: what a checkpoint carries of it. -/
def Cand.words (c : Cand) : List Nat :=
  let pad := fun (k : Nat) (l : List Nat) => (List.range k).map (l.getD · 0)
  [c.n, c.e] ++ pad 3 c.cov ++ [c.hdg, c.hdgVar] ++ pad 3 c.second ++ pad 2 c.hdgSecond ++
    [b2n c.valid + 2 * b2n c.edge + 4 * b2n c.flat + 8 * b2n c.fail + 16 * b2n c.splitPos + 32 * b2n c.splitHdg + 64 * b2n (!c.groups.isEmpty),
     bitSum c.validSet, bitSum c.votedSet] ++ ((List.range 6).map fun g => pad 7 (c.groups.getD g [])).flatten

/-- The result that such words stand for. -/
def Cand.ofWords (l : List Nat) : Cand :=
  let w := fun k => l.getD k 0
  let fl := fun k => decide (w 12 / 2 ^ k % 2 = 1)
  let part := fun (i k : Nat) => (l.drop i).take k
  { n := w 0, e := w 1, cov := part 2 3, hdg := w 5, hdgVar := w 6, second := part 7 3, hdgSecond := part 10 2, valid := fl 0, edge := fl 1
    flat := fl 2, fail := fl 3, splitPos := fl 4, splitHdg := fl 5, validSet := streamsOf (w 13), votedSet := streamsOf (w 14)
    groups := if fl 6 then (List.range 6).map fun g => part (15 + 7 * g) 7 else [] }

/-- The Prism state of a checkpoint (R87, R302): establishment flags, counts and the last published result, as words, the 128 of its record last. -/
def State.prismState (s : State) : List Nat :=
  ((s.reg R.PRISM_STATUS).toNat :: s.prism.last.words) ++ (List.range 128).map fun k => leBytes ((s.prism.lastRec.drop (8 * k)).take 8)

/-- Install such a state. -/
def State.setPrismState (s : State) (l : List Nat) : State :=
  let st := l.getD 0 0
  let s := (s.put F.PRISM_STATUS_POS_CNT (st / 2 ^ 16)).put F.PRISM_STATUS_HDG_CNT (st / 2 ^ 24)
  let s := (s.put F.PRISM_STATUS_POS_EST (st / 2)).put F.PRISM_STATUS_HDG_EST (st / 4)
  let body := ((l.drop 58).take 128).map (bytesLE 8)
  { s with prism := { s.prism with last := Cand.ofWords (l.drop 1), lastRec := if s.prism.lastRec = [] ∧ l.drop 58 = [] then [] else body.flatten } }

end Sys2Proof.Machine
end

