-- ==== Sys2Proof/Machine/Restart.lean ====
section
/-!
DEFINITION. Machine/Restart.lean: the local checkpoint (R198), cold and warm restarts (R195 to R200), migration tables (R215) and the
mode changes at a tick boundary (R188 to R194, R294).
-/
namespace Sys2Proof.Machine

/-! ## Versions and the active image's header (R204) -/

def State.litVer (s : State) : Nat := (s.reg R.PRG_LIT_VER).toNat

/-- The versions an event of the lifecycle carries (R211): Lit, then Shade. -/
def State.versions (s : State) : List Nat := [s.litVer, (s.reg R.PRG_SHADE_VER).toNat]

/-- A word of the image header in the active bank. -/
def State.header (s : State) (o : Nat) : Nat := s.rd (s.bankBase + o) 4

/-- The instance extent in bytes. -/
def State.extent (s : State) : Nat := s.header 0x1C

/-- A refusal (R189, R483): its reason with the order, the count and the capacity, and after these four words the versions of the Lit, the
Shade and the Candidate (R211; assumption log 58). -/
def State.prgRefuse (s : State) (code : Nat) (order : Nat := 0) (count : Nat := 0) (cap : Nat := 0) : State :=
  (((s.put F.PRG_STATUS_REFUSED 1).put F.PRG_STATUS_REFUSE code).event 0x0300
    ([code, order, count, cap] ++ s.versions ++ [s.rd (slotBase (s.f F.PRG_ROLES_CAND)) 4])).assertSrc 9

/-! ## The role record (R202; its layout: assumption log 2) -/

/-- Where copy k of the role record stands (R201). -/
def roleCopy (k : Nat) : Nat := 0x83FFC000 + 0x2000 * k

/-- A copy of the role record: a u64 sequence number, a u32 with PRG_ROLES and TRIAL at bit 8, and the CRC-32C of these twelve bytes. -/
def roleBytes (seq roles : Nat) : List Byte :=
  let l := bytesLE 8 seq ++ bytesLE 4 roles
  l ++ bytesLE 4 (crc32c l)

/-- Copy k of the role record, where it is valid: its sequence number and its word. -/
def State.roleAt? (s : State) (k : Nat) : Option (Nat × Nat) :=
  let a := roleCopy k
  if s.rd a 8 ≠ 0 ∧ crc32c (s.rdBytes a 12) = s.rd (a + 12) 4 then some (s.rd a 8, s.rd (a + 8) 4) else none

/-- The valid copy with the higher sequence number (R202). -/
def State.roleRecord (s : State) : Option (Nat × Nat) :=
  match s.roleAt? 0, s.roleAt? 1 with
  | some a, some b => some (if a.1 < b.1 then b else a)
  | some a, none => some a
  | none, b => b

/-- The module writes one copy of the role record and then the other (R202). -/
def State.writeRoles (s : State) : State :=
  let l := roleBytes ((match s.roleRecord with | some x => x.1 | none => 0) + 1)
    (bitsOf (s.reg R.PRG_ROLES) 5 0 + s.f F.PRG_STATUS_TRIAL * 256)
  (s.wrBytes (roleCopy 0) l).wrBytes (roleCopy 1) l

/-- At power-up the roles and TRIAL are those of the record (R202, R212); with no valid copy they stay. -/
def State.readRoles (s : State) : State :=
  match s.roleRecord with
  | some (_, w) => (s.setReg R.PRG_ROLES (BitVec.ofNat 32 (w % 64))).put F.PRG_STATUS_TRIAL (w / 256 % 2)
  | none => s

/-! ## Snapshots (R198) -/

/-- Bytes a generation can hold. -/
def genCap : Nat := 2024 * 1024

/-- The state fits a generation. -/
def State.ckptFits (s : State) : Bool := decide (s.extent + 4096 * s.cml.relevant.length ≤ genCap)

/-- Where generation g of the local checkpoint starts (R201), and where its state starts behind the 16 KiB header. -/
def genBase (g : Nat) : Nat := 0x83C00000 + 0x1FE000 * g
def genState (g : Nat) : Nat := genBase g + 0x4000

/-- Where in a generation the byte at address a is kept: instance data first, then the relevant pages in order. -/
def Ckpt.place (c : Ckpt) (a : Nat) : Option Nat :=
  if instBase ≤ a ∧ a < instBase + c.extent then some (a - instBase)
  else match (List.range c.relevant.length).find? fun i =>
      let p := pageAddr (c.relevant.getD i 0)
      decide (p ≤ a ∧ a < p + 4096) with
    | some i => some (c.extent + 4096 * i + (a - pageAddr (c.relevant.getD i 0)))
    | none => none

/-- Bytes of state that a checkpoint keeps in a generation. -/
def Ckpt.size (c : Ckpt) : Nat := c.extent + 4096 * c.relevant.length

/-- The header's fields behind the sequence number and the CRC (their layout: assumption log 2). -/
def Ckpt.header (c : Ckpt) : List Byte :=
  bytesLE 4 c.version ++ bytesLE 8 c.tick ++ bytesLE 8 c.stamp ++ bytesLE 4 c.trial ++ bytesLE 4 c.extent ++
    bytesLE 4 c.relevant.length ++ (c.relevant.map (bytesLE 2)).flatten

/-- The CRC-32C of generation g as its bytes stand: over the header's fields from 0x0C and the state. -/
def State.genCrc (s : State) (g : Nat) (c : Ckpt) : Nat :=
  crc32c (s.rdBytes (genBase g + 12) c.header.length ++ s.rdBytes (genState g) c.size)

/-- A checkpoint is written to generation g: state, and last the header with sequence number and CRC-32C (R198). -/
def State.writeGen (s : State) (g : Nat) (c : Ckpt) : State :=
  let s := { s with mem := s.mem.filter fun e => decide (e.1 < genBase g) || decide (genState g + c.size ≤ e.1) }
  let s := c.cells.foldl (fun s e => match c.place e.1 with | some o => s.setByte (genState g + o) e.2 | none => s) s
  let s := s.wrBytes (genBase g + 12) c.header
  s.wrBytes (genBase g) (bytesLE 8 c.seq ++ bytesLE 4 (s.genCrc g c))

/-- What generation g holds, where its header is valid: its pages and cells as the bytes of MRAM stand. -/
def State.gen? (s : State) (g : Nat) : Option Ckpt :=
  match tget? s.prg.gens g with
  | some c =>
    if s.rd (genBase g) 8 = c.seq then
      some { c with cells := (s.mem.filterMap fun e =>
        if genState g ≤ e.1 ∧ e.1 < genState g + c.size then
          let o := e.1 - genState g
          some (if o < c.extent then instBase + o else pageAddr (c.relevant.getD ((o - c.extent) / 4096) 0) + (o - c.extent) % 4096, e.2)
        else none) }
    else none
  | none => none

/-- The CRC of generation g passes on reading (R199). -/
def State.genIntact (s : State) (g : Nat) : Bool :=
  match s.gen? g with
  | some c => decide (s.rd (genBase g + 8) 4 = s.genCrc g c)
  | none => false

/-- The newest valid generation: its number and content. -/
def State.newestGen (s : State) : Option (Nat × Ckpt) :=
  match s.gen? 0, s.gen? 1 with
  | some a, some b => if a.seq < b.seq then some (1, b) else some (0, a)
  | some a, none => some (0, a)
  | none, some b => some (1, b)
  | none, none => none

/-- PRG_CKPT and PRG_STATUS show the generations. -/
def State.showCkpt (s : State) : State :=
  let s := s.putb F.PRG_STATUS_CKPT_FIT (decide (s.litVer ≠ 0) && s.ckptFits)
  match s.newestGen with
  | some (g, c) => ((s.put F.PRG_STATUS_CKPT_VALID 1).put F.PRG_CKPT_GEN g).put F.PRG_CKPT_AGE (min 255 (s.tickNo - c.tick))
  | none => s.put F.PRG_STATUS_CKPT_VALID 0

/-- Address a is in instance data or in one of the numbered pages. -/
def ckptHolds (pages : List Nat) (a : Nat) : Bool :=
  match pageOf a with
  | some p => p < 1024 || pages.contains p
  | none => false

/-- The current warm-start blocks (R233). -/
def State.warmBlocks (s : State) : Tbl (Nat × Nat × List Nat) :=
  s.azs.table.filterMap fun e =>
    match s.curWarm e.2 with
    | some i => some (e.1, s.rd (e.2.blkAt i) 4, s.rd (e.2.blkAt i + 8) 8,
        (List.range e.2.wsLen).map fun j => s.rd (e.2.blkAt i + 16 + 8 * j) 8)
    | none => none

/-- The module's restart state now (R197, R302). -/
def State.ckptNow (s : State) : Ckpt :=
  { extent := s.extent, tick := s.tickNo, stamp := s.reg64 R.CML_STAMP_LO, version := s.litVer, trial := s.f F.PRG_TRIAL_CNT_TCNT,
    cells := s.mem.filter fun e => ckptHolds s.cml.relevant e.1, relevant := s.cml.relevant, prism := s.prismState,
    warm := s.warmBlocks }

/-- LOCAL_SNAPSHOT (R198): at the end of Keep, every CKPT_PERIOD ticks, in every mode, of a program that has been in Run since its load, or of the
state `kept` that a standby holds (R304).  A program that has not run has no state yet: a snapshot of it would replace the one that a warm start
needs (assumption log 16).  It is skipped while the write before it runs, and not taken when the state does not fit.  The generation that is to be
written loses its header first. -/
def State.localSnapshot (s : State) (kept : Option Ckpt) : State :=
  let per := s.f F.PRG_CTRL_CKPT_PERIOD
  if per = 0 ∨ s.litVer = 0 ∨ (s.prg.ran = false ∧ kept = none) ∨ s.prg.since + 1 < per then
    { s with prg := { s.prg with since := s.prg.since + 1 } }
  else
    let s := { s with prg := { s.prg with since := 0 } }.showCkpt
    if s.ckptFits = false then s
    else match s.prg.writing with
      | some _ => s.count F.PRG_CKPT_SKIP
      | none =>
        let g := match s.newestGen with | some (g, _) => 1 - g | none => 0
        let seq := match s.newestGen with | some (_, c) => c.seq + 1 | none => 1
        let c := kept.getD s.ckptNow
        { (s.wr (genBase g) 8 0) with
          prg := { s.prg with writing := some (g, { c with seq := seq, extent := s.extent }), gens := tdel s.prg.gens g } }

/-- SNAPSHOT_WRITE_COMPLETE: the state is in MRAM, the header is written last, and the generation is valid (R198); Afterglow stops the write (R327). -/
def State.snapshotDone (s : State) : State :=
  match s.prg.writing with
  | some (g, c) =>
    let s := { s with prg := { s.prg with writing := none } }
    if s.b F.REC_STATUS_AFTERGLOW then s
    else { (s.writeGen g c) with prg := { s.prg with gens := tput s.prg.gens g c } }.showCkpt
  | none => s

/-- SNAPSHOT_WRITE_COMPLETE (R198). -/
def execSnapshotWriteComplete (s : State) : Host.Outcome State Fault Refusal := .next s.snapshotDone

/-! ## Migration (R215) -/

/-- One entry of a migration table. -/
structure Migration where
  src : Nat
  dst : Nat
  len : Nat
  op : Nat
deriving DecidableEq, Repr

/-- Entry i of a migration table at an address: past the 16-byte header. -/
def State.migrationAt (s : State) (a i : Nat) : Migration :=
  let b := a + 16 + 16 * i
  { src := s.rd b 4, dst := s.rd (b + 4) 4, len := s.rd (b + 8) 4, op := s.rd (b + 12) 1 }

/-- An entry the copier acts on. -/
def Migration.ok (x : Migration) : Bool := decide (x.op ≤ 1 ∨ (x.op = 2 ∧ x.len = 24) ∨ (x.op = 3 ∧ x.len = 1))

/-- A timer record gets ET 0, STAMP 0 and STATE 0; PT and MODE stay (R165). -/
def State.resetTimer (s : State) (a : Nat) : State := ((s.wr (a + 4) 4 0).wr (a + 8) 8 0).wr (a + 0x11) 1 0

/-- PRIME of an edge record is set (R169). -/
def State.primeEdge (s : State) (a : Nat) : State := s.setByte a (s.byte a ||| 0x80)

/-- The copier runs one entry; `init` is where the new image's initial data stands (R215). -/
def State.runMigration (s : State) (init : Nat) (x : Migration) : State :=
  match x.op with
  | 0 => s.wrBytes (instBase + x.dst) (s.rdBytes (instBase + x.src) x.len)
  | 1 => s.wrBytes (instBase + x.dst) (s.rdBytes (init + x.src) x.len)
  | 2 => s.resetTimer (instBase + x.dst)
  | _ => s.primeEdge (instBase + x.dst)

/-- The copier runs entries in order and stops before a bad one; the answer says whether it ran them all. -/
def State.runMigrations (s : State) (init : Nat) : List Migration → Bool × State
  | [] => (true, s)
  | x :: l => if x.ok then (s.runMigration init x).runMigrations init l else (false, s)

/-- The entries of the migration table at an address. -/
def State.migrations (s : State) (a : Nat) : List Migration := (List.range (s.rd (a + 8) 4)).map (s.migrationAt a)

/-- Where the initial data of the image in a bank stands. -/
def State.initData (s : State) (bank : Nat) : Nat := bank + s.rd (bank + 0x20) 4

/-! ## Cold and warm restarts (R196, R197, R240) -/

/-- The record of every problem, admitted or only defined, is NEVER, and its warm-start blocks are invalid (R240). -/
def State.clearProblems (s : State) : State :=
  s.clearAreas (s.azs.table ++ s.azsSound.filter fun e => (tget? s.azs.table e.1).isNone) (fun _ _ => false) true

/-- Points have not been good or refreshed since a start, and the first scan of every library instance is to come (R172, R139). -/
def State.startPoints (s : State) : State :=
  let l := (s.typed.filter fun x => (libOf x.2.2).isSome).map fun x => x.2.1.ident
  { s with cml := { s.cml with good := [], libNew := l.foldl addTo [] }, points := { s.points with live := [], seen := [] } }

/-- After a cold restart the observer is uninitialised and the mode is Standby, whatever the image's initial data hold (R127, R139; the places of
the observer's wave state: assumption log 64). -/
def State.libCold (s : State) : State :=
  let s := match s.libInst .observer with
    | some a => (s.wrBytes a (List.replicate 128 0)).wrBytes (a + 0x318) (List.replicate 48 0)
    | none => s
  match s.libInst .modeseq with
  | some a => s.wr (a + 8) 8 0
  | none => s

/-- A cold restart (R196). -/
def State.coldRestart (s : State) : State :=
  let s := s.wrBytes instBase (s.rdBytes (s.initData s.bankBase) (min s.extent 0x400000))
  let s := { s with cml := { s.cml with dirty := [], relevant := [], obsWait := false, alarmLift := false }, prg := { s.prg with started := .cold, startTick := s.tickNo } }
  s.libCold.startPoints.prismCold.shadowCold.clearProblems.releaseEmpty

/-- Before the first scan PRIME is set in every edge record listed in the state maps of the defined instances (R197). -/
def State.primeAll (s : State) : State :=
  s.instNos.foldl (fun (s : State) (n : Nat) =>
    match s.instOf (n : Int) with
    | some (e, t) =>
      if t.map = 0 then s
      else (Config.edgeRecords (s.rdBytes (s.bankBase + t.map) 4096)).foldl (fun s o => s.primeEdge (instBase + e.base + o)) s
    | none => s) s

/-- The pages and cells of a checkpoint are put in place; what lies behind the instance data it holds stays. -/
def State.placeCells (s : State) (c : Ckpt) : State :=
  c.cells.foldl (fun s e => s.setByte e.1 e.2) { s with mem := s.mem.filter fun e => (c.place e.1).isNone }

/-- The warm-start blocks of a checkpoint become the current ones of the problems that the tick of the start runs: those of the table that waits
for the boundary, where one does (R240, R243). -/
def State.placeWarm (s : State) (c : Ckpt) : State :=
  c.warm.foldl (fun s e =>
    match tget? (s.azs.next.getD s.azs.table) e.1 with
    | some d => s.wrBytes (d.blkAt 0) (bytesLE 4 e.2.1 ++ bytesLE 4 1 ++ bytesLE 8 e.2.2.1 ++ (e.2.2.2.map (bytesLE 8)).flatten)
    | none => s) s

/-- A warm restart or a takeover to a checkpoint (R197, R200, R240, R265): when it carries the from-version of the Lit's migration table,
that table runs. -/
def State.warmRestart (s : State) (c : Ckpt) (how : Started) : State :=
  let s := s.placeCells c
  let s := { s with cml := { s.cml with relevant := c.relevant.foldl addTo s.cml.relevant, obsWait := false },
                    prg := { s.prg with started := how, startTick := c.tick } }
  let s := s.setReg64 R.CML_STAMP_LO (c.stamp + 1)
  let s := if c.version = s.litVer then s
    else match s.migrationTable s.bankBase 3 with
      | some a => (s.runMigrations (s.initData s.bankBase) (s.migrations a)).2
      | none => s
  let s := s.primeAll.clearProblems.placeWarm c
  ((s.startPoints.setPrismState c.prism).prismWarm.shadowWarm c.tick).releaseEmpty

/-- Why a warm restart from checkpoint c is refused, or none (R200). -/
def State.ckptRefused (s : State) (c : Ckpt) : Bool :=
  decide (c.version ≠ s.litVer) && (decide (s.header 0x14 = 0) || decide (c.version ≠ s.header 0x14))

/-- RUN_WARM's reason for a refusal (R200); 0 for none. -/
def State.warmReason (s : State) : Nat :=
  match s.newestGen with
  | none => 0x0C
  | some (_, c) => if s.ckptFits = false then 0x0C else if s.ckptRefused c then 0x0D else 0

/-- The restore cannot be completed: the module stays in Stop and records it (R199). -/
def State.restoreFails (s : State) : State :=
  ({ s with prg := { s.prg with restoring := none, startReady := false } }.put F.PRG_MODE_PEND 0).event 0x0308 []

/-- A restart takes back what was written to expert fields since the last load: they hold the Lit bank's values again (R10). -/
def State.restoreExpert (s : State) : State :=
  ((s.regs ++ s.prg.expert).map (·.1)).foldl (fun s a =>
    let m := match regInfo? a with | some r => BitVec.ofNat 32 r.expert | none => 0
    if governedAll a || (tget? s.prg.expert a).isSome then
      s.setReg a ((s.reg a &&& ~~~m) ||| ((tget? s.prg.expert a).getD (regReset a) &&& m))
    else s) s

/-- The newest valid generation passes its CRC on reading. -/
def State.newestIntact (s : State) : Bool := match s.newestGen with | some (g, _) => s.genIntact g | none => false

/-- RESTORE_COMPLETE (R199); a start that was cancelled, and a generation whose CRC fails, restore nothing. -/
def State.restoreDone (s : State) (crcOk : Bool) : State :=
  match s.prg.restoring with
  | none => s
  | some warm =>
    if s.prg.startReady then s
    else if s.f F.PRG_MODE_PEND = 3 ∨ (warm ∧ (crcOk = false ∨ s.newestIntact = false)) then s.restoreFails
    else
      let s := s.restoreExpert
      let s := if warm then (match s.newestGen with | some (_, c) => s.warmRestart c .warm | none => s) else s.coldRestart
      { s with prg := { s.prg with startReady := true } }

/-- RESTORE_COMPLETE (R199). -/
def execRestoreComplete (crcOk : Bool) (s : State) : Host.Outcome State Fault Refusal := .next (s.restoreDone crcOk)

/-! ## Mode changes at a tick boundary (R189 to R194, R208, R294) -/

/-- A module claims when it is unpaired and enters Run, and when it is paired and its filtered ECL_IN is low (R294). -/
def State.claimOnRun (s : State) : State :=
  if s.b F.PAIR_STATUS_CLAIM then s.refreshRole
  else if !s.b F.PAIR_CTRL_EN || !s.pair.filtered then s.takeClaim
  else s.refreshRole

/-- Contexts suspended at a breakpoint or by `BRK` have their activations ended, with STOPPED set (R193). -/
def State.endBreaks (s : State) : State :=
  (s.cml.acts.filter fun e => s.atBreak e.1).foldl (fun s e => s.endAct e.1 false) s

/-- A command waiting in PRG_MODE.PEND takes effect at the boundary. -/
def State.modeTake (s : State) : State :=
  let pend := s.f F.PRG_MODE_PEND
  if s.prg.startReady ∧ pend ≠ 3 then
    let s := ({ s with prg := { s.prg with restoring := none, startReady := false, ran := true },
                       pair := { s.pair with fullDue := true } }.put F.PRG_MODE_PEND 0).setMode .run
    s.claimOnRun
  else if s.prg.restoring.isSome then s.restoreFails
  else
    match pend with
    | 1 => { s with prg := { s.prg with restoring := some true } }
    | 2 => { s with prg := { s.prg with restoring := some false } }
    | 3 => if s.mode = .stop then s.restoreFails else s.enterStop 1
    | 4 =>
      let s := (s.put F.PRG_MODE_PEND 0).setMode .hold
      if s.b F.PRG_HOLD_OWN_OWN then s.refreshRole else s.setClaim false
    | 5 => ((s.put F.PRG_MODE_PEND 0).endBreaks.setMode .run).claimOnRun
    | _ => s

/-- At the boundary the waiting command takes effect, and one that came too late for it waits from now on (R24, R189). -/
def State.modeEdge (s : State) : State :=
  let s := s.modeTake
  match s.prg.pendLate with
  | some k => { s with prg := { s.prg with pendLate := none } }.put F.PRG_MODE_PEND k
  | none => s

/-- Confirmation of a trial (R208). -/
def State.confirmTrial (s : State) : State :=
  if s.b F.PRG_STATUS_TRIAL then
    ((((s.put F.PRG_STATUS_TRIAL 0).put F.PRG_STATUS_FAILS 0).put F.PRG_TRIAL_CNT_TCNT 0).writeRoles).event 0x0304 s.versions
  else s

/-- A tick spent in Run counts in a trial (R208). -/
def State.countTrial (s : State) : State :=
  if s.b F.PRG_STATUS_TRIAL && decide (s.mode = .run) then s.count F.PRG_TRIAL_CNT_TCNT else s

/-- TRIAL_CONFIRMED: the trial count has reached TRIAL_TICKS (R208). -/
def execTrialConfirmed (s : State) : Host.Outcome State Fault Refusal :=
  if s.b F.PRG_STATUS_TRIAL && decide (max 1 (s.f F.PRG_CTRL_TRIAL_TICKS) ≤ s.f F.PRG_TRIAL_CNT_TCNT) then .next s.confirmTrial
  else .next s

end Sys2Proof.Machine
end

