-- ==== Sys2Proof/Machine/Pair.lean ====
section
/-!
DEFINITION. Machine/Pair.lean: the Eclipse lines, the pair link, Penumbra checkpoints, takeover, Mirror and the self-tests (R291 to R318).
-/
namespace Sys2Proof.Machine

/-! ## Identity (R4, R5) -/

/-- SYS_ID (R4). -/
def Variant.id (v : Variant) : Word :=
  BitVec.ofNat 32 (v.dieStep * 2 ^ 24 + (if v.panelP then 0x50 else 0x58) * 2 ^ 16 + (if v.gnss2 then 0x32 else 0x31) * 2 ^ 8 +
    (match v.grade with | .s => 0x53 | .m => 0x4D | .l => 0x4C))

/-- SYS_CAP (R5). -/
def Variant.cap (v : Variant) : Word :=
  let lanes := match v.grade with | .s => 32 | .m => 48 | .l => 64
  let thr := match v.grade with | .s => 12 | .m => 20 | .l => 32
  BitVec.ofNat 32 (b2n v.panelP * 2 ^ 25 + b2n (!v.panelP) * 2 ^ 24 + (if v.gnss2 then 2 else 1) * 2 ^ 22 + (lanes - 1) * 2 ^ 16 +
    thr * 2 ^ 8 + lanes)

/-! ## Roles -/

/-- The Penumbra standby: paired, in Stop, without the claim. -/
def State.standby (s : State) : Bool :=
  s.inPair && !s.b F.PAIR_CTRL_MODE && decide (s.mode = .stop) && !s.b F.PAIR_STATUS_CLAIM

/-- The partner that follows the owner's commands: it holds no claim (R317). -/
def State.follows (s : State) : Bool := s.inPair && !s.b F.PAIR_STATUS_CLAIM

/-- The partner holds ownership: ECL_IN, its claim, is high after the filter (R291, R293, R310). -/
def State.partnerOwns (s : State) : Bool := s.pair.paired && s.pair.filtered

/-- Mirror operation (R312). -/
def State.mirroring (s : State) : Bool := s.inPair && s.b F.PAIR_CTRL_MODE

/-! ## The Eclipse lines (R291 to R297) -/

/-- CLAIM_FILT in µs (R293). -/
def State.claimFilt (s : State) : Nat := 2 * min 250 (max 5 (s.f F.PAIR_ECL_CLAIM_FILT))

/-- TEST_W in µs (R297). -/
def State.testWidth (s : State) : Nat := min (s.claimFilt / 2) (max 1 (s.f F.PAIR_ECL_TEST_W))

/-- ECL_IN_FALL: the edge is stamped; one in the cycle of the Release counts as after it (R293, R297, R307). -/
def State.eclFall (s : State) : State :=
  let s := s.put F.PAIR_STATUS_ECL_IN 0
  let s := s.putb F.PAIR_STATUS_OWNED s.owns
  { s with pair := { s.pair with fall := some (s.mono, s.tickNo, s.beforeEdge (8 * s.periodUs / 10)) } }

/-- ECL_IN_FALL (R297). -/
def execEclInFall (s : State) : Host.Outcome State Fault Refusal := .next s.eclFall

/-- This tick is one of those in which the owner tests the line: every TEST_PER ticks, those whose number is a multiple of it (R297; DESIGN
CHOICE: assumption log 40). -/
def State.testDue (s : State) : Bool := s.b F.PAIR_ECL_TEST_EN && decide (s.tickNo % max 1 (s.f F.PAIR_ECL_TEST_PER) = 0)

/-- A test pulse of the partner is expected in this tick, and none has been judged yet. -/
def State.pulseExpected (s : State) : Bool :=
  s.inPair && !s.b F.PAIR_STATUS_CLAIM && s.pair.filtered && s.testDue && !s.pair.pulseSeen

/-- An expected pulse was missing or of a wrong width; the second in a row clears ECL_OK (R297). -/
def State.missPulse (s : State) : State :=
  let n := min 3 (s.pair.wrongPulse + 1)
  let s := { s with pair := { s.pair with wrongPulse := n, pulseSeen := true } }
  if n = 2 then { s with pair := { s.pair with eclOk := false } }.event 0x0D04 [] else s

/-- The end of a low pulse: a test pulse of the right width, or an expected one of a wrong width (R297). -/
def State.judgePulse (s : State) : State :=
  match s.pair.fall with
  | some (t, _, _) =>
    let w := s.mono - t
    if s.testWidth * usUnits ≤ w + 2 * usUnits ∧ w ≤ (s.testWidth + 2) * usUnits then
      { s with pair := { s.pair with eclOk := true, wrongPulse := 0, pulseSeen := true } }
    else if s.pulseExpected then s.missPulse else s
  | none => s

/-- The end of a tick: a pulse that was expected in it and did not come is missing. -/
def State.pulseTick (s : State) : State :=
  let s := if s.pulseExpected then s.missPulse else s
  { s with pair := { s.pair with pulseSeen := false } }

/-- ECL_IN_RISE: the edge is stamped, and every command pin is released (R292, R293). -/
def State.eclRise (s : State) : State :=
  let s := if s.inPair && !s.b F.PAIR_STATUS_CLAIM then s.judgePulse else s
  let s := (s.put F.PAIR_STATUS_ECL_IN 1).put F.PAIR_STATUS_OWNED 0
  { s.releasePins with pair := { s.pair with fall := none, rise := s.mono } }

/-- ECL_IN_RISE (R292). -/
def execEclInRise (s : State) : Host.Outcome State Fault Refusal := .next s.eclRise

/-- ECL_IN_FILTERED_HIGH: CLAIM_FILT after the rise of a line that has stayed high; while claiming, a dual claim (R293, R295). -/
def State.eclHigh (s : State) : State :=
  if !s.b F.PAIR_STATUS_ECL_IN || s.pair.filtered then s
  else
    s.whenDue (s.cyclesTo 0 (s.pair.rise + s.claimFilt * usUnits)) fun s => { s with pair := { s.pair with filtered := true } }.dualClaim

/-- ECL_IN_FILTERED_HIGH (R295). -/
def execEclInFilteredHigh (s : State) : Host.Outcome State Fault Refusal := .next s.eclHigh

/-- The first Run tick of a takeover whose loss came in tick n (R307, R309). -/
def takeoverTick (n : Nat) (beforeRelease : Bool) : Nat := if beforeRelease then n + 1 else n + 2

/-- A warm takeover is possible (R308). -/
def State.warmTake (s : State) (first : Nat) : Option Ckpt :=
  match s.pair.committed with
  | some c => if !s.ckptRefused c && decide (first ≤ c.tick + 3) then some c else none
  | none => none

/-- The takeover is decided: restored warm, or started cold under COLD_TAKE, and entered at the first Run tick (R308). -/
def State.takeover (s : State) (n : Nat) (before : Bool) : State :=
  let first := takeoverTick n before
  let go := fun (s : State) => { s with pair := { s.pair with takeover := some first, rx := {} } }
  match s.warmTake first with
  | some c =>
    let s := (((s.put F.PAIR_STATUS_TAKEOVER 1).event 0x0D02 [first % 2 ^ 32]).assertSrc 192)
    let s := s.gnssWake s.fastest
    let s := s.warmRestart c .takeover
    go (s.put F.PRG_TRIAL_CNT_TCNT c.trial)
  | none =>
    let s := ((s.put F.PAIR_STATUS_STALE_TAKE 1).event 0x0D03 []).assertSrc 192
    if s.b F.PAIR_CTRL_COLD_TAKE then
      let s := (((s.put F.PAIR_STATUS_TAKEOVER 1).event 0x0D02 [first % 2 ^ 32]).assertSrc 192)
      go (s.gnssWake s.fastest).coldRestart
    else s

/-- A paired module in Run without its claim takes it while filtered ECL_IN is low; in Mirror a claim after the arm point drives from the
next Release on (R294, R313). -/
def State.claimInRun (s : State) : State :=
  if s.inPair && decide (s.mode = .run) && !s.b F.PAIR_STATUS_CLAIM && !s.pair.filtered then
    let arm := 8 * s.periodUs / 10
    let late := s.b F.PAIR_CTRL_MODE && !s.beforeEdge (arm - 2) && s.beforeEdge arm
    { s with pair := { s.pair with lateClaim := late } }.takeClaim
  else s

/-- What a line that has become low after the filter brings: a claim in Run, or a takeover by a Penumbra standby (R294, R307). -/
def State.lineLow (s : State) : State :=
  let s := { s with pair := { s.pair with filtered := false } }
  if s.standby && s.pair.takeover.isNone then
    match s.pair.fall with
    | some (_, n, before) => s.takeover n before
    | none => s
  else s.claimInRun

/-- ECL_IN_FILTERED_LOW: CLAIM_FILT after the fall of a line that has stayed low (R293). -/
def State.eclLow (s : State) : State :=
  if s.b F.PAIR_STATUS_ECL_IN || !s.pair.filtered then s
  else
    let t := match s.pair.fall with | some (t, _, _) => t + s.claimFilt * usUnits | none => 0
    s.whenDue (s.cyclesTo 0 t) State.lineLow

/-- ECL_IN_FILTERED_LOW (R293). -/
def execEclInFilteredLow (s : State) : Host.Outcome State Fault Refusal := .next s.eclLow

/-- At the boundary of its first Run tick a takeover enters Run and claims (R308). -/
def State.takeoverEdge (s : State) : State :=
  match s.pair.takeover with
  | some t =>
    if t ≤ s.tickNo then
      ({ s with pair := { s.pair with takeover := none }, prg := { s.prg with ran := true } }.setMode .run).takeClaim
    else s
  | none => s

/-- ECL_TEST_PULSE: in a tick of the test the owner drives ECL_OUT low at 0.90 T, for TEST_W (R297). -/
def State.testPulse (s : State) : State :=
  let us := 9 * s.periodUs / 10
  if s.testDue && s.owns && s.pair.testEnd.isNone && decide (s.tick.cycles ≤ 500 * us) then
    let s := s.elapse (500 * us - s.tick.cycles)
    { s.put F.PAIR_STATUS_ECL_OUT 0 with pair := { s.pair with testEnd := some (s.mono + s.testWidth * usUnits) } }
  else s

/-- ECL_TEST_PULSE (R297). -/
def execEclTestPulse (s : State) : Host.Outcome State Fault Refusal := .next s.testPulse

/-- ECL_TEST_PULSE_END: after TEST_W the line follows the claim again (R297). -/
def State.testPulseEnd (s : State) : State :=
  match s.pair.testEnd with
  | some t =>
    s.whenDue (s.cyclesTo 0 t) fun s =>
      { s.putb F.PAIR_STATUS_ECL_OUT (s.b F.PAIR_STATUS_CLAIM) with pair := { s.pair with testEnd := none } }
  | none => s

/-- ECL_TEST_PULSE_END (R297). -/
def execEclTestPulseEnd (s : State) : Host.Outcome State Fault Refusal := .next s.testPulseEnd

/-- ECL_OK_LOST: the pulse expected in this tick has not come by its end; with the second in a row ECL_OK is lost (R297). -/
def State.eclOkLost (s : State) : State :=
  if s.pulseExpected then (s.elapse (500 * (9 * s.periodUs / 10 + s.testWidth + 2) - s.tick.cycles)).missPulse else s

/-- ECL_OK_LOST (R297). -/
def execEclOkLost (s : State) : Host.Outcome State Fault Refusal := .next s.eclOkLost

/-- ECL_MISMATCH (R297). -/
def execEclMismatch (s : State) : Host.Outcome State Fault Refusal :=
  .next ((s.put F.PAIR_STATUS_ECL_MISMATCH 1).event 0x0D05 [])

/-! ## The link and pairing (R298 to R301) -/

/-- LINK_TRAINED (R299). -/
def execLinkTrained (lanes : Lanes) (s : State) : Host.Outcome State Fault Refusal :=
  .next { (s.put F.PAIR_LINK_LANES lanes.toNat).putb F.PAIR_STATUS_LINK_UP (lanes != 0) with pair := { s.pair with upTick := s.tickNo } }

/-- Pairing is refused (R299). -/
def State.pairRefuse (s : State) (reason : Nat) : State :=
  let s := { s with pair := { s.pair with paired := false } }
  ((((s.put F.PAIR_STATUS_REFUSE reason).put F.PAIR_STATUS_REFUSED 1).event 0x0D00 [reason]).assertSrc 192).refreshRole

/-- Why a hello frame is refused (R299). -/
def State.helloReason (s : State) (h : Hello) : Nat :=
  let x := s.variant.id
  if bitsOf h.sysId 23 0 ≠ bitsOf x 23 0 then 1
  else if h.periodMs ≠ s.periodMs then 2
  else if h.unitB = s.b F.PAIR_STATUS_POS then 3
  else if h.mirror ≠ s.b F.PAIR_CTRL_MODE then 4
  else 0

/-- The module aligns to its partner: it is in Stop without the claim, and the partner owns or this is unit B (R300). -/
def State.aligns (s : State) : Bool :=
  !s.b F.PAIR_STATUS_CLAIM && (s.b F.PAIR_STATUS_ECL_IN || s.b F.PAIR_STATUS_POS) && decide (s.mode = .stop)

/-- Cycles of a tick. -/
def State.tickCycles (s : State) : Nat := 500 * s.periodUs

/-- The modules pair: a full checkpoint is due, the module that aligns takes over the partner's tick number and phase at its next boundary, and
one in Run without its claim claims while ECL_IN is low (R294, R300, R305). -/
def State.pairWith (s : State) (h : Hello) : State :=
  let d : Int := ((h.tick * s.tickCycles + h.phase : Nat) : Int) - (s.tickNo * s.tickCycles + s.tick.cycles : Nat)
  ({ s with pair := { s.pair with paired := true, fullDue := true, refreshHold := !s.b F.PAIR_STATUS_CLAIM,
                                  align := if s.aligns then some d else none } }.refreshRole).claimInRun

/-- What a hello frame does: the modules pair or the pairing is refused (R299). -/
def State.greet (s : State) (h : Hello) : State :=
  if !s.b F.PAIR_CTRL_EN || s.pair.paired then s
  else
    let r := s.helloReason h
    if r ≠ 0 then s.pairRefuse r else s.pairWith h

/-- HELLO_FRAME. -/
def State.hello (s : State) (crcOk : Bool) (h : Hello) : State := s.frameIn crcOk (·.greet h)

/-- HELLO_FRAME (R299). -/
def execHelloFrame (h : Hello) (s : State) (crcOk : Bool := true) : Host.Outcome State Fault Refusal := .next (s.hello crcOk h)

/-- LINK_TRAINING_TIMEOUT (R299). -/
def execLinkTrainingTimeout (s : State) : Host.Outcome State Fault Refusal :=
  if s.b F.PAIR_CTRL_EN && !s.pair.paired && decide (s.f F.PAIR_LINK_LANES = 0) then .next (s.pairRefuse 5) else .next s

/-- A tick kept in the pair's state moves with the tick number. -/
def moveTick (d : Int) (t : Option Nat) : Option Nat := t.map fun n => ((n : Int) + d).toNat

/-- At its own boundary an aligning module sets its tick number and tick phase to the partner's; TICK and PAIR step with them (R300, R355;
assumption log 71). -/
def State.alignTick (s : State) : State :=
  match s.pair.align with
  | some d =>
    let old := s.tickNo
    let pos := ((old * s.tickCycles : Nat) + d).toNat
    let n := pos / s.tickCycles
    let m : Int := (n : Int) - old
    let s := { s with pair := { s.pair with align := none, frameTick := moveTick m s.pair.frameTick, healthTick := moveTick m s.pair.healthTick,
                                            upTick := ((s.pair.upTick : Int) + m).toNat },
                      tick := { s.tick with cycles := pos % s.tickCycles } }
    let s := (s.setBase 3 ((s.base 3).shift (d * 2 ^ 33))).setBase 4 ((s.base 4).shift (d * 2 ^ 33))
    (s.setReg64 R.TICK_NUM_LO n).record 0x0D06 (pay [.u64 old, .u64 n])
  | none => s

/-- PARTNER_OK follows the partner's health (R301). -/
def State.showPartner (s : State) : State := s.putb F.PAIR_STATUS_PARTNER_OK s.partnerHealthy

/-- What the partner's word brings, with the tick offset measured in this Keep in ns; an aligning module steers its TICK and PAIR bases
by an amount the spec does not give (R300, R301). -/
def State.partnerWord (s : State) (w : Dword) (offset : Int) : State :=
  let s := s.setReg64 R.PAIR_PHEALTH_LO w.toNat
  let s := { s with pair := { s.pair with healthTick := some s.tickNo, timeOk := decide (offset.natAbs ≤ 1000) } }
  let s := s.puti F.PAIR_TIME_OFFSET offset
  let s := if s.inPair && s.aligns then
      let (a, s) := s.draw (2 ^ 64)
      let (b, s) := s.draw (2 ^ 64)
      (s.setTickInc a).setInc 4 b
    else s
  s.showPartner

/-- HEALTH_WORD. -/
def State.health (s : State) (crcOk : Bool) (w : Dword) (offset : Int) : State := s.frameIn crcOk (·.partnerWord w offset)

/-- HEALTH_WORD (R301). -/
def execHealthWord (w : Dword) (offset : Int) (s : State) (crcOk : Bool := true) : Host.Outcome State Fault Refusal :=
  .next (s.health crcOk w offset)

/-! ## Checkpoints, owner's side (R302, R304 to R306) -/

/-- Pages that fit in one Keep (R306). -/
def State.keepPages (s : State) : Nat :=
  match s.periodMs with
  | 5 => 706
  | 10 => 1412
  | _ => 2826

/-- Every page of a full checkpoint (R305). -/
def State.fullPages (s : State) : List Nat := List.range 1024 ++ s.cml.relevant

/-- The pages of `l` that are not in `m`. -/
def less (l m : List Nat) : List Nat := l.filter fun p => !m.contains p

/-- A full checkpoint begins: at once where it fits, else as a refresh (R305). -/
def State.startFull (s : State) : State :=
  let s := { s with pair := { s.pair with fullDue := false, refreshLeft := s.fullPages, warmDue := true } }
  if s.keepPages < s.fullPages.length then s.put F.PAIR_CKPT_REFRESH 1 else s

/-- What the checkpoint of this tick carries: the cells of the given pages, the blocks of this tick's batch, or every current block where those
of a full checkpoint are still to be sent, and the fields of the state record with its page list and its CRC (R302, R305).  The frames' headers
stand nowhere in the spec, so the CRC over the frames is free. -/
def State.ckptOut (s : State) (pages : List Nat) : Ckpt :=
  let c := s.ckptNow
  let cells := c.cells.filter fun e => (match pageOf e.1 with | some p => pages.contains p | none => false)
  let warm := if s.pair.warmDue then c.warm else c.warm.filter fun e => e.2.2.1 = s.tickNo
  { c with cells := cells, warm := warm, pages := pages, crc := (Config.ckptCrc pages (cells.map fun e => (e.1, e.2)) warm).toNat }

/-- The checkpoint of this tick is taken at the Release: dirty pages are frozen and their bits cleared, and pages of a refresh follow (R302,
R305, R306). -/
def State.takeCkpt (s : State) : State :=
  if !s.sendsCkpt then s
  else
    let five := decide (s.periodMs = 5)
    let always := s.b F.PAIR_CTRL_CKPT_FULL
    let s := if always && five then
        (if s.pair.fullNoted then s else { s with pair := { s.pair with fullNoted := true } }.event 0x0D07 [])
      else { s with pair := { s.pair with fullNoted := false } }
    let full := s.pair.fullDue || (always && !five && s.pair.refreshLeft.isEmpty)
    let s := if full then s.startFull else s
    let dirty := s.cml.dirty
    let more := (less s.pair.refreshLeft dirty).take (s.keepPages - dirty.length)
    let left := less (less s.pair.refreshLeft dirty) more
    let s := if left.isEmpty then s else s.put F.PAIR_CKPT_REFRESH 1
    let out := s.ckptOut (dirty ++ more)
    let s := { s with cml := { s.cml with dirty := [] },
                      pair := { s.pair with tx := some dirty, txCkpt := some out, txRefresh := more ++ (s.pair.refreshLeft.filter (dirty.contains ·)),
                                            txAgain := [], txBlocks := [], refreshLeft := left } }
    (s.put F.PAIR_CKPT_PAGES (dirty.length + more.length)).setReg64 R.PAIR_CKPT_TICK_LO s.tickNo

/-- The checkpoint being sent is abandoned: the frozen pages are dirty again, and those of a refresh unsent (R304, R305). -/
def State.abandonTx (s : State) : State :=
  match s.pair.tx with
  | some l =>
    { s with cml := { s.cml with dirty := l.foldl addTo s.cml.dirty },
             pair := { s.pair with tx := none, txCkpt := none, txRefresh := [], txAgain := [],
                                   refreshLeft := s.pair.txRefresh.foldl addTo s.pair.refreshLeft } }.count F.PAIR_CKPT_ABANDON
  | none => s

/-- The transfer has ended with every frame right: the blocks of a full checkpoint are sent, and with its last page a refresh ends (R305). -/
def State.ckptDone (s : State) : State :=
  let s := { s with pair := { s.pair with tx := none, txCkpt := none, txRefresh := [], txAgain := [], warmDue := false } }
  if s.b F.PAIR_CKPT_REFRESH && s.pair.refreshLeft.isEmpty then
    { s with pair := { s.pair with memOk := true } }.put F.PAIR_CKPT_REFRESH 0
  else s

/-- CHECKPOINT_TRANSFER_END, with the frames that failed their CRC: after the last page they are sent again once, and a frame that fails a second
time abandons the transfer (R298, R302, R304). -/
def State.transferEnd (s : State) (failed : List CkptFrame) : State :=
  let l := failed.map (·.val)
  if s.pair.tx.isNone then s
  else if l = [] then s.ckptDone
  else if l.any (s.pair.txAgain.contains ·) then s.abandonTx
  else { s with pair := { s.pair with txAgain := s.pair.txAgain ++ l } }

/-- CHECKPOINT_TRANSFER_END (R302). -/
def execCheckpointTransferEnd (s : State) (failed : List CkptFrame := []) : Host.Outcome State Fault Refusal := .next (s.transferEnd failed)

/-- RESYNC and REFRESH_REQUEST: a full checkpoint is due (R305). -/
def State.dueFull (s : State) : State := { s with pair := { s.pair with fullDue := true } }

/-- REFRESH_REQUEST (R315). -/
def execRefreshRequest (s : State) (crcOk : Bool := true) : Host.Outcome State Fault Refusal := .next (s.frameIn crcOk State.dueFull)

/-- A write of PAIR_CTRL: MODE takes effect only in Stop, and RESYNC starts a full checkpoint (R305, R318). -/
def State.pairCtrlWrite (s : State) (v : Word) : State :=
  let s := ((s.put F.PAIR_CTRL_EN (bitsOf v 31 31)).put F.PAIR_CTRL_CKPT_FULL (bitsOf v 29 29)).put F.PAIR_CTRL_COLD_TAKE (bitsOf v 28 28)
  let s := if s.mode = .stop then s.put F.PAIR_CTRL_MODE (bitsOf v 30 30) else s
  let s := if bitsOf v 31 31 = 0 then { s with pair := { s.pair with paired := false } } else s
  let s := if bitsOf v 27 27 = 1 then s.dueFull else s
  s.refreshRole

/-- RESYNC (R305). -/
def execResync (_m : Master) (v : Word) (s : State) : Host.Outcome State Fault Refusal :=
  .next (s.pairCtrlWrite (withBits v 27 27 1))

/-! ## Checkpoints, standby's side (R298, R303, R304) -/

/-- A partial checkpoint is discarded, and the previous commit stays (R304). -/
def State.abandonRx (s : State) : State :=
  let x := s.pair.rx
  let s := { s with pair := { s.pair with rx := {} } }
  if x.frames.isEmpty && x.warm.isEmpty && !x.bad then s else s.count F.PAIR_CKPT_ABANDON

/-- Frame n of the transfer has failed its CRC: it comes again once, and a second failure abandons the transfer (R298, R304). -/
def State.rxFail (s : State) (n : Nat) : State :=
  let x := s.pair.rx
  let s := s.linkFrame.count F.PAIR_LINK_CRC_ERR
  if x.failed.contains n then { s with pair := { s.pair with rx := { x with bad := true } } }
  else { s with pair := { s.pair with rx := { x with failed := n :: x.failed } } }

/-- CHECKPOINT_FRAME. -/
def State.ckptFrame (s : State) (crcOk : Bool) (n : Nat) (data : List Byte) : State :=
  if s.dark then s
  else if crcOk then
    let s := s.linkFrame
    { s with pair := { s.pair with rx := { s.pair.rx with frames := tput s.pair.rx.frames n (data.take 256) } } }
  else s.rxFail n

/-- CHECKPOINT_FRAME (R298). -/
def execCheckpointFrame (crcOk : Bool) (n : CkptFrame) (data : Bytes) (s : State) : Host.Outcome State Fault Refusal :=
  .next (s.ckptFrame crcOk n.val data)

/-- WARM_START_BLOCK: held until the state record of the same tick (R303).  A block's frame counts its failures beside those of the pages. -/
def State.blockFrame (s : State) (crcOk : Bool) (q : Nat) (b : Nat × Nat × List Nat) : State :=
  if s.dark then s
  else if crcOk then
    let s := s.linkFrame
    { s with pair := { s.pair with rx := { s.pair.rx with warm := tput s.pair.rx.warm q b } } }
  else s.rxFail (28672 + q)

/-- WARM_START_BLOCK (R303). -/
def execWarmStartBlock (q : Prob) (sig : Word) (tick : Dword) (v : Dwords) (s : State) (crcOk : Bool := true) : Host.Outcome State Fault Refusal :=
  .next (s.blockFrame crcOk q.toNat (sig.toNat, tick.toNat, v.map (·.toNat)))

/-- CHECKPOINT_COMMIT: with a matching CRC the received pages, and the blocks received in the tick of the record, are copied into place (R303,
R304). -/
def State.commitCkpt (s : State) (r : StateRecord) : State :=
  let s := s.linkFrame
  let x := s.pair.rx
  if !r.crcOk || x.bad || !s.standby then
    { s with pair := { s.pair with rx := { s.pair.rx with bad := true } } }.abandonRx
  else
    let s := x.frames.foldl (fun s e => s.wrBytes (pageAddr (e.1 / 16) + 256 * (e.1 % 16)) e.2) s
    let pages := (x.frames.map fun e => e.1 / 16).eraseDups
    let old := match s.pair.committed with | some c => c | none => {}
    let rel := (pages.filter (1024 ≤ ·)).foldl addTo old.relevant
    let blocks := if r.tick = s.tickNo then x.warm else []
    let warm := blocks.foldl (fun l e => tput l e.1 e.2) old.warm
    let c : Ckpt := { tick := r.tick, stamp := r.stamp.toNat, version := r.version.toNat, trial := r.trial.toNat, relevant := rel,
                      cells := s.mem.filter (fun e => ckptHolds rel e.1), prism := r.prism.map (·.toNat), warm := warm, pages := pages }
    let s := s.placeWarm { c with warm := blocks }
    let s := { s with pair := { s.pair with committed := some c, rx := {},
                                            refreshHold := s.pair.refreshHold && !r.refreshEnds,
                                            memOk := s.pair.memOk || r.refreshEnds } }
    (s.put F.PAIR_CKPT_PAGES pages.length).setReg64 R.PAIR_CKPT_TICK_LO r.tick

/-- CHECKPOINT_COMMIT (R304). -/
def execCheckpointCommit (r : StateRecord) (s : State) : Host.Outcome State Fault Refusal := .next (if s.dark then s else s.commitCkpt r)

/-- No frame has arrived for 3 ticks, since the last frame or since the link trained (R301). -/
def State.linkSilent (s : State) : Bool :=
  decide (s.pair.upTick + 3 ≤ s.tickNo) && (match s.pair.frameTick with | some t => decide (t + 3 ≤ s.tickNo) | none => true)

/-- LINK_LOST: the link that has been silent for 3 ticks is down (R301, R304). -/
def State.linkLost (s : State) : State :=
  if s.b F.PAIR_STATUS_LINK_UP && s.linkSilent then
    ((((s.put F.PAIR_STATUS_LINK_UP 0).event 0x0D0A []).assertSrc 192).abandonTx.abandonRx).showPartner
  else s

/-- LINK_LOST (R301). -/
def execLinkLost (s : State) : Host.Outcome State Fault Refusal := .next s.linkLost

/-- LOCAL_SNAPSHOT: of the running program, or of what a standby has committed (R198, R304). -/
def execLocalSnapshot (s : State) : Host.Outcome State Fault Refusal :=
  .next (s.localSnapshot (if s.standby then s.pair.committed else none))

/-! ## Mirror (R312, R313) -/

/-- Entry i of the mirror list: address and size; none where it is skipped. -/
def State.mirrorEntry (s : State) (i : Nat) : Option (Nat × Nat) :=
  let a := scratchBase + s.f F.PAIR_MIR_BASE_BASE / 8 * 8 + 8 * i
  let p := s.rd a 4
  let n := s.rd (a + 4) 1
  if (n = 1 ∨ n = 2 ∨ n = 4 ∨ n = 8) ∧ p % n = 0 ∧ instBase ≤ p ∧ p + n ≤ ctxBase then some (p, n) else none

def State.mirrorCount (s : State) : Nat := min 4096 (s.f F.PAIR_MIR_CNT_COUNT)

/-- At the Release the owner samples the list; each skipped entry is recorded once for a configuration load. -/
def State.mirrorSample (s : State) : State :=
  if s.mirroring && s.b F.PAIR_STATUS_CLAIM then
    let bad := (List.range s.mirrorCount).filter fun i => (s.mirrorEntry i).isNone && !s.pair.mirrorNoted.contains i
    let s := bad.foldl (fun s i => s.event 0x0D08 [i]) s
    let out := (List.range s.mirrorCount).map fun i => match s.mirrorEntry i with | some (a, n) => s.rd a n | none => 0
    { s with pair := { s.pair with mirrorOut := out, mirrorNoted := s.pair.mirrorNoted ++ bad } }
  else s

/-- MIRROR_FRAME: the owner's values, written into place at the next Strobe. -/
def execMirrorFrame (vals : Dwords) (s : State) (crcOk : Bool := true) : Host.Outcome State Fault Refusal :=
  .next (s.frameIn crcOk fun s => { s with pair := { s.pair with mirror := vals.map (·.toNat), mirrorTick := some s.tickNo } })

/-- At the Strobe the non-owner writes the values received. -/
def State.mirrorWrite (s : State) : State :=
  let l := if s.mirroring && !s.b F.PAIR_STATUS_CLAIM then s.pair.mirror else []
  (List.range (min l.length s.mirrorCount)).foldl (fun s i =>
    match s.mirrorEntry i with
    | some (a, n) => s.wr a n (l.getD i 0)
    | none => s) { s with pair := { s.pair with mirror := [] } }

/-! ## Self-tests and the health word (R314 to R316) -/

/-- MEMORY_PATROL: corrected and uncorrectable errors of this tick's patrol; one inside the committed state asks the owner for a refresh
(R314, R315). -/
def State.memPatrol (s : State) (corr unc : Nat) (inCommitted : Bool) : State :=
  let s := s.count F.PAIR_STEST_ECC_CORR corr
  if unc = 0 then s
  else
    let s := ({ s with pair := { s.pair with memOk := false } }.count F.PAIR_STEST_ECC_UNC unc)
    let s := (s.event 0x0D09 [unc]).assertSrc 192
    if inCommitted && s.standby then { s with pair := { s.pair with refreshHold := true, refreshAsked := some s.tickNo } } else s

/-- MEMORY_PATROL (R314). -/
def execMemoryPatrol (corr unc : Nat) (inCommitted : Bool) (s : State) : Host.Outcome State Fault Refusal :=
  .next (s.memPatrol corr unc inCommitted)

/-- LANES_OK after a group's test: a failure clears it, and it returns at the end of a cycle in which every lane passed (R315). -/
def State.laneCycle (s : State) (j : Nat) (pass : Bool) : State :=
  if !pass then { s with pair := { s.pair with lanesOk := false, laneRun := none } }
  else
    let run := if j = 0 then some 1 else if s.pair.laneRun = some j then some (j + 1) else none
    { s with pair := { s.pair with laneRun := run, lanesOk := s.pair.lanesOk || decide (run = some (s.lanes / 8)) } }

/-- LANE_SELF_TEST: the eight copies on lanes 8j to 8j + 7 (R315). -/
def State.laneTest (s : State) (passes : Lanes8) : State :=
  if !s.standby then s
  else
    let j := s.tickNo % (s.lanes / 8)
    let l := (List.range 8).foldl (fun l k =>
      if passes.getLsbD k then l.filter (· ≠ 8 * j + k) else addTo l (8 * j + k)) s.pair.badLanes
    let s := ({ s with pair := { s.pair with badLanes := l } }.put F.PAIR_STEST_FAIL_LANE (l.headD 0xFF)).laneCycle j (decide (passes = 0xFF))
    if passes = 0xFF then s else s.assertSrc 192

/-- LANE_SELF_TEST (R315). -/
def execLaneSelfTest (passes : Lanes8) (s : State) : Host.Outcome State Fault Refusal := .next (s.laneTest passes)

/-- ENCODER_CHECK: the CRC of one stream's tile on a zero window is compared with that of the configuration load (R315). -/
def State.encoderCheck (s : State) (n : Nat) (crc : Nat) : State :=
  if !s.standby then s
  else if tget? s.pair.tiles n = some crc then { s with pair := { s.pair with badStreams := s.pair.badStreams.filter (· ≠ n) } }
  else { s with pair := { s.pair with badStreams := addTo s.pair.badStreams n } }.assertSrc 192

/-- ENCODER_CHECK (R315). -/
def execEncoderCheck (n : Stream) (crc : Word) (s : State) : Host.Outcome State Fault Refusal := .next (s.encoderCheck n.val crc.toNat)

/-- CKPT_AGE of the health word: 0 on the owner (R316). -/
def State.ckptAge (s : State) : Nat :=
  if s.owns then 0 else match s.pair.committed with | some c => min 255 (s.tickNo - c.tick) | none => 255

/-- LINK_OK: link frames in the last 3 ticks. -/
def State.linkOk (s : State) : Bool :=
  s.b F.PAIR_STATUS_LINK_UP && (match s.pair.frameTick with | some t => decide (s.tickNo < t + 3) | none => false)

/-- Bits 2 to 11 of the health word (R316). -/
def State.healthBits (s : State) : List Bool :=
  let ver := match s.pair.committed with | some c => !s.ckptRefused c | none => false
  [s.pair.committed.isSome, ver, s.pair.memOk, s.pair.lanesOk, s.pair.badStreams.isEmpty, s.pair.eclOk, s.linkOk, s.pair.timeOk,
   s.hotOk, s.b F.PRG_STATUS_STAGED && (match s.prg.staging with
      | some (k, _) => decide (s.pair.forwarded = some (s.rd (slotBase k) 4))
      | none => false)]

/-- The mirror values received are of the current tick: of this one's Release, or, as in the word that this Release sends, those written at
this tick's Strobe (R313; DEDUCED: assumption log 40). -/
def State.mirrorNow (s : State) : Bool := match s.pair.mirrorTick with | some t => decide (s.tickNo ≤ t + 1) | none => false

/-- READY (R313, R316); a module in Run without the claim is not ready in Penumbra (R294), and in Mirror it needs mirror values. -/
def State.ready (s : State) : Bool :=
  (s.healthBits.take 8).all id && decide (s.ckptAge ≤ 2) && !s.pair.refreshHold &&
    (s.b F.PAIR_STATUS_CLAIM || (if s.b F.PAIR_CTRL_MODE then s.mirrorNow else decide (s.mode = .stop)))

/-- The health word (R316). -/
def State.healthWord (s : State) : Nat :=
  let bits := s.ready :: s.owns :: s.healthBits
  (s.tickNo % 2 ^ 16) * 2 ^ 48 + (s.litVer % 2 ^ 16) * 2 ^ 32 + s.ckptAge * 2 ^ 24 + (min 255 s.pair.badLanes.length) * 2 ^ 16 +
    ((List.range 12).map fun k => b2n (bits.getD k false) * 2 ^ k).foldl (· + ·) 0

/-- This module's own hello frame (R9, R20, R299). -/
def State.ownHello (s : State) : Hello :=
  { sysId := s.variant.id, periodMs := s.periodMs, mirror := s.b F.PAIR_CTRL_MODE, unitB := s.b F.PAIR_STATUS_POS,
    litVer := s.reg R.PRG_LIT_VER, tick := s.tickNo, phase := s.tick.cycles }

/-- While EN is 1 and the link is up, a hello frame goes out in every Keep until the module is paired (R299). -/
def State.sendHello (s : State) : State :=
  if s.b F.PAIR_CTRL_EN && s.b F.PAIR_STATUS_LINK_UP && !s.pair.paired then
    { s with pair := { s.pair with helloOut := some s.ownHello } }
  else s

/-- The pair's work at the start of Keep: the hello frame, the health word, the checkpoint, the mirror values (R299, R301, R302, R312). -/
def State.pairRelease (s : State) : State :=
  (s.sendHello.setReg64 R.PAIR_HEALTH_LO s.healthWord).takeCkpt.mirrorSample

/-- The pair's work at the Strobe: unfinished transfers are abandoned, mirror values written, partner health judged (R301, R304, R312). -/
def State.pairStrobe (s : State) : State := s.abandonTx.abandonRx.mirrorWrite.showPartner

end Sys2Proof.Machine
end

