-- ==== Sys2Proof/Machine/Recorder.lean ====
section
/-!
DEFINITION. Machine/Recorder.lean: the commands of the event recorder (R319 to R338).
-/
namespace Sys2Proof.Machine

/-! ## The register REC_CTRL -/

/-- The change of recording mode that a write of REC_CTRL.MODE asks for: to buffered at once, to write-through when the flush it starts
has emptied the buffer (R325). -/
def State.recSetMode (s : State) (buffered : Bool) : State :=
  if buffered then
    ({ s with recorder := { s.recorder with toThrough := false } }).put F.REC_STATUS_BUFFERED 1
  else if s.buffered ∧ s.recorder.toThrough = false then
    ({ s with recorder := { s.recorder with toThrough := true } }).startFlush 10
  else s

/-- A write of REC_CTRL: the fields that hold what is written, the mode, a flush (cause 9) and the clear of REC_DROP_Q (R325, R326, R338). -/
def State.recCtrlWrite (s : State) (v : Word) : State :=
  let s := s.put F.REC_CTRL_MODE (bitsOf v 31 31)
  let s := s.put F.REC_CTRL_TEST (bitsOf v 29 29)
  let s := s.put F.REC_CTRL_FLUSH_FILL (bitsOf v 15 8)
  let s := s.put F.REC_CTRL_FLUSH_MASK (bitsOf v 7 0)
  let s := if bitsOf v 28 28 = 1 then s.put F.REC_DROP_Q_COUNT 0 else s
  let s := s.recSetMode (decide (bitsOf v 31 31 = 1))
  if bitsOf v 30 30 = 1 then s.startFlush 9 else s

/-- FLUSH: a write of REC_CTRL with FLUSH 1 (R326). -/
def execFlush (_m : Master) (v : Word) (s : State) : Host.Outcome State Fault Refusal :=
  .next (s.recCtrlWrite (withBits v 30 30 1))

/-- REC_MODE_WRITE: a write of REC_CTRL that gives MODE (R325). -/
def execRecModeWrite (_m : Master) (v : Word) (s : State) : Host.Outcome State Fault Refusal :=
  .next (s.recCtrlWrite v)

/-- REC_COUNTER_CLEAR: a write of REC_CTRL with CNT_CLR 1 clears REC_DROP_Q (R338). -/
def execRecCounterClear (_m : Master) (v : Word) (s : State) : Host.Outcome State Fault Refusal :=
  .next (s.recCtrlWrite (withBits v 28 28 1))

/-! ## Offering and committing records -/

/-- EVENT_RECORD: an event of a block of the module is offered (R322), with source 0x10. -/
def execEventRecord (code : Code) (payload : Payload) (s : State) : Host.Outcome State Fault Refusal :=
  .next (s.record code.toNat payload)

/-- The payload a master has written to its own REC_SUB_PAYk (R323). -/
def State.subPayload (s : State) (m : Master) : Payload :=
  payW ((List.range 8).map fun k => (s.mreg m (R.REC_SUB_PAY k)).toNat)

/-- A write of REC_SUB_CODE submits the master's record; a code below 0x8000 is rejected (R323). -/
def State.submit (s : State) (m : Master) (v : Word) : State :=
  let code := bitsOf v 15 0
  if code < 0x8000 then s.mput m F.REC_SUB_STAT_RESULT 3
  else
    match s.offer (masterCode m) code (s.subPayload m) with
    | (.accepted n, s) => (s.mput m F.REC_SUB_STAT_RESULT 0).mput m F.REC_SUB_STAT_SEQ n
    | (.suppressed, s) => s.mput m F.REC_SUB_STAT_RESULT 1
    | (.dropped, s) => s.mput m F.REC_SUB_STAT_RESULT 2

/-- SUBMIT (R323). -/
def execSubmit (m : Master) (v : Word) (s : State) : Host.Outcome State Fault Refusal := .next (s.submit m v)

/-- A queued or buffered record reaches MRAM; during Afterglow it counts as flushed (R324, R327). -/
def State.commitRec (s : State) (r : Rec) : State :=
  let s := s.toStore r
  if s.b F.REC_STATUS_AFTERGLOW then { s with recorder := { s.recorder with agFlushed := s.recorder.agFlushed + 1 } } else s

/-- RECORD_COMMIT: the oldest queued record is written to MRAM (R324). -/
def execRecordCommit (s : State) : Host.Outcome State Fault Refusal :=
  match s.recorder.queue with
  | [] => .next s
  | r :: l => .next (({ s with recorder := { s.recorder with queue := l } }).commitRec r)

/-- Every record of the queue and then of the buffer reaches MRAM, oldest first (R325, R326). -/
def State.drain (s : State) : State :=
  let l := s.recorder.queue ++ s.recorder.buffer
  let n := s.recorder.buffer.length
  l.foldl (·.commitRec ·)
    { s with recorder := { s.recorder with queue := [], buffer := [], flushed := s.recorder.flushed + n } }

/-- The cause word that marks the flush of Afterglow, which is no cause of R326 and writes no Flush record. -/
def afterglowCause : Nat := 255

/-- The end of a flush: the buffer is empty, a waiting change to write-through applies, and the Flush record of the cause that started it
is written directly (R325, R326); the recorder's source asserts. -/
def State.endFlush (s : State) (cause : Nat) : State :=
  let s := s.drain
  let s := s.put F.REC_STATUS_FLUSHING 0
  let s := if s.recorder.toThrough then s.put F.REC_STATUS_BUFFERED 0 else s
  let n := s.recorder.flushed
  let s := { s with recorder := { s.recorder with flush := none, flushed := 0, toThrough := false } }
  if cause = afterglowCause then s
  else ((s.accept 0x10 0x0F06 (payW [cause, n]) true).2).assertSrc 194

/-- FLUSH_END (R326): without a flush there is nothing to end. -/
def execFlushEnd (s : State) : Host.Outcome State Fault Refusal :=
  match s.recorder.flush with
  | none => .next s
  | some c => .next (s.endFlush c)

/-! ## Afterglow (R327) -/

/-- Afterglow starts: the Afterglow-start record is accepted, and the buffer is flushed (R327, steps 2 and 3). -/
def State.afterglowStart (s : State) : State :=
  let s := s.put F.REC_STATUS_AFTERGLOW 1
  let s := { s with recorder := { s.recorder with agFlushed := 0 } }
  let s := (s.accept 0x10 0x0F04 (payW [s.recorder.buffer.length]) (!s.buffered)).2
  if s.buffered then s.startFlush afterglowCause else s

/-- AFTERGLOW_END: the flush and the queue end, the Afterglow-end record is written directly as the last record, and no further record is
accepted (R327, steps 3 to 5). -/
def execAfterglowEnd (s : State) : Host.Outcome State Fault Refusal :=
  if s.b F.REC_STATUS_AFTERGLOW && !s.recorder.closed then
    let s := match s.recorder.flush with
      | some c => s.endFlush c
      | none => s.drain
    let s := (s.accept 0x10 0x0F05 (pay [.u32 s.recorder.agFlushed, .u64 s.opsec]) true).2
    .next { s with recorder := { s.recorder with closed := true } }
  else .next s

/-! ## Power-up (R329, R330) -/

/-- The 64 bytes of slot i hold a record whose CRC passes. -/
def State.slotOk (s : State) (i : Nat) : Bool :=
  let l := s.rdBytes (mramBase + 64 * i) 64
  decide (crc32c (l.take 28 ++ [0, 0, 0, 0] ++ l.drop 32) = leBytes ((l.drop 28).take 4))

/-- The sequence number in slot i. -/
def State.slotSeq (s : State) (i : Nat) : Nat := s.rd (mramBase + 64 * i) 8

/-- Slot i is one of the leading slots of the store (R329). -/
def State.slotIn (s : State) (i : Nat) : Bool := s.slotOk i && decide (s.slotSeq i = s.slotSeq 0 + i)

/-- N, found by binary search between slots known to be in and out of the store, in at most 20 reads (R329). -/
def State.findStore (s : State) : Nat → Nat → Nat → Nat
  | 0, lo, _ => lo
  | n + 1, lo, hi =>
    if hi ≤ lo + 1 then lo
    else if s.slotIn ((lo + hi) / 2) then s.findStore n ((lo + hi) / 2) hi else s.findStore n lo ((lo + hi) / 2)

/-- The recorder after any reset: the queue, buffer, snapshots and windows are gone, the write position is found, UNCLEAN is set when
accepted records are missing, and numbering resumes after the last stored record (R329, R330, R334).  `aonKept`: VDD_AON has held. -/
def State.recorderPowerUp (s : State) (aonKept : Bool) : State :=
  let n := if s.slotOk 0 then s.findStore 20 0 storeCap + 1 else 0
  let first := if n = 0 then 0 else s.slotSeq 0
  let held := if aonKept then s.recorder.next else 1
  let next := if n = 0 then held else first + n
  let lastCode := s.rd (mramBase + 64 * (n - 1) + 0x18) 2
  let unclean := if aonKept then decide ((if n = 0 then 1 else next) < held)
    else decide (n ≠ 0 ∧ n < storeCap ∧ lastCode ≠ 0x0F05)
  let s := { s with recorder := { next := next, first := first, tokens := s.recorder.tokens } }
  let s := s.put F.REC_USED_USED n
  let s := s.putb F.REC_STATUS_UNCLEAN unclean
  s.putb F.REC_STATUS_FULL (decide (storeCap ≤ n))

/-! ## Reading (R334, R335) -/

/-- The last committed number, buffer included; while older records still wait in the queue, after a change to buffered mode, the number before
theirs (R325, R334). -/
def State.lastCommitted (s : State) : Nat :=
  match s.recorder.queue with
  | [] => s.recorder.next - 1
  | r :: _ => r.seq - 1

/-- REC_SNAPSHOT: a write of REC_SNAP latches the bounds for the writing master (R334). -/
def State.recSnapshot (s : State) (m : Master) : State :=
  let last := s.lastCommitted
  let s := s.setMreg m R.REC_SNAP_FIRST_LO (BitVec.ofNat 32 s.recorder.first)
  let s := s.setMreg m R.REC_SNAP_FIRST_HI (BitVec.ofNat 32 (s.recorder.first / 2 ^ 32))
  let s := s.setMreg m R.REC_SNAP_LAST_LO (BitVec.ofNat 32 last)
  let s := s.setMreg m R.REC_SNAP_LAST_HI (BitVec.ofNat 32 (last / 2 ^ 32))
  s.setMreg m R.REC_SNAP_BUF (BitVec.ofNat 32 (s.recorder.buffer.filter fun r => decide (r.seq ≤ last)).length)

/-- REC_SNAPSHOT (R334). -/
def execRecSnapshot (m : Master) (_v : Word) (s : State) : Host.Outcome State Fault Refusal := .next (s.recSnapshot m)

/-- A write of REC_RD_SEQ_HI commits the number under R13, clears READY and starts a fetch (R335). -/
def State.readWindow (s : State) (m : Master) (v : Word) : State :=
  let k := mkey m R.REC_RD_SEQ_LO
  let lo := (tget? s.lowBufs k).getD (s.mreg m R.REC_RD_SEQ_LO)
  let s := { s with lowBufs := tdel s.lowBufs k }
  let s := (s.setMreg m R.REC_RD_SEQ_LO lo).setMreg m R.REC_RD_SEQ_HI v
  let s := s.mput m F.REC_RD_STAT_READY 0
  { s with recorder := { s.recorder with fetching := masterCode m :: s.recorder.fetching.filter (· ≠ masterCode m) } }

/-- READ_WINDOW (R335). -/
def execReadWindow (m : Master) (v : Word) (s : State) : Host.Outcome State Fault Refusal := .next (s.readWindow m v)

/-- Give a master the sixteen words of a record. -/
def State.giveRecord (s : State) (m : Master) (l : List Byte) : State :=
  (List.range 16).foldl (fun s k => s.setMreg m (R.REC_RD_DATA k) (BitVec.ofNat 32 (leBytes ((l.drop (4 * k)).take 4)))) s

/-- The fetch completes: READY rises, with the record, or with PRESENT 0 for a number below FIRST or above the last committed (R335). -/
def State.readReady (s : State) (m : Master) : State :=
  let q := (s.mreg m R.REC_RD_SEQ_HI).toNat * 2 ^ 32 + (s.mreg m R.REC_RD_SEQ_LO).toNat
  let stat := fun (s : State) (inBuf crc present : Bool) =>
    s.setMreg m R.REC_RD_STAT (BitVec.ofNat 32 ((if inBuf then 8 else 0) + (if crc then 4 else 0) + (if present then 2 else 0) + 1))
  let s := { s with recorder := { s.recorder with fetching := s.recorder.fetching.filter (· ≠ masterCode m) } }
  if q < s.recorder.first ∨ s.lastCommitted < q then stat s false false false
  else
    match s.recorder.buffer.find? (·.seq = q) with
    | some r => stat (s.giveRecord m r.bytes) true true true
    | none =>
      let i := q - s.recorder.first
      if i < s.f F.REC_USED_USED then stat (s.giveRecord m (s.rdBytes (mramBase + 64 * i) 64)) false (s.slotOk i) true
      else stat s false false false

/-- READ_READY (R335): a master with no fetch under way sees nothing. -/
def execReadReady (m : Master) (s : State) : Host.Outcome State Fault Refusal :=
  if masterCode m ∈ s.recorder.fetching then .next (s.readReady m) else .next s

/-! ## Clearing (R336, R337) -/

/-- The clearing key identifier of the site record (R205). -/
def State.keyId (s : State) : Nat := leBytes ((s.site.site.drop 0x18).take 4)

/-- The clearing key of the site record (R205). -/
def State.clearKey (s : State) : Nat := leBytes ((s.site.site.drop 0x20).take 16)

/-- Eight decimal digits in BCD. -/
def bcd8 : Nat → Nat → Nat
  | 0, _ => 0
  | n + 1, v => v % 10 + 16 * bcd8 n (v / 10)

/-- A Clear-refused record with its reason and the key identifier; the master is its source (R320, R336). -/
def State.clearRefused (s : State) (m : Master) (reason : Nat) : State :=
  (s.offer (masterCode m) 0x0F07 (payW [reason, s.keyId])).2

/-- A write of REC_CLR_CMD: checked by its KEY, then the mode, then the lock; a request places a new challenge (R336). -/
def State.clearRequest (s : State) (m : Master) (v : Word) : State :=
  if bitsOf v 31 16 ≠ 0x4352 then s.clearRefused m 5
  else if s.mode = .run then s.clearRefused m 4
  else if bitsOf v 0 0 = 0 then s
  else if s.b F.REC_STATUS_CLR_LOCK then s.clearRefused m 3
  else
    let (n, s) := s.draw 100000000
    (s.setReg R.REC_CHAL (BitVec.ofNat 32 (bcd8 8 n))).put F.REC_STATUS_CHAL_VALID 1

/-- CLEAR_REQUEST (R336). -/
def execClearRequest (m : Master) (v : Word) (s : State) : Host.Outcome State Fault Refusal := .next (s.clearRequest m v)

/-- Every entry's suppressed count and the sum cleared; R337 does not name the default bucket's count, which stays. -/
def State.clearSuppCounts (s : State) : State :=
  let s := (List.map Prod.fst (s.listed (R.REC_RLSUP 0) 4 1024)).foldl (fun s c => s.put (F.REC_RLSUP_COUNT c) 0) s
  s.put F.REC_SUPPR_COUNT 0

/-- The clear (R337): the buffer and the queue are discarded, and the Clear record goes directly into slot 0 as the only record. -/
def State.clearStore (s : State) (m : Master) : State :=
  let used := s.f F.REC_USED_USED
  let dropped := s.recorder.queue.length + s.recorder.buffer.length
  let p := pay [.u64 (if used = 0 then 0 else s.recorder.first), .u32 used, .u32 dropped, .u32 (s.f F.REC_DROP_FULL_COUNT),
    .u32 (s.f F.REC_DROP_Q_COUNT), .u32 (s.f F.REC_SUPPR_COUNT), .u32 s.keyId]
  let s := { s with recorder := { s.recorder with queue := [], buffer := [] } }
  let s := (((s.put F.REC_USED_USED 0).put F.REC_STATUS_FULL 0).put F.REC_STATUS_UNCLEAN 0).put F.REC_DROP_FULL_COUNT 0
  let s := (s.put F.REC_DROP_Q_COUNT 0).clearSuppCounts
  (s.place (masterCode m) 0x0F01 p true).assertSrc 194

/-- A write of REC_RESP: with a valid challenge the response is judged and the challenge consumed; three wrong ones in a row lock
(R336).  After Afterglow's end there is no record to take its place in the store (R327). -/
def State.clearRespond (s : State) (m : Master) (v : Word) : State :=
  if s.recorder.closed then s
  else if s.b F.REC_STATUS_CHAL_VALID then
    let chal := (s.reg R.REC_CHAL).toNat
    let s := (s.setReg R.REC_CHAL 0).put F.REC_STATUS_CHAL_VALID 0
    if v = Config.clearResponse chal s.clearKey then
      ({ s with recorder := { s.recorder with wrong := 0 } }).clearStore m
    else
      let s := s.clearRefused m 1
      let w := s.recorder.wrong + 1
      let s := { s with recorder := { s.recorder with wrong := w % 3 } }
      if w = 3 then s.put F.REC_STATUS_CLR_LOCK 1 else s
  else s.clearRefused m 2

/-- CLEAR_RESPONSE (R337). -/
def execClearResponse (m : Master) (v : Word) (s : State) : Host.Outcome State Fault Refusal := .next (s.clearRespond m v)

/-- CHALLENGE_EXPIRY: a challenge ends 60 s of MONO after it was placed (R336). -/
def execChallengeExpiry (s : State) : Host.Outcome State Fault Refusal :=
  .next ((s.setReg R.REC_CHAL 0).put F.REC_STATUS_CHAL_VALID 0)

/-- CLEAR_LOCK_END: 600 s after the third wrong response requests are taken again (R336). -/
def execClearLockEnd (s : State) : Host.Outcome State Fault Refusal := .next (s.put F.REC_STATUS_CLR_LOCK 0)

/-! ## Buckets (R332) -/

/-- One bucket gains RATE × T tokens, up to DEPTH × 16,000; `par` is its RATE and DEPTH word. -/
def State.gain (s : State) (b : Nat) (par : Word) : State :=
  let t := tget 0 s.recorder.tokens b
  let t' := min (t + bitsOf par 31 16 * s.periodMs) (bitsOf par 15 0 * 16000)
  { s with recorder := { s.recorder with tokens := tset 0 s.recorder.tokens b t' } }

/-- TOKEN_REFILL, at every Strobe (R332). -/
def State.tokenRefill (s : State) : State :=
  ((s.listed (R.REC_RLPAR 0) 8 1024).foldl (fun s e => s.gain e.1 e.2) s).gain 1024 (s.reg R.REC_RLDEF)

/-- Every bucket is full, after a reset and after a configuration load (R332). -/
def State.fillBuckets (s : State) : State :=
  let l := (s.listed (R.REC_RLPAR 0) 8 1024).foldl (fun l e => tset 0 l e.1 (bitsOf e.2 15 0 * 16000)) []
  { s with recorder := { s.recorder with tokens := tset 0 l 1024 (bitsOf (s.reg R.REC_RLDEF) 15 0 * 16000) } }

/-- A write of an entry's RATE and DEPTH, or of REC_RLDEF, keeps the tokens and cuts them to the new depth (R332). -/
def State.cutBucket (s : State) (b : Nat) (par : Word) : State :=
  let t := min (tget 0 s.recorder.tokens b) (bitsOf par 15 0 * 16000)
  { s with recorder := { s.recorder with tokens := tset 0 s.recorder.tokens b t } }

end Sys2Proof.Machine
end

