-- ==== Sys2Proof/Machine/Bus.lean ====
section
/-!
DEFINITION. Machine/Bus.lean: reads and writes of the registers and memories by a bus master (R6, R7, R10 to R15, R486), but for the program
commands of PRG_CMD, which Machine/Program.lean adds.
-/
namespace Sys2Proof.Machine

/-! ## Fused-off registers (R6) -/

/-- The bits of a register that are fused off on this variant: they read 0 and ignore writes. -/
def State.fusedBits (s : State) (a : Nat) : Word :=
  let all := BitVec.ofNat 32 0xFFFFFFFF
  if blockOf a = 16 ∧ s.variant.panelP = false then all
  else if s.variant.panelP ∧ R.NET_SERCFG 16 ≤ a ∧ a < R.NET_SERCFG 28 then all
  else if s.variant.gnss2 = false ∧ a = R.GNSS_CTRL then BitVec.ofNat 32 0x54000000
  else if s.variant.gnss2 = false ∧ ((R.GNSS_BL_X ≤ a ∧ a ≤ R.GNSS_BL_CFG) ∨ a = R.GNSS_TRK 1 ∨ a = R.GNSS_AGC 1) then all
  else if R.IRQ_CFG 0 ≤ a ∧ a < R.IRQ_CFG 256 ∧ s.sourceFused ((a - R.IRQ_CFG 0) / 8) then all
  else if R.SHD_SCEN (s.scenMax + 1) ≤ a ∧ a < R.SHD_SCEN 64 then all
  else 0

/-! ## Pairs of words that are one 64-bit value (R12, R13) -/

/-- The low words of the pairs that the register maps describe as one 64-bit value. -/
def lowWord (a : Nat) : Bool :=
  [R.TICK_NUM_LO, R.TICK_FAULT_TICK_LO, R.PRISM_RES_TICK_LO, R.CML_STAMP_LO, R.AZS_DLM_TICK_LO, R.SHD_PROMO_TICK_LO, R.PAIR_CKPT_TICK_LO,
   R.PAIR_HEALTH_LO, R.PAIR_PHEALTH_LO, R.REC_NEXT_LO, R.REC_OPSEC_LO, R.REC_SNAP_FIRST_LO, R.REC_SNAP_LAST_LO, R.REC_RD_SEQ_LO,
   R.TIME_SET_SECLO].contains a ||
  inArray a (R.IRQ_STMLO 0) 0x20 8 || inArray a (R.IRQ_STTLO 0) 0x20 8 || inArray a (R.TIME_SECLO 0) 0x20 16 ||
  inArray a (R.TIME_INCLO 0) 0x20 16 || inArray a (R.TIME_SNLO 0) 0x20 16

/-- The low words of the pairs that are written as one 64-bit value. -/
def lowRw (a : Nat) : Bool := decide (a = R.REC_RD_SEQ_LO) || decide (a = R.TIME_SET_SECLO) || inArray a (R.TIME_INCLO 0) 0x20 16

/-! ## Registers kept for each master (R323, R334, R335, R358) -/

/-- The register is kept separately for each bus master. -/
def perMaster (a : Nat) : Bool :=
  (decide (R.REC_SNAP_FIRST_LO ≤ a) && decide (a ≤ R.REC_SNAP_BUF)) || decide (a = R.REC_RD_SEQ_LO) || decide (a = R.REC_RD_SEQ_HI) ||
  decide (a = R.REC_RD_STAT) || inArray a (R.REC_RD_DATA 0) 4 16 || inArray a (R.REC_SUB_PAY 0) 4 8 || decide (a = R.REC_SUB_STAT) ||
  inArray a (R.TIME_SNFR 0) 0x20 16 || inArray a (R.TIME_SNLO 0) 0x20 16 || inArray a (R.TIME_SNHI 0) 0x20 16

/-! ## Live registers -/

/-- Tasks of a window due in this tick that have not ended (R187): before the window's edge every one that is due, after it those whose activation
goes on or is suspended. -/
def State.pendingTasks (s : State) (phase : Nat) : Nat :=
  let l := s.dueIn phase
  if s.mode = .stop then 0
  else if s.f F.TICK_PHASE_PHASE < (if phase = 1 then 1 else 3) then l.length
  else (l.filter fun c => (s.act? c).isSome).length

/-- The fixed descriptor of context 255 (R144). -/
def State.fbDescriptor (s : State) (a : Nat) : Option Nat :=
  if a = R.CML_TCFG 255 then some (s.f F.FILT_FB_CTRL_FB_EN * 2 ^ 31 + (4 + s.f F.FILT_FB_CTRL_CORE) * 2 ^ 28 + 15 * 2 ^ 20)
  else if a = R.CML_TPER 255 then some 0x10000
  else if a = R.CML_TENT 255 then some 0
  else none

/-- Bits of IRQ_PENDi: the sources with a pending count (R342). -/
def State.pendBits (s : State) (i : Nat) : Nat :=
  ((List.range 32).map fun k => if s.f (F.IRQ_COAL_PCNT (32 * i + k)) = 0 then 0 else 2 ^ k).foldl (· + ·) 0

/-- The value of a register whose word the module forms when it is read; none for a register that holds it. -/
def State.live? (s : State) (a : Nat) : Option Nat :=
  if a = R.SYS_ID then some s.variant.id.toNat
  else if a = R.SYS_CAP then some s.variant.cap.toNat
  else if a = R.CML_STATUS then some (s.tasks.length * 2 ^ 16 + min 255 (s.pendingTasks 1) * 2 ^ 8 + min 255 (s.pendingTasks 2))
  else if a = R.CML_DIRTY then some (s.cml.relevant.length * 2 ^ 16 + s.cml.dirty.length)
  else if (s.fbDescriptor a).isSome then s.fbDescriptor a
  else if a = R.PRG_CAND_VER then some (s.rd (slotBase (s.f F.PRG_ROLES_CAND)) 4)
  else if a = R.GRZ_STATUS then
    some (s.f F.GRZ_STATUS_FAILED * 2 ^ 16 + s.grzEntries.length % 4096)
  else if a = R.GRZ_BURST then some (19 * s.periodUs / 100 * 2 ^ 16 + (s.grzBurst + 999) / 1000 % 2 ^ 16)
  else if a = R.TIME_QUAL then some s.taiErr
  else if inArray a (R.TIME_FRAC 0) 0x20 16 then some (s.base ((a - R.TIME_FRAC 0) / 0x20)).frac
  else if inArray a (R.TIME_SECLO 0) 0x20 16 then some (s.base ((a - R.TIME_SECLO 0) / 0x20)).sec
  else if inArray a (R.TIME_SECHI 0) 0x20 16 then some ((s.base ((a - R.TIME_SECHI 0) / 0x20)).sec / 2 ^ 32)
  else if inArray a (R.IRQ_PEND 0) 4 8 then some (s.pendBits ((a - R.IRQ_PEND 0) / 4))
  else if inArray a (R.IRQ_LVL 0) 4 8 then
    let t := (a - R.IRQ_LVL 0) / 4
    some (b2n (s.tgtOpen t) * 2 ^ 31 + (if s.level t = 0 then 0x1F else s.level t - 1))
  else if inArray a (R.LOOP_STAT 0) 0x40 32 then
    let e := (a - R.LOOP_STAT 0) / 0x40
    let x := F.LOOP_STAT_TRACK e
    some (withBits (s.reg a) x.hi x.lo (b2n (s.b (F.LOOP_CFG_EN e) && s.tracking e))).toNat
  else if a = R.GNSS_STATUS then some (withBits (s.reg a) 19 19 (b2n s.hotOk)).toNat
  else if a = R.GNSS_KEPT then some s.keptWord
  else if a = R.TIME_INCLO 2 then some (s.inc 2)
  else if a = R.TIME_INCHI 2 then some (s.inc 2 / 2 ^ 32)
  else if a = R.REC_NEXT_LO then some s.recorder.next
  else if a = R.REC_NEXT_HI then some (s.recorder.next / 2 ^ 32)
  else if a = R.REC_OPSEC_LO then some s.opsec
  else if a = R.REC_OPSEC_HI then some (s.opsec / 2 ^ 32)
  else if a = R.REC_STATUS then some (withBits (s.reg a) 31 16 s.recorder.buffer.length).toNat
  else none

/-- The live word of an assigned register for a master, before latches. -/
def State.regValue (s : State) (m : Master) (a : Nat) : Word :=
  let v := match s.live? a with
    | some n => BitVec.ofNat 32 n
    | none => if perMaster a then s.mreg m a else s.reg a
  v &&& ~~~(s.fusedBits a)

/-- A register stands at this address; the offsets of time bases 5 to 7 are unassigned (R14, R370). -/
def assigned (a : Nat) : Bool := (regInfo? a).isSome && !(decide (R.TIME_FRAC 5 ≤ a) && decide (a < R.TIME_FRAC 8))

/-! ## Reads -/

/-- A read of an aligned register by a master: zero at an unassigned offset (R14); a low word latches its high word, and a high word answers
the latched half once (R12, R358); a read of IRQ_MASKi completes as R348 says. -/
def State.readReg (s : State) (m : Master) (a : Nat) : Word × State :=
  if !assigned a then (0, s)
  else
    let s := if inArray a (R.IRQ_MASK 0) 4 8 then s.maskRead ((a - R.IRQ_MASK 0) / 4) else s
    match tget? s.latches (mkey m a) with
    | some w => (w, { s with latches := tdel s.latches (mkey m a) })
    | none =>
      let v := s.regValue m a
      if inArray a (R.TIME_FRAC 0) 0x20 16 then (v, s.fracRead m ((a - R.TIME_FRAC 0) / 0x20))
      else if lowWord a then (v, { s with latches := tput s.latches (mkey m (a + 4)) (s.regValue m (a + 4)) })
      else (v, s)

/-- LOW_WORD_READ (R12). -/
def execLowWordRead (m : Master) (a : Addr) (s : State) : Host.Outcome State Fault Refusal := .next (s.readReg m a.toNat).2

/-! ## Writes, by block -/

/-- Hold a low word for the master that writes it (R13). -/
def State.holdLow (s : State) (m : Master) (a : Nat) (v : Word) : State := { s with lowBufs := tput s.lowBufs (mkey m a) v }

/-- Take the low word a master holds for the high word at `hi`; the register's own where it holds none. -/
def State.takeLow (s : State) (m : Master) (hi : Nat) : Word × State :=
  ((tget? s.lowBufs (mkey m (hi - 4))).getD (s.reg (hi - 4)), { s with lowBufs := tdel s.lowBufs (mkey m (hi - 4)) })

def State.writeTick (s : State) (m : Master) (a : Nat) (v : Word) : State :=
  if a = R.TICK_PERIOD then s.periodWrite m v
  else if a = R.TICK_CTRL then
    let s := s.writeReg a v
    if v.getLsbD 0 then ((s.setReg R.TICK_FCNT0 0).setReg R.TICK_FCNT1 0).setReg R.TICK_HWM 0 else s
  else s.writeReg a v

/-- TICK_COUNTER_CLEAR: a write of TICK_CTRL with CNT_CLR 1. -/
def execTickCounterClear (m : Master) (v : Word) (s : State) : Host.Outcome State Fault Refusal := .next (s.writeTick m R.TICK_CTRL (v ||| 1))

def State.writeCml (s : State) (m : Master) (a : Nat) (v : Word) : State :=
  if a = R.CML_EXC then s.excClear v
  else if a = R.CML_DBG then s.dbgWrite v
  else if a = R.CML_TRIG then s.trigWrite m v
  else if a = R.CML_PTBASE then s.writeReg a (withBits v 3 0 0)
  else if inArray a (R.CML_BP 0) 4 8 then s.writeReg a (withBits v 1 0 0)
  else if (s.fbDescriptor a).isSome then s
  else if inArray a (R.CML_TSTAT 0) 0x10 256 then s.tstatWrite ((a - R.CML_TSTAT 0) / 0x10) v
  else if R.CML_TCFG 0 ≤ a then s.taskWrite a v
  else s.writeReg a v

/-- A write of PRISM_SCFGn: in Run it takes effect at the next Strobe (R92), in Stop and Hold at once, which the spec leaves open there:
DESIGN CHOICE (assumption log 59). -/
def State.scfgWrite (s : State) (a : Nat) (v : Word) : State :=
  if s.mode = .run then s.setLater a v
  else { s.setReg a v with inForce := tdel s.inForce a }

def State.writePrism (s : State) (m : Master) (a : Nat) (v : Word) : State :=
  if a = R.PRISM_CTRL then s.prismCtrlWrite v
  else if a = R.PRISM_GRID then s.gridWrite m v
  else if a = R.PRISM_PRED_HDG then s.predArm v
  else if inArray a (R.PRISM_SCFG 0) 0x10 24 then s.scfgWrite a (s.plain a v)
  else s.writeReg a v

def State.writeFilt (s : State) (m : Master) (a : Nat) (v : Word) : State :=
  if a = R.FILT_FB_CTRL then s.setLater a (s.plain a v)
  else if a = R.FILT_FB_HWM then (if v.getLsbD 31 then s.put F.FILT_FB_HWM_RUN 0 else s)
  else if inArray a (R.FILT_CH 0) 0x10 24 then
    (if 1 ≤ bitsOf v 12 0 ∧ bitsOf v 12 0 ≤ 4096 then s.setLater a (s.plain a v) else s.recordWrite m a v)
  else if inArray a (R.FILT_GL 0) 0x10 24 then s.setLater a (s.plain a v)
  else s.writeReg a v

def State.writeShd (s : State) (a : Nat) (v : Word) : State :=
  if a = R.SHD_CTRL then s.shdCtrlWrite v
  else if a = R.SHD_DETECT then s.detect (bitsOf v 7 0)
  else if a = R.SHD_REBASE then s.armRebase v
  else if inArray a (R.SHD_SCEN 0) 4 64 || inArray a (R.SHD_MAP 0) 4 256 then
    if s.mode = .run then s.setLater a (s.plain a v) else (s.writeReg a v).takeEffect a (a + 4)
  else s.writeReg a v

def State.writeLoop (s : State) (m : Master) (a : Nat) (v : Word) : State :=
  if a = R.LOOP_GPIO_DIR_LO ∨ a = R.LOOP_GPIO_DIR_HI then s.gpioDirWrite m a v
  else if a = R.LOOP_GPIO_CMD_LO ∨ a = R.LOOP_GPIO_CMD_HI then s.setLater a (s.plain a v)
  else if a = R.LOOP_GPIO_OUT_LO ∨ a = R.LOOP_GPIO_OUT_HI then s.gpioOutWrite a v
  else if inArray a (R.LOOP_AOCFG 0) 8 16 then s.aocfgWrite ((a - R.LOOP_AOCFG 0) / 8) v
  else if inArray a (R.LOOP_AO 0) 8 16 then s.aoWrite ((a - R.LOOP_AO 0) / 8) v
  else if inArray a (R.LOOP_PCFG 0) 0x10 8 then s.pcfgWrite ((a - R.LOOP_PCFG 0) / 0x10) v
  else if inArray a (R.LOOP_PCNT 0) 0x10 8 then s.pcntPreset ((a - R.LOOP_PCNT 0) / 0x10) v
  else if inArray a (R.LOOP_CFG 0) 0x40 32 then s.engineCfgWrite ((a - R.LOOP_CFG 0) / 0x40) v
  else s.writeReg a v

def State.writeGnss (s : State) (m : Master) (a : Nat) (v : Word) : State :=
  if a = R.GNSS_CTRL then (s.setLater a (s.plain a v)).dropUnfed
  else if a = R.GNSS_CMD then s.gnssCmdWrite m v
  else if a = R.GNSS_VREF_HDG then s.vrefArm v
  else s.writeReg a v

def State.writeTime (s : State) (m : Master) (a : Nat) (v : Word) : State :=
  if a = R.TIME_CMD then s.timeCmdWrite m v
  else if a = R.TIME_SNAP then s.timeSnap m v
  else if lowRw a then s.holdLow m a v
  else if a = R.TIME_SET_SECHI then
    let (lo, s) := s.takeLow m a
    (s.setReg R.TIME_SET_SECLO lo).setReg a v
  else if inArray a (R.TIME_INCHI 0) 0x20 16 then
    let (lo, s) := s.takeLow m a
    let b := (a - R.TIME_INCHI 0) / 0x20
    s.incWrite m b (v.toNat * 2 ^ 32 + lo.toNat)
  else if inArray a (R.TIME_LEAPOFF 0) 0x10 32 then s.leapWrite ((a - R.TIME_LEAPOFF 0) / 0x10) v
  else s.writeReg a v

/-- A write of a register of CAN controller k. -/
def State.writeCan (s : State) (m : Master) (a : Nat) (v : Word) : State :=
  let k := (a - R.CAN_CTRL 0) / 0x1000
  if a = R.CAN_CTRL k then s.canCtrlWrite m k v
  else if a = R.CAN_NBT k ∨ a = R.CAN_DBT k then s.canTimingWrite m k a v
  else if a = R.CAN_TXPEND k then s.canPendWrite k v
  else if a = R.CAN_TXCANCEL k then s.canCancel k v
  else if a = R.CAN_FIFO k then s.fifoAdvance k v
  else if a = R.CAN_MRBASE k then s.writeReg a (withBits v 12 0 0)
  else if a = R.CAN_TT k ∨ a = R.CAN_TTCYC k ∨ R.CAN_WTIME k 0 ≤ a then s.canLaterWrite k a v
  else s.writeReg a v

def State.writeNet (s : State) (m : Master) (a : Nat) (v : Word) : State :=
  if a = R.NET_SERBASE then s.writeReg a (withBits v 16 0 0)
  else if a = R.NET_450BASE then s.writeReg a (withBits v 14 0 0)
  else if a = R.GRZ_PIBASE then s.writeReg a (withBits v 19 0 0)
  else if inArray a (R.NET_PRP 0) 0x20 2 then s.netPrpWrite ((a - R.NET_PRP 0) / 0x20) v
  else if inArray a (R.NET_TXHT 0) 0x20 2 then s.txSubmit ((a - R.NET_TXHT 0) / 0x20) v
  else if inArray a (R.NET_RXHT 0) 0x20 2 then s.rxFree ((a - R.NET_RXHT 0) / 0x20) v
  else if inArray a (R.NET_SERCFG 0) 8 28 then s.serCfgWrite m ((a - R.NET_SERCFG 0) / 8) v
  else if a = R.GRZ_SVCREQ then s.svcFree v
  else if a = R.GRZ_SVCSEND then s.svcSend v
  else s.writeReg a v

def State.writePair (s : State) (a : Nat) (v : Word) : State :=
  if a = R.PAIR_CTRL then s.pairCtrlWrite v
  else if a = R.PAIR_MIR_BASE then s.writeReg a (withBits v 2 0 0)
  else s.writeReg a v

def State.writeIrq (s : State) (a : Nat) (v : Word) : State :=
  if a = R.IRQ_CTRL then s.irqCtrlWrite v
  else if a = R.IRQ_SWSET then s.swSet v
  else if inArray a (R.IRQ_MASK 0) 4 8 then s.maskWrite ((a - R.IRQ_MASK 0) / 4) v
  else if inArray a (R.IRQ_PEND 0) 4 8 then s.pendClear ((a - R.IRQ_PEND 0) / 4) v
  else if inArray a (R.IRQ_CFG 0) 8 256 then s.irqCfgWrite ((a - R.IRQ_CFG 0) / 8) v
  else s.writeReg a v

def State.writeRec (s : State) (m : Master) (a : Nat) (v : Word) : State :=
  if a = R.REC_CTRL then s.recCtrlWrite v
  else if a = R.REC_SNAP then s.recSnapshot m
  else if a = R.REC_CLR_CMD then s.clearRequest m v
  else if a = R.REC_RESP then s.clearRespond m v
  else if a = R.REC_RD_SEQ_LO then s.holdLow m a v
  else if a = R.REC_RD_SEQ_HI then s.readWindow m v
  else if inArray a (R.REC_SUB_PAY 0) 4 8 then s.setMreg m a v
  else if a = R.REC_SUB_CODE then s.submit m v
  else if a = R.REC_RLDEF then (s.writeReg a v).cutBucket 1024 v
  else if inArray a (R.REC_RLPAR 0) 8 1024 then (s.writeReg a v).cutBucket ((a - R.REC_RLPAR 0) / 8) v
  else s.writeReg a v

def State.writeLan (s : State) (m : Master) (a : Nat) (v : Word) : State :=
  if a = R.LAN_CTRL then s.lanCtrlWrite m v
  else if a = R.LAN_GEOM ∨ a = R.LAN_FBBASE then s.lanFixedWrite m a v
  else if a = R.LAN_REQ then s.lanRequest v
  else if a = R.LAN_TEMP then s.lanTempWrite v
  else if a = R.LAN_TH_LO ∨ a = R.LAN_TH_HI then s.thWrite a v
  else if inArray a (R.LAN_ZONE 0) 4 4 then s.zoneWrite m ((a - R.LAN_ZONE 0) / 4) v
  else s.writeReg a v

/-- A write of an assigned register that is not fused off, under its block's rules. -/
def State.writeBlock (s : State) (m : Master) (a : Nat) (v : Word) : State :=
  match blockOf a with
  | 0 => if a = R.SYS_CLK then s.refReturn m v else s.writeReg a v
  | 1 => s.writeTick m a v
  | 2 => s.writeCml m a v
  | 4 => s.writePrism m a v
  | 5 => s.writeFilt m a v
  | 6 => if a = R.AZS_CTRL then s.azsCtrlWrite v
    else if a = R.AZS_PIVOT_EPS ∨ a = R.AZS_DELTA then s.setLater a (s.plain a v)
    else s.writeReg a v
  | 7 => s.writeShd a v
  | 8 => s.writeLoop m a v
  | 9 => s.writeGnss m a v
  | 10 => s.writeTime m a v
  | 11 => s.writeCan m a v
  | 12 => s.writeNet m a v
  | 13 => s.writePair a v
  | 14 => s.writeIrq a v
  | 15 => s.writeRec m a v
  | 16 => s.writeLan m a v
  | _ => s.writeReg a v

/-- A write of a register by a master: an unassigned offset and a fused-off register ignore it (R7, R14); fused-off bits keep what they hold. -/
def State.blockWrite (s : State) (m : Master) (a : Nat) (v : Word) : State :=
  let off := s.fusedBits a
  if !assigned a || decide (off = 0xFFFFFFFF) then s
  else s.writeBlock m a ((v &&& ~~~off) ||| (s.reg a &&& off))

/-! ## Memories -/

/-- A store by a master that is not a Cumel context into memory of R486; one into the framebuffer marks its lines (R444). -/
def State.memWrite (s : State) (a : Nat) (l : List Byte) : State := (s.wrBytes a l).markLines a l.length

/-- The host reaches the register blocks through BAR0; what it asks of BAR2 beside them, up to 0x7FFF_FFFF, ends in a Completer Abort and
is recorded (R428). -/
def State.hostAbort (s : State) (m : Master) (a : Nat) : State :=
  if m = .pcieHost ∧ 0x40000000 ≤ a ∧ a < 0x80000000 ∧ regionOf a = .unassigned then s.record 0x0C02 (pay [.u64 a]) else s

/-- BUS_ERROR: an access to an unassigned range, or of a wrong width or alignment to a register (R11, R486). -/
def State.refuseAccess (s : State) (m : Master) (a width : Nat) (k : AccessKind) : State := (s.busError m a width k).hostAbort m a

/-- The access cannot be made: some byte is unassigned, it is no aligned word of the register region, or it is a write to the ROM (R11, R149,
R486). -/
def badAccess (a width : Nat) (k : AccessKind) : Bool :=
  match regionOf a with
  | .unassigned => true
  | .registers => decide (width ≠ 4) || decide (a % 4 ≠ 0)
  | .rom => decide (k = .write) || decide (regionOf (a + width - 1) ≠ .rom)
  | r => decide (regionOf (a + width - 1) ≠ r)

/-- An access of the table's kind that ends in a bus error; a good one is no bus error. -/
def execBusError (m : Master) (a : Addr) (width : Nat) (kind : AccessKind) (s : State) : Host.Outcome State Fault Refusal :=
  if badAccess a.toNat width kind then .next (s.refuseAccess m a.toNat width kind) else .next s

end Sys2Proof.Machine
end

