-- ==== Sys2Proof/Machine/Program.lean ====
section
/-!
DEFINITION. Machine/Program.lean: the commands of PRG_CMD, loading and rolling back, trials and automatic rollback (R188 to R212), online
exchange (R213 to R216) and its forwarding in a pair (R317).
-/
namespace Sys2Proof.Machine

/-! ## Roles (R202, R206, R207) -/

def State.litSlot (s : State) : Nat := slotBase (s.f F.PRG_ROLES_LIT)
def State.shadeSlot (s : State) : Nat := slotBase (s.f F.PRG_ROLES_SHADE)
def State.candSlot (s : State) : Nat := slotBase (s.f F.PRG_ROLES_CAND)

/-- Give the slots their roles, in the register and in the role record (R202). -/
def State.setRoles (s : State) (lit shade cand : Nat) : State :=
  (((s.put F.PRG_ROLES_LIT lit).put F.PRG_ROLES_SHADE shade).put F.PRG_ROLES_CAND cand).writeRoles

/-- The Candidate becomes Lit, the Lit Shade, and the Shade's slot the Candidate. -/
def State.rotate (s : State) : State :=
  s.setRoles (s.f F.PRG_ROLES_CAND) (s.f F.PRG_ROLES_LIT) (s.f F.PRG_ROLES_SHADE)

/-- The reverse: the Shade becomes Lit, the Lit Candidate, and the Candidate's slot the Shade. -/
def State.rotateBack (s : State) : State :=
  s.setRoles (s.f F.PRG_ROLES_SHADE) (s.f F.PRG_ROLES_CAND) (s.f F.PRG_ROLES_LIT)

/-- The versions of the Lit and of the Shade, 0 for a Shade that is not usable (R207). -/
def State.showVersions (s : State) : State :=
  let s := s.setReg R.PRG_LIT_VER (BitVec.ofNat 32 (s.header 0))
  s.setReg R.PRG_SHADE_VER (if s.usableSlot s.shadeSlot then BitVec.ofNat 32 (s.rd s.shadeSlot 4) else 0)

/-- Refuse with a check's four words (R483). -/
def State.prgRefuseBy (s : State) (x : Refused) : State := s.prgRefuse x.1 x.2.1 x.2.2.1 x.2.2.2

/-! ## Applying an image's settings (R204, R206, R216) -/

/-- Registers of the fixed part of an image (R214). -/
def fixedPart (a : Nat) : Bool :=
  [R.TICK_PERIOD, R.TICK_STROBE, R.TICK_STROBE_WIDTH, R.PRISM_GRID].contains a || inArray a (R.PRISM_SCFG 0) 0x10 24 ||
  inArray a (R.PRISM_STIME 0) 0x10 24 || inArray a (R.PRISM_SCONF 0) 0x10 24 || inArray a (R.FILT_CH 0) 0x10 24 ||
  inArray a (R.FILT_GL 0) 0x10 24 || inArray a (R.FILT_DGL 0) 0x10 24 || inArray a (R.FILT_DTHR 0) 0x10 24

/-- A setting that names PRG_CMD: the load makes every command but STOP, CONFIRM and ABORT busy (R189). -/
def State.settingCmd (s : State) (v : Word) : State :=
  if bitsOf v 31 16 ≠ 0x4C54 then s.recordWrite .dma R.PRG_CMD v
  else match bitsOf v 3 0 with
    | 3 => s.prgRefuse 0x10
    | 9 => s.confirmTrial
    | 10 => s
    | k => s.prgRefuse (if k = 0 ∨ 10 < k then 0x11 else 0x0E)

/-- One register setting: a write under its block's rules (R204). -/
def State.setting (s : State) (e : Nat × Nat) : State :=
  let v := BitVec.ofNat 32 e.2
  if badAccess e.1 4 .write then s.refuseAccess .dma e.1 4 .write
  else if regionOf e.1 = .registers then
    if e.1 = R.TICK_PERIOD then
      (if bitsOf v 1 0 = 3 then s.recordWrite .dma e.1 v else { s with tick := { s.tick with newPeriod := some (bitsOf v 1 0) } })
    else if e.1 = R.PRG_CMD then s.settingCmd v
    else s.blockWrite .dma e.1 v
  else s.memWrite e.1 (bytesLE 4 e.2)

/-- Give a governed register its reset value (R206). -/
def State.toReset (s : State) (a : Nat) : State :=
  if governedWord a (s.reg a) = s.reg a then s else s.blockWrite .dma a (governedWord a (s.reg a))

/-- Step 3 of a load: every governed register takes its reset value, in order of address, then the settings apply in theirs.  PAIR_CTRL,
named by a setting, goes straight to its new value (assumption log 36). -/
def State.applyAll (s : State) (l : List (Nat × Nat)) : State :=
  let named := l.map (·.1)
  let s := ((s.regs.map (·.1)).filter fun a => a ≠ R.TICK_PERIOD ∧ (a ≠ R.PAIR_CTRL ∨ named.contains a = false)).foldl (·.toReset ·) s
  l.foldl (·.setting ·) { s with tick := { s.tick with newPeriod := some (bitsOf (regReset R.TICK_PERIOD) 1 0) } }

/-- The same in one step at a swap: registers of the fixed part stay, and those that a setting names go straight to their new value
(R216; assumption log 36).  The scenario table is in force at once, as every setting of a load (R206, R265). -/
def State.applySwap (s : State) (l : List (Nat × Nat)) : State :=
  let l := l.filter fun e => !fixedPart e.1
  let named := l.map (·.1)
  let s := ((s.regs.map (·.1)).filter fun a => !fixedPart a && !named.contains a).foldl (·.toReset ·) s
  (l.foldl (·.setting ·) s).takeEffect (R.SHD_SCEN 0) (R.SHD_MAP 256)

/-- Keep the expert values that the load has written (R10); a swap writes none of the fixed part, whose Lit values are those kept before
(R216). -/
def State.keepExpert (s : State) (named : List Nat) (swap : Bool) : State :=
  let l := ((s.regs.map (·.1)).filter governedAll) ++ named
  let l := l.filter fun a => (match regInfo? a with | some r => r.expert != 0 | none => false) && !(swap && fixedPart a)
  let old := if swap then s.prg.expert.filter fun e => fixedPart e.1 else []
  { s with prg := { s.prg with expert := l.foldl (fun t a => tput t a (s.reg a)) old } }

/-- A frame wake that the nominal rate does not allow is downgraded, with an event (R415). -/
def State.wakeEvents (s : State) : State :=
  (List.range 8).foldl (fun s k =>
    if s.f (F.CAN_WAKE_WMODE k) = 1 ∧ s.frameWake k = false then s.event (0x0B00 + 16 * k + 6) [k] else s) s

/-- Prism runs every encoder once on a zero window and stores the CRC of its tile; an encoder's arithmetic is its table's, and the CRC is free
(R315). -/
def State.storeTiles (s : State) : State :=
  (List.range 24).foldl (fun s n =>
    let (x, s) := s.draw (2 ^ 32)
    { s with pair := { s.pair with tiles := tput s.pair.tiles n x } }) s

/-- What every configuration load does after its settings, a swap included (R31, R58, R243, R312, R332). -/
def State.loaded (s : State) (k : Admit) : State :=
  let s := s.wakeEvents.checkTables.fillBuckets.releaseEmpty.admitBatch k
  { s.storeTiles with pair := { s.storeTiles.pair with mirrorNoted := [] } }

/-! ## Loading (R205, R206) -/

/-- Encoder tables go to weight SRAM one after another, at multiples of 64 (assumption log 9). -/
def placeEncoders : Nat → List (Nat × List Byte) → List (Nat × Nat × List Byte)
  | _, [] => []
  | o, (n, d) :: l => (n, o, d) :: placeEncoders ((o + d.length + 63) / 64 * 64) l

/-- The unpacked sections of one kind of the slot at `h`, with their stream numbers. -/
def State.sections (s : State) (h kind : Nat) : List (Nat × List Byte) :=
  ((s.sects h).filter fun x => decide (x.kind = kind)).filterMap fun x => (s.unpack h x).map fun d => (x.stream, d)

/-- The encoder tables of the slot at `h` are unpacked into weight SRAM. -/
def State.loadEncoders (s : State) (h : Nat) : State :=
  let l := placeEncoders 0x20000000 (s.sections h 1)
  let s := l.foldl (fun s e => s.wrBytes e.2.1 e.2.2) s
  { s with prism := { s.prism with tables := l.foldl (fun t e => tput t e.1 e.2.1) [] } }

/-- A list cut into pieces of 64 bytes. -/
def entries64 (l : List Byte) : List (List Byte) := (List.range (l.length / 64)).map fun i => (l.drop (64 * i)).take 64

/-- The source table and the site record are copied into module storage (R205). -/
def State.loadSite (s : State) (h : Nat) : State :=
  { s with site := { sources := entries64 ((s.sections h 5).map (·.2)).flatten, site := ((s.sections h 6).map (·.2)).flatten } }

/-- Steps 3 and 4 of a load of the Lit slot, but for TRIAL (R206, R240, R265). -/
def State.install (s : State) : State :=
  let h := s.litSlot
  let l := s.settings h
  let s := ((s.fillBank h s.bankBase).loadEncoders h).loadSite h
  let s := (s.applyAll l).keepExpert (l.map (·.1)) false
  let s := { s with cml := { s.cml with relevant := [], dirty := s.cml.dirty.filter (· < 1024) }, prg := { s.prg with ran := false } }
  ((s.showVersions.shadowCold.loaded .load).put F.PRG_STATUS_NO_IMAGE 0).showCkpt

/-- Begin a load whose end LOAD_COMPLETE brings; a pending start is replaced (R189). -/
def State.startLoad (s : State) (k : Loading) : State :=
  { s with prg := { s.prg with loading := some k, pendLate := none } }.put F.PRG_MODE_PEND 0

/-- LOAD (R206). -/
def State.cmdLoad (s : State) : State :=
  match s.imageCheck s.candSlot true with
  | some x => s.prgRefuseBy x
  | none => s.rotate.startLoad .load

/-- Why the Shade is refused (R207). -/
def State.shadeReason (s : State) : Option Refused :=
  if s.reg R.PRG_SHADE_VER = 0 then some (offends 0x0B 0) else s.imageCheck s.shadeSlot false

/-- ROLLBACK in Stop (R207). -/
def State.cmdRollback (s : State) : State :=
  match s.shadeReason with
  | some x => s.prgRefuseBy x
  | none => s.rotateBack.startLoad .rollback

/-- ROLLBACK in Run and Hold: the Lit carries a reverse migration table to the Shade (R210). -/
def State.canRollBack (s : State) : Bool :=
  s.b F.PRG_CTRL_RB_RUN_EN && decide (s.header 0x18 ≠ 0 ∧ s.header 0x18 = (s.reg R.PRG_SHADE_VER).toNat) &&
  (s.migrationTable s.bankBase 4).isSome

/-- Begin to stage the image of slot k; `rb` for a rollback in Run (R210, R213). -/
def State.startStaging (s : State) (k : Nat) (rb : Bool) : State :=
  ({ s with prg := { s.prg with staging := some (k, rb) } }.put F.PRG_STATUS_STAGED 0).put F.PRG_STATUS_STAGING 1

/-- ABORT: the staged or staging exchange is discarded; an exchange past its swap point goes on (R189). -/
def State.cmdAbort (s : State) : State :=
  if s.prg.swapping then s else { s.dropExchange with prg := { s.prg with staging := none } }

/-! ## The commands (R188 to R193) -/

/-- Why a start is refused, or 0 (R200, R310).  With no image loaded CKPT_FIT is 0, so a warm start has reason 0x0C; a cold one has 0x0B
(assumption log 37). -/
def State.startReason (s : State) (warm : Bool) : Nat :=
  if s.standby && s.partnerOwns then 0x10
  else if warm then (if s.litVer = 0 then 0x0C else s.warmReason)
  else if s.litVer = 0 then 0x0B else 0

/-- A mode command waits for the next tick boundary; one in the cycle of a boundary that has not been taken yet, or later, waits for the
boundary after it (R24, R189). -/
def State.pend (s : State) (k : Nat) : State :=
  if s.tick.running && !s.beforeEdge s.periodUs then { s with prg := { s.prg with pendLate := some k } } else s.put F.PRG_MODE_PEND k

/-- RUN_WARM and RUN_COLD. -/
def State.cmdStart (s : State) (warm : Bool) : State :=
  let r := if s.mode = .stop then s.startReason warm else 0x10
  if r ≠ 0 then s.prgRefuse r else s.pend (if warm then 1 else 2)

/-- A start is pending or its restore runs. -/
def State.startPending (s : State) : Bool :=
  decide (s.mode = .stop) && (s.prg.restoring.isSome || decide (s.f F.PRG_MODE_PEND = 1 ∨ s.f F.PRG_MODE_PEND = 2))

/-- A restore, a load or a staging runs (R189), or an exchange has passed its swap point and waits for the boundary (R216; assumption
log 22). -/
def State.prgBusy (s : State) : Bool :=
  s.prg.restoring.isSome || s.prg.loading.isSome || s.b F.PRG_STATUS_STAGING || s.prg.swapping

/-- A mode command that waits for the tick boundary, accepted where `ok`. -/
def State.pendMode (s : State) (k : Nat) (ok : Bool) : State := if ok then s.pend k else s.prgRefuse 0x10

/-- The owner of a pair forwards an accepted command to its standby (R317). -/
def State.forward (s : State) (c : FwdCmd) (ver : Nat) : State :=
  if s.inPair && s.b F.PAIR_STATUS_CLAIM then { s with pair := { s.pair with cmdOut := some (c, ver) } } else s

/-- Command k of R189. -/
def State.prgCommand (s : State) (k : Nat) : State :=
  if k = 0 ∨ 10 < k then s.prgRefuse 0x11
  else if s.prgBusy ∧ k ≠ 3 ∧ k ≠ 9 ∧ k ≠ 10 then s.prgRefuse 0x0E
  else
    let live := decide (s.mode ≠ .stop)
    match k with
    | 1 => s.cmdStart true
    | 2 => s.cmdStart false
    | 3 => s.pendMode 3 (live || s.startPending)
    | 4 => s.pendMode 4 (decide (s.mode = .run))
    | 5 => s.pendMode 5 (decide (s.mode = .hold))
    | 6 => if live then s.prgRefuse 0x10 else s.cmdLoad
    | 7 =>
      let k := s.f F.PRG_ROLES_CAND
      if live then (s.startStaging k false).forward .exchange (s.rd (slotBase k) 4) else s.prgRefuse 0x10
    | 8 =>
      if !live then s.cmdRollback
      else if s.canRollBack then
        (s.startStaging (s.f F.PRG_ROLES_SHADE) true).forward .rollback (s.rd (slotBase (s.f F.PRG_ROLES_SHADE)) 4)
      else s.prgRefuse 0x0D
    | 9 => s.confirmTrial.forward .confirm s.litVer
    | _ => s.cmdAbort.forward .abort s.litVer

/-- A write of PRG_CMD (R189). -/
def State.prgWrite (s : State) (m : Master) (v : Word) : State :=
  if bitsOf v 31 16 = 0x4C54 then s.prgCommand (bitsOf v 3 0) else s.recordWrite m R.PRG_CMD v

/-- The word that commands k. -/
def cmdWord (k : Nat) : Word := BitVec.ofNat 32 (0x4C540000 + k)

/-- RUN_WARM (R197). -/
def execRunWarm (m : Master) (s : State) : Host.Outcome State Fault Refusal := .next (s.prgWrite m (cmdWord 1))
/-- RUN_COLD (R196). -/
def execRunCold (m : Master) (s : State) : Host.Outcome State Fault Refusal := .next (s.prgWrite m (cmdWord 2))
/-- STOP (R189). -/
def execStop (m : Master) (s : State) : Host.Outcome State Fault Refusal := .next (s.prgWrite m (cmdWord 3))
/-- HOLD (R192). -/
def execHold (m : Master) (s : State) : Host.Outcome State Fault Refusal := .next (s.prgWrite m (cmdWord 4))
/-- RESUME (R193). -/
def execResume (m : Master) (s : State) : Host.Outcome State Fault Refusal := .next (s.prgWrite m (cmdWord 5))
/-- LOAD (R206). -/
def execLoad (m : Master) (s : State) : Host.Outcome State Fault Refusal := .next (s.prgWrite m (cmdWord 6))
/-- EXCHANGE (R213). -/
def execExchange (m : Master) (s : State) : Host.Outcome State Fault Refusal := .next (s.prgWrite m (cmdWord 7))
/-- ROLLBACK (R207). -/
def execRollback (m : Master) (s : State) : Host.Outcome State Fault Refusal := .next (s.prgWrite m (cmdWord 8))
/-- CONFIRM (R208). -/
def execConfirm (m : Master) (s : State) : Host.Outcome State Fault Refusal := .next (s.prgWrite m (cmdWord 9))
/-- ABORT (R189). -/
def execAbort (m : Master) (s : State) : Host.Outcome State Fault Refusal := .next (s.prgWrite m (cmdWord 10))

/-- UNKNOWN_COMMAND: a write of PRG_CMD with another KEY or an unlisted code. -/
def execUnknownCommand (m : Master) (v : Word) (s : State) : Host.Outcome State Fault Refusal := .next (s.prgWrite m v)

/-! ## The end of a load (R206 to R209, R212) -/

/-- The trial state after a load of kind k (R206, R207, R209, R212). -/
def State.trialAfter (s : State) (k : Loading) : State :=
  match k with
  | .load => (((s.put F.PRG_STATUS_TRIAL 1).put F.PRG_STATUS_FAILS 0).put F.PRG_TRIAL_CNT_TCNT 0).writeRoles
  | .rollback | .auto => ((s.put F.PRG_STATUS_TRIAL 0).put F.PRG_STATUS_FAILS 0).writeRoles
  | .boot => s

/-- What an automatic rollback shows (R209). -/
def State.autoShown (s : State) : State := ((s.put F.PRG_STATUS_AUTO_RB 1).event 0x0303 s.versions).assertSrc 9

/-- The boot action of the loaded image (R212); the strap BOOT_STOP stands for 0 (R474). -/
def State.bootAction (s : State) : State :=
  if s.b F.SYS_STRAP_BOOT_STOP then s
  else match s.rd (s.bankBase + 0xF) 1 with
    | 1 => s.cmdStart true
    | 2 => if s.startReason true = 0 then s.cmdStart true else s.cmdStart false
    | 3 => s.cmdStart false
    | _ => s

/-- The load at power-up: the Lit, else the Shade by an automatic rollback, else no image; every image refused is a refusal with its reason
and its event (R8, R204, R209, R211, R212). -/
def State.bootLoaded (s : State) : State :=
  match s.imageCheck s.litSlot false with
  | none =>
    let s := s.install
    (s.event 0x0301 s.versions).bootAction
  | some x =>
    let s := s.prgRefuseBy x
    match s.imageCheck s.shadeSlot false with
    | none => (s.rotateBack.install.trialAfter .auto).autoShown.bootAction
    | some y => ((s.prgRefuseBy y).put F.PRG_STATUS_NO_IMAGE 1).put F.PRG_MODE_STOP_CAUSE 5

/-- LOAD_COMPLETE. -/
def State.loadDone (s : State) : State :=
  match s.prg.loading with
  | none => s
  | some k =>
    let s := { s with prg := { s.prg with loading := none } }
    match k with
    | .boot => s.bootLoaded
    | _ =>
      let s := s.install.trialAfter k
      match k with
      | .load => s.event 0x0301 s.versions
      | .rollback => s.event 0x0302 s.versions
      | _ => s.autoShown

/-- LOAD_COMPLETE (R206). -/
def execLoadComplete (s : State) : Host.Outcome State Fault Refusal := .next s.loadDone

/-- AUTO_ROLLBACK: FAILS has reached 3 (R194, R209); a Shade that a check refuses leaves everything as it is (R207). -/
def State.autoRollback (s : State) : State :=
  if s.f F.PRG_STATUS_FAILS = 3 ∧ s.prg.loading = none then
    let s := if s.mode = .stop then s.put F.PRG_MODE_STOP_CAUSE 4 else s.enterStop 4
    match s.shadeReason with
    | some x => s.prgRefuseBy x
    | none => s.rotateBack.startLoad .auto
  else s

/-- AUTO_ROLLBACK (R209). -/
def execAutoRollback (s : State) : Host.Outcome State Fault Refusal := .next s.autoRollback

/-! ## Staging (R213 to R215) -/

/-- The size of instance data. -/
def instSize : Nat := 0x400000

/-- The migration table of the exchange: the new image's, or the Lit's reverse one (R210). -/
def State.exchangeTable (s : State) (rb : Bool) : Option Nat :=
  if rb then s.migrationTable s.bankBase 4 else s.migrationTable s.stagingBase 3

/-- An entry lies inside instance data and the staging bank. -/
def State.entryInside (s : State) (x : Migration) : Bool :=
  decide (x.dst + x.len ≤ instSize) &&
  (match x.op with
   | 0 => decide (x.src + x.len ≤ instSize)
   | 1 => decide (s.rd (s.stagingBase + 0x20) 4 + x.src + x.len ≤ 0x400000)
   | _ => true)

/-- The first entry of a list, by its place, of which a condition holds. -/
def badEntry (l : List Migration) (bad : Migration → Bool) : Option Refused :=
  match l.findIdx? bad with
  | some i => some (offends 0x0A i)
  | none => none

/-- The further checks of a staging whose image stands in the staging bank. -/
def State.stagingCheck (s : State) (rb : Bool) : Option Refused :=
  if s.rd (s.stagingBase + 0x10) 4 ≠ s.header 0x10 then some (offends 0x09 0)
  else match s.exchangeTable rb with
    | none => some (offends 0x0A 0)
    | some a =>
      let l := s.migrations a
      firstOf [
        if s.rd a 4 = s.litVer then none else some (offends 0x0A 0),
        badEntry l fun x => !s.entryInside x,
        badEntry l fun x => !x.ok,
        if 1000000 < copierTime (l.map fun x => (x.op, x.len)) then some (offends 0x0F 0) else none]

/-- STAGING_COMPLETE. -/
def State.stagingDone (s : State) : State :=
  match s.prg.staging, s.b F.PRG_STATUS_STAGING with
  | some (k, rb), true =>
    let s := s.put F.PRG_STATUS_STAGING 0
    let fail := fun (s : State) (x : Refused) => { s with prg := { s.prg with staging := none } }.prgRefuseBy x
    match s.imageCheck (slotBase k) (!rb) with
    | some x => fail s x
    | none =>
      let s := s.fillBank (slotBase k) s.stagingBase
      match s.stagingCheck rb with
      | some x => fail s x
      | none => s.put F.PRG_STATUS_STAGED 1
  | _, _ => s

/-- STAGING_COMPLETE (R213). -/
def execStagingComplete (s : State) : Host.Outcome State Fault Refusal := .next s.stagingDone

/-! ## The swap (R216) -/

/-- Every activation that is not suspended ends with STOPPED set; pending ones are kept. -/
def State.stopForSwap (s : State) : State :=
  let held := s.cml.held
  let l := (s.cml.acts.map (·.1)).filter fun c => !s.suspended c
  let s := l.foldl (fun s c => s.endAct c false) { s with cml := { s.cml with held := [] } }
  { s with cml := { s.cml with held := held } }.sched

/-- The copier runs the table of the exchange; it stops on a bad entry. -/
def State.runExchange (s : State) (rb : Bool) : Bool × State :=
  match s.exchangeTable rb with
  | none => (false, s)
  | some a =>
    let l := s.migrations a
    let (ok, s) := s.runMigrations (s.initData s.stagingBase) l
    (ok, { s with prg := { s.prg with copier := copierTime (l.map fun x => (x.op, x.len)) / 100 } })

/-- The swap is abandoned: the module enters Stop at once, and the roles stay. -/
def State.abandonSwap (s : State) : State :=
  let s := (s.event 0x0309 s.versions).enterStop 6
  { s.dropExchange with prg := { s.prg with staging := none } }

/-- The conditions of a swap point (R216, R317). -/
def State.swapDue (s : State) : Bool :=
  s.b F.PRG_STATUS_STAGED && decide (s.mode ≠ .stop) && decide (s.f F.TICK_PHASE_PHASE = 5) &&
  s.cml.acts.all (fun e => decide (cfgPhase e.2.cfg ≠ 3)) && s.pair.tx.isNone && (!s.inPair || (s.b F.PAIR_STATUS_CLAIM && s.bit R.PAIR_PHEALTH_LO 11))

/-- SWAP_POINT. -/
def State.swapPoint (s : State) : State :=
  match s.prg.staging, s.swapDue with
  | some (_, rb), true =>
    let (ok, s) := s.stopForSwap.runExchange rb
    if ok then
      let sent := if s.inPair then some s.tickNo else s.pair.swapOut
      { s with prg := { s.prg with swapping := true }, pair := { s.pair with swapOut := sent } }
    else s.abandonSwap
  | _, _ => s

/-- SWAP_POINT (R216). -/
def execSwapPoint (s : State) : Host.Outcome State Fault Refusal := .next s.swapPoint

/-- Activations held over the swap start. -/
def State.startHeld (s : State) : State :=
  (s.cml.held.filter fun c => (s.act? c).isNone).foldl (fun s c =>
    ({ s with cml := { s.cml with held := s.cml.held.filter (· ≠ c) } }).newAct c) s

/-- The tick boundary after a swap point: the staging bank becomes active (R216, R240, R265, R305). -/
def State.swapBoundary (s : State) : State :=
  match s.prg.staging, s.prg.swapping with
  | some (k, rb), true =>
    let l := s.settings (slotBase k)
    let s := s.put F.PRG_STATUS_BANK (1 - s.f F.PRG_STATUS_BANK)
    let s := (s.applySwap l).keepExpert (l.map (·.1)) true
    let s := (if rb then s.rotateBack else s.rotate).showVersions.trialAfter .load
    let s := ((s.put F.PRG_XCHG_CPY (min 0xFFFF s.prg.copier)).event 0x0306 s.versions).assertSrc 9
    let s := (s.dropExchange.shadowSwap.loaded .swap).showCkpt
    { s with prg := { s.prg with staging := none, swapping := false }, pair := { s.pair with fullDue := true } }.startHeld.sched
  | _, _ => s

/-! ## Exchange in a pair (R317) -/

/-- A swap frame's work: the standby runs the same migration table on its committed state, a Mirror partner on its running program, and both
swap at the same boundary. -/
def State.swapNow (s : State) : State :=
  match s.prg.staging, s.b F.PRG_STATUS_STAGED && s.follows with
  | some (k, rb), true =>
    let stopped := decide (s.mode = .stop)
    let (ok, s) := (if stopped then s else s.stopForSwap).runExchange rb
    if ok then
      let kept := s.pair.committed.map fun c =>
        { c with cells := s.mem.filter (fun e => ckptHolds c.relevant e.1), version := s.rd (slotBase k) 4 }
      { s with prg := { s.prg with swapping := true }, pair := { s.pair with committed := kept } }
    else if stopped then { (s.event 0x0309 s.versions).dropExchange with prg := { s.prg with staging := none } }
    else s.abandonSwap
  | _, _ => s

/-- SWAP_FRAME. -/
def State.swapFrame (s : State) (crcOk : Bool) : State := s.frameIn crcOk State.swapNow

/-- SWAP_FRAME (R317). -/
def execSwapFrame (s : State) (crcOk : Bool := true) : Host.Outcome State Fault Refusal := .next (s.swapFrame crcOk)

/-- The standby stages slot k, which must hold the version that the owner forwards. -/
def State.stageForwarded (s : State) (k : Nat) (rb : Bool) (ver : Nat) : State :=
  if s.rd (slotBase k) 4 = ver then
    { s.startStaging k rb with pair := { s.pair with forwarded := some ver } }
  else s

/-- What a command forwarded by the owner does here. -/
def State.obey (s : State) (cmd : FwdCmd) (ver : Nat) : State :=
  if !s.follows then s
  else
    match cmd with
    | .exchange => if s.prgBusy then s else s.stageForwarded (s.f F.PRG_ROLES_CAND) false ver
    | .rollback => if s.prgBusy then s else s.stageForwarded (s.f F.PRG_ROLES_SHADE) true ver
    | .confirm => s.confirmTrial
    | .abort => s.cmdAbort

/-- FORWARDED_COMMAND. -/
def State.forwardedCommand (s : State) (crcOk : Bool) (cmd : FwdCmd) (ver : Nat) : State := s.frameIn crcOk (·.obey cmd ver)

/-- FORWARDED_COMMAND (R317). -/
def execForwardedCommand (cmd : FwdCmd) (ver : Word) (s : State) (crcOk : Bool := true) : Host.Outcome State Fault Refusal :=
  .next (s.forwardedCommand crcOk cmd ver.toNat)

end Sys2Proof.Machine
end

