-- ==== Sys2Proof/Machine/Cumel.lean ====
section
/-!
DEFINITION. Machine/Cumel.lean: how a context executes one instruction (R143 to R150, R184, R185), and what instructions share: special
registers, the addresses of instance and global accesses, and bus writes.
-/
namespace Sys2Proof.Machine

/-! ## Bus writes -/

/-- A write of a 32-bit word by a bus master, to a register or to memory (R11, R15, R486). -/
def State.busWrite (s : State) (m : Master) (a : Nat) (v : Word) : State :=
  if badAccess a 4 .write then s.refuseAccess m a 4 .write
  else if regionOf a = .registers then (if a = R.PRG_CMD then s.prgWrite m v else s.blockWrite m a v)
  else s.memWrite a (bytesLE 4 v.toNat)

/-! ## One instruction -/

/-- The core a context runs on: that of its descriptor, and for context 255 the one FILT_FB_CTRL.CORE selects (R144). -/
def State.coreOf (s : State) (c : Nat) : Nat := if c = 255 then 4 + bitsOf (s.eff R.FILT_FB_CTRL) 1 1 else cfgCore (s.curCfg c)

/-- A core as a bus master (R15). -/
def coreMaster (n : Nat) : Master :=
  match n with
  | 0 => .cc0 | 1 => .cc1 | 2 => .cc2 | 3 => .cc3 | 4 => .sc0 | _ => .sc1

/-- What an instruction comes to: a new state, an exception, or an access that ends in a bus error. -/
inductive Ran where
  | ok (s : State)
  | exc (e : Exc)
  | bus (a width : Nat) (k : AccessKind)

/-- The exception of a fetch at the context's PC (R150): ALIGN before BUS. -/
def State.fetchExc (s : State) (c : Nat) : Option Exc :=
  if s.pc c % 4 ≠ 0 then some .align else if 0x4FFFFF < s.pc c then some .bus else none

/-- Context c executes one instruction.  Its body works on the state with PC at the next word; an exception stops the instruction before it
has any effect (R184), and a bus error is recorded first (R157). -/
def State.run (s : State) (c : Nat) (body : State → Ran) : State :=
  let s := s.modAct c ({ · with skip := false })
  match s.fetchExc c with
  | some e => s.excSched c e
  | none =>
    match body (s.setPc c (s.pc c + 4)) with
    | .ok t => t
    | .exc e => s.excSched c e
    | .bus a w k => (s.refuseAccess (coreMaster (s.coreOf c)) a w k).excSched c .bus

/-- The PC of the instruction whose body runs. -/
def State.here (s : State) (c : Nat) : Nat := (s.pc c + 2 ^ 23 - 4) % 2 ^ 23

/-- An instruction that writes w[rd] with a value of the registers. -/
def State.runW (s : State) (c : Ctx) (rd : RegNo) (v : State → Dword) : State :=
  s.run c.toNat fun s => .ok (s.setW c.toNat rd.toNat (v s))

/-- w and d registers by operand. -/
def State.wr_ (s : State) (c : Ctx) (r : RegNo) : Dword := s.w c.toNat r.toNat
def State.dr (s : State) (c : Ctx) (r : RegNo) : Nat := (s.d c.toNat r.toNat).toNat

/-- Sticky bits of FPFLAGS are set (R148). -/
def State.flags (s : State) (c fl : Nat) : State := if fl = 0 then s else s.setFpflags c (s.fpflags c ||| fl)

/-- An instruction that writes d[rd] with a result and its flags. -/
def State.runD (s : State) (c : Ctx) (rd : RegNo) (v : State → FpRes) : State :=
  s.run c.toNat fun s => .ok ((s.setD c.toNat rd.toNat (BitVec.ofNat 64 (v s).bits)).flags c.toNat (v s).flags)

/-- An FP comparison: w[rd] is 1 or 0. -/
def State.runCmp (s : State) (c : Ctx) (rd : RegNo) (v : State → Bool × FpFlags) : State :=
  s.run c.toNat fun s => .ok ((s.setW c.toNat rd.toNat (if (v s).1 then 1 else 0)).flags c.toNat (v s).2)

/-- A jump inside a body: PC takes 23 bits. -/
def State.jump (s : State) (c : Ctx) (pc : Nat) : Ran := .ok (s.setPc c.toNat pc)

/-! ## Special registers (R148) -/

/-- Special register 7: the period of the executing task in ms. -/
def State.taskPeriod (s : State) (c : Nat) : Nat :=
  let p := match s.act? c with
    | some a => perK a.per
    | none => if c = 255 then 1 else perK (s.eff (R.CML_TPER c))
  p * s.periodMs

/-- Special register n of context c; unlisted numbers read zero. -/
def State.special (s : State) (c n : Nat) : Nat :=
  match n with
  | 0 => s.ib c
  | 1 => s.tb c
  | 2 => c
  | 3 => s.fpflags c
  | 4 => s.coreOf c
  | 5 => s.tickNo
  | 6 => s.f F.TICK_PHASE_PHASE
  | 7 => s.taskPeriod c
  | 8 => s.reg64 R.CML_STAMP_LO
  | 9 => s.depth c
  | 10 => (s.base 0).form
  | _ => 0

/-! ## Addresses (R156 to R158) -/

/-- n bytes at offset a of instance data lie inside the context's current instance and inside instance data. -/
def State.inInstance (s : State) (c : Nat) (a : Int) (n : Nat) : Bool :=
  let ib := s.ib c
  decide ((ib : Int) ≤ a ∧ a + n ≤ (ib + (s.typeEnt (s.tb c)).size : Nat) ∧ 0 ≤ a ∧ a + n ≤ 0x400000)

/-- An instance access of n bytes aligned to `al` at offset a of instance data: its exception, or its address. -/
def State.instAddr (s : State) (c : Nat) (a : Int) (n al : Nat) : Exc ⊕ Nat :=
  if a % al ≠ 0 then .inl .align
  else if s.inInstance c a n then .inr (instBase + a.toNat)
  else .inl .bounds

/-- The offset in instance data that an `.I` access names. -/
def State.iOff (s : State) (c : Ctx) (rb : RegNo) (off : Half) : Int := s.ib c.toNat + (s.wr_ c rb).toInt + off.toNat

/-- An `.I` access of n bytes. -/
def State.accI (s : State) (c : Ctx) (rb : RegNo) (off : Half) (n : Nat) (g : Nat → Ran) : Ran :=
  match s.instAddr c.toNat (s.iOff c rb off) n n with
  | .inl e => .exc e
  | .inr a => g a

/-- The 64-bit address that a `.G` access names. -/
def State.gAddr (s : State) (c : Ctx) (rb : RegNo) (off : Half) : Nat := (s.wr_ c rb + off.signExtend 64).toNat

/-- A `.G` access of n bytes (R157). -/
def State.accG (s : State) (c : Ctx) (rb : RegNo) (off : Half) (n : Nat) (k : AccessKind) (g : Nat → Ran) : Ran :=
  let a := s.gAddr c rb off
  if a % n ≠ 0 then .exc .align
  else if 2 ^ 40 ≤ a then .exc .bus
  else if badAccess a n k then .bus a n k
  else g a

/-- A load of n bytes of the bus by context c: a register read with its side effects, or memory. -/
def State.gLoad (s : State) (c : Nat) (a n : Nat) : Nat × State :=
  if regionOf a = .registers then
    let (v, s) := s.readReg (coreMaster (s.coreOf c)) a
    (v.toNat, s)
  else (s.rd a n, s)

/-- A store of n bytes of the bus by context c. -/
def State.gStore (s : State) (c : Nat) (a n v : Nat) : State :=
  if regionOf a = .registers then s.busWrite (coreMaster (s.coreOf c)) a (BitVec.ofNat 32 v)
  else (s.ctxStore a n v).markLines a n

end Sys2Proof.Machine
end

