-- ==== Sys2Proof/Machine/Library.lean ====
section
/-!
DEFINITION. Machine/Library.lean: the observer, the controller, the mode sequencer and the alarm evaluator of the Tlagon DP library (R121 to
R142) and the reading of curves (R219).

A block's body is ROM code that the spec does not list, so its work is done as one act when an instance of its type is called (assumption
log 38).  Parameters and private state have places of the model's own in the instance (assumption log 64).
-/
namespace Sys2Proof.Machine

/-! ## What the blocks share -/

/-- Store n bytes the spec leaves open. -/
def State.storeOpen (s : State) (a n : Nat) : State :=
  let (l, s) := s.drawBytes n
  s.ctxCopy a l

/-- Consecutive FP64 words. -/
def State.wordsAt (s : State) (a n : Nat) : List Nat := (List.range n).map fun i => s.rd (a + 8 * i) 8

def State.putWords (s : State) (a : Nat) (l : List Nat) : State := s.ctxCopy a (l.map (bytesLE 8)).flatten

/-- The ratio of two whole numbers. -/
def dRat (a b : Int) : Nat := dDiv (dOfInt a) (dOfInt b)

/-- x brought into lo to hi. -/
def dClamp (x lo hi : Nat) : Nat := dMin (dMax x lo) hi

/-- √(a² + b²). -/
def dHyp (a b : Nat) : Nat := (f64.sqrt (dAdd (dMul a a) (dMul b b))).bits

/-- An FP64 parameter, whose default stands for 0. -/
def State.param (s : State) (a d : Nat) : Nat := let v := s.rd a 8; if v = 0 then d else v

/-- The tick period in seconds. -/
def State.periodS (s : State) : Nat := dRat s.periodMs 1000

/-- x times `scale` as a whole number, rounded to the nearest and kept in lo to hi. -/
def wholeOf (x scale : Nat) (lo hi : Int) : Int := max lo (min hi (f64.toI64 (dMul x scale)).1)

/-- A block records an event: a program's record, whose code and contents the spec does not give. -/
def State.libEvent (s : State) (c : Nat) : State :=
  let (code, s) := s.draw 0x8000
  let (p, s) := s.draw (2 ^ 256)
  (s.offer (masterCode (coreMaster (s.coreOf c))) (0x8000 + code) (BitVec.ofNat 256 p)).2

/-- The flags of this tick's published result: RES_VALID, POS_EST, HDG_EST (R89). -/
def State.resFlag (s : State) (x : Fld) : Bool := decide (s.rd (resultAt s.tickNo + 8) 4 / 2 ^ x.lo % 2 = 1)

/-! ## The mode sequencer (R133, R135 to R139) -/

/-- Inputs of the sequencer. -/
structure ModeIn where
  joy : Bool
  lever : Bool
  tgt : Bool
  track : Bool
  term : Bool
  trackEnd : Bool
  pos : Bool
  hdg : Bool
  initHdg : Bool
  initPos : Bool

/-- The first row of R136 that refuses a request for a mode, entered from mode `cur`; 0 when none does. -/
def refuseCode (i : ModeIn) (cur m : Nat) : Nat :=
  if 7 < m then 0x0B
  else if 5 ≤ m ∧ cur ≠ 4 then 0x08
  else if m = 1 ∧ i.lever = false then 0x04
  else if 4 ≤ m ∧ i.pos = false then 0x01
  else if 3 ≤ m ∧ i.hdg = false then 0x02
  else if (4 ≤ m ∧ i.initPos = false) ∨ (m = 3 ∧ i.initHdg = false) then 0x09
  else if (m = 2 ∨ m = 3) ∧ i.joy = false then 0x03
  else if m = 5 ∧ i.tgt = false then 0x05
  else if m = 6 ∧ i.track = false then 0x06
  else if m = 7 ∧ i.term = false then 0x07
  else 0

/-- The degradation of R137 that applies to a mode. -/
def degrade (i : ModeIn) (m : Nat) : Option Nat :=
  if 3 ≤ m ∧ m ≤ 7 ∧ i.hdg = false then some (if i.joy then 2 else 0)
  else if 4 ≤ m ∧ m ≤ 7 ∧ i.pos = false then some 3
  else if m = 1 ∧ i.lever = false then some 0
  else if m = 2 ∧ i.joy = false then some 0
  else if m = 5 ∧ i.tgt = false then some 4
  else if m = 6 ∧ i.trackEnd then some 4
  else none

/-- AXES of a mode (R133): 1 lever, 2 joystick, 3 automatic; ALLOC_EN in bit 9, CA_EN in bit 10. -/
def modeAxes (m : Nat) : Nat :=
  match m with
  | 0 => 0
  | 1 => 0x15
  | 2 => 0x2A + 0x200
  | 3 => 0x3A + 0x200
  | _ => 0x3F + 0x600

/-- The restored mode's conditions, as if it had been requested from itself (R139): the row of 0x08 holds (assumption log 39). -/
def restoredOk (i : ModeIn) (m : Nat) : Bool := m = 0 || decide (refuseCode i (if 5 ≤ m then 4 else m) m = 0)

/-- What one scan of the sequencer comes to: the mode, whether it changed, whether a degradation took effect, and what REFUSE receives. -/
structure ModeOut where
  mode : Nat
  changed : Bool
  degraded : Bool
  refuse : Option Nat

/-- One scan: the degradation first, then the request (R136, R137, R139). -/
def modeScan (i : ModeIn) (restored : Bool) (cur req : Nat) : ModeOut :=
  let d := match degrade i cur with
    | some m => some m
    | none => if restored && !restoredOk i cur then some 0 else none
  let m := d.getD cur
  if req = 0 then ⟨m, d.isSome, d.isSome, none⟩
  else
    let r := req - 1
    if r = m ∨ r = 0 then ⟨r, d.isSome || decide (r ≠ m), d.isSome, some (r % 256 * 256)⟩
    else
      let e := refuseCode i m r
      if e = 0 then ⟨r, true, d.isSome, some (r % 256 * 256)⟩ else ⟨m, d.isSome, d.isSome, some (r % 256 * 256 + e)⟩

/-- Count at an offset past the sequencer's interface: degradations at 0x20, refusals at 0x24, read by alarm points 8 and 11. -/
def State.libCount (s : State) (a : Nat) : State := s.ctxStore a 4 (s.rd a 4 + 1)

/-- `DP_MODESEQ` at A. -/
def State.libModeseq (s : State) (c a : Nat) (first : Bool) : State :=
  let k := s.rd (a + 4) 4
  let obs := match s.libInst .observer with | some o => s.rd (o + 0x78) 4 | none => 0
  let i : ModeIn := { joy := k % 2 = 1, lever := k / 2 % 2 = 1, tgt := k / 4 % 2 = 1, track := k / 8 % 2 = 1, term := k / 16 % 2 = 1,
                      trackEnd := k / 32 % 2 = 1, pos := s.resFlag F.PRISM_STATUS_POS_EST, hdg := s.resFlag F.PRISM_STATUS_HDG_EST,
                      initHdg := obs % 2 = 1, initPos := obs / 2 % 2 = 1 }
  let cold := first && decide (s.prg.started = .cold)
  let cur := if cold then 0 else s.rd (a + 8) 4
  let o := modeScan i (first && !cold) cur (s.rd a 4)
  let s := (s.ctxStore a 4 0).ctxStore (a + 8) 4 o.mode
  let s := s.ctxStore (a + 0xC) 4 (modeAxes o.mode + (if o.changed then 0x100 else 0))
  let s := if o.changed then s.ctxStore (a + 0x18) 8 s.tickNo else s
  let s := if o.degraded then
      let (e, s) := s.draw (2 ^ 32 - 1)
      ((s.ctxStore (a + 0x14) 4 (e + 1)).libCount (a + 0x20)).libEvent c
    else s
  match o.refuse with
  | some v =>
    let s := s.ctxStore (a + 0x10) 4 v
    if v % 256 = 0 then s else (s.libCount (a + 0x24)).libEvent c
  | none => s

/-! ## The observer (R124 to R128)

Places: the model, the gains and the bias time constant from 0x098, SIG_REF 0x308, SIG_HREF 0x310, the wave state six words from 0x318.  The state
is a list of 15 words: η̂, ν̂, b̂, then the wave state. -/

def State.obsState (s : State) (a : Nat) : List Nat := s.wordsAt a 9 ++ s.wordsAt (a + 0x318) 6

def State.putObs (s : State) (a : Nat) (x : List Nat) : State := (s.putWords a (x.take 9)).putWords (a + 0x318) (x.drop 9)

/-- The parameters up to SIG_REF. -/
def State.obsParams (s : State) (a : Nat) : List Nat := s.wordsAt (a + 0x98) 78

/-- The state `dt` seconds later under the model and the achieved thrust, which is the input TAU_ACH. -/
def State.propagate (s : State) (a : Nat) (x : List Nat) (dt : Nat) : List Nat :=
  let w := Config.obsModel (s.obsParams a ++ x ++ s.wordsAt (a + 0x80) 3 ++ [dt])
  (List.range 15).map fun i => if i = 2 then wrap360 (w i) else w i

/-- Places of the state that take their values from a list. -/
def setWords (x : List Nat) (i : Nat) (v : List Nat) : List Nat := x.take i ++ v ++ x.drop (i + v.length)

/-- The larger eigenvalue of a covariance NN, NE, EE. -/
def largerEigen (c : List Nat) : Nat :=
  let two := dOfInt 2
  dAdd (dDiv (dAdd (c.getD 0 0) (c.getD 2 0)) two) (dHyp (dDiv (dSub (c.getD 0 0) (c.getD 2 0)) two) (c.getD 1 0))

/-- g = min(1, ref² / σ²) (R125). -/
def gainScale (ref var : Nat) : Nat := dMin (dOfInt 1) (dDiv (dMul ref ref) var)

/-- The measurement ages that the observer uses (R29, R98): FILT_GDn of the inputs behind each valid stream of KIND 0x0 or 0x1. -/
def State.measureAges (s : State) : List Nat :=
  ((List.range 24).map fun n =>
    let w := s.scfg n
    let gd := fun i => s.f (F.FILT_GD_GD i)
    if s.bit R.PRISM_VALID n then
      if scfgKind w = 0 then [n, gd (scfgSrc w)] else if scfgKind w = 1 then [n, gd (scfgSrc w), gd (scfgSrc w + 1)] else []
    else []).flatten

/-- The correction with the published result: the gains on the position innovation are scaled by g, those on the heading innovation by the
heading's (R125). -/
def State.obsCorrect (s : State) (a : Nat) (x : List Nat) : List Nat :=
  let r := resultAt s.tickNo
  let half := dRat 1 2
  let g := gainScale (s.param (a + 0x308) half) (largerEigen (s.wordsAt (r + 0x28) 3))
  let h := gainScale (s.param (a + 0x310) half) (s.rd (r + 0x48) 8)
  let y := [dSub (s.rd (r + 0x18) 8) (x.getD 0 0), dSub (s.rd (r + 0x20) 8) (x.getD 1 0), angleDiff (s.rd (r + 0x40) 8) (x.getD 2 0)]
  let k := Config.obsGain (s.obsParams a ++ x ++ y ++ s.measureAges)
  let part := fun (i j : Nat) => dMul (k (3 * i + j)) (y.getD j 0)
  (List.range 15).map fun i =>
    let v := dAdd (x.getD i 0) (dAdd (dMul g (dAdd (part i 0) (part i 1))) (dMul h (part i 2)))
    if i = 2 then wrap360 v else v

/-- What is uninitialised reads 0: north, east, surge, sway, bias and waves until INIT_POS, heading and yaw rate until INIT_HDG. -/
def obsMask (st : Nat) (x : List Nat) : List Nat :=
  (List.range x.length).map fun i =>
    if (if i = 2 ∨ i = 5 then st % 2 = 1 else st / 2 % 2 = 1) then x.getD i 0 else 0

/-- The prediction set: nothing while neither axis is initialised; with the heading alone, the grid centre and the predicted heading; else
ETA_NEXT, in whole mm and units of 360° / 65,536 (R63, R124, R127). -/
def State.armPrediction (s : State) (c st : Nat) (next : List Nat) : State :=
  let m := coreMaster (s.coreOf c)
  let mm := fun k => BitVec.ofInt 32 (wholeOf (next.getD k 0) (dOfInt 1000) (-(2 ^ 31)) (2 ^ 31 - 1))
  if st % 4 = 0 then s
  else
    let (n, e) := if st % 4 = 1 then (s.reg R.PRISM_CENTRE_N, s.reg R.PRISM_CENTRE_E) else (mm 0, mm 1)
    let h := wholeOf (next.getD 2 0) (dRat 65536 360) 0 65536 % 65536
    ((s.busWrite m R.PRISM_PRED_N n).busWrite m R.PRISM_PRED_E e).busWrite m R.PRISM_PRED_HDG (BitVec.ofInt 32 h)

/-- `DP_OBSERVER` at A. -/
def State.libObserver (s : State) (c a : Nat) (first : Bool) : State :=
  let warm := first && decide (s.prg.started = .warm)
  let s := if warm then { s with cml := { s.cml with obsWait := true } } else s
  let r := resultAt s.tickNo
  let valid := s.resFlag F.PRISM_STATUS_RES_VALID
  let old := s.rd (a + 0x78) 4
  let newH := decide (old % 2 = 0) && s.resFlag F.PRISM_STATUS_HDG_EST
  let newP := decide (old / 2 % 2 = 0) && s.resFlag F.PRISM_STATUS_POS_EST
  let take := s.cml.obsWait && valid
  let split := s.resFlag F.PRISM_STATUS_SPLIT_POS || s.resFlag F.PRISM_STATUS_SPLIT_HDG
  let st := b2n (decide (old % 2 = 1) || newH) + 2 * b2n (decide (old / 2 % 2 = 1) || newP) + 4 * b2n (!valid) +
    8 * b2n (valid && split) + 16 * b2n (valid && !s.resFlag F.PRISM_STATUS_MAIN_ACTIVE)
  let pos := s.wordsAt (r + 0x18) 2
  let hdg := [s.rd (r + 0x40) 8]
  let x0 := s.obsState a
  let x0 := if warm then setWords (setWords x0 3 [0, 0, 0]) 9 (List.replicate 6 0) else x0
  let ticks := if first && decide (s.prg.started = .takeover) then s.tickNo - s.prg.startTick else 1
  let x := (List.range ticks).foldl (fun x _ => s.propagate a x s.periodS) x0
  let x := if valid && !take then s.obsCorrect a x else setWords x 6 ((x0.drop 6).take 3)
  let x := if take then setWords (setWords x 0 pos) 2 hdg else x
  let x := if newH then setWords (setWords x 2 hdg) 5 [0] else x
  let x := if newP then setWords (setWords (setWords x 0 pos) 3 [0, 0]) 6 (List.replicate 9 0) else x
  let x := obsMask st x
  let rel := (obsMask st (s.propagate a x (dRat (8 * s.periodMs) 10000))).take 3
  let next := (obsMask st (s.propagate a x s.periodS)).take 3
  let s := ((s.putObs a x).putWords (a + 0x48) rel).putWords (a + 0x60) next
  let s := (s.ctxStore (a + 0x78) 4 st).ctxStore (a + 0x7C) 4 (if valid then 0 else min 0xFFFFFFFF (s.rd (a + 0x7C) 4 + 1))
  let s := if take then { s with cml := { s.cml with obsWait := false } } else s
  s.armPrediction c st next

/-! ## Curves (R219) -/

/-- The points of a curve table at an address. -/
def State.curvePoints (s : State) (t : Nat) : List (Nat × Nat) :=
  (List.range (s.rd t 1)).map fun i => (s.rd (t + 8 + 16 * i) 8, s.rd (t + 16 + 16 * i) 8)

/-- The secants of the segments. -/
def secants (p : List (Nat × Nat)) : List Nat := (p.zip (p.drop 1)).map fun e => dDiv (dSub e.2.2 e.1.2) (dSub e.2.1 e.1.1)

/-- One segment of the Fritsch–Carlson pass: a flat segment gets flat tangents, and a pair outside the circle of radius 3 is scaled onto it. -/
def fcStep (d : List Nat) (m : List Nat) (k : Nat) : List Nat :=
  let dk := d.getD k 0
  if dAbs dk = 0 then setWords m k [0, 0]
  else
    let al := dDiv (m.getD k 0) dk
    let be := dDiv (m.getD (k + 1) 0) dk
    let r := dHyp al be
    if dLt (dOfInt 3) r then
      let t := dMul (dDiv (dOfInt 3) r) dk
      setWords m k [dMul t al, dMul t be]
    else m

/-- Fritsch–Carlson tangents: at first the mean of the secants on the two sides, 0 where they differ in sign or one is 0, and the end secants at the
ends (assumption log 64). -/
def tangents (p : List (Nat × Nat)) : List Nat :=
  let d := secants p
  let n := p.length
  let start := (List.range n).map fun i =>
    if i = 0 then d.getD 0 0
    else if i + 1 = n then d.getD (n - 2) 0
    else if dLt 0 (dMul (d.getD (i - 1) 0) (d.getD i 0)) then dDiv (dAdd (d.getD (i - 1) 0) (d.getD i 0)) (dOfInt 2) else 0
  (List.range (n - 1)).foldl (fcStep d) start

/-- A cubic Hermite segment from (x0, y0) to (x1, y1) with tangents m0 and m1, at x. -/
def hermite (a b : Nat × Nat) (m0 m1 x : Nat) : Nat :=
  let h := dSub b.1 a.1
  let t := dDiv (dSub x a.1) h
  let u := dSub (dOfInt 1) t
  let uu := dMul u u
  let tt := dMul t t
  let two := dOfInt 2
  let one := dOfInt 1
  dAdd (dAdd (dMul (dMul uu (dAdd one (dMul two t))) a.2) (dMul (dMul uu t) (dMul h m0)))
    (dSub (dMul (dMul tt (dAdd one (dMul two u))) b.2) (dMul (dMul tt u) (dMul h m1)))

/-- The value of a curve at x: clamped outside its points, linear or monotone cubic between them. -/
def curveValue (cubic : Bool) (p : List (Nat × Nat)) (x : Nat) : Nat :=
  let a := p.headD (0, 0)
  let z := p.getLastD (0, 0)
  if dLe x a.1 then a.2
  else if dLe z.1 x then z.2
  else
    let k := (p.takeWhile fun e => dLe e.1 x).length - 1
    let l := p.getD k (0, 0)
    let r := p.getD (k + 1) (0, 0)
    if cubic then hermite l r ((tangents p).getD k 0) ((tangents p).getD (k + 1) 0) x
    else dAdd l.2 (dMul (dSub r.2 l.2) (dDiv (dSub x l.1) (dSub r.1 l.1)))

/-- Curve k of the active bank at x; none where the image has no such curve. -/
def State.curveAt (s : State) (k x : Nat) : Option Nat :=
  if k < 256 then (s.tableOf s.bankBase (192 + k)).map fun t => curveValue (decide (s.rd (t + 1) 1 = 1)) (s.curvePoints t) x else none

/-! ## The controller (R129 to R132)

Places: KP 0x098, KI 0x0B0, KD 0x0C8, E_SAT 0x0E0, I_MAX 0x0F8, three words each; WFF_GAIN 0x110; WFF_GROUP 0x118 and the curve numbers 0x11C, 0x120,
0x124 as u32; WFF_TC 0x128, WFF_FADE 0x130, SP_RATE 0x138, HDG_RATE 0x140; the low-passed value 0x148, three words; ticks without a valid group
0x160; the axes of the scan before 0x168. -/

/-- The wind feed-forward of axis k: the low-passed value, and the value in use.  `valid` says whether the group's result is, `ms` for how long it
has not been. -/
def State.windForward (s : State) (a k : Nat) (valid : Bool) (ms : Nat) : Nat × Nat × State :=
  let held := s.rd (a + 0x148 + 8 * k) 8
  if valid then
    let g := resultAt s.tickNo + 0x100 + 0x40 * s.rd (a + 0x118) 4
    let v := s.rd g 8
    let gain := s.rd (a + 0x110) 8
    let (c, s) := match s.curveAt (s.rd (a + 0x11C + 4 * k) 4) (s.rd (g + 8) 8) with
      | some c => (c, s)
      | none => if dAbs gain = 0 then (0, s) else s.draw (2 ^ 64)
    let w := Config.smooth [held, dMul (dMul gain c) (dMul v v), s.periodS, s.param (a + 0x128) (dOfInt 5)] % 2 ^ 64
    (w, w, s)
  else
    let fade := dDiv (dRat ((ms : Int) - 10000) 1000) (s.param (a + 0x130) (dOfInt 30))
    (held, if ms ≤ 10000 then held else dMul held (dMax 0 (dSub (dOfInt 1) fade)), s)

/-- The wind feed-forward of the three axes, with what it keeps. -/
def State.allForward (s : State) (a : Nat) : State :=
  let g := s.rd (a + 0x118) 4
  let valid := decide (g ≤ 5) && decide (s.rd (resultAt s.tickNo + 0x100 + 0x40 * g + 0x28) 4 % 2 = 1)
  let n := if valid then 0 else s.rd (a + 0x160) 8 + 1
  let s := (List.range 3).foldl (fun s k =>
    let (held, w, s) := s.windForward a k valid (n * s.periodMs)
    (s.ctxStore (a + 0x148 + 8 * k) 8 held).ctxStore (a + 0x30 + 8 * k) 8 w) s
  s.ctxStore (a + 0x160) 8 n

/-- The set-point moves towards SP: the position by at most SP_RATE × T, the heading by at most HDG_RATE × T the shorter way round (R132). -/
def State.approach (s : State) (a : Nat) : List Nat :=
  let sp := s.wordsAt (a + 0x60) 3
  let now := s.wordsAt (a + 0x48) 3
  let far := dMul (s.param (a + 0x138) (dRat 1 5)) s.periodS
  let turn := dMul (s.param (a + 0x140) (dOfInt 2)) s.periodS
  let dn := dSub (sp.getD 0 0) (now.getD 0 0)
  let de := dSub (sp.getD 1 0) (now.getD 1 0)
  let dist := dHyp dn de
  let dh := angleDiff (sp.getD 2 0) (now.getD 2 0)
  let k := dDiv far dist
  (if dLe dist far then sp.take 2 else [dAdd (now.getD 0 0) (dMul dn k), dAdd (now.getD 1 0) (dMul de k)]) ++
    [if dLe (dAbs dh) turn then sp.getD 2 0 else wrap360 (dAdd (now.getD 2 0) (dClamp dh (dNeg turn) turn))]

/-- The set-point error in the vessel frame (R129). -/
def vesselError (sp eta : List Nat) : List Nat :=
  let dn := dSub (sp.getD 0 0) (eta.getD 0 0)
  let de := dSub (sp.getD 1 0) (eta.getD 1 0)
  let c := Config.cosDeg (eta.getD 2 0) % 2 ^ 64
  let s := Config.sinDeg (eta.getD 2 0) % 2 ^ 64
  [dAdd (dMul c dn) (dMul s de), dSub (dMul c de) (dMul s dn), angleDiff (sp.getD 2 0) (eta.getD 2 0)]

/-- Axis k under `ax`: a joystick axis passes its demand, or 0 where the sequencer sets that, and keeps I; an automatic axis follows R129, with I
preloaded on the scan that makes it automatic (R130); on any other axis the demand is a value the spec does not state, and I stays. -/
def State.axis (s : State) (a k ax : Nat) (enters sat zero : Bool) (e nu : Nat) : State :=
  let p3 := fun (o : Nat) => s.rd (a + o + 8 * k) 8
  if ax = 2 then s.ctxStore (a + 8 * k) 8 (if zero then 0 else p3 0x78)
  else if ax = 3 then
    let cap := fun (x m : Nat) => dClamp x (dNeg m) m
    let es := cap e (p3 0xE0)
    let wp := dAdd (p3 0x30) (dMul (p3 0x98) es)
    let d := dNeg (dMul (p3 0xC8) nu)
    let i :=
      if enters then cap (dSub (dSub (p3 0) d) wp) (p3 0xF8)
      else if sat then p3 0x18
      else cap (dAdd (p3 0x18) (dMul (dMul (p3 0xB0) es) s.periodS)) (p3 0xF8)
    (s.ctxStore (a + 0x18 + 8 * k) 8 i).ctxStore (a + 8 * k) 8 (dAdd (dAdd wp d) i)
  else s.storeOpen (a + 8 * k) 8

/-- `DP_CONTROL` at A. -/
def State.libControl (s : State) (a : Nat) : State :=
  let w := s.rd (a + 0x90) 4
  let was := s.rd (a + 0x168) 4
  let ax := fun (w k : Nat) => w / 4 ^ k % 4
  let enters := fun k => decide (w / 256 % 2 = 1 ∧ ax w k = 3 ∧ ax was k ≠ 3)
  let sat := decide (s.rd (a + 0x94) 4 % 2 = 1)
  let zero := match s.libInst .modeseq with
    | some q => decide (s.rd (q + 8) 4 = 3 ∧ s.rd (q + 4) 4 % 2 = 0)
    | none => false
  let (rel, nu) := match s.libInst .observer with
    | some o => (s.wordsAt (o + 0x48) 3, s.wordsAt (o + 0x18) 3)
    | none => ([0, 0, 0], [0, 0, 0])
  let sp := s.approach a
  let sp := if enters 0 || enters 1 then setWords sp 0 (rel.take 2) else sp
  let sp := if enters 2 then setWords sp 2 (rel.drop 2) else sp
  let s := (s.allForward a).putWords (a + 0x48) sp
  let e := vesselError sp rel
  let s := (List.range 3).foldl (fun s k =>
    s.axis a k (ax w k) (enters k) sat (zero && decide (k ≠ 2)) (e.getD k 0) (nu.getD k 0)) s
  s.ctxStore (a + 0x168) 4 w

/-! ## The alarm evaluator (R140 to R142) -/

/-- The transitions of R140: states 0 Normal, 1 Active-unacknowledged, 2 Active-acknowledged, 3 Rectified-unacknowledged. -/
def alarmNext (st : Nat) (ack cond : Bool) : Nat :=
  match st, ack, cond with
  | 0, _, true => 1
  | 1, true, true => 2
  | 1, true, false => 0
  | 1, false, false => 3
  | 2, _, false => 0
  | 3, true, _ => 0
  | 3, false, true => 1
  | _, _, _ => st

/-- The numbers of a point: limit, on-delay and off-delay in ms, priority (0 alarm, 1 warning, 2 caution) and inhibit. -/
structure AlarmPar where
  limit : Nat
  onMs : Nat
  offMs : Nat
  prio : Nat
  inhibit : Bool
deriving DecidableEq, Repr

/-- The defaults of points 0 to 11 of instance 0 (R142). -/
def alarmDefault (p : Nat) : AlarmPar :=
  match p with
  | 0 => ⟨dOfInt 3, 2000, 0, 1, true⟩
  | 1 => ⟨dOfInt 5, 1000, 0, 0, true⟩
  | 2 => ⟨dOfInt 3, 2000, 0, 1, true⟩
  | 3 => ⟨dOfInt 5, 1000, 0, 0, true⟩
  | 4 => ⟨dOfInt 5, 0, 0, 0, true⟩
  | 5 => ⟨0, 0, 0, 1, false⟩
  | 6 => ⟨dOfInt 50, 0, 0, 1, true⟩
  | 7 => ⟨0, 0, 0, 2, false⟩
  | 8 => ⟨0, 0, 0, 0, false⟩
  | 9 => ⟨dOfInt 1, 0, 0, 1, true⟩
  | 10 => ⟨0, 0, 0, 1, false⟩
  | _ => ⟨0, 0, 5000, 2, false⟩

/-- The parameters of the point whose record stands at x: its own, or the library's where the image gives it none. -/
def State.alarmPar (s : State) (x p : Nat) (library : Bool) : AlarmPar :=
  let own := s.rd (x + 3) 1
  if library && decide (own = 0 ∧ s.rd (x + 8) 8 = 0 ∧ s.rd (x + 16) 4 = 0) then alarmDefault p
  else ⟨widen (s.rd (x + 8) 4), s.rd (x + 12) 4, s.rd (x + 16) 4, min 2 (own % 4), decide (own / 128 = 1)⟩

/-- The library's condition of point p in the table of R142; `n` is the count the point's record keeps: the sequencer's count last seen for points 8 and
11, ticks with ALLOC_SAT for point 9. -/
def State.alarmCond (s : State) (p n : Nat) (latched ack : Bool) (limit : Nat) : Bool :=
  let ctl := (s.libInst .control).getD 0
  let obs := (s.libInst .observer).getD 0
  let seq := (s.libInst .modeseq).getD 0
  let mode := s.rd (seq + 8) 4
  let from' := fun (m : Nat) => decide (m ≤ mode ∧ mode ≤ 7)
  let err := vesselError (s.wordsAt (ctl + 0x48) 3) (s.wordsAt (obs + 0x48) 3)
  match p with
  | 0 => from' 4 && dLt limit (dHyp (err.getD 0 0) (err.getD 1 0))
  | 1 => from' 4 && dLt limit (dHyp (err.getD 0 0) (err.getD 1 0))
  | 2 => from' 3 && dLt limit (dAbs (err.getD 2 0))
  | 3 => from' 3 && dLt limit (dAbs (err.getD 2 0))
  | 4 => from' 4 && dLt limit (metres (s.f F.SHD_WSE_POS_POS))
  | 5 => s.resFlag F.PRISM_STATUS_SPLIT_POS || s.resFlag F.PRISM_STATUS_SPLIT_HDG
  | 6 => dLt limit (dOfInt (s.rd (obs + 0x7C) 4))
  | 7 => !s.resFlag F.PRISM_STATUS_POS_EST
  | 8 => decide (s.rd (seq + 0x20) 4 ≠ n) || (latched && !ack)
  | 9 => from' 2 && decide (n ≠ 0) && dLe limit (dRat (n * s.periodMs) 1000)
  | 10 => !s.resFlag F.PRISM_STATUS_MAIN_ACTIVE
  | _ => decide (s.rd (seq + 0x24) 4 ≠ n)

/-- The count a library point's record keeps after a scan. -/
def State.alarmCount (s : State) (p n : Nat) : Nat :=
  let seq := (s.libInst .modeseq).getD 0
  match p with
  | 8 => s.rd (seq + 0x20) 4
  | 9 => if (match s.libInst .conseq with | some q => decide (s.rd q 4 % 2 = 1) | none => false) then min 0xFFFFFFFF (n + 1) else 0
  | 11 => s.rd (seq + 0x24) 4
  | _ => 0

/-- The delayed condition and the delay's timer after a scan: a timer of 0 does not run, else it is one more than its ms. -/
def alarmDelay (was cond : Bool) (t p onMs offMs : Nat) : Bool × Nat :=
  if cond = was then (was, 0)
  else
    let t := if t = 0 then 1 else t + p
    if (if cond then onMs else offMs) ≤ t - 1 then (cond, 0) else (was, t)

/-- One point, whose record of 32 bytes stands at x (R140, R141).  The record: state 0x00; delayed condition 0x01; inputs 0x02, bit 0 the condition, bit 1
the acknowledgement, which the scan takes; 0x03 priority in bits 1:0 and inhibit in bit 7; event code 0x04; FP32 limit 0x08; on-delay 0x0C and
off-delay 0x10 in ms; timer 0x18; count 0x1C. -/
def State.alarmPoint (s : State) (c x p : Nat) (library : Bool) : State :=
  let was := s.rd x 1 % 4
  let inp := s.rd (x + 2) 1
  let ack := decide (inp / 2 % 2 = 1)
  let latched := decide (s.rd (x + 1) 1 = 1)
  let lib := library && decide (p < 12)
  let n := s.rd (x + 0x1C) 4
  let par := s.alarmPar x p lib
  let n' := s.alarmCount p n
  let cond := if lib then s.alarmCond p (if p = 9 then n' else n) latched ack par.limit else decide (inp % 2 = 1)
  let held := par.inhibit && decide (s.prg.started = .cold) && !s.cml.alarmLift
  let (now, t) := if held then (false, 0) else alarmDelay latched cond (s.rd (x + 0x18) 4) (s.taskPeriod c) par.onMs par.offMs
  let st := if held then 0 else alarmNext was ack now
  let s := (s.ctxStore x 1 st).ctxStore (x + 1) 1 (b2n now)
  let s := (s.ctxStore (x + 2) 1 (inp - inp / 2 % 2 * 2)).ctxStore (x + 0x18) 4 t
  let s := if lib then s.ctxStore (x + 0x1C) 4 n' else s
  let code := s.rd (x + 4) 4 % 65536
  if st = was then s
  else if code = 0 then s.libEvent c
  else
    let (d, s) := s.draw (2 ^ 256)
    (s.offer (masterCode (coreMaster (s.coreOf c))) code (BitVec.ofNat 256 d)).2

/-- `DP_ALARM` at A: every point, then the outputs: twelve counts, by state and within it by priority, the highest priority present at 0x30 (0 none, 1
caution, 2 warning, 3 alarm), and from 0x40 the bitmap of unacknowledged points. -/
def State.libAlarm (s : State) (c a size : Nat) : State :=
  let l := List.range (min 1024 (LibBlock.alarm.items size))
  let library := decide (s.libInst .alarm = some a)
  let at' := fun p => a + 256 + 32 * p
  let s := l.foldl (fun s p => s.alarmPoint c (at' p) p library) s
  let state := fun p => s.rd (at' p) 1
  let prio := fun p => (s.alarmPar (at' p) p (library && decide (p < 12))).prio
  let counts := (List.range 12).map fun k => (l.filter fun p => decide (state p = k / 3 ∧ prio p = k % 3)).length
  let top := ((l.filter fun p => state p ≠ 0).map fun p => 3 - prio p).foldl max 0
  let bits := bitSum (l.filter fun p => state p = 1 ∨ state p = 3)
  ((s.ctxCopy a (counts.map (bytesLE 4)).flatten).ctxStore (a + 0x30) 4 top).ctxCopy (a + 0x40) (bytesLE 128 bits)

end Sys2Proof.Machine
end

