-- ==== Sys2Proof/Machine/Builders.lean ====
section
/-!
DEFINITION. Machine/Builders.lean: the problem builders and the consequence analysis of the DP library (R247, R249 to R256, R262 to R266, R268 to
R270), and the call of a library block.

`DP_ALLOCB` holds: scenario 0x000, section count 0x004, AVAIL (input) 0x008, AVAIL of the scan before 0x00C, TAU (input) 0x010, SEC_KW (input) 0x028,
W_S, W_D and W_P from 0x068, eight cuts of a u32 section mask and an FP32 fraction from 0x080, FP32 TOL 0x0C0 and RHO 0x0C4, AXES (input) 0x0C8, ANG
(input) from 0x100, the last released force (input), two words each, from 0x200, and a thruster entry of 64 bytes each from 0x1000.  A
thruster entry: kind 0x00 (0 none, 1 tunnel, 2 azimuth), section 0x01, then FP32 position x and y, rated thrust, rated power, thrust rate, turning
rate, two sectors of a start and an end in degrees clockwise (equal: not configured), and five power-curve coefficients from 0x04.
`DP_PREDB` holds: scenario 0x000, AXES (input) 0x004, FP32 TOL 0x008 and RHO 0x00C, and its model from 0x010.
`DP_CONSEQ` holds: flags 0x000 (bit 0 ALLOC_SAT, 1 PLAN_SAT, 2 PLAN_STANDBY, 3 PLAN_DEGRADED, 4 PLAN_HELD), AXES (input) 0x004, the stored BASE 0x008 and
ACTIVE 0x010, SAT_TOL from 0x018, three words, a mask of position streams for each of eight reference groups from 0x030, four words for each
thruster from 0x100 (surge, sway, angle, magnitude), and four for each entry from 0x800 (position and heading figure, DR_ACC).
These places are the model's (assumption log 64).
-/
namespace Sys2Proof.Machine

/-! ## Thrusters -/

/-- A thruster's table entry (R249). -/
structure Thruster where
  no : Nat
  az : Bool
  sect : Nat
  x : Nat
  y : Nat
  thrust : Nat
  power : Nat
  rate : Nat
  turn : Nat
  zones : List (Nat × Nat)
  words : List Nat
deriving DecidableEq, Repr

/-- The thrusters of an allocation builder of `size` bytes at A, in table order. -/
def State.thrusterTable (s : State) (a size : Nat) : List Thruster :=
  (List.range (min 32 (LibBlock.allocb.items size))).filterMap fun i =>
    let b := a + 0x1000 + 64 * i
    let w := (List.range 16).map fun k => s.rd (b + 4 * k) 4
    let v := fun k => widen (w.getD k 0)
    if s.rd b 1 = 1 ∨ s.rd b 1 = 2 then
      some ⟨i, decide (s.rd b 1 = 2), s.rd (b + 1) 1, v 1, v 2, v 3, v 4, v 5, v 6, [(v 7, v 8), (v 9, v 10)], w⟩
    else none

/-- A thruster with the places of its variables: its first force and its power. -/
structure Slot where
  t : Thruster
  f : Nat
  p : Nat
deriving DecidableEq, Repr

def forces (ts : List Thruster) : Nat := (ts.map fun t => if t.az then 2 else 1).foldl (· + ·) 0

/-- The variables of a thruster table, forces first, then three slacks, then powers (R249). -/
def slots (ts : List Thruster) : List Slot :=
  (List.range ts.length).zip ts |>.map fun e => ⟨e.2, forces (ts.take e.1), forces ts + 3 + e.1⟩

def dSum (l : List Nat) : Nat := l.foldl dAdd 0
def orOne (x : Nat) : Nat := if dAbs x = 0 then dOfInt 1 else x

/-- What the slacks are scaled to: the summed rated thrust, and the summed rated moment. -/
def allThrust (ts : List Thruster) : Nat := orOne (dSum (ts.map (·.thrust)))
def allMoment (ts : List Thruster) : Nat := orOne (dSum (ts.map fun t => dMul t.thrust (if t.az then dHyp t.x t.y else dAbs t.x)))

/-- The summed rated power of a section. -/
def sectPower (ts : List Thruster) (j : Nat) : Nat := orOne (dSum ((ts.filter (·.sect = j)).map (·.power)))

/-! ## Losses and the base (R247, R262, R263) -/

/-- What is lost: thrusters, and for each of the eight sections the fraction of its power that is left. -/
structure Loss where
  thr : List Nat
  sect : List Nat
deriving DecidableEq, Repr

def Loss.join (x y : Loss) : Loss := ⟨x.thr ++ y.thr, (x.sect.zip y.sect).map fun e => dMul e.1 e.2⟩

/-- What a scenario loses, by its KIND and PARAM: two entries of one KIND and PARAM lose the same. -/
def scenLoss (w : Word) : Nat × Nat := (scenKind w, if scenKind w = 3 then scenParam w % 8 else scenParam w)

/-- The loss of a scenario by its KIND, with the cuts of the builder at A. -/
def State.lossOf (s : State) (a : Nat) (ts : List Thruster) (w : Nat × Nat) : Loss :=
  let one := dOfInt 1
  let p := w.2
  match w.1 with
  | 1 => ⟨[p], List.replicate 8 one⟩
  | 2 => ⟨(ts.filter (·.sect = p)).map (·.no), (List.range 8).map fun j => if j = p then 0 else one⟩
  | 3 => ⟨[], (List.range 8).map fun j => if s.rd (a + 0x80 + 8 * (p % 8)) 4 / 2 ^ j % 2 = 1 then widen (s.rd (a + 0x84 + 8 * (p % 8)) 4) else one⟩
  | _ => ⟨[], List.replicate 8 one⟩

/-- The loss of a list of entries, each loss counted once, together with the thrusters that AVAIL, as given, does not have. -/
def State.lossWith (s : State) (a : Nat) (ts : List Thruster) (avail : Nat) (l : List Nat) : Loss :=
  ((l.map fun k => scenLoss (s.scen k)).eraseDups).foldl (fun x e => x.join (s.lossOf a ts e))
    ⟨(List.range 32).filter fun i => decide (avail / 2 ^ i % 2 = 0), List.replicate 8 (dOfInt 1)⟩

/-- The entries absorbed. -/
def State.baseList (s : State) : List Nat := (List.range 64).filter s.inBase

/-- The entries that the base has lost: the absorbed ones, and an ACTIVE that the builders have taken up (R262, R263). -/
def State.baseEntries (s : State) : List Nat :=
  let k := s.f F.SHD_ACTIVE_ACTIVE
  if k = 0 then s.baseList else s.baseList ++ [k]

/-- The loss that a problem is built for: AVAIL, the entries that the base has lost, and those of the scenario; with CA_EN 0 the builders follow AVAIL
alone (R262 to R264). -/
def State.builtLoss (s : State) (a : Nat) (ts : List Thruster) (ca : Bool) (k : Nat) : Loss :=
  s.lossWith a ts (s.rd (a + 8) 4) (if ca then s.baseEntries ++ [k] else [])

/-- The losses of entry k lie wholly in a loss: its thrusters, or for a power cut what it leaves of every section. -/
def State.lostWholly (s : State) (a : Nat) (ts : List Thruster) (loss : Loss) (k : Nat) : Bool :=
  let x := s.lossOf a ts (scenLoss (s.scen k))
  if scenKind (s.scen k) = 3 then (loss.sect.zip x.sect).all fun e => dLe e.1 e.2
  else decide (x.thr ≠ []) && x.thr.all loss.thr.contains

/-- The absorbed set for a loss: the entries kept, and every enabled one whose losses lie wholly in it. -/
def State.absorbSet (s : State) (a : Nat) (ts : List Thruster) (loss : Loss) (keep : List Nat) : Nat :=
  bitSum ((List.range (s.scenMax + 1)).filter fun k => keep.contains k || (decide (k ≠ 0) && scenEn (s.scen k) && s.lostWholly a ts loss k))

/-- The absorbed set is written, then the rebase is armed for entry k (R262). -/
def State.writeRebase (s : State) (c k set : Nat) : State :=
  let m := coreMaster (s.coreOf c)
  ((s.busWrite m R.SHD_ABSORB_LO (BitVec.ofNat 32 set)).busWrite m R.SHD_ABSORB_HI (BitVec.ofNat 32 (set / 2 ^ 32))).busWrite m
    R.SHD_REBASE (BitVec.ofNat 32 k)

/-- Entry 0's builder absorbs ACTIVE in the Scan after a promotion.  With ACTIVE 0 a change of AVAIL that changes the set is written with SCEN 0; a
thruster that AVAIL brings back leaves every absorbed entry that lost it.  AVAIL counts as taken up only with ACTIVE 0. -/
def State.absorb (s : State) (c a : Nat) (ts : List Thruster) : State :=
  let k := s.f F.SHD_ACTIVE_ACTIVE
  let avail := s.rd (a + 8) 4
  let was := s.rd (a + 0xC) 4
  if k ≠ 0 then s.writeRebase c k (s.absorbSet a ts (s.lossWith a ts avail s.baseEntries) s.baseEntries)
  else if avail = was then s
  else
    let t := s.ctxStore (a + 0xC) 4 avail
    let back := fun i => decide (avail / 2 ^ i % 2 = 1 ∧ was / 2 ^ i % 2 = 0)
    let keep := s.baseList.filter fun k => !(s.lossOf a ts (scenLoss (s.scen k))).thr.any back
    let set := s.absorbSet a ts (s.lossWith a ts avail keep) keep
    if set = bitSum s.baseList then t else t.writeRebase c 0 set

/-! ## The allocation problem (R249 to R254) -/

/-- A row of n words from its entries that are not 0. -/
def rowWords (n : Nat) (l : List (Nat × Nat)) : List Nat := (List.range n).map fun j => tget 0 l j

/-- Cosine and sine of a multiple of 30 or 45 degrees. -/
def unitCos (d : Nat) : Nat :=
  let r := if d % 360 ≤ 180 then d % 360 else 360 - d % 360
  let v := fun (k : Nat) => match k with
    | 0 => dOfInt 1
    | 30 => dDiv (f64.sqrt (dOfInt 3)).bits (dOfInt 2)
    | 45 => (f64.sqrt (dRat 1 2)).bits
    | 60 => dRat 1 2
    | _ => 0
  if r ≤ 90 then v r else dNeg (v (180 - r))

def unitSin (d : Nat) : Nat := unitCos (d + 270)

def plusInf : Nat := 0x7FF0000000000000

/-- A row of G: the thruster it belongs to, its entries in increasing place, and h. -/
structure GRow where
  no : Nat
  row : List (Nat × Nat)
  h : Nat
deriving DecidableEq, Repr

/-- The half-plane of force directions on the side of smaller angles of an edge at `d` degrees, or with `up` on the side of larger ones. -/
def edgeRow (e : Slot) (d : Nat) (up : Bool) : GRow :=
  let s := Config.sinDeg d % 2 ^ 64
  let c := Config.cosDeg d % 2 ^ 64
  ⟨e.t.no, [(e.f, if up then s else dNeg s), (e.f + 1, if up then dNeg c else c)], 0⟩

/-- Eight faces around the rated-thrust circle. -/
def hullRows (e : Slot) : List GRow := (List.range 8).map fun k => ⟨e.t.no, [(e.f, unitCos (45 * k)), (e.f + 1, unitSin (45 * k))], dOfInt 1⟩

/-- Power ≥ a · force + b: three cuts for each direction of a tunnel, one in each of twelve directions of an azimuth. -/
def cutRows (e : Slot) : List GRow :=
  let a := fun k => Config.powerCut e.t.words (2 * k) % 2 ^ 64
  let b := fun k => Config.powerCut e.t.words (2 * k + 1) % 2 ^ 64
  let minus := dOfInt (-1)
  if e.t.az then (List.range 12).map fun k =>
    ⟨e.t.no, [(e.f, dMul (a k) (unitCos (30 * k))), (e.f + 1, dMul (a k) (unitSin (30 * k))), (e.p, minus)], dNeg (b k)⟩
  else (List.range 6).map fun k => ⟨e.t.no, [(e.f, if k < 3 then a k else dNeg (a k)), (e.p, minus)], dNeg (b k)⟩

/-- The angle from a to b clockwise, in 0 up to 360. -/
def turnTo (a b : Nat) : Nat := wrap360 (dSub b a)

/-- A sector's half-plane: across the edge nearer to ANG, whether ANG lies outside the sector or inside it (R251). -/
def zoneRow (e : Slot) (ang : Nat) (z : Nat × Nat) : GRow :=
  if z.1 = z.2 then ⟨e.t.no, [], plusInf⟩
  else
    let toStart := dMin (turnTo ang z.1) (turnTo z.1 ang)
    let toEnd := dMin (turnTo ang z.2) (turnTo z.2 ang)
    if dLe toStart toEnd then edgeRow e z.1 false else edgeRow e z.2 true

/-- The turning wedge: within max(1°, turning rate × T) of ANG (R252). -/
def wedgeRows (e : Slot) (ang t : Nat) : List GRow :=
  let w := dMax (dOfInt 1) (dMul e.t.turn t)
  [edgeRow e (dAdd ang w) false, edgeRow e (dSub ang w) true]

/-- Every row of G, in the order of the table of R249. -/
def State.gRows (s : State) (a : Nat) (l : List Slot) : List GRow :=
  let az := l.filter (·.t.az)
  let ang := fun (e : Slot) => s.rd (a + 0x100 + 8 * e.t.no) 8
  (az.map hullRows).flatten ++ (l.map cutRows).flatten ++ (az.map fun e => e.t.zones.map (zoneRow e (ang e))).flatten ++
    (az.map fun e => wedgeRows e (ang e) s.periodS).flatten

/-- The rows of E with their right-hand sides: the force balance, scaled to the summed rated thrust and moment, and the section sums. -/
def State.eRows (s : State) (a : Nat) (ts : List Thruster) (k : Nat) : List (List (Nat × Nat) × Nat) :=
  let l := slots ts
  let one := dOfInt 1
  let f0 := forces ts
  let tau := fun i => s.rd (a + 0x10 + 8 * i) 8
  let ft := allThrust ts
  let mt := allMoment ts
  [((l.filter (·.t.az)).map (fun e => (e.f, dDiv e.t.thrust ft)) ++ [(f0, one)], dDiv (tau 0) ft),
   (l.map (fun e => (if e.t.az then e.f + 1 else e.f, dDiv e.t.thrust ft)) ++ [(f0 + 1, one)], dDiv (tau 1) ft),
   ((l.map fun e =>
      let m := fun x => dDiv (dMul x e.t.thrust) mt
      if e.t.az then [(e.f, dNeg (m e.t.y)), (e.f + 1, m e.t.x)] else [(e.f, m e.t.x)]).flatten ++ [(f0 + 2, one)], dDiv (tau 2) mt)] ++
  (List.range k).map fun j => ((l.filter (·.t.sect = j)).map (fun e => (e.p, dNeg (dDiv e.t.power (sectPower ts j)))) ++ [(f0 + 3 + ts.length + j, one)], 0)

/-- What a loss leaves of section j's SEC_KW, an input of the builder at A; one that is not finite and positive counts as 0 (R253). -/
def State.sectKw (s : State) (a : Nat) (loss : Loss) (j : Nat) : Nat :=
  let kw := s.rd (a + 0x28 + 8 * j) 8
  if fpFinite kw && dLt 0 kw then dMul kw (loss.sect.getD j 0) else 0

/-- The bounds of every variable under a loss. -/
def State.allocBounds (s : State) (a : Nat) (ts : List Thruster) (k : Nat) (loss : Loss) : List (Nat × Nat) :=
  let one := dOfInt 1
  let sym := fun x => (dNeg x, x)
  let out := fun (t : Thruster) (b : Nat × Nat) => if loss.thr.contains t.no then (0, 0) else b
  (ts.map fun t =>
    if t.az then [out t (sym one), out t (sym one)]
    else
      let last := dDiv (s.rd (a + 0x208 + 16 * t.no) 8) t.thrust
      let d := dDiv (dMul t.rate s.periodS) t.thrust
      [out t (dMax (dNeg one) (dSub last d), dMin one (dAdd last d))]).flatten ++
  List.replicate 3 (sym (dOfInt 2)) ++ ts.map (fun t => out t (0, one)) ++
  (List.range k).map fun j => (0, dDiv (s.sectKw a loss j) (sectPower ts j))

/-- Write a vector block: SIG from the free variables, the finite rows and the thruster table, then TOL, RHO, f, h, e, lo and hi (R226, R254). -/
def State.putVector (s : State) (d : AzsDesc) (tol rho : Nat) (slack : Nat → Bool) (table f h e : List Nat) (b : List (Nat × Nat)) : State :=
  let free := ((List.range b.length).zip b).filterMap fun x => if slack x.1 then none else some (b2n (dLt x.2.1 x.2.2))
  let sig := Config.sigHash (free ++ h.map (fun x => b2n (fpFinite x)) ++ table)
  s.wrBytes (probBase + d.vec) (bytesLE 4 sig ++ bytesLE 4 tol ++ bytesLE 4 rho ++ bytesLE 4 0 ++
    ((f ++ h ++ e ++ b.map Prod.fst ++ b.map Prod.snd).map (bytesLE 8)).flatten)

/-- Build an allocation problem for a loss beside the base's: its vector block, and with `mat` its matrix block.  A problem whose n, m and p are not
those of the builder's tables receives what the spec does not say. -/
def State.buildAlloc (s : State) (a size : Nat) (d : AzsDesc) (loss : Loss) (mat : Bool) : State :=
  let ts := s.thrusterTable a size
  let k := min 8 (s.rd (a + 4) 4)
  let l := slots ts
  let nf := forces ts
  let n := nf + 3 + ts.length + k
  let g := s.gRows a l
  let e := s.eRows a ts k
  let ws := s.param (a + 0x68) (dOfInt 10000)
  let wd := s.param (a + 0x70) (dOfInt 1)
  let wp := s.param (a + 0x78) (dRat 1 100)
  if d.n ≠ n ∨ d.m ≠ g.length ∨ d.p ≠ e.length then
    let s := if mat then s.storeOpen (probBase + d.mat) d.matSize else s
    s.storeOpen (probBase + d.vec) d.vecSize
  else
    let diag := List.replicate nf wd ++ List.replicate 3 ws ++ List.replicate (ts.length + k) 0
    let rows := ((List.range n).map fun i => [(i, diag.getD i 0)]) ++ g.map (·.row) ++ e.map Prod.fst
    let last := fun (t : Thruster) i => dNeg (dMul wd (dDiv (s.rd (a + 0x200 + 16 * t.no + 8 * i) 8) t.thrust))
    let f := (ts.map fun t => if t.az then [last t 0, last t 1] else [last t 1]).flatten ++ [0, 0, 0] ++ ts.map (fun _ => wp) ++ List.replicate k 0
    let h := g.map fun r => if loss.thr.contains r.no then plusInf else r.h
    let t := if mat then s.wrBytes (probBase + d.mat) (((rows.map (rowWords n)).flatten.map (bytesLE 8)).flatten) else s
    t.putVector d (s.rd (a + 0xC0) 4) (s.rd (a + 0xC4) 4) (fun i => decide (nf ≤ i ∧ i < nf + 3)) (ts.map (·.words)).flatten f h
      (e.map Prod.snd) (s.allocBounds a ts k loss)

/-- CA_EN of an AXES word. -/
def axesCa (w : Nat) : Bool := decide (w / 2 ^ 10 % 2 = 1)

/-- `DP_ALLOCB` at A, for the scenario its parameters name.  Scenarios are built while CA_EN is 1; the library does not build a KIND 5 entry (R133,
R247). -/
def State.libAllocb (s : State) (c a size : Nat) : State :=
  let k := s.rd a 4
  let w := s.scen k
  let ts := s.thrusterTable a size
  let ca := axesCa (s.rd (a + 0xC8) 4)
  let loss := s.builtLoss a ts ca k
  let t := if k = 0 then s.absorb c a ts else s
  match tget? s.azs.table (scenAlloc w) with
  | some d =>
    if scenEn w && decide (scenKind w ≠ 5) && (decide (k = 0) || ca) then
      ((t.buildAlloc a size d loss (decide (k = 0))).stage (scenAlloc w) d).2
    else t
  | none => t

/-! ## The predictive problem (R268) -/

/-- The allocation builder of entry 0: its place and size. -/
def State.nominalBuilder (s : State) : Option (Nat × Nat) :=
  (s.typed.find? fun x => decide (libOf x.2.2 = some .allocb) && decide (s.rd (instBase + x.2.1.base) 4 = 0)).map fun x =>
    (instBase + x.2.1.base, x.2.2.size)

/-- The starting state: ETA_REL, NU and BIAS of the observer. -/
def State.predStart (s : State) : List Nat :=
  match s.libInst .observer with
  | some o => s.wordsAt (o + 0x48) 3 ++ s.wordsAt (o + 0x18) 6
  | none => List.replicate 9 0

/-- SP_NOW of the controller. -/
def State.spNow (s : State) : List Nat :=
  match s.libInst .control with
  | some a => s.wordsAt (a + 0x48) 3
  | none => [0, 0, 0]

/-- The variables that row i of G takes (R268), variable 3t + a being axis a (surge, sway, yaw) of step t: four corners of the surge–sway box and the
coupling of sway with yaw at each step, then the surge and sway rates of the first 10 steps, from the step before on, then the three
terminal speeds, which every force moves.  That the rows stand in the order in which the rule names them is the model's choice (assumption
log 70). -/
def predTakes (i j : Nat) : Bool :=
  if i < 150 then decide (j / 3 = i / 5) && (if i % 5 < 4 then decide (j % 3 < 2) else decide (0 < j % 3))
  else if i < 170 then
    let t := (i - 150) / 2
    decide (j % 3 = (i - 150) % 2) && (decide (j / 3 = t) || decide (j / 3 + 1 = t))
  else true

/-- The words of the matrix block: H, which is symmetric, then the rows of G; a variable that a row does not take has the coefficient 0. -/
def predMatrix (inp : List Nat) : List Nat :=
  ((List.range 90).map fun i => (List.range 90).map fun j => Config.predMat inp (90 * min i j + max i j) % 2 ^ 64).flatten ++
    ((List.range 173).map fun i => (List.range 90).map fun j =>
      if predTakes i j then Config.predMat inp (8100 + 90 * i + j) % 2 ^ 64 else 0).flatten

/-- Build a predictive problem of the builder at A for scenario k: 90 variables and 173 rows.  The hull that the thrusters and powers left give is
one for all steps: h of the corner and coupling rows, lo and hi. -/
def State.buildPred (s : State) (a : Nat) (d : AzsDesc) (k : Nat) (mat : Bool) : State :=
  let (b, size) := s.nominalBuilder.getD (0, 0)
  let ts := s.thrusterTable b size
  let loss := s.builtLoss b ts true k
  let model := s.wordsAt (a + 0x10) 1022
  let table := (ts.map (·.words)).flatten
  if d.n ≠ 90 ∨ d.m ≠ 173 ∨ d.p ≠ 0 then
    let s := if mat then s.storeOpen (probBase + d.mat) d.matSize else s
    s.storeOpen (probBase + d.vec) d.vecSize
  else
    let kept := ts.filter fun t => !loss.thr.contains t.no
    let hull := Config.predHull ((kept.map (·.words)).flatten ++ (List.range 8).map (s.sectKw b loss))
    let vIn := model ++ s.predStart ++ s.spNow
    let at' := fun i => Config.predVec vIn i % 2 ^ 64
    let h := (List.range 173).map fun i => if i < 150 then hull (i % 5) % 2 ^ 64 else at' (90 + i)
    let box := (List.range 90).map fun j => (hull (5 + j % 3) % 2 ^ 64, hull (8 + j % 3) % 2 ^ 64)
    let t := if mat then s.wrBytes (probBase + d.mat) ((predMatrix (model ++ table ++ [s.predStart.getD 2 0])).map (bytesLE 8)).flatten else s
    t.putVector d (s.rd (a + 8) 4) (s.rd (a + 0xC) 4) (fun _ => false) (kept.map (·.no) ++ table) ((List.range 90).map at') h [] box

/-- `DP_PREDB` at A, while CA_EN is 1. -/
def State.libPredb (s : State) (a : Nat) : State :=
  let k := s.rd a 4
  let w := s.scen k
  match tget? s.azs.table (scenPred w) with
  | some d =>
    if scenEn w && scenPredEn w && decide (scenKind w ≠ 5) && axesCa (s.rd (a + 4) 4) then ((s.buildPred a d k (decide (k = 0))).stage (scenPred w) d).2
    else s
  | none => s

/-! ## The plan (R134, R255, R266) -/

/-- The record of an entry's allocation problem is usable in this tick (R266). -/
def State.planOk (s : State) (k : Nat) : Bool :=
  match tget? s.azs.table (scenAlloc (s.scen k)) with
  | some d => decide (s.rd (d.recAt (s.curRec d) + 8) 8 = s.tickNo) && decide (s.recStatus d / 2 ^ 30 % 2 = 1)
  | none => false

/-- x of the current record of an entry's allocation problem. -/
def State.planX (s : State) (k : Nat) : List Nat :=
  match tget? s.azs.table (scenAlloc (s.scen k)) with
  | some d => s.wordsAt (d.recAt (s.curRec d) + 32) d.n
  | none => []

/-- Surge and sway force of a thruster in x. -/
def slotForce (x : List Nat) (e : Slot) : Nat × Nat :=
  let v := fun i => dMul (x.getD i 0) e.t.thrust
  if e.t.az then (v e.f, v (e.f + 1)) else (0, v e.f)

/-- Three slacks or deficits against SAT_TOL (R255). -/
def State.saturated (s : State) (a : Nat) (ts : List Thruster) (l : List Nat) : Bool :=
  let part := fun x => dDiv x (dOfInt 100)
  let tol := [s.param (a + 0x18) (part (allThrust ts)), s.param (a + 0x20) (part (allThrust ts)), s.param (a + 0x28) (part (allMoment ts))]
  (l.zip tol).any fun e => dLt e.2 (dAbs e.1)

/-- The slacks of x in kN and kNm. -/
def slackOf (ts : List Thruster) (x : List Nat) : List Nat :=
  let f := forces ts
  [dMul (x.getD f 0) (allThrust ts), dMul (x.getD (f + 1) 0) (allThrust ts), dMul (x.getD (f + 2) 0) (allMoment ts)]

/-- What a plan of forces lacks of TAU, the input of the builder at b. -/
def State.deficit (s : State) (b : Nat) (l : List (Thruster × Nat × Nat)) : List Nat :=
  let tau := fun i => s.rd (b + 0x10 + 8 * i) 8
  [dSub (tau 0) (dSum (l.map fun e => e.2.1)), dSub (tau 1) (dSum (l.map fun e => e.2.2)),
   dSub (tau 2) (dSum (l.map fun e => dSub (dMul e.1.x e.2.2) (dMul e.1.y e.2.1)))]

/-- The forces of the plan that this Settle composes, which are released with its set (R266). -/
def State.notePlan (s : State) (l : List (Thruster × Nat × Nat)) : State :=
  { s with shd := { s.shd with plan := l.foldl (fun t e => tput t e.1.no e.2) [] } }

/-- A plan's outputs: each thruster's forces, angle and magnitude. -/
def State.putPlan (s : State) (a : Nat) (l : List (Thruster × Nat × Nat)) : State :=
  l.foldl (fun s e => s.putWords (a + 0x100 + 32 * e.1.no) [e.2.1, e.2.2, Config.atan2Deg e.2.2 e.2.1, dHyp e.2.1 e.2.2]) (s.notePlan l)

/-- The plan of this Settle and its flags.  In Standby every force is 0 and every angle stays; else the plan of ACTIVE, or with PLAN_DEGRADED the nominal
one without the scenario's thrusters, or with PLAN_HELD the one released last without them (R266): a thruster that no released plan names since
the last start has force 0. -/
def State.compose (s : State) (c a : Nat) : State :=
  let (b, size) := s.nominalBuilder.getD (0, 0)
  let ts := s.thrusterTable b size
  let k := s.f F.SHD_ACTIVE_ACTIVE
  let sat := s.saturated a ts (slackOf ts (s.planX 0))
  if s.rd (a + 4) 4 % 64 = 0 then
    (ts.foldl (fun s t =>
      (s.putWords (a + 0x100 + 32 * t.no) [0, 0]).ctxStore (a + 0x118 + 32 * t.no) 8 0) (s.notePlan (ts.map fun t => (t, 0, 0)))).ctxStore a 4
        (b2n sat + 4)
  else
    let from' := fun (x : List Nat) => (slots ts).map fun e => (e.t, slotForce x e)
    let lost := (s.lossOf b ts (scenLoss (s.scen k))).thr
    let cut := fun (l : List (Thruster × Nat × Nat)) => l.map fun e => if lost.contains e.1.no then (e.1, 0, 0) else e
    if s.planOk k then
      (s.putPlan a (from' (s.planX k))).ctxStore a 4 (b2n sat + 2 * b2n (s.saturated a ts (slackOf ts (s.planX k))))
    else
      let held := !s.planOk 0
      let l := cut (if held then ts.map fun t => (t, tget (0, 0) s.shd.released t.no) else from' (s.planX 0))
      ((s.putPlan a l).ctxStore a 4 (b2n sat + 2 * b2n (s.saturated a ts (s.deficit b l)) + 8 + 16 * b2n held)).libEvent c

/-! ## The worst-shadow excursion (R269, R270) -/

/-- Losing the reference group of a KIND 4 entry would leave fewer than two valid position references. -/
def State.drifts (s : State) (a : Nat) (w : Word) : Bool :=
  let valid := s.rd (resultAt s.tickNo + 0xC) 4
  let group := s.rd (a + 0x30 + scenParam w % 8) 1
  decide (scenKind w = 4) && decide (((List.range 8).filter fun n => decide (valid / 2 ^ n % 2 = 1 ∧ group / 2 ^ n % 2 = 0)).length < 2)

/-- The two figures of entry k from its predictive x. -/
def State.figures (s : State) (a k : Nat) (x : List Nat) : Nat × Nat :=
  let at' := Config.trajectory (s.predStart ++ x)
  let sp := s.spNow
  let acc := s.param (a + 0x810 + 32 * k) (dRat 1 500)
  (List.range 30).foldl (fun r i =>
    let t := i + 1
    let v := fun j => at' (3 * t + j) % 2 ^ 64
    let dist := dHyp (dSub (v 0) (sp.getD 0 0)) (dSub (v 1) (sp.getD 1 0))
    let dist := if s.drifts a (s.scen k) then dAdd dist (dMul (dMul (dRat 1 2) acc) (dOfInt (t * t))) else dist
    (dMax r.1 dist, dMax r.2 (dAbs (angleDiff (v 2) (sp.getD 2 0))))) (0, 0)

/-- The predictive records that became final in this tick are read. -/
def State.readPredictions (s : State) (a size : Nat) : State :=
  (List.range (min (s.scenMax + 1) (LibBlock.conseq.items size))).foldl (fun s k =>
    let w := s.scen k
    match tget? s.azs.table (scenPred w) with
    | some d =>
      let r := d.recAt (s.curRec d)
      if scenEn w && scenPredEn w && decide (s.rd (r + 8) 8 = s.tickNo) then
        let f := s.figures a k (s.wordsAt (r + 32) d.n)
        s.putWords (a + 0x800 + 32 * k) [f.1, f.2]
      else s
    | none => s) s

/-- Entry k's predictive record counts in the worst-shadow excursion (R270): its solved tick is its final tick less its solved delta (R227). -/
def State.excursionOk (s : State) (k : Nat) : Bool :=
  let w := s.scen k
  scenPredEn w && (match tget? s.azs.table (scenPred w) with
    | some d =>
      let r := d.recAt (s.curRec d)
      decide (s.recStatus d / 2 ^ 30 % 2 = 1) && decide (s.shd.genTick ≤ s.rd (r + 8) 8 - s.rd (r + 0x1C) 4)
    | none => false)

/-- The largest figure of a list of entries and its entry; 0 where there is none. -/
def worstFigure (l : List (Nat × Nat)) : Nat × Nat := l.foldl (fun b e => if dLt b.2 e.2 then e else b) (0, 0)

/-- The worst-shadow excursion is published in ticks whose number mod 8 is 7. -/
def State.publishExcursion (s : State) (c a : Nat) : State :=
  if s.tickNo % 8 = 7 then
    let m := coreMaster (s.coreOf c)
    let counted := (List.range (s.scenMax + 1)).filter fun k => decide (k ≠ 0) && scenEn (s.scen k) && !s.inBase k
    let known := counted.filter s.excursionOk
    let fig := fun (o k : Nat) => s.rd (a + 0x800 + 32 * k + o) 8
    let pos := worstFigure (known.map fun k => (k, fig 0 k))
    let hdg := worstFigure (known.map fun k => (k, fig 8 k))
    let cap := fun (x : Nat) (scale : Int) (top : Int) => (wholeOf x (dOfInt scale) 0 top).toNat
    let info := 2 ^ 31 + (if counted.all s.excursionOk then 0 else 2 ^ 30) + cap (fig 0 0) 100 0xFFFF * 2 ^ 14 + hdg.1 * 2 ^ 8 + pos.1
    ((s.busWrite m R.SHD_WSE_POS (BitVec.ofNat 32 (cap pos.2 1000 0xFFFFFFFF))).busWrite m R.SHD_WSE_HDG
      (BitVec.ofNat 32 (cap (fig 8 0) 100 0xFFFF * 2 ^ 16 + cap hdg.2 100 0xFFFF))).busWrite m R.SHD_WSE_INFO (BitVec.ofNat 32 info)
  else s

/-! ## Consequences (R264, R265) -/

/-- In the first Settle after a restore the stored base is written with SCEN 0, with the losses of a stored ACTIVE (R265). -/
def State.restoreBase (s : State) (c a : Nat) : State :=
  let (b, size) := s.nominalBuilder.getD (0, 0)
  let ts := s.thrusterTable b size
  let k := s.rd (a + 0x10) 4
  let base := s.rd (a + 8) 8
  let keep := (List.range 64).filter fun i => decide (base / 2 ^ i % 2 = 1) || (decide (k ≠ 0) && decide (i = k))
  let set := s.absorbSet b ts (s.lossWith b ts (2 ^ 32 - 1) keep) keep
  ((s.ctxStore (a + 8) 8 set).ctxStore (a + 0x10) 4 0).writeRebase c 0 set

/-- The base and ACTIVE in force are stored. -/
def State.storeBase (s : State) (a : Nat) : State :=
  (s.ctxStore (a + 8) 8 (bitSum s.baseList)).ctxStore (a + 0x10) 4 (s.f F.SHD_ACTIVE_ACTIVE)

/-- `DP_CONSEQ` at A: ARM takes CA_EN; the base; the plan; the excursion. -/
def State.libConseq (s : State) (c a size : Nat) (first : Bool) : State :=
  let ca := b2n (axesCa (s.rd (a + 4) 4))
  let s := s.busWrite (coreMaster (s.coreOf c)) R.SHD_CTRL (withBits (s.reg R.SHD_CTRL) 0 0 ca)
  let s := if first ∧ s.prg.started ≠ .cold then s.restoreBase c a else s.storeBase a
  ((s.compose c a).readPredictions a size).publishExcursion c a

/-! ## The call -/

/-- The body of a library block's instance of identity i at base b of instance data, run by context c. -/
def State.libRun (s : State) (c : Nat) (b : LibBlock) (i base size : Nat) : State :=
  let a := instBase + base
  let first := s.cml.libNew.contains i
  let s := { s with cml := { s.cml with libNew := s.cml.libNew.filter (· ≠ i) } }
  match b with
  | .modeseq => s.libModeseq c a first
  | .observer => s.libObserver c a first
  | .control => s.libControl a
  | .alarm => s.libAlarm c a size
  | .allocb => s.libAllocb c a size
  | .predb => s.libPredb a
  | .conseq => s.libConseq c a size first

end Sys2Proof.Machine
end

