-- ==== Sys2Proof/Machine/CumelFb.lean ====
section
/-!
DEFINITION. Machine/CumelFb.lean: function-block calls, timers and edge detectors, substitute reads, solver, Prism and checkpoint
instructions, and breakpoints (R162 to R176, R181, R186).
-/
namespace Sys2Proof.Machine

/-! ## Calls (R162, R163) -/

/-- Call instance n inside a body: the frame is pushed, and a library block does its work (assumption log 38). -/
def State.call (s : State) (c : Ctx) (n : Int) : Ran :=
  let k := c.toNat
  match s.instOf n with
  | none => .exc .inst
  | some (e, t) =>
    let dep := s.depth k
    if 220 ≤ dep then .exc .linkOvf
    else
      let a := frameAt k dep
      let s := (((s.wr a 4 (s.pc k)).wr (a + 4) 4 (s.ib k)).wr (a + 8) 4 (s.tb k)).wr (a + 12) 4 0
      let s := (((s.setDepth k (dep + 1)).setIb k e.base).setTb k e.type).setPc k t.entry
      match libOf t with
      | some b => .ok (s.libRun k b e.ident e.base t.size)
      | none => .ok s

/-- The signed sum of a register and idx16. -/
def State.sumIdx (s : State) (c : Ctx) (r : RegNo) (idx : Half) : Int := (s.wr_ c r).toInt + idx.toNat

/-- FBCALL (R162). -/
def execFbcall (c : Ctx) (fa _fb : RegNo) (idx : Half) (s : State) : Host.Outcome State Fault Refusal :=
  .next (s.run c.toNat fun s => if fa ≠ 0 then .exc .illegal else s.call c idx.toNat)

/-- FBCALLR (R162). -/
def execFbcallr (c : Ctx) (fa fb : RegNo) (idx : Half) (s : State) : Host.Outcome State Fault Refusal :=
  .next (s.run c.toNat fun s => if fa ≠ 0 then .exc .illegal else s.call c (s.sumIdx c fb idx))

/-- `FBRET` inside a body: the frame is popped. -/
def State.ret (s : State) (c : Ctx) : Ran :=
  let k := c.toNat
  let dep := s.depth k
  if dep = 0 then .exc .linkUnf
  else
    let a := frameAt k (dep - 1)
    .ok ((((s.setDepth k (dep - 1)).setPc k (s.rd a 4)).setIb k (s.rd (a + 4) 4)).setTb k (s.rd (a + 8) 4))

/-- FBRET (R162). -/
def execFbret (c : Ctx) (fa fb : RegNo) (_idx : Half) (s : State) : Host.Outcome State Fault Refusal :=
  .next (s.run c.toNat fun s => if fa ≠ 0 ∨ fb ≠ 0 then .exc .illegal else s.ret c)

/-- INSTA (R163). -/
def execInsta (c : Ctx) (fa fb : RegNo) (idx : Half) (s : State) : Host.Outcome State Fault Refusal :=
  .next (s.run c.toNat fun s =>
    match s.instOf (s.sumIdx c fb idx) with
    | none => .exc .inst
    | some (e, _) => .ok (s.setW c.toNat fa.toNat (BitVec.ofNat 64 (instBase + e.base))))

/-! ## Timers and edge detectors (R165 to R169) -/

/-- A timer record's ET, Q and RUN. -/
structure Timer where
  et : Nat
  q : Bool
  run : Bool
deriving DecidableEq, Repr

/-- One execution of a timer (R166): mode, preset, period, whether the stamp is new, IN and IN_PREV. -/
def Timer.step (t : Timer) (mode pt p : Nat) (adv inp prev : Bool) : Timer :=
  let rise := inp && !prev
  let fall := prev && !inp
  let on := min (t.et + p) pt
  match mode with
  | 1 =>
    let t : Timer := if inp then ⟨0, true, false⟩ else if fall then { t with run := t.q } else if t.run && adv then { t with et := on } else t
    if !inp && t.run && decide (pt ≤ t.et) then { t with run := false, q := false } else t
  | 2 =>
    let t : Timer := if rise && !t.run then { t with run := true, et := 0 } else if t.run && adv then { t with et := on } else t
    let t : Timer := if t.run && decide (pt ≤ t.et) then { t with run := false } else t
    let t : Timer := if !t.run && !inp then { t with et := 0 } else t
    { t with q := t.run }
  | _ =>
    let et := if !inp then 0 else if adv && !rise then on else t.et
    { t with et := et, q := inp && decide (pt ≤ et) }

/-- TMR (R166). -/
def execTmr (c : Ctx) (fa fb : RegNo) (idx : Half) (s : State) : Host.Outcome State Fault Refusal :=
  .next (s.run c.toNat fun s =>
    let k := c.toNat
    match s.instAddr k (s.ib k + idx.toNat : Nat) 24 8 with
    | .inl e => .exc e
    | .inr a =>
      let inp := (s.wr_ c fa).getLsbD 0
      let st := s.byte (a + 0x11)
      let now := s.special k 8
      let pt := s.rd a 4
      let t := Timer.step ⟨s.rd (a + 4) 4, st.getLsbD 0, st.getLsbD 2⟩ (s.byte (a + 0x10)).toNat pt (s.taskPeriod k)
        (decide (s.rd (a + 8) 8 ≠ now)) inp (st.getLsbD 1)
      let s := (s.ctxStore (a + 4) 4 t.et).ctxStore (a + 8) 8 now
      let s := s.ctxStore (a + 0x11) 7 (b2n t.q + 2 * b2n inp + 4 * b2n t.run)
      .ok (s.setW k fb.toNat (if t.q then 1 else 0)))

/-- EDGE (R169). -/
def execEdge (c : Ctx) (fa fb : RegNo) (idx : Half) (s : State) : Host.Outcome State Fault Refusal :=
  .next (s.run c.toNat fun s =>
    let k := c.toNat
    match s.instAddr k (s.ib k + idx.toNat : Nat) 1 1 with
    | .inl e => .exc e
    | .inr a =>
      let inp := (s.wr_ c fb).getLsbD 0
      let r := s.byte a
      let v : Dword := if r.getLsbD 7 then 0 else if inp && !r.getLsbD 0 then 1 else if r.getLsbD 0 && !inp then 2 else 0
      .ok ((s.ctxStore a 1 (b2n inp)).setW k fa.toNat v))

/-! ## Substitute reads (R171, R172) -/

/-- A point descriptor (R171). -/
structure Point where
  kind : Nat
  type : Nat
  policy : Nat
  enabled : Bool
  off : Nat
  unit : Nat
  limit : Nat
  held : Nat
  safe : Nat

def State.pointAt (s : State) (a : Nat) : Point :=
  { kind := s.rd a 1, type := s.rd (a + 1) 1, policy := s.rd (a + 2) 1, enabled := s.rd (a + 3) 1 % 2 = 1, off := s.rd (a + 4) 4,
    unit := s.rd (a + 8) 4, limit := s.rd (a + 0xC) 2, held := s.rd (a + 0x10) 8, safe := s.rd (a + 0x18) 8 }

/-- The source unit exists on some variant. -/
def Point.unitOk (p : Point) : Bool :=
  match p.kind with
  | 0 => true
  | 1 => p.unit ≤ 7
  | 2 => p.unit ≤ 31
  | 3 => p.unit ≤ 27
  | _ => p.unit ≤ 47

/-- No condition of POINT holds of the descriptor. -/
def Point.ok (p : Point) : Bool := p.kind ≤ 4 && p.type ≤ 5 && p.policy ≤ 2 && p.unitOk

/-- Where a point's source area starts and the key of its refreshes; none for a station that no entry names, and for a GPIO. -/
def State.pointSource (s : State) (p : Point) : Option (Nat × Nat) :=
  match p.kind with
  | 0 => (s.grzEntry p.unit).map fun n => (s.grzIn n, pointKey 0 n)
  | 1 =>
    let r := s.canReg p.unit
    some (s.canRam r, pointKey 1 (if 0xA00 ≤ p.off ∧ p.off < 0x1400 then 64 * r + (p.off - 0xA00) / 0x50 else 0xFFFF))
  | 2 => some (s.listenArea p.unit, pointKey 2 p.unit)
  | 3 => some (s.serArea p.unit, pointKey 3 p.unit)
  | _ => some (0, pointKey 4 p.unit)

/-- The descriptor at A as it stood at the Strobe. -/
def State.strobePoint (s : State) (a : Nat) : Point := { s with mem := s.points.table }.pointAt a

/-- The unit is marked failed, as it stood at the Strobe. -/
def State.pointFailed (s : State) (p : Point) (key : Nat) : Bool :=
  s.points.failed.contains (match p.kind with | 1 => pointKey 1 (s.canReg p.unit) | _ => key)

/-- The point's health as it stood at the Strobe (R172). -/
def State.pointHealthy (s : State) (p : Point) : Bool :=
  match s.pointSource p with
  | none => false
  | some (_, key) =>
    p.enabled && !s.pointFailed p key &&
    (decide (p.limit = 0) || (match tget? s.points.seen key with
      | some r => decide (s.tickNo - r ≤ p.limit)
      | none => false))

/-- A source value as its data type reads it. -/
def asType (type : Nat) (v : Nat) : Dword :=
  match type with
  | 0 => if v = 0 then 0 else 1
  | 1 => (BitVec.ofNat 16 v).signExtend 64
  | 2 => (BitVec.ofNat 32 v).signExtend 64
  | 4 => BitVec.ofNat 64 (widen v)
  | _ => BitVec.ofNat 64 v

/-- Bytes of a data type. -/
def typeSize (type : Nat) : Nat :=
  match type with
  | 0 => 1
  | 1 => 2
  | 2 => 4
  | 4 => 4
  | _ => 8

/-- The live value.  A level read as an FP type is left open by the spec. -/
def State.pointLive (s : State) (p : Point) : Dword × State :=
  if p.kind = 4 then
    if p.type ≤ 3 then (if s.bit R.LOOP_GPIO_IN_LO p.unit then 1 else 0, s)
    else
      let (v, s) := s.draw (2 ^ 64)
      (BitVec.ofNat 64 v, s)
  else
    match s.pointSource p with
    | some (a, _) => (asType p.type (s.rd (a + p.off) (typeSize p.type)), s)
    | none => (0, s)

/-- Point n of the table, read by `SUBST`: value, quality, and the state with the held value brought up to date. -/
def State.pointRead (s : State) (n a : Nat) : Dword × Nat × State :=
  let p := s.pointAt a
  if s.pointHealthy (s.strobePoint a) then
    let (v, s) := s.pointLive p
    let s := { s with cml := { s.cml with good := addTo s.cml.good n } }
    (v, 0, if p.policy = 1 then s else s.wr (a + 0x10) 8 v.toNat)
  else if s.cml.good.contains n = false then (BitVec.ofNat 64 p.held, 4, s)
  else match p.policy with
    | 0 => (BitVec.ofNat 64 p.held, 1, s)
    | 1 => (BitVec.ofNat 64 p.held, 2, s)
    | _ => (BitVec.ofNat 64 p.safe, 3, s)

/-- SUBST (R172). -/
def execSubst (c : Ctx) (fa fb : RegNo) (idx : Half) (s : State) : Host.Outcome State Fault Refusal :=
  .next (s.run c.toNat fun s =>
    if fa.toNat % 2 = 1 then .exc .illegal
    else
      let base := s.f F.CML_PTBASE_BASE / 16 * 16
      let count := min 16384 (s.f F.CML_PTCNT_COUNT)
      let n := s.sumIdx c fb idx
      if n < 0 ∨ (count : Int) ≤ n ∨ 0x300000 < base + 32 * count then .exc .point
      else
        let a := scratchBase + base + 32 * n.toNat
        if (s.pointAt a).ok = false then .exc .point
        else
          let (v, q, s) := s.pointRead n.toNat a
          .ok ((s.setW c.toNat fa.toNat v).setW c.toNat (fa.toNat + 1) (BitVec.ofNat 64 q)))

/-! ## Solver instructions (R173) -/

/-- An admitted problem by its number. -/
def State.admitted (s : State) (n : Int) : Option (Nat × AzsDesc) :=
  if n < 0 then none else (tget? s.azs.table n.toNat).map fun d => (n.toNat, d)

/-- SLV (R173). -/
def execSlv (c : Ctx) (fa fb : RegNo) (idx : Half) (s : State) : Host.Outcome State Fault Refusal :=
  .next (s.run c.toNat fun s =>
    match s.admitted (s.sumIdx c fb idx) with
    | none => .exc .problem
    | some (q, d) =>
      let (v, s) := s.stage q d
      .ok (s.setW c.toNat fa.toNat (BitVec.ofNat 64 v)))

/-- The context blocks at the instruction whose body runs. -/
def State.block (s : State) (c : Nat) (prq : Bool) (fa fb : RegNo) (idx : Nat) : Ran :=
  let s := s.setPc c (s.here c)
  .ok (({ s with cml := { s.cml with blocked := tput s.cml.blocked c (prq, fa.toNat, fb.toNat, idx) } }.modAct c ({ · with wait := .io })).sched)

/-- `SLVW` inside a body. -/
def State.slvw (s : State) (c : Ctx) (fa fb : RegNo) (idx : Half) : Ran :=
  match s.admitted (s.sumIdx c fb idx) with
  | none => .exc .problem
  | some (q, d) =>
    if s.slvwBlocks q then s.block c.toNat false fa fb idx.toNat
    else .ok (s.setW c.toNat fa.toNat (BitVec.ofNat 64 (s.slvwWord q d)))

/-- SLVW (R173). -/
def execSlvw (c : Ctx) (fa fb : RegNo) (idx : Half) (s : State) : Host.Outcome State Fault Refusal :=
  .next (s.run c.toNat fun s => s.slvw c fa fb idx)

/-- SLVR (R173). -/
def execSlvr (c : Ctx) (fa fb : RegNo) (idx : Half) (s : State) : Host.Outcome State Fault Refusal :=
  .next (s.run c.toNat fun s =>
    match s.admitted idx.toNat with
    | none => .exc .problem
    | some (_, d) =>
      match s.instAddr c.toNat (s.ib c.toNat + (s.wr_ c fb).toInt) d.recSize 1 with
      | .inl e => .exc e
      | .inr a =>
        let st := s.recStatus d
        .ok ((s.ctxCopy a (s.rdBytes (d.recAt (s.curRec d)) d.recSize)).setW c.toNat fa.toNat (BitVec.ofNat 64 st)))

/-! ## The Prism result and checkpoint marks (R175, R176) -/

/-- `PRQ` inside a body, idx16 given: a stall before 0.6 ms, else the copy. -/
def State.prq (s : State) (c : Ctx) (fa fb : RegNo) (idx : Half) : Ran :=
  if idx.toNat % 16 ≠ 0 then .exc .illegal
  else if s.offsetUs < 600 then s.block c.toNat true fa fb idx.toNat
  else
    let l := idx.toNat / 1024
    let start := idx.toNat / 16 % 64
    let units := min (if l = 0 then 64 else l) (64 - start)
    match s.instAddr c.toNat (s.ib c.toNat + (s.wr_ c fb).toInt) (16 * units) 1 with
    | .inl e => .exc e
    | .inr a =>
      let r := resultAt s.tickNo
      .ok ((s.ctxCopy a (s.rdBytes (r + 16 * start) (16 * units))).setW c.toNat fa.toNat (BitVec.ofNat 64 (s.rd r 4)))

/-- PRQ (R175). -/
def execPrq (c : Ctx) (fa fb : RegNo) (idx : Half) (s : State) : Host.Outcome State Fault Refusal :=
  .next (s.run c.toNat fun s => s.prq c fa fb idx)

/-- A blocked context goes on with the instruction it stands at, whose block is over. -/
def State.unblock (s : State) (c : Ctx) (prq : Bool) : State :=
  match tget? s.cml.blocked c.toNat with
  | some (p, fa, fb, idx) =>
    if p ≠ prq then s
    else
      let t := ({ s with cml := { s.cml with blocked := tdel s.cml.blocked c.toNat } }.modAct c.toNat ({ · with wait := .no })).sched
      let fa := BitVec.ofNat 5 fa
      let fb := BitVec.ofNat 5 fb
      let idx := BitVec.ofNat 16 idx
      t.run c.toNat fun u => if p then u.prq c fa fb idx else u.slvw c fa fb idx
  | none => s

/-- PRQ_STALL_END: the result is ready (R29, R175). -/
def execPrqStallEnd (c : Ctx) (s : State) : Host.Outcome State Fault Refusal :=
  .next (if s.offsetUs < 600 then s else s.unblock c true)

/-- The problem that a context blocked in `SLVW` waits for is final, or 0.70 T has come (R173). -/
def State.slvwDone (s : State) (c : Ctx) : Bool :=
  match tget? s.cml.blocked c.toNat with
  | some (false, _, fb, idx) => !s.slvwBlocks (s.sumIdx c (BitVec.ofNat 5 fb) (BitVec.ofNat 16 idx)).toNat
  | _ => false

/-- SLVW_UNBLOCK. -/
def execSlvwUnblock (c : Ctx) (s : State) : Host.Outcome State Fault Refusal :=
  .next (if s.slvwDone c then s.unblock c false else s)

/-- `CHK` marks page p dirty, and a page of scratch relevant. -/
def State.chkPage (s : State) (p : Nat) : State :=
  let s := if p < 1024 then s else { s with cml := { s.cml with relevant := addTo s.cml.relevant p } }
  s.markDirty p

/-- CHK (R176). -/
def execChk (c : Ctx) (fa fb : RegNo) (idx : Half) (s : State) : Host.Outcome State Fault Refusal :=
  .next (s.run c.toNat fun s =>
    let a := (s.wr_ c fa).toNat + idx.toNat
    let n := (s.wr_ c fb).toNat
    .ok (((List.range 1792).filter fun p => decide (n ≠ 0 ∧ a < pageAddr p + 4096 ∧ pageAddr p < a + n)).foldl (·.chkPage ·) s))

/-! ## The end of a scan, and breakpoints (R181, R186) -/

/-- SCANEND (R181). -/
def execScanend (c : Ctx) (_fa _fb : RegNo) (_idx : Half) (s : State) : Host.Outcome State Fault Refusal :=
  .next (s.run c.toNat fun s => .ok (s.endAct c.toNat true).sched)

/-- In Hold a task context that was not just resumed can be suspended. -/
def State.breaks (s : State) (c : Nat) : Bool :=
  decide (s.mode = .hold ∧ c ≠ 255) && (match s.act? c with | some a => !a.skip | none => false) && !s.suspended c

/-- Suspend a context before its instruction. -/
def State.breakAt (s : State) (c : Nat) : State := (s.put (F.CML_TSTAT_STATE c) 4).sched

/-- BRK (R186). -/
def execBrk (c : Ctx) (_fa _fb : RegNo) (_idx : Half) (s : State) : Host.Outcome State Fault Refusal :=
  .next (if (s.fetchExc c.toNat).isNone && s.breaks c.toNat then s.breakAt c.toNat else s.run c.toNat .ok)

/-- Breakpoint n is enabled and names the context and its PC. -/
def State.breakpointHits (s : State) (c n : Nat) : Bool :=
  s.b (F.CML_BP_EN n) && decide (s.f (F.CML_BP_PC n) / 4 * 4 = s.pc c) &&
  (decide (s.f (F.CML_BP_CTX n) = 255) || decide (s.f (F.CML_BP_CTX n) = c))

/-- BREAKPOINT_HIT: a context about to execute an instruction at an enabled breakpoint. -/
def execBreakpointHit (c : Ctx) (s : State) : Host.Outcome State Fault Refusal :=
  .next (if s.breaks c.toNat && (List.range 8).any (s.breakpointHits c.toNat) then s.breakAt c.toNat else s)

end Sys2Proof.Machine
end

