-- ==== Sys2Proof/Machine/CumelFp.lean ====
section
/-!
DEFINITION. Machine/CumelFp.lean: the floating-point operations of the Cumel cores (R148, R155).
-/
namespace Sys2Proof.Machine

/-- An FP operation on two registers. -/
def State.fpOp (s : State) (c : Ctx) (rd rs1 rs2 : RegNo) (g : Nat → Nat → FpRes) : State :=
  s.runD c rd fun s => g (s.dr c rs1) (s.dr c rs2)

/-- FADD (R155). -/
def execFadd (c : Ctx) (rd rs1 rs2 : RegNo) (s : State) : Host.Outcome State Fault Refusal :=
  .next (s.fpOp c rd rs1 rs2 f64.add)

/-- FSUB (R155). -/
def execFsub (c : Ctx) (rd rs1 rs2 : RegNo) (s : State) : Host.Outcome State Fault Refusal :=
  .next (s.fpOp c rd rs1 rs2 f64.sub)

/-- FMUL (R155). -/
def execFmul (c : Ctx) (rd rs1 rs2 : RegNo) (s : State) : Host.Outcome State Fault Refusal :=
  .next (s.fpOp c rd rs1 rs2 f64.mul)

/-- FDIV (R155). -/
def execFdiv (c : Ctx) (rd rs1 rs2 : RegNo) (s : State) : Host.Outcome State Fault Refusal :=
  .next (s.fpOp c rd rs1 rs2 f64.div)

/-- FMIN (R155). -/
def execFmin (c : Ctx) (rd rs1 rs2 : RegNo) (s : State) : Host.Outcome State Fault Refusal :=
  .next (s.fpOp c rd rs1 rs2 f64.min)

/-- FMAX (R155). -/
def execFmax (c : Ctx) (rd rs1 rs2 : RegNo) (s : State) : Host.Outcome State Fault Refusal :=
  .next (s.fpOp c rd rs1 rs2 f64.max)

/-- FSQRT: a non-zero rs2 field is ILLEGAL (R155, R184). -/
def execFsqrt (c : Ctx) (rd rs1 rs2 : RegNo) (s : State) : Host.Outcome State Fault Refusal :=
  .next (s.run c.toNat fun s =>
    if rs2.toNat ≠ 0 then .exc .illegal
    else
      let r := f64.sqrt (s.dr c rs1)
      .ok ((s.setD c.toNat rd.toNat (BitVec.ofNat 64 r.bits)).flags c.toNat r.flags))

/-- FMADD: d[rd] + d[rs1] × d[rs2] with one rounding (R155). -/
def execFmadd (c : Ctx) (rd rs1 rs2 : RegNo) (s : State) : Host.Outcome State Fault Refusal :=
  .next (s.runD c rd fun s => f64.fma (s.dr c rd) (s.dr c rs1) (s.dr c rs2))

/-- FABS changes at most the sign bit (R148). -/
def execFabs (c : Ctx) (rd rs1 _rs2 : RegNo) (s : State) : Host.Outcome State Fault Refusal :=
  .next (s.runD c rd fun s => ⟨dAbs (s.dr c rs1), 0⟩)

/-- FNEG changes the sign bit (R148). -/
def execFneg (c : Ctx) (rd rs1 _rs2 : RegNo) (s : State) : Host.Outcome State Fault Refusal :=
  .next (s.runD c rd fun s => ⟨dNeg (s.dr c rs1), 0⟩)

/-- FEQ (R155). -/
def execFeq (c : Ctx) (rd rs1 rs2 : RegNo) (s : State) : Host.Outcome State Fault Refusal :=
  .next (s.runCmp c rd fun s => f64.eq (s.dr c rs1) (s.dr c rs2))

/-- FLT (R155). -/
def execFlt (c : Ctx) (rd rs1 rs2 : RegNo) (s : State) : Host.Outcome State Fault Refusal :=
  .next (s.runCmp c rd fun s => f64.lt (s.dr c rs1) (s.dr c rs2))

/-- FLE (R155). -/
def execFle (c : Ctx) (rd rs1 rs2 : RegNo) (s : State) : Host.Outcome State Fault Refusal :=
  .next (s.runCmp c rd fun s => f64.le (s.dr c rs1) (s.dr c rs2))

/-- FCVT.D.W (R155). -/
def execFcvtDW (c : Ctx) (rd rs1 _rs2 : RegNo) (s : State) : Host.Outcome State Fault Refusal :=
  .next (s.runD c rd fun s => f64.ofInt (s.wr_ c rs1).toInt)

/-- FCVT.W.D (R155). -/
def execFcvtWD (c : Ctx) (rd rs1 _rs2 : RegNo) (s : State) : Host.Outcome State Fault Refusal :=
  .next (s.run c.toNat fun s =>
    let r := f64.toI64 (s.dr c rs1)
    .ok ((s.setW c.toNat rd.toNat (BitVec.ofInt 64 r.1)).flags c.toNat r.2))

/-- FMV.W.D moves 64 bits from a d to a w register (R155). -/
def execFmvWD (c : Ctx) (rd rs1 _rs2 : RegNo) (s : State) : Host.Outcome State Fault Refusal :=
  .next (s.runW c rd fun s => s.d c.toNat rs1.toNat)

/-- FMV.D.W moves 64 bits from a w to a d register (R155). -/
def execFmvDW (c : Ctx) (rd rs1 _rs2 : RegNo) (s : State) : Host.Outcome State Fault Refusal :=
  .next (s.runD c rd fun s => ⟨(s.wr_ c rs1).toNat, 0⟩)

end Sys2Proof.Machine
end

