-- ==== Sys2Proof/Machine/CumelInt.lean ====
section
/-!
DEFINITION. Machine/CumelInt.lean: the integer, immediate and system operations of the Cumel cores (R147, R148, R154, R155).
-/
namespace Sys2Proof.Machine

/-- The signed minimum and maximum. -/
def minS (a b : Dword) : Dword := if a.slt b then a else b
def maxS (a b : Dword) : Dword := if a.slt b then b else a

/-- The high 64 bits of the signed product. -/
def mulHigh (a b : Dword) : Dword := BitVec.ofInt 64 (a.toInt * b.toInt / 2 ^ 64)

/-- `DIV` and `REM` round toward zero; by zero they return all ones and the dividend; the most negative value by −1 gives itself and 0. -/
def divS (a b : Dword) : Dword := if b = 0 then BitVec.ofInt 64 (-1) else BitVec.ofInt 64 (a.toInt.tdiv b.toInt)
def remS (a b : Dword) : Dword := if b = 0 then a else BitVec.ofInt 64 (a.toInt.tmod b.toInt)
def divU (a b : Dword) : Dword := if b = 0 then BitVec.ofInt 64 (-1) else a / b
def remU (a b : Dword) : Dword := if b = 0 then a else a % b

/-- 1 for true and 0 for false. -/
def oneIf (b : Bool) : Dword := if b then 1 else 0

/-- The low six bits of a shift amount. -/
def amount (b : Dword) : Nat := b.toNat % 64

/-- An integer operation on two registers. -/
def State.intOp (s : State) (c : Ctx) (rd rs1 rs2 : RegNo) (g : Dword → Dword → Dword) : State :=
  s.runW c rd fun s => g (s.wr_ c rs1) (s.wr_ c rs2)

/-- ADD (R155). -/
def execAdd (c : Ctx) (rd rs1 rs2 : RegNo) (s : State) : Host.Outcome State Fault Refusal :=
  .next (s.intOp c rd rs1 rs2 fun a b => a + b)

/-- SUB (R155). -/
def execSub (c : Ctx) (rd rs1 rs2 : RegNo) (s : State) : Host.Outcome State Fault Refusal :=
  .next (s.intOp c rd rs1 rs2 fun a b => a - b)

/-- AND (R155). -/
def execAnd (c : Ctx) (rd rs1 rs2 : RegNo) (s : State) : Host.Outcome State Fault Refusal :=
  .next (s.intOp c rd rs1 rs2 fun a b => a &&& b)

/-- OR (R155). -/
def execOr (c : Ctx) (rd rs1 rs2 : RegNo) (s : State) : Host.Outcome State Fault Refusal :=
  .next (s.intOp c rd rs1 rs2 fun a b => a ||| b)

/-- XOR (R155). -/
def execXor (c : Ctx) (rd rs1 rs2 : RegNo) (s : State) : Host.Outcome State Fault Refusal :=
  .next (s.intOp c rd rs1 rs2 fun a b => a ^^^ b)

/-- SLL (R155). -/
def execSll (c : Ctx) (rd rs1 rs2 : RegNo) (s : State) : Host.Outcome State Fault Refusal :=
  .next (s.intOp c rd rs1 rs2 fun a b => a <<< amount b)

/-- SRL (R155). -/
def execSrl (c : Ctx) (rd rs1 rs2 : RegNo) (s : State) : Host.Outcome State Fault Refusal :=
  .next (s.intOp c rd rs1 rs2 fun a b => a >>> amount b)

/-- SRA (R155). -/
def execSra (c : Ctx) (rd rs1 rs2 : RegNo) (s : State) : Host.Outcome State Fault Refusal :=
  .next (s.intOp c rd rs1 rs2 fun a b => a.sshiftRight (amount b))

/-- SLT (R155). -/
def execSlt (c : Ctx) (rd rs1 rs2 : RegNo) (s : State) : Host.Outcome State Fault Refusal :=
  .next (s.intOp c rd rs1 rs2 fun a b => oneIf (a.slt b))

/-- SLTU (R155). -/
def execSltu (c : Ctx) (rd rs1 rs2 : RegNo) (s : State) : Host.Outcome State Fault Refusal :=
  .next (s.intOp c rd rs1 rs2 fun a b => oneIf (a.ult b))

/-- MIN (R155). -/
def execMin (c : Ctx) (rd rs1 rs2 : RegNo) (s : State) : Host.Outcome State Fault Refusal :=
  .next (s.intOp c rd rs1 rs2 fun a b => minS a b)

/-- MAX (R155). -/
def execMax (c : Ctx) (rd rs1 rs2 : RegNo) (s : State) : Host.Outcome State Fault Refusal :=
  .next (s.intOp c rd rs1 rs2 fun a b => maxS a b)

/-- MUL (R155). -/
def execMul (c : Ctx) (rd rs1 rs2 : RegNo) (s : State) : Host.Outcome State Fault Refusal :=
  .next (s.intOp c rd rs1 rs2 fun a b => a * b)

/-- MULH (R155). -/
def execMulh (c : Ctx) (rd rs1 rs2 : RegNo) (s : State) : Host.Outcome State Fault Refusal :=
  .next (s.intOp c rd rs1 rs2 fun a b => mulHigh a b)

/-- DIV (R155). -/
def execDiv (c : Ctx) (rd rs1 rs2 : RegNo) (s : State) : Host.Outcome State Fault Refusal :=
  .next (s.intOp c rd rs1 rs2 fun a b => divS a b)

/-- DIVU (R155). -/
def execDivu (c : Ctx) (rd rs1 rs2 : RegNo) (s : State) : Host.Outcome State Fault Refusal :=
  .next (s.intOp c rd rs1 rs2 fun a b => divU a b)

/-- REM (R155). -/
def execRem (c : Ctx) (rd rs1 rs2 : RegNo) (s : State) : Host.Outcome State Fault Refusal :=
  .next (s.intOp c rd rs1 rs2 fun a b => remS a b)

/-- REMU (R155). -/
def execRemu (c : Ctx) (rd rs1 rs2 : RegNo) (s : State) : Host.Outcome State Fault Refusal :=
  .next (s.intOp c rd rs1 rs2 fun a b => remU a b)

/-- An operation on a register and an immediate. -/
def State.immOp (s : State) (c : Ctx) (rd rs1 : RegNo) (v : Dword) (g : Dword → Dword → Dword) : State :=
  s.runW c rd fun s => g (s.wr_ c rs1) v

/-- ADDI (R154). -/
def execAddi (c : Ctx) (rd rs1 : RegNo) (imm : Imm14) (s : State) : Host.Outcome State Fault Refusal :=
  .next (s.immOp c rd rs1 (imm.signExtend 64) fun a b => a + b)

/-- SLTI (R154). -/
def execSlti (c : Ctx) (rd rs1 : RegNo) (imm : Imm14) (s : State) : Host.Outcome State Fault Refusal :=
  .next (s.immOp c rd rs1 (imm.signExtend 64) fun a b => oneIf (a.slt b))

/-- SLTIU (R154). -/
def execSltiu (c : Ctx) (rd rs1 : RegNo) (imm : Imm14) (s : State) : Host.Outcome State Fault Refusal :=
  .next (s.immOp c rd rs1 (imm.signExtend 64) fun a b => oneIf (a.ult b))

/-- ANDI (R154). -/
def execAndi (c : Ctx) (rd rs1 : RegNo) (imm : Imm14) (s : State) : Host.Outcome State Fault Refusal :=
  .next (s.immOp c rd rs1 (imm.zeroExtend 64) fun a b => a &&& b)

/-- ORI (R154). -/
def execOri (c : Ctx) (rd rs1 : RegNo) (imm : Imm14) (s : State) : Host.Outcome State Fault Refusal :=
  .next (s.immOp c rd rs1 (imm.zeroExtend 64) fun a b => a ||| b)

/-- XORI (R154). -/
def execXori (c : Ctx) (rd rs1 : RegNo) (imm : Imm14) (s : State) : Host.Outcome State Fault Refusal :=
  .next (s.immOp c rd rs1 (imm.zeroExtend 64) fun a b => a ^^^ b)

/-- LSI (R154). -/
def execLsi (c : Ctx) (rd rs1 : RegNo) (imm : Imm14) (s : State) : Host.Outcome State Fault Refusal :=
  .next (s.immOp c rd rs1 (imm.zeroExtend 64) fun a b => (a <<< 14) ||| b)

/-- SLLI (R154). -/
def execSlli (c : Ctx) (rd rs1 : RegNo) (imm : Imm14) (s : State) : Host.Outcome State Fault Refusal :=
  .next (s.immOp c rd rs1 (imm.zeroExtend 64) fun a b => a <<< amount b)

/-- SRLI (R154). -/
def execSrli (c : Ctx) (rd rs1 : RegNo) (imm : Imm14) (s : State) : Host.Outcome State Fault Refusal :=
  .next (s.immOp c rd rs1 (imm.zeroExtend 64) fun a b => a >>> amount b)

/-- SRAI (R154). -/
def execSrai (c : Ctx) (rd rs1 : RegNo) (imm : Imm14) (s : State) : Host.Outcome State Fault Refusal :=
  .next (s.immOp c rd rs1 (imm.zeroExtend 64) fun a b => a.sshiftRight (amount b))

/-- RORI (R154). -/
def execRori (c : Ctx) (rd rs1 : RegNo) (imm : Imm14) (s : State) : Host.Outcome State Fault Refusal :=
  .next (s.immOp c rd rs1 (imm.zeroExtend 64) fun a b => a.rotateRight (amount b))

/-- NOP (R155). -/
def execNop (c : Ctx) (_rd _rs1 _rs2 : RegNo) (s : State) : Host.Outcome State Fault Refusal := .next (s.run c.toNat .ok)

/-- FENCE: every earlier store has completed, since each command is whole (R155). -/
def execFence (c : Ctx) (_rd _rs1 _rs2 : RegNo) (s : State) : Host.Outcome State Fault Refusal := .next (s.run c.toNat .ok)

/-- JR: PC takes the low 23 bits of w[rs1] (R150, R155). -/
def execJr (c : Ctx) (_rd rs1 _rs2 : RegNo) (s : State) : Host.Outcome State Fault Refusal :=
  .next (s.run c.toNat fun s => s.jump c (s.wr_ c rs1).toNat)

/-- MFS (R148, R155). -/
def execMfs (c : Ctx) (rd _rs1 n : RegNo) (s : State) : Host.Outcome State Fault Refusal :=
  .next (s.runW c rd fun s => BitVec.ofNat 64 (s.special c.toNat n.toNat))

/-- MTS: FPFLAGS takes its bits, an unlisted number discards the value, and a read-only register raises SPECIAL (R148). -/
def execMts (c : Ctx) (n rs1 _rs2 : RegNo) (s : State) : Host.Outcome State Fault Refusal :=
  .next (s.run c.toNat fun s =>
    if n.toNat = 3 then .ok (s.setFpflags c.toNat (s.wr_ c rs1).toNat)
    else if n.toNat ≤ 10 then .exc .special
    else .ok s)

/-! ## Branches (R153, R154) -/

/-- The target of a branch: the branch's PC plus a signed count of words. -/
def State.branchTo (s : State) (c : Ctx) (off : Off21) : Nat := (((s.here c.toNat : Int) + 4 * off.toInt) % 2 ^ 23).toNat

/-- A branch that is taken where the condition on w[rs] holds. -/
def State.branch (s : State) (c : Ctx) (rs : RegNo) (off : Off21) (g : Dword → Bool) : State :=
  s.run c.toNat fun s => if g (s.wr_ c rs) then s.jump c (s.branchTo c off) else .ok s

/-- BEQZ (R154). -/
def execBeqz (c : Ctx) (rs : RegNo) (off : Off21) (s : State) : Host.Outcome State Fault Refusal :=
  .next (s.branch c rs off fun a => a == 0)

/-- BNEZ (R154). -/
def execBnez (c : Ctx) (rs : RegNo) (off : Off21) (s : State) : Host.Outcome State Fault Refusal :=
  .next (s.branch c rs off fun a => a != 0)

/-- BLTZ (R154). -/
def execBltz (c : Ctx) (rs : RegNo) (off : Off21) (s : State) : Host.Outcome State Fault Refusal :=
  .next (s.branch c rs off fun a => a.msb)

/-- BGEZ (R154). -/
def execBgez (c : Ctx) (rs : RegNo) (off : Off21) (s : State) : Host.Outcome State Fault Refusal :=
  .next (s.branch c rs off fun a => !a.msb)

/-- JAL: w[rs] takes the address of the next word, then the branch is taken (R154). -/
def execJal (c : Ctx) (rs : RegNo) (off : Off21) (s : State) : Host.Outcome State Fault Refusal :=
  .next (s.run c.toNat fun s =>
    (s.setW c.toNat rs.toNat (BitVec.ofNat 64 (s.pc c.toNat))).jump c (s.branchTo c off))

end Sys2Proof.Machine
end

