-- ==== Sys2Proof/Machine/CumelMem.lean ====
section
/-!
DEFINITION. Machine/CumelMem.lean: instance and global loads and stores (R154, R156 to R159).
-/
namespace Sys2Proof.Machine

/-- A loaded value of n bytes as its register takes it: 32 bits sign-extended, one byte zero-extended. -/
def asLoaded (n v : Nat) : Dword := if n = 4 then (BitVec.ofNat 32 v).signExtend 64 else BitVec.ofNat 64 v

/-- A load from the current instance into w[rt]. -/
def State.loadI (s : State) (c : Ctx) (rt rb : RegNo) (off : Half) (n : Nat) : State :=
  s.run c.toNat fun s => s.accI c rb off n fun a => .ok (s.setW c.toNat rt.toNat (asLoaded n (s.rd a n)))

/-- A store of the low n bytes of a value into the current instance. -/
def State.storeI (s : State) (c : Ctx) (rb : RegNo) (off : Half) (n : Nat) (v : State → Nat) : State :=
  s.run c.toNat fun s => s.accI c rb off n fun a => .ok (s.ctxStore a n (v s))

/-- A global load into w[rt]. -/
def State.loadG (s : State) (c : Ctx) (rt rb : RegNo) (off : Half) (n : Nat) : State :=
  s.run c.toNat fun s => s.accG c rb off n .read fun a =>
    let (v, t) := s.gLoad c.toNat a n
    .ok (t.setW c.toNat rt.toNat (asLoaded n v))

/-- A global store of the low n bytes of a value. -/
def State.storeG (s : State) (c : Ctx) (rb : RegNo) (off : Half) (n : Nat) (v : State → Nat) : State :=
  s.run c.toNat fun s => s.accG c rb off n .write fun a => .ok (s.gStore c.toNat a n (v s))

/-- LD.I (R154, R156). -/
def execLdI (c : Ctx) (rt rb : RegNo) (off : Half) (s : State) : Host.Outcome State Fault Refusal :=
  .next (s.loadI c rt rb off 8)

/-- LW.I (R154, R156). -/
def execLwI (c : Ctx) (rt rb : RegNo) (off : Half) (s : State) : Host.Outcome State Fault Refusal :=
  .next (s.loadI c rt rb off 4)

/-- LB.I (R154, R156). -/
def execLbI (c : Ctx) (rt rb : RegNo) (off : Half) (s : State) : Host.Outcome State Fault Refusal :=
  .next (s.loadI c rt rb off 1)

/-- FLD.I (R154, R156). -/
def execFldI (c : Ctx) (rt rb : RegNo) (off : Half) (s : State) : Host.Outcome State Fault Refusal :=
  .next (s.run c.toNat fun s => s.accI c rb off 8 fun a => .ok (s.setD c.toNat rt.toNat (BitVec.ofNat 64 (s.rd a 8))))

/-- ST.I (R154, R156, R159). -/
def execStI (c : Ctx) (rt rb : RegNo) (off : Half) (s : State) : Host.Outcome State Fault Refusal :=
  .next (s.storeI c rb off 8 fun s => (s.wr_ c rt).toNat)

/-- SW.I (R154, R156, R159). -/
def execSwI (c : Ctx) (rt rb : RegNo) (off : Half) (s : State) : Host.Outcome State Fault Refusal :=
  .next (s.storeI c rb off 4 fun s => (s.wr_ c rt).toNat)

/-- SB.I (R154, R156, R159). -/
def execSbI (c : Ctx) (rt rb : RegNo) (off : Half) (s : State) : Host.Outcome State Fault Refusal :=
  .next (s.storeI c rb off 1 fun s => (s.wr_ c rt).toNat)

/-- FST.I (R154, R156, R159). -/
def execFstI (c : Ctx) (rt rb : RegNo) (off : Half) (s : State) : Host.Outcome State Fault Refusal :=
  .next (s.storeI c rb off 8 fun s => s.dr c rt)

/-- LD.G (R154, R157). -/
def execLdG (c : Ctx) (rt rb : RegNo) (off : Half) (s : State) : Host.Outcome State Fault Refusal :=
  .next (s.loadG c rt rb off 8)

/-- LW.G (R154, R157). -/
def execLwG (c : Ctx) (rt rb : RegNo) (off : Half) (s : State) : Host.Outcome State Fault Refusal :=
  .next (s.loadG c rt rb off 4)

/-- LB.G (R154, R157). -/
def execLbG (c : Ctx) (rt rb : RegNo) (off : Half) (s : State) : Host.Outcome State Fault Refusal :=
  .next (s.loadG c rt rb off 1)

/-- FLD.G (R154, R157). -/
def execFldG (c : Ctx) (rt rb : RegNo) (off : Half) (s : State) : Host.Outcome State Fault Refusal :=
  .next (s.run c.toNat fun s => s.accG c rb off 8 .read fun a => .ok (s.setD c.toNat rt.toNat (BitVec.ofNat 64 (s.rd a 8))))

/-- ST.G (R154, R157, R159). -/
def execStG (c : Ctx) (rt rb : RegNo) (off : Half) (s : State) : Host.Outcome State Fault Refusal :=
  .next (s.storeG c rb off 8 fun s => (s.wr_ c rt).toNat)

/-- SB.G (R154, R157, R159). -/
def execSbG (c : Ctx) (rt rb : RegNo) (off : Half) (s : State) : Host.Outcome State Fault Refusal :=
  .next (s.storeG c rb off 1 fun s => (s.wr_ c rt).toNat)

/-- FST.G (R154, R157, R159). -/
def execFstG (c : Ctx) (rt rb : RegNo) (off : Half) (s : State) : Host.Outcome State Fault Refusal :=
  .next (s.storeG c rb off 8 fun s => s.dr c rt)

/-- SW.G (R154, R157, R159), but for an instruction that a write of CML_DBG lets another context execute. -/
def State.swG (s : State) (c : Ctx) (rt rb : RegNo) (off : Half) : State := s.storeG c rb off 4 fun s => (s.wr_ c rt).toNat

end Sys2Proof.Machine
end

