-- ==== Sys2Proof/Machine/CumelDecode.lean ====
section
/-!
DEFINITION. Machine/CumelDecode.lean: the words of the Cumel instructions (R153 to R155): what a context decodes, and the encoder.
The encodings are those of the tables of R153 to R155; a code that they do not list decodes to nothing and raises ILLEGAL.
-/
namespace Sys2Proof.Machine

/-! ## Formats (R153) -/

def wordA (op : Nat) (func : Nat) (rd rs1 rs2 : RegNo) : Word := BitVec.ofNat 6 op ++ rd ++ rs1 ++ rs2 ++ BitVec.ofNat 11 func
def wordI (op : Nat) (sub : Nat) (rd rs1 : RegNo) (imm : Imm14) : Word := BitVec.ofNat 6 op ++ rd ++ rs1 ++ BitVec.ofNat 2 sub ++ imm
def wordM (op : Nat) (r q : RegNo) (h : Half) : Word := BitVec.ofNat 6 op ++ r ++ q ++ h
def wordB (op : Nat) (rs : RegNo) (off : Off21) : Word := BitVec.ofNat 6 op ++ rs ++ off

/-- Fields of a word. -/
def wOp (w : Word) : Nat := bitsOf w 31 26
def wR1 (w : Word) : RegNo := w.extractLsb' 21 5
def wR2 (w : Word) : RegNo := w.extractLsb' 16 5
def wR3 (w : Word) : RegNo := w.extractLsb' 11 5
def wFunc (w : Word) : Nat := bitsOf w 10 0
def wSub (w : Word) : Nat := bitsOf w 15 14
def wImm (w : Word) : Imm14 := w.extractLsb' 0 14
def wHalf (w : Word) : Half := w.extractLsb' 0 16
def wOff (w : Word) : Off21 := w.extractLsb' 0 21

/-! ## Decoding -/

/-- Integer operations, by func (R155). -/
def decodeInteger (c : Ctx) (w : Word) : Option Instr :=
  let rd := wR1 w
  let a := wR2 w
  let b := wR3 w
  match wFunc w with
  | 0 => some (.add c rd a b)
  | 1 => some (.sub c rd a b)
  | 2 => some (.and c rd a b)
  | 3 => some (.or c rd a b)
  | 4 => some (.xor c rd a b)
  | 5 => some (.sll c rd a b)
  | 6 => some (.srl c rd a b)
  | 7 => some (.sra c rd a b)
  | 8 => some (.slt c rd a b)
  | 9 => some (.sltu c rd a b)
  | 10 => some (.min c rd a b)
  | 11 => some (.max c rd a b)
  | 16 => some (.mul c rd a b)
  | 17 => some (.mulh c rd a b)
  | 18 => some (.div c rd a b)
  | 19 => some (.divu c rd a b)
  | 20 => some (.rem c rd a b)
  | 21 => some (.remu c rd a b)
  | _ => none

/-- FP operations, by func (R155). -/
def decodeFP (c : Ctx) (w : Word) : Option Instr :=
  let rd := wR1 w
  let a := wR2 w
  let b := wR3 w
  match wFunc w with
  | 0 => some (.fadd c rd a b)
  | 1 => some (.fsub c rd a b)
  | 2 => some (.fmul c rd a b)
  | 3 => some (.fdiv c rd a b)
  | 4 => some (.fsqrt c rd a b)
  | 5 => some (.fmin c rd a b)
  | 6 => some (.fmax c rd a b)
  | 7 => some (.fmadd c rd a b)
  | 8 => some (.fabs c rd a b)
  | 9 => some (.fneg c rd a b)
  | 16 => some (.feq c rd a b)
  | 17 => some (.flt c rd a b)
  | 18 => some (.fle c rd a b)
  | 24 => some (.fcvtDW c rd a b)
  | 25 => some (.fcvtWD c rd a b)
  | 26 => some (.fmvWD c rd a b)
  | 27 => some (.fmvDW c rd a b)
  | _ => none

/-- System operations, by func (R155). -/
def decodeSystem (c : Ctx) (w : Word) : Option Instr :=
  let rd := wR1 w
  let a := wR2 w
  let b := wR3 w
  match wFunc w with
  | 0 => some (.nop c rd a b)
  | 1 => some (.jr c rd a b)
  | 2 => some (.mfs c rd a b)
  | 3 => some (.mts c rd a b)
  | 4 => some (.fence c rd a b)
  | _ => none

/-- Operations on a register and an immediate (R154). -/
def decodeImm (c : Ctx) (w : Word) : Option Instr :=
  let rd := wR1 w
  let a := wR2 w
  let i := wImm w
  match wOp w, wSub w with
  | 4, 0 => some (.addi c rd a i)
  | 4, 1 => some (.slti c rd a i)
  | 4, 2 => some (.sltiu c rd a i)
  | 5, 0 => some (.andi c rd a i)
  | 5, 1 => some (.ori c rd a i)
  | 5, 2 => some (.xori c rd a i)
  | 5, 3 => some (.lsi c rd a i)
  | 6, 0 => some (.slli c rd a i)
  | 6, 1 => some (.srli c rd a i)
  | 6, 2 => some (.srai c rd a i)
  | 6, 3 => some (.rori c rd a i)
  | _, _ => none

/-- The instruction of a word executed by context c (R154). -/
def cmlDecode (c : Ctx) (w : Word) : Option Instr :=
  let r := wR1 w
  let q := wR2 w
  let h := wHalf w
  match wOp w with
  | 1 => decodeInteger c w
  | 2 => decodeFP c w
  | 3 => decodeSystem c w
  | 4 => decodeImm c w
  | 5 => decodeImm c w
  | 6 => decodeImm c w
  | 8 => some (.ldI c r q h)
  | 9 => some (.lwI c r q h)
  | 10 => some (.lbI c r q h)
  | 11 => some (.fldI c r q h)
  | 12 => some (.stI c r q h)
  | 13 => some (.swI c r q h)
  | 14 => some (.sbI c r q h)
  | 15 => some (.fstI c r q h)
  | 16 => some (.ldG c r q h)
  | 17 => some (.lwG c r q h)
  | 18 => some (.lbG c r q h)
  | 19 => some (.fldG c r q h)
  | 20 => some (.stG c r q h)
  | 21 => some (.swG c r q h)
  | 22 => some (.sbG c r q h)
  | 23 => some (.fstG c r q h)
  | 24 => some (.beqz c r (wOff w))
  | 25 => some (.bnez c r (wOff w))
  | 26 => some (.bltz c r (wOff w))
  | 27 => some (.bgez c r (wOff w))
  | 28 => some (.jal c r (wOff w))
  | 32 => some (.fbcall c r q h)
  | 33 => some (.fbcallr c r q h)
  | 34 => some (.fbret c r q h)
  | 35 => some (.insta c r q h)
  | 36 => some (.tmr c r q h)
  | 37 => some (.edge c r q h)
  | 38 => some (.subst c r q h)
  | 39 => some (.slv c r q h)
  | 40 => some (.slvw c r q h)
  | 41 => some (.slvr c r q h)
  | 42 => some (.prq c r q h)
  | 43 => some (.chk c r q h)
  | 44 => some (.scanend c r q h)
  | 45 => some (.brk c r q h)
  | _ => none

/-! ## Encoding -/

/-- The word of an instruction, and the context that executes it; no other command has one. -/
def cmlEncode (i : Instr) : Option (Ctx × Word) :=
  match i with
  | .add c rd a b => some (c, wordA 1 0 rd a b)
  | .sub c rd a b => some (c, wordA 1 1 rd a b)
  | .and c rd a b => some (c, wordA 1 2 rd a b)
  | .or c rd a b => some (c, wordA 1 3 rd a b)
  | .xor c rd a b => some (c, wordA 1 4 rd a b)
  | .sll c rd a b => some (c, wordA 1 5 rd a b)
  | .srl c rd a b => some (c, wordA 1 6 rd a b)
  | .sra c rd a b => some (c, wordA 1 7 rd a b)
  | .slt c rd a b => some (c, wordA 1 8 rd a b)
  | .sltu c rd a b => some (c, wordA 1 9 rd a b)
  | .min c rd a b => some (c, wordA 1 10 rd a b)
  | .max c rd a b => some (c, wordA 1 11 rd a b)
  | .mul c rd a b => some (c, wordA 1 16 rd a b)
  | .mulh c rd a b => some (c, wordA 1 17 rd a b)
  | .div c rd a b => some (c, wordA 1 18 rd a b)
  | .divu c rd a b => some (c, wordA 1 19 rd a b)
  | .rem c rd a b => some (c, wordA 1 20 rd a b)
  | .remu c rd a b => some (c, wordA 1 21 rd a b)
  | .fadd c rd a b => some (c, wordA 2 0 rd a b)
  | .fsub c rd a b => some (c, wordA 2 1 rd a b)
  | .fmul c rd a b => some (c, wordA 2 2 rd a b)
  | .fdiv c rd a b => some (c, wordA 2 3 rd a b)
  | .fsqrt c rd a b => some (c, wordA 2 4 rd a b)
  | .fmin c rd a b => some (c, wordA 2 5 rd a b)
  | .fmax c rd a b => some (c, wordA 2 6 rd a b)
  | .fmadd c rd a b => some (c, wordA 2 7 rd a b)
  | .fabs c rd a b => some (c, wordA 2 8 rd a b)
  | .fneg c rd a b => some (c, wordA 2 9 rd a b)
  | .feq c rd a b => some (c, wordA 2 16 rd a b)
  | .flt c rd a b => some (c, wordA 2 17 rd a b)
  | .fle c rd a b => some (c, wordA 2 18 rd a b)
  | .fcvtDW c rd a b => some (c, wordA 2 24 rd a b)
  | .fcvtWD c rd a b => some (c, wordA 2 25 rd a b)
  | .fmvWD c rd a b => some (c, wordA 2 26 rd a b)
  | .fmvDW c rd a b => some (c, wordA 2 27 rd a b)
  | .nop c rd a b => some (c, wordA 3 0 rd a b)
  | .jr c rd a b => some (c, wordA 3 1 rd a b)
  | .mfs c rd a b => some (c, wordA 3 2 rd a b)
  | .mts c rd a b => some (c, wordA 3 3 rd a b)
  | .fence c rd a b => some (c, wordA 3 4 rd a b)
  | .addi c rd a i => some (c, wordI 4 0 rd a i)
  | .slti c rd a i => some (c, wordI 4 1 rd a i)
  | .sltiu c rd a i => some (c, wordI 4 2 rd a i)
  | .andi c rd a i => some (c, wordI 5 0 rd a i)
  | .ori c rd a i => some (c, wordI 5 1 rd a i)
  | .xori c rd a i => some (c, wordI 5 2 rd a i)
  | .lsi c rd a i => some (c, wordI 5 3 rd a i)
  | .slli c rd a i => some (c, wordI 6 0 rd a i)
  | .srli c rd a i => some (c, wordI 6 1 rd a i)
  | .srai c rd a i => some (c, wordI 6 2 rd a i)
  | .rori c rd a i => some (c, wordI 6 3 rd a i)
  | .ldI c r q h => some (c, wordM 8 r q h)
  | .lwI c r q h => some (c, wordM 9 r q h)
  | .lbI c r q h => some (c, wordM 10 r q h)
  | .fldI c r q h => some (c, wordM 11 r q h)
  | .stI c r q h => some (c, wordM 12 r q h)
  | .swI c r q h => some (c, wordM 13 r q h)
  | .sbI c r q h => some (c, wordM 14 r q h)
  | .fstI c r q h => some (c, wordM 15 r q h)
  | .ldG c r q h => some (c, wordM 16 r q h)
  | .lwG c r q h => some (c, wordM 17 r q h)
  | .lbG c r q h => some (c, wordM 18 r q h)
  | .fldG c r q h => some (c, wordM 19 r q h)
  | .stG c r q h => some (c, wordM 20 r q h)
  | .swG c r q h => some (c, wordM 21 r q h)
  | .sbG c r q h => some (c, wordM 22 r q h)
  | .fstG c r q h => some (c, wordM 23 r q h)
  | .beqz c r f => some (c, wordB 24 r f)
  | .bnez c r f => some (c, wordB 25 r f)
  | .bltz c r f => some (c, wordB 26 r f)
  | .bgez c r f => some (c, wordB 27 r f)
  | .jal c r f => some (c, wordB 28 r f)
  | .fbcall c r q h => some (c, wordM 32 r q h)
  | .fbcallr c r q h => some (c, wordM 33 r q h)
  | .fbret c r q h => some (c, wordM 34 r q h)
  | .insta c r q h => some (c, wordM 35 r q h)
  | .tmr c r q h => some (c, wordM 36 r q h)
  | .edge c r q h => some (c, wordM 37 r q h)
  | .subst c r q h => some (c, wordM 38 r q h)
  | .slv c r q h => some (c, wordM 39 r q h)
  | .slvw c r q h => some (c, wordM 40 r q h)
  | .slvr c r q h => some (c, wordM 41 r q h)
  | .prq c r q h => some (c, wordM 42 r q h)
  | .chk c r q h => some (c, wordM 43 r q h)
  | .scanend c r q h => some (c, wordM 44 r q h)
  | .brk c r q h => some (c, wordM 45 r q h)
  | _ => none

end Sys2Proof.Machine
end

