-- ==== Sys2Proof/Machine/CumelRun.lean ====
section
/-!
DEFINITION. Machine/CumelRun.lean: the instructions that a write of CML_DBG.STEP lets a suspended context execute (R186), and the commands
that can make such a write: REGISTER_WRITE and its kin, `SW.G` and CML_DBG_STEP.
-/
namespace Sys2Proof.Machine

/-- The state an outcome leaves; no instruction has another outcome. -/
def nextOf (s : State) (o : Host.Outcome State Fault Refusal) : State :=
  match o with
  | .next t => t
  | _ => s

/-- A word that decodes to no instruction raises ILLEGAL (R154, R155). -/
def State.illegal (s : State) (c : Ctx) : State := s.run c.toNat fun _ => .exc .illegal

/-- ILLEGAL_INSTRUCTION. -/
def execIllegalInstruction (c : Ctx) (word : Word) (s : State) : Host.Outcome State Fault Refusal :=
  .next (if (cmlDecode c word).isNone then s.illegal c else s)

/-- One instruction, without the instructions that its own write of CML_DBG may let other contexts execute; no other command. -/
def State.runInstr (s : State) (i : Instr) : State :=
  match i with
  | .add c rd a b => nextOf s (execAdd c rd a b s)
  | .sub c rd a b => nextOf s (execSub c rd a b s)
  | .and c rd a b => nextOf s (execAnd c rd a b s)
  | .or c rd a b => nextOf s (execOr c rd a b s)
  | .xor c rd a b => nextOf s (execXor c rd a b s)
  | .sll c rd a b => nextOf s (execSll c rd a b s)
  | .srl c rd a b => nextOf s (execSrl c rd a b s)
  | .sra c rd a b => nextOf s (execSra c rd a b s)
  | .slt c rd a b => nextOf s (execSlt c rd a b s)
  | .sltu c rd a b => nextOf s (execSltu c rd a b s)
  | .min c rd a b => nextOf s (execMin c rd a b s)
  | .max c rd a b => nextOf s (execMax c rd a b s)
  | .mul c rd a b => nextOf s (execMul c rd a b s)
  | .mulh c rd a b => nextOf s (execMulh c rd a b s)
  | .div c rd a b => nextOf s (execDiv c rd a b s)
  | .divu c rd a b => nextOf s (execDivu c rd a b s)
  | .rem c rd a b => nextOf s (execRem c rd a b s)
  | .remu c rd a b => nextOf s (execRemu c rd a b s)
  | .fadd c rd a b => nextOf s (execFadd c rd a b s)
  | .fsub c rd a b => nextOf s (execFsub c rd a b s)
  | .fmul c rd a b => nextOf s (execFmul c rd a b s)
  | .fdiv c rd a b => nextOf s (execFdiv c rd a b s)
  | .fsqrt c rd a b => nextOf s (execFsqrt c rd a b s)
  | .fmin c rd a b => nextOf s (execFmin c rd a b s)
  | .fmax c rd a b => nextOf s (execFmax c rd a b s)
  | .fmadd c rd a b => nextOf s (execFmadd c rd a b s)
  | .fabs c rd a b => nextOf s (execFabs c rd a b s)
  | .fneg c rd a b => nextOf s (execFneg c rd a b s)
  | .feq c rd a b => nextOf s (execFeq c rd a b s)
  | .flt c rd a b => nextOf s (execFlt c rd a b s)
  | .fle c rd a b => nextOf s (execFle c rd a b s)
  | .fcvtDW c rd a b => nextOf s (execFcvtDW c rd a b s)
  | .fcvtWD c rd a b => nextOf s (execFcvtWD c rd a b s)
  | .fmvWD c rd a b => nextOf s (execFmvWD c rd a b s)
  | .fmvDW c rd a b => nextOf s (execFmvDW c rd a b s)
  | .nop c rd a b => nextOf s (execNop c rd a b s)
  | .jr c rd a b => nextOf s (execJr c rd a b s)
  | .mfs c rd a b => nextOf s (execMfs c rd a b s)
  | .mts c rd a b => nextOf s (execMts c rd a b s)
  | .fence c rd a b => nextOf s (execFence c rd a b s)
  | .addi c rd a i => nextOf s (execAddi c rd a i s)
  | .slti c rd a i => nextOf s (execSlti c rd a i s)
  | .sltiu c rd a i => nextOf s (execSltiu c rd a i s)
  | .andi c rd a i => nextOf s (execAndi c rd a i s)
  | .ori c rd a i => nextOf s (execOri c rd a i s)
  | .xori c rd a i => nextOf s (execXori c rd a i s)
  | .lsi c rd a i => nextOf s (execLsi c rd a i s)
  | .slli c rd a i => nextOf s (execSlli c rd a i s)
  | .srli c rd a i => nextOf s (execSrli c rd a i s)
  | .srai c rd a i => nextOf s (execSrai c rd a i s)
  | .rori c rd a i => nextOf s (execRori c rd a i s)
  | .ldI c r q h => nextOf s (execLdI c r q h s)
  | .lwI c r q h => nextOf s (execLwI c r q h s)
  | .lbI c r q h => nextOf s (execLbI c r q h s)
  | .fldI c r q h => nextOf s (execFldI c r q h s)
  | .stI c r q h => nextOf s (execStI c r q h s)
  | .swI c r q h => nextOf s (execSwI c r q h s)
  | .sbI c r q h => nextOf s (execSbI c r q h s)
  | .fstI c r q h => nextOf s (execFstI c r q h s)
  | .ldG c r q h => nextOf s (execLdG c r q h s)
  | .lwG c r q h => nextOf s (execLwG c r q h s)
  | .lbG c r q h => nextOf s (execLbG c r q h s)
  | .fldG c r q h => nextOf s (execFldG c r q h s)
  | .stG c r q h => nextOf s (execStG c r q h s)
  | .swG c r q h => s.swG c r q h
  | .sbG c r q h => nextOf s (execSbG c r q h s)
  | .fstG c r q h => nextOf s (execFstG c r q h s)
  | .beqz c r f => nextOf s (execBeqz c r f s)
  | .bnez c r f => nextOf s (execBnez c r f s)
  | .bltz c r f => nextOf s (execBltz c r f s)
  | .bgez c r f => nextOf s (execBgez c r f s)
  | .jal c r f => nextOf s (execJal c r f s)
  | .fbcall c r q h => nextOf s (execFbcall c r q h s)
  | .fbcallr c r q h => nextOf s (execFbcallr c r q h s)
  | .fbret c r q h => nextOf s (execFbret c r q h s)
  | .insta c r q h => nextOf s (execInsta c r q h s)
  | .tmr c r q h => nextOf s (execTmr c r q h s)
  | .edge c r q h => nextOf s (execEdge c r q h s)
  | .subst c r q h => nextOf s (execSubst c r q h s)
  | .slv c r q h => nextOf s (execSlv c r q h s)
  | .slvw c r q h => nextOf s (execSlvw c r q h s)
  | .slvr c r q h => nextOf s (execSlvr c r q h s)
  | .prq c r q h => nextOf s (execPrq c r q h s)
  | .chk c r q h => nextOf s (execChk c r q h s)
  | .scanend c r q h => nextOf s (execScanend c r q h s)
  | .brk c r q h => nextOf s (execBrk c r q h s)
  | _ => s

/-- The word at context c's PC: in the active program bank or the ROM (R149, R150). -/
def State.fetchWord (s : State) (c : Nat) : Word :=
  let pc := s.pc c
  BitVec.ofNat 32 (if pc < 0x400000 then s.rd (s.bankBase + pc) 4 else s.rd (0x1000000 + (pc - 0x400000)) 4)

/-- A context suspended at a breakpoint executes one instruction and stays suspended (R186). -/
def State.stepContext (s : State) (c : Nat) : State :=
  if s.atBreak c then
    let s := s.modAct c ({ · with skip := true })
    let x := BitVec.ofNat 8 c
    match cmlDecode x (s.fetchWord c) with
    | some i => s.runInstr i
    | none => s.illegal x
  else s

/-- Every context that a write of CML_DBG names executes its instruction, in the order of the writes. -/
def State.drainSteps (s : State) : Nat → State
  | 0 => { s with cml := { s.cml with steps := [] } }
  | n + 1 =>
    match s.cml.steps with
    | [] => s
    | c :: l => (({ s with cml := { s.cml with steps := l } }).stepContext c).drainSteps n

/-- A command starts with no instruction to execute for an earlier one. -/
def State.noSteps (s : State) : State := { s with cml := { s.cml with steps := [] } }

/-- A write by a bus master with all that it lets happen. -/
def State.fullWrite (s : State) (m : Master) (a : Nat) (v : Word) : State := (s.noSteps.busWrite m a v).drainSteps 256

/-- REGISTER_WRITE (R7, R10, R14). -/
def execRegisterWrite (m : Master) (a : Addr) (v : Word) (s : State) : Host.Outcome State Fault Refusal := .next (s.fullWrite m a.toNat v)

/-- LOW_WORD_WRITE (R13). -/
def execLowWordWrite (m : Master) (a : Addr) (v : Word) (s : State) : Host.Outcome State Fault Refusal := .next (s.fullWrite m a.toNat v)

/-- HIGH_WORD_WRITE (R13). -/
def execHighWordWrite (m : Master) (a : Addr) (v : Word) (s : State) : Host.Outcome State Fault Refusal := .next (s.fullWrite m a.toNat v)

/-- CML_DBG_STEP: a write of CML_DBG with STEP 1 and RESUME 0. -/
def execCmlDbgStep (m : Master) (v : Word) (s : State) : Host.Outcome State Fault Refusal :=
  .next (s.fullWrite m R.CML_DBG (withBits v 31 30 1))

/-- SW.G (R154, R157 to R159). -/
def execSwG (c : Ctx) (rt rb : RegNo) (off : Half) (s : State) : Host.Outcome State Fault Refusal :=
  .next ((s.noSteps.swG c rt rb off).drainSteps 256)

end Sys2Proof.Machine
end

