-- ==== Sys2Proof/Machine/NetHost.lean ====
section
/-!
DEFINITION. Machine/NetHost.lean: received Ethernet frames on their way to the services (R418, R420, R422), and the Ethernet host service
(R429).
-/
namespace Sys2Proof.Machine

/-! ## The Ethernet host service (R429) -/

/-- A request of the host service. -/
structure HostReq where
  seq : Nat
  write : Bool
  count : Nat
  addr : Nat
  data : List Word
deriving DecidableEq, Repr

/-- Read n little-endian words. -/
def wordsOf : Nat → List Byte → List Word
  | 0, _ => []
  | n + 1, l => BitVec.ofNat 32 (leBytes (l.take 4)) :: wordsOf n (l.drop 4)

/-- The sequence number of a request; 0 where it is too short to hold one. -/
def reqSeq (l : List Byte) : Nat := leBytes ((l.drop 2).take 2)

/-- A well-formed request; fields are little-endian, and the address is a multiple of 4 (assumption log 42). -/
def parseReq (l : List Byte) : Option HostReq :=
  let op := (l.getD 4 0).toNat
  let n := (l.getD 5 0).toNat
  let a := leBytes ((l.drop 8).take 8)
  if l.length < 16 ∨ leBytes (l.take 2) ≠ 0x4854 ∨ (op ≠ 1 ∧ op ≠ 2) ∨ n < 1 ∨ 64 < n ∨ a % 4 ≠ 0 then none
  else if op = 2 ∧ l.length ≠ 16 + 4 * n then none
  else some ⟨reqSeq l, op = 2, n, a, if op = 2 then wordsOf n (l.drop 16) else []⟩

/-- The access ends in a bus error. -/
def hostBad (a : Nat) (k : AccessKind) : Bool := decide (2 ^ 40 ≤ a) || badAccess a 4 k

/-- Reads of n words from a on, up to the first bus error: whether all succeeded, and the words read. -/
def State.hostRead (s : State) : Nat → Nat → Bool × List Nat × State
  | 0, _ => (true, [], s)
  | n + 1, a =>
    if hostBad a .read then (false, [], s.refuseAccess .ethHost a 4 .read)
    else
      let (v, s) := if regionOf a = .registers then (let (w, s) := s.readReg .ethHost a; (w.toNat, s)) else (s.rd a 4, s)
      let (ok, l, s) := s.hostRead n (a + 4)
      (ok, v :: l, s)

/-- Writes of words from a on, up to the first bus error. -/
def State.hostWrite (s : State) : List Word → Nat → Bool × State
  | [], _ => (true, s)
  | v :: l, a =>
    if hostBad a .write then (false, s.refuseAccess .ethHost a 4 .write)
    else (s.fullWrite .ethHost a v).hostWrite l (a + 4)

/-- The service answers a request (R429). -/
def State.hostService (s : State) (req : List Byte) : State :=
  match s.pairOf 3 with
  | none => s
  | some p =>
    if s.b F.NET_CTRL_HOST_EN = false then s
    else
      let (st, words, s) := match parseReq req with
        | none => (2, [], s)
        | some r =>
          if r.write then
            let (ok, s) := s.hostWrite r.data r.addr
            ((if ok then 0 else 1 : Nat), [], s)
          else
            let (ok, l, s) := s.hostRead r.count r.addr
            ((if ok then 0 else 1), l, s)
      let s := if st = 0 then s else s.assertSrc 158
      s.sendOwn p (.reply (reqSeq req) st words)

/-- HOST_SERVICE_REQUEST. -/
def execHostServiceRequest (req : Bytes) (s : State) : Host.Outcome State Fault Refusal := .next (s.hostService req)

/-! ## Received frames (R418, R420) -/

/-- The frame is the second copy of one seen before; otherwise it is remembered (R418). -/
def State.prpCheck (s : State) (p : Nat) (f : EthFrame) : Bool × State :=
  match f.seq with
  | none => (false, s)
  | some q =>
    let key := (p, f.src.toNat, q.toNat)
    if s.seenNow key then (true, s)
    else
      let s := s.hearNode p f.src.toNat
      (false, { s with net := { s.net with seen := s.net.seen.filter (·.1 ≠ key) ++ [(key, s.mono)] } })

/-- Give a frame to the service that claims it, or to the receive ring (R420, R422). -/
def State.deliverFrame (s : State) (p lan : Nat) (f : EthFrame) : State :=
  match f.body with
  | .datagram d => if s.bound 0 p then s.datagram d else s.toRing p lan f.bytes
  | .grzInput g => if s.bound 1 p then s.grzInput g else s.toRing p lan f.bytes
  | .grzService g => if s.bound 1 p then s.svcRequest g else s.toRing p lan f.bytes
  | .hostRequest r => if s.bound 3 p && s.b F.NET_CTRL_HOST_EN then s.hostService r else s.toRing p lan f.bytes
  | .other => s.toRing p lan f.bytes

/-- ETHERNET_FRAME_RECEIVED: a bad FCS is counted, a frame with more than 1,500 bytes of payload is not taken, and a duplicate is discarded. -/
def State.ethFrame (s : State) (port : Nat) (f : EthFrame) : State :=
  let p := port / 2
  if s.pairOn p = false then s
  else if f.fcsOk = false then s.count (F.NET_PRPCNT_FCS_ERR p)
  else if 1518 < f.bytes.length then s
  else
    let (dup, s) := (s.heardOn port).prpCheck p f
    if dup then s else s.deliverFrame p (port % 2) f

/-- ETHERNET_FRAME_RECEIVED (R418). -/
def execEthernetFrameReceived (port : Port) (f : EthFrame) (s : State) : Host.Outcome State Fault Refusal := .next (s.ethFrame port.val f)

end Sys2Proof.Machine
end

