-- ==== Sys2Proof/Machine/Tick.lean ====
section
/-!
DEFINITION. Machine/Tick.lean: the tick (R17 to R46): its edges, the window faults, the Stop they lead to, and one cycle of the time island.
-/
namespace Sys2Proof.Machine

/-- The tick stands at `us` µs after its Strobe, in phase p of TICK_PHASE. -/
def State.standAt (s : State) (p us : Nat) : State :=
  { (s.put F.TICK_PHASE_PHASE p).put F.TICK_PHASE_OFFSET us with tick := { s.tick with cycles := 500 * us } }

/-- The edge of phase p, `us` µs after the Strobe, has come: the cycles up to it have passed (R22; assumption log 54). -/
def State.atEdge (s : State) (p us : Nat) : State := (s.elapse (500 * us - s.tick.cycles)).standAt p us

/-! ## The windows of Scan and Settle (R26, R30, R37, R39, R43) -/

/-- A tenth of the period in µs: the length of the Scan and of the Settle window. -/
def State.tenth (s : State) : Nat := s.periodUs / 10

/-- The tick has come to `us` µs after its Strobe at the least. -/
def State.reach (s : State) (us : Nat) : State := s.elapse (500 * us - s.tick.cycles)

/-- Of the tasks due in a window, those that have not ended and are not exempt. -/
def State.lateTasks (s : State) (l : List Nat) : List Nat := l.filter fun c => !s.exempt 256 c

/-- SCAN_EDGE: the due Scan-bound tasks become ready (R178). -/
def State.scanEdge (s : State) : State :=
  let s := s.atEdge 1 s.tenth
  if s.mode = .stop then s
  else
    let l := s.dueIn 1
    let s := { s with cml := { s.cml with scanLeft := l, scanOpen := true, scanLate := false } }.startPhase 1
    if l = [] then s.scanComplete else s

/-- Scan is not complete at 0.20 T (R37). -/
def State.scanOverrun (s : State) : State :=
  let s := s.windowFault F.TICK_STATUS_SCAN_OVR F.TICK_FCNT0_SOVR 0x0100 [] 1
  let s := (s.stopWindow s.cml.scanLeft).hwm F.TICK_HWM_SCAN s.tenth
  if s.mode = .run then s.skipUnstaged else s

/-- SOLVE_EDGE: Scan is judged and the staged batch starts (R27, R37). -/
def State.solveEdge (s : State) : State :=
  let s := (s.atEdge 2 (2 * s.tenth)).azsEdge
  if s.mode = .stop then s
  else
    let s := if s.lateTasks s.cml.scanLeft = [] ∧ s.cml.scanLate = false then s else s.scanOverrun
    { s with cml := { s.cml with scanLeft := [], scanOpen := false } }.startBatch.sched

/-- SETTLE_EDGE: the batch ends, the selector steps and the due Settle-bound tasks become ready (R236, R259, R178). -/
def State.settleEdge (s : State) : State :=
  let seen := s.pendDet
  let s := ((s.atEdge 3 (7 * s.tenth)).endBatch).shadowEdge seen
  let s := { s with out := { s.out with committed := false } }
  if s.mode = .stop then s
  else
    let l := s.dueIn 2
    let s := { s with cml := { s.cml with settleLeft := l, settleOpen := true, settleLate := false } }.startPhase 2
    if l = [] then s.settleComplete else s

/-- Settle is not complete at the arm point: the staged set is discarded (R39). -/
def State.settleOverrun (s : State) : State :=
  let s := s.windowFault F.TICK_STATUS_SETTLE_OVR F.TICK_FCNT1_SETOVR 0x0102 [] 3
  let s := (s.stopWindow s.cml.settleLeft).hwm F.TICK_HWM_SETTLE (s.tenth - 2)
  { s with tick := { s.tick with settleOvr := true } }.reloadStaged

/-- ARM_POINT: Settle is judged (R30, R39); in Hold what is staged is discarded (R192). -/
def State.armPoint (s : State) : State :=
  let s := s.atEdge 4 (8 * s.tenth - 2)
  let s := { s with pair := { s.pair with lateClaim := false } }
  if s.mode = .stop then s
  else
    let s := if s.lateTasks s.cml.settleLeft = [] ∧ s.cml.settleLate = false then (if s.mode = .hold then s.reloadStaged else s) else s.settleOverrun
    { s with cml := { s.cml with settleLeft := [], settleOpen := false } }.sched

/-- The islands with a timer of their own: 0 loop, 1 network, 2 + k CAN controller k, 10 the analogue front end, 11 the GNSS epoch timer. -/
def outputIslands : List Nat := List.range 12

/-- In Keep the launch timer of every output island, the Strobe timer of the front end and the epoch timer of the GNSS island are realigned to the
TICK base, to within 2 ns: the error is free (R32, R94, R377; assumption log 57). -/
def State.realignTimers (s : State) : State :=
  outputIslands.foldl (fun s i =>
    let (x, s) := s.draw (4 * 2 ^ 32 + 1)
    { s with out := { s.out with timers := tput s.out.timers i ((x : Int) - 2 * 2 ^ 32) } }) s

/-- RELEASE: command frames and the output burst, the loop island, the pair's Keep work, the launch timers, and the due Keep-bound tasks (R31,
R32, R43). -/
def State.release (s : State) : State :=
  let s := s.atEdge 5 (8 * s.tenth)
  let o := s.tick.settleOvr
  let s := ((((s.canRelease o).grzRelease o).loopRelease).pairRelease).realignTimers
  if s.mode = .stop then s else s.startPhase 3

/-- An edge does something while the tick sequencer runs (R473). -/
def State.whenRunning (s : State) (g : State → State) : State := if s.tick.running then g s else s

/-- SCAN_EDGE (R178). -/
def execScanEdge (s : State) : Host.Outcome State Fault Refusal := .next (s.whenRunning State.scanEdge)
/-- SOLVE_EDGE (R27). -/
def execSolveEdge (s : State) : Host.Outcome State Fault Refusal := .next (s.whenRunning State.solveEdge)
/-- SETTLE_EDGE (R259). -/
def execSettleEdge (s : State) : Host.Outcome State Fault Refusal := .next (s.whenRunning State.settleEdge)
/-- ARM_POINT (R30). -/
def execArmPoint (s : State) : Host.Outcome State Fault Refusal := .next (s.whenRunning State.armPoint)
/-- RELEASE (R32). -/
def execRelease (s : State) : Host.Outcome State Fault Refusal := .next (s.whenRunning State.release)

/-! ## The end of a tick (R41, R42) -/

/-- FAULT_STOP: at the end of the tick in which CONSEC has reached FAULT_LIMIT the module enters Stop (R41). -/
def State.faultStop (s : State) : State :=
  if s.tick.stopDue then
    let s := { s with tick := { s.tick with stopDue := false } }
    if s.mode = .stop then s
    else (((s.put F.TICK_STATUS_FAULT_STOP 1).event 0x0104 []).assertSrc 5).enterStop 2
  else s

/-- FAULT_STOP (R41). -/
def execFaultStop (s : State) : Host.Outcome State Fault Refusal := .next s.faultStop

/-- Keep work still runs: a Keep-bound task that is not suspended, or the checkpoint's transfer.  Recorder flushes and the snapshot's MRAM write
go on as free work and are none of it (R42; DESIGN CHOICE: assumption log 67). -/
def State.keepRuns (s : State) : Bool :=
  s.pair.tx.isSome || s.cml.acts.any fun e => decide (cfgPhase e.2.cfg = 3) && !s.suspended e.1

/-- A Keep spill (R42). -/
def State.keepSpill (s : State) : State :=
  if s.keepRuns then (((s.put F.TICK_STATUS_KEEP_SPILL 1).count F.TICK_FCNT1_KSPILL).event 0x0103 []).assertSrc 4 else s

/-- What the end of a tick judges (R41, R42, R208, R413, R424, R434). -/
def State.tickEnd (s : State) : State :=
  let s := if s.tick.faulted then s else s.put F.TICK_STATUS_CONSEC 0
  let s := { s with tick := { s.tick with faulted := false, settleOvr := false } }
  (s.keepSpill.judgeSources.grzEnd.canStrobe.countTrial.pulseTick).faultStop

/-! ## The boundary and the new tick (R18, R28) -/

/-- An accepted period takes effect, and admission runs (R18, R243). -/
def State.takePeriod (s : State) : State :=
  match s.tick.newPeriod with
  | none => s
  | some sel =>
    let same := decide (s.f F.TICK_PERIOD_SEL = sel)
    let busy := decide (s.azs.admitting = some .load)
    let s := ({ s with tick := { s.tick with newPeriod := none } }.put F.TICK_PERIOD_SEL sel).showDelays
    if same || busy then s else s.admitBatch .period

/-- CML_COREn.BUSY: the share of the tick that core n ran a context, in per cent (R187). -/
def State.showBusy (s : State) : State :=
  let t := 500 * s.periodUs
  let s := (List.range 6).foldl (fun s n => s.put (F.CML_CORE_BUSY n) (min 100 (tget 0 s.cml.busy n * 100 / t))) s
  { s with cml := { s.cml with busy := [] } }

/-- TICK_LOAD of the tick that has ended: the interconnect's occupancy is outside the model, and free. -/
def State.showLoad (s : State) : State :=
  let (a, s) := s.draw 101
  let (p, s) := s.draw 101
  (s.put F.TICK_LOAD_AVG a).put F.TICK_LOAD_PEAK p

/-- What takes effect at a tick boundary, in order: period, admitted table, swap, tick number, alignment, mode, takeover. -/
def State.boundary (s : State) : State :=
  let s := s.showBusy.showLoad.takePeriod.installTable.swapBoundary
  let s := { s with tick := { s.tick with cycles := 0 } }
  ((s.setReg64 R.TICK_NUM_LO (s.tickNo + 1)).alignTick).modeEdge.takeoverEdge

/-- DONE is about this tick (R181). -/
def State.clearDone (s : State) : State :=
  (s.listed (R.CML_TSTAT 0) 0x10 256).foldl (fun s e => s.put (F.CML_TSTAT_DONE e.1) 0) s

/-- Free periodic tasks that are due (R178). -/
def State.startPeriodic (s : State) : State :=
  if s.mode = .stop then s
  else ((s.dueIn 0).filter fun c => decide (cfgTrig (s.tcfg c) = 0)).foldl (·.activate ·) s

/-- The phase of TICK_PHASE, `us` µs after the Strobe. -/
def State.phaseAt (s : State) (us : Nat) : Nat :=
  if us < s.tenth then 0 else if us < 2 * s.tenth then 1 else if us < 7 * s.tenth then 2
  else if us < 8 * s.tenth - 2 then 3 else if us < 8 * s.tenth then 4 else 5

/-- The tick begins at the cycle that stands: 0, or the partner's phase after an alignment (R300). -/
def State.standStart (s : State) : State :=
  let us := s.tick.cycles / 500
  (s.put F.TICK_PHASE_PHASE (s.phaseAt us)).put F.TICK_PHASE_OFFSET us

/-- The Strobe of the tick whose number stands (R28, R63, R172, R174, R177, R332, R384, R433). -/
def State.beginTick (s : State) : State :=
  let s := s.standStart
  let s := { s with tick := { s.tick with strobeMono := s.mono, pulseUs := max 1 (s.f F.TICK_STROBE_WIDTH_WIDTH) },
                    pins := { s.pins with strobe := BitVec.ofNat 16 (s.f F.TICK_STROBE_EN) } }
  let s := (s.setReg64 R.CML_STAMP_LO (s.reg64 R.CML_STAMP_LO + 1)).clearDone
  let s := (s.takeEffect (R.CML_TCFG 0) (R.CML_TCFG 256)).takeEffect R.FILT_FB_CTRL (R.FILT_FB_CTRL + 4)
  let s := s.tokenRefill.prismStrobe.gnssStrobe.pairStrobe.grzStrobe.latchPoints
  s.startPeriodic.sched.showCkpt

/-- STROBE: the rest of a tick passes, and its end, the boundary and the next tick's Strobe follow (R22). -/
def State.strobe (s : State) : State := (s.reach s.periodUs).tickEnd.boundary.beginTick

/-- STROBE (R28). -/
def execStrobe (s : State) : Host.Outcome State Fault Refusal := .next (s.whenRunning State.strobe)

/-- STROBE_PULSE_END: WIDTH µs after the Strobe, by the width that applied at it, the lines return to their inactive level (R28, R46). -/
def State.pulseEnd (s : State) : State :=
  { (if s.tick.running then s.reach s.tick.pulseUs else s) with pins := { s.pins with strobe := 0 } }

/-- STROBE_PULSE_END (R28). -/
def execStrobePulseEnd (s : State) : Host.Outcome State Fault Refusal := .next s.pulseEnd

/-- The levels of the Strobe lines: a line in its pulse stands low where its POL bit is set and high where it is clear, and every other line
stands at the opposite, inactive level (R28, R46).  A write of EN during a pulse acts from the next Strobe, and one of POL at once (DESIGN
CHOICE: assumption log 67). -/
def State.strobeLevels (s : State) : BitVec 16 := s.pins.strobe ^^^ BitVec.ofNat 16 (s.f F.TICK_STROBE_POL)

/-! ## One cycle of the time island -/

/-- One 2 ns cycle of the time island: the bases and the tick count, and the next frame of a burst whose instant has come starts (R22, R357, R432). -/
def State.islandCycle (s : State) : State :=
  let s := s.elapse 1
  if s.sys.inReset = false ∧ s.tick.running then s.grzCycle else s

end Sys2Proof.Machine
end

