-- ==== Sys2Proof/Machine/System.lean ====
section
/-!
DEFINITION. Machine/System.lean: power failure, reset and straps, the reference, temperature and hold-up readings, JTAG and the test
multiplexers (R463, R468 to R480).
-/
namespace Sys2Proof.Machine

/-! ## Power failure (R469, R470) -/

/-- No task runs after the indication: activations end, and the fall-back context stops. -/
def State.stopCores (s : State) : State :=
  ({ s with cml := { s.cml with fbCore := none }, prism := { s.prism with fbRuns := false, capturing := false, ran := false } }.dropTasks).showCores

/-- The array, Prism, the GNSS radio die, the networks, CAN and the pair link are shed, and an MRAM write of a checkpoint generation stops: what
they had under way is lost (R327, R470). -/
def State.shed (s : State) : State :=
  let s := s.put F.AZS_STATUS_ACTIVE 0
  { s with
    azs := { s.azs with staged := [], after := [], batch := [], crossing := none, admitting := none }
    gnss := { s.gnss with channels := [], acq := none }
    grz := { s.grz with burst := false, todo := [], late := [] }
    can := s.can.map fun e => (e.1, { e.2 with launched := [], waiting := [], now := [] })
    pair := { s.pair with paired := false, tx := none, txAgain := [], txBlocks := [], rx := {}, takeover := none }
    prg := { s.prg with writing := none }
    net := { s.net with guarded := [], rings := s.net.rings.map fun e => (e.1, { e.2 with sending := false }) } }

/-- POWER_FAIL_INDICATION, with the level of PWR_FAIL_N and the rails that stand above their thresholds: ignored in reset and once Afterglow has
begun. -/
def State.powerFail (s : State) (pin : Bool) (rails : BitVec 4) : State :=
  if s.sys.inReset || s.b F.REC_STATUS_AFTERGLOW then s
  else
    let s := (s.putb F.SYS_PWR_PF_PIN pin).put F.SYS_PWR_RAIL_OK rails.toNat
    ((((s.setClaim false).stopCores).shed).lanShutdown).afterglowStart

/-- POWER_FAIL_INDICATION (R469). -/
def execPowerFailIndication (pin : Bool) (rails : BitVec 4) (s : State) : Host.Outcome State Fault Refusal := .next (s.powerFail pin rails)

/-! ## Reset (R463, R470, R472) -/

/-- Registers that a reset leaves: the role record's and the power-cycle count's. -/
def keptReg (a : Nat) : Bool := decide (a = R.PRG_ROLES) || decide (a = R.REC_PCYC)

/-- Every island but the always-on one is reset; `power`: VDD_CORE falls, so MONO starts again and the memories outside MRAM lose what they held
(assumption log 43).  What stands in MRAM and in the always-on island stays. -/
def State.enterReset (s : State) (causes : Word) (power : Bool) : State :=
  let r := State.reset
  let t := s.b F.PRG_STATUS_TRIAL
  let s : State := { r with
    variant := s.variant
    pending := s.pending
    mem := if power then s.mem.filter fun e => decide (regionOf e.1 = .mram) else s.mem
    regs := s.regs.filter fun e => keptReg e.1
    recorder := { r.recorder with next := s.recorder.next }
    irq := { r.irq with aon := s.irq.aon }
    time := if power then {} else { bases := tset {} [] 0 (s.base 0) }
    aon := if power then { s.aon with opsec := s.opsec } else s.aon
    gnss := { eph := s.gnss.eph, almanac := s.gnss.almanac, position := s.gnss.position, place := s.gnss.place, drift := s.gnss.drift,
              elevs := s.gnss.elevs, glonass := s.gnss.glonass }
    prg := { gens := s.prg.gens }
    sys :=
      let t := if power then 0 else s.mono
      { s.sys with inReset := true, coreOn := s.sys.coreOn && !power, causes := causes, holdAt := t, tjAt := t }
    freeCtr := s.freeCtr }
  s.putb F.PRG_STATUS_TRIAL t

/-- RESET_ENTRY: the recorder's and Lantern's sequences have ended; the converter stops, and the held rails with it (R470). -/
def State.resetEntry (s : State) : State :=
  if s.b F.REC_STATUS_AFTERGLOW && s.recorder.closed && decide (s.f F.LAN_STATUS_STATE ≠ 4) then s.enterReset 0xA true else s

/-- RESET_ENTRY (R470). -/
def execResetEntry (s : State) : Host.Outcome State Fault Refusal := .next s.resetEntry

/-- CONVERTER_STOP: the hold-up capacitor is empty before Afterglow has ended. -/
def State.converterStop (s : State) : State := if s.b F.REC_STATUS_AFTERGLOW then s.enterReset 2 true else s

/-- CONVERTER_STOP (R470). -/
def execConverterStop (s : State) : Host.Outcome State Fault Refusal := .next s.converterStop

/-- PIN_RESET: RST_N low for at least 10 µs; in a reset that stands already its cause joins the others. -/
def State.pinReset (s : State) : State :=
  if s.sys.inReset then { s with sys := { s.sys with causes := s.sys.causes ||| 4 } } else s.enterReset 4 false

/-- PIN_RESET (R472). -/
def execPinReset (s : State) : Host.Outcome State Fault Refusal := .next s.pinReset

/-- AON_LOSS: the always-on island is reset: calendar, counts, latches and kept GNSS data are lost. -/
def State.aonLoss (s : State) : State :=
  { s.setReg R.REC_PCYC 0 with
    aon := {}
    irq := { s.irq with aon := [] }
    gnss := { s.gnss with eph := [], almanac := [], position := none, place := [], drift := none, elevs := [], glonass := [] }
    sys := { s.sys with causes := s.sys.causes ||| 0x10 } }

/-- AON_LOSS (R472). -/
def execAonLoss (s : State) : Host.Outcome State Fault Refusal := .next s.aonLoss

/-! ## Release (R329, R359, R473, R474) -/

/-- Operating seconds and power-cycle count of the newest of n stored records that carries them (R321). -/
def State.newestCarrying (s : State) (f : Nat → Option Nat) : Nat → Nat
  | 0 => 0
  | n + 1 => match f (mramBase + 64 * n) with
    | some v => v
    | none => s.newestCarrying f n

/-- The operating seconds that the record at `a` carries: in the payload of a Power-up or an Afterglow-end record, in the seconds of one without
calendar time (R319 to R321). -/
def State.carriedOpsec (s : State) (a : Nat) : Option Nat :=
  let code := s.rd (a + 0x18) 2
  if code = 0x0F00 ∨ code = 0x0F05 then some (s.rd (a + 0x28) 8) else if s.rd (a + 0x1A) 1 % 2 = 0 then some (s.rd (a + 8) 8) else none

/-- The power-cycle count that the record at `a` carries. -/
def State.carriedPcyc (s : State) (a : Nat) : Option Nat :=
  if s.rd (a + 0x18) 2 = 0x0F00 then some (s.rd (a + 0x20) 4) else if s.rd (a + 0x1A) 1 % 2 = 0 then some (s.rd (a + 0x10) 4) else none

/-- The counts at power-up: after a loss of VDD_AON each resumes from the store where that is larger (R321). -/
def State.resumeCounts (s : State) (aonKept por : Bool) : State :=
  let n := if aonKept then 0 else s.f F.REC_USED_USED
  let s := { s with aon := { s.aon with opsec := max s.aon.opsec (s.newestCarrying s.carriedOpsec n) } }
  let pcyc := max (s.reg R.REC_PCYC).toNat (s.newestCarrying s.carriedPcyc n) + b2n por
  s.setReg R.REC_PCYC (BitVec.ofNat 32 pcyc)

/-- The recorder after a reset, with the Power-up record (R320, R329, R330). -/
def State.recorderStart (s : State) (aonKept por : Bool) : State :=
  let s := (s.recorderPowerUp aonKept).resumeCounts aonKept por
  let u := s.f F.REC_STATUS_UNCLEAN
  let s := s.record 0x0F00 (pay [.u32 (s.reg R.REC_PCYC).toNat, .u64 s.opsec, .u32 u, .u32 (s.f F.REC_USED_USED)])
  if u = 0 then s else s.assertSrc 194

/-- TAI is loaded from the calendar clock less the offset last in force (R359). -/
def State.loadTai (s : State) : State :=
  let c := s.calendarNow
  if s.aon.calValid then s.setBase 1 { c with sec := ((c.sec : Int) - s.aon.lastOff).toNat } else s

/-- RESET_RELEASE: causes and straps are shown, the reference is chosen, the recorder finds its place, the load at power-up begins. -/
def State.release_ (s : State) (x : Straps) : State :=
  if s.sys.inReset then
    let c := s.sys.causes
    let s := { s with sys := { s.sys with inReset := false, coreOn := true, causes := 0, releasedAt := s.mono } }.setReg R.SYS_RESET c
    let s := ((s.putb F.SYS_STRAP_PAIR_POS x.pairPos).putb F.PAIR_STATUS_POS (!x.pairPos))
    let s := (s.putb F.SYS_STRAP_REF_EXT x.refExt).putb F.SYS_STRAP_BOOT_STOP x.bootStop
    let ref := x.refExt && x.extPresent
    let s := ((s.putb F.SYS_CLK_EXT_OK x.extPresent).putb F.SYS_CLK_REF ref).putb F.TIME_STATUS_REF ref
    let s := (s.loadTai).recorderStart (!c.getLsbD 4) (c.getLsbD 1)
    let s := s.readRoles
    let s := { s with prg := { s.prg with loading := some .boot } }
    if s.b F.GNSS_CTRL_EN then s.gnssStart s.fastest else s
  else s

/-- RESET_RELEASE (R472). -/
def execResetRelease (straps : Straps) (s : State) : Host.Outcome State Fault Refusal := .next (s.release_ straps)

/-- PLL_LOCK: the tick sequencer starts with tick 0, in Stop, and TICK starts again at 0 (R22, R355, R473). -/
def State.pllLock (s : State) : State :=
  if s.sys.inReset || s.tick.running then s
  else ({ s.put F.SYS_CLK_PLL_LOCK 1 with tick := { s.tick with running := true } }.setBase 3 {}).beginTick

/-- PLL_LOCK (R473). -/
def execPllLock (s : State) : Host.Outcome State Fault Refusal := .next s.pllLock

/-- RST_OUT_RELEASE: 1 ms after the release (R473). -/
def State.rstOut (s : State) : State :=
  if s.sys.inReset then s
  else s.whenDue (s.cyclesTo 0 (s.sys.releasedAt + msUnits)) fun s => { s with pins := { s.pins with rstOut := true, phyRst := true } }

/-- RST_OUT_RELEASE (R473). -/
def execRstOutRelease (s : State) : Host.Outcome State Fault Refusal := .next s.rstOut

/-! ## Readings (R468, R480) -/

/-- HOLD_V_UPDATE, in units of 0.1 V. -/
def State.takeHoldV (s : State) (v : Nat) : State :=
  let s := { s with sys := { s.sys with holdAt := s.mono } }.put F.SYS_PWR_HOLD_V v
  let low := decide (v < 105)
  if s.b F.SYS_PWR_HOLD_LOW = low then s else (s.putb F.SYS_PWR_HOLD_LOW low).event 0x0002 []

/-- HOLD_V_UPDATE, every 1 ms (R480). -/
def State.holdV (s : State) (v : Nat) : State := s.whenDue (s.cyclesTo 0 (s.sys.holdAt + msUnits)) (·.takeHoldV v)

/-- HOLD_V_UPDATE (R480). -/
def execHoldVUpdate (v : BitVec 8) (s : State) : Host.Outcome State Fault Refusal := .next (s.holdV v.toNat)

/-- TJ_UPDATE, in units of 0.1 °C. -/
def State.takeTj (s : State) (t : Half) : State :=
  let s := { s with sys := { s.sys with tjAt := s.mono } }.put F.SYS_TEMP_TJ t.toNat
  if 1200 < t.toInt ∧ s.b F.SYS_TEMP_HOT = false then (s.put F.SYS_TEMP_HOT 1).event 0x0001 [] else s

/-- TJ_UPDATE, every 1 ms (R480). -/
def State.tjUpdate (s : State) (t : Half) : State := s.whenDue (s.cyclesTo 0 (s.sys.tjAt + msUnits)) (·.takeTj t)

/-- TJ_UPDATE (R468). -/
def execTjUpdate (t : Half) (s : State) : Host.Outcome State Fault Refusal := .next (s.tjUpdate t)

/-! ## The reference (R476) -/

/-- REFERENCE_SWITCH: EXT_OK falls; a module that uses the external reference goes to its TCXO. -/
def State.extLost (s : State) : State :=
  let s := s.put F.SYS_CLK_EXT_OK 0
  if s.b F.SYS_CLK_REF then (s.put F.SYS_CLK_REF 0).refSwitch false else s

/-- REFERENCE_SWITCH (R476). -/
def execReferenceSwitch (s : State) : Host.Outcome State Fault Refusal := .next s.extLost

/-- REFERENCE_RETURN: a write of SYS_CLK with RETURN 1. -/
def execReferenceReturn (m : Master) (v : Word) (s : State) : Host.Outcome State Fault Refusal := .next (s.refReturn m (withBits v 31 31 1))

/-- EXT_OK_GAINED. -/
def execExtOkGained (s : State) : Host.Outcome State Fault Refusal := .next (s.put F.SYS_CLK_EXT_OK 1)

/-! ## JTAG (R479) -/

/-- An instruction takes its place. -/
def State.jtag (s : State) (j : Jtag) : State := { s with sys := { s.sys with jtag := j } }

/-- EXTEST, CLAMP and HIGHZ take effect only in Stop without a claim; else they execute as BYPASS and are recorded. -/
def State.jtagPins (s : State) (j : Jtag) : State :=
  if s.mode = .stop ∧ s.b F.PAIR_STATUS_CLAIM = false then s.jtag j else (s.jtag .bypass).event 0x0004 []

/-- IDCODE's word: the top digit is the die step. -/
def State.idcode (s : State) : Word := BitVec.ofNat 32 (s.variant.dieStep % 16 * 2 ^ 28 + 0x096004C7)

/-- BYPASS (R479). -/
def execBypass (s : State) : Host.Outcome State Fault Refusal := .next (s.jtag .bypass)
/-- IDCODE (R479). -/
def execIdcode (s : State) : Host.Outcome State Fault Refusal :=
  .next { s with sys := { s.sys with jtag := .idcode, tdr := s.idcode } }
/-- SAMPLE_PRELOAD (R479). -/
def execSamplePreload (s : State) : Host.Outcome State Fault Refusal := .next (s.jtag .samplePreload)
/-- EXTEST (R479). -/
def execExtest (s : State) : Host.Outcome State Fault Refusal := .next (s.jtagPins .extest)
/-- CLAMP (R479). -/
def execClamp (s : State) : Host.Outcome State Fault Refusal := .next (s.jtagPins .clamp)
/-- HIGHZ (R479). -/
def execHighz (s : State) : Host.Outcome State Fault Refusal := .next (s.jtagPins .highz)
/-- DBGACC (R479). -/
def execDbgacc (s : State) : Host.Outcome State Fault Refusal := .next (s.jtag .dbgacc)

/-! ## Test multiplexers (R478) -/

/-- A problem of the batch that has not ended uses lane x (R478). -/
def State.laneBusy (s : State) (x : Nat) : Bool :=
  (placement s.lanes s.residue s.azs.running).any fun e => s.azs.batch.contains e.q && decide (e.lane ≤ x ∧ x < e.lane + e.g)

/-- The level of a signal that is a level of the state; the pulses of an instant have none between commands, and a number not listed reads 0.
A lane is busy while the first unended problem of the batch on it has not ended, and a CAN transmit pin is recessive between commands (assumption
log 65). -/
def State.tmxSignal (s : State) (n : Nat) : Bool :=
  if n = 0x008 then s.beaconLevel
  else if n = 0x009 then s.ref10mLevel
  else if n = 0x00A then decide (s.tickNo % 2 = 1)
  else if 0x010 ≤ n ∧ n < 0x020 then decide ((s.base (n - 0x010)).sec % 2 = 1)
  else if 0x048 ≤ n ∧ n < 0x050 then s.level (n - 0x048) = 0
  else if 0x060 ≤ n ∧ n < 0x066 then s.f (F.CML_CORE_IDLE (n - 0x060)) = 0
  else if 0x068 ≤ n ∧ n < 0x06E then s.cml.acts.any fun e => decide (cfgCore e.2.cfg = n - 0x068 ∧ e.2.wait = .io)
  else if 0x080 ≤ n ∧ n < 0x180 then s.f (F.CML_TSTAT_STATE (n - 0x080)) = 2
  else if 0x180 ≤ n ∧ n < 0x1C0 then s.laneBusy (n - 0x180)
  else if n = 0x1C0 then s.b F.AZS_STATUS_ACTIVE
  else if n = 0x1C2 then s.azs.admitting.isSome
  else if n = 0x200 then s.prism.capturing
  else if n = 0x203 then s.prism.fbRuns
  else if n = 0x204 then s.b F.PRISM_STATUS_SPLIT_POS || s.b F.PRISM_STATUS_SPLIT_HDG
  else if 0x344 ≤ n ∧ n < 0x346 then s.b (if n = 0x344 then F.GNSS_STATUS_FIX0 else F.GNSS_STATUS_FIX1)
  else if 0x380 ≤ n ∧ n < 0x3A0 then decide (n % 4 = 3)
  else if 0x3C4 ≤ n ∧ n < 0x3C8 then (s.reg R.NET_STATUS).getLsbD (4 + (n - 0x3C4))
  else if n = 0x3E0 then s.b F.PAIR_STATUS_ECL_IN
  else if n = 0x3E1 then s.pair.filtered
  else if n = 0x3E2 then s.b F.PAIR_STATUS_CLAIM
  else if n = 0x3E3 then s.b F.PAIR_STATUS_OWNED
  else if n = 0x3E4 then s.pair.tx.isSome
  else if n = 0x3F0 then s.recorder.flush.isSome
  else if n = 0x3F1 ∨ n = 0x3FE then s.b F.REC_STATUS_AFTERGLOW
  else if n = 0x3F8 then (match s.lan.active with | some p => p.line.isSome | none => false)
  else if n = 0x3F9 then s.lan.active.isSome
  else decide (n = 0x3FF)

/-- The level of pin TMX[k] (R478). -/
def State.tmxPin (s : State) (k : Nat) : Bool :=
  s.b F.TMX_CTRL_EN && s.b (F.TMX_SEL_EN k) && (s.tmxSignal (s.f (F.TMX_SEL_SEL k)) != s.b (F.TMX_SEL_INV k))

end Sys2Proof.Machine
end

