-- ==== Sys2Proof/Machine/Dispatch.lean ====
section
/-!
DEFINITION. Machine/Dispatch.lean: one arm for each command, each a direct call of its meaning.
-/
namespace Sys2Proof.Machine

def exec (i : Instr) (s : State) : Host.Outcome State Fault Refusal :=
  match i with
  | .registerWrite m a v => Sys2Proof.Machine.execRegisterWrite m a v s
  | .busError m a width kind => Sys2Proof.Machine.execBusError m a width kind s
  | .lowWordRead m a => Sys2Proof.Machine.execLowWordRead m a s
  | .lowWordWrite m a v => Sys2Proof.Machine.execLowWordWrite m a v s
  | .highWordWrite m a v => Sys2Proof.Machine.execHighWordWrite m a v s
  | .strobe => Sys2Proof.Machine.execStrobe s
  | .strobePulseEnd => Sys2Proof.Machine.execStrobePulseEnd s
  | .scanEdge => Sys2Proof.Machine.execScanEdge s
  | .solveEdge => Sys2Proof.Machine.execSolveEdge s
  | .settleEdge => Sys2Proof.Machine.execSettleEdge s
  | .armPoint => Sys2Proof.Machine.execArmPoint s
  | .release => Sys2Proof.Machine.execRelease s
  | .faultStop => Sys2Proof.Machine.execFaultStop s
  | .tickPeriodWrite m v => Sys2Proof.Machine.execTickPeriodWrite m v s
  | .tickCounterClear m v => Sys2Proof.Machine.execTickCounterClear m v s
  | .sampleArrival n x => Sys2Proof.Machine.execSampleArrival n x s
  | .slipMask n => Sys2Proof.Machine.execSlipMask n s
  | .slipMaskLift n => Sys2Proof.Machine.execSlipMaskLift n s
  | .captureCutOff => Sys2Proof.Machine.execCaptureCutOff s
  | .resultCommit => Sys2Proof.Machine.execResultCommit s
  | .streamStale n => Sys2Proof.Machine.execStreamStale n s
  | .unmask n => Sys2Proof.Machine.execUnmask n s
  | .maskMultiplierDouble n => Sys2Proof.Machine.execMaskMultiplierDouble n s
  | .readmit n => Sys2Proof.Machine.execReadmit n s
  | .establishment k => Sys2Proof.Machine.execEstablishment k s
  | .establishmentTimeout k => Sys2Proof.Machine.execEstablishmentTimeout k s
  | .tablePatrol => Sys2Proof.Machine.execTablePatrol s
  | .predArm m v => Sys2Proof.Machine.execPredArm m v s
  | .prismGridWrite m v => Sys2Proof.Machine.execPrismGridWrite m v s
  | .estClr m v => Sys2Proof.Machine.execEstClr m v s
  | .fallbackCommit => Sys2Proof.Machine.execFallbackCommit s
  | .fbLate => Sys2Proof.Machine.execFbLate s
  | .trackRestart n => Sys2Proof.Machine.execTrackRestart n s
  | .mainReturn => Sys2Proof.Machine.execMainReturn s
  | .filterOutput k code overload strobe => Sys2Proof.Machine.execFilterOutput k code overload strobe s
  | .fillingEnd j => Sys2Proof.Machine.execFillingEnd j s
  | .warmingEnd j => Sys2Proof.Machine.execWarmingEnd j s
  | .add c rd rs1 rs2 => Sys2Proof.Machine.execAdd c rd rs1 rs2 s
  | .sub c rd rs1 rs2 => Sys2Proof.Machine.execSub c rd rs1 rs2 s
  | .and c rd rs1 rs2 => Sys2Proof.Machine.execAnd c rd rs1 rs2 s
  | .or c rd rs1 rs2 => Sys2Proof.Machine.execOr c rd rs1 rs2 s
  | .xor c rd rs1 rs2 => Sys2Proof.Machine.execXor c rd rs1 rs2 s
  | .sll c rd rs1 rs2 => Sys2Proof.Machine.execSll c rd rs1 rs2 s
  | .srl c rd rs1 rs2 => Sys2Proof.Machine.execSrl c rd rs1 rs2 s
  | .sra c rd rs1 rs2 => Sys2Proof.Machine.execSra c rd rs1 rs2 s
  | .slt c rd rs1 rs2 => Sys2Proof.Machine.execSlt c rd rs1 rs2 s
  | .sltu c rd rs1 rs2 => Sys2Proof.Machine.execSltu c rd rs1 rs2 s
  | .min c rd rs1 rs2 => Sys2Proof.Machine.execMin c rd rs1 rs2 s
  | .max c rd rs1 rs2 => Sys2Proof.Machine.execMax c rd rs1 rs2 s
  | .mul c rd rs1 rs2 => Sys2Proof.Machine.execMul c rd rs1 rs2 s
  | .mulh c rd rs1 rs2 => Sys2Proof.Machine.execMulh c rd rs1 rs2 s
  | .div c rd rs1 rs2 => Sys2Proof.Machine.execDiv c rd rs1 rs2 s
  | .divu c rd rs1 rs2 => Sys2Proof.Machine.execDivu c rd rs1 rs2 s
  | .rem c rd rs1 rs2 => Sys2Proof.Machine.execRem c rd rs1 rs2 s
  | .remu c rd rs1 rs2 => Sys2Proof.Machine.execRemu c rd rs1 rs2 s
  | .fadd c rd rs1 rs2 => Sys2Proof.Machine.execFadd c rd rs1 rs2 s
  | .fsub c rd rs1 rs2 => Sys2Proof.Machine.execFsub c rd rs1 rs2 s
  | .fmul c rd rs1 rs2 => Sys2Proof.Machine.execFmul c rd rs1 rs2 s
  | .fdiv c rd rs1 rs2 => Sys2Proof.Machine.execFdiv c rd rs1 rs2 s
  | .fsqrt c rd rs1 rs2 => Sys2Proof.Machine.execFsqrt c rd rs1 rs2 s
  | .fmin c rd rs1 rs2 => Sys2Proof.Machine.execFmin c rd rs1 rs2 s
  | .fmax c rd rs1 rs2 => Sys2Proof.Machine.execFmax c rd rs1 rs2 s
  | .fmadd c rd rs1 rs2 => Sys2Proof.Machine.execFmadd c rd rs1 rs2 s
  | .fabs c rd rs1 rs2 => Sys2Proof.Machine.execFabs c rd rs1 rs2 s
  | .fneg c rd rs1 rs2 => Sys2Proof.Machine.execFneg c rd rs1 rs2 s
  | .feq c rd rs1 rs2 => Sys2Proof.Machine.execFeq c rd rs1 rs2 s
  | .flt c rd rs1 rs2 => Sys2Proof.Machine.execFlt c rd rs1 rs2 s
  | .fle c rd rs1 rs2 => Sys2Proof.Machine.execFle c rd rs1 rs2 s
  | .fcvtDW c rd rs1 rs2 => Sys2Proof.Machine.execFcvtDW c rd rs1 rs2 s
  | .fcvtWD c rd rs1 rs2 => Sys2Proof.Machine.execFcvtWD c rd rs1 rs2 s
  | .fmvWD c rd rs1 rs2 => Sys2Proof.Machine.execFmvWD c rd rs1 rs2 s
  | .fmvDW c rd rs1 rs2 => Sys2Proof.Machine.execFmvDW c rd rs1 rs2 s
  | .nop c rd rs1 rs2 => Sys2Proof.Machine.execNop c rd rs1 rs2 s
  | .jr c rd rs1 rs2 => Sys2Proof.Machine.execJr c rd rs1 rs2 s
  | .mfs c rd rs1 n => Sys2Proof.Machine.execMfs c rd rs1 n s
  | .mts c n rs1 rs2 => Sys2Proof.Machine.execMts c n rs1 rs2 s
  | .fence c rd rs1 rs2 => Sys2Proof.Machine.execFence c rd rs1 rs2 s
  | .addi c rd rs1 imm => Sys2Proof.Machine.execAddi c rd rs1 imm s
  | .slti c rd rs1 imm => Sys2Proof.Machine.execSlti c rd rs1 imm s
  | .sltiu c rd rs1 imm => Sys2Proof.Machine.execSltiu c rd rs1 imm s
  | .andi c rd rs1 imm => Sys2Proof.Machine.execAndi c rd rs1 imm s
  | .ori c rd rs1 imm => Sys2Proof.Machine.execOri c rd rs1 imm s
  | .xori c rd rs1 imm => Sys2Proof.Machine.execXori c rd rs1 imm s
  | .lsi c rd rs1 imm => Sys2Proof.Machine.execLsi c rd rs1 imm s
  | .slli c rd rs1 imm => Sys2Proof.Machine.execSlli c rd rs1 imm s
  | .srli c rd rs1 imm => Sys2Proof.Machine.execSrli c rd rs1 imm s
  | .srai c rd rs1 imm => Sys2Proof.Machine.execSrai c rd rs1 imm s
  | .rori c rd rs1 imm => Sys2Proof.Machine.execRori c rd rs1 imm s
  | .ldI c rt rb off => Sys2Proof.Machine.execLdI c rt rb off s
  | .lwI c rt rb off => Sys2Proof.Machine.execLwI c rt rb off s
  | .lbI c rt rb off => Sys2Proof.Machine.execLbI c rt rb off s
  | .fldI c rt rb off => Sys2Proof.Machine.execFldI c rt rb off s
  | .stI c rt rb off => Sys2Proof.Machine.execStI c rt rb off s
  | .swI c rt rb off => Sys2Proof.Machine.execSwI c rt rb off s
  | .sbI c rt rb off => Sys2Proof.Machine.execSbI c rt rb off s
  | .fstI c rt rb off => Sys2Proof.Machine.execFstI c rt rb off s
  | .ldG c rt rb off => Sys2Proof.Machine.execLdG c rt rb off s
  | .lwG c rt rb off => Sys2Proof.Machine.execLwG c rt rb off s
  | .lbG c rt rb off => Sys2Proof.Machine.execLbG c rt rb off s
  | .fldG c rt rb off => Sys2Proof.Machine.execFldG c rt rb off s
  | .stG c rt rb off => Sys2Proof.Machine.execStG c rt rb off s
  | .swG c rt rb off => Sys2Proof.Machine.execSwG c rt rb off s
  | .sbG c rt rb off => Sys2Proof.Machine.execSbG c rt rb off s
  | .fstG c rt rb off => Sys2Proof.Machine.execFstG c rt rb off s
  | .beqz c rs off => Sys2Proof.Machine.execBeqz c rs off s
  | .bnez c rs off => Sys2Proof.Machine.execBnez c rs off s
  | .bltz c rs off => Sys2Proof.Machine.execBltz c rs off s
  | .bgez c rs off => Sys2Proof.Machine.execBgez c rs off s
  | .jal c rs off => Sys2Proof.Machine.execJal c rs off s
  | .fbcall c fa fb idx => Sys2Proof.Machine.execFbcall c fa fb idx s
  | .fbcallr c fa fb idx => Sys2Proof.Machine.execFbcallr c fa fb idx s
  | .fbret c fa fb idx => Sys2Proof.Machine.execFbret c fa fb idx s
  | .insta c fa fb idx => Sys2Proof.Machine.execInsta c fa fb idx s
  | .tmr c fa fb idx => Sys2Proof.Machine.execTmr c fa fb idx s
  | .edge c fa fb idx => Sys2Proof.Machine.execEdge c fa fb idx s
  | .subst c fa fb idx => Sys2Proof.Machine.execSubst c fa fb idx s
  | .slv c fa fb idx => Sys2Proof.Machine.execSlv c fa fb idx s
  | .slvw c fa fb idx => Sys2Proof.Machine.execSlvw c fa fb idx s
  | .slvwUnblock c => Sys2Proof.Machine.execSlvwUnblock c s
  | .slvr c fa fb idx => Sys2Proof.Machine.execSlvr c fa fb idx s
  | .prq c fa fb idx => Sys2Proof.Machine.execPrq c fa fb idx s
  | .prqStallEnd c => Sys2Proof.Machine.execPrqStallEnd c s
  | .chk c fa fb idx => Sys2Proof.Machine.execChk c fa fb idx s
  | .scanend c fa fb idx => Sys2Proof.Machine.execScanend c fa fb idx s
  | .brk c fa fb idx => Sys2Proof.Machine.execBrk c fa fb idx s
  | .breakpointHit c => Sys2Proof.Machine.execBreakpointHit c s
  | .illegalInstruction c word => Sys2Proof.Machine.execIllegalInstruction c word s
  | .cmlTrigWrite m v => Sys2Proof.Machine.execCmlTrigWrite m v s
  | .cmlDbgResume m v => Sys2Proof.Machine.execCmlDbgResume m v s
  | .cmlDbgStep m v => Sys2Proof.Machine.execCmlDbgStep m v s
  | .excValidClear m v => Sys2Proof.Machine.execExcValidClear m v s
  | .suspRelease m c v => Sys2Proof.Machine.execSuspRelease m c v s
  | .runWarm m => Sys2Proof.Machine.execRunWarm m s
  | .runCold m => Sys2Proof.Machine.execRunCold m s
  | .stop m => Sys2Proof.Machine.execStop m s
  | .hold m => Sys2Proof.Machine.execHold m s
  | .resume m => Sys2Proof.Machine.execResume m s
  | .load m => Sys2Proof.Machine.execLoad m s
  | .exchange m => Sys2Proof.Machine.execExchange m s
  | .rollback m => Sys2Proof.Machine.execRollback m s
  | .confirm m => Sys2Proof.Machine.execConfirm m s
  | .abort m => Sys2Proof.Machine.execAbort m s
  | .unknownCommand m v => Sys2Proof.Machine.execUnknownCommand m v s
  | .restoreComplete crcOk => Sys2Proof.Machine.execRestoreComplete crcOk s
  | .localSnapshot => Sys2Proof.Machine.execLocalSnapshot s
  | .snapshotWriteComplete => Sys2Proof.Machine.execSnapshotWriteComplete s
  | .trialConfirmed => Sys2Proof.Machine.execTrialConfirmed s
  | .autoRollback => Sys2Proof.Machine.execAutoRollback s
  | .stagingComplete => Sys2Proof.Machine.execStagingComplete s
  | .swapPoint => Sys2Proof.Machine.execSwapPoint s
  | .problemEnd q => Sys2Proof.Machine.execProblemEnd q s
  | .batchComplete => Sys2Proof.Machine.execBatchComplete s
  | .azsAdmit m v => Sys2Proof.Machine.execAzsAdmit m v s
  | .admissionComplete => Sys2Proof.Machine.execAdmissionComplete s
  | .azsCounterClear m v => Sys2Proof.Machine.execAzsCounterClear m v s
  | .shdDetectWrite m v => Sys2Proof.Machine.execShdDetectWrite m v s
  | .rebaseArm m v => Sys2Proof.Machine.execRebaseArm m v s
  | .shdCounterClear m v => Sys2Proof.Machine.execShdCounterClear m v s
  | .engineSample e => Sys2Proof.Machine.execEngineSample e s
  | .engineLoad e => Sys2Proof.Machine.execEngineLoad e s
  | .gpioEdge pin level => Sys2Proof.Machine.execGpioEdge pin level s
  | .pulseEdge p line level => Sys2Proof.Machine.execPulseEdge p line level s
  | .indexEdge p => Sys2Proof.Machine.execIndexEdge p s
  | .pulseRateUpdate => Sys2Proof.Machine.execPulseRateUpdate s
  | .pcntPreset p m v => Sys2Proof.Machine.execPcntPreset p m v s
  | .eclInRise => Sys2Proof.Machine.execEclInRise s
  | .eclInFilteredLow => Sys2Proof.Machine.execEclInFilteredLow s
  | .eclInFilteredHigh => Sys2Proof.Machine.execEclInFilteredHigh s
  | .eclTestPulse => Sys2Proof.Machine.execEclTestPulse s
  | .eclTestPulseEnd => Sys2Proof.Machine.execEclTestPulseEnd s
  | .eclOkLost => Sys2Proof.Machine.execEclOkLost s
  | .eclMismatch => Sys2Proof.Machine.execEclMismatch s
  | .helloFrame h crcOk => Sys2Proof.Machine.execHelloFrame h s crcOk
  | .linkTrainingTimeout => Sys2Proof.Machine.execLinkTrainingTimeout s
  | .healthWord w offset crcOk => Sys2Proof.Machine.execHealthWord w offset s crcOk
  | .linkLost => Sys2Proof.Machine.execLinkLost s
  | .checkpointFrame crcOk n data => Sys2Proof.Machine.execCheckpointFrame crcOk n data s
  | .warmStartBlock q sig tick v crcOk => Sys2Proof.Machine.execWarmStartBlock q sig tick v s crcOk
  | .checkpointCommit r => Sys2Proof.Machine.execCheckpointCommit r s
  | .resync m v => Sys2Proof.Machine.execResync m v s
  | .refreshRequest crcOk => Sys2Proof.Machine.execRefreshRequest s crcOk
  | .mirrorFrame vals crcOk => Sys2Proof.Machine.execMirrorFrame vals s crcOk
  | .memoryPatrol corr unc inCommitted => Sys2Proof.Machine.execMemoryPatrol corr unc inCommitted s
  | .laneSelfTest passes => Sys2Proof.Machine.execLaneSelfTest passes s
  | .encoderCheck n crc => Sys2Proof.Machine.execEncoderCheck n crc s
  | .swapFrame crcOk => Sys2Proof.Machine.execSwapFrame s crcOk
  | .forwardedCommand cmd ver crcOk => Sys2Proof.Machine.execForwardedCommand cmd ver s crcOk
  | .eventRecord code payload => Sys2Proof.Machine.execEventRecord code payload s
  | .submit m v => Sys2Proof.Machine.execSubmit m v s
  | .recordCommit => Sys2Proof.Machine.execRecordCommit s
  | .flush m v => Sys2Proof.Machine.execFlush m v s
  | .flushEnd => Sys2Proof.Machine.execFlushEnd s
  | .recModeWrite m v => Sys2Proof.Machine.execRecModeWrite m v s
  | .afterglowEnd => Sys2Proof.Machine.execAfterglowEnd s
  | .recSnapshot m v => Sys2Proof.Machine.execRecSnapshot m v s
  | .readWindow m v => Sys2Proof.Machine.execReadWindow m v s
  | .readReady m => Sys2Proof.Machine.execReadReady m s
  | .clearRequest m v => Sys2Proof.Machine.execClearRequest m v s
  | .clearResponse m v => Sys2Proof.Machine.execClearResponse m v s
  | .challengeExpiry => Sys2Proof.Machine.execChallengeExpiry s
  | .clearLockEnd => Sys2Proof.Machine.execClearLockEnd s
  | .recCounterClear m v => Sys2Proof.Machine.execRecCounterClear m v s
  | .sourceAssert n => Sys2Proof.Machine.execSourceAssert n s
  | .coalesceTimeout n => Sys2Proof.Machine.execCoalesceTimeout n s
  | .delivery => Sys2Proof.Machine.execDelivery s
  | .deliveryCommit => Sys2Proof.Machine.execDeliveryCommit s
  | .stampOnlyDelivery n => Sys2Proof.Machine.execStampOnlyDelivery n s
  | .maskWrite m j v => Sys2Proof.Machine.execMaskWrite m j v s
  | .maskRead m j => Sys2Proof.Machine.execMaskRead m j s
  | .pendClear m j v => Sys2Proof.Machine.execPendClear m j v s
  | .softwareSourceSet m v => Sys2Proof.Machine.execSoftwareSourceSet m v s
  | .aonLatch n => Sys2Proof.Machine.execAonLatch n s
  | .aonTransfer n => Sys2Proof.Machine.execAonTransfer n s
  | .interruptFrame n crcOk => Sys2Proof.Machine.execInterruptFrame n s crcOk
  | .irqCounterClear m v => Sys2Proof.Machine.execIrqCounterClear m v s
  | .incWrite m b v => Sys2Proof.Machine.execIncWrite m b v s
  | .timeSnap m v => Sys2Proof.Machine.execTimeSnap m v s
  | .fracRead m b => Sys2Proof.Machine.execFracRead m b s
  | .phaseError sec => Sys2Proof.Machine.execPhaseError sec s
  | .holdover => Sys2Proof.Machine.execHoldover s
  | .setTai m => Sys2Proof.Machine.execSetTai m s
  | .realign m => Sys2Proof.Machine.execRealign m s
  | .leapEntryWrite m k v => Sys2Proof.Machine.execLeapEntryWrite m k v s
  | .leapAnnouncement te off => Sys2Proof.Machine.execLeapAnnouncement te off s
  | .leapSecond => Sys2Proof.Machine.execLeapSecond s
  | .beacon => Sys2Proof.Machine.execBeacon s
  | .beaconPulseEnd => Sys2Proof.Machine.execBeaconPulseEnd s
  | .calendarUpdate => Sys2Proof.Machine.execCalendarUpdate s
  | .referenceSwitch => Sys2Proof.Machine.execReferenceSwitch s
  | .referenceReturn m v => Sys2Proof.Machine.execReferenceReturn m v s
  | .crystalLost => Sys2Proof.Machine.execCrystalLost s
  | .epochRecordCommit e => Sys2Proof.Machine.execEpochRecordCommit e s
  | .checkClear k => Sys2Proof.Machine.execCheckClear k s
  | .acquisitionPass c sys sat out elev => Sys2Proof.Machine.execAcquisitionPass c sys sat out elev s
  | .band2Handover c sys sat => Sys2Proof.Machine.execBand2Handover c sys sat s
  | .lossOfLock c sys sat band2 => Sys2Proof.Machine.execLossOfLock c sys sat band2 s
  | .localSearchEnd c sys sat band2 => Sys2Proof.Machine.execLocalSearchEnd c sys sat band2 s
  | .noLockRestart c => Sys2Proof.Machine.execNoLockRestart c s
  | .vrefArm m v => Sys2Proof.Machine.execVrefArm m v s
  | .fastestStart m => Sys2Proof.Machine.execFastestStart m s
  | .hotStart m => Sys2Proof.Machine.execHotStart m s
  | .warmStart m => Sys2Proof.Machine.execWarmStart m s
  | .coldStart m => Sys2Proof.Machine.execColdStart m s
  | .gnssSleepCmd m => Sys2Proof.Machine.execGnssSleepCmd m s
  | .gnssWakeCmd m => Sys2Proof.Machine.execGnssWakeCmd m s
  | .firstFix => Sys2Proof.Machine.execFirstFix s
  | .gnssSleep => Sys2Proof.Machine.execGnssSleep s
  | .gnssWakeTimer => Sys2Proof.Machine.execGnssWakeTimer s
  | .canFrameReceived k f => Sys2Proof.Machine.execCanFrameReceived k f s
  | .txQueue k m v => Sys2Proof.Machine.execTxQueue k m v s
  | .txCancel k m v => Sys2Proof.Machine.execTxCancel k m v s
  | .txLaunchTime k b => Sys2Proof.Machine.execTxLaunchTime k b s
  | .windowStart k w => Sys2Proof.Machine.execWindowStart k w s
  | .txEnd k b => Sys2Proof.Machine.execTxEnd k b s
  | .txError k b lec => Sys2Proof.Machine.execTxError k b lec s
  | .cycleStart k busBusy => Sys2Proof.Machine.execCycleStart k busBusy s
  | .referenceMessage k cycle ident => Sys2Proof.Machine.execReferenceMessage k cycle ident s
  | .syncLoss k => Sys2Proof.Machine.execSyncLoss k s
  | .busOffRecovery k => Sys2Proof.Machine.execBusOffRecovery k s
  | .recover k m v => Sys2Proof.Machine.execRecover k m v s
  | .canSleep k m v => Sys2Proof.Machine.execCanSleep k m v s
  | .canWake k x => Sys2Proof.Machine.execCanWake k s x
  | .fifoReadAdvance k m v => Sys2Proof.Machine.execFifoReadAdvance k m v s
  | .sourceTimeout u => Sys2Proof.Machine.execSourceTimeout u s
  | .ethernetFrameReceived port f => Sys2Proof.Machine.execEthernetFrameReceived port f s
  | .prpEntryForget p src seq => Sys2Proof.Machine.execPrpEntryForget p src seq s
  | .supervisionFrame p => Sys2Proof.Machine.execSupervisionFrame p s
  | .lanStateChange port link silent => Sys2Proof.Machine.execLanStateChange port link silent s
  | .txDescriptorSubmit p m v => Sys2Proof.Machine.execTxDescriptorSubmit p m v s
  | .rxDescriptorFree p m v => Sys2Proof.Machine.execRxDescriptorFree p m v s
  | .burstDelayedStart lanB => Sys2Proof.Machine.execBurstDelayedStart lanB s
  | .udpbcDatagram dg => Sys2Proof.Machine.execUdpbcDatagram dg s
  | .sentence k chars => Sys2Proof.Machine.execSentence k chars s
  | .msixUnmask n => Sys2Proof.Machine.execMsixUnmask n s
  | .pcieLinkChange up gen width msix => Sys2Proof.Machine.execPcieLinkChange up gen width msix s
  | .hostServiceRequest req => Sys2Proof.Machine.execHostServiceRequest req s
  | .grzInputFrame g => Sys2Proof.Machine.execGrzInputFrame g s
  | .serviceRequest g => Sys2Proof.Machine.execServiceRequest g s
  | .serviceSend m v => Sys2Proof.Machine.execServiceSend m v s
  | .serviceResponseSent r => Sys2Proof.Machine.execServiceResponseSent r s
  | .serviceSlotFree m v => Sys2Proof.Machine.execServiceSlotFree m v s
  | .lanternEnable m v => Sys2Proof.Machine.execLanternEnable m v s
  | .commonDriveStart => Sys2Proof.Machine.execCommonDriveStart s
  | .gclrRelease => Sys2Proof.Machine.execGclrRelease s
  | .lanternDisable m v => Sys2Proof.Machine.execLanternDisable m v s
  | .shutdownClear => Sys2Proof.Machine.execShutdownClear s
  | .shutdownVcomOff => Sys2Proof.Machine.execShutdownVcomOff s
  | .shutdownDischarge => Sys2Proof.Machine.execShutdownDischarge s
  | .shutdownEnd => Sys2Proof.Machine.execShutdownEnd s
  | .updateRequest m v => Sys2Proof.Machine.execUpdateRequest m v s
  | .lineWrite => Sys2Proof.Machine.execLineWrite s
  | .framebufferWrite m a data => Sys2Proof.Machine.execFramebufferWrite m a data s
  | .vcomToggle z => Sys2Proof.Machine.execVcomToggle z s
  | .temperatureSample ohm => Sys2Proof.Machine.execTemperatureSample ohm s
  | .powerFailIndication pin rails => Sys2Proof.Machine.execPowerFailIndication pin rails s
  | .resetEntry => Sys2Proof.Machine.execResetEntry s
  | .pinReset => Sys2Proof.Machine.execPinReset s
  | .resetRelease straps => Sys2Proof.Machine.execResetRelease straps s
  | .pllLock => Sys2Proof.Machine.execPllLock s
  | .rstOutRelease => Sys2Proof.Machine.execRstOutRelease s
  | .aonLoss => Sys2Proof.Machine.execAonLoss s
  | .holdVUpdate v => Sys2Proof.Machine.execHoldVUpdate v s
  | .tjUpdate t => Sys2Proof.Machine.execTjUpdate t s
  | .bypass => Sys2Proof.Machine.execBypass s
  | .idcode => Sys2Proof.Machine.execIdcode s
  | .samplePreload => Sys2Proof.Machine.execSamplePreload s
  | .extest => Sys2Proof.Machine.execExtest s
  | .clamp => Sys2Proof.Machine.execClamp s
  | .highz => Sys2Proof.Machine.execHighz s
  | .dbgacc => Sys2Proof.Machine.execDbgacc s
  | .eclInFall => Sys2Proof.Machine.execEclInFall s
  | .linkTrained lanes => Sys2Proof.Machine.execLinkTrained lanes s
  | .checkpointTransferEnd failed => Sys2Proof.Machine.execCheckpointTransferEnd s failed
  | .loadComplete => Sys2Proof.Machine.execLoadComplete s
  | .extOkGained => Sys2Proof.Machine.execExtOkGained s
  | .ringLaunchTime p => Sys2Proof.Machine.execRingLaunchTime p s
  | .ringFrameSent p => Sys2Proof.Machine.execRingFrameSent p s
  | .outputBurstEnd => Sys2Proof.Machine.execOutputBurstEnd s
  | .converterStop => Sys2Proof.Machine.execConverterStop s
  | .canBusError k lec heavy => Sys2Proof.Machine.execCanBusError k lec heavy s

end Sys2Proof.Machine
end

