-- ==== Sys2Proof/WellFormed.lean ====
section
/-!
DEFINITION. WellFormed.lean: the bounds of a command's operands that their types do not hold already.
-/
namespace Sys2Proof

/-- Data bytes of a CAN frame by its DLC (R391, R395): above 8, CAN FD counts 12, 16, 20, 24, 32, 48 and 64. -/
def dlcLen (fdf : Bool) (dlc : Nat) : Nat :=
  if dlc ≤ 8 then dlc
  else if fdf = false then 8
  else match dlc with
    | 9 => 12
    | 10 => 16
    | 11 => 20
    | 12 => 24
    | 13 => 32
    | 14 => 48
    | _ => 64

/-- A CAN frame carries the bytes its DLC says; a remote frame carries none and is no FD frame. -/
def CanFrame.wf (f : CanFrame) : Bool :=
  if f.rtr then !f.fdf && decide (f.data.length = 0) else decide (f.data.length = dlcLen f.fdf f.dlc.toNat)

/-- A Grezhasel frame holds at most 1,440 data bytes (R430). -/
def GrzFrame.wf (g : GrzFrame) : Bool := decide (g.data.length ≤ 1440)

/-- A system function instance has four digits (R423). -/
def Datagram.wf (d : Datagram) : Bool := decide (d.inst ≤ 9999)

/-- What an Ethernet frame carries is well formed, and the frame is no longer than one tagged frame (R418). -/
def EthFrame.wf (f : EthFrame) : Bool :=
  decide (f.bytes.length ≤ 1518) &&
  (match f.body with
   | .datagram d => d.wf
   | .grzInput g => g.wf
   | .grzService g => g.wf
   | .hostRequest r => decide (r.length ≤ 1472)
   | .other => true)

/-- A chain's solution names three coordinates and three components of velocity (R379). -/
def ChainSol.wf (c : ChainSol) : Bool := decide (c.pos.length = 3) && decide (c.vel.length = 3)

/-- The operands of a command are within their bounds. -/
def Instr.wf (i : Instr) : Bool :=
  match i with
  | .busError _ _ width _ => decide (1 ≤ width)
  | .canFrameReceived _ f => f.wf
  | .ethernetFrameReceived _ f => f.wf
  | .udpbcDatagram d => d.wf
  | .grzInputFrame g => g.wf
  | .serviceRequest g => g.wf
  | .hostServiceRequest r => decide (r.length ≤ 1472)
  | .helloFrame h _ => (h.periodMs = 5 || h.periodMs = 10 || h.periodMs = 20) && decide (h.phase < 500000 * h.periodMs)
  | .checkpointFrame _ _ data => decide (data.length = 256)
  | .epochRecordCommit e => e.c0.wf && e.c1.wf && decide (e.blVec.length = 3) && e.sigs.all fun x => decide (x.elev ≤ 90) && decide (x.azim < 360)
  | .acquisitionPass _ _ _ _ elev => decide (elev ≤ 90)
  | .framebufferWrite _ _ data => decide (data ≠ [])
  | _ => true

end Sys2Proof
end

