-- ==== Sys2Proof/Machine/Step.lean ====
section
/-!
DEFINITION. Machine/Step.lean: one step: the command at the front of the queue, or, on an empty queue, one cycle of the time island.
-/
namespace Sys2Proof.Machine

/-- The state with other commands waiting. -/
def State.withPending (s : State) (l : List Instr) : State := { s with pending := l }

/-- One step (assumption log 1). -/
def step (s : State) : Host.Outcome State Fault Refusal :=
  match s.pending with
  | [] => .next s.islandCycle
  | c :: l => exec c (s.withPending l)

/-- The state with the command that a word spells put at the front of its queue. -/
def State.withFetchWord (s : State) (nbits w : Nat) : State :=
  match decodeTableWord nbits w with
  | some c => s.withPending (c :: s.pending)
  | none => s

end Sys2Proof.Machine
end

