-- ==== Sys2Proof/Safety.lean ====
section
/-!
DEFINITION. Safety.lean: what the statements mean by a safe state and a safe run.
-/
namespace Sys2Proof.Machine

/-- The tables that the state keeps are in their canonical form: registers and memory by increasing address, no entry at its default. -/
def State.tablesOk (s : State) : Bool := memWf s.mem && twf (fun a => regReset a) s.regs

/-- A register of the detectors, the interrupt controller or the recorder. -/
def logReg (a : Nat) : Bool := decide (blockOf a = 7) || decide (blockOf a = 14) || decide (blockOf a = 15)

/-- What an event or the assertion of a source leaves as it was: all but the recorder, the interrupt controller and the detectors with
their registers, and MRAM. -/
def State.logFrame (s t : State) : Prop :=
  ({ t with mem := s.mem, regs := s.regs, recorder := s.recorder, irq := s.irq, shd := s.shd } : State) = s ∧
  (∀ a, logReg a = false → t.reg a = s.reg a) ∧ (∀ a, a < mramBase → t.byte a = s.byte a)

/-- A change of memory alone. -/
def State.onlyMem (s t : State) : Prop := { t with mem := s.mem } = s

/-- Byte b lies outside the n bytes from a. -/
def outside (a n b : Nat) : Prop := b < a ∨ a + n ≤ b

/-- A run of n steps that no fault and no refusal ends. -/
def SafeFor (n : Nat) (s : State) : Prop := ∃ t, Host.Core.run Sys2Proof.core n s = .next t

/-- A state safe for every number of steps. -/
def Safe (s : State) : Prop := ∀ n, SafeFor n s

end Sys2Proof.Machine
end

