-- ==== Sys2Proof/Certificates/Slice0/Obligations.lean ====
section
/-!
DEFINITION. Certificates/Slice0/Obligations.lean: the statements about the model, each with the rules of spec/ that it rests on.
What several statements share stands first: when a context can fetch, what an instruction that completes does, and where one traps.
-/
namespace Sys2Proof.Machine

/-! ## Cumel instructions -/

/-- A context can fetch: its PC names a word of the program bank or of the ROM (R149, R150). -/
def State.canFetch (s : State) (c : Ctx) : Prop := s.pc c.toNat % 4 = 0 ∧ s.pc c.toNat ≤ 0x4FFFFF

/-- The state without the mark of a context that was just resumed at a breakpoint. -/
def State.unmark (s : State) (c : Ctx) : State := s.modAct c.toNat ({ · with skip := false })

/-- Byte a is no byte of the context's PC. -/
def offPc (c : Ctx) (a : Nat) : Prop := outside (slot c.toNat + 0x200) 4 a

/-- Byte a is no byte of w[r]; w0 keeps its bytes. -/
def offW (c : Ctx) (r : RegNo) (a : Nat) : Prop := r = 0 ∨ outside (slot c.toNat + 8 * r.toNat) 8 a

/-- Byte a is no byte of d[r], and none of FPFLAGS. -/
def offD (c : Ctx) (r : RegNo) (a : Nat) : Prop := outside (slot c.toNat + 0x100 + 8 * r.toNat) 8 a
def offFlags (c : Ctx) (a : Nat) : Prop := outside (slot c.toNat + 0x210) 4 a

/-- Nothing but memory changes, and in memory nothing outside the bytes that `P` leaves open. -/
def State.changesOnly (s t : State) (c : Ctx) (keep : Nat → Prop) : Prop :=
  (s.unmark c).onlyMem t ∧ ∀ a, offPc c a → keep a → t.byte a = s.byte a

/-- The instruction completes with PC at the next word, `v` in w[rd] (a write of w0 is discarded), and nothing else changed. -/
def writesW (i : Instr) (s : State) (c : Ctx) (rd : RegNo) (v : Dword) : Prop :=
  ∃ t, exec i s = .next t ∧ t.pc c.toNat = s.pc c.toNat + 4 ∧ t.w c.toNat rd.toNat = (if rd = 0 then 0 else v) ∧
    s.changesOnly t c (offW c rd)

/-- The same for a d register and the sticky bits of FPFLAGS. -/
def writesD (i : Instr) (s : State) (c : Ctx) (rd : RegNo) (r : FpRes) : Prop :=
  ∃ t, exec i s = .next t ∧ t.pc c.toNat = s.pc c.toNat + 4 ∧ t.d c.toNat rd.toNat = BitVec.ofNat 64 r.bits ∧
    t.fpflags c.toNat = (s.fpflags c.toNat ||| r.flags) % 32 ∧
    s.changesOnly t c (fun a => offD c rd a ∧ (r.flags = 0 ∨ offFlags c a))

/-- The same for an FP operation whose result is a w register. -/
def writesWF (i : Instr) (s : State) (c : Ctx) (rd : RegNo) (v : Dword) (fl : FpFlags) : Prop :=
  ∃ t, exec i s = .next t ∧ t.pc c.toNat = s.pc c.toNat + 4 ∧ t.w c.toNat rd.toNat = (if rd = 0 then 0 else v) ∧
    t.fpflags c.toNat = (s.fpflags c.toNat ||| fl) % 32 ∧
    s.changesOnly t c (fun a => offW c rd a ∧ (fl = 0 ∨ offFlags c a))

/-- The instruction completes with the given PC, and nothing else changed. -/
def setsPc (i : Instr) (s : State) (c : Ctx) (pc : Nat) : Prop :=
  ∃ t, exec i s = .next t ∧ t.pc c.toNat = pc ∧ s.changesOnly t c (fun _ => True)

/-- The instruction raises an exception, and none of its effects takes place (R184). -/
def raises (i : Instr) (s : State) (c : Ctx) (e : Exc) : Prop := exec i s = .next ((s.unmark c).excSched c.toNat e)

/-- The w registers and d registers of a context. -/
def State.wreg (s : State) (c : Ctx) (r : RegNo) : Dword := s.w c.toNat r.toNat
def State.dreg (s : State) (c : Ctx) (r : RegNo) : Nat := (s.d c.toNat r.toNat).toNat

/-- The offset in instance data that an `.I` access names, and where it is in memory (R156). -/
def State.offI (s : State) (c : Ctx) (rb : RegNo) (off : Half) : Int := (s.ib c.toNat : Int) + (s.wreg c rb).toInt + off.toNat
def State.addrI (s : State) (c : Ctx) (rb : RegNo) (off : Half) : Nat := 0x800000 + (s.offI c rb off).toNat

/-- The whole access lies in the current instance and in instance data (R156). -/
def State.insideI (s : State) (c : Ctx) (x : Int) (n : Nat) : Prop :=
  (s.ib c.toNat : Int) ≤ x ∧ x + n ≤ s.ib c.toNat + (s.typeEnt (s.tb c.toNat)).size ∧ 0 ≤ x ∧ x + n ≤ 0x400000

/-- An `.I` access of n bytes that takes place. -/
def State.goodI (s : State) (c : Ctx) (rb : RegNo) (off : Half) (n : Nat) : Prop :=
  s.offI c rb off % n = 0 ∧ s.insideI c (s.offI c rb off) n

/-- The 64-bit address of a `.G` access (R157). -/
def State.addrG (s : State) (c : Ctx) (rb : RegNo) (off : Half) : Nat := (s.wreg c rb + off.signExtend 64).toNat

/-- A `.G` access of n bytes to a memory, aligned, below 2⁴⁰, whole, and no store to the ROM. -/
def State.goodG (s : State) (c : Ctx) (rb : RegNo) (off : Half) (n : Nat) (k : AccessKind) : Prop :=
  s.addrG c rb off % n = 0 ∧ s.addrG c rb off < 2 ^ 40 ∧ badAccess (s.addrG c rb off) n k = false ∧
  regionOf (s.addrG c rb off) ≠ .registers

/-- A loaded value as a w register takes it (R154): 64 bits, 32 bits sign-extended, or one byte zero-extended. -/
def loaded64 (v : Nat) : Dword := BitVec.ofNat 64 v
def loaded32 (v : Nat) : Dword := (BitVec.ofNat 32 v).signExtend 64

/-- What memory holds while an instruction of c runs: PC is at the next word. -/
def State.running (s : State) (c : Ctx) : State := s.setPc c.toNat (s.pc c.toNat + 4)

/-- The page of a byte is marked dirty (R159): instance data always, global scratch where the page is checkpoint-relevant. -/
def State.marks (s : State) (a : Nat) (p : Nat) : Prop := pageOf a = some p ∧ (p < 1024 ∨ p ∈ s.cml.relevant)

/-- A store of the low n bytes of `v` at `a` completes: PC at the next word, those bytes, the dirty bit of the page, the lines of the
framebuffer that the bytes touch, and nothing else. -/
def stores (i : Instr) (s : State) (c : Ctx) (a n v : Nat) : Prop :=
  ∃ t, exec i s = .next t ∧
    (∀ b, t.byte b = if a ≤ b ∧ b < a + n ∧ writeIgnored b = false then BitVec.ofNat 8 (v / 256 ^ (b - a)) else (s.running c).byte b) ∧
    (∀ p, p ∈ t.cml.dirty ↔ p ∈ s.cml.dirty ∨ s.marks a p) ∧
    (∀ r, inArray r (R.LAN_DIRTY 0) 4 30 = false → t.reg r = s.reg r) ∧
    ({ t with mem := s.mem, regs := s.regs, cml := { t.cml with dirty := s.cml.dirty, steps := s.cml.steps } } : State) = s.unmark c

/-- A timer record's ET, Q and RUN after one execution, by MODE (R166). -/
def timerRule (mode pt p et : Nat) (q run prev inp adv : Bool) : Nat × Bool × Bool :=
  let rise := inp && !prev
  let fall := prev && !inp
  if mode = 1 then
    if inp then (0, true, false)
    else
      let run' := if fall then q else run
      let et' := if !fall && run && adv then min (et + p) pt else et
      if run' ∧ pt ≤ et' then (et', false, false) else (et', q, run')
  else if mode = 2 then
    let start := rise && !run
    let et1 := if start then 0 else if run && adv then min (et + p) pt else et
    let run1 := (run || start) && !decide (pt ≤ et1)
    (if !run1 && !inp then 0 else et1, run1, run1)
  else
    let et' := if !inp then 0 else if adv && !rise then min (et + p) pt else et
    (et', inp && decide (pt ≤ et'), run)

/-! ## Frames of the other commands -/

/-- Nothing but the listed registers changed. -/
def State.regsOnly (s t : State) (l : List Nat) : Prop :=
  ({ t with regs := s.regs } : State) = s ∧ ∀ a, a ∉ l → t.reg a = s.reg a

/-- Nothing but the listed registers changed, and what an event and the assertion of a source change. -/
def State.logAnd (s t : State) (l : List Nat) : Prop :=
  ({ t with mem := s.mem, regs := s.regs, recorder := s.recorder, irq := s.irq, shd := s.shd } : State) = s ∧
  (∀ a, logReg a = false → a ∉ l → t.reg a = s.reg a) ∧ ∀ a, a < mramBase → t.byte a = s.byte a

/-- A register that a write gives the bits its access codes allow, at once, and that acts on nothing else: the registers of R489 but for those
whose chapter says more of a write (their own commands and statements) and those of `laterReg`. -/
def ordinaryReg (a : Nat) : Bool :=
  match blockOf a with
  | 0 => a != R.SYS_CLK
  | 1 => !([R.TICK_PERIOD, R.TICK_CTRL].contains a)
  | 2 => false
  | 4 => !([R.PRISM_CTRL, R.PRISM_GRID, R.PRISM_PRED_HDG].contains a) && !inArray a (R.PRISM_SCFG 0) 0x10 24
  | 5 => !([R.FILT_FB_CTRL, R.FILT_FB_HWM].contains a) && !inArray a (R.FILT_CH 0) 0x10 24 && !inArray a (R.FILT_GL 0) 0x10 24
  | 6 => !([R.AZS_CTRL, R.AZS_PIVOT_EPS, R.AZS_DELTA].contains a)
  | 7 => !([R.SHD_CTRL, R.SHD_DETECT, R.SHD_REBASE].contains a) && !inArray a (R.SHD_SCEN 0) 4 64 && !inArray a (R.SHD_MAP 0) 4 256
  | 8 => !([R.LOOP_GPIO_DIR_LO, R.LOOP_GPIO_DIR_HI, R.LOOP_GPIO_CMD_LO, R.LOOP_GPIO_CMD_HI, R.LOOP_GPIO_OUT_LO, R.LOOP_GPIO_OUT_HI].contains a) &&
    !inArray a (R.LOOP_AOCFG 0) 8 16 && !inArray a (R.LOOP_AO 0) 8 16 && !inArray a (R.LOOP_PCFG 0) 0x10 8 &&
    !inArray a (R.LOOP_PCNT 0) 0x10 8 && !inArray a (R.LOOP_CFG 0) 0x40 32
  | 9 => !([R.GNSS_CTRL, R.GNSS_CMD, R.GNSS_VREF_HDG].contains a)
  | 10 => !([R.TIME_CMD, R.TIME_SNAP, R.TIME_SET_SECHI].contains a) && !lowRw a && !inArray a (R.TIME_INCHI 0) 0x20 16 &&
    !inArray a (R.TIME_LEAPOFF 0) 0x10 32
  | 12 => !([R.NET_SERBASE, R.NET_450BASE, R.GRZ_PIBASE, R.GRZ_SVCREQ, R.GRZ_SVCSEND].contains a) && !inArray a (R.NET_PRP 0) 0x20 2 &&
    !inArray a (R.NET_TXHT 0) 0x20 2 && !inArray a (R.NET_RXHT 0) 0x20 2 && !inArray a (R.NET_SERCFG 0) 8 28
  | 13 => !([R.PAIR_CTRL, R.PAIR_MIR_BASE].contains a)
  | 14 => !([R.IRQ_CTRL, R.IRQ_SWSET].contains a) && !inArray a (R.IRQ_MASK 0) 4 8 && !inArray a (R.IRQ_PEND 0) 4 8 && !inArray a (R.IRQ_CFG 0) 8 256
  | 16 => !([R.LAN_CTRL, R.LAN_GEOM, R.LAN_FBBASE, R.LAN_REQ, R.LAN_TEMP, R.LAN_TH_LO, R.LAN_TH_HI].contains a) && !inArray a (R.LAN_ZONE 0) 4 4
  | 17 => true
  | _ => false

/-- A register whose written word is in force only from its edge of the tick on (R100, R120, R246, R271, R272, R373). -/
def laterReg (a : Nat) : Bool :=
  [R.FILT_FB_CTRL, R.AZS_PIVOT_EPS, R.AZS_DELTA, R.LOOP_GPIO_CMD_LO, R.LOOP_GPIO_CMD_HI, R.GNSS_CTRL].contains a ||
  inArray a (R.FILT_GL 0) 0x10 24 || inArray a (R.SHD_SCEN 0) 4 64 || inArray a (R.SHD_MAP 0) 4 256

/-- The edge of phase p, `us` µs after the Strobe: TICK_PHASE and the sequencer's count stand there, and the cycles up to it have passed. -/
def State.standsAt (s t : State) (p us : Nat) : Prop :=
  t.f F.TICK_PHASE_PHASE = p ∧ t.f F.TICK_PHASE_OFFSET = us ∧ t.tick.cycles = 500 * us ∧
  t = (s.elapse (500 * us - s.tick.cycles)).standAt p us

/-- The state at an instant n cycles ahead, with the cycles up to it passed; none where it lies beyond the tick that runs (assumption log 54). -/
def State.comesAt (s : State) (n : Nat) : Option State :=
  if n = 0 then some s else if s.tick.running = true ∧ 500 * s.periodUs < s.tick.cycles + n then none else some (s.elapse n)

/-- A command of PRG_CMD is refused: REFUSED, the reason, event 0x00 of the block and source 9. -/
def State.refusedWith (s t : State) (reason : Nat) : Prop :=
  t.f F.PRG_STATUS_REFUSED = 1 ∧ t.f F.PRG_STATUS_REFUSE = reason ∧ s.logAnd t [R.PRG_STATUS]

/-- Both copies of the role record hold the roles and the trial bit that PRG_ROLES and PRG_STATUS show, and no other byte changed (R202). -/
def State.rolesKept (s t : State) : Prop :=
  (∀ k, k < 2 → t.rd (roleCopy k + 8) 4 = bitsOf (t.reg R.PRG_ROLES) 5 0 + 256 * t.f F.PRG_STATUS_TRIAL) ∧
  ∀ a, outside (roleCopy 0) 16 a → outside (roleCopy 1) 16 a → t.byte a = s.byte a

/-- A mode command is accepted: it stands in PRG_MODE.PEND, and nothing else changed. -/
def State.pends (s t : State) (k : Nat) : Prop := t.f F.PRG_MODE_PEND = k ∧ t.f F.PRG_MODE_MODE = s.f F.PRG_MODE_MODE ∧ s.regsOnly t [R.PRG_MODE]

/-- What a call enters: the state with one frame pushed, and IB, TB and PC of the instance (R162). -/
def State.entered (s : State) (c : Ctx) (base type entry : Nat) : State :=
  let k := c.toNat
  let u := (s.unmark c).running c
  let a := slot k + 0x240 + 16 * u.depth k
  let v := (((u.wr a 4 (u.pc k)).wr (a + 4) 4 (u.ib k)).wr (a + 8) 4 (u.tb k)).wr (a + 12) 4 0
  (((v.setDepth k (u.depth k + 1)).setIb k base).setTb k type).setPc k entry

/-- A call completes: one frame pushed, IB, TB and PC of the instance, and nothing else changed (R162). -/
def calls (i : Instr) (s : State) (c : Ctx) (base type entry : Nat) : Prop :=
  let k := c.toNat
  let a := slot k + 0x240 + 16 * s.depth k
  ∃ t, exec i s = .next t ∧ t.depth k = s.depth k + 1 ∧ t.pc k = entry % 2 ^ 23 ∧ t.ib k = base % 2 ^ 22 ∧ t.tb k = type % 2 ^ 12 ∧
    t.rd a 4 = s.pc k + 4 ∧ t.rd (a + 4) 4 = s.ib k ∧ t.rd (a + 8) 4 = s.tb k ∧ t.rd (a + 12) 4 = 0 ∧
    (s.unmark c).onlyMem t ∧
    ∀ b, outside a 16 b → outside (slot k + 0x200) 0xC b → outside (slot k + 0x214) 4 b → t.byte b = s.byte b

/-- The context blocks at the instruction: PC stays on it, the instruction is remembered, and the cores choose again. -/
def blocks (i : Instr) (s : State) (c : Ctx) (prq : Bool) (fa fb : RegNo) (idx : Half) : Prop :=
  ∃ u : State, exec i s = .next u.sched ∧ u.pc c.toNat = s.pc c.toNat ∧
    tget? u.cml.blocked c.toNat = some (prq, fa.toNat, fb.toNat, idx.toNat) ∧
    (∀ x, s.act? c.toNat = some x → u.act? c.toNat = some { x with skip := false, wait := .io }) ∧
    (∀ a, offPc c a → u.byte a = s.byte a) ∧ u.regs = s.regs

/-- The context is suspended before the instruction: STATE 0b100, and nothing else but the choice of the cores. -/
def suspendsAt (i : Instr) (s : State) (c : Ctx) : Prop :=
  ∃ u : State, exec i s = .next u.sched ∧ u.f (F.CML_TSTAT_STATE c.toNat) = 4 ∧ u.mem = s.mem ∧ u.cml = s.cml ∧
    ∀ r, r ≠ R.CML_TSTAT c.toNat → u.reg r = s.reg r

/-- Only stream n's state and the listed registers changed. -/
def State.streamOnly (s t : State) (n : Nat) (l : List Nat) : Prop :=
  (∀ k, k ≠ n → t.stream k = s.stream k) ∧ ({ s with prism := { s.prism with streams := t.prism.streams } } : State).regsOnly t l

/-- Nothing stands in the way of a record of code c offered now: the recorder is open and not full, its bucket has a token, and nothing of that
code was suppressed before. -/
def State.recorderOpen (s : State) (c : Nat) : Prop :=
  s.recorder.closed = false ∧ s.f F.REC_STATUS_FULL = 0 ∧
  s.f F.REC_USED_USED + s.recorder.queue.length + s.recorder.buffer.length + 1 < 786432 ∧
  16000 ≤ tget 0 s.recorder.tokens (s.bucketOf c) ∧ s.recorder.suppressed.find? (·.code = c) = none

/-- The record that an event gives: the next number, its code, source and payload, the low word of the tick, and the time of R321. -/
def State.recordOf (s : State) (src code : Nat) (p : Payload) (inBuf : Bool) (r : Rec) : Prop :=
  r.seq = s.recorder.next ∧ r.code = code ∧ r.source = src ∧ r.payload = p ∧ r.tick = s.tickNo % 2 ^ 32 ∧ (8 ≤ r.flags ↔ inBuf = true) ∧
  (s.mode = .run → s.f F.REC_CTRL_TEST = 0 → r.secs = s.opsec ∧ r.aux = (s.reg R.REC_PCYC).toNat ∧ r.flags % 8 = 0) ∧
  (s.mode ≠ .run → s.f F.TIME_STATUS_CIV_VALID = 1 → r.secs = (s.base 2).sec ∧ r.aux = (s.base 2).frac ∧ r.flags % 8 = 3) ∧
  (s.mode ≠ .run → s.f F.TIME_STATUS_CIV_VALID = 0 → s.aon.calValid = false → r.secs = 0 ∧ r.aux = 0 ∧ r.flags % 8 = 1)

/-- Channels of chain c beside those of one signal. -/
def State.others (s : State) (c : Nat) (y : GnssSys) (sat : Nat) (b2 : Bool) : List Channel :=
  s.gnss.channels.filter fun x => !sameSignal c y sat b2 x

/-- Signals of chain c that wait for a channel, beside one. -/
def State.waits (s : State) (c : Nat) (y : GnssSys) (sat : Nat) (b2 : Bool) : List Channel :=
  s.gnss.untracked.filter fun x => !sameSignal c y sat b2 x

/-- Only the GNSS block's state and the listed registers changed. -/
def State.gnssOnly (s t : State) (l : List Nat) : Prop := ({ s with gnss := t.gnss } : State).regsOnly t l

/-- What stands after a reset that begins: the causes, what is kept, and every other register at its reset value. -/
def State.inResetAs (s t : State) (causes : Word) (power : Bool) : Prop :=
  t.sys.inReset = true ∧ t.sys.causes = causes ∧ t.pending = s.pending ∧ t.variant = s.variant ∧
  t.reg R.PRG_ROLES = s.reg R.PRG_ROLES ∧ t.reg R.REC_PCYC = s.reg R.REC_PCYC ∧ t.f F.PRG_STATUS_TRIAL = s.f F.PRG_STATUS_TRIAL ∧
  (∀ a, a ∉ [R.PRG_ROLES, R.REC_PCYC, R.PRG_STATUS] → t.reg a = regReset a) ∧ t.mode = .stop ∧ t.cml.acts = [] ∧
  t.recorder.next = s.recorder.next ∧ t.irq.aon = s.irq.aon ∧ t.prg.gens = s.prg.gens ∧
  (power = false → t.mem = s.mem ∧ t.base 0 = s.base 0) ∧
  (power = true → t.base 0 = {} ∧ t.aon.opsec = s.opsec ∧ ∀ a, t.byte a = if regionOf a = .mram then s.byte a else memDefault a)

/-- Only Lantern's state and the listed registers changed. -/
def State.lanOnly (s t : State) (l : List Nat) : Prop := ({ s with lan := t.lan } : State).regsOnly t l

/-- Line y of the active region has started (its dirty bit is clear and its data are on the bus), or waits for its zone's toggle (R444, R449). -/
def State.atLine (t : State) (q : Pass) (y : Nat) : Prop :=
  t.lan.active = some q ∧
  ((q.line = some y ∧ q.waiting = false ∧ q.cursor = y + 1 ∧ q.data = t.lineData y ∧ q.time = t.lineTime y ∧
      q.endAt = max (t.base 0).total q.readyAt + q.time * (10 * 2 ^ 32) ∧ (y < 960 → t.dirty y = false)) ∨
   (q.line = none ∧ q.waiting = true ∧ q.cursor = y))

/-- Only controller k's state and the listed registers changed, and what events and sources change. -/
def State.canOnly (s t : State) (k : Nat) (l : List Nat) : Prop :=
  (∀ j, j ≠ k → t.canSt j = s.canSt j) ∧ ({ s with can := t.can } : State).logAnd t l

/-- The pending count of source n after one assertion. -/
def State.upCount (s : State) (n : Nat) : Nat :=
  if s.f (F.IRQ_CFG_EN n) = 1 then min 255 (s.f (F.IRQ_COAL_PCNT n) + 1) else s.f (F.IRQ_COAL_PCNT n)

end Sys2Proof.Machine

open Sys2Proof Sys2Proof.Machine

/-- For every command c and state s, a step of s with c at the front of its queue is exec of c on s with the rest of the queue; on an empty
queue it is one 2 ns cycle of the time island (the model's choice: assumption log 1). (section 98, R22.) -/
def Obligations.AStepRunsTheFrontCommand : Prop :=
  (∀ (c : Instr) (l : List Instr) (s : State), step (s.withPending (c :: l)) = exec c (s.withPending l)) ∧
  (∀ s : State, s.pending = [] → step s = .next s.islandCycle)

/-- From every state every command, whatever its operands, answers a next state, and with it a step, whatever command stands at the front of
the queue; so does every number of steps. A bad access, an exception, a refused command and an ignored write are all next states of the
block. Clauses that rest on the model's own readings: assumption log 1. (R11, R184, R189.) -/
def Obligations.EveryStepAnswersANextState : Prop :=
  ∀ s : State, (∀ i : Instr, ∃ t, exec i s = .next t) ∧ (∃ t, step s = .next t) ∧ (∀ n, ∃ t, Host.Core.run Sys2Proof.core n s = .next t)

/-- The state after reset: mode Stop, no command waiting, in reset, every register at the word of its Reset column, the default period of 10
ms, tick number and scan stamp 0, no claim, Lantern's pins with discharge active, RST_OUT_N active, and in every context slot zero
registers and the context's own number in its CTX word. (Where the spec gives memory no contents, zero is the model's choice: assumption
log 3.) Clauses that rest on the model's own readings: assumption log 5. (R145, R188, R455, R463, R472, R489.) -/
def Obligations.TheStateAfterReset : Prop :=
  let s := State.reset
  s.mode = .stop ∧ s.pending = [] ∧ s.sys.inReset = true ∧ s.tablesOk = true ∧
  (∀ a, s.reg a = regReset a) ∧ s.reg R.TICK_PERIOD = 1 ∧ s.reg R.PRISM_GRID = regReset R.PRISM_GRID ∧
  s.f F.TICK_PERIOD_SEL = 1 ∧ s.periodUs = 10000 ∧ s.reg64 R.TICK_NUM_LO = 0 ∧ s.reg64 R.CML_STAMP_LO = 0 ∧
  s.f F.PAIR_STATUS_CLAIM = 0 ∧ s.pins.disch = true ∧ s.pins.railEn = false ∧ s.pins.gclr = false ∧ s.pins.rstOut = false ∧
  (∀ c : Ctx, ∀ r : RegNo, s.w c.toNat r.toNat = 0 ∧ s.pc c.toNat = 0 ∧ s.rd (slot c.toNat + 0x20C) 4 = c.toNat)

/-- Before the sequencer runs an edge changes nothing. From then on SCAN_EDGE stands at 0.10 T, SOLVE_EDGE at 0.20 T, SETTLE_EDGE at 0.70 T,
ARM_POINT 2 us before 0.80 T and RELEASE at 0.80 T, in their phases; in Stop Scan, Solve and the arm point do no more; in Run and Hold the
due tasks of the window become ready, the staged batch starts, the window closes, and Release sends what was committed, realigns the
launch timers and makes the Keep tasks ready; a window whose due tasks have not ended, or ended late, is an overrun with its flag. STROBE
is, once the rest of the tick has passed, its end, the boundary and the new tick's Strobe: phase and offset 0, the next tick number, the
enabled Strobe lines in their pulse; the end of a Strobe pulse takes the lines down at its instant, up to which time passes, and changes
nothing else. Last, each command named answers a next state for every state and operands. Clauses that rest on the model's own readings:
assumption log 8, 15, 16, 57, 67. (R20, R23, R26, R27, R28, R30, R37, R39, R473.) -/
def Obligations.TickEdges : Prop :=
  (∀ s : State,
    (s.tick.running = false → exec .strobe s = .next s ∧ exec .scanEdge s = .next s ∧ exec .solveEdge s = .next s ∧
      exec .settleEdge s = .next s ∧ exec .armPoint s = .next s ∧ exec .release s = .next s) ∧
    (s.tick.running = true →
      exec .strobe s = .next (s.elapse (500 * s.periodUs - s.tick.cycles)).tickEnd.boundary.beginTick ∧
      (s.prg.swapping = false → s.pair.align = none → s.pair.takeover = none → ∃ t, exec .strobe s = .next t ∧
        t.f F.TICK_PHASE_PHASE = 0 ∧ t.f F.TICK_PHASE_OFFSET = 0 ∧ t.tick.cycles = 0 ∧ t.reg64 R.TICK_NUM_LO = (s.tickNo + 1) % 2 ^ 64 ∧
        t.pins.strobe = BitVec.ofNat 16 (s.f F.TICK_STROBE_EN) ∧ t.tick.pulseUs = max 1 (s.f F.TICK_STROBE_WIDTH_WIDTH) ∧
        t.tick.faulted = false ∧ t.tick.settleOvr = false ∧ t.tick.newPeriod = none ∧ t.cml.busy = []) ∧
      (∃ u : State, s.standsAt u 1 (s.periodUs / 10) ∧
        (s.mode = .stop → exec .scanEdge s = .next u) ∧
        (s.mode ≠ .stop →
          let v : State := ({ u with cml := { u.cml with scanLeft := u.dueIn 1, scanOpen := true, scanLate := false } } : State).startPhase 1
          exec .scanEdge s = .next (if u.dueIn 1 = [] then v.scanComplete else v))) ∧
      (∃ u : State, s.standsAt u 2 (2 * (s.periodUs / 10)) ∧
        let e := u.azsEdge
        (s.mode = .stop → exec .solveEdge s = .next e) ∧
        (s.mode ≠ .stop → s.cml.scanLate = false → (∀ c, c ∈ s.cml.scanLeft → s.exempt 256 c = true) →
          exec .solveEdge s = .next ({ e with cml := { e.cml with scanLeft := [], scanOpen := false } } : State).startBatch.sched) ∧
        (s.mode ≠ .stop → s.cml.scanLate = true ∨ (∃ c, c ∈ s.cml.scanLeft ∧ s.exempt 256 c = false) →
          ∃ t, exec .solveEdge s = .next t ∧ t.f F.TICK_STATUS_SCAN_OVR = 1 ∧ t.cml.scanLeft = [] ∧ t.cml.scanOpen = false ∧ t.tick.faulted = true)) ∧
      (∃ u : State, s.standsAt u 3 (7 * (s.periodUs / 10)) ∧
        let v := u.endBatch.shadowEdge s.pendDet
        let w : State := ({ v with cml := { v.cml with settleLeft := v.dueIn 2, settleOpen := true, settleLate := false } } : State).startPhase 2
        exec .settleEdge s = .next (if v.mode = .stop then v else if v.dueIn 2 = [] then w.settleComplete else w)) ∧
      (∃ u : State, s.standsAt u 4 (8 * (s.periodUs / 10) - 2) ∧
        let e : State := { u with pair := { u.pair with lateClaim := false } }
        (s.mode = .stop → exec .armPoint s = .next e) ∧
        (s.mode ≠ .stop → s.cml.settleLate = false → (∀ c, c ∈ s.cml.settleLeft → s.exempt 256 c = true) →
          let d := if s.mode = .hold then e.reloadStaged else e
          exec .armPoint s = .next ({ d with cml := { d.cml with settleLeft := [], settleOpen := false } } : State).sched) ∧
        (s.mode ≠ .stop → s.cml.settleLate = true ∨ (∃ c, c ∈ s.cml.settleLeft ∧ s.exempt 256 c = false) →
          ∃ t, exec .armPoint s = .next t ∧ t.f F.TICK_STATUS_SETTLE_OVR = 1 ∧ t.cml.settleLeft = [] ∧ t.cml.settleOpen = false ∧
            t.tick.settleOvr = true ∧ t.tick.faulted = true)) ∧
      (∃ u : State, s.standsAt u 5 (8 * (s.periodUs / 10)) ∧
        let v := ((((u.canRelease s.tick.settleOvr).grzRelease s.tick.settleOvr).loopRelease).pairRelease).realignTimers
        exec .release s = .next (if v.mode = .stop then v else v.startPhase 3))) ∧
    (∃ t, exec .strobePulseEnd s = .next t ∧ t.pins = { s.pins with strobe := 0 } ∧
      (s.tick.running = false → ({ t with pins := s.pins } : State) = s) ∧
      (s.tick.running = true → s.sys.inReset = false → t.tick = { s.tick with cycles := max s.tick.cycles (500 * s.tick.pulseUs) } ∧
        t.f F.TICK_PHASE_PHASE = s.f F.TICK_PHASE_PHASE ∧
        ({ t with pins := s.pins } : State) = s.elapse (500 * s.tick.pulseUs - s.tick.cycles)))) ∧
  (∀ s : State,
    (exec .strobe s = .next (s.whenRunning State.strobe)) ∧
    (exec .strobePulseEnd s = .next s.pulseEnd) ∧
    (exec .scanEdge s = .next (s.whenRunning State.scanEdge)) ∧
    (exec .solveEdge s = .next (s.whenRunning State.solveEdge)) ∧
    (exec .settleEdge s = .next (s.whenRunning State.settleEdge)) ∧
    (exec .armPoint s = .next (s.whenRunning State.armPoint)) ∧
    (exec .release s = .next (s.whenRunning State.release)))

/-- In Stop a write of TICK_PERIOD with SEL 0 to 2 that admission allows is held for the next tick boundary and changes nothing else; any
other is ignored and recorded. CNT_CLR clears the fault counts and high-water marks and nothing else. At the end of the tick in which
CONSEC reached FAULT_LIMIT the module sets FAULT_STOP, records it and enters Stop with cause 2; entering Stop leaves the mode Stop, its
cause in STOP_CAUSE and no command pending. Last, each command named answers a next state for every state and operands. Clauses that rest
on the model's own readings: assumption log 8, 15. (R18, R40, R41, R189, R194.) -/
def Obligations.PeriodCountersAndFaultStop : Prop :=
  (∀ (s : State) (m : Master) (v : Word),
    (s.mode = .stop → bitsOf v 1 0 < 3 → s.periodReason (selUs (bitsOf v 1 0)) = none →
      ∃ t, exec (.tickPeriodWrite m v) s = .next t ∧ t.tick.newPeriod = some (bitsOf v 1 0) ∧
        ({ t with tick := { t.tick with newPeriod := s.tick.newPeriod } } : State) = s) ∧
    (s.mode ≠ .stop ∨ bitsOf v 1 0 = 3 ∨ s.periodReason (selUs (bitsOf v 1 0)) ≠ none →
      ∃ t, exec (.tickPeriodWrite m v) s = .next t ∧ s.logFrame t) ∧
    (∃ t, exec (.tickCounterClear m v) s = .next t ∧ t.reg R.TICK_FCNT0 = 0 ∧ t.reg R.TICK_FCNT1 = 0 ∧ t.reg R.TICK_HWM = 0 ∧
      s.regsOnly t [R.TICK_CTRL, R.TICK_FCNT0, R.TICK_FCNT1, R.TICK_HWM]) ∧
    (s.tick.stopDue = false → exec .faultStop s = .next s) ∧
    (s.tick.stopDue = true → s.mode = .stop →
      exec .faultStop s = .next { s with tick := { s.tick with stopDue := false } }) ∧
    (s.tick.stopDue = true → s.mode ≠ .stop →
      ∃ u : State, exec .faultStop s = .next (u.enterStop 2) ∧ u.f F.TICK_STATUS_FAULT_STOP = 1 ∧
        ({ s with tick := { s.tick with stopDue := false } } : State).logAnd u [R.TICK_STATUS]) ∧
    (∀ cause, cause < 8 → (s.enterStop cause).mode = .stop ∧ (s.enterStop cause).f F.PRG_MODE_STOP_CAUSE = cause ∧
      (s.enterStop cause).f F.PRG_MODE_PEND = 0)) ∧
  (∀ s : State,
    (exec .faultStop s = .next s.faultStop) ∧
    (∀ (m : Master) (v : Word), exec (.tickPeriodWrite m v) s = .next (s.periodWrite m v)) ∧
    (∀ (m : Master) (v : Word), exec (.tickCounterClear m v) s = .next (s.writeTick m R.TICK_CTRL (v ||| 1))))

/-- For every context whose PC can be fetched and every register operand, each of the 18 integer operations (ADD to REMU) completes: w[rd]
takes the result R155 gives it (shift amounts are w[rs2][5:0]; division rounds toward zero; by zero it gives all ones or the dividend; the
most negative value by -1 gives itself and remainder 0), w0 stays zero, PC advances by one word, and no other register, byte of memory or
part of the state changes but the resumed mark of an activation. Last, each command named answers a next state for every state and
operands. Clauses that rest on the model's own readings: assumption log 11. (R155, R147, R150.) -/
def Obligations.IntegerOperations : Prop :=
  (∀ (s : State) (c : Ctx) (rd rs1 rs2 : RegNo), s.canFetch c →
    let x := s.wreg c rs1
    let y := s.wreg c rs2
    writesW (.add c rd rs1 rs2) s c rd (x + y) ∧
    writesW (.sub c rd rs1 rs2) s c rd (x - y) ∧
    writesW (.and c rd rs1 rs2) s c rd (x &&& y) ∧
    writesW (.or c rd rs1 rs2) s c rd (x ||| y) ∧
    writesW (.xor c rd rs1 rs2) s c rd (x ^^^ y) ∧
    writesW (.sll c rd rs1 rs2) s c rd (x <<< (y.toNat % 64)) ∧
    writesW (.srl c rd rs1 rs2) s c rd (x >>> (y.toNat % 64)) ∧
    writesW (.sra c rd rs1 rs2) s c rd (x.sshiftRight (y.toNat % 64)) ∧
    writesW (.slt c rd rs1 rs2) s c rd (if x.toInt < y.toInt then 1 else 0) ∧
    writesW (.sltu c rd rs1 rs2) s c rd (if x.toNat < y.toNat then 1 else 0) ∧
    writesW (.min c rd rs1 rs2) s c rd (if x.toInt ≤ y.toInt then x else y) ∧
    writesW (.max c rd rs1 rs2) s c rd (if x.toInt ≤ y.toInt then y else x) ∧
    writesW (.mul c rd rs1 rs2) s c rd (x * y) ∧
    writesW (.mulh c rd rs1 rs2) s c rd (BitVec.ofInt 64 (x.toInt * y.toInt / 2 ^ 64)) ∧
    writesW (.div c rd rs1 rs2) s c rd (if y = 0 then BitVec.ofInt 64 (-1) else if x = BitVec.intMin 64 ∧ y = BitVec.ofInt 64 (-1) then x else BitVec.ofInt 64 (x.toInt.tdiv y.toInt)) ∧
    writesW (.divu c rd rs1 rs2) s c rd (if y = 0 then BitVec.ofInt 64 (-1) else BitVec.ofNat 64 (x.toNat / y.toNat)) ∧
    writesW (.rem c rd rs1 rs2) s c rd (if y = 0 then x else if x = BitVec.intMin 64 ∧ y = BitVec.ofInt 64 (-1) then 0 else BitVec.ofInt 64 (x.toInt.tmod y.toInt)) ∧
    writesW (.remu c rd rs1 rs2) s c rd (if y = 0 then x else BitVec.ofNat 64 (x.toNat % y.toNat))) ∧
  (∀ s : State,
    (∀ (c : Ctx) (rd : RegNo) (rs1 : RegNo) (rs2 : RegNo), ∃ t, exec (.add c rd rs1 rs2) s = .next t) ∧
    (∀ (c : Ctx) (rd : RegNo) (rs1 : RegNo) (rs2 : RegNo), ∃ t, exec (.sub c rd rs1 rs2) s = .next t) ∧
    (∀ (c : Ctx) (rd : RegNo) (rs1 : RegNo) (rs2 : RegNo), ∃ t, exec (.and c rd rs1 rs2) s = .next t) ∧
    (∀ (c : Ctx) (rd : RegNo) (rs1 : RegNo) (rs2 : RegNo), ∃ t, exec (.or c rd rs1 rs2) s = .next t) ∧
    (∀ (c : Ctx) (rd : RegNo) (rs1 : RegNo) (rs2 : RegNo), ∃ t, exec (.xor c rd rs1 rs2) s = .next t) ∧
    (∀ (c : Ctx) (rd : RegNo) (rs1 : RegNo) (rs2 : RegNo), ∃ t, exec (.sll c rd rs1 rs2) s = .next t) ∧
    (∀ (c : Ctx) (rd : RegNo) (rs1 : RegNo) (rs2 : RegNo), ∃ t, exec (.srl c rd rs1 rs2) s = .next t) ∧
    (∀ (c : Ctx) (rd : RegNo) (rs1 : RegNo) (rs2 : RegNo), ∃ t, exec (.sra c rd rs1 rs2) s = .next t) ∧
    (∀ (c : Ctx) (rd : RegNo) (rs1 : RegNo) (rs2 : RegNo), ∃ t, exec (.slt c rd rs1 rs2) s = .next t) ∧
    (∀ (c : Ctx) (rd : RegNo) (rs1 : RegNo) (rs2 : RegNo), ∃ t, exec (.sltu c rd rs1 rs2) s = .next t) ∧
    (∀ (c : Ctx) (rd : RegNo) (rs1 : RegNo) (rs2 : RegNo), ∃ t, exec (.min c rd rs1 rs2) s = .next t) ∧
    (∀ (c : Ctx) (rd : RegNo) (rs1 : RegNo) (rs2 : RegNo), ∃ t, exec (.max c rd rs1 rs2) s = .next t) ∧
    (∀ (c : Ctx) (rd : RegNo) (rs1 : RegNo) (rs2 : RegNo), ∃ t, exec (.mul c rd rs1 rs2) s = .next t) ∧
    (∀ (c : Ctx) (rd : RegNo) (rs1 : RegNo) (rs2 : RegNo), ∃ t, exec (.mulh c rd rs1 rs2) s = .next t) ∧
    (∀ (c : Ctx) (rd : RegNo) (rs1 : RegNo) (rs2 : RegNo), ∃ t, exec (.div c rd rs1 rs2) s = .next t) ∧
    (∀ (c : Ctx) (rd : RegNo) (rs1 : RegNo) (rs2 : RegNo), ∃ t, exec (.divu c rd rs1 rs2) s = .next t) ∧
    (∀ (c : Ctx) (rd : RegNo) (rs1 : RegNo) (rs2 : RegNo), ∃ t, exec (.rem c rd rs1 rs2) s = .next t) ∧
    (∀ (c : Ctx) (rd : RegNo) (rs1 : RegNo) (rs2 : RegNo), ∃ t, exec (.remu c rd rs1 rs2) s = .next t))

/-- For every context whose PC can be fetched, each of the 11 I-format operations completes: imm14 is sign-extended in ADDI, SLTI and SLTIU
and zero-extended in the logic operations, LSI gives (w[rs1] << 14) or imm14, and the shifts and RORI take imm14[5:0]; w[rd] takes the
result, PC advances by one word, and nothing else changes. Last, each command named answers a next state for every state and operands.
(R153, R154, R147.) -/
def Obligations.ImmediateOperations : Prop :=
  (∀ (s : State) (c : Ctx) (rd rs1 : RegNo) (imm : Imm14), s.canFetch c →
    let x := s.wreg c rs1
    writesW (.addi c rd rs1 imm) s c rd (x + imm.signExtend 64) ∧
    writesW (.slti c rd rs1 imm) s c rd (if x.toInt < imm.toInt then 1 else 0) ∧
    writesW (.sltiu c rd rs1 imm) s c rd (if x.toNat < (imm.signExtend 64).toNat then 1 else 0) ∧
    writesW (.andi c rd rs1 imm) s c rd (x &&& imm.zeroExtend 64) ∧
    writesW (.ori c rd rs1 imm) s c rd (x ||| imm.zeroExtend 64) ∧
    writesW (.xori c rd rs1 imm) s c rd (x ^^^ imm.zeroExtend 64) ∧
    writesW (.lsi c rd rs1 imm) s c rd ((x <<< 14) ||| imm.zeroExtend 64) ∧
    writesW (.slli c rd rs1 imm) s c rd (x <<< (imm.toNat % 64)) ∧
    writesW (.srli c rd rs1 imm) s c rd (x >>> (imm.toNat % 64)) ∧
    writesW (.srai c rd rs1 imm) s c rd (x.sshiftRight (imm.toNat % 64)) ∧
    writesW (.rori c rd rs1 imm) s c rd (x.rotateRight (imm.toNat % 64))) ∧
  (∀ s : State,
    (∀ (c : Ctx) (rd : RegNo) (rs1 : RegNo) (imm : Imm14), ∃ t, exec (.addi c rd rs1 imm) s = .next t) ∧
    (∀ (c : Ctx) (rd : RegNo) (rs1 : RegNo) (imm : Imm14), ∃ t, exec (.slti c rd rs1 imm) s = .next t) ∧
    (∀ (c : Ctx) (rd : RegNo) (rs1 : RegNo) (imm : Imm14), ∃ t, exec (.sltiu c rd rs1 imm) s = .next t) ∧
    (∀ (c : Ctx) (rd : RegNo) (rs1 : RegNo) (imm : Imm14), ∃ t, exec (.andi c rd rs1 imm) s = .next t) ∧
    (∀ (c : Ctx) (rd : RegNo) (rs1 : RegNo) (imm : Imm14), ∃ t, exec (.ori c rd rs1 imm) s = .next t) ∧
    (∀ (c : Ctx) (rd : RegNo) (rs1 : RegNo) (imm : Imm14), ∃ t, exec (.xori c rd rs1 imm) s = .next t) ∧
    (∀ (c : Ctx) (rd : RegNo) (rs1 : RegNo) (imm : Imm14), ∃ t, exec (.lsi c rd rs1 imm) s = .next t) ∧
    (∀ (c : Ctx) (rd : RegNo) (rs1 : RegNo) (imm : Imm14), ∃ t, exec (.slli c rd rs1 imm) s = .next t) ∧
    (∀ (c : Ctx) (rd : RegNo) (rs1 : RegNo) (imm : Imm14), ∃ t, exec (.srli c rd rs1 imm) s = .next t) ∧
    (∀ (c : Ctx) (rd : RegNo) (rs1 : RegNo) (imm : Imm14), ∃ t, exec (.srai c rd rs1 imm) s = .next t) ∧
    (∀ (c : Ctx) (rd : RegNo) (rs1 : RegNo) (imm : Imm14), ∃ t, exec (.rori c rd rs1 imm) s = .next t))

/-- For every context whose PC can be fetched, FADD, FSUB, FMUL, FDIV, FMIN, FMAX, FMADD (d[rd] + d[rs1] x d[rs2] in one rounding), FABS and
FNEG (the sign bit alone), and FSQRT with rs2 0, complete: d[rd] takes the bits of the model's binary64 result, FPFLAGS collects its
flags, PC advances by one word, and nothing else changes. Last, each command named answers a next state for every state and operands.
(R148, R155.) -/
def Obligations.FloatingPointArithmetic : Prop :=
  (∀ (s : State) (c : Ctx) (rd rs1 rs2 : RegNo), s.canFetch c →
    let x := s.dreg c rs1
    let y := s.dreg c rs2
    writesD (.fadd c rd rs1 rs2) s c rd (f64.add x y) ∧
    writesD (.fsub c rd rs1 rs2) s c rd (f64.sub x y) ∧
    writesD (.fmul c rd rs1 rs2) s c rd (f64.mul x y) ∧
    writesD (.fdiv c rd rs1 rs2) s c rd (f64.div x y) ∧
    writesD (.fmin c rd rs1 rs2) s c rd (f64.min x y) ∧
    writesD (.fmax c rd rs1 rs2) s c rd (f64.max x y) ∧
    writesD (.fmadd c rd rs1 rs2) s c rd (f64.fma (s.dreg c rd) x y) ∧
    writesD (.fabs c rd rs1 rs2) s c rd (⟨x % 2 ^ 63, 0⟩) ∧
    writesD (.fneg c rd rs1 rs2) s c rd (⟨(x + 2 ^ 63) % 2 ^ 64, 0⟩) ∧
    (rs2 = 0 → writesD (.fsqrt c rd rs1 rs2) s c rd (f64.sqrt x))) ∧
  (∀ s : State,
    (∀ (c : Ctx) (rd : RegNo) (rs1 : RegNo) (rs2 : RegNo), exec (.fadd c rd rs1 rs2) s = .next (s.fpOp c rd rs1 rs2 f64.add)) ∧
    (∀ (c : Ctx) (rd : RegNo) (rs1 : RegNo) (rs2 : RegNo), exec (.fsub c rd rs1 rs2) s = .next (s.fpOp c rd rs1 rs2 f64.sub)) ∧
    (∀ (c : Ctx) (rd : RegNo) (rs1 : RegNo) (rs2 : RegNo), exec (.fmul c rd rs1 rs2) s = .next (s.fpOp c rd rs1 rs2 f64.mul)) ∧
    (∀ (c : Ctx) (rd : RegNo) (rs1 : RegNo) (rs2 : RegNo), exec (.fdiv c rd rs1 rs2) s = .next (s.fpOp c rd rs1 rs2 f64.div)) ∧
    (∀ (c : Ctx) (rd : RegNo) (rs1 : RegNo) (rs2 : RegNo), ∃ t, exec (.fsqrt c rd rs1 rs2) s = .next t) ∧
    (∀ (c : Ctx) (rd : RegNo) (rs1 : RegNo) (rs2 : RegNo), exec (.fmin c rd rs1 rs2) s = .next (s.fpOp c rd rs1 rs2 f64.min)) ∧
    (∀ (c : Ctx) (rd : RegNo) (rs1 : RegNo) (rs2 : RegNo), exec (.fmax c rd rs1 rs2) s = .next (s.fpOp c rd rs1 rs2 f64.max)) ∧
    (∀ (c : Ctx) (rd : RegNo) (rs1 : RegNo) (rs2 : RegNo), ∃ t, exec (.fmadd c rd rs1 rs2) s = .next t) ∧
    (∀ (c : Ctx) (rd : RegNo) (rs1 : RegNo) (rs2 : RegNo), ∃ t, exec (.fabs c rd rs1 rs2) s = .next t) ∧
    (∀ (c : Ctx) (rd : RegNo) (rs1 : RegNo) (rs2 : RegNo), ∃ t, exec (.fneg c rd rs1 rs2) s = .next t))

/-- For every context whose PC can be fetched, FEQ, FLT and FLE write 1 or 0 to w[rd]; FCVT.W.D and FMV.W.D write w[rd] and FCVT.D.W and
FMV.D.W write d[rd], the moves bit for bit; the flags of the model's binary64 operation are collected in FPFLAGS, PC advances by one word,
and nothing else changes. Last, each command named answers a next state for every state and operands. Clauses that rest on the model's own
readings: assumption log 23. (R148, R155.) -/
def Obligations.FloatingPointComparesAndConversions : Prop :=
  (∀ (s : State) (c : Ctx) (rd rs1 rs2 : RegNo), s.canFetch c →
    let x := s.dreg c rs1
    let y := s.dreg c rs2
    writesWF (.feq c rd rs1 rs2) s c rd (if (f64.eq x y).1 then 1 else 0) (f64.eq x y).2 ∧
    writesWF (.flt c rd rs1 rs2) s c rd (if (f64.lt x y).1 then 1 else 0) (f64.lt x y).2 ∧
    writesWF (.fle c rd rs1 rs2) s c rd (if (f64.le x y).1 then 1 else 0) (f64.le x y).2 ∧
    writesWF (.fcvtWD c rd rs1 rs2) s c rd (BitVec.ofInt 64 (f64.toI64 x).1) (f64.toI64 x).2 ∧
    writesD (.fcvtDW c rd rs1 rs2) s c rd (f64.ofInt (s.wreg c rs1).toInt) ∧
    writesW (.fmvWD c rd rs1 rs2) s c rd (s.d c.toNat rs1.toNat) ∧
    writesD (.fmvDW c rd rs1 rs2) s c rd ⟨(s.wreg c rs1).toNat, 0⟩) ∧
  (∀ s : State,
    (∀ (c : Ctx) (rd : RegNo) (rs1 : RegNo) (rs2 : RegNo), ∃ t, exec (.feq c rd rs1 rs2) s = .next t) ∧
    (∀ (c : Ctx) (rd : RegNo) (rs1 : RegNo) (rs2 : RegNo), ∃ t, exec (.flt c rd rs1 rs2) s = .next t) ∧
    (∀ (c : Ctx) (rd : RegNo) (rs1 : RegNo) (rs2 : RegNo), ∃ t, exec (.fle c rd rs1 rs2) s = .next t) ∧
    (∀ (c : Ctx) (rd : RegNo) (rs1 : RegNo) (rs2 : RegNo), ∃ t, exec (.fcvtDW c rd rs1 rs2) s = .next t) ∧
    (∀ (c : Ctx) (rd : RegNo) (rs1 : RegNo) (rs2 : RegNo), ∃ t, exec (.fcvtWD c rd rs1 rs2) s = .next t) ∧
    (∀ (c : Ctx) (rd : RegNo) (rs1 : RegNo) (rs2 : RegNo), ∃ t, exec (.fmvWD c rd rs1 rs2) s = .next t) ∧
    (∀ (c : Ctx) (rd : RegNo) (rs1 : RegNo) (rs2 : RegNo), ∃ t, exec (.fmvDW c rd rs1 rs2) s = .next t))

/-- Two NaN operands of FADD, FMUL, FDIV, FMIN and FMAX give the default NaN 0x7FF8_0000_0000_0000; FMIN and FMAX of one NaN give the other
operand; FCVT.W.D of a NaN gives 0 and sets invalid alone. (R148, R155.) -/
def Obligations.FloatingPointNaNs : Prop :=
  (∀ x y : Nat, (f64.read x).isNan = true → (f64.read y).isNan = true →
    (f64.add x y).bits = 0x7FF8000000000000 ∧ (f64.mul x y).bits = 0x7FF8000000000000 ∧ (f64.div x y).bits = 0x7FF8000000000000 ∧
    (f64.min x y).bits = 0x7FF8000000000000 ∧ (f64.max x y).bits = 0x7FF8000000000000) ∧
  (∀ x y : Nat, y < 2 ^ 64 → (f64.read x).isNan = true → (f64.read y).isNan = false →
    (f64.min x y).bits = y ∧ (f64.max x y).bits = y ∧ (f64.min y x).bits = y ∧ (f64.max y x).bits = y) ∧
  (∀ x : Nat, (f64.read x).isNan = true → f64.toI64 x = (0, 1))

/-- For every context whose PC can be fetched, NOP and FENCE only advance PC (each command of the model is whole, so every earlier store has
completed), JR sets PC to the low 23 bits of w[rs1], MFS writes each listed special register and 0 for an unlisted number, MTS 3 writes
FPFLAGS, MTS of an unlisted number discards the value, and MTS of a read-only special register raises SPECIAL. Nothing else changes. Last,
each command named answers a next state for every state and operands. Clauses that rest on the model's own readings: assumption log 12.
(R148, R155, R160.) -/
def Obligations.SystemOperations : Prop :=
  (∀ (s : State) (c : Ctx) (rd rs1 rs2 : RegNo), s.canFetch c →
    setsPc (.nop c rd rs1 rs2) s c (s.pc c.toNat + 4) ∧
    setsPc (.fence c rd rs1 rs2) s c (s.pc c.toNat + 4) ∧
    setsPc (.jr c rd rs1 rs2) s c ((s.wreg c rs1).toNat % 2 ^ 23) ∧
    (rs2 = 0 → writesW (.mfs c rd rs1 rs2) s c rd (BitVec.ofNat 64 (s.ib c.toNat))) ∧
    (rs2 = 1 → writesW (.mfs c rd rs1 rs2) s c rd (BitVec.ofNat 64 (s.tb c.toNat))) ∧
    (rs2 = 2 → writesW (.mfs c rd rs1 rs2) s c rd (c.zeroExtend 64)) ∧
    (rs2 = 3 → writesW (.mfs c rd rs1 rs2) s c rd (BitVec.ofNat 64 (s.fpflags c.toNat))) ∧
    (rs2 = 4 → writesW (.mfs c rd rs1 rs2) s c rd (BitVec.ofNat 64 (s.coreOf c.toNat))) ∧
    (rs2 = 5 → writesW (.mfs c rd rs1 rs2) s c rd (BitVec.ofNat 64 (s.reg64 R.TICK_NUM_LO))) ∧
    (rs2 = 6 → writesW (.mfs c rd rs1 rs2) s c rd (BitVec.ofNat 64 (s.f F.TICK_PHASE_PHASE))) ∧
    (rs2 = 7 → writesW (.mfs c rd rs1 rs2) s c rd (BitVec.ofNat 64 (s.taskPeriod c.toNat))) ∧
    (rs2 = 8 → writesW (.mfs c rd rs1 rs2) s c rd (BitVec.ofNat 64 (s.reg64 R.CML_STAMP_LO))) ∧
    (rs2 = 9 → writesW (.mfs c rd rs1 rs2) s c rd (BitVec.ofNat 64 (s.depth c.toNat))) ∧
    (rs2 = 10 → writesW (.mfs c rd rs1 rs2) s c rd (BitVec.ofNat 64 (s.base 0).form)) ∧
    (11 ≤ rs2.toNat → writesW (.mfs c rd rs1 rs2) s c rd 0) ∧
    (rd = 3 → ∃ t, exec (.mts c rd rs1 rs2) s = .next t ∧ t.pc c.toNat = s.pc c.toNat + 4 ∧
      t.fpflags c.toNat = (s.wreg c rs1).toNat % 32 ∧ s.changesOnly t c (offFlags c)) ∧
    (11 ≤ rd.toNat → setsPc (.mts c rd rs1 rs2) s c (s.pc c.toNat + 4)) ∧
    (rd ≠ 3 → rd.toNat ≤ 10 → raises (.mts c rd rs1 rs2) s c .special)) ∧
  (∀ s : State,
    (∀ (c : Ctx) (rd : RegNo) (rs1 : RegNo) (rs2 : RegNo), exec (.nop c rd rs1 rs2) s = .next (s.run c.toNat .ok)) ∧
    (∀ (c : Ctx) (rd : RegNo) (rs1 : RegNo) (rs2 : RegNo), ∃ t, exec (.jr c rd rs1 rs2) s = .next t) ∧
    (∀ (c : Ctx) (rd : RegNo) (rs1 : RegNo) (n : RegNo), ∃ t, exec (.mfs c rd rs1 n) s = .next t) ∧
    (∀ (c : Ctx) (n : RegNo) (rs1 : RegNo) (rs2 : RegNo), ∃ t, exec (.mts c n rs1 rs2) s = .next t) ∧
    (∀ (c : Ctx) (rd : RegNo) (rs1 : RegNo) (rs2 : RegNo), exec (.fence c rd rs1 rs2) s = .next (s.run c.toNat .ok)))

/-- For every context whose PC can be fetched, BEQZ, BNEZ, BLTZ and BGEZ set PC to the branch's address plus four times the signed off21 (in
the 23 bits of PC) where their condition on w[rs] holds and to the next word elsewhere, and JAL also writes PC + 4 to w[rs]; nothing else
changes. Last, each command named answers a next state for every state and operands. (R150, R153, R154.) -/
def Obligations.Branches : Prop :=
  (∀ (s : State) (c : Ctx) (rs : RegNo) (off : Off21), s.canFetch c →
    let x := s.wreg c rs
    let target := (((s.pc c.toNat : Int) + 4 * off.toInt) % 2 ^ 23).toNat
    (setsPc (.beqz c rs off) s c (if x = 0 then target else s.pc c.toNat + 4)) ∧
    (setsPc (.bnez c rs off) s c (if x ≠ 0 then target else s.pc c.toNat + 4)) ∧
    (setsPc (.bltz c rs off) s c (if x.toInt < 0 then target else s.pc c.toNat + 4)) ∧
    (setsPc (.bgez c rs off) s c (if 0 ≤ x.toInt then target else s.pc c.toNat + 4)) ∧
    (∃ t, exec (.jal c rs off) s = .next t ∧ t.pc c.toNat = target ∧
      t.w c.toNat rs.toNat = (if rs = 0 then 0 else BitVec.ofNat 64 (s.pc c.toNat + 4)) ∧ s.changesOnly t c (offW c rs))) ∧
  (∀ s : State,
    (∀ (c : Ctx) (rs : RegNo) (off : Off21), ∃ t, exec (.beqz c rs off) s = .next t) ∧
    (∀ (c : Ctx) (rs : RegNo) (off : Off21), ∃ t, exec (.bnez c rs off) s = .next t) ∧
    (∀ (c : Ctx) (rs : RegNo) (off : Off21), ∃ t, exec (.bltz c rs off) s = .next t) ∧
    (∀ (c : Ctx) (rs : RegNo) (off : Off21), ∃ t, exec (.bgez c rs off) s = .next t) ∧
    (∀ (c : Ctx) (rs : RegNo) (off : Off21), ∃ t, exec (.jal c rs off) s = .next t))

/-- For every context whose PC can be fetched and every aligned .I access that lies inside the current instance and inside instance data,
LD.I, LW.I (sign-extended), LB.I (zero-extended) and FLD.I complete: the register takes the bytes at 0x00_0080_0000 + IB + w[rb] + off16,
PC advances by one word, and nothing else changes. Last, each command named answers a next state for every state and operands. (R154,
R156, R158.) -/
def Obligations.InstanceLoads : Prop :=
  (∀ (s : State) (c : Ctx) (rt rb : RegNo) (off : Half), s.canFetch c →
    let a := s.addrI c rb off
    (s.goodI c rb off 8 → writesW (.ldI c rt rb off) s c rt (loaded64 (s.rd a 8))) ∧
    (s.goodI c rb off 4 → writesW (.lwI c rt rb off) s c rt (loaded32 (s.rd a 4))) ∧
    (s.goodI c rb off 1 → writesW (.lbI c rt rb off) s c rt (loaded64 (s.rd a 1))) ∧
    (s.goodI c rb off 8 → writesD (.fldI c rt rb off) s c rt ⟨s.rd a 8, 0⟩)) ∧
  (∀ s : State,
    (∀ (c : Ctx) (rt : RegNo) (rb : RegNo) (off : Half), exec (.ldI c rt rb off) s = .next (s.loadI c rt rb off 8)) ∧
    (∀ (c : Ctx) (rt : RegNo) (rb : RegNo) (off : Half), exec (.lwI c rt rb off) s = .next (s.loadI c rt rb off 4)) ∧
    (∀ (c : Ctx) (rt : RegNo) (rb : RegNo) (off : Half), exec (.lbI c rt rb off) s = .next (s.loadI c rt rb off 1)) ∧
    (∀ (c : Ctx) (rt : RegNo) (rb : RegNo) (off : Half), ∃ t, exec (.fldI c rt rb off) s = .next t))

/-- For every context whose PC can be fetched and every aligned .I access that lies inside the current instance, ST.I, SW.I, SB.I and FST.I
complete: the bytes at 0x00_0080_0000 + IB + w[rb] + off16 take the low bytes of the register, the dirty bit of their page is set, PC
advances by one word, and every other byte of memory and part of the state stays. Last, each command named answers a next state for every
state and operands. (R154, R156, R158, R159.) -/
def Obligations.InstanceStores : Prop :=
  (∀ (s : State) (c : Ctx) (rt rb : RegNo) (off : Half), s.canFetch c →
    let a := s.addrI c rb off
    (s.goodI c rb off 8 → stores (.stI c rt rb off) s c a 8 (s.wreg c rt).toNat) ∧
    (s.goodI c rb off 4 → stores (.swI c rt rb off) s c a 4 (s.wreg c rt).toNat) ∧
    (s.goodI c rb off 1 → stores (.sbI c rt rb off) s c a 1 (s.wreg c rt).toNat) ∧
    (s.goodI c rb off 8 → stores (.fstI c rt rb off) s c a 8 (s.dreg c rt))) ∧
  (∀ s : State,
    (∀ (c : Ctx) (rt : RegNo) (rb : RegNo) (off : Half), ∃ t, exec (.stI c rt rb off) s = .next t) ∧
    (∀ (c : Ctx) (rt : RegNo) (rb : RegNo) (off : Half), ∃ t, exec (.swI c rt rb off) s = .next t) ∧
    (∀ (c : Ctx) (rt : RegNo) (rb : RegNo) (off : Half), ∃ t, exec (.sbI c rt rb off) s = .next t) ∧
    (∀ (c : Ctx) (rt : RegNo) (rb : RegNo) (off : Half), ∃ t, exec (.fstI c rt rb off) s = .next t))

/-- For every context whose PC can be fetched and every aligned .G access to a memory of the address map, LD.G, LW.G, LB.G and FLD.G complete:
the register takes the bytes at w[rb] + off16 (sign-extended), PC advances by one word, and nothing else changes. LW.G at an aligned
address of the register region completes with the register's value, read as a bus master of its core reads it. Last, each command named
answers a next state for every state and operands. Clauses that rest on the model's own readings: assumption log 12. (R154, R157, R158,
R11.) -/
def Obligations.GlobalLoads : Prop :=
  (∀ (s : State) (c : Ctx) (rt rb : RegNo) (off : Half), s.canFetch c →
    let a := s.addrG c rb off
    (s.goodG c rb off 8 .read → writesW (.ldG c rt rb off) s c rt (loaded64 ((s.running c).rd a 8))) ∧
    (s.goodG c rb off 4 .read → writesW (.lwG c rt rb off) s c rt (loaded32 ((s.running c).rd a 4))) ∧
    (s.goodG c rb off 1 .read → writesW (.lbG c rt rb off) s c rt (loaded64 ((s.running c).rd a 1))) ∧
    (s.goodG c rb off 8 .read → writesD (.fldG c rt rb off) s c rt ⟨(s.running c).rd a 8, 0⟩) ∧
    (a % 4 = 0 → regionOf a = .registers →
      let u := (s.unmark c).running c
      let r := u.readReg (coreMaster (u.coreOf c.toNat)) a
      exec (.lwG c rt rb off) s = .next (r.2.setW c.toNat rt.toNat (r.1.signExtend 64)))) ∧
  (∀ s : State,
    (∀ (c : Ctx) (rt : RegNo) (rb : RegNo) (off : Half), exec (.ldG c rt rb off) s = .next (s.loadG c rt rb off 8)) ∧
    (∀ (c : Ctx) (rt : RegNo) (rb : RegNo) (off : Half), exec (.lwG c rt rb off) s = .next (s.loadG c rt rb off 4)) ∧
    (∀ (c : Ctx) (rt : RegNo) (rb : RegNo) (off : Half), exec (.lbG c rt rb off) s = .next (s.loadG c rt rb off 1)) ∧
    (∀ (c : Ctx) (rt : RegNo) (rb : RegNo) (off : Half), ∃ t, exec (.fldG c rt rb off) s = .next t))

/-- For every context whose PC can be fetched and every aligned .G access to a memory other than the ROM, ST.G, SW.G, SB.G and FST.G complete:
the bytes at w[rb] + off16 take the low bytes of the register unless they ignore writes, the page's dirty bit is set in instance data and
in checkpoint-relevant scratch, the framebuffer lines touched are marked, and nothing else changes. SW.G at an aligned register address is
the write of that register by the context's core. Last, each command named answers a next state for every state and operands. Clauses that
rest on the model's own readings: assumption log 12. (R154, R157, R158, R159.) -/
def Obligations.GlobalStores : Prop :=
  (∀ (s : State) (c : Ctx) (rt rb : RegNo) (off : Half), s.canFetch c →
    let a := s.addrG c rb off
    (s.goodG c rb off 8 .write → stores (.stG c rt rb off) s c a 8 (s.wreg c rt).toNat) ∧
    (s.goodG c rb off 4 .write → stores (.swG c rt rb off) s c a 4 (s.wreg c rt).toNat) ∧
    (s.goodG c rb off 1 .write → stores (.sbG c rt rb off) s c a 1 (s.wreg c rt).toNat) ∧
    (s.goodG c rb off 8 .write → stores (.fstG c rt rb off) s c a 8 (s.dreg c rt)) ∧
    (a % 4 = 0 → regionOf a = .registers →
      let u := ((s.noSteps.unmark c).running c)
      exec (.swG c rt rb off) s =
        .next ((u.busWrite (coreMaster (u.coreOf c.toNat)) a (BitVec.ofNat 32 (s.wreg c rt).toNat)).drainSteps 256))) ∧
  (∀ s : State,
    (∀ (c : Ctx) (rt : RegNo) (rb : RegNo) (off : Half), ∃ t, exec (.stG c rt rb off) s = .next t) ∧
    (∀ (c : Ctx) (rt : RegNo) (rb : RegNo) (off : Half), exec (.swG c rt rb off) s = .next ((s.noSteps.swG c rt rb off).drainSteps 256)) ∧
    (∀ (c : Ctx) (rt : RegNo) (rb : RegNo) (off : Half), ∃ t, exec (.sbG c rt rb off) s = .next t) ∧
    (∀ (c : Ctx) (rt : RegNo) (rb : RegNo) (off : Half), ∃ t, exec (.fstG c rt rb off) s = .next t))

/-- Every load and store of more than one byte whose address is not a multiple of its width raises ALIGN: the answer is the exception entry of
the state before the instruction, so no register and no byte of memory has been written by the access. (The byte loads and stores are
aligned everywhere.) (R158.) -/
def Obligations.MisalignedAccessesRaiseAlign : Prop :=
  ∀ (s : State) (c : Ctx) (rt rb : RegNo) (off : Half), s.canFetch c →
    (s.offI c rb off % 8 ≠ 0 → raises (.ldI c rt rb off) s c .align) ∧
    (s.offI c rb off % 4 ≠ 0 → raises (.lwI c rt rb off) s c .align) ∧
    (s.offI c rb off % 8 ≠ 0 → raises (.fldI c rt rb off) s c .align) ∧
    (s.offI c rb off % 8 ≠ 0 → raises (.stI c rt rb off) s c .align) ∧
    (s.offI c rb off % 4 ≠ 0 → raises (.swI c rt rb off) s c .align) ∧
    (s.offI c rb off % 8 ≠ 0 → raises (.fstI c rt rb off) s c .align) ∧
    (s.addrG c rb off % 8 ≠ 0 → raises (.ldG c rt rb off) s c .align) ∧
    (s.addrG c rb off % 4 ≠ 0 → raises (.lwG c rt rb off) s c .align) ∧
    (s.addrG c rb off % 8 ≠ 0 → raises (.fldG c rt rb off) s c .align) ∧
    (s.addrG c rb off % 8 ≠ 0 → raises (.stG c rt rb off) s c .align) ∧
    (s.addrG c rb off % 4 ≠ 0 → exec (.swG c rt rb off) s = .next (((s.noSteps.unmark c).excSched c.toNat .align).drainSteps 256)) ∧
    (s.addrG c rb off % 8 ≠ 0 → raises (.fstG c rt rb off) s c .align)

/-- FBCALL of instance idx16 and FBCALLR of w[fb] + idx16 (a signed 64-bit sum) push PC + 4, IB, TB and 0 as one 16-byte frame and set IB, TB
and PC from the instance and type tables; FBRET restores them from the top frame. An instance that is undefined or out of range raises
INST, a full link stack LINK_OVF, an empty one LINK_UNF, and a non-zero fa (or fb of FBRET) ILLEGAL. No other register changes. A call of
a library block of the ROM enters it in the same way and does the block's work besides, as one act (assumption log 38). Last, each command
named answers a next state for every state and operands. Clauses that rest on the model's own readings: assumption log 12, 20, 64, 70.
(R145, R151, R152, R162.) -/
def Obligations.FunctionBlockCalls : Prop :=
  (∀ (s : State) (c : Ctx) (fa fb : RegNo) (idx : Half), s.canFetch c →
    (∀ e t, fa = 0 → s.instOf idx.toNat = some (e, t) → libOf t = none → s.depth c.toNat < 220 →
      calls (.fbcall c fa fb idx) s c e.base e.type t.entry) ∧
    (∀ e t, fa = 0 → s.instOf ((s.wreg c fb).toInt + idx.toNat) = some (e, t) → libOf t = none → s.depth c.toNat < 220 →
      calls (.fbcallr c fa fb idx) s c e.base e.type t.entry) ∧
    (∀ e t b, fa = 0 → s.instOf idx.toNat = some (e, t) → libOf t = some b → s.depth c.toNat < 220 →
      exec (.fbcall c fa fb idx) s = .next ((s.entered c e.base e.type t.entry).libRun c.toNat b e.ident e.base t.size)) ∧
    (∀ e t b, fa = 0 → s.instOf ((s.wreg c fb).toInt + idx.toNat) = some (e, t) → libOf t = some b → s.depth c.toNat < 220 →
      exec (.fbcallr c fa fb idx) s = .next ((s.entered c e.base e.type t.entry).libRun c.toNat b e.ident e.base t.size)) ∧
    (fa = 0 → fb = 0 → 0 < s.depth c.toNat →
      let a := slot c.toNat + 0x240 + 16 * (s.depth c.toNat - 1)
      ∃ t, exec (.fbret c fa fb idx) s = .next t ∧ t.depth c.toNat = s.depth c.toNat - 1 ∧
        t.pc c.toNat = s.rd a 4 % 2 ^ 23 ∧ t.ib c.toNat = s.rd (a + 4) 4 % 2 ^ 22 ∧ t.tb c.toNat = s.rd (a + 8) 4 % 2 ^ 12 ∧
        (s.unmark c).onlyMem t ∧ ∀ b, outside (slot c.toNat + 0x200) 0xC b → outside (slot c.toNat + 0x214) 4 b → t.byte b = s.byte b) ∧
    (fa = 0 → s.instOf idx.toNat = none → raises (.fbcall c fa fb idx) s c .inst) ∧
    (fa = 0 → s.instOf ((s.wreg c fb).toInt + idx.toNat) = none → raises (.fbcallr c fa fb idx) s c .inst) ∧
    (fa = 0 → (s.instOf idx.toNat).isSome → s.depth c.toNat = 220 → raises (.fbcall c fa fb idx) s c .linkOvf) ∧
    (fa = 0 → (s.instOf ((s.wreg c fb).toInt + idx.toNat)).isSome → s.depth c.toNat = 220 → raises (.fbcallr c fa fb idx) s c .linkOvf) ∧
    (fa = 0 → fb = 0 → s.depth c.toNat = 0 → raises (.fbret c fa fb idx) s c .linkUnf) ∧
    (fa ≠ 0 → raises (.fbcall c fa fb idx) s c .illegal ∧ raises (.fbcallr c fa fb idx) s c .illegal) ∧
    (fa ≠ 0 ∨ fb ≠ 0 → raises (.fbret c fa fb idx) s c .illegal)) ∧
  (∀ s : State,
    (∀ (c : Ctx) (fa : RegNo) (fb : RegNo) (idx : Half), ∃ t, exec (.fbcall c fa fb idx) s = .next t) ∧
    (∀ (c : Ctx) (fa : RegNo) (fb : RegNo) (idx : Half), ∃ t, exec (.fbcallr c fa fb idx) s = .next t) ∧
    (∀ (c : Ctx) (fa : RegNo) (fb : RegNo) (idx : Half), ∃ t, exec (.fbret c fa fb idx) s = .next t))

/-- INSTA writes 0x00_0080_0000 plus the base of instance w[fb] + idx16 to w[fa] and changes nothing else but PC; it raises INST where the
instance or its type is not defined, and where w[fb] + idx16, a signed 64-bit sum, lies outside 0 to 65,535. Last, each command named
answers a next state for every state and operands. (R163.) -/
def Obligations.InstaGivesTheAddress : Prop :=
  (∀ (s : State) (c : Ctx) (fa fb : RegNo) (idx : Half), s.canFetch c →
    let n : Int := (s.wreg c fb).toInt + idx.toNat
    (∀ e t, s.instOf n = some (e, t) → writesW (.insta c fa fb idx) s c fa (BitVec.ofNat 64 (0x800000 + e.base))) ∧
    (n < 0 ∨ 65536 ≤ n → raises (.insta c fa fb idx) s c .inst) ∧
    (0 ≤ n → n < 65536 → (s.instEnt n.toNat).defined = false ∨ 4096 ≤ (s.instEnt n.toNat).type ∨
      (s.typeEnt (s.instEnt n.toNat).type).defined = false → raises (.insta c fa fb idx) s c .inst)) ∧
  (∀ s : State,
    (∀ (c : Ctx) (fa : RegNo) (fb : RegNo) (idx : Half), ∃ t, exec (.insta c fa fb idx) s = .next t))

/-- For a record that lies inside the current instance (and, for TMR, is aligned to 8), TMR gives ET, Q and RUN the values of the rule for its
MODE, with PT, P (the executing task's period) and whether the scan stamp is new, stores the stamp and IN_PREV, writes the reserved bytes
zero and Q to w[fb]; EDGE stores IN, clears PRIME and writes bit 0 for a rising and bit 1 for a falling edge, none where PRIME was set. No
other byte changes. Last, each command named answers a next state for every state and operands. (R165, R166, R167, R169.) -/
def Obligations.TimersAndEdges : Prop :=
  ((∀ (s : State) (c : Ctx) (fa fb : RegNo) (idx : Half), s.canFetch c →
    let a := 0x800000 + s.ib c.toNat + idx.toNat
    let now := s.reg64 R.CML_STAMP_LO
    let inp := (s.wreg c fa).getLsbD 0
    let st := s.byte (a + 0x11)
    let r := timerRule (s.byte (a + 0x10)).toNat (s.rd a 4) (s.taskPeriod c.toNat) (s.rd (a + 4) 4) (st.getLsbD 0) (st.getLsbD 2)
      (st.getLsbD 1) inp (decide (s.rd (a + 8) 8 ≠ now))
    (s.ib c.toNat + idx.toNat) % 8 = 0 → s.insideI c (s.ib c.toNat + idx.toNat) 24 →
      ∃ t, exec (.tmr c fa fb idx) s = .next t ∧ t.pc c.toNat = s.pc c.toNat + 4 ∧
        t.rd (a + 4) 4 = r.1 ∧ t.rd (a + 8) 8 = now ∧
        t.byte (a + 0x11) = BitVec.ofNat 8 (b2n r.2.1 + 2 * b2n inp + 4 * b2n r.2.2) ∧
        (∀ b, a + 0x12 ≤ b → b < a + 0x18 → t.byte b = 0) ∧
        t.w c.toNat fb.toNat = (if fb = 0 then 0 else if r.2.1 then 1 else 0) ∧
        (∀ b, outside (a + 4) 12 b → outside (a + 0x11) 7 b → offPc c b → offW c fb b → t.byte b = s.byte b)) ∧
  (∀ (s : State) (c : Ctx) (fa fb : RegNo) (idx : Half), s.canFetch c →
    let a := 0x800000 + s.ib c.toNat + idx.toNat
    let inp := (s.wreg c fb).getLsbD 0
    let prev := (s.byte a).getLsbD 0
    s.insideI c (s.ib c.toNat + idx.toNat) 1 →
      ∃ t, exec (.edge c fa fb idx) s = .next t ∧ t.pc c.toNat = s.pc c.toNat + 4 ∧
        t.byte a = (if inp then 1 else 0) ∧
        t.w c.toNat fa.toNat = (if fa = 0 then 0 else if (s.byte a).getLsbD 7 then 0
          else if inp ∧ prev = false then 1 else if prev ∧ inp = false then 2 else 0) ∧
        (∀ b, b ≠ a → offPc c b → offW c fa b → t.byte b = s.byte b))) ∧
  (∀ s : State,
    (∀ (c : Ctx) (fa : RegNo) (fb : RegNo) (idx : Half), ∃ t, exec (.tmr c fa fb idx) s = .next t) ∧
    (∀ (c : Ctx) (fa : RegNo) (fb : RegNo) (idx : Half), ∃ t, exec (.edge c fa fb idx) s = .next t))

/-- SUBST raises ILLEGAL for an odd fa and POINT for a number at or above the count or a descriptor whose kind, type, policy or unit does not
exist. For a point that is not healthy it writes the value and the quality code that the table of R172 gives (4 with the held value where
the point was never good, else 1 held, 2 fixed, 3 safe) and changes nothing else; for a healthy one it writes quality 0, remembers that
the point was good, and writes the live value to the held value unless the policy is 1. Last, each command named answers a next state for
every state and operands. Clauses that rest on the model's own readings: assumption log 13. (R171, R172.) -/
def Obligations.SubstituteReads : Prop :=
  (∀ (s : State) (c : Ctx) (fa fb : RegNo) (idx : Half), s.canFetch c →
    let n : Int := (s.wreg c fb).toInt + idx.toNat
    let base := s.f F.CML_PTBASE_BASE / 16 * 16
    let count := min 16384 (s.f F.CML_PTCNT_COUNT)
    let a := 0xC00000 + base + 32 * n.toNat
    let p := s.pointAt a
    let q := s.strobePoint a
    (fa.toNat % 2 = 1 → raises (.subst c fa fb idx) s c .illegal) ∧
    (fa.toNat % 2 = 0 → n < 0 ∨ (count : Int) ≤ n → raises (.subst c fa fb idx) s c .point) ∧
    (fa.toNat % 2 = 0 → 0 ≤ n → n < count → base + 32 * count ≤ 0x300000 → p.ok = false → raises (.subst c fa fb idx) s c .point) ∧
    (fa.toNat % 2 = 0 → 0 ≤ n → n < count → base + 32 * count ≤ 0x300000 → p.ok = true → s.pointHealthy q = false →
      ∃ t, exec (.subst c fa fb idx) s = .next t ∧ t.pc c.toNat = s.pc c.toNat + 4 ∧
        t.w c.toNat fa.toNat = (if fa = 0 then 0 else
          BitVec.ofNat 64 (if n.toNat ∈ s.cml.good ∧ p.policy = 2 then p.safe else p.held)) ∧
        t.w c.toNat (fa.toNat + 1) = (if n.toNat ∈ s.cml.good then BitVec.ofNat 64 (p.policy + 1) else 4) ∧
        s.changesOnly t c (fun b => offW c fa b ∧ outside (slot c.toNat + 8 * (fa.toNat + 1)) 8 b)) ∧
    (fa.toNat % 2 = 0 → 0 ≤ n → n < count → base + 32 * count ≤ 0x300000 → p.ok = true → s.pointHealthy q = true →
      ∃ t, exec (.subst c fa fb idx) s = .next t ∧ t.pc c.toNat = s.pc c.toNat + 4 ∧
        t.w c.toNat (fa.toNat + 1) = 0 ∧ n.toNat ∈ t.cml.good ∧
        (p.policy = 1 → t.rd (a + 0x10) 8 = p.held) ∧
        (p.policy ≠ 1 → fa ≠ 0 → (t.w c.toNat fa.toNat).toNat = t.rd (a + 0x10) 8) ∧
        (∀ b, outside (a + 0x10) 8 b → offPc c b → offW c fa b → outside (slot c.toNat + 8 * (fa.toNat + 1)) 8 b → t.byte b = s.byte b))) ∧
  (∀ s : State,
    (∀ (c : Ctx) (fa : RegNo) (fb : RegNo) (idx : Half), ∃ t, exec (.subst c fa fb idx) s = .next t))

/-- One word of every format, written out from the encodings of the tables (and three that stand for no instruction, the all-zero word among
them), decodes to its instruction with the operands in their places. (R153, R154, R155.) -/
def Obligations.CumelWordsDecode : Prop :=
  (∀ c : Ctx,
    cmlDecode c 0b00000100011000010001000000000000 = some (.add c 3 1 2) ∧
    cmlDecode c 0b00000100011000010001000000010011 = some (.divu c 3 1 2) ∧
    cmlDecode c 0b00001001000010000100000000000000 = some (.fadd c 8 8 8) ∧
    cmlDecode c 0b00001100101000000101000000000010 = some (.mfs c 5 0 10) ∧
    cmlDecode c 0b00010000011000001111111111111111 = none ∧
    cmlDecode c 0b00010000011000000011111111111111 = some (.addi c 3 0 0x3FFF) ∧
    cmlDecode c 0b00010100011000111100000000000111 = some (.lsi c 3 3 7) ∧
    cmlDecode c 0b00100000010001110000000000010000 = some (.ldI c 2 7 0x10) ∧
    cmlDecode c 0b01010100010001111111111111111100 = some (.swG c 2 7 0xFFFC) ∧
    cmlDecode c 0b01110000001111111111111111111111 = some (.jal c 1 0x1FFFFF) ∧
    cmlDecode c 0b10000000000000000000001000000001 = some (.fbcall c 0 0 0x201) ∧
    cmlDecode c 0b10110000000000000000000000000000 = some (.scanend c 0 0 0) ∧
    cmlDecode c 0 = none)

/-- For each of the 86 Cumel instructions and every value of every operand, the word that the encoder gives decodes, for the same context, to
that very instruction with those operands; so no two instructions share a word. (R153, R154, R155.) -/
def Obligations.DecodeOfEncodeIsTheInstruction : Prop :=
  (∀ (i : Instr) (c : Ctx) (w : Word), cmlEncode i = some (c, w) → cmlDecode c w = some i) ∧
  (∀ (i j : Instr) (c : Ctx) (w : Word), cmlEncode i = some (c, w) → cmlEncode j = some (c, w) → i = j)

/-- A context that fetches a word that decodes to no instruction raises ILLEGAL with no other effect; major opcodes outside the table, 0 among
them, decode to nothing; a word that decodes is no illegal instruction. Last, each command named answers a next state for every state and
operands. Clauses that rest on the model's own readings: assumption log 8. (R154, R155, R184.) -/
def Obligations.UnlistedWordsRaiseIllegal : Prop :=
  (∀ (s : State) (c : Ctx) (word : Word), s.canFetch c →
    (cmlDecode c word = none → raises (.illegalInstruction c word) s c .illegal) ∧
    (cmlDecode c word ≠ none → exec (.illegalInstruction c word) s = .next s) ∧
    (cmlDecode c 0 = none) ∧
    (∀ op : Nat, op ∈ [0, 7, 29, 30, 31, 46, 47, 48, 63] → ∀ r q h, cmlDecode c (wordM op r q h) = none)) ∧
  (∀ s : State,
    (∀ (c : Ctx) (word : Word), exec (.illegalInstruction c word) s = .next (if (cmlDecode c word).isNone then s.illegal c else s)))

/-- For a task whose EXC_ACT suspends it, an exception writes its code to CML_TSTATc.EXC, sets SUSP and STATE 0b101, counts in CML_EXC.COUNT
(saturating), and where CML_EXC holds no earlier exception writes the context, the cause and the PC of the instruction there; every byte
of memory below MRAM (the registers of every context among them) and every register outside the recorder, the interrupt controller and the
detectors stays. (R184, R185.) -/
def Obligations.ExceptionSuspendsTheTask : Prop :=
  ∀ (s : State) (c : Ctx) (e : Exc), bitsOf (s.curCfg c.toNat) 25 24 = 1 →
    let u := s.exception c.toNat e
    u.f (F.CML_TSTAT_EXC c.toNat) = e.code ∧ u.f (F.CML_TSTAT_SUSP c.toNat) = 1 ∧ u.f (F.CML_TSTAT_STATE c.toNat) = 5 ∧
    u.f F.CML_EXC_COUNT = min 255 (s.f F.CML_EXC_COUNT + 1) ∧ u.f F.CML_EXC_VALID = 1 ∧
    (s.f F.CML_EXC_VALID = 0 → u.f F.CML_EXC_CTX = c.toNat ∧ u.f F.CML_EXC_CAUSE = e.code ∧ u.f F.CML_EXC_PC_PC = s.pc c.toNat) ∧
    (s.f F.CML_EXC_VALID = 1 → u.f F.CML_EXC_CTX = s.f F.CML_EXC_CTX ∧ u.f F.CML_EXC_CAUSE = s.f F.CML_EXC_CAUSE ∧
      u.reg R.CML_EXC_PC = s.reg R.CML_EXC_PC) ∧
    (∀ a, a < mramBase → u.byte a = s.byte a) ∧
    (∀ a, logReg a = false → a ≠ R.CML_EXC → a ≠ R.CML_EXC_PC → a ≠ R.CML_TSTAT c.toNat → u.reg a = s.reg a)

/-- SLV answers 0 or 1 and stages the problem for this tick's or the next batch (as its staging, after a crossing of 2 to 4 further cycles,
reaches the array before the Solve edge or not), 3 where it is staged already and 2, with no staging, where the SLICE of the problem
leaves that batch out; SLVW returns the status word of the most recent final result with bit 31 set while this tick's is not final, or
blocks the context at its own PC between the Solve edge and 0.70 T; SLVR copies the most recent final record into the current instance,
sets the dirty bits of its pages and returns its status. A number outside the admitted table raises PROBLEM. Nothing else changes. Last,
each command named answers a next state for every state and operands. Clauses that rest on the model's own readings: assumption log 12,
14. (R159, R173, R244.) -/
def Obligations.SolverInstructions : Prop :=
  (∀ (s : State) (c : Ctx) (fa fb : RegNo) (idx : Half), s.canFetch c →
    let n : Int := (s.wreg c fb).toInt + idx.toNat
    (n < 0 → raises (.slv c fa fb idx) s c .problem ∧ raises (.slvw c fa fb idx) s c .problem) ∧
    (0 ≤ n → tget? s.azs.table n.toNat = none → raises (.slv c fa fb idx) s c .problem ∧ raises (.slvw c fa fb idx) s c .problem) ∧
    (tget? s.azs.table idx.toNat = none → raises (.slvr c fa fb idx) s c .problem) ∧
    (∀ d, 0 ≤ n → tget? s.azs.table n.toNat = some d →
      let now : Bool := decide (s.f F.TICK_PHASE_PHASE ≤ 1) && decide (s.tick.cycles + 2 + (s.draw 3).1 < 500 * (2 * s.periodUs / 10))
      let apart : Bool := !now && decide (s.f F.TICK_PHASE_PHASE ≤ 1)
      let r := if now then s.tickNo % 8 else (s.tickNo + 1) % 8
      let runs := d.slice / 2 ^ r % 2 = 1
      ∃ t, exec (.slv c fa fb idx) s = .next t ∧ t.pc c.toNat = s.pc c.toNat + 4 ∧
        t.w c.toNat fa.toNat = (if fa = 0 then 0 else if ¬runs then 2
          else if n.toNat ∈ (if apart then s.azs.after else s.azs.staged) then 3 else if now then 0 else 1) ∧
        (∀ q, q ∈ t.azs.staged ↔ q ∈ s.azs.staged ∨ (runs ∧ apart = false ∧ q = n.toNat)) ∧
        (∀ q, q ∈ t.azs.after ↔ q ∈ s.azs.after ∨ (runs ∧ apart = true ∧ q = n.toNat)) ∧
        (∀ a, offPc c a → offW c fa a → t.byte a = s.byte a) ∧
        ({ t with mem := s.mem, freeCtr := s.freeCtr, azs := { t.azs with staged := s.azs.staged, after := s.azs.after } } : State) = s.unmark c) ∧
    (∀ d, 0 ≤ n → tget? s.azs.table n.toNat = some d →
      ¬(s.f F.TICK_PHASE_PHASE = 2 ∧ s.tick.cycles < 500 * (7 * s.periodUs / 10) ∧ n.toNat ∈ s.azs.batch) →
      writesW (.slvw c fa fb idx) s c fa (BitVec.ofNat 64 (s.recStatus d +
        if n.toNat ∈ s.azs.batch ∨ (s.f F.TICK_PHASE_PHASE ≤ 1 ∧ n.toNat ∈ s.azs.staged) then 2 ^ 31 else 0))) ∧
    (∀ d, 0 ≤ n → tget? s.azs.table n.toNat = some d → s.f F.TICK_PHASE_PHASE = 2 → s.tick.cycles < 500 * (7 * s.periodUs / 10) →
      n.toNat ∈ s.azs.batch → blocks (.slvw c fa fb idx) s c false fa fb idx) ∧
    (∀ d, tget? s.azs.table idx.toNat = some d →
      let x : Int := (s.ib c.toNat : Int) + (s.wreg c fb).toInt
      let a := 0x800000 + x.toNat
      let from_ := d.recAt (s.curRec d)
      s.insideI c x (32 + 8 * d.n) →
      ∃ t, exec (.slvr c fa fb idx) s = .next t ∧ t.pc c.toNat = s.pc c.toNat + 4 ∧
        t.w c.toNat fa.toNat = (if fa = 0 then 0 else BitVec.ofNat 64 (s.rd from_ 4)) ∧
        (∀ k, k < 32 + 8 * d.n → t.byte (a + k) = s.byte (from_ + k)) ∧
        (∀ b, outside a (32 + 8 * d.n) b → offPc c b → offW c fa b → t.byte b = s.byte b) ∧
        (∀ p, p ∈ t.cml.dirty ↔ p ∈ s.cml.dirty ∨ (p < 1024 ∧ pageAddr p < a + (32 + 8 * d.n) ∧ a < pageAddr p + 4096)))) ∧
  (∀ s : State,
    (∀ (c : Ctx) (fa : RegNo) (fb : RegNo) (idx : Half), ∃ t, exec (.slv c fa fb idx) s = .next t) ∧
    (∀ (c : Ctx) (fa : RegNo) (fb : RegNo) (idx : Half), ∃ t, exec (.slvw c fa fb idx) s = .next t) ∧
    (∀ (c : Ctx) (fa : RegNo) (fb : RegNo) (idx : Half), ∃ t, exec (.slvr c fa fb idx) s = .next t))

/-- PRQ with idx16[3:0] not 0 raises ILLEGAL; before 0.6 ms it blocks the context at its PC; from then on it copies min(L, 64 - S) units of
the current tick's result record to IB + w[fb] in the current instance, or raises BOUNDS, and writes the record's tick number to w[fa].
PRQ_STALL_END and SLVW_UNBLOCK free a context blocked there once the wait is over and let it execute that instruction. CHK marks the pages
of instance data in its range dirty, and those of global scratch checkpoint-relevant and dirty; a length of 0 marks nothing. Last, each
command named answers a next state for every state and operands. Clauses that rest on the model's own readings: assumption log 8, 12.
(R29, R159, R173, R175, R176.) -/
def Obligations.PrismAndCheckpointInstructions : Prop :=
  ((∀ (s : State) (c : Ctx) (fa fb : RegNo) (idx : Half), s.canFetch c →
    let start := idx.toNat / 16 % 64
    let units := min (if idx.toNat / 1024 = 0 then 64 else idx.toNat / 1024) (64 - start)
    let x : Int := (s.ib c.toNat : Int) + (s.wreg c fb).toInt
    let a := 0x800000 + x.toNat
    let r := resultAt s.tickNo
    (idx.toNat % 16 ≠ 0 → raises (.prq c fa fb idx) s c .illegal) ∧
    (idx.toNat % 16 = 0 → s.offsetUs < 600 → blocks (.prq c fa fb idx) s c true fa fb idx) ∧
    (idx.toNat % 16 = 0 → 600 ≤ s.offsetUs → ¬s.insideI c x (16 * units) → raises (.prq c fa fb idx) s c .bounds) ∧
    (idx.toNat % 16 = 0 → 600 ≤ s.offsetUs → s.insideI c x (16 * units) →
      ∃ t, exec (.prq c fa fb idx) s = .next t ∧ t.pc c.toNat = s.pc c.toNat + 4 ∧
        t.w c.toNat fa.toNat = (if fa = 0 then 0 else BitVec.ofNat 64 (s.rd r 4)) ∧
        (∀ k, k < 16 * units → t.byte (a + k) = s.byte (r + 16 * start + k)) ∧
        (∀ b, outside a (16 * units) b → offPc c b → offW c fa b → t.byte b = s.byte b))) ∧
  (∀ (s : State) (c : Ctx) (fa fb : RegNo) (idx : Half),
    let free : State := { s with cml := { s.cml with blocked := tdel s.cml.blocked c.toNat } }
    let u := (free.modAct c.toNat ({ · with wait := .no })).sched
    (tget? s.cml.blocked c.toNat = some (true, fa.toNat, fb.toNat, idx.toNat) → 600 ≤ s.offsetUs →
      exec (.prqStallEnd c) s = .next (u.run c.toNat fun v => v.prq c fa fb idx)) ∧
    (s.offsetUs < 600 → exec (.prqStallEnd c) s = .next s) ∧
    (tget? s.cml.blocked c.toNat = some (false, fa.toNat, fb.toNat, idx.toNat) →
      ¬(s.f F.TICK_PHASE_PHASE = 2 ∧ ((s.wreg c fb).toInt + idx.toNat).toNat ∈ s.azs.batch) →
      exec (.slvwUnblock c) s = .next (u.run c.toNat fun v => v.slvw c fa fb idx)) ∧
    (tget? s.cml.blocked c.toNat = none → exec (.slvwUnblock c) s = .next s ∧ exec (.prqStallEnd c) s = .next s)) ∧
  (∀ (s : State) (c : Ctx) (fa fb : RegNo) (idx : Half), s.canFetch c →
    let a := (s.wreg c fa).toNat + idx.toNat
    let n := (s.wreg c fb).toNat
    let hit := fun p => p < 1792 ∧ n ≠ 0 ∧ a < pageAddr p + 4096 ∧ pageAddr p < a + n
    ∃ t, exec (.chk c fa fb idx) s = .next t ∧ t.pc c.toNat = s.pc c.toNat + 4 ∧
      (∀ p, p ∈ t.cml.dirty ↔ p ∈ s.cml.dirty ∨ hit p) ∧
      (∀ p, p ∈ t.cml.relevant ↔ p ∈ s.cml.relevant ∨ (1024 ≤ p ∧ hit p)) ∧
      (∀ b, offPc c b → t.byte b = s.byte b) ∧
      ({ t with mem := s.mem, cml := { t.cml with dirty := s.cml.dirty, relevant := s.cml.relevant } } : State) = s.unmark c)) ∧
  (∀ s : State,
    (∀ (c : Ctx), exec (.slvwUnblock c) s = .next (if s.slvwDone c then s.unblock c false else s)) ∧
    (∀ (c : Ctx) (fa : RegNo) (fb : RegNo) (idx : Half), ∃ t, exec (.prq c fa fb idx) s = .next t) ∧
    (∀ (c : Ctx), exec (.prqStallEnd c) s = .next (if s.offsetUs < 600 then s else s.unblock c true)) ∧
    (∀ (c : Ctx) (fa : RegNo) (fb : RegNo) (idx : Half), ∃ t, exec (.chk c fa fb idx) s = .next t))

/-- SCANEND of a context with an activation that no open window waits for sets DONE and STATE 0, stores its run time, empties the link stack
and ends the activation, or starts the one held pending; then the cores choose again. BRK executes as NOP outside Hold and suspends the
context before the instruction in Hold; so does an enabled breakpoint that names the context and its PC. A context just resumed, and one
already suspended, is not suspended again. (For a Scan or Settle task the end of its window is the one shared definition's.) Last, each
command named answers a next state for every state and operands. Clauses that rest on the model's own readings: assumption log 8, 11.
(R181, R182, R186.) -/
def Obligations.ScanEndAndBreakpoints : Prop :=
  ((∀ (s : State) (c : Ctx) (fa fb : RegNo) (idx : Half) (x : Act), s.canFetch c → s.act? c.toNat = some x →
    c.toNat ∉ s.cml.scanLeft → c.toNat ∉ s.cml.settleLeft →
    ∃ u : State, exec (.scanend c fa fb idx) s = .next u.sched ∧ u.f (F.CML_TSTAT_STATE c.toNat) = 0 ∧ u.f (F.CML_TSTAT_DONE c.toNat) = 1 ∧
      u.f (F.CML_TSTAT_RUN_US c.toNat) = min 0xFFFF (x.run / 500) ∧ u.depth c.toNat = 0 ∧
      (c.toNat ∉ s.cml.held → u.act? c.toNat = none) ∧ (c.toNat ∈ s.cml.held → (u.act? c.toNat).isSome ∧ c.toNat ∉ u.cml.held) ∧
      (∀ a, offPc c a → outside (slot c.toNat + 0x214) 4 a → u.byte a = s.byte a) ∧
      (∀ r, r ≠ R.CML_TSTAT c.toNat → u.reg r = s.reg r)) ∧
  (∀ (s : State) (c : Ctx) (fa fb : RegNo) (idx : Half), s.canFetch c →
    exec (.scanend c fa fb idx) s = .next (((s.unmark c).running c).endAct c.toNat true).sched ∧
    (s.breaks c.toNat = false → setsPc (.brk c fa fb idx) s c (s.pc c.toNat + 4)) ∧
    (s.mode = .hold → c ≠ 255 → (∃ x, s.act? c.toNat = some x ∧ x.skip = false) → s.suspended c.toNat = false →
      suspendsAt (.brk c fa fb idx) s c)) ∧
  (∀ (s : State) (c : Ctx), 
    (s.mode = .hold → c ≠ 255 → (∃ x, s.act? c.toNat = some x ∧ x.skip = false) → s.suspended c.toNat = false →
      (∃ n, n < 8 ∧ s.f (F.CML_BP_EN n) = 1 ∧ s.f (F.CML_BP_PC n) / 4 * 4 = s.pc c.toNat ∧
        (s.f (F.CML_BP_CTX n) = 255 ∨ s.f (F.CML_BP_CTX n) = c.toNat)) → suspendsAt (.breakpointHit c) s c) ∧
    (s.mode ≠ .hold → exec (.breakpointHit c) s = .next s))) ∧
  (∀ s : State,
    (∀ (c : Ctx) (fa : RegNo) (fb : RegNo) (idx : Half), ∃ t, exec (.scanend c fa fb idx) s = .next t) ∧
    (∀ (c : Ctx) (fa : RegNo) (fb : RegNo) (idx : Half), ∃ t, exec (.brk c fa fb idx) s = .next t) ∧
    (∀ (c : Ctx), ∃ t, exec (.breakpointHit c) s = .next t))

/-- A write of CML_TRIG that names a free software-triggered task activates it with the settings in force, and any other is ignored and
recorded; RESUME lets a context suspended at a breakpoint go on and STEP lets it execute one instruction, and both leave any other context
alone; clearing CML_EXC.VALID clears COUNT and CML_EXC_PC and nothing else; a write of 1 to SUSP of a task suspended by an exception ends
its activation and makes it idle. Last, each command named answers a next state for every state and operands. Clauses that rest on the
model's own readings: assumption log 8, 18, 35. (R177, R178, R182, R185, R186, R187.) -/
def Obligations.TriggersAndDebugWrites : Prop :=
  (∀ (s : State) (m : Master) (v : Word),
    let c := bitsOf v 7 0
    (s.softTask c = true → exec (.cmlTrigWrite m v) s = .next (s.activate c).sched) ∧
    (s.softTask c = true → s.mode ≠ .stop → s.b (F.CML_TSTAT_SUSP c) = false → s.atBreak c = false → s.b F.REC_STATUS_AFTERGLOW = false →
      s.act? c = none → s.prg.swapping = false →
      (s.activate c).act? c = some { cfg := s.tcfg c, per := s.eff (R.CML_TPER c), ent := s.eff (R.CML_TENT c), wait := .after }) ∧
    (s.softTask c = false → ∃ t, exec (.cmlTrigWrite m v) s = .next t ∧ s.logFrame t) ∧
    (s.atBreak c = true → exec (.cmlDbgResume m v) s =
      .next (((s.put (F.CML_TSTAT_STATE c) 1).modAct c ({ · with skip := true })).sched)) ∧
    (s.atBreak c = false → exec (.cmlDbgResume m v) s = .next s) ∧
    (s.atBreak c = true → exec (.cmlDbgStep m v) s = .next ((s.noSteps.stepContext c).drainSteps 255)) ∧
    (s.atBreak c = false → exec (.cmlDbgStep m v) s = .next s.noSteps) ∧
    (∃ t, exec (.excValidClear m v) s = .next t ∧ t.f F.CML_EXC_VALID = 0 ∧ t.f F.CML_EXC_COUNT = 0 ∧ t.reg R.CML_EXC_PC = 0 ∧
      t.f F.CML_EXC_CTX = s.f F.CML_EXC_CTX ∧ t.f F.CML_EXC_CAUSE = s.f F.CML_EXC_CAUSE ∧
      (∀ r, r ≠ R.CML_EXC → r ≠ R.CML_EXC_PC → t.reg r = s.reg r) ∧ ({ t with regs := s.regs } : State) = s) ∧
    (∀ k : Ctx, s.b (F.CML_TSTAT_SUSP k.toNat) = true → s.f (F.CML_TSTAT_STATE k.toNat) = 5 → v.getLsbD 6 = false →
      ∃ u : State, exec (.suspRelease m k v) s = .next u.sched ∧ u.f (F.CML_TSTAT_SUSP k.toNat) = 0 ∧ u.f (F.CML_TSTAT_STATE k.toNat) = 0 ∧
        (k.toNat ∉ s.cml.held → u.act? k.toNat = none) ∧ u.mem = s.mem ∧
        (∀ r, r ≠ R.CML_TSTAT k.toNat → u.reg r = s.reg r))) ∧
  (∀ s : State,
    (∀ (m : Master) (c : Ctx) (v : Word), exec (.suspRelease m c v) s = .next (s.tstatWrite c.toNat (v ||| 32))) ∧
    (∀ (m : Master) (v : Word), exec (.cmlTrigWrite m v) s = .next (s.trigWrite m v)) ∧
    (∀ (m : Master) (v : Word), exec (.cmlDbgResume m v) s = .next (s.dbgResume (bitsOf v 7 0))) ∧
    (∀ (m : Master) (v : Word), exec (.cmlDbgStep m v) s = .next (s.fullWrite m R.CML_DBG (withBits v 31 30 1))) ∧
    (∀ (m : Master) (v : Word), exec (.excValidClear m v) s = .next (s.excClear (v ||| 1))))

/-- Where the conditions hold, RUN_WARM, RUN_COLD, STOP, HOLD and RESUME stand in PEND until the tick boundary with the mode unchanged; LOAD
and ROLLBACK in Stop rotate the roles and begin the load; EXCHANGE and ROLLBACK in Run and Hold begin staging; CONFIRM ends a trial, ABORT
discards a staged exchange (after the swap point it has no effect: the model's reading); the owner of a pair forwards EXCHANGE, ROLLBACK,
CONFIRM and ABORT. Both copies of the role record follow the roles. A write with another KEY is ignored and recorded, and an unlisted code
is refused with reason 0x11. Registers outside those named, the rest of memory and of the state stay. Last, each command named answers a
next state for every state and operands. Clauses that rest on the model's own readings: assumption log 22. (R189, R202, R206, R207, R208,
R210, R213, R317.) -/
def Obligations.ProgramCommandsThatAreAccepted : Prop :=
  (∀ (s : State) (m : Master),
    (s.prgBusy = false → s.mode = .stop → s.startReason true = 0 → ∃ t, exec (.runWarm m) s = .next t ∧ s.pends t 1) ∧
    (s.prgBusy = false → s.mode = .stop → s.startReason false = 0 → ∃ t, exec (.runCold m) s = .next t ∧ s.pends t 2) ∧
    (s.mode ≠ .stop ∨ s.startPending = true → ∃ t, exec (.stop m) s = .next t ∧ s.pends t 3) ∧
    (s.prgBusy = false → s.mode = .run → ∃ t, exec (.hold m) s = .next t ∧ s.pends t 4) ∧
    (s.prgBusy = false → s.mode = .hold → ∃ t, exec (.resume m) s = .next t ∧ s.pends t 5) ∧
    (s.prgBusy = false → s.mode = .stop → s.imageCheck s.candSlot true = none →
      ∃ t, exec (.load m) s = .next t ∧ t.prg = { s.prg with loading := some .load } ∧ t.f F.PRG_MODE_PEND = 0 ∧
        t.f F.PRG_ROLES_LIT = s.f F.PRG_ROLES_CAND ∧ t.f F.PRG_ROLES_SHADE = s.f F.PRG_ROLES_LIT ∧
        t.f F.PRG_ROLES_CAND = s.f F.PRG_ROLES_SHADE ∧ s.rolesKept t ∧ ({ s with prg := t.prg, mem := t.mem } : State).regsOnly t [R.PRG_MODE, R.PRG_ROLES]) ∧
    (s.prgBusy = false → s.mode = .stop → s.reg R.PRG_SHADE_VER ≠ 0 → s.imageCheck s.shadeSlot false = none →
      ∃ t, exec (.rollback m) s = .next t ∧ t.prg = { s.prg with loading := some .rollback } ∧ t.f F.PRG_MODE_PEND = 0 ∧
        t.f F.PRG_ROLES_LIT = s.f F.PRG_ROLES_SHADE ∧ t.f F.PRG_ROLES_SHADE = s.f F.PRG_ROLES_CAND ∧
        t.f F.PRG_ROLES_CAND = s.f F.PRG_ROLES_LIT ∧ s.rolesKept t ∧
        ({ s with prg := t.prg, mem := t.mem } : State).regsOnly t [R.PRG_MODE, R.PRG_ROLES]) ∧
    (s.prgBusy = false → s.mode ≠ .stop → ∃ t, exec (.exchange m) s = .next t ∧
      t.prg = { s.prg with staging := some (s.f F.PRG_ROLES_CAND, false) } ∧ t.f F.PRG_STATUS_STAGING = 1 ∧
      t.f F.PRG_STATUS_STAGED = 0 ∧ t.pair = (s.forward .exchange (s.rd (slotBase (s.f F.PRG_ROLES_CAND)) 4)).pair ∧
      ({ s with prg := t.prg, pair := t.pair } : State).regsOnly t [R.PRG_STATUS]) ∧
    (s.prgBusy = false → s.mode ≠ .stop → s.canRollBack = true → ∃ t, exec (.rollback m) s = .next t ∧
      t.prg = { s.prg with staging := some (s.f F.PRG_ROLES_SHADE, true) } ∧ t.f F.PRG_STATUS_STAGING = 1 ∧
      t.f F.PRG_STATUS_STAGED = 0 ∧ t.pair = (s.forward .rollback (s.rd (slotBase (s.f F.PRG_ROLES_SHADE)) 4)).pair ∧
      ({ s with prg := t.prg, pair := t.pair } : State).regsOnly t [R.PRG_STATUS]) ∧
    (s.f F.PRG_STATUS_TRIAL = 1 → ∃ t, exec (.confirm m) s = .next t ∧ t.f F.PRG_STATUS_TRIAL = 0 ∧ t.f F.PRG_STATUS_FAILS = 0 ∧
      t.f F.PRG_TRIAL_CNT_TCNT = 0 ∧ (s.forward .confirm s.litVer).logAnd t [R.PRG_STATUS, R.PRG_TRIAL_CNT]) ∧
    (s.f F.PRG_STATUS_TRIAL = 0 → exec (.confirm m) s = .next (s.forward .confirm s.litVer)) ∧
    (s.prg.swapping = false → ∃ t, exec (.abort m) s = .next t ∧ t.f F.PRG_STATUS_STAGED = 0 ∧ t.f F.PRG_STATUS_STAGING = 0 ∧
      t.prg = { s.prg with staging := none } ∧ ({ (s.forward .abort s.litVer) with prg := t.prg } : State).regsOnly t [R.PRG_STATUS]) ∧
    (s.prg.swapping = true → exec (.abort m) s = .next (s.forward .abort s.litVer)) ∧
    (∀ cmd v, s.forward cmd v = if s.inPair = true ∧ s.f F.PAIR_STATUS_CLAIM = 1 then { s with pair := { s.pair with cmdOut := some (cmd, v) } } else s) ∧
    (∀ v : Word, bitsOf v 31 16 ≠ 0x4C54 → ∃ t, exec (.unknownCommand m v) s = .next t ∧ s.logFrame t) ∧
    (∀ v : Word, bitsOf v 31 16 = 0x4C54 → bitsOf v 3 0 = 0 ∨ 10 < bitsOf v 3 0 →
      ∃ t, exec (.unknownCommand m v) s = .next t ∧ s.refusedWith t 0x11)) ∧
  (∀ s : State,
    (∀ (m : Master), exec (.runWarm m) s = .next (s.prgWrite m (cmdWord 1))) ∧
    (∀ (m : Master), exec (.runCold m) s = .next (s.prgWrite m (cmdWord 2))) ∧
    (∀ (m : Master), exec (.stop m) s = .next (s.prgWrite m (cmdWord 3))) ∧
    (∀ (m : Master), exec (.hold m) s = .next (s.prgWrite m (cmdWord 4))) ∧
    (∀ (m : Master), exec (.resume m) s = .next (s.prgWrite m (cmdWord 5))) ∧
    (∀ (m : Master), exec (.load m) s = .next (s.prgWrite m (cmdWord 6))) ∧
    (∀ (m : Master), exec (.exchange m) s = .next (s.prgWrite m (cmdWord 7))) ∧
    (∀ (m : Master), exec (.rollback m) s = .next (s.prgWrite m (cmdWord 8))) ∧
    (∀ (m : Master), exec (.confirm m) s = .next (s.prgWrite m (cmdWord 9))) ∧
    (∀ (m : Master), exec (.abort m) s = .next (s.prgWrite m (cmdWord 10))) ∧
    (∀ (m : Master) (v : Word), exec (.unknownCommand m v) s = .next (s.prgWrite m v)))

/-- A command of PRG_CMD that the table of R189 does not allow in the mode in force is refused with reason 0x10; while a restore, a load or a
staging runs every command but STOP, CONFIRM and ABORT is refused with 0x0E; ROLLBACK without a usable Shade with 0x0B and in Run without
a reverse migration table with 0x0D. A refusal sets REFUSED and the reason, records its event and asserts source 9, and changes nothing
else. Clauses that rest on the model's own readings: assumption log 22, 24, 34, 37, 58. (R189, R207, R210, R483.) -/
def Obligations.ProgramCommandsThatAreRefused : Prop :=
  ∀ (s : State) (m : Master),
    (s.mode ≠ .stop → s.prgBusy = false → ∀ i ∈ [Instr.runWarm m, .runCold m, .load m], ∃ t, exec i s = .next t ∧ s.refusedWith t 0x10) ∧
    (s.mode = .stop → s.prgBusy = false → ∀ i ∈ [Instr.hold m, .resume m, .exchange m], ∃ t, exec i s = .next t ∧ s.refusedWith t 0x10) ∧
    (s.mode = .stop → s.startPending = false → ∃ t, exec (.stop m) s = .next t ∧ s.refusedWith t 0x10) ∧
    (s.mode = .run → s.prgBusy = false → ∃ t, exec (.resume m) s = .next t ∧ s.refusedWith t 0x10) ∧
    (s.mode = .hold → s.prgBusy = false → ∃ t, exec (.hold m) s = .next t ∧ s.refusedWith t 0x10) ∧
    (s.prgBusy = true → ∀ i ∈ [Instr.runWarm m, .runCold m, .hold m, .resume m, .load m, .exchange m, .rollback m],
      ∃ t, exec i s = .next t ∧ s.refusedWith t 0x0E) ∧
    (s.mode = .stop → s.prgBusy = false → s.reg R.PRG_SHADE_VER = 0 → ∃ t, exec (.rollback m) s = .next t ∧ s.refusedWith t 0x0B) ∧
    (s.mode ≠ .stop → s.prgBusy = false → s.canRollBack = false → ∃ t, exec (.rollback m) s = .next t ∧ s.refusedWith t 0x0D)

/-- At the boundary a completed restore or initialisation begins Run with nothing pending; RUN_WARM and RUN_COLD begin their restore; STOP
enters Stop with cause 1; HOLD enters Hold; with nothing pending and nothing restored the boundary changes nothing of the mode. (R189,
R192, R194, R199.) -/
def Obligations.ModeChangesAtTheBoundary : Prop :=
  ∀ s : State,
    (s.prg.startReady = true → s.f F.PRG_MODE_PEND ≠ 3 → s.modeEdge.mode = .run ∧ s.modeEdge.f F.PRG_MODE_PEND = 0 ∧
      s.modeEdge.prg.startReady = false ∧ s.modeEdge.prg.restoring = none) ∧
    (s.prg.startReady = false → s.prg.restoring = none → s.f F.PRG_MODE_PEND = 1 → s.modeEdge = { s with prg := { s.prg with restoring := some true } }) ∧
    (s.prg.startReady = false → s.prg.restoring = none → s.f F.PRG_MODE_PEND = 2 → s.modeEdge = { s with prg := { s.prg with restoring := some false } }) ∧
    (s.prg.startReady = false → s.prg.restoring = none → s.f F.PRG_MODE_PEND = 3 → s.mode ≠ .stop → s.modeEdge = s.enterStop 1) ∧
    (s.prg.startReady = false → s.prg.restoring = none → s.f F.PRG_MODE_PEND = 4 → s.modeEdge.mode = .hold ∧ s.modeEdge.f F.PRG_MODE_PEND = 0) ∧
    (s.prg.startReady = false → s.prg.restoring = none → s.f F.PRG_MODE_PEND = 0 → s.modeEdge = s)

/-- RESTORE_COMPLETE of a start that still waits does the cold restart, or the warm restart of the newest valid generation, after the expert
fields have been taken back, and makes the start ready; a generation whose CRC fails is not restored, which is recorded. LOCAL_SNAPSHOT
counts ticks and, in any mode once the program has run (the model's choice, log 16), begins, when CKPT_PERIOD is due, to write the restart
state of this tick over the older generation, which is valid again only when SNAPSHOT_WRITE_COMPLETE has written its header.
TRIAL_CONFIRMED ends a trial that has run long enough. Last, each command named answers a next state for every state and operands. Clauses
that rest on the model's own readings: assumption log 2, 8, 19. (R195, R196, R197, R198, R199, R208.) -/
def Obligations.RestartsSnapshotsAndTrials : Prop :=
  (∀ s : State,
    (s.prg.restoring = none → ∀ ok, exec (.restoreComplete ok) s = .next s) ∧
    (s.prg.restoring = some false → s.prg.startReady = false → s.f F.PRG_MODE_PEND ≠ 3 → ∀ ok, ∃ t,
      exec (.restoreComplete ok) s = .next t ∧ t.prg.startReady = true ∧
      t = { s.restoreExpert.coldRestart with prg := { s.restoreExpert.coldRestart.prg with startReady := true } }) ∧
    (∀ g c, s.prg.restoring = some true → s.prg.startReady = false → s.f F.PRG_MODE_PEND ≠ 3 → s.newestIntact = true →
      s.restoreExpert.newestGen = some (g, c) → ∃ t, exec (.restoreComplete true) s = .next t ∧ t.prg.startReady = true ∧
      t = { s.restoreExpert.warmRestart c .warm with prg := { (s.restoreExpert.warmRestart c .warm).prg with startReady := true } }) ∧
    (∀ w ok, s.prg.restoring = some w → s.prg.startReady = false → s.f F.PRG_MODE_PEND = 3 ∨ (w = true ∧ (ok = false ∨ s.newestIntact = false)) →
      ∃ t, exec (.restoreComplete ok) s = .next t ∧ t.f F.PRG_MODE_PEND = 0 ∧
      t.prg = { s.prg with restoring := none, startReady := false } ∧ ({ s with prg := t.prg } : State).logAnd t [R.PRG_MODE]) ∧
    (s.prg.startReady = true → ∀ ok, exec (.restoreComplete ok) s = .next s) ∧
    (s.f F.PRG_CTRL_CKPT_PERIOD = 0 → ∃ t, exec .localSnapshot s = .next t ∧ t = { s with prg := { s.prg with since := s.prg.since + 1 } }) ∧
    (s.standby = false → s.prg.ran = false → exec .localSnapshot s = .next { s with prg := { s.prg with since := s.prg.since + 1 } }) ∧
    (s.standby = false → s.prg.ran = true → s.f F.PRG_CTRL_CKPT_PERIOD ≠ 0 → s.litVer ≠ 0 → s.f F.PRG_CTRL_CKPT_PERIOD ≤ s.prg.since + 1 →
      s.ckptFits = true → s.prg.writing = none → ∃ t g c, exec .localSnapshot s = .next t ∧ t.prg.since = 0 ∧
      t.prg.writing = some (g, c) ∧ c.tick = s.tickNo ∧ c.stamp = s.reg64 R.CML_STAMP_LO ∧ c.version = s.litVer ∧
      tget? t.prg.gens g = none ∧ t.rd (genBase g) 8 = 0 ∧ ∀ a, outside (genBase g) 8 a → t.byte a = s.byte a) ∧
    (exec .localSnapshot s = .next (s.localSnapshot (if s.standby then s.pair.committed else none))) ∧
    (∀ g c, s.prg.writing = some (g, c) → s.f F.REC_STATUS_AFTERGLOW = 0 → ∃ t, exec .snapshotWriteComplete s = .next t ∧
      t.prg.writing = none ∧ tget? t.prg.gens g = some c ∧ t.rd (genBase g) 8 = c.seq % 2 ^ 64 ∧
      ∀ a, a < genBase g ∨ (genState g + c.size ≤ a ∧ genBase g + 12 + c.header.length ≤ a) → t.byte a = s.byte a) ∧
    (s.prg.writing = none → exec .snapshotWriteComplete s = .next s) ∧
    (s.f F.PRG_STATUS_TRIAL = 1 → max 1 (s.f F.PRG_CTRL_TRIAL_TICKS) ≤ s.f F.PRG_TRIAL_CNT_TCNT → ∃ t, exec .trialConfirmed s = .next t ∧
      t.f F.PRG_STATUS_TRIAL = 0 ∧ t.f F.PRG_STATUS_FAILS = 0 ∧ t.f F.PRG_TRIAL_CNT_TCNT = 0 ∧ s.logAnd t [R.PRG_STATUS, R.PRG_TRIAL_CNT]) ∧
    (s.f F.PRG_TRIAL_CNT_TCNT < s.f F.PRG_CTRL_TRIAL_TICKS → exec .trialConfirmed s = .next s)) ∧
  (∀ s : State,
    (∀ (crcOk : Bool), exec (.restoreComplete crcOk) s = .next (s.restoreDone crcOk)) ∧
    (exec .snapshotWriteComplete s = .next s.snapshotDone) ∧
    (exec .localSnapshot s = .next (s.localSnapshot (if s.standby then s.pair.committed else none))) ∧
    (∃ t, exec .trialConfirmed s = .next t))

/-- LOAD_COMPLETE of a load installs the Lit image and sets TRIAL with FAILS and the trial count 0, of a rollback clears TRIAL;
STAGING_COMPLETE of an image that passes its checks sets STAGED; SWAP_POINT, where every condition holds, stops the tasks and runs the
migration table, after which the swap waits for the boundary, and a bad entry abandons it in Stop; a swap frame does the same at the
partner that follows the owner, which stages only the version its owner forwards, and a frame that fails its CRC is counted; AUTO_ROLLBACK
in Stop with FAILS 3 begins the load of the Shade with cause 4. Where the condition of a command does not hold nothing changes. Last, each
command named answers a next state for every state and operands. Clauses that rest on the model's own readings: assumption log 2, 8, 9,
21, 22, 33, 36. (R206, R207, R209, R213, R215, R216, R317.) -/
def Obligations.LoadsExchangesAndAutomaticRollback : Prop :=
  (∀ s : State,
    (s.f F.PRG_STATUS_FAILS = 3 → s.prg.loading = none → s.mode = .stop → (s.put F.PRG_MODE_STOP_CAUSE 4).shadeReason = none → ∃ t, exec .autoRollback s = .next t ∧
      t.f F.PRG_MODE_STOP_CAUSE = 4 ∧ t.f F.PRG_MODE_PEND = 0 ∧ t.prg = { s.prg with loading := some .auto } ∧
      t.f F.PRG_ROLES_LIT = s.f F.PRG_ROLES_SHADE ∧ t.f F.PRG_ROLES_CAND = s.f F.PRG_ROLES_LIT ∧
      s.rolesKept t ∧ ({ s with prg := t.prg, mem := t.mem } : State).regsOnly t [R.PRG_MODE, R.PRG_ROLES]) ∧
    (s.f F.PRG_STATUS_FAILS = 3 → s.prg.loading = none → s.mode ≠ .stop → (s.enterStop 4).shadeReason = none →
      ∃ t, exec .autoRollback s = .next t ∧ t = (s.enterStop 4).rotateBack.startLoad .auto) ∧
    (∀ x, s.f F.PRG_STATUS_FAILS = 3 → s.prg.loading = none → s.mode ≠ .stop → (s.enterStop 4).shadeReason = some x →
      exec .autoRollback s = .next ((s.enterStop 4).prgRefuseBy x)) ∧
    (s.f F.PRG_STATUS_FAILS ≠ 3 → exec .autoRollback s = .next s) ∧
    (∀ k rb, s.prg.staging = some (k, rb) → s.f F.PRG_STATUS_STAGING = 1 →
      let u := s.put F.PRG_STATUS_STAGING 0
      let v := u.fillBank (slotBase k) u.stagingBase
      u.imageCheck (slotBase k) (!rb) = none → v.stagingCheck rb = none →
      ∃ t, exec .stagingComplete s = .next t ∧ t.f F.PRG_STATUS_STAGED = 1 ∧ t = v.put F.PRG_STATUS_STAGED 1) ∧
    (s.prg.staging = none → exec .stagingComplete s = .next s ∧ exec .swapPoint s = .next s) ∧
    (∀ k rb, s.prg.staging = some (k, rb) → s.swapDue = true → (s.stopForSwap.runExchange rb).1 = true →
      ∃ t, exec .swapPoint s = .next t ∧ t.prg.swapping = true ∧ t.mem = (s.stopForSwap.runExchange rb).2.mem ∧
        ((s.stopForSwap.runExchange rb).2.inPair = true → t.pair.swapOut = some (s.stopForSwap.runExchange rb).2.tickNo)) ∧
    (∀ k rb, s.prg.staging = some (k, rb) → s.swapDue = true → (s.stopForSwap.runExchange rb).1 = false →
      ∃ t, exec .swapPoint s = .next t ∧ t = (s.stopForSwap.runExchange rb).2.abandonSwap) ∧
    (s.swapDue = false → exec .swapPoint s = .next s) ∧
    (∀ k rb, s.prg.staging = some (k, rb) → s.f F.PRG_STATUS_STAGED = 1 → s.follows = true → s.dark = false →
      let u := if s.mode = .stop then s.linkFrame else s.linkFrame.stopForSwap
      (u.runExchange rb).1 = true → ∃ t, exec (.swapFrame true) s = .next t ∧ t.prg.swapping = true ∧ t.mem = (u.runExchange rb).2.mem) ∧
    (s.follows = false → s.dark = false → exec (.swapFrame true) s = .next s.linkFrame ∧ ∀ cmd v, exec (.forwardedCommand cmd v true) s = .next s.linkFrame) ∧
    (s.dark = false → exec (.swapFrame false) s = .next (s.linkFrame.count F.PAIR_LINK_CRC_ERR) ∧
      ∀ cmd v, exec (.forwardedCommand cmd v false) s = .next (s.linkFrame.count F.PAIR_LINK_CRC_ERR)) ∧
    (∀ cmd v, cmd = .exchange ∨ cmd = .rollback → s.follows = true → s.dark = false → s.prgBusy = false →
      let k := if cmd = .exchange then s.f F.PRG_ROLES_CAND else s.f F.PRG_ROLES_SHADE
      (s.rd (slotBase k) 4 = v.toNat → ∃ t, exec (.forwardedCommand cmd v true) s = .next t ∧ t.pair.forwarded = some v.toNat ∧
        t.prg = { s.prg with staging := some (k, decide (cmd = .rollback)) } ∧ t.f F.PRG_STATUS_STAGING = 1 ∧ t.f F.PRG_STATUS_STAGED = 0 ∧
        ({ s with prg := t.prg, pair := t.pair } : State).regsOnly t [R.PRG_STATUS, R.PAIR_STATUS]) ∧
      (s.rd (slotBase k) 4 ≠ v.toNat → exec (.forwardedCommand cmd v true) s = .next s.linkFrame)) ∧
    (∀ v, s.follows = true → s.dark = false → s.prg.swapping = false → ∃ t, exec (.forwardedCommand .abort v true) s = .next t ∧
      t.f F.PRG_STATUS_STAGED = 0 ∧ t.f F.PRG_STATUS_STAGING = 0 ∧ t.prg = { s.prg with staging := none } ∧
      ({ s.linkFrame with prg := t.prg } : State).regsOnly t [R.PRG_STATUS]) ∧
    (∀ v, s.follows = true → s.dark = false → s.f F.PRG_STATUS_TRIAL = 1 → ∃ t, exec (.forwardedCommand .confirm v true) s = .next t ∧
      t.f F.PRG_STATUS_TRIAL = 0 ∧ s.linkFrame.logAnd t [R.PRG_STATUS, R.PRG_TRIAL_CNT]) ∧
    (s.prg.loading = none → exec .loadComplete s = .next s) ∧
    (s.prg.loading = some .load →
      let u : State := { s with prg := { s.prg with loading := none } }
      ∃ t, exec .loadComplete s = .next t ∧ t.f F.PRG_STATUS_TRIAL = 1 ∧ t.f F.PRG_STATUS_FAILS = 0 ∧ t.f F.PRG_TRIAL_CNT_TCNT = 0 ∧
        u.install.logAnd t [R.PRG_STATUS, R.PRG_TRIAL_CNT]) ∧
    (s.prg.loading = some .rollback →
      let u : State := { s with prg := { s.prg with loading := none } }
      ∃ t, exec .loadComplete s = .next t ∧ t.f F.PRG_STATUS_TRIAL = 0 ∧ t.f F.PRG_STATUS_FAILS = 0 ∧ u.install.logAnd t [R.PRG_STATUS])) ∧
  (∀ s : State,
    (exec .loadComplete s = .next s.loadDone) ∧
    (exec .stagingComplete s = .next s.stagingDone) ∧
    (exec .swapPoint s = .next s.swapPoint) ∧
    (∀ (crcOk : Bool), exec (.swapFrame crcOk) s = .next (s.swapFrame crcOk)) ∧
    (exec .autoRollback s = .next s.autoRollback) ∧
    (∀ (cmd : FwdCmd) (ver : Word) (crcOk : Bool), exec (.forwardedCommand cmd ver crcOk) s = .next (s.forwardedCommand crcOk cmd ver.toNat)))

/-- A write of a plain register gives it the bits its access codes allow and changes no other; one whose word waits for its edge of the tick
keeps the old word in force; every other register's write is its block's rule; a write of an unassigned offset or of a register that is
fused off is ignored; a write of memory stores its four bytes but for those that ignore writes; an access of an unassigned range, of a
wrong width or alignment to a register, or a write of the ROM, is a bus error that only records itself and asserts source 0. A read of a
low word latches the high word for that master, a read of the latched half answers and drops it, and the other reads change nothing (FRAC
and IRQ_MASK by their own rules); a write of a low word is held for that master and takes effect with its write of the high word. (With
each write goes the start of the model's list of single-stepped instructions, empty.) Last, each command named answers a next state for
every state and operands. Clauses that rest on the model's own readings: assumption log 8. (R6, R7, R11, R12, R13, R14, R149, R486.) -/
def Obligations.RegisterAccesses : Prop :=
  (∀ (s : State) (m : Master) (a : Addr) (v : Word),
    (assigned a.toNat = true → ordinaryReg a.toNat = true → regionOf a.toNat = .registers → a.toNat % 4 = 0 → s.fusedBits a.toNat = 0 →
      ∃ t, exec (.registerWrite m a v) s = .next t ∧ t.reg a.toNat = s.plain a.toNat v ∧ s.noSteps.regsOnly t [a.toNat]) ∧
    (assigned a.toNat = true → laterReg a.toNat = true → regionOf a.toNat = .registers → a.toNat % 4 = 0 → s.fusedBits a.toNat = 0 →
      ∃ t, exec (.registerWrite m a v) s = .next t ∧ t.reg a.toNat = s.plain a.toNat v ∧ t.eff a.toNat = s.eff a.toNat ∧
        ({ s.noSteps with inForce := t.inForce } : State).regsOnly t [a.toNat]) ∧
    (regionOf a.toNat = .registers → a.toNat % 4 = 0 → a.toNat ≠ R.PRG_CMD → assigned a.toNat = true → s.fusedBits a.toNat = 0 →
      exec (.registerWrite m a v) s = .next ((s.noSteps.writeBlock m a.toNat v).drainSteps 256)) ∧
    (a.toNat = R.PRG_CMD → exec (.registerWrite m a v) s = .next ((s.noSteps.prgWrite m v).drainSteps 256)) ∧
    (exec (.lowWordWrite m a v) s = exec (.registerWrite m a v) s ∧ exec (.highWordWrite m a v) s = exec (.registerWrite m a v) s) ∧
    (regionOf a.toNat = .registers → a.toNat % 4 = 0 → assigned a.toNat = false →
      exec (.registerWrite m a v) s = .next s.noSteps) ∧
    (regionOf a.toNat = .registers → a.toNat % 4 = 0 → a.toNat ≠ R.PRG_CMD → s.fusedBits a.toNat = 0xFFFFFFFF →
      exec (.registerWrite m a v) s = .next s.noSteps) ∧
    (regionOf a.toNat ≠ .registers → badAccess a.toNat 4 .write = false →
      ∃ t, exec (.registerWrite m a v) s = .next t ∧
        (∀ b, t.byte b = if a.toNat ≤ b ∧ b < a.toNat + 4 ∧ writeIgnored b = false
          then BitVec.ofNat 8 (v.toNat / 256 ^ (b - a.toNat)) else s.byte b) ∧
        (∀ r, inArray r (R.LAN_DIRTY 0) 4 30 = false → t.reg r = s.reg r) ∧ ({ t with mem := s.mem, regs := s.regs } : State) = s.noSteps) ∧
    (badAccess a.toNat 4 .write = true → ∃ t, exec (.registerWrite m a v) s = .next t ∧ s.noSteps.logFrame t) ∧
    (∀ w k, badAccess a.toNat w k = true → ∃ t, exec (.busError m a w k) s = .next t ∧ s.logFrame t) ∧
    (∀ w k, badAccess a.toNat w k = true → exec (.busError m a w k) s = .next ((((s.record 0 (pay [.u64 a.toNat, .u32 w,
      .u32 (match k with | .read => 0 | .write => 1 | .fetch => 2), .u32 (masterCode m)])).assertSrc 0)).hostAbort m a.toNat)) ∧
    (∀ w k, badAccess a.toNat w k = false → exec (.busError m a w k) s = .next s) ∧
    (assigned a.toNat = true → lowWord a.toNat = true → tget? s.latches (mkey m a.toNat) = none →
      ∃ t, exec (.lowWordRead m a) s = .next t ∧
        tget? t.latches (mkey m (a.toNat + 4)) = some (s.regValue m (a.toNat + 4)) ∧
        (∀ k, k ≠ mkey m (a.toNat + 4) → tget? t.latches k = tget? s.latches k) ∧ ({ t with latches := s.latches } : State) = s) ∧
    (assigned a.toNat = false → exec (.lowWordRead m a) s = .next s) ∧
    (∀ w, assigned a.toNat = true → inArray a.toNat (R.IRQ_MASK 0) 4 8 = false → tget? s.latches (mkey m a.toNat) = some w →
      exec (.lowWordRead m a) s = .next { s with latches := tdel s.latches (mkey m a.toNat) }) ∧
    (assigned a.toNat = true → lowWord a.toNat = false → inArray a.toNat (R.IRQ_MASK 0) 4 8 = false →
      inArray a.toNat (R.TIME_FRAC 0) 0x20 16 = false → tget? s.latches (mkey m a.toNat) = none → exec (.lowWordRead m a) s = .next s) ∧
    (assigned a.toNat = true → inArray a.toNat (R.TIME_FRAC 0) 0x20 16 = true → tget? s.latches (mkey m a.toNat) = none →
      exec (.lowWordRead m a) s = .next (s.fracRead m ((a.toNat - R.TIME_FRAC 0) / 0x20))) ∧
    (∀ i, i < 8 → tget? s.latches (mkey m (R.IRQ_MASK i)) = none →
      exec (.lowWordRead m (BitVec.ofNat 40 (R.IRQ_MASK i))) s = .next (s.maskRead i)) ∧
    (assigned a.toNat = true → lowRw a.toNat = true → a.toNat % 4 = 0 →
      ∃ t, exec (.lowWordWrite m a v) s = .next t ∧ tget? t.lowBufs (mkey m a.toNat) = some v ∧
        (∀ k, k ≠ mkey m a.toNat → tget? t.lowBufs k = tget? s.lowBufs k) ∧ ({ t with lowBufs := s.lowBufs } : State) = s.noSteps) ∧
    (∀ w, tget? s.lowBufs (mkey m R.TIME_SET_SECLO) = some w →
      ∃ t, exec (.highWordWrite m (BitVec.ofNat 40 R.TIME_SET_SECHI) v) s = .next t ∧ t.reg R.TIME_SET_SECLO = w ∧
        t.reg R.TIME_SET_SECHI = v ∧ tget? t.lowBufs (mkey m R.TIME_SET_SECLO) = none ∧
        ({ s.noSteps with lowBufs := t.lowBufs } : State).regsOnly t [R.TIME_SET_SECLO, R.TIME_SET_SECHI]) ∧
    (∀ b w, b < 16 → assigned (R.TIME_INCHI b) = true → tget? s.lowBufs (mkey m (R.TIME_INCLO b)) = some w →
      let u : State := { s.noSteps with lowBufs := tdel s.lowBufs (mkey m (R.TIME_INCLO b)) }
      let x := u.incWrite m b (v.toNat * 2 ^ 32 + w.toNat)
      exec (.highWordWrite m (BitVec.ofNat 40 (R.TIME_INCHI b)) v) s = .next (if b = 3 then x.copyTickInc else x)) ∧
    (exec (.highWordWrite m (BitVec.ofNat 40 R.REC_RD_SEQ_HI) v) s = .next (s.noSteps.readWindow m v))) ∧
  (∀ s : State,
    (∀ (m : Master) (a : Addr) (v : Word), exec (.registerWrite m a v) s = .next (s.fullWrite m a.toNat v)) ∧
    (∀ (m : Master) (a : Addr) (width : Nat) (kind : AccessKind), ∃ t, exec (.busError m a width kind) s = .next t) ∧
    (∀ (m : Master) (a : Addr), exec (.lowWordRead m a) s = .next (s.readReg m a.toNat).2) ∧
    (∀ (m : Master) (a : Addr) (v : Word), exec (.lowWordWrite m a v) s = .next (s.fullWrite m a.toNat v)) ∧
    (∀ (m : Master) (a : Addr) (v : Word), exec (.highWordWrite m a v) s = .next (s.fullWrite m a.toNat v)))

/-- A sample of a stream that exists is captured in this tick as the newest of its window (of a digital Glint unit: the unit's output) where
its tick has come before the cut-off, and waits otherwise; three slips in 100 ticks mask a stream and 100 ticks without one lift that; a
stream without a new sample for its limit goes stale; UNMASK, MASK_MULTIPLIER_DOUBLE, READMIT and TRACK_RESTART act once their counts are
reached and not before; CAPTURE_CUT_OFF freezes the windows and starts the fall-back context where FB_EN is set. No other stream and no
register but those named changes. Last, each command named answers a next state for every state and operands. Clauses that rest on the
model's own readings: assumption log 8, 51, 59, 60, 63, 68. (R48, R49, R51, R53, R55, R56, R74, R78, R105, R108, R110, R111.) -/
def Obligations.PrismStreams : Prop :=
  (∀ (s : State) (n : Stream) (x : Sample),
    let k := n.val
    let y := s.stream k
    let stamp := match s.stampSource k with
      | some q => (tget (s.base 0, s.base 1) s.irq.stamp q).1.total
      | none => s.mono
    let m := s.instant k stamp (s.fieldAt k 0x0C x.time)
    let win := bitsOf (s.scfg k) 21 16
    (s.streamExists k = false ∨ s.sampleValues k x = none → exec (.sampleArrival n x) s = .next s) ∧
    (∀ v, s.sampleValues k x = some v → s.streamExists k = true → s.prism.capturing = false ∨ s.tickNo < s.assign k m →
      ∃ t z, exec (.sampleArrival n x) s = .next t ∧ t.stream k = { y with waiting := y.waiting ++ [z] } ∧
        z.value = v.1 ∧ z.second = v.2 ∧ z.m = m ∧ z.tick = s.assign k m ∧ s.streamOnly t k []) ∧
    (∀ v, s.sampleValues k x = some v → s.streamExists k = true → s.prism.capturing = true → s.assign k m ≤ s.tickNo → s.unitOf k = none →
      ∃ t z rest, exec (.sampleArrival n x) s = .next t ∧ (t.stream k).window = z :: rest ∧ z.value = v.1 ∧ z.second = v.2 ∧ z.m = m ∧
        z.tick = s.assign k m ∧ (t.stream k).stale = false ∧ (t.stream k).lastCap = s.tickNo ∧
        rest = y.window.take ((if win = 0 then 64 else win) - 1) ∧
        (∀ j, j ≠ k → t.stream j = s.stream j)) ∧
    (∀ u v, s.sampleValues k x = some v → s.streamExists k = true → s.prism.capturing = true → s.assign k m ≤ s.tickNo → s.unitOf k = some u →
      ∃ t, exec (.sampleArrival n x) s = .next t ∧ (t.stream k).window.length = min (y.window.length + 1) (if win = 0 then 64 else win) ∧
        (t.stream k).stale = false ∧ (t.stream k).lastCap = s.tickNo ∧ (t.stream k).raw.head?.map (·.value) = some v.1 ∧
        (∀ j, j ≠ k → t.stream j = s.stream j)) ∧
    (3 ≤ s.slipCount k → ∃ t, exec (.slipMask n) s = .next t ∧ t.stream k = { y with slipMask := true } ∧
      (∀ j, t.bit R.PRISM_MASKED j = (decide (j = k ∧ k < 12) || s.bit R.PRISM_MASKED j)) ∧ s.streamOnly t k [R.PRISM_MASKED]) ∧
    (s.slipCount k < 3 → exec (.slipMask n) s = .next s) ∧
    (y.slipMask = true → y.lastSlip + 100 ≤ s.tickNo → ∃ t, exec (.slipMaskLift n) s = .next t ∧
      t.stream k = { y with slipMask := false } ∧
      (∀ j, t.bit R.PRISM_MASKED j = if j = k ∧ k < 12 then false else s.bit R.PRISM_MASKED j) ∧ s.streamOnly t k [R.PRISM_MASKED]) ∧
    (y.slipMask = false ∨ s.tickNo < y.lastSlip + 100 → exec (.slipMaskLift n) s = .next s) ∧
    (y.lastCap + s.staleLimit k ≤ s.tickNo → ∃ t, exec (.streamStale n) s = .next t ∧ t.stream k = { y with stale := true } ∧
      s.streamOnly t k []) ∧
    (s.tickNo < y.lastCap + s.staleLimit k → exec (.streamStale n) s = .next s) ∧
    (12 ≤ k → s.bit R.PRISM_MASKED k = true → s.f F.PRISM_MASKCFG_UNMASK ≤ y.clean → ∃ t, exec (.unmask n) s = .next t ∧
      (∀ j, t.bit R.PRISM_MASKED j = (!decide (j = k) && s.bit R.PRISM_MASKED j)) ∧
      t.stream k = { y with clean := 0, cleanUp := 0 } ∧ s.streamOnly t k [R.PRISM_MASKED]) ∧
    (k < 12 ∨ s.bit R.PRISM_MASKED k = false ∨ y.clean < s.f F.PRISM_MASKCFG_UNMASK → exec (.unmask n) s = .next s) ∧
    (12 ≤ k → s.bit R.PRISM_MASKED k = false → 100 ≤ y.cleanUp → ∃ t, exec (.maskMultiplierDouble n) s = .next t ∧
      t.stream k = { y with cleanUp := 0, mult := min 16 (2 * y.mult) } ∧ s.streamOnly t k []) ∧
    (let main := y.out = true ∧ s.f F.PRISM_VOTE_READMIT ≤ y.pass
     let fb := y.fbOut = true ∧ s.f F.PRISM_VOTE_READMIT ≤ y.fbPass
     (¬ main → ¬ fb → exec (.readmit n) s = .next s) ∧
     (main → y.fbOut = false → ∃ t, exec (.readmit n) s = .next t ∧ t.stream k = { y with out := false, pass := 0 } ∧
       (∀ j, t.bit R.PRISM_VOTED j = (!decide (j = k) && s.bit R.PRISM_VOTED j)) ∧ s.streamOnly t k [R.PRISM_VOTED]) ∧
     (fb → y.out = false → ∃ t, exec (.readmit n) s = .next t ∧ t.stream k = { y with fbOut := false, fbPass := 0 } ∧
       (∀ j, t.bit R.PRISM_VOTED j = (!decide (j = k ∧ s.f F.FILT_FB_STATUS_FB_ACTIVE = 1) && s.bit R.PRISM_VOTED j)) ∧
       s.streamOnly t k [R.PRISM_VOTED]) ∧
     (main ∨ fb → s.bit R.PRISM_VOTED k = true → ∃ t, exec (.readmit n) s = .next t ∧
       (t.stream k).out = (y.out && !decide main) ∧ (t.stream k).fbOut = (y.fbOut && !decide fb) ∧ s.streamOnly t k [R.PRISM_VOTED])) ∧
    (y.fbRej < 3 ∨ s.measured k = none → exec (.trackRestart n) s = .next s) ∧
    (∀ w a b sg, 3 ≤ y.fbRej → s.measured k = some (w, a, b, sg) → ∃ t, exec (.trackRestart n) s = .next t ∧
      t.stream k = { y with track := trackAt k a b (s.measVar k sg) w.m, fbRej := 0, fbOut := true, fbPass := 0 } ∧ s.streamOnly t k []) ∧
    (let u := s.cutOff
     exec .captureCutOff s = .next u ∧ u.prism.capturing = false ∧ (∀ j, (u.stream j).window = (s.stream j).window) ∧
     (s.f F.FILT_FB_CTRL_FB_EN = 0 → u.prism.fbTicks = s.prism.fbTicks + 1 ∧ u.prism.fbRuns = s.prism.fbRuns ∧ u.cml = s.cml) ∧
     (s.f F.FILT_FB_CTRL_FB_EN = 1 → u.prism.fbTicks = s.prism.fbTicks ∧ u.prism.fbRuns = true ∧
       u.cml.fbCore = some (4 + bitsOf (s.eff R.FILT_FB_CTRL) 1 1)))) ∧
  (∀ s : State,
    (∀ (n : Stream) (x : Sample), exec (.sampleArrival n x) s = .next (s.sampleArrival n.val x)) ∧
    (∀ (n : Stream), exec (.readmit n) s = .next (s.readmit n.val)) ∧
    (∀ (n : Stream), exec (.slipMask n) s = .next (s.slipMasked n.val)) ∧
    (∀ (n : Stream), exec (.slipMaskLift n) s = .next (s.slipLift n.val)) ∧
    (exec .captureCutOff s = .next s.cutOff) ∧
    (∀ (n : Stream), exec (.streamStale n) s = .next (s.goStale n.val)) ∧
    (∀ (n : Stream), exec (.unmask n) s = .next (s.unmask n.val)) ∧
    (∀ (n : Stream), exec (.maskMultiplierDouble n) s = .next (s.multDouble n.val)) ∧
    (∀ (n : Stream), exec (.trackRestart n) s = .next (s.trackRestart n.val)))

/-- RESULT_COMMIT, after the failure signs and the main path's stages, publishes the candidate that the table of R115 names: main where no
cause of the fall-back stands or it is not usable, else the fall-back, and with neither the last result marked invalid; the tick of the
return is left to MAIN_RETURN. A publication shows which path it came from, its validity, its sets and the tick. ESTABLISHMENT sets its
flag once the count is 20 and 200 ticks without a reference clear it; EST_CLR and a new cell size (in Stop, 1 to 50) clear what they say
and flatten priors; the patrol advances by 64 KiB and fails a table whose CRC is wrong, in the tick's record too; FB_LATE and
FALLBACK_COMMIT end the fall-back's run; MAIN_RETURN publishes the main candidate again. Last, each command named answers a next state for
every state and operands. Clauses that rest on the model's own readings: assumption log 7, 8, 51, 60, 61, 62, 63, 68. (R59, R62, R63, R74,
R84, R85, R88, R89, R109, R115, R116, R117.) -/
def Obligations.PrismResults : Prop :=
  (∀ s : State,
    (let m := s.maskAll
     let u := (if m.prism.ran then m.mainPath else m).noteMain
     let back := u.b F.FILT_FB_STATUS_FB_ACTIVE
     let v := if back then u.countReturn else u
     let cause := decide (bitsOf (v.eff R.PRISM_CTRL) 0 0 = 0 ∨ v.f F.PRISM_STATUS_TBL_FAIL = 1 ∨ v.f F.FILT_FB_CTRL_FORCE = 1) ||
       (match v.prism.main with | some c => c.fail | none => false)
     let usable := v.b F.FILT_FB_CTRL_FB_EN && (match v.prism.fb with | some d => d.valid | none => false)
     let due := decide (max 1 (v.f F.FILT_FB_CTRL_RETURN) ≤ v.f F.FILT_FB_STATUS_RET_CNT)
     (∀ c, usable = false ∨ (cause = false ∧ back = false) → v.prism.main = some c → exec .resultCommit s = .next (v.concludeMain c)) ∧
     (∀ d, usable = true → v.prism.main.isSome = true → cause = true ∨ (back = true ∧ due = false) → v.prism.fb = some d →
       exec .resultCommit s = .next (v.concludeFb d)) ∧
     (usable = true → v.prism.main.isSome = true → cause = false → back = true → due = true →
       exec .resultCommit s = .next { v with prism := { v.prism with returning := true } }) ∧
     (∀ d, usable = true → v.prism.main = none → v.prism.fb = some d → exec .resultCommit s = .next (v.concludeFb d)) ∧
     (usable = false → v.prism.main = none → exec .resultCommit s = .next v.concludeNone)) ∧
    (∀ (v : State) (c : Cand) (who : Option Bool), let t := v.publish c who
      t.f F.PRISM_STATUS_MAIN_ACTIVE = b2n (who = some true) ∧ t.f F.FILT_FB_STATUS_FB_ACTIVE = b2n (who = some false) ∧
      t.f F.PRISM_STATUS_RES_VALID = b2n c.valid ∧ t.reg R.PRISM_VALID = BitVec.ofNat 32 (bitSum c.validSet) ∧
      t.reg R.PRISM_VOTED = BitVec.ofNat 32 (bitSum (v.shownVotes c)) ∧
      t.prism = { v.prism with last := c, lastRec := t.prism.lastRec, pub := who.or v.prism.pub } ∧
      (v.tickNo < 2 ^ 64 → t.rdBytes (resultAt v.tickNo) t.prism.lastRec.length = t.prism.lastRec) ∧
      (v.tickNo < 2 ^ 64 → t.reg64 R.PRISM_RES_TICK_LO = v.tickNo ∧ t.rd (resultAt v.tickNo) 8 = v.tickNo) ∧
      (∀ b, b < mramBase → outside (resultAt v.tickNo) 1024 b → t.byte b = v.byte b)) ∧
    (∀ k, let cnt := match k with | RefClass.position => F.PRISM_STATUS_POS_CNT | .heading => F.PRISM_STATUS_HDG_CNT
      let est := match k with | RefClass.position => F.PRISM_STATUS_POS_EST | .heading => F.PRISM_STATUS_HDG_EST
      (20 ≤ s.f cnt → s.f est = 0 → ∃ t, exec (.establishment k) s = .next t ∧ t.f est = 1 ∧
        (∀ b, b < mramBase → outside (resultAt s.tickNo + 8) 4 b → t.byte b = s.byte b) ∧
        (∀ r, logReg r = false → r ≠ R.PRISM_STATUS → t.reg r = s.reg r)) ∧
      (s.f cnt < 20 ∨ s.f est = 1 → exec (.establishment k) s = .next s) ∧
      (200 ≤ (match k with | RefClass.position => s.prism.noPos | .heading => s.prism.noHdg) →
        ∃ t, exec (.establishmentTimeout k) s = .next t ∧ t.f est = 0 ∧ t.f cnt = 0 ∧ s.regsOnly t [R.PRISM_STATUS]) ∧
      ((match k with | RefClass.position => s.prism.noPos | .heading => s.prism.noHdg) < 200 →
        exec (.establishmentTimeout k) s = .next s)) ∧
    ((∀ n a, n < 24 → s.tableAt n = some a → s.tblFailed n = true ∨ s.weightsOk a = true) → ∃ t, exec .tablePatrol s = .next t ∧
      t = { s with prism := { s.prism with patrol := (s.prism.patrol + 1) % 128 } }) ∧
    (exec .tablePatrol s = .next s.tablePatrol) ∧
    (∀ n a, ((List.range 24).filter fun n => (s.tableAt n).isSome) = [n] → s.tableAt n = some a → s.tblFailed n = false → s.weightsOk a = false →
      0x20000000 + 65536 * s.prism.patrol < a + 64 + s.rd (a + 8) 4 → a + 64 < 0x20000000 + 65536 * (s.prism.patrol + 1) → n < 24 →
      ∃ t, exec .tablePatrol s = .next t ∧ t.bit R.PRISM_TBL_FAIL n = true ∧ t.f F.PRISM_STATUS_TBL_FAIL = 1 ∧
        t.prism = { s.prism with patrol := (s.prism.patrol + 1) % 128 } ∧
        (s.rd (resultAt s.tickNo) 8 = s.tickNo → t.rd (resultAt s.tickNo + 8) 4 = (t.reg R.PRISM_STATUS).toNat ∧
          (t.byte (resultAt s.tickNo + 0x285 + 0x10 * n)).getLsbD 6 = true) ∧
        ({ s with mem := t.mem, prism := t.prism } : State).logAnd t [R.PRISM_TBL_FAIL, R.PRISM_STATUS] ∧
        ∀ b, b < mramBase → outside (resultAt s.tickNo + 8) 4 b → b ≠ resultAt s.tickNo + 0x285 + 0x10 * n → t.byte b = s.byte b) ∧
    (∀ m v, ∃ t, exec (.predArm m v) s = .next t ∧ t.reg R.PRISM_PRED_HDG = v &&& 0xFFFF ∧ t.prism = { s.prism with armed := true } ∧
      ({ s with prism := t.prism } : State).regsOnly t [R.PRISM_PRED_HDG]) ∧
    (∀ m v, s.mode = .stop → 1 ≤ bitsOf v 5 0 → bitsOf v 5 0 ≤ 50 → bitsOf v 5 0 ≠ s.f F.PRISM_GRID_CELL →
      ∃ t, exec (.prismGridWrite m v) s = .next t ∧ t.f F.PRISM_GRID_CELL = bitsOf v 5 0 ∧ t.f F.PRISM_STATUS_POS_EST = 0 ∧
        t.f F.PRISM_STATUS_POS_CNT = 0 ∧ t.f F.PRISM_STATUS_HDG_EST = 0 ∧ t.f F.PRISM_STATUS_HDG_CNT = 0 ∧
        t.prism = { s.prism with posPrior := .flat } ∧
        ({ s with prism := t.prism } : State).regsOnly t [R.PRISM_GRID, R.PRISM_STATUS]) ∧
    (∀ m v, s.mode = .stop → 1 ≤ bitsOf v 5 0 → bitsOf v 5 0 ≤ 50 → bitsOf v 5 0 = s.f F.PRISM_GRID_CELL → exec (.prismGridWrite m v) s = .next s) ∧
    (∀ m v, s.mode ≠ .stop ∨ bitsOf v 5 0 = 0 ∨ 50 < bitsOf v 5 0 → ∃ t, exec (.prismGridWrite m v) s = .next t ∧ s.logFrame t) ∧
    (∀ m v, ∃ t, exec (.estClr m v) s = .next t ∧ t.f F.PRISM_STATUS_POS_EST = 0 ∧ t.f F.PRISM_STATUS_HDG_EST = 0 ∧
      t.f F.PRISM_STATUS_POS_CNT = 0 ∧ t.f F.PRISM_STATUS_HDG_CNT = 0 ∧
      t.prism = { s.prism with posPrior := .flat, hdgPrior := .flat } ∧ (∀ r, r ≠ R.PRISM_CTRL → r ≠ R.PRISM_STATUS → t.reg r = s.reg r)) ∧
    (s.prism.fbRuns = false ∨ s.cml.fbCore = none → exec .fallbackCommit s = .next s) ∧
    (s.prism.fbRuns = true → s.cml.fbCore.isSome = true → ∃ u : State, exec .fallbackCommit s = .next u.sched ∧ u.prism.fbRuns = false ∧
      u.cml = { s.cml with fbCore := none } ∧ u.prism.fb.isSome = true ∧ u.prism.fbTicks = 1 ∧ u.f (F.CML_TSTAT_DONE 255) = 1 ∧ u.mem = s.mem ∧
      (∀ c, u.prism.fb = some c → c.valid = ((List.range 8).any s.fbValid) ∧ u.f F.FILT_FB_STATUS_FB_NOREF = b2n (!c.valid)) ∧
      (∀ r, r ≠ R.FILT_FB_STATUS → r ≠ R.FILT_FB_HWM → r ≠ R.CML_TSTAT 255 → u.reg r = s.reg r)) ∧
    (s.prism.fbRuns = false → exec .fbLate s = .next s) ∧
    (s.prism.fbRuns = true → ∃ u : State, exec .fbLate s = .next u.sched ∧ u.prism = { s.prism with fb := none, fbTicks := s.prism.fbTicks + 1, fbRuns := false } ∧
      u.cml = { s.cml with fbCore := none } ∧ u.f F.FILT_FB_STATUS_FB_LATE = 1 ∧ (s.cml.fbCore.isSome = true → u.f (F.CML_TSTAT_STOPPED 255) = 1) ∧
      ({ s with prism := u.prism, cml := u.cml } : State).logAnd u [R.FILT_FB_STATUS, R.CML_TSTAT 255]) ∧
    (s.prism.main = none ∨ s.prism.returning = false → exec .mainReturn s = .next s) ∧
    (∀ c, s.prism.main = some c → s.prism.returning = true →
      ∃ t, exec .mainReturn s = .next t ∧ t.f F.PRISM_STATUS_MAIN_ACTIVE = 1 ∧ t.f F.FILT_FB_STATUS_FB_ACTIVE = 0 ∧
        t.f F.FILT_FB_STATUS_RET_CNT = 0 ∧ t.prism.fbCons = false ∧ t.prism.returning = false ∧ t.prism.last = c ∧ t.prism.pub = some true ∧
        t.f F.PRISM_STATUS_RES_VALID = b2n c.valid ∧ (s.tickNo < 2 ^ 64 → t.rd (resultAt s.tickNo) 8 = s.tickNo))) ∧
  (∀ s : State,
    (exec .fallbackCommit s = .next s.fallbackCommit) ∧
    (exec .fbLate s = .next s.fbLate) ∧
    (exec .resultCommit s = .next s.resultCommit) ∧
    (∀ (k : RefClass), exec (.establishment k) s = .next (s.establish k)) ∧
    (∀ (k : RefClass), ∃ t, exec (.establishmentTimeout k) s = .next t) ∧
    (exec .tablePatrol s = .next s.tablePatrol) ∧
    (∀ (m : Master) (v : Word), exec (.predArm m v) s = .next (s.predArm v)) ∧
    (∀ (m : Master) (v : Word), exec (.prismGridWrite m v) s = .next (s.gridWrite m v)) ∧
    (∀ (m : Master) (v : Word), exec (.estClr m v) s = .next (s.prismCtrlWrite (v ||| 8))) ∧
    (exec .mainReturn s = .next s.mainReturn))

/-- A chain that is off or still filling gives no output. Else an output without overload between Strobes, with no Glint filter, stands in
FILT_OUT as its signed code, and the input has delivered something; FILLING_END and WARMING_END clear their bit. No other register but the
chain's status and FILT_WARM changes, and no memory. Last, each command named answers a next state for every state and operands. Clauses
that rest on the model's own readings: assumption log 8, 59. (R95, R96, R100, R103.) -/
def Obligations.AnalogueFilterChains : Prop :=
  (∀ (s : State) (i : Stream) (code : Code24) (clip strobe : Bool),
    (s.chainOn i.val = false ∨ s.f (F.FILT_STAT_FILLING i.val) = 1 → exec (.filterOutput i code clip strobe) s = .next s) ∧
    (s.chainOn i.val = true → s.f (F.FILT_STAT_FILLING i.val) = 0 → bitsOf (s.eff (R.FILT_GL i.val)) 31 31 = 0 →
      ∃ t, exec (.filterOutput i code false false) s = .next t ∧ t.fi (F.FILT_OUT_OUT i.val) = code.toInt ∧ i.val ∉ t.prism.silent ∧
        (∀ r, r ≠ R.FILT_OUT i.val → r ≠ R.FILT_STAT i.val → r ≠ R.FILT_WARM → t.reg r = s.reg r) ∧ t.mem = s.mem) ∧
    (∃ t, exec (.fillingEnd i) s = .next t ∧ t.f (F.FILT_STAT_FILLING i.val) = 0 ∧ t.mem = s.mem ∧
      (∀ r, r ≠ R.FILT_STAT i.val → r ≠ R.FILT_WARM → t.reg r = s.reg r)) ∧
    (∃ t, exec (.warmingEnd i) s = .next t ∧ t.f (F.FILT_STAT_WARMING i.val) = 0 ∧ t.mem = s.mem ∧
      (∀ r, r ≠ R.FILT_STAT i.val → r ≠ R.FILT_WARM → t.reg r = s.reg r))) ∧
  (∀ s : State,
    (∀ (i : Stream) (code : Code24) (overload : Bool) (strobe : Bool), exec (.filterOutput i code overload strobe) s = .next (s.filterOutput i.val code.toInt overload strobe)) ∧
    (∀ (i : Stream), exec (.fillingEnd i) s = .next ((s.put (F.FILT_STAT_FILLING i.val) 0).showWarm i.val)) ∧
    (∀ (i : Stream), exec (.warmingEnd i) s = .next ((s.put (F.FILT_STAT_WARMING i.val) 0).showWarm i.val)))

/-- A sample of an engine that is off, or whose next sample instant lies beyond the tick, does nothing. Else, at that instant, in FP32 and in
the order of the rule, it computes the set-point, feedback, error, proportional, derivative and feed-forward terms; while it drives its
output the clamped and rounded code stands in STAT.CODE and is due for the output, and the integral takes the error and the back-
calculation; while it tracks, the integral is rewritten so that the sum gives the tracked code and nothing is due; a sum or integral that
is not finite leaves code and integral and sets NONFIN. ENGINE_LOAD, 400 ns after the sample, puts the code that is due on the output the
engine drives, and drives a command output. STAT.TRACK reads whether the engine tracks. Other engines, other registers and memory stay.
Last, each command named answers a next state for every state and operands. Clauses that rest on the model's own readings: assumption log
8, 29. (R282, R284, R285, R286, R287, R288.) -/
def Obligations.LoopEngines : Prop :=
  ((∀ (s : State) (e : Engine), s.f (F.LOOP_CFG_EN e.val) = 0 ∨ s.comesAt (s.cyclesToSample e.val) = none → exec (.engineSample e) s = .next s) ∧
  (∀ (s₀ : State) (e : Engine) (s : State), s₀.f (F.LOOP_CFG_EN e.val) = 1 → s₀.comesAt (s₀.cyclesToSample e.val) = some s →
    let k := e.val
    let g := fun r => (s.reg r).toNat
    let sp := sMul (g (R.LOOP_SPSC k)) (if s.f (F.LOOP_CFG_SPSRC k) = 0 then s.engineSetpoint k
      else s.engineSource (s.f (F.LOOP_CFG_SPSRC k)) (s.f (F.LOOP_CFG_SPUNIT k)))
    let fb := if s.f (F.LOOP_CFG_FBSRC k) = 0 then 0
      else sMul (g (R.LOOP_FBSC k)) (s.engineSource (s.f (F.LOOP_CFG_FBSRC k)) (s.f (F.LOOP_CFG_FBUNIT k)))
    let prev := if k ∈ s.loop.fresh then fb else tget 0 s.loop.fbPrev k
    let dt := sRatio (max 1 (s.f (F.LOOP_PER_PERIOD k)) : Nat) 10000
    let err := sSub sp fb
    let p := sMul (g (R.LOOP_KP k)) err
    let d := sDiv (sMul (g (R.LOOP_KD k) ^^^ 0x80000000) (sSub fb prev)) dt
    let ff := sMul (g (R.LOOP_KF k)) sp
    let v := fun i => sAdd (sAdd (sAdd ff p) i) d
    let x := fun i => sMul (v i) (sOfInt 65535)
    let up := fun i => if sLt (sOfInt (s.f (F.LOOP_LIM_OMAX k))) (x i) then sOfInt (s.f (F.LOOP_LIM_OMAX k)) else x i
    let y := fun i => if sLt (up i) (sOfInt (s.f (F.LOOP_LIM_OMIN k))) then sOfInt (s.f (F.LOOP_LIM_OMIN k)) else up i
    let c := fun i => sRound (y i)
    let i0 := g (R.LOOP_INT k)
    let i2 := sAdd (sAdd i0 (sMul (sMul (g (R.LOOP_KI k)) err) dt))
      (sMul (sMul (g (R.LOOP_KB k)) (sSub (sDiv (sOfInt (c i0)) (sOfInt 65535)) (v i0))) dt)
    ∃ t, exec (.engineSample e) s₀ = .next t ∧ k ∉ t.loop.fresh ∧ tget 0 t.loop.fbPrev k = fb ∧
      tget 0 t.loop.sampledAt k = (s.launchTimer 0).total ∧ t.mem = s.mem ∧
      (∀ r, r ≠ R.LOOP_STAT k → r ≠ R.LOOP_INT k → t.reg r = s.reg r) ∧
      (∀ j, j ≠ k → tget? t.loop.load j = tget? s.loop.load j ∧ tget 0 t.loop.fbPrev j = tget 0 s.loop.fbPrev j) ∧
      ({ t with regs := s.regs, loop := s.loop, freeCtr := s.freeCtr } : State) = s ∧
      (s.tracking k = false → sFinite (v i0) = true → sFinite i2 = true →
        t.reg (R.LOOP_INT k) = BitVec.ofNat 32 i2 ∧ t.f (F.LOOP_STAT_CODE k) = c i0 % 65536 ∧
        t.f (F.LOOP_STAT_SAT k) = b2n (sLt (x i0) (y i0) || sLt (y i0) (x i0)) ∧
        (s.f (F.LOOP_CFG_OUT_EN k) = 1 → s.conflict k = false → tget? t.loop.load k = some (some (c i0 % 65536)))) ∧
      (s.tracking k = false → sFinite (v i0) = false ∨ sFinite i2 = false →
        t.reg (R.LOOP_INT k) = s.reg (R.LOOP_INT k) ∧ t.f (F.LOOP_STAT_CODE k) = s.f (F.LOOP_STAT_CODE k) ∧ t.f (F.LOOP_STAT_NONFIN k) = 1) ∧
      (s.tracking k = true → tget? t.loop.load k = if s.f (F.LOOP_CFG_OUT_EN k) = 1 ∧ s.conflict k = false then some none else none) ∧
      (s.tracking k = true → s.engineSubbed k = true ∨ s.mode = .stop ∨ s.f F.LOOP_STATUS_OWNED = 0 →
        let trk := if s.engineSubbed k = true ∨ s.mode = .stop then s.engineSub k else s.f (F.LOOP_TRK_TRK k)
        let i1 := sSub (sSub (sSub (sDiv (sOfInt trk) (sOfInt 65535)) ff) p) d
        sFinite (v i1) = true → sFinite i1 = true →
          t.reg (R.LOOP_INT k) = BitVec.ofNat 32 i1 ∧ t.f (F.LOOP_STAT_CODE k) = c i1 % 65536)) ∧
  (∀ (s : State) (e : Engine), tget? s.loop.load e.val = none ∨ s.comesAt (s.cyclesToLaunch 0 (tget 0 s.loop.sampledAt e.val + 400 * 2 ^ 32)) = none →
    exec (.engineLoad e) s = .next s) ∧
  (∀ (s₀ : State) (e : Engine) (s : State) (code : Option Nat), tget? s₀.loop.load e.val = some code →
    s₀.comesAt (s₀.cyclesToLaunch 0 (tget 0 s₀.loop.sampledAt e.val + 400 * 2 ^ 32)) = some s →
    let k := e.val
    let a := s.f (F.LOOP_CFG_OUT k)
    ∃ t, exec (.engineLoad e) s₀ = .next t ∧ tget? t.loop.load k = none ∧
      ({ t with regs := s.regs, out := s.out, loop := { t.loop with load := s.loop.load } } : State) = s ∧
      (∀ v, code = some v → s.driverOf a = some k → s.f (F.LOOP_AOCFG_EN a) = 1 → s.engineSubbed k = false → t.f (F.LOOP_AO_REL a) = v % 65536) ∧
      (t.out = if s.driverOf a = some k ∧ s.f (F.LOOP_AOCFG_EN a) = 1 ∧ s.aoCommand a = true then (s.driveAo a).out else s.out) ∧
      (∀ r, r ≠ R.LOOP_AO a → t.reg r = s.reg r)) ∧
  (∀ (s : State) (m : Master) (e : Engine), bitsOf (s.readReg m (R.LOOP_STAT e.val)).1 (F.LOOP_STAT_TRACK e.val).hi (F.LOOP_STAT_TRACK e.val).lo =
    b2n (s.b (F.LOOP_CFG_EN e.val) && s.tracking e.val))) ∧
  (∀ s : State,
    (∀ (e : Engine), ∃ t, exec (.engineSample e) s = .next t) ∧
    (∀ (e : Engine), ∃ t, exec (.engineLoad e) s = .next t))

/-- A synchronised level that changes stands in GPIO_IN, refreshes its remote point and, where the source takes this edge and is enabled,
raises its pending count by one; a level that does not change does nothing. A pulse edge moves the count by the table of R280 (A leading
counts up: the model's reading), Z copies it under ZLATCH and asserts its source, a write presets it, and the rate update divides the
change over the last WIN updates by WIN x 100 us. Nothing else changes but what the assertion of a source changes. Last, each command
named answers a next state for every state and operands. Clauses that rest on the model's own readings: assumption log 8, 29. (R279, R280,
R281, R342.) -/
def Obligations.PinsAndPulseInputs : Prop :=
  (∀ s : State,
    (∀ (k : Pin) (v : Bool), s.bit R.LOOP_GPIO_IN_LO k.val = v → exec (.gpioEdge k v) s = .next s) ∧
    (∀ (k : Pin) (v : Bool), s.bit R.LOOP_GPIO_IN_LO k.val ≠ v → ∃ t, exec (.gpioEdge k v) s = .next t ∧
      t.bit R.LOOP_GPIO_IN_LO k.val = v ∧ (∀ j, j < 48 → j ≠ k.val → t.bit R.LOOP_GPIO_IN_LO j = s.bit R.LOOP_GPIO_IN_LO j) ∧
      tget? t.points.live (pointKey 4 k.val) = some s.tickNo ∧
      ({ s with points := t.points } : State).logAnd t [R.LOOP_GPIO_IN_LO, R.LOOP_GPIO_IN_HI] ∧
      t.f (F.IRQ_COAL_PCNT (48 + k.val)) =
        if s.f (F.IRQ_CFG_EN (48 + k.val)) = 1 ∧ (s.f (F.IRQ_CFG_EDGE (48 + k.val)) = 2 ∨ (s.f (F.IRQ_CFG_EDGE (48 + k.val)) = 1 ↔ v = false))
        then min 255 (s.f (F.IRQ_COAL_PCNT (48 + k.val)) + 1) else s.f (F.IRQ_COAL_PCNT (48 + k.val))) ∧
    (∀ (p : Pulse) (l : PulseLine) (v : Bool),
      let x := s.pulse p.val
      let on := s.f (F.LOOP_PCFG_EN p.val) = 1
      let d : Int := match s.f (F.LOOP_PCFG_MODE p.val), l with
        | 1, .a => if on ∧ v = true then 1 else 0
        | 2, .a => if on then (if v = x.b then -1 else 1) else 0
        | 2, .b => if on then (if v = x.a then 1 else -1) else 0
        | 3, .a => if on ∧ v = true then 1 else 0
        | 3, .b => if on ∧ v = true then -1 else 0
        | _, _ => 0
      let old := match l with | .a => x.a | .b => x.b
      (old = v → exec (.pulseEdge p l v) s = .next s) ∧
      (old ≠ v → ∃ t, exec (.pulseEdge p l v) s = .next t ∧ t.reg (R.LOOP_PCNT p.val) = s.reg (R.LOOP_PCNT p.val) + BitVec.ofInt 32 d ∧
        t.pulse p.val = (match l with | .a => { x with a := v } | .b => { x with b := v }) ∧
        (∀ j, j ≠ p.val → t.pulse j = s.pulse j) ∧ ({ s with loop := t.loop } : State).regsOnly t [R.LOOP_PCNT p.val])) ∧
    (∀ p : Pulse, ∃ t, exec (.indexEdge p) s = .next t ∧ s.logAnd t [R.LOOP_PIDX p.val] ∧
      t.reg (R.LOOP_PIDX p.val) = (if s.f (F.LOOP_PCFG_ZLATCH p.val) = 1 then s.reg (R.LOOP_PCNT p.val) else s.reg (R.LOOP_PIDX p.val)) ∧
      t.f (F.IRQ_COAL_PCNT (96 + p.val)) = if s.f (F.IRQ_CFG_EN (96 + p.val)) = 1 then min 255 (s.f (F.IRQ_COAL_PCNT (96 + p.val)) + 1)
        else s.f (F.IRQ_COAL_PCNT (96 + p.val))) ∧
    (∀ (p : Pulse) m v, ∃ t, exec (.pcntPreset p m v) s = .next t ∧ t.reg (R.LOOP_PCNT p.val) = v ∧ s.regsOnly t [R.LOOP_PCNT p.val]) ∧
    (∃ t, exec .pulseRateUpdate s = .next t ∧
      ({ s with loop := t.loop } : State).regsOnly t ((List.range 8).map R.LOOP_PRATE) ∧
      ∀ p, p < 8 →
        let w := max 1 (s.f (F.LOOP_PCFG_WIN p))
        let now := s.f (F.LOOP_PCNT_COUNT p)
        let d := signedOf 32 (unsignedOf 32 ((now : Int) - ((s.pulse p).counts.getD (w - 1) 0 : Nat)))
        (t.pulse p).counts = (now :: (s.pulse p).counts).take 256 ∧
        t.reg (R.LOOP_PRATE p) = if s.pulseOn p then BitVec.ofNat 32 (sRatio (d * 10000) w) else 0)) ∧
  (∀ s : State,
    (∀ (pin : Pin) (level : Bool), exec (.gpioEdge pin level) s = .next (s.gpioLevel pin.val level)) ∧
    (∀ (p : Pulse) (line : PulseLine) (level : Bool), exec (.pulseEdge p line level) s = .next (s.pulseEdge p.val line level)) ∧
    (∀ (p : Pulse), exec (.indexEdge p) s = .next (s.indexEdge p.val)) ∧
    (exec .pulseRateUpdate s = .next ((List.range 8).foldl (·.pulseRate ·) s)) ∧
    (∀ (p : Pulse) (m : Master) (v : Word), exec (.pcntPreset p m v) s = .next (s.pcntPreset p.val v)))

/-- A problem that is not in the batch, or that an earlier one of its lanes blocks, does not end. Ending it takes it out of the batch;
discarded it writes nothing. Rejected data give the carried record with NUMF and its count; else a solution that is finite writes the
older record: this tick, the problem's number, x, AGE 0, not NEVER, COLD and REG as they were found, and outside that record, the warm-
start area and the work area no byte changes. A result final after the edge at 0.70 T has reached the array changes nothing.
BATCH_COMPLETE whose crossing ends at or after 0.70 T of a batch that is not discarded is a deadline miss of the tick with no problem
counted. The solution itself is a function of the problem's data that the spec does not give (a free value). Last, each command named
answers a next state for every state and operands. Clauses that rest on the model's own readings: assumption log 7, 8, 17, 30, 69. (R227,
R228, R229, R230, R233, R235, R237, R40.) -/
def Obligations.SolverProblemsEnd : Prop :=
  (∀ (s : State) (q : Prob),
    let k := q.toNat
    (k ∉ s.azs.batch ∨ s.azsBlocked k = true → exec (.problemEnd q) s = .next s) ∧
    (∀ d, k ∈ s.azs.batch → s.azsBlocked k = false → tget? s.azs.running k = some d → s.azs.discard = true →
      ∃ t, exec (.problemEnd q) s = .next t ∧ t.azs.batch = s.azs.batch.filter (· ≠ k) ∧
        (t.azs.batch = [] → t.azs.crossing = some s.tick.cycles ∧ t.f F.AZS_STATUS_ACTIVE = 0) ∧
        (d.work + d.workSize ≤ 0x400000 → ∀ b, outside (probBase + d.work) d.workSize b → t.byte b = s.byte b) ∧
        ({ s with azs := t.azs, mem := t.mem, freeCtr := t.freeCtr } : State).regsOnly t [R.AZS_STATUS]) ∧
    (s.azs.discard = false → 500 * (7 * s.periodUs / 10) + 3 < s.tick.cycles →
      ∃ n, exec (.problemEnd q) s = .next { s with freeCtr := n }) ∧
    (∀ d, k ∈ s.azs.batch → s.azsBlocked k = false → tget? s.azs.running k = some d → s.azs.discard = false → d.res + 2 * d.recSize ≤ 0x400000 →
      s.tick.cycles ≤ 500 * (7 * s.periodUs / 10) → s.azsRejects d = true →
      let a := d.recAt (1 - s.curRec d)
      let r := { s.carryRec d with numf := true }
      ∃ t, exec (.problemEnd q) s = .next t ∧ t.azs.batch = s.azs.batch.filter (· ≠ k) ∧
        (∀ i, i < d.recSize → t.byte (a + i) = (r.bytes k (s.usable d.pol r) s.tickNo).getD i 0) ∧
        (∀ b, b < mramBase → outside a d.recSize b → t.byte b = s.byte b) ∧
        t.f F.AZS_STATUS_NUMF = 1 ∧ (∀ x, logReg x = false → x ∉ [R.AZS_STATUS, R.AZS_FAIL_CNT] → t.reg x = s.reg x)) ∧
    (∀ d, k ∈ s.azs.batch → s.azsBlocked k = false → tget? s.azs.running k = some d → s.azs.discard = false → d.areasOk = true →
      s.tick.cycles ≤ 500 * (7 * s.periodUs / 10) → apart [] d.written = true → s.azsRejects d = false →
      let start := s.warmStart d
      let out := { s with freeCtr := s.freeCtr + 1 }.solve d start
      let a := d.recAt (1 - s.curRec d)
      ∃ t, exec (.problemEnd q) s = .next t ∧ t.azs.batch = s.azs.batch.filter (· ≠ k) ∧
        (out.failed = false →
        t.rd (a + 8) 8 = s.tickNo ∧ t.rd (a + 4) 2 = k ∧ (∀ i, i < d.n → t.rd (a + 32 + 8 * i) 8 = out.it.x.getD i 0 % 2 ^ 64) ∧
        t.rd a 4 / 2 ^ 29 % 2 = 0 ∧ t.rd a 4 / 2 ^ 16 % 256 = 0 ∧ t.rd a 4 / 2 % 2 = b2n start.isNone ∧ t.rd a 4 / 8 % 2 = 0 ∧
        t.rd a 4 / 4 % 2 = (if out.replaced = 0 then 0 else 1) ∧
        (∀ b, outside a d.recSize b → outside (probBase + d.ws) (2 * d.blkSize) b → outside (probBase + d.work) d.workSize b → t.byte b = s.byte b) ∧
        (∀ x, x ∉ [R.AZS_STATUS, R.AZS_FAIL_CNT] → t.reg x = s.reg x))) ∧
    (s.azs.crossing = none → exec .batchComplete s = .next s) ∧
    (∀ c, s.azs.crossing = some c → (s.f F.TICK_PHASE_PHASE < 3 ∧ s.tick.cycles < 500 * (7 * s.periodUs / 10) ∧
        c + 5 < 500 * (7 * s.periodUs / 10)) ∨ s.azs.discard = true → ∃ t, exec .batchComplete s = .next t ∧
      t.azs = { s.azs with crossing := none } ∧
      ({ s with azs := t.azs, freeCtr := t.freeCtr } : State).regsOnly t [R.AZS_LAST, R.AZS_CONT]) ∧
    (∀ c, s.azs.crossing = some c → 3 ≤ s.f F.TICK_PHASE_PHASE ∨ 500 * (7 * s.periodUs / 10) ≤ c + 3 → s.azs.discard = false →
      ∃ t, exec .batchComplete s = .next t ∧ t.azs = { s.azs with crossing := none } ∧ t.f F.AZS_STATUS_LATE_ONLY = 1 ∧ t.f F.AZS_DLM_PROB_COUNT = 0 ∧
      t.f F.TICK_STATUS_DL_MISS = 1 ∧ (s.tickNo < 2 ^ 64 → t.reg64 R.TICK_FAULT_TICK_LO = s.tickNo) ∧ t.tick.faulted = true ∧
      ({ s with azs := t.azs, tick := t.tick, freeCtr := t.freeCtr } : State).logAnd t [R.AZS_LAST, R.AZS_CONT, R.AZS_STATUS, R.AZS_DLM_PROB,
        R.TICK_STATUS, R.TICK_FCNT0, R.TICK_FAULT_TICK_LO, R.TICK_FAULT_TICK_HI])) ∧
  (∀ s : State,
    (∀ (q : Prob), exec (.problemEnd q) s = .next (s.problemEnd q.toNat)) ∧
    (exec .batchComplete s = .next s.batchComplete))

/-- AZS_ADMIT starts an admission unless one runs. Its end clears BUSY; a refusal shows code and problem, is recorded and asserts source 34,
and for a load or a period change empties the table (a load's clears its problems' records and warm starts all the same); an accepted
table waits for the boundary, its worst-case cycles are stored in its descriptors, and no other byte changes. SHD_DETECT latches an
enabled detector once, with the tick of its first detection; a rebase arms its entry; the counter clears clear their counters. Last, each
command named answers a next state for every state and operands. Clauses that rest on the model's own readings: assumption log 8, 30, 52.
(R240, R242, R243, R246, R257, R258, R262, R271.) -/
def Obligations.AdmissionAndDetections : Prop :=
  (∀ s : State,
    (∀ m v, ∃ t, exec (.azsAdmit m v) s = .next t ∧ t.reg R.AZS_CTRL = v &&& 0xFF04 ∧ t.eff R.AZS_CTRL = s.eff R.AZS_CTRL ∧ t.f F.AZS_STATUS_ADM_BUSY =
        (if s.azs.admitting.isNone then 1 else s.f F.AZS_STATUS_ADM_BUSY) ∧
      t.azs = { s.azs with admitting := if s.azs.admitting.isNone then some .command else s.azs.admitting,
                            reserve := if s.azs.admitting.isNone then bitsOf v 15 8 else s.azs.reserve } ∧
      ({ s with azs := t.azs, inForce := t.inForce } : State).regsOnly t (if v.getLsbD 1 then [R.AZS_CTRL, R.AZS_STATUS, R.AZS_DLM_CNT, R.AZS_FAIL_CNT]
        else [R.AZS_CTRL, R.AZS_STATUS])) ∧
    (∀ m v, ∃ t, exec (.azsCounterClear m v) s = .next t ∧ t.reg R.AZS_DLM_CNT = 0 ∧ t.reg R.AZS_FAIL_CNT = 0 ∧
      t.reg R.AZS_CTRL = v &&& 0xFF04 ∧ t.eff R.AZS_CTRL = s.eff R.AZS_CTRL ∧ (∀ r, r ∉ [R.AZS_CTRL, R.AZS_STATUS, R.AZS_DLM_CNT, R.AZS_FAIL_CNT] → t.reg r = s.reg r) ∧ t.mem = s.mem) ∧
    (s.azs.admitting = none → exec .admissionComplete s = .next s) ∧
    (∀ k code q, s.azs.admitting = some k → s.azsJudge = .inl (code, q) → ∃ t, exec .admissionComplete s = .next t ∧
      t.f F.AZS_STATUS_ADM_BUSY = 0 ∧ t.f F.AZS_STATUS_ADM_FAIL = 1 ∧ t.f F.AZS_STATUS_REFUSE = code ∧ t.f F.AZS_ADM_INFO_REF_PROB = q ∧
      (k = .load ∨ k = .period → t.azs.table = [] ∧ t.f F.AZS_STATUS_ADMITTED = 0) ∧
      (k = .command ∨ k = .swap → t.azs = { s.azs with admitting := none } ∧ t.f F.AZS_STATUS_ADMITTED = s.f F.AZS_STATUS_ADMITTED) ∧
      ({ s with azs := t.azs, mem := t.mem } : State).logAnd t [R.AZS_STATUS, R.AZS_ADM_INFO] ∧
      (∀ b, b < mramBase → k ≠ .load ∨ outside probBase 0x400000 b → t.byte b = s.byte b)) ∧
    (∀ tbl, s.azs.admitting = some .command → s.azsJudge = .inr tbl → ∃ t, exec .admissionComplete s = .next t ∧
      t.azs = { s.azs with admitting := none, next := some tbl } ∧ t.f F.AZS_STATUS_ADM_BUSY = 0 ∧
      (∀ e ∈ tbl, t.rd (probBase + 64 * e.1 + 0x24) 4 = e.2.worst % 2 ^ 32) ∧
      (∀ b, (∀ e ∈ tbl, outside (probBase + 64 * e.1 + 0x24) 4 b) → t.byte b = s.byte b) ∧
      (∀ r, r ∉ [R.AZS_STATUS, R.AZS_ADM_WCC, R.AZS_ADM_LIM, R.AZS_ADM_INFO] → t.reg r = s.reg r)) ∧
    (∀ m v, let d := bitsOf v 7 0
      (bitsOf (s.eff (R.SHD_MAP d)) 31 31 = 0 → exec (.shdDetectWrite m v) s = .next s) ∧
      (bitsOf (s.eff (R.SHD_MAP d)) 31 31 = 1 → ∃ t, exec (.shdDetectWrite m v) s = .next t ∧ t.bit (R.SHD_PEND 0) d = true ∧
        (∀ j, j < 256 → j ≠ d → t.bit (R.SHD_PEND 0) j = s.bit (R.SHD_PEND 0) j) ∧ t.f F.SHD_LASTDET_DET = d ∧
        t.shd = (if s.bit (R.SHD_PEND 0) d then s.shd else { s.shd with stamp := tput s.shd.stamp d s.tickNo }) ∧
        ({ s with shd := t.shd } : State).regsOnly t [R.SHD_PEND (d / 32), R.SHD_LASTDET, R.SHD_STATUS])) ∧
    (∀ m v, ∃ t, exec (.rebaseArm m v) s = .next t ∧ t.shd = { s.shd with rebase := some (bitsOf v 5 0) } ∧ t.f F.SHD_STATUS_REB_ARMED = 1 ∧
      ({ s with shd := t.shd } : State).regsOnly t [R.SHD_STATUS]) ∧
    (∀ m v, ∃ t, exec (.shdCounterClear m v) s = .next t ∧ t.reg R.SHD_CNT = 0 ∧ t.reg R.SHD_CTRL = v &&& 3 ∧ s.regsOnly t [R.SHD_CNT, R.SHD_CTRL])) ∧
  (∀ s : State,
    (exec .admissionComplete s = .next s.admissionEnd) ∧
    (∀ (m : Master) (v : Word), exec (.azsAdmit m v) s = .next (s.azsCtrlWrite (v ||| 1))) ∧
    (∀ (m : Master) (v : Word), exec (.azsCounterClear m v) s = .next (s.azsCtrlWrite (v ||| 2))) ∧
    (∀ (m : Master) (v : Word), exec (.shdDetectWrite m v) s = .next (s.detect (bitsOf v 7 0))) ∧
    (∀ (m : Master) (v : Word), exec (.rebaseArm m v) s = .next (s.armRebase v)) ∧
    (∀ (m : Master) (v : Word), exec (.shdCounterClear m v) s = .next (s.shdCtrlWrite (v ||| 4))))

/-- A fall of ECL_IN stamps the loss and gives ownership to a module that claims; a rise takes ownership and releases every command pin at
once, and judges a test pulse by its width: the second wrong one in a row clears ECL_OK. The filtered level follows CLAIM_FILT after an
edge that stands. High while claiming is a dual claim, where unit B withdraws; low in Run lets a paired module claim (a Mirror claim
between the arm point and the Release drives from the next Release); a Penumbra standby whose committed checkpoint is at most 3 ticks old
at its first Run tick (n + 1 before the Release of the loss, else n + 2) decides a warm takeover, and without a usable one it shows a
stale take, and starts cold only under COLD_TAKE. A test pulse at 0.90 T of a tick of the test lowers ECL_OUT of an owner without dropping
the claim, for TEST_W; its end restores it. Last, each command named answers a next state for every state and operands. Clauses that rest
on the model's own readings: assumption log 8, 40, 65. (R291, R292, R293, R294, R295, R297, R307, R308.) -/
def Obligations.TheEclipseLines : Prop :=
  ((∀ s : State,
    (∃ t, exec .eclInFall s = .next t ∧ t.f F.PAIR_STATUS_ECL_IN = 0 ∧ t.f F.PAIR_STATUS_OWNED = s.f F.PAIR_STATUS_CLAIM ∧
      t.pair = { s.pair with fall := some ((s.base 0).total, s.tickNo, s.beforeEdge (8 * s.periodUs / 10)) } ∧
      ({ s with pair := t.pair } : State).regsOnly t [R.PAIR_STATUS]) ∧
    (∃ t, exec .eclInRise s = .next t ∧ t.f F.PAIR_STATUS_ECL_IN = 1 ∧ t.f F.PAIR_STATUS_OWNED = 0 ∧ t.f F.LOOP_STATUS_OWNED = 0 ∧
      t.out.driven = [] ∧ t.pair.filtered = s.pair.filtered ∧ t.pair.fall = none ∧ t.pair.rise = (s.base 0).total ∧
      ({ s with pair := t.pair, out := t.out } : State).logAnd t [R.PAIR_STATUS, R.LOOP_STATUS] ∧
      (s.inPair = false ∨ s.f F.PAIR_STATUS_CLAIM = 1 ∨ s.pair.fall = none →
        t.pair = { s.pair with fall := none, rise := (s.base 0).total }) ∧
      (∀ f, s.inPair = true → s.f F.PAIR_STATUS_CLAIM = 0 → s.pair.fall = some f →
        let w := (s.base 0).total - f.1
        let right := s.testWidth * usUnits ≤ w + 2 * usUnits ∧ w ≤ (s.testWidth + 2) * usUnits
        (right → t.pair.eclOk = true ∧ t.pair.wrongPulse = 0) ∧
        (¬right → s.pulseExpected = true → t.pair.wrongPulse = min 3 (s.pair.wrongPulse + 1) ∧
          t.pair.eclOk = (s.pair.eclOk && decide (t.pair.wrongPulse ≠ 2))) ∧
        (¬right → s.pulseExpected = false → t.pair.wrongPulse = s.pair.wrongPulse ∧ t.pair.eclOk = s.pair.eclOk))) ∧
    (s.f F.PAIR_STATUS_ECL_IN = 0 ∨ s.pair.filtered = true → exec .eclInFilteredHigh s = .next s) ∧
    (s.f F.PAIR_STATUS_ECL_IN = 1 ∨ s.pair.filtered = false → exec .eclInFilteredLow s = .next s) ∧
    (s.testDue = false ∨ s.owns = false ∨ s.pair.testEnd.isSome = true ∨ 450 * s.periodUs < s.tick.cycles → exec .eclTestPulse s = .next s) ∧
    (s.testDue = true → s.owns = true → s.pair.testEnd = none → s.tick.cycles ≤ 450 * s.periodUs → ∃ u t, u = s.elapse (450 * s.periodUs - s.tick.cycles) ∧
      exec .eclTestPulse s = .next t ∧ t.f F.PAIR_STATUS_ECL_OUT = 0 ∧ t.f F.PAIR_STATUS_CLAIM = 1 ∧
      t.pair = { s.pair with testEnd := some ((u.base 0).total + s.testWidth * usUnits) } ∧ ({ u with pair := t.pair } : State).regsOnly t [R.PAIR_STATUS]) ∧
    (s.pair.testEnd = none → exec .eclTestPulseEnd s = .next s) ∧
    (s.pulseExpected = false → exec .eclOkLost s = .next s) ∧
    (s.pulseExpected = true → ∃ t, exec .eclOkLost s = .next t ∧ t.pair.wrongPulse = min 3 (s.pair.wrongPulse + 1) ∧ t.pair.pulseSeen = true ∧
      t.pair.eclOk = (s.pair.eclOk && decide (t.pair.wrongPulse ≠ 2))) ∧
    (∃ t, exec .eclMismatch s = .next t ∧ t.f F.PAIR_STATUS_ECL_MISMATCH = 1 ∧ s.logAnd t [R.PAIR_STATUS])) ∧
  (∀ (s₀ s : State) (n : Nat), s₀.pair.testEnd = some n →
    (s₀.comesAt (s₀.cyclesTo 0 n) = none → exec .eclTestPulseEnd s₀ = .next s₀) ∧
    (s₀.comesAt (s₀.cyclesTo 0 n) = some s → ∃ t, exec .eclTestPulseEnd s₀ = .next t ∧ t.f F.PAIR_STATUS_ECL_OUT = s.f F.PAIR_STATUS_CLAIM ∧
      t.pair = { s.pair with testEnd := none } ∧ ({ s with pair := t.pair } : State).regsOnly t [R.PAIR_STATUS])) ∧
  (∀ s₀ s : State, s₀.f F.PAIR_STATUS_ECL_IN = 1 → s₀.pair.filtered = false →
    let due := s₀.comesAt (s₀.cyclesTo 0 (s₀.pair.rise + s₀.claimFilt * usUnits))
    (due = none → exec .eclInFilteredHigh s₀ = .next s₀) ∧
    (due = some s → s.f F.PAIR_STATUS_CLAIM = 0 → exec .eclInFilteredHigh s₀ = .next { s with pair := { s.pair with filtered := true } }) ∧
    (due = some s → s.f F.PAIR_STATUS_CLAIM = 1 → ∃ t, exec .eclInFilteredHigh s₀ = .next t ∧
      t.f F.PAIR_STATUS_DUAL = 1 ∧ t.f F.PAIR_STATUS_CLAIM = 1 - s.f F.PAIR_STATUS_POS ∧
      (s.f F.PAIR_STATUS_POS = 1 → t.f F.PAIR_STATUS_ECL_OUT = 0 ∧ t.f F.PAIR_STATUS_OWNED = 0 ∧ t.f F.LOOP_STATUS_OWNED = 0 ∧ t.out.driven = []) ∧
      t.pair.filtered = true ∧ (∀ r, logReg r = false → r ≠ R.PAIR_STATUS → r ≠ R.LOOP_STATUS → t.reg r = s.reg r))) ∧
  (∀ s₀ s : State, s₀.f F.PAIR_STATUS_ECL_IN = 0 → s₀.pair.filtered = true →
    let due := s₀.comesAt (s₀.cyclesTo 0 (match s₀.pair.fall with | some f => f.1 + s₀.claimFilt * usUnits | none => 0))
    (due = none → exec .eclInFilteredLow s₀ = .next s₀) ∧
    (due = some s → s.inPair = true → s.mode = .run → s.f F.PAIR_STATUS_CLAIM = 0 → ∃ t, exec .eclInFilteredLow s₀ = .next t ∧
      t.f F.PAIR_STATUS_CLAIM = 1 ∧ t.f F.PAIR_STATUS_ECL_OUT = 1 ∧ t.f F.PAIR_STATUS_OWNED = 1 ∧
      t.pair = { s.pair with filtered := false, lateClaim :=
        s.mirroring && !s.beforeEdge (8 * s.periodUs / 10 - 2) && s.beforeEdge (8 * s.periodUs / 10) }) ∧
    (due = some s → s.inPair = false → exec .eclInFilteredLow s₀ = .next { s with pair := { s.pair with filtered := false } }) ∧
    (due = some s → s.inPair = true → s.mode ≠ .run ∨ s.f F.PAIR_STATUS_CLAIM = 1 →
      s.standby = false ∨ s.pair.takeover.isSome = true ∨ s.pair.fall = none →
      exec .eclInFilteredLow s₀ = .next { s with pair := { s.pair with filtered := false } }) ∧
    (∀ c tick n before, due = some s → s.standby = true → s.pair.takeover = none → s.pair.fall = some (tick, n, before) →
      s.pair.committed = some c → s.ckptRefused c = false → (if before then n + 1 else n + 2) ≤ c.tick + 3 →
      ∃ t, exec .eclInFilteredLow s₀ = .next t ∧ t.pair.takeover = some (if before then n + 1 else n + 2) ∧
        t.f F.PAIR_STATUS_TAKEOVER = 1 ∧ t.f F.PRG_TRIAL_CNT_TCNT = c.trial % 2 ^ (F.PRG_TRIAL_CNT_TCNT.hi + 1 - F.PRG_TRIAL_CNT_TCNT.lo)) ∧
    (∀ tick n before, due = some s → s.standby = true → s.pair.takeover = none → s.pair.fall = some (tick, n, before) →
      s.pair.committed = none → s.f F.PAIR_CTRL_COLD_TAKE = 0 →
      ∃ t, exec .eclInFilteredLow s₀ = .next t ∧ t.f F.PAIR_STATUS_STALE_TAKE = 1 ∧ t.pair.takeover = none ∧
        t.f F.PAIR_STATUS_CLAIM = 0 ∧ ({ s with pair := t.pair } : State).logAnd t [R.PAIR_STATUS]) ∧
    (∀ tick n before, due = some s → s.standby = true → s.pair.takeover = none → s.pair.fall = some (tick, n, before) →
      s.pair.committed = none → s.f F.PAIR_CTRL_COLD_TAKE = 1 → ∃ t, exec .eclInFilteredLow s₀ = .next t ∧
      t.f F.PAIR_STATUS_STALE_TAKE = 1 ∧ t.f F.PAIR_STATUS_TAKEOVER = 1 ∧ t.pair.takeover = some (if before then n + 1 else n + 2) ∧
      t.prg.started = .cold))) ∧
  (∀ s : State,
    (exec .eclInFilteredLow s = .next s.eclLow) ∧
    (exec .eclInFilteredHigh s = .next s.eclHigh) ∧
    (exec .eclInRise s = .next s.eclRise) ∧
    (exec .eclTestPulse s = .next s.testPulse) ∧
    (exec .eclTestPulseEnd s = .next s.testPulseEnd) ∧
    (exec .eclOkLost s = .next s.eclOkLost) ∧
    (exec .eclMismatch s = .next ((s.put F.PAIR_STATUS_ECL_MISMATCH 1).event 0x0D05 [])) ∧
    (exec .eclInFall s = .next s.eclFall))

/-- A frame that fails its CRC is counted and does nothing else; a dark module (AFTERGLOW) takes none. A hello frame of an enabled, unpaired
module pairs or is refused with the first reason that holds (hardware, period, strap, mode), a training timeout without lanes with reason
5. Pairing makes a full checkpoint due, lets a module in Run claim while ECL_IN is low, and, for a module without the claim in Stop, sets
the position of the partner's tick to take over at its boundary. A health word is kept with its tick and the time check (at most 1 us); a
link silent for 3 ticks is lost, which abandons both transfers, marks the frozen pages dirty again and keeps the committed state; mirror
values wait for the Strobe; the lane self-test of a standby keeps the set of bad lanes, and LANES_OK returns after a whole cycle that
passed; RESYNC and a refresh request make a full checkpoint due. Last, each command named answers a next state for every state and
operands. Clauses that rest on the model's own readings: assumption log 8, 40, 71. (R294, R298, R299, R300, R301, R304, R305, R312, R315,
R318.) -/
def Obligations.PairingAndLink : Prop :=
  (∀ s : State,
    (∀ lanes, ∃ t, exec (.linkTrained lanes) s = .next t ∧ t.f F.PAIR_LINK_LANES = lanes.toNat ∧ t.pair = { s.pair with upTick := s.tickNo } ∧
      t.f F.PAIR_STATUS_LINK_UP = (if lanes = 0 then 0 else 1) ∧ ({ s with pair := t.pair } : State).regsOnly t [R.PAIR_LINK, R.PAIR_STATUS]) ∧
    (s.dark = false → ∀ h w o v, exec (.helloFrame h false) s = .next (s.linkFrame.count F.PAIR_LINK_CRC_ERR) ∧
      exec (.healthWord w o false) s = .next (s.linkFrame.count F.PAIR_LINK_CRC_ERR) ∧
      exec (.mirrorFrame v false) s = .next (s.linkFrame.count F.PAIR_LINK_CRC_ERR) ∧
      exec (.refreshRequest false) s = .next (s.linkFrame.count F.PAIR_LINK_CRC_ERR)) ∧
    (s.dark = true → ∀ ok h w o v, exec (.helloFrame h ok) s = .next s ∧ exec (.healthWord w o ok) s = .next s ∧
      exec (.mirrorFrame v ok) s = .next s ∧ exec (.refreshRequest ok) s = .next s) ∧
    (∀ h, s.dark = false → s.f F.PAIR_CTRL_EN = 0 ∨ s.pair.paired = true → exec (.helloFrame h true) s = .next s.linkFrame) ∧
    (∀ h, s.dark = false → s.f F.PAIR_CTRL_EN = 1 → s.pair.paired = false →
      let x := s.variant.id
      let r := if bitsOf h.sysId 23 0 ≠ bitsOf x 23 0 then 1
        else if h.periodMs ≠ s.periodMs then 2
        else if (h.unitB = true ↔ s.f F.PAIR_STATUS_POS = 1) then 3
        else if ¬(h.mirror = true ↔ s.f F.PAIR_CTRL_MODE = 1) then 4 else 0
      (r ≠ 0 → ∃ t, exec (.helloFrame h true) s = .next t ∧ t.f F.PAIR_STATUS_REFUSED = 1 ∧ t.f F.PAIR_STATUS_REFUSE = r ∧ t.f F.PAIR_STATUS_ROLE = 0 ∧
        t.pair = { s.pair with frameTick := some s.tickNo, paired := false } ∧ ({ s with pair := t.pair, gnss := t.gnss } : State).logAnd t [R.PAIR_STATUS]) ∧
      (r = 0 → ∃ t, exec (.helloFrame h true) s = .next t ∧ t.pair.paired = true ∧ t.pair.fullDue = true ∧
        (t.pair.refreshHold = true ↔ s.f F.PAIR_STATUS_CLAIM = 0) ∧
        (s.f F.PAIR_STATUS_CLAIM = 1 ∨ s.mode ≠ .stop → t.pair.align = none) ∧
        (s.f F.PAIR_STATUS_CLAIM = 0 → s.mode = .stop → s.f F.PAIR_STATUS_ECL_IN = 1 ∨ s.f F.PAIR_STATUS_POS = 1 →
          t.pair.align = some (((h.tick * (500 * s.periodUs) + h.phase : Nat) : Int) - (s.tickNo * (500 * s.periodUs) + s.tick.cycles : Nat))) ∧
        (s.mode = .run → s.pair.filtered = false → t.f F.PAIR_STATUS_CLAIM = 1) ∧
        (s.mode ≠ .run ∨ s.pair.filtered = true → t.f F.PAIR_STATUS_CLAIM = s.f F.PAIR_STATUS_CLAIM ∧
          t.f F.PAIR_STATUS_ROLE = (if s.f F.PAIR_STATUS_CLAIM = 1 then 1 else if s.mode = .run then 3 else 2) ∧
          ({ s with pair := t.pair, gnss := t.gnss } : State).regsOnly t [R.PAIR_STATUS]))) ∧
    (s.f F.PAIR_CTRL_EN = 1 → s.pair.paired = false → s.f F.PAIR_LINK_LANES = 0 → ∃ t, exec .linkTrainingTimeout s = .next t ∧
      t.f F.PAIR_STATUS_REFUSED = 1 ∧ t.f F.PAIR_STATUS_REFUSE = 5 ∧ ({ s with gnss := t.gnss } : State).logAnd t [R.PAIR_STATUS]) ∧
    (s.f F.PAIR_CTRL_EN = 0 ∨ s.pair.paired = true ∨ s.f F.PAIR_LINK_LANES ≠ 0 → exec .linkTrainingTimeout s = .next s) ∧
    (∀ w o, s.dark = false → ∃ t, exec (.healthWord w o true) s = .next t ∧ t.reg64 R.PAIR_PHEALTH_LO = w.toNat ∧ t.f F.PAIR_STATUS_LINK_UP = 1 ∧
      t.pair = { s.pair with frameTick := some s.tickNo, healthTick := some s.tickNo, timeOk := decide (o.natAbs ≤ 1000) } ∧
      t.mem = s.mem ∧ (s.inPair = false →
        ({ s with pair := t.pair } : State).regsOnly t [R.PAIR_PHEALTH_LO, R.PAIR_PHEALTH_HI, R.PAIR_TIME, R.PAIR_STATUS])) ∧
    (s.f F.PAIR_STATUS_LINK_UP = 0 ∨ s.tickNo < s.pair.upTick + 3 ∨ (∃ n, s.pair.frameTick = some n ∧ s.tickNo < n + 3) → exec .linkLost s = .next s) ∧
    (s.f F.PAIR_STATUS_LINK_UP = 1 → s.pair.upTick + 3 ≤ s.tickNo → (∀ n, s.pair.frameTick = some n → n + 3 ≤ s.tickNo) →
      ∃ t, exec .linkLost s = .next t ∧ t.f F.PAIR_STATUS_LINK_UP = 0 ∧ t.pair.tx = none ∧ t.pair.rx = {} ∧
      t.pair.committed = s.pair.committed ∧ (∀ l, s.pair.tx = some l → ∀ p, p ∈ t.cml.dirty ↔ p ∈ l ∨ p ∈ s.cml.dirty) ∧
      (∀ r, logReg r = false → r ∉ [R.PAIR_STATUS, R.PAIR_CKPT] → t.reg r = s.reg r)) ∧
    (∀ vals, s.dark = false → exec (.mirrorFrame vals true) s =
      .next { s.linkFrame with pair := { s.pair with frameTick := some s.tickNo, mirror := vals.map (·.toNat), mirrorTick := some s.tickNo } }) ∧
    (s.standby = false → ∀ ok, exec (.laneSelfTest ok) s = .next s) ∧
    (s.standby = true → ∀ ok, ∃ t, exec (.laneSelfTest ok) s = .next t ∧
      let j := s.tickNo % (s.lanes / 8)
      (∀ x, x ∈ t.pair.badLanes ↔ if 8 * j ≤ x ∧ x < 8 * j + 8 then ok.getLsbD (x - 8 * j) = false else x ∈ s.pair.badLanes) ∧
      t.f F.PAIR_STEST_FAIL_LANE = t.pair.badLanes.headD 0xFF % 256 ∧ ({ s with pair := t.pair } : State).logAnd t [R.PAIR_STEST] ∧
      (ok ≠ 0xFF → t.pair.lanesOk = false) ∧
      (ok = 0xFF → t.pair.lanesOk = (s.pair.lanesOk || decide (s.pair.laneRun = some j ∧ j ≠ 0 ∧ j + 1 = s.lanes / 8)) ∧
        ({ s with pair := t.pair } : State).regsOnly t [R.PAIR_STEST])) ∧
    (s.dark = false → exec (.refreshRequest true) s =
      .next { s.linkFrame with pair := { s.pair with frameTick := some s.tickNo, fullDue := true } }) ∧
    (∀ m v, bitsOf v 31 31 = 1 → ∃ t, exec (.resync m v) s = .next t ∧ t.pair = { s.pair with fullDue := true } ∧ t.f F.PAIR_CTRL_EN = 1 ∧
      t.f F.PAIR_CTRL_CKPT_FULL = bitsOf v 29 29 ∧ t.f F.PAIR_CTRL_COLD_TAKE = bitsOf v 28 28 ∧
      t.f F.PAIR_CTRL_MODE = (if s.mode = .stop then bitsOf v 30 30 else s.f F.PAIR_CTRL_MODE) ∧
      ({ s with pair := t.pair, gnss := t.gnss } : State).regsOnly t [R.PAIR_CTRL, R.PAIR_STATUS])) ∧
  (∀ s : State,
    (∀ (h : Hello) (crcOk : Bool), exec (.helloFrame h crcOk) s = .next (s.hello crcOk h)) ∧
    (∃ t, exec .linkTrainingTimeout s = .next t) ∧
    (∀ (w : Dword) (offset : Int) (crcOk : Bool), exec (.healthWord w offset crcOk) s = .next (s.health crcOk w offset)) ∧
    (exec .linkLost s = .next s.linkLost) ∧
    (∀ (m : Master) (v : Word), exec (.resync m v) s = .next (s.pairCtrlWrite (withBits v 27 27 1))) ∧
    (∀ (crcOk : Bool), exec (.refreshRequest crcOk) s = .next (s.frameIn crcOk State.dueFull)) ∧
    (∀ (vals : Dwords) (crcOk : Bool), ∃ t, exec (.mirrorFrame vals crcOk) s = .next t) ∧
    (∀ (passes : Lanes8), exec (.laneSelfTest passes) s = .next (s.laneTest passes)) ∧
    (∀ (lanes : Lanes), ∃ t, exec (.linkTrained lanes) s = .next t))

/-- A dark module takes no frame. A frame or block whose CRC passes is held; a first failure counts and a second one spoils the transfer. A
commit with a wrong CRC, of a spoilt transfer, or at a module that is no standby discards what was received, keeps the previous commit and
counts an abandoned one; else the state of the record becomes the committed one, with its page list, the received bytes are in place, and
no other byte changes (stated where no warm-start block of the record's tick is held). At its end the owner sends failed frames again
once; a frame that fails a second time abandons the transfer: its pages are dirty again and its refresh pages unsent. The patrol counts
errors; an uncorrectable one clears the memory check and, inside a standby's committed state, holds READY; the encoder check compares a
tile's CRC with the load's and keeps the set of failing streams. Last, each command named answers a next state for every state and
operands. Clauses that rest on the model's own readings: assumption log 8, 40. (R298, R302, R303, R304, R305, R314, R315.) -/
def Obligations.CheckpointsOfTheStandby : Prop :=
  (∀ s : State,
    (∀ (n : CkptFrame) d, s.dark = false → ∃ t, exec (.checkpointFrame true n d) s = .next t ∧
      t.pair.rx = { s.pair.rx with frames := tput s.pair.rx.frames n.val (d.take 256) } ∧
      t = { s.linkFrame with pair := { s.pair with frameTick := some s.tickNo, rx := t.pair.rx } }) ∧
    (∀ (n : CkptFrame) d, s.dark = false → ∃ t, exec (.checkpointFrame false n d) s = .next t ∧
      t.f F.PAIR_LINK_CRC_ERR = min (2 ^ (F.PAIR_LINK_CRC_ERR.hi + 1 - F.PAIR_LINK_CRC_ERR.lo) - 1) (s.f F.PAIR_LINK_CRC_ERR + 1) ∧
      (n.val ∉ s.pair.rx.failed → t.pair.rx = { s.pair.rx with failed := n.val :: s.pair.rx.failed }) ∧
      (n.val ∈ s.pair.rx.failed → t.pair.rx = { s.pair.rx with bad := true }) ∧
      ({ s with pair := t.pair } : State).regsOnly t [R.PAIR_LINK, R.PAIR_STATUS]) ∧
    (∀ q sig tick v, s.dark = false → ∃ t, exec (.warmStartBlock q sig tick v true) s = .next t ∧
      tget? t.pair.rx.warm q.toNat = some (sig.toNat, tick.toNat, v.map (·.toNat)) ∧ t.pair.committed = s.pair.committed ∧
      t = { s.linkFrame with pair := t.pair }) ∧
    (∀ q sig tick v, s.dark = false → ∃ t, exec (.warmStartBlock q sig tick v false) s = .next t ∧
      t.pair.rx.warm = s.pair.rx.warm ∧ t.pair.rx.bad = (s.pair.rx.bad || s.pair.rx.failed.contains (28672 + q.toNat)) ∧
      ({ s with pair := t.pair } : State).regsOnly t [R.PAIR_LINK, R.PAIR_STATUS]) ∧
    (s.dark = true → ∀ ok n d q sig tick v r, exec (.checkpointFrame ok n d) s = .next s ∧ exec (.warmStartBlock q sig tick v ok) s = .next s ∧
      exec (.checkpointCommit r) s = .next s) ∧
    (∀ r, s.dark = false → r.crcOk = false ∨ s.pair.rx.bad = true ∨ s.standby = false → ∃ t, exec (.checkpointCommit r) s = .next t ∧
      t.pair.rx = {} ∧ t.pair.committed = s.pair.committed ∧
      t.f F.PAIR_CKPT_ABANDON = min (2 ^ (F.PAIR_CKPT_ABANDON.hi + 1 - F.PAIR_CKPT_ABANDON.lo) - 1) (s.f F.PAIR_CKPT_ABANDON + 1) ∧
      ({ s with pair := t.pair } : State).regsOnly t [R.PAIR_CKPT, R.PAIR_STATUS]) ∧
    (∀ r, s.dark = false → r.crcOk = true → s.pair.rx.bad = false → s.standby = true → s.pair.rx.warm = [] ∨ r.tick ≠ s.tickNo → ∃ t c, exec (.checkpointCommit r) s = .next t ∧
      t.pair.committed = some c ∧ c.tick = r.tick ∧ c.stamp = r.stamp.toNat ∧ c.version = r.version.toNat ∧ c.trial = r.trial.toNat ∧
      (∀ p, p ∈ c.pages ↔ ∃ e ∈ s.pair.rx.frames, p = e.1 / 16) ∧
      t.pair.rx = {} ∧ (r.tick < 2 ^ 64 → t.reg64 R.PAIR_CKPT_TICK_LO = r.tick) ∧
      (∀ b, (∀ e ∈ s.pair.rx.frames, outside (pageAddr (e.1 / 16) + 256 * (e.1 % 16)) e.2.length b) → t.byte b = s.byte b) ∧
      (∀ n d, s.pair.rx.frames = [(n, d)] → n < 16384 → d.length ≤ 256 → ∀ i, i < d.length → t.byte (pageAddr (n / 16) + 256 * (n % 16) + i) = d.getD i 0) ∧
      (∀ x, x ∉ [R.PAIR_CKPT, R.PAIR_CKPT_TICK_LO, R.PAIR_CKPT_TICK_HI, R.PAIR_STATUS] → t.reg x = s.reg x)) ∧
    (s.pair.tx = none → ∀ l, exec (.checkpointTransferEnd l) s = .next s) ∧
    (s.pair.tx.isSome = true → ∃ t, exec (.checkpointTransferEnd []) s = .next t ∧
      t.pair.tx = none ∧ t.pair.txCkpt = none ∧ t.pair.txRefresh = [] ∧ t.pair.warmDue = false ∧
      t.f F.PAIR_CKPT_REFRESH = (if s.pair.refreshLeft = [] then 0 else s.f F.PAIR_CKPT_REFRESH) ∧
      ({ s with pair := t.pair } : State).regsOnly t [R.PAIR_CKPT]) ∧
    (∀ l, s.pair.tx.isSome = true → l ≠ [] → (∀ n ∈ l, n.val ∉ s.pair.txAgain) →
      exec (.checkpointTransferEnd l) s = .next { s with pair := { s.pair with txAgain := s.pair.txAgain ++ l.map (·.val) } }) ∧
    (∀ l f, s.pair.tx = some f → (∃ n ∈ l, n.val ∈ s.pair.txAgain) → ∃ t, exec (.checkpointTransferEnd l) s = .next t ∧
      t.pair.tx = none ∧ (∀ p, p ∈ t.cml.dirty ↔ p ∈ f ∨ p ∈ s.cml.dirty) ∧
      (∀ p, p ∈ t.pair.refreshLeft ↔ p ∈ s.pair.txRefresh ∨ p ∈ s.pair.refreshLeft) ∧ t.pair.warmDue = s.pair.warmDue ∧
      t.f F.PAIR_CKPT_ABANDON = min (2 ^ (F.PAIR_CKPT_ABANDON.hi + 1 - F.PAIR_CKPT_ABANDON.lo) - 1) (s.f F.PAIR_CKPT_ABANDON + 1)) ∧
    (∀ corr inC, ∃ t, exec (.memoryPatrol corr 0 inC) s = .next t ∧ s.regsOnly t [R.PAIR_STEST]) ∧
    (∀ corr unc inC, unc ≠ 0 → ∃ t, exec (.memoryPatrol corr unc inC) s = .next t ∧ t.pair.memOk = false ∧
      t.pair.refreshHold = (s.pair.refreshHold || (inC && s.standby)) ∧ ({ s with pair := t.pair } : State).logAnd t [R.PAIR_STEST]) ∧
    (s.standby = false → ∀ n crc, exec (.encoderCheck n crc) s = .next s) ∧
    (∀ (n : Stream) (crc : Word), s.standby = true → tget? s.pair.tiles n.val = some crc.toNat → exec (.encoderCheck n crc) s =
      .next { s with pair := { s.pair with badStreams := s.pair.badStreams.filter (· ≠ n.val) } }) ∧
    (∀ (n : Stream) (crc : Word), s.standby = true → tget? s.pair.tiles n.val ≠ some crc.toNat → ∃ t, exec (.encoderCheck n crc) s = .next t ∧
      n.val ∈ t.pair.badStreams ∧ ({ s with pair := t.pair } : State).logAnd t [])) ∧
  (∀ s : State,
    (∀ (r : StateRecord), exec (.checkpointCommit r) s = .next (if s.dark then s else s.commitCkpt r)) ∧
    (∀ (crcOk : Bool) (n : CkptFrame) (data : Bytes), exec (.checkpointFrame crcOk n data) s = .next (s.ckptFrame crcOk n.val data)) ∧
    (∀ (q : Prob) (sig : Word) (tick : Dword) (v : Dwords) (crcOk : Bool), exec (.warmStartBlock q sig tick v crcOk) s = .next (s.blockFrame crcOk q.toNat (sig.toNat, tick.toNat, v.map (·.toNat)))) ∧
    (∀ (corr : Nat) (unc : Nat) (inCommitted : Bool), exec (.memoryPatrol corr unc inCommitted) s = .next (s.memPatrol corr unc inCommitted)) ∧
    (∀ (n : Stream) (crc : Word), exec (.encoderCheck n crc) s = .next (s.encoderCheck n.val crc.toNat)) ∧
    (∀ (failed : List CkptFrame), exec (.checkpointTransferEnd failed) s = .next (s.transferEnd failed)))

/-- A closed recorder takes nothing and a full one only counts; an event whose bucket is empty is counted as suppressed; else it takes the
next number with its code, source, payload, tick and time (operating seconds in Run, calendar time otherwise) and joins the queue, or the
buffer in buffered recording. A submission of a code below 0x8000 is rejected, and an accepted one shows its number to its master.
RECORD_COMMIT writes the oldest record to its slot and nothing else. FLUSH starts a flush unless one runs; leaving buffered recording
waits for its flush; the end of a flush empties buffer and queue; the end of Afterglow closes the recorder. Last, each command named
answers a next state for every state and operands. Clauses that rest on the model's own readings: assumption log 8, 45. (R319, R320, R321,
R322, R323, R324, R325, R326, R327, R332, R338.) -/
def Obligations.RecordsQueuesAndFlushes : Prop :=
  (∀ s : State,
    (∀ (c : Code) p, s.recorder.closed = true → exec (.eventRecord c p) s = .next s) ∧
    (∀ (c : Code) p, s.recorder.closed = false → s.f F.REC_STATUS_FULL = 1 → ∃ t, exec (.eventRecord c p) s = .next t ∧
      t.recorder = s.recorder ∧ t.f F.REC_DROP_FULL_COUNT = min (2 ^ 32 - 1) (s.f F.REC_DROP_FULL_COUNT + 1) ∧ s.regsOnly t [R.REC_DROP_FULL]) ∧
    (∀ (c : Code) p, c.toNat < 0x0F00 ∨ 0x0F0F < c.toNat → s.recorder.closed = false → s.f F.REC_STATUS_FULL = 0 →
      tget 0 s.recorder.tokens (s.bucketOf c.toNat) < 16000 → ∃ t, exec (.eventRecord c p) s = .next t ∧
      t.recorder.queue = s.recorder.queue ∧ t.recorder.buffer = s.recorder.buffer ∧ t.recorder.next = s.recorder.next ∧
      t.f F.REC_SUPPR_COUNT = min (2 ^ 32 - 1) (s.f F.REC_SUPPR_COUNT + 1) ∧ t.mem = s.mem ∧ s.logFrame t) ∧
    (∀ (c : Code) p, c.toNat < 0x0F00 ∨ 0x0F0F < c.toNat → s.recorderOpen c.toNat → s.f F.REC_STATUS_BUFFERED = 0 → s.recorder.queue.length < 256 →
      ∃ t r, exec (.eventRecord c p) s = .next t ∧ s.recordOf 0x10 c.toNat p false r ∧ t.recorder.queue = s.recorder.queue ++ [r] ∧
        t.recorder.buffer = s.recorder.buffer ∧ t.recorder.next = s.recorder.next + 1 ∧
        tget 0 t.recorder.tokens (s.bucketOf c.toNat) = tget 0 s.recorder.tokens (s.bucketOf c.toNat) - 16000 ∧
        ({ t with recorder := s.recorder } : State) = s) ∧
    (∀ (c : Code) p, c.toNat < 0x0F00 ∨ 0x0F0F < c.toNat → s.recorderOpen c.toNat → s.f F.REC_STATUS_BUFFERED = 1 →
      s.recorder.buffer.length < 32768 → ∃ t r, exec (.eventRecord c p) s = .next t ∧ s.recordOf 0x10 c.toNat p true r ∧
        t.recorder.buffer = s.recorder.buffer ++ [r] ∧ t.recorder.queue = s.recorder.queue ∧ t.recorder.next = s.recorder.next + 1 ∧
        t.mem = s.mem ∧ s.regsOnly { t with recorder := s.recorder } [R.REC_STATUS]) ∧
    (∀ m v, bitsOf v 15 0 < 0x8000 → ∃ t, exec (.submit m v) s = .next t ∧
      bitsOf (t.mreg m R.REC_SUB_STAT) F.REC_SUB_STAT_RESULT.hi F.REC_SUB_STAT_RESULT.lo = 3 ∧ ({ t with mregs := s.mregs } : State) = s) ∧
    (∀ m v, 0x8000 ≤ bitsOf v 15 0 → s.recorderOpen (bitsOf v 15 0) → s.f F.REC_STATUS_BUFFERED = 0 → s.recorder.queue.length < 256 →
      ∃ t r, exec (.submit m v) s = .next t ∧ s.recordOf (masterCode m) (bitsOf v 15 0) (s.subPayload m) false r ∧
        t.recorder.queue = s.recorder.queue ++ [r] ∧
        bitsOf (t.mreg m R.REC_SUB_STAT) F.REC_SUB_STAT_RESULT.hi F.REC_SUB_STAT_RESULT.lo = 0 ∧
        bitsOf (t.mreg m R.REC_SUB_STAT) F.REC_SUB_STAT_SEQ.hi F.REC_SUB_STAT_SEQ.lo =
          s.recorder.next % 2 ^ (F.REC_SUB_STAT_SEQ.hi + 1 - F.REC_SUB_STAT_SEQ.lo) ∧
        ({ t with mregs := s.mregs, recorder := s.recorder } : State) = s) ∧
    (s.recorder.queue = [] → exec .recordCommit s = .next s) ∧
    (∀ r l, s.recorder.queue = r :: l → let a := mramBase + 64 * (r.seq - s.recorder.first)
      ∃ t, exec .recordCommit s = .next t ∧ t.recorder.queue = l ∧ t.recorder.buffer = s.recorder.buffer ∧
        (∀ i, i < 64 → t.byte (a + i) = r.bytes.getD i 0) ∧ (∀ b, outside a 64 b → t.byte b = s.byte b) ∧
        t.f F.REC_USED_USED = (s.f F.REC_USED_USED + 1) % 2 ^ (F.REC_USED_USED.hi + 1 - F.REC_USED_USED.lo) ∧
        (∀ x, x ≠ R.REC_USED → t.reg x = s.reg x)) ∧
    (∀ m v, bitsOf v 31 31 = 1 → ∃ t, exec (.flush m v) s = .next t ∧ t.f F.REC_STATUS_BUFFERED = 1 ∧ t.recorder.toThrough = false ∧
      (s.recorder.flush = none → t.recorder.flush = some 9 ∧ t.f F.REC_STATUS_FLUSHING = 1) ∧
      (∀ c, s.recorder.flush = some c → t.recorder.flush = some c) ∧ t.f F.REC_CTRL_FLUSH_MASK = bitsOf v 7 0 ∧
      t.f F.REC_CTRL_FLUSH_FILL = bitsOf v 15 8 ∧ t.f F.REC_CTRL_TEST = bitsOf v 29 29 ∧
      (∀ x, x ∉ [R.REC_CTRL, R.REC_STATUS, R.REC_DROP_Q] → t.reg x = s.reg x) ∧ t.mem = s.mem) ∧
    (∀ m v, ∃ t, exec (.recModeWrite m v) s = .next t ∧ t.f F.REC_CTRL_MODE = bitsOf v 31 31 ∧
      (bitsOf v 31 31 = 1 → t.f F.REC_STATUS_BUFFERED = 1 ∧ t.recorder.toThrough = false) ∧
      (bitsOf v 31 31 = 0 → t.f F.REC_STATUS_BUFFERED = s.f F.REC_STATUS_BUFFERED) ∧
      (bitsOf v 31 31 = 0 → s.f F.REC_STATUS_BUFFERED = 1 → t.recorder.toThrough = true ∧ (s.recorder.toThrough = false →
        t.recorder.flush = some (s.recorder.flush.getD 10))) ∧ t.recorder.queue = s.recorder.queue ∧ t.recorder.buffer = s.recorder.buffer) ∧
    (∀ m v, ∃ t, exec (.recCounterClear m v) s = .next t ∧ t.f F.REC_DROP_Q_COUNT = 0 ∧ t.recorder.queue = s.recorder.queue ∧
      (∀ x, x ∉ [R.REC_CTRL, R.REC_STATUS, R.REC_DROP_Q] → t.reg x = s.reg x) ∧ t.mem = s.mem) ∧
    (s.recorder.flush = none → exec .flushEnd s = .next s) ∧
    (∀ c, s.recorder.flush = some c → c ≠ 255 → s.recorder.closed = false → s.f F.REC_STATUS_FULL = 0 →
      s.f F.REC_USED_USED + s.recorder.queue.length + s.recorder.buffer.length + 1 < 786432 →
      ∃ t, exec .flushEnd s = .next t ∧ t.recorder.flush = none ∧ t.recorder.queue = [] ∧ t.recorder.buffer = [] ∧
        t.f F.REC_STATUS_FLUSHING = 0 ∧ t.f F.REC_USED_USED = s.f F.REC_USED_USED + s.recorder.queue.length + s.recorder.buffer.length + 1 ∧
        t.f F.REC_STATUS_BUFFERED = (if s.recorder.toThrough then 0 else s.f F.REC_STATUS_BUFFERED) ∧
        t.recorder.next = s.recorder.next + 1 ∧ s.logFrame t) ∧
    (s.f F.REC_STATUS_AFTERGLOW = 0 ∨ s.recorder.closed = true → exec .afterglowEnd s = .next s) ∧
    (s.f F.REC_STATUS_AFTERGLOW = 1 → s.recorder.closed = false → s.f F.REC_STATUS_FULL = 0 →
      s.f F.REC_USED_USED + s.recorder.queue.length + s.recorder.buffer.length + 2 < 786432 →
      ∃ t, exec .afterglowEnd s = .next t ∧ t.recorder.closed = true ∧ t.recorder.queue = [] ∧ t.recorder.buffer = [] ∧ s.logFrame t)) ∧
  (∀ s : State,
    (∀ (m : Master) (v : Word), exec (.flush m v) s = .next (s.recCtrlWrite (withBits v 30 30 1))) ∧
    (∀ (m : Master) (v : Word), exec (.recModeWrite m v) s = .next (s.recCtrlWrite v)) ∧
    (∀ (m : Master) (v : Word), exec (.submit m v) s = .next (s.submit m v)) ∧
    (∀ (code : Code) (payload : Payload), exec (.eventRecord code payload) s = .next (s.record code.toNat payload)) ∧
    (∃ t, exec .recordCommit s = .next t) ∧
    (∃ t, exec .flushEnd s = .next t) ∧
    (∃ t, exec .afterglowEnd s = .next t) ∧
    (∀ (m : Master) (v : Word), exec (.recCounterClear m v) s = .next (s.recCtrlWrite (withBits v 28 28 1))))

/-- A snapshot latches FIRST, LAST and the buffered count for its master alone; a read window takes both halves of the number and clears READY
until its fetch gives the record (from the buffer, or from its slot with the CRC's verdict) or says that it is absent. A clear request
with a wrong key, in Run, or while locked is refused with its reason; else a challenge of eight decimal digits is placed. The right
response empties queue, buffer and store, leaves the Clear record of its master as the only record and touches no other byte; a wrong one
counts, and the third locks. The response function is one the spec does not give (a free value). Last, each command named answers a next
state for every state and operands. Clauses that rest on the model's own readings: assumption log 6, 7, 8, 45. (R319, R334, R335, R336,
R337.) -/
def Obligations.ReadingAndClearingTheRecord : Prop :=
  (∀ (s : State) (m : Master),
    (∀ v, ∃ t, exec (.recSnapshot m v) s = .next t ∧
      t.mreg m R.REC_SNAP_FIRST_LO = BitVec.ofNat 32 s.recorder.first ∧ t.mreg m R.REC_SNAP_FIRST_HI = BitVec.ofNat 32 (s.recorder.first / 2 ^ 32) ∧
      t.mreg m R.REC_SNAP_LAST_LO = BitVec.ofNat 32 s.lastCommitted ∧ t.mreg m R.REC_SNAP_LAST_HI = BitVec.ofNat 32 (s.lastCommitted / 2 ^ 32) ∧
      t.mreg m R.REC_SNAP_BUF = BitVec.ofNat 32 (s.recorder.buffer.filter fun r => decide (r.seq ≤ s.lastCommitted)).length ∧
      (∀ k a, k ≠ m → a < 2 ^ 40 → t.mreg k a = s.mreg k a) ∧ ({ t with mregs := s.mregs } : State) = s) ∧
    (∀ v, ∃ t, exec (.readWindow m v) s = .next t ∧ t.mreg m R.REC_RD_SEQ_HI = v ∧
      t.mreg m R.REC_RD_SEQ_LO = (tget? s.lowBufs (mkey m R.REC_RD_SEQ_LO)).getD (s.mreg m R.REC_RD_SEQ_LO) ∧
      tget? t.lowBufs (mkey m R.REC_RD_SEQ_LO) = none ∧ bitsOf (t.mreg m R.REC_RD_STAT) 0 0 = 0 ∧ masterCode m ∈ t.recorder.fetching ∧
      (∀ k a, k ≠ m → a < 2 ^ 40 → t.mreg k a = s.mreg k a) ∧
      ({ t with mregs := s.mregs, lowBufs := s.lowBufs, recorder := s.recorder } : State) = s) ∧
    (masterCode m ∉ s.recorder.fetching → exec (.readReady m) s = .next s) ∧
    (masterCode m ∈ s.recorder.fetching →
      let q := (s.mreg m R.REC_RD_SEQ_HI).toNat * 2 ^ 32 + (s.mreg m R.REC_RD_SEQ_LO).toNat
      let word := fun (l : List Byte) (k : Nat) => BitVec.ofNat 32 (leBytes ((l.drop (4 * k)).take 4))
      (∀ r, s.recorder.first ≤ q → q ≤ s.lastCommitted → s.recorder.buffer.find? (·.seq = q) = some r → ∃ t, exec (.readReady m) s = .next t ∧ masterCode m ∉ t.recorder.fetching ∧
        t.mreg m R.REC_RD_STAT = 15 ∧ (∀ k, k < 16 → t.mreg m (R.REC_RD_DATA k) = word r.bytes k) ∧
        ({ t with mregs := s.mregs, recorder := s.recorder } : State) = s) ∧
      (s.recorder.buffer.find? (·.seq = q) = none → s.recorder.first ≤ q → q ≤ s.lastCommitted → q - s.recorder.first < s.f F.REC_USED_USED →
        ∃ t, exec (.readReady m) s = .next t ∧ t.mreg m R.REC_RD_STAT = (if s.slotOk (q - s.recorder.first) then 7 else 3) ∧
          (∀ k, k < 16 → t.mreg m (R.REC_RD_DATA k) = word (s.rdBytes (mramBase + 64 * (q - s.recorder.first)) 64) k) ∧
          ({ t with mregs := s.mregs, recorder := s.recorder } : State) = s) ∧
      (q < s.recorder.first ∨ s.lastCommitted < q → ∃ t, exec (.readReady m) s = .next t ∧
        t.mreg m R.REC_RD_STAT = 1 ∧ ({ t with mregs := s.mregs, recorder := s.recorder } : State) = s)) ∧
    (∀ v, bitsOf v 31 16 ≠ 0x4352 → exec (.clearRequest m v) s = .next (s.offer (masterCode m) 0x0F07 (payW [5, s.keyId])).2) ∧
    (∀ v, bitsOf v 31 16 = 0x4352 → s.mode = .run → exec (.clearRequest m v) s = .next (s.offer (masterCode m) 0x0F07 (payW [4, s.keyId])).2) ∧
    (∀ v, bitsOf v 31 16 = 0x4352 → s.mode ≠ .run → bitsOf v 0 0 = 1 → s.f F.REC_STATUS_CLR_LOCK = 1 →
      exec (.clearRequest m v) s = .next (s.offer (masterCode m) 0x0F07 (payW [3, s.keyId])).2) ∧
    (∀ v, bitsOf v 31 16 = 0x4352 → s.mode ≠ .run → bitsOf v 0 0 = 1 → s.f F.REC_STATUS_CLR_LOCK = 0 → ∃ t, exec (.clearRequest m v) s = .next t ∧
      t.f F.REC_STATUS_CHAL_VALID = 1 ∧ (∀ i, i < 8 → (t.reg R.REC_CHAL).toNat / 16 ^ i % 16 < 10) ∧
      ({ s with freeCtr := t.freeCtr } : State).regsOnly t [R.REC_CHAL, R.REC_STATUS]) ∧
    (∀ v, s.f F.REC_STATUS_CHAL_VALID = 0 → exec (.clearResponse m v) s = .next (s.offer (masterCode m) 0x0F07 (payW [2, s.keyId])).2) ∧
    (∀ v, s.recorder.closed = true → exec (.clearResponse m v) s = .next s) ∧
    (s.recorder.closed = false → s.f F.REC_STATUS_CHAL_VALID = 1 → ∃ t, exec (.clearResponse m (Config.clearResponse (s.reg R.REC_CHAL).toNat s.clearKey)) s = .next t ∧
      t.recorder.queue = [] ∧ t.recorder.buffer = [] ∧ t.recorder.wrong = 0 ∧ t.recorder.first = s.recorder.next ∧
      t.recorder.next = s.recorder.next + 1 ∧ t.f F.REC_USED_USED = 1 ∧ t.f F.REC_STATUS_CHAL_VALID = 0 ∧ t.reg R.REC_CHAL = 0 ∧
      t.f F.REC_DROP_FULL_COUNT = 0 ∧ t.f F.REC_DROP_Q_COUNT = 0 ∧ t.f F.REC_SUPPR_COUNT = 0 ∧
      t.rd mramBase 8 = s.recorder.next % 2 ^ 64 ∧ t.rd (mramBase + 24) 2 = 0x0F01 ∧ t.rd (mramBase + 27) 1 = masterCode m ∧
      (∀ b, outside mramBase 64 b → t.byte b = s.byte b) ∧ s.logFrame t) ∧
    (∀ v, s.recorder.closed = false → s.f F.REC_STATUS_CHAL_VALID = 1 → v ≠ Config.clearResponse (s.reg R.REC_CHAL).toNat s.clearKey →
      ∃ t, exec (.clearResponse m v) s = .next t ∧ t.recorder.wrong = (s.recorder.wrong + 1) % 3 ∧
        (s.recorder.wrong = 2 → t.f F.REC_STATUS_CLR_LOCK = 1) ∧ s.logFrame t) ∧
    (∃ t, exec .challengeExpiry s = .next t ∧ t.reg R.REC_CHAL = 0 ∧ t.f F.REC_STATUS_CHAL_VALID = 0 ∧ s.regsOnly t [R.REC_CHAL, R.REC_STATUS]) ∧
    (∃ t, exec .clearLockEnd s = .next t ∧ t.f F.REC_STATUS_CLR_LOCK = 0 ∧ s.regsOnly t [R.REC_STATUS])) ∧
  (∀ s : State,
    (∀ (m : Master) (v : Word), exec (.readWindow m v) s = .next (s.readWindow m v)) ∧
    (∀ (m : Master) (v : Word), exec (.clearRequest m v) s = .next (s.clearRequest m v)) ∧
    (∀ (m : Master) (v : Word), exec (.clearResponse m v) s = .next (s.clearRespond m v)) ∧
    (∀ (m : Master) (v : Word), exec (.recSnapshot m v) s = .next (s.recSnapshot m)) ∧
    (∀ (m : Master), ∃ t, exec (.readReady m) s = .next t) ∧
    (exec .challengeExpiry s = .next ((s.setReg R.REC_CHAL 0).put F.REC_STATUS_CHAL_VALID 0)) ∧
    (exec .clearLockEnd s = .next (s.put F.REC_STATUS_CLR_LOCK 0)))

/-- An assertion of an enabled source adds one to its pending count (at most 255) and starts its timer; detectors see it either way; nothing
else changes. DELIVERY takes the source and target that R346 selects, clears count and timer, moves the rotation pointer, and waits while
a swap holds deliveries. Its commit stamps MONO and TAI, source, count and SEQ one higher in the target's registers; a core without a task
for the source gives an orphan. A receive source without an eligible target takes the same way without a message (target 8), and the stamp
of every receive source is kept. COALESCE_TIMEOUT lets the time up to the end of the timer pass. Last, each command named answers a next
state for every state and operands. Clauses that rest on the model's own readings: assumption log 8, 15, 46, 52. (R340, R342, R343, R345,
R346, R347, R349, R216, R341.) -/
def Obligations.InterruptDelivery : Prop :=
  (∀ (s : State) (n : Source),
    let k := n.toNat
    let up := fun (j : Nat) => if s.f (F.IRQ_CFG_EN j) = 1 then min 255 (s.f (F.IRQ_COAL_PCNT j) + 1) else s.f (F.IRQ_COAL_PCNT j)
    (s.sourceExists k = false → exec (.sourceAssert n) s = .next s) ∧
    (s.sourceExists k = true → ∃ t, exec (.sourceAssert n) s = .next t ∧ t.f (F.IRQ_COAL_PCNT k) = up k ∧
      (s.f (F.IRQ_CFG_EN k) = 1 → s.f (F.IRQ_COAL_PCNT k) = 0 → tget 0 t.irq.timer k = 0) ∧
      (s.f (F.IRQ_CFG_EN k) = 0 → t.irq = s.irq) ∧
      (∀ d, d ∈ s.detectorsOf 2 k → t.bit (R.SHD_PEND 0) d = true) ∧ t.mem = s.mem ∧
      (∀ a, blockOf a ≠ 7 → a ≠ R.IRQ_COAL k → t.reg a = s.reg a) ∧ ({ t with regs := s.regs, irq := s.irq, shd := s.shd } : State) = s) ∧
    (∀ u : State, 0 < s.f (F.IRQ_COAL_PCNT k) → 0 < s.f (F.IRQ_COAL_TIME k) →
      let due := s.comesAt (500 * s.f (F.IRQ_COAL_TIME k) - tget 0 s.irq.timer k)
      (due = none → exec (.coalesceTimeout n) s = .next s) ∧
      (due = some u → exec (.coalesceTimeout n) s = .next u ∧ (s.sys.inReset = false → u.srcReady k = true))) ∧
    (s.f (F.IRQ_COAL_PCNT k) = 0 ∨ s.f (F.IRQ_COAL_TIME k) = 0 → exec (.coalesceTimeout n) s = .next s) ∧
    (s.prg.swapping = true ∨ s.nextSource = none → exec .delivery s = .next s) ∧
    (∀ j t', s.prg.swapping = false → s.nextSource = some j → s.target j = some t' → j < 256 → t' < 8 → ∃ t, exec .delivery s = .next t ∧
      t.irq.inFlight = s.irq.inFlight ++ [⟨j, t', s.f (F.IRQ_COAL_PCNT j), (s.irq.awaiting.filter (·.1 = j)).map (·.2), if j = 193 then s.irq.partnerSrc else j⟩] ∧
      t.f (F.IRQ_COAL_PCNT j) = 0 ∧ t.f F.IRQ_STATUS_RR = t' ∧ tget? t.irq.timer j = none ∧
      ({ s with irq := t.irq } : State).regsOnly t [R.IRQ_COAL j, R.IRQ_STATUS]) ∧
    (s.irq.inFlight = [] → exec .deliveryCommit s = .next s) ∧
    (∀ d l, s.irq.inFlight = d :: l → d.tgt < 8 → ∃ u : State,
      (exec .deliveryCommit s = .next u ∨ exec .deliveryCommit s = .next u.sched) ∧ u.irq.inFlight = l ∧
      u.reg64 (R.IRQ_STMLO d.tgt) = (s.base 0).sec % 2 ^ 64 ∧ u.f (F.IRQ_STMFR_FRAC d.tgt) = (s.base 0).frac % 2 ^ 32 ∧
      u.reg64 (R.IRQ_STTLO d.tgt) = (s.base 1).sec % 2 ^ 64 ∧ u.f (F.IRQ_STTFR_FRAC d.tgt) = (s.base 1).frac % 2 ^ 32 ∧
      u.f (F.IRQ_STSRC_COUNT d.tgt) = d.count % 256 ∧
      u.f (F.IRQ_STSRC_SEQ d.tgt) = (s.f (F.IRQ_STSRC_SEQ d.tgt) + 1) % 2 ^ ((F.IRQ_STSRC_SEQ 0).hi + 1 - (F.IRQ_STSRC_SEQ 0).lo) ∧
      u.f (F.IRQ_STSRC_SRC d.tgt) = d.orig % 256 ∧
      u.f F.IRQ_STATUS_LAST_SRC = d.src % 256 ∧ u.f F.IRQ_STATUS_LAST_TGT = d.tgt ∧
      (d.tgt < 6 → s.tasksFor d.tgt d.src = [] → u.f F.IRQ_STATUS_ORPH = 1) ∧ (d.tgt = 7 → u.irq.frameLast = some d.src) ∧
      (∀ a, d.stamps = [a] → mramBase + 0x3000000 ≤ a → u.rd a 8 = (s.base 0).form)) ∧
    (∀ d l, s.irq.inFlight = d :: l → recvSource d.src = true → ∃ t, exec .deliveryCommit s = .next t ∧
      tget? t.irq.stamp d.src = some (s.base 0, s.base 1)) ∧
    (∀ d l, s.irq.inFlight = d :: l → d.tgt = 8 → ∃ t, exec .deliveryCommit s = .next t ∧ t.irq.inFlight = l ∧
      ({ t with mem := s.mem, irq := s.irq } : State) = s ∧ ∀ b, (∀ a ∈ d.stamps, outside a 8 b) → t.byte b = s.byte b) ∧
    (recvSource k = true → s.srcReady k = true → s.srcMasked k = false → s.target k = none → s.prg.swapping = false →
      ∃ t, exec (.stampOnlyDelivery n) s = .next t ∧ t.f (F.IRQ_COAL_PCNT k) = 0 ∧ tget? t.irq.timer k = none ∧
      t.irq.inFlight = s.irq.inFlight ++ [⟨k, 8, s.f (F.IRQ_COAL_PCNT k), (s.irq.awaiting.filter (·.1 = k)).map (·.2), if k = 193 then s.irq.partnerSrc else k⟩] ∧
      (∀ e ∈ t.irq.awaiting, e.1 ≠ k) ∧ (∀ a, a ≠ R.IRQ_COAL k → t.reg a = s.reg a)) ∧
    (recvSource k = false ∨ s.srcReady k = false ∨ s.srcMasked k = true ∨ s.target k ≠ none ∨ s.prg.swapping = true → exec (.stampOnlyDelivery n) s = .next s)) ∧
  (∀ s : State,
    (exec .delivery s = .next s.deliver) ∧
    (exec .deliveryCommit s = .next s.commitDelivery) ∧
    (∀ (n : Source), exec (.coalesceTimeout n) s = .next (s.coalesced n.toNat)) ∧
    (∀ (n : Source), exec (.sourceAssert n) s = .next (s.assertSrc n.toNat)) ∧
    (∀ (n : Source), exec (.stampOnlyDelivery n) s = .next (s.stampOnly n.toNat)))

/-- A mask write races each delivery already begun from a source it masks; a mask read ends only when no delivery of its word is in flight;
clearing pending counts touches no other setting; each set bit of the software register asserts its source; an always-on latch enters the
count of an enabled source as one edge once the module is out of reset; the partner's interrupt frame asserts source 193 with the
partner's number; the counter clear clears the orphan count; unmasking a vector sends the message it held. Last, each command named
answers a next state for every state and operands. Clauses that rest on the model's own readings: assumption log 8, 46. (R339, R348, R352,
R353, R354, R428.) -/
def Obligations.InterruptControls : Prop :=
  (∀ (s : State) (n : Source) (m : Master) (i : Octet) (v : Word),
    let k := n.toNat
    let up := fun (j : Nat) => if s.f (F.IRQ_CFG_EN j) = 1 then min 255 (s.f (F.IRQ_COAL_PCNT j) + 1) else s.f (F.IRQ_COAL_PCNT j)
    (∃ t, exec (.maskWrite m i v) s = .next t ∧ t.reg (R.IRQ_MASK i.val) = s.plain (R.IRQ_MASK i.val) v ∧
      (∀ j, j < 256 → t.bit (R.IRQ_RACE 0) j =
        (s.bit (R.IRQ_RACE 0) j || (decide (j / 32 = i.val) && v.getLsbD (j % 32) && s.irq.inFlight.any (·.src = j)))) ∧
      t.irq = s.irq ∧ t.mem = s.mem) ∧
    ((∀ d ∈ s.irq.inFlight, d.src / 32 ≠ i.val) → exec (.maskRead m i) s = .next s) ∧
    (∃ t, exec (.maskRead m i) s = .next t ∧ ∀ d ∈ t.irq.inFlight, d.src / 32 ≠ i.val) ∧
    (∃ t, exec (.pendClear m i v) s = .next t ∧ (∀ j, j < 256 →
        t.f (F.IRQ_COAL_PCNT j) = if j / 32 = i.val ∧ v.getLsbD (j % 32) = true then 0 else s.f (F.IRQ_COAL_PCNT j)) ∧
      (∀ j, j < 256 → t.f (F.IRQ_COAL_COUNT j) = s.f (F.IRQ_COAL_COUNT j) ∧ t.f (F.IRQ_COAL_TIME j) = s.f (F.IRQ_COAL_TIME j)) ∧
      t.irq.inFlight = s.irq.inFlight ∧ t.mem = s.mem ∧ (∀ a, inArray a (R.IRQ_COAL 0) 8 256 = false → t.reg a = s.reg a)) ∧
    (∃ t, exec (.softwareSourceSet m v) s = .next t ∧ (∀ j, j < 256 → t.f (F.IRQ_COAL_PCNT j) =
        if 200 ≤ j ∧ j < 232 ∧ v.getLsbD (j - 200) = true then up j else s.f (F.IRQ_COAL_PCNT j)) ∧ s.logFrame t) ∧
    (s.sourceExists k = true → ∃ t, exec (.aonLatch n) s = .next t ∧ k ∈ t.irq.aon ∧ (∀ j, j ≠ k → (j ∈ t.irq.aon ↔ j ∈ s.irq.aon)) ∧
      ({ t with irq := { t.irq with aon := s.irq.aon } } : State) = s) ∧
    (s.sourceExists k = false → exec (.aonLatch n) s = .next s) ∧
    (k ∈ s.irq.aon → s.f (F.IRQ_CFG_EN k) = 1 → s.sourceExists k = true → s.clocked k = true → ∃ t, exec (.aonTransfer n) s = .next t ∧ k ∉ t.irq.aon ∧
      t.bit (R.IRQ_AON 0) k = true ∧ t.f (F.IRQ_COAL_PCNT k) = up k ∧ s.logFrame t) ∧
    (k ∉ s.irq.aon ∨ s.f (F.IRQ_CFG_EN k) = 0 ∨ s.clocked k = false → exec (.aonTransfer n) s = .next s) ∧
    (s.dark = false → ∃ t, exec (.interruptFrame n true) s = .next t ∧ t.irq.partnerSrc = k ∧ t.f (F.IRQ_COAL_PCNT 193) = up 193 ∧
      t.pair = { s.pair with frameTick := some s.tickNo } ∧
      ({ s with pair := t.pair } : State).logAnd t [R.PAIR_STATUS]) ∧
    (s.dark = false → exec (.interruptFrame n false) s = .next (s.linkFrame.count F.PAIR_LINK_CRC_ERR)) ∧
    (s.dark = true → ∀ ok, exec (.interruptFrame n ok) s = .next s) ∧
    (v.getLsbD 0 = true → ∃ t, exec (.irqCounterClear m v) s = .next t ∧ t.f F.IRQ_ORPHAN_COUNT = 0 ∧ s.regsOnly t [R.IRQ_ORPHAN]) ∧
    (v.getLsbD 0 = false → exec (.irqCounterClear m v) s = .next s) ∧
    (∃ t, exec (.msixUnmask n) s = .next t ∧ k ∈ t.irq.msixOpen ∧
      (k ∈ s.irq.msixHeld → t.irq.msixLast = some k ∧ k ∉ t.irq.msixHeld) ∧ (k ∉ s.irq.msixHeld → t.irq.msixLast = s.irq.msixLast) ∧
      ({ t with irq := s.irq } : State) = s)) ∧
  (∀ s : State,
    (∀ (n : Source), exec (.aonTransfer n) s = .next (s.aonTransfer n.toNat)) ∧
    (∀ (m : Master) (i : Octet) (v : Word), exec (.pendClear m i v) s = .next (s.pendClear i.val v)) ∧
    (∀ (m : Master) (i : Octet) (v : Word), exec (.maskWrite m i v) s = .next (s.maskWrite i.val v)) ∧
    (∀ (m : Master) (i : Octet), exec (.maskRead m i) s = .next (s.maskRead i.val)) ∧
    (∀ (m : Master) (v : Word), exec (.softwareSourceSet m v) s = .next (s.swSet v)) ∧
    (∀ (n : Source), exec (.aonLatch n) s = .next (s.aonLatch n.toNat)) ∧
    (∀ (n : Source) (crcOk : Bool), ∃ t, exec (.interruptFrame n crcOk) s = .next t) ∧
    (∀ (m : Master) (v : Word), exec (.irqCounterClear m v) s = .next (s.irqCtrlWrite v)) ∧
    (∀ (n : Source), exec (.msixUnmask n) s = .next (s.msixUnmask n.toNat)))

/-- Cycles that pass add the increment of every base, and no memory byte changes. An increment outside 122 ppm is clamped and recorded, one of
TICK is copied to a TICKLOCK master, and one for MONO or CIV ignored and recorded; a snapshot and a fraction read latch for their master
alone. A time solution that waits is taken once: in FREE it steps TAI by its error and locks it; in LOCKED and RECOVERING TAI is only
slewed, and locks within LOCK_TOL; after HOLDOVER, or HOSTSET beyond LOCK_TOL, whole seconds step at once, the fraction is not touched and
at most half a second is left to slew. In LOCKED with DISC_EN the increment is 2.0 and the clamped correction, with the average of the
last 60, and in RECOVERING the slew stays out of that average. HOLDOVER, 3 s after the last solution, keeps the average; SET_TAI and
REALIGN act only in their states and are recorded otherwise. Last, each command named answers a next state for every state and operands.
Clauses that rest on the model's own readings: assumption log 8, 47. (R355, R357, R358, R359, R360, R361, R362, R363, R364.) -/
def Obligations.TimeBasesAndDiscipline : Prop :=
  ((∀ (s : State) (n : Nat), s.sys.inReset = false → let t := s.elapse n
    (∀ b, b ≠ 2 → baseExists b = true → (t.base b).total = (s.base b).total + n * s.inc b) ∧
    t.tick.cycles = s.tick.cycles + (if s.tick.running then n else 0) ∧
    (s.tick.running = true → t.f F.TICK_PHASE_OFFSET = min 0xFFFF ((s.tick.cycles + n) / 500)) ∧ t.mem = s.mem ∧ t.pending = s.pending) ∧
  (∀ s₀ s : State, s₀.tai = .locked ∨ s₀.tai = .recovering →
    let due := s₀.comesAt (s₀.cyclesTo 0 (s₀.time.lastSol + 3 * nsPerSec))
    (due = none → exec .holdover s₀ = .next s₀) ∧
    (due = some s → ∃ t, exec .holdover s₀ = .next t ∧ t.tai = .holdover ∧ t.time.bases = s.time.bases ∧
      t.inc 1 = (if s.f F.TIME_CTRL_DISC_EN = 1 then (2 ^ 33 + s.yf).toNat % 2 ^ 64 else s.inc 1) ∧
      t.time.err0 = s.taiErr ∧ ({ s with time := t.time } : State).logAnd t [R.TIME_STATUS, R.TIME_INCLO 1, R.TIME_INCHI 1])) ∧
  ∀ (s : State) (m : Master),
    (∀ (b : Base) (v : Dword), baseExists b.val = false → exec (.incWrite m b v) s = .next s) ∧
    (∀ (b : Base) (v : Dword), b.val = 0 ∨ b.val = 2 → exec (.incWrite m b v) s =
      .next (s.recordWrite m (R.TIME_INCHI b.val) (BitVec.ofNat 32 (v.toNat / 2 ^ 32)))) ∧
    (∀ (b : Base) (v : Dword), baseExists b.val = true → b.val ≠ 0 → b.val ≠ 2 → ∃ t, exec (.incWrite m b v) s = .next t ∧
      let copies := if b.val = 3 then (List.range 8).filter (fun k => s.f (F.CAN_CTRL_EN k) = 1 ∧ s.f (F.CAN_TT_TICKLOCK k) = 1 ∧
        (s.f (F.CAN_TT_ROLE k) = 1 ∨ s.f (F.CAN_TT_ROLE k) = 3)) else []
      let l := (b.val :: copies.map (8 + ·)).flatMap fun j => [R.TIME_INCLO j, R.TIME_INCHI j]
      t.inc b.val = max 0x1FFF00000 (min 0x200100000 v.toNat) ∧ (∀ k ∈ copies, t.inc (8 + k) = t.inc 3) ∧ s.logAnd t l ∧
      (0x1FFF00000 ≤ v.toNat → v.toNat ≤ 0x200100000 → s.regsOnly t l)) ∧
    (∀ v, ∃ t, exec (.timeSnap m v) s = .next t ∧ (∀ b, b < 16 → v.getLsbD b = true → baseExists b = true →
        t.mreg m (R.TIME_SNFR b) = BitVec.ofNat 32 (s.base b).frac ∧ t.mreg m (R.TIME_SNLO b) = BitVec.ofNat 32 (s.base b).sec ∧
        t.mreg m (R.TIME_SNHI b) = BitVec.ofNat 32 ((s.base b).sec / 2 ^ 32)) ∧
      (∀ k a, k ≠ m → a < 2 ^ 40 → t.mreg k a = s.mreg k a) ∧ ({ t with mregs := s.mregs } : State) = s) ∧
    (∀ b : Base, baseExists b.val = true → ∃ t, exec (.fracRead m b) s = .next t ∧
      tget? t.latches (mkey m (R.TIME_SECLO b.val)) = some (BitVec.ofNat 32 (s.base b.val).sec) ∧
      tget? t.latches (mkey m (R.TIME_SECHI b.val)) = some (BitVec.ofNat 32 ((s.base b.val).sec / 2 ^ 32)) ∧
      ({ t with latches := s.latches } : State) = s) ∧
    (∀ sec : Dword, s.gnss.timeSol = none ∨ s.gnss.solSec ≠ some sec.toNat → exec (.phaseError sec) s = .next s) ∧
    (∀ (e : Int) (v : BaseVal) (sec : Dword), s.gnss.timeSol = some e → s.gnss.solSec = some sec.toNat → s.tai = .hostset → s.time.hostSet = some ((s.base 0).total, v) →
      ∃ t, exec (.phaseError sec) s = .next t ∧ t.tai = .locked ∧ t.base 1 = v.shift e ∧ t.gnss.timeSol = none) ∧
    (∀ (e : Int) (sec : Dword), s.gnss.timeSol = some e → s.gnss.solSec = some sec.toNat → (∀ h, s.time.hostSet = some h → h.1 ≠ (s.base 0).total) → ∃ t, exec (.phaseError sec) s = .next t ∧
      t.gnss = { s.gnss with timeSol := none } ∧ (∀ b, b ≠ 1 → b ≠ 2 → t.base b = s.base b) ∧
      (s.tai = .free → t.tai = .locked ∧ t.base 1 = (s.base 1).shift e ∧ t.time.f = 0) ∧
      (s.tai = .locked → t.tai = .locked ∧ t.base 1 = s.base 1 ∧ t.time.f = e) ∧
      (s.tai = .recovering → t.base 1 = s.base 1 ∧ t.time.f = e ∧ t.tai = (if (e.natAbs : Int) ≤ s.lockTol then .locked else .recovering)) ∧
      (s.tai = .hostset → (e.natAbs : Int) ≤ s.lockTol → t.tai = .locked ∧ t.base 1 = s.base 1 ∧ t.time.f = e) ∧
      (s.tai = .holdover ∨ s.tai = .hostset ∧ ¬ (e.natAbs : Int) ≤ s.lockTol → t.tai = .recovering ∧ (t.base 1).ns = (s.base 1).ns ∧
        ∃ k : Int, (t.base 1).sec = (if k = 0 then (s.base 1).sec else (((s.base 1).sec : Int) + k).toNat) ∧
          t.time.f = e - k * nsPerSec ∧ 2 * t.time.f.natAbs ≤ nsPerSec) ∧
      (s.tai = .locked → s.f F.TIME_CTRL_DISC_EN = 1 →
        let lim : Int := s.slewMax
        let den : Int := (s.discTc : Int) * 2 ^ 32
        let corr := s.yf + divNearest (2 ^ 33 * max (-lim * den) (min (lim * den) e)) (den * 1000000000)
        t.inc 1 = (2 ^ 33 + corr).toNat % 2 ^ 64 ∧ t.time.corr = (corr :: s.time.corr).take 60) ∧
      (s.tai = .recovering → s.f F.TIME_CTRL_DISC_EN = 1 → ¬ (e.natAbs : Int) ≤ s.lockTol → t.time.corr = s.time.corr ∧
        let lim : Int := s.slewMax
        let den : Int := (s.discTc : Int) * 2 ^ 32
        t.inc 1 = (2 ^ 33 + (s.yf + divNearest (2 ^ 33 * max (-lim * den) (min (lim * den) e)) (den * 1000000000))).toNat % 2 ^ 64) ∧
      (s.f F.TIME_CTRL_DISC_EN = 0 → t.inc 1 = s.inc 1)) ∧
    (s.tai ≠ .locked → s.tai ≠ .recovering → exec .holdover s = .next s) ∧
    (s.tai = .free → ∃ t, exec (.setTai m) s = .next t ∧ t.tai = .hostset ∧ t.time.err0 = (s.reg R.TIME_SET_ERR).toNat ∧
      t.base 1 = ⟨s.reg64 R.TIME_SET_SECLO, (s.reg R.TIME_SET_FRAC).toNat * 1000000000⟩ ∧
      ({ s with time := t.time, aon := t.aon } : State).regsOnly t [R.TIME_STATUS, R.TIME_OFFSET]) ∧
    (s.tai ≠ .free → exec (.setTai m) s = .next (s.event 0x0A0A [])) ∧
    (s.f F.TIME_CTRL_BEACON_EN = 0 → s.tai = .recovering → ∃ t, exec (.realign m) s = .next t ∧ t.tai = .locked ∧
      t.base 1 = (s.base 1).shift s.time.f ∧ t.time.f = 0) ∧
    (s.f F.TIME_CTRL_BEACON_EN = 1 ∨ s.tai ≠ .recovering → exec (.realign m) s = .next (s.event 0x0A0A [])) ∧
    (s.f F.TIME_STATUS_CIV_VALID = 1 → exec .calendarUpdate s = .next { s with aon := { s.aon with calValid := true, cal := s.base 2 } }) ∧
    (s.f F.TIME_STATUS_CIV_VALID = 0 → exec .calendarUpdate s = .next s)) ∧
  (∀ s : State,
    (∀ (sec : Dword), exec (.phaseError sec) s = .next (s.takePhase sec.toNat)) ∧
    (∀ (m : Master), exec (.realign m) s = .next s.realign) ∧
    (∀ (m : Master), exec (.setTai m) s = .next s.setTai) ∧
    (∀ (m : Master) (b : Base) (v : Dword), exec (.incWrite m b v) s = .next (s.incWrite m b v.toNat)) ∧
    (∀ (m : Master) (v : Word), exec (.timeSnap m v) s = .next (s.timeSnap m v)) ∧
    (∀ (m : Master) (b : Base), exec (.fracRead m b) s = .next (s.fracRead m b)) ∧
    (exec .holdover s = .next s.enterHoldover) ∧
    (∃ t, exec .calendarUpdate s = .next t))

/-- A write of LEAPOFF commits its entry with the second its words hold; an announcement under LEAP_GNSS replaces the entry of the same second
or takes the lowest free one, and no other entry changes. At a leap second the entry with the largest second passed gives OFFSET, and CIV
is valid unless TAI is FREE. BEACON raises its pin and its source at a whole TAI second, only with TAI valid and BEACON_EN, and the pulse
ends WIDTH ms later. A lost external reference puts a module that uses it on its TCXO, with ERR 50 ns higher in holdover, and a return
acts only where the strap and the reference allow it. Last, each command named answers a next state for every state and operands. Clauses
that rest on the model's own readings: assumption log 8, 47. (R361, R364, R365, R366, R367, R386, R476, R477.) -/
def Obligations.LeapSecondsBeaconReference : Prop :=
  ((∀ s₀ s : State, s₀.tai ≠ .free → s₀.f F.TIME_CTRL_BEACON_EN = 1 →
    (s₀.comesAt s₀.toWholeSecond = none → exec .beacon s₀ = .next s₀) ∧
    (s₀.comesAt s₀.toWholeSecond = some s → ∃ t, exec .beacon s₀ = .next t ∧ t.pins = { s.pins with beacon := true } ∧
      t.time = { s.time with beaconEnd := (s.base 0).total + min 500 (max 1 (s.f F.TIME_BEACON_WIDTH)) * (1000000 * 2 ^ 32) } ∧
      t.f (F.IRQ_COAL_PCNT 112) = (if s.f (F.IRQ_CFG_EN 112) = 1 then min 255 (s.f (F.IRQ_COAL_PCNT 112) + 1) else s.f (F.IRQ_COAL_PCNT 112)) ∧
      ({ s with pins := t.pins, time := t.time } : State).logAnd t [])) ∧
  (∀ s₀ s : State, s₀.pins.beacon = true →
    (s₀.comesAt (s₀.cyclesTo 0 s₀.time.beaconEnd) = none → exec .beaconPulseEnd s₀ = .next s₀) ∧
    (s₀.comesAt (s₀.cyclesTo 0 s₀.time.beaconEnd) = some s → exec .beaconPulseEnd s₀ = .next { s with pins := { s.pins with beacon := false } })) ∧
  ∀ s : State,
    (∀ m (k : LeapEntry) v, ∃ t, exec (.leapEntryWrite m k v) s = .next t ∧ t.reg (R.TIME_LEAPOFF k.val) = v &&& 0x8000FFFF ∧
      tget? t.time.leap k.val = (if bitsOf v 31 31 = 1 then some ⟨s.reg64 (R.TIME_LEAPLO k.val), signedOf 16 (bitsOf v 15 0), false⟩ else none) ∧
      (∀ j, j ≠ k.val → tget? t.time.leap j = tget? s.time.leap j) ∧
      ({ s with time := t.time, aon := t.aon } : State).logAnd t [R.TIME_LEAPOFF k.val, R.TIME_LEAPLO k.val, R.TIME_LEAPHI k.val, R.TIME_OFFSET, R.TIME_STATUS]) ∧
    (∀ te off, s.f F.TIME_CTRL_LEAP_GNSS = 0 → exec (.leapAnnouncement te off) s = .next s) ∧
    (∀ te off j e, s.f F.TIME_CTRL_LEAP_GNSS = 1 → s.time.leap.find? (·.2.te = te) = some (j, e) → ∃ t, exec (.leapAnnouncement te off) s = .next t ∧
      tget? t.time.leap j = some ⟨te, off, true⟩ ∧ ∀ k, k ≠ j → tget? t.time.leap k = tget? s.time.leap k) ∧
    (∀ te off j, s.f F.TIME_CTRL_LEAP_GNSS = 1 → s.time.leap.find? (·.2.te = te) = none →
      (List.range 32).find? (fun k => (tget? s.time.leap k).isNone) = some j → ∃ t, exec (.leapAnnouncement te off) s = .next t ∧
      tget? t.time.leap j = some ⟨te, off, true⟩ ∧ ∀ k, k ≠ j → tget? t.time.leap k = tget? s.time.leap k) ∧
    (∃ t, exec .leapSecond s = .next t ∧ ({ s with aon := t.aon } : State).regsOnly t [R.TIME_OFFSET, R.TIME_STATUS] ∧
      (leapAt s.time.leap (s.base 1).sec = none → t.f F.TIME_OFFSET_OFF = 0 ∧ t.f F.TIME_STATUS_CIV_VALID = 0 ∧ t.aon = s.aon) ∧
      (∀ k e, leapAt s.time.leap (s.base 1).sec = some (k, e) → -32768 ≤ e.off → e.off < 32768 → t.fi F.TIME_OFFSET_OFF = e.off ∧
        t.f F.TIME_STATUS_CIV_VALID = (if s.tai = .free then 0 else 1) ∧ t.aon.lastOff = e.off)) ∧
    (s.tai = .free ∨ s.f F.TIME_CTRL_BEACON_EN = 0 → exec .beacon s = .next s) ∧
    (s.pins.beacon = false → exec .beaconPulseEnd s = .next s) ∧
    (s.f F.SYS_CLK_REF = 0 → ∃ t, exec .referenceSwitch s = .next t ∧ t.f F.SYS_CLK_EXT_OK = 0 ∧ s.regsOnly t [R.SYS_CLK]) ∧
    (s.f F.SYS_CLK_REF = 1 → ∃ t, exec .referenceSwitch s = .next t ∧ t.f F.SYS_CLK_EXT_OK = 0 ∧ t.f F.SYS_CLK_REF = 0 ∧ t.f F.TIME_STATUS_REF = 0 ∧
      t.f F.TIME_STATUS_REFSW = 1 ∧ (s.tai = .holdover → t.time.err0 = s.taiErr + 50) ∧
      ({ s with time := t.time } : State).logAnd t [R.SYS_CLK, R.TIME_STATUS]) ∧
    (∀ m v, s.f F.SYS_STRAP_REF_EXT = 1 → s.f F.SYS_CLK_EXT_OK = 1 → s.f F.SYS_CLK_REF = 0 → ∃ t, exec (.referenceReturn m v) s = .next t ∧
      t.f F.SYS_CLK_REF = 1 ∧ t.f F.TIME_STATUS_REF = 1 ∧ t.f F.TIME_STATUS_REFSW = 1 ∧
      ({ s with time := t.time } : State).logAnd t [R.SYS_CLK, R.TIME_STATUS]) ∧
    (∀ m v, s.f F.SYS_STRAP_REF_EXT = 1 → s.f F.SYS_CLK_EXT_OK = 1 → s.f F.SYS_CLK_REF = 1 → exec (.referenceReturn m v) s = .next s) ∧
    (∀ m v, s.f F.SYS_STRAP_REF_EXT = 0 ∨ s.f F.SYS_CLK_EXT_OK = 0 → ∃ t, exec (.referenceReturn m v) s = .next t ∧ s.logFrame t) ∧
    (∃ t, exec .crystalLost s = .next t ∧ t.aon = { s.aon with calValid := false } ∧ ({ s with aon := t.aon } : State).logAnd t []) ∧
    (∃ t, exec .extOkGained s = .next t ∧ t.f F.SYS_CLK_EXT_OK = 1 ∧ s.regsOnly t [R.SYS_CLK])) ∧
  (∀ s : State,
    (∀ (te : Nat) (off : Int), exec (.leapAnnouncement te off) s = .next (s.leapAnnounce te off)) ∧
    (exec .leapSecond s = .next s.refreshLeap) ∧
    (∀ (m : Master) (k : LeapEntry) (v : Word), exec (.leapEntryWrite m k v) s = .next (s.leapWrite k v)) ∧
    (∃ t, exec .beacon s = .next t) ∧
    (exec .beaconPulseEnd s = .next s.beaconStop) ∧
    (exec .referenceSwitch s = .next s.extLost) ∧
    (∀ (m : Master) (v : Word), exec (.referenceReturn m v) s = .next (s.refReturn m (withBits v 31 31 1))) ∧
    (exec .crystalLost s = .next ({ s with aon := { s.aon with calValid := false } }.event 0x0003 [])) ∧
    (exec .extOkGained s = .next (s.put F.SYS_CLK_EXT_OK 1)))

/-- A pass for a satellite that may not be searched does nothing; NC consecutive passes of a 1 ms segment are summed (4 segments for Galileo,
10 for BeiDou), and where one sum reaches THR the signal gets one of its chain's 128 channels or is counted as untracked. Band 2 follows a
locked band-1 channel with its code phase and its scaled Doppler, never for GLONASS; 200 ms below 25 dB-Hz lose the lock, 2 s of local
search without one free the channel, and 10 s without any lock start that chain again. An epoch writes its record at its slot with the
tick, the Strobe's TAI and the time uncertainty; an unsolved chain and a chain that is not there are not trusted. A check clears CLEAR_S
after its condition last held and not before. Last, each command named answers a next state for every state and operands. Clauses that
rest on the model's own readings: assumption log 8, 44. (R372, R373, R374, R375, R376, R378, R380, R383, R384.) -/
def Obligations.GnssChannelsAndEpochs : Prop :=
  ((∀ (s u : State) (c : Chain) (y : GnssSys) (sat : Sat) (b2 : Bool),
    let k := c.val
    let same := fun (x : Channel) => decide (x.chain = k ∧ x.sys = y ∧ x.sat = sat.toNat ∧ x.band2 = b2)
    (∀ x, s.gnss.channels.find? same = some x → x.low = none ∨ x.track = .searching → exec (.lossOfLock c y sat b2) s = .next s) ∧
    (∀ x low, s.gnss.channels.find? same = some x → x.low = some low → x.track = .locked →
      let due := s.comesAt (s.cyclesTo 0 (low + 200000 * usUnits))
      (due = none → exec (.lossOfLock c y sat b2) s = .next s) ∧
      (due = some u → ∃ t, exec (.lossOfLock c y sat b2) s = .next t ∧ t.gnss.channels = u.gnss.channels.map (fun x =>
          if same x then { x with track := Track.searching, lostAt := (u.base 0).total } else x) ∧
        ({ t.gnss with channels := u.gnss.channels, unlocked := u.gnss.unlocked } : GnssSt) = u.gnss ∧ u.gnssOnly t [R.GNSS_TRK 0, R.GNSS_TRK 1])) ∧
    (∀ x, s.gnss.channels.find? same = some x → x.track = .locked → exec (.localSearchEnd c y sat b2) s = .next s) ∧
    (∀ x, s.gnss.channels.find? same = some x → x.track = .searching →
      let due := s.comesAt (s.cyclesTo 0 (x.lostAt + 2 * nsPerSec))
      (due = none → exec (.localSearchEnd c y sat b2) s = .next s) ∧
      (due = some u → ∃ t, exec (.localSearchEnd c y sat b2) s = .next t ∧ (∀ x ∈ u.gnss.channels, same x = false → x ∈ t.gnss.channels) ∧
        (u.gnss.untracked = [] → t.gnss.channels = u.gnss.channels.filter (fun x => !same x)) ∧ u.gnssOnly t [R.GNSS_TRK 0, R.GNSS_TRK 1])) ∧
    (s.gnss.channels.find? same = none → exec (.lossOfLock c y sat b2) s = .next s ∧ exec (.localSearchEnd c y sat b2) s = .next s) ∧
    (s.chainRuns k = false ∨ tget? s.gnss.unlocked k = none → exec (.noLockRestart c) s = .next s) ∧
    (∀ since, tget? s.gnss.unlocked k = some since → s.chainRuns k = true →
      let due := s.comesAt (s.cyclesTo 0 (since + 10 * nsPerSec))
      (due = none → exec (.noLockRestart c) s = .next s) ∧
      (due = some u → ∃ t, exec (.noLockRestart c) s = .next t ∧ t.gnss.channels = u.gnss.channels.filter (·.chain ≠ k) ∧
        t.gnss.untracked = u.gnss.untracked.filter (·.chain ≠ k) ∧ (∀ a, t.gnss.acq = some a → a.chain ≠ k) ∧
        (k = 0 → t.gnss.startAt = (u.base 0).total ∧ t.f F.GNSS_TTFF_TTFF = 0xFFFFFFFF) ∧ t.f F.GNSS_STATUS_LAST_START = u.fastest)) ∧
    (∀ j : Check, let keys := (if j.val = 0 then [0, 6] else [j.val]).filterMap (tget? s.gnss.held)
      (keys = [] → u = s) → (∀ h l, keys = h :: l → s.comesAt (s.cyclesTo 0 (l.foldl min h + s.clearTime)) = some u) →
      ∃ t, exec (.checkClear j) s = .next t ∧ (∀ i, i ≠ j.val → t.checkOn i = u.checkOn i ∨ 6 ≤ i) ∧
        (∀ h, tget? u.gnss.held j.val = some h → j.val ≠ 0 → h + u.clearTime ≤ (u.base 0).total → t.checkOn j.val = false ∧ tget? t.gnss.held j.val = none) ∧
        u.gnssOnly t [R.GNSS_CHK]) ∧
    (∀ (j : Check) h l, (if j.val = 0 then [0, 6] else [j.val]).filterMap (tget? s.gnss.held) = h :: l →
      s.comesAt (s.cyclesTo 0 (l.foldl min h + s.clearTime)) = none → exec (.checkClear j) s = .next s)) ∧
  ∀ (s : State) (c : Chain) (y : GnssSys) (sat : Sat),
    let k := c.val
    let n := sat.toNat
    (∀ out elev, s.chainRuns k = false ∨ s.sysOn y = false ∨ elev < s.elevMask → exec (.acquisitionPass c y sat out elev) s = .next s) ∧
    (∀ out elev, s.chainRuns k = true → s.sysOn y = true → s.elevMask ≤ elev →
      let new : Acq := ⟨k, y, n, 0, [], false⟩
      let a := match s.gnss.acq with | some a => if a.chain = k ∧ a.sys = y ∧ a.sat = n then a else new | none => new
      let nc := min 20 (max 1 (s.f F.GNSS_ACQ_NC))
      let need := (match y with | GnssSys.galileo => 4 | GnssSys.beidou => 10 | _ => 1) * nc
      let outs := a.outs ++ [out]
      let hit := a.hit || (decide (nc ≤ outs.length) && decide (s.f F.GNSS_ACQ_THR ≤ Config.acqCn0 outs))
      let room := ((s.others k y n false).filter (·.chain = k)).length < 128
      (a.passes + 1 < need → exec (.acquisitionPass c y sat out elev) s = .next { s with gnss := { s.gnss with
        acq := some { a with passes := a.passes + 1, outs := if nc ≤ outs.length then [] else outs, hit := hit } } }) ∧
      (need ≤ a.passes + 1 → hit = false →
        exec (.acquisitionPass c y sat out elev) s = .next { s with gnss := { s.gnss with acq := none } }) ∧
      (need ≤ a.passes + 1 → hit = true → ∃ t code dop, exec (.acquisitionPass c y sat out elev) s = .next t ∧
        let x : Channel := { chain := k, sys := y, sat := n, band2 := false, elev := elev, track := .locked, code := code, doppler := dop }
        ({ t.gnss with unlocked := s.gnss.unlocked } : GnssSt) = (if room then
          { s.gnss with acq := none, channels := s.others k y n false ++ [x], untracked := s.waits k y n false }
        else { s.gnss with acq := none, untracked := s.waits k y n false ++ [x] }) ∧
        (¬ room → t.f (F.GNSS_TRK_UNTRK k) = min 255 (((s.waits k y n false).filter (·.chain = k)).length + 1)) ∧
        ({ s with freeCtr := t.freeCtr } : State).gnssOnly t [R.GNSS_TRK 0, R.GNSS_TRK 1])) ∧
    (∀ x, s.gnss.channels.find? (sameSignal k y n false) = some x → s.chainRuns k = true → s.f F.GNSS_CTRL_B2_EN = 1 → y ≠ .glonass →
      x.track = .locked → ((s.others k y n true).filter (·.chain = k)).length < 128 → ∃ t, exec (.band2Handover c y sat) s = .next t ∧
        t.gnss.channels = s.others k y n true ++ [{ x with band2 := true, doppler := x.doppler * 117645 / 157542, carrier := 0, cn0 := 0, low := none }] ∧
        t.gnss.untracked = s.waits k y n true ∧ s.gnssOnly t [R.GNSS_TRK 0, R.GNSS_TRK 1]) ∧
    (s.gnss.channels.find? (sameSignal k y n false) = none ∨ s.chainRuns k = false ∨ s.f F.GNSS_CTRL_B2_EN = 0 ∨ y = .glonass → exec (.band2Handover c y sat) s = .next s) ∧
    (∀ m v, ∃ t, exec (.vrefArm m v) s = .next t ∧ t.f F.GNSS_VREF_HDG_HDG = bitsOf v 15 0 ∧ t.gnss = { s.gnss with armed := true } ∧
      s.gnssOnly t [R.GNSS_VREF_HDG]) ∧
    (s.gnssOn = false → ∀ e, exec (.epochRecordCommit e) s = .next s) ∧
    (∀ e, exec (.epochRecordCommit e) s = .next (s.epoch e)) ∧
    (s.gnssOn = true → ∀ e, ∃ t, exec (.epochRecordCommit e) s = .next t ∧ t.rd (0x30000000 + 0x200 * (s.tickNo % 2)) 8 = s.tickNo ∧
      t.rd (0x30000000 + 0x200 * (s.tickNo % 2) + 28) 4 = e.tunc.toNat ∧
      t.rd (0x30000000 + 0x200 * (s.tickNo % 2) + 16) 8 = s.gnss.epochTai.sec % 2 ^ 64 ∧
      (e.c0.solved = false → t.rd (0x30000000 + 0x200 * (s.tickNo % 2) + 8) 1 % 2 = 0 ∧ t.f F.GNSS_STATUS_FIX0 = 0) ∧
      (s.variant.gnss2 = false → t.rd (0x30000000 + 0x200 * (s.tickNo % 2) + 8) 1 / 2 % 2 = 0 ∧ t.f F.GNSS_STATUS_FIX1 = 0) ∧
      t.f F.GNSS_STATUS_SATS0 = min 255 ((s.heard e).sats 0) ∧
      (∀ b, b < mramBase → outside (0x30000000 + 0x200 * (s.tickNo % 2)) 512 b → outside 0x30001000 0x2000 b → t.byte b = s.byte b))) ∧
  (∀ s : State,
    (∀ (e : Epoch), exec (.epochRecordCommit e) s = .next (s.epoch e)) ∧
    (∀ (k : Check), exec (.checkClear k) s = .next (s.checkClear k.val)) ∧
    (∀ (c : Chain) (sys : GnssSys) (sat : Sat) (out : Nat) (elev : Nat), exec (.acquisitionPass c sys sat out elev) s = .next (s.acqPass c.val sys sat.toNat out elev)) ∧
    (∀ (c : Chain) (sys : GnssSys) (sat : Sat), exec (.band2Handover c sys sat) s = .next (s.band2 c.val sys sat.toNat)) ∧
    (∀ (c : Chain) (sys : GnssSys) (sat : Sat) (band2 : Bool), exec (.lossOfLock c sys sat band2) s = .next (s.loseLock c.val sys sat.toNat band2)) ∧
    (∀ (c : Chain) (sys : GnssSys) (sat : Sat) (band2 : Bool), exec (.localSearchEnd c sys sat band2) s = .next (s.endSearch c.val sys sat.toNat band2)) ∧
    (∀ (c : Chain), exec (.noLockRestart c) s = .next (s.noLock c.val)) ∧
    (∀ (m : Master) (v : Word), exec (.vrefArm m v) s = .next (s.vrefArm v)))

/-- While EN is 0 a start command has no effect. Else the chains acquire anew, TTFF runs, and LAST_START shows the kind: the fastest the kept
data allow for FASTEST and for a hot start without hot data, warm or cold for a warm start, and cold after clearing the kept data for a
cold start. Sleep releases channels and fixes and keeps the data; waking is the fastest start; a SLEEP or WAKE command of software stands
until the role changes; the first fix gives TTFF in ms of MONO; a standby sleeps only in its role, at the end of a Keep, wakes WAKE
seconds later, and after that wake sleeps only once it has fixed and refreshed. Last, each command named answers a next state for every
state and operands. Clauses that rest on the model's own readings: assumption log 8, 44, 65, 73. (R311, R387, R388, R389.) -/
def Obligations.GnssStartsAndSleep : Prop :=
  ((∀ s u : State, s.sleepRole = true → s.f F.GNSS_STATUS_SLEEP = 1 →
    let due := s.comesAt (s.cyclesTo 0 (s.gnss.sleepAt + s.wakePeriod * nsPerSec))
    (due = none → exec .gnssWakeTimer s = .next s) ∧
    (due = some u → ∃ t, exec .gnssWakeTimer s = .next t ∧ t.f F.GNSS_STATUS_SLEEP = 0 ∧ t.gnss.woken = true ∧
      t.f F.GNSS_STATUS_LAST_START = u.fastest)) ∧
  ∀ (s : State) (m : Master),
    let fresh := fun (t : State) (k : Nat) => (∀ x ∈ t.gnss.channels, x.chain ≠ 0 ∧ x.chain ≠ 1) ∧ (∀ a, t.gnss.acq = some a → a.chain ≠ 0 ∧ a.chain ≠ 1) ∧
      t.gnss.startAt = (s.base 0).total ∧ t.f F.GNSS_STATUS_SLEEP = 0 ∧ t.f F.GNSS_STATUS_FIX0 = 0 ∧ t.f F.GNSS_TTFF_TTFF = 0xFFFFFFFF ∧
      t.f F.GNSS_STATUS_LAST_START = k
    (s.f F.GNSS_CTRL_EN = 0 → exec (.fastestStart m) s = .next s ∧ exec (.hotStart m) s = .next s ∧ exec (.warmStart m) s = .next s ∧
      exec (.coldStart m) s = .next s) ∧
    (s.f F.GNSS_CTRL_EN = 1 →
      (∃ t, exec (.fastestStart m) s = .next t ∧ fresh t (if s.hotOk then 1 else if s.warmOk then 2 else 3) ∧ t.gnss.eph = s.gnss.eph) ∧
      (∃ t, exec (.hotStart m) s = .next t ∧ fresh t (if s.hotOk then 1 else if s.warmOk then 2 else 3) ∧ t.gnss.eph = s.gnss.eph) ∧
      (∃ t, exec (.warmStart m) s = .next t ∧ fresh t (if s.hotOk || s.warmOk then 2 else 3) ∧ t.gnss.eph = s.gnss.eph) ∧
      (∃ t, exec (.coldStart m) s = .next t ∧ fresh t 3 ∧ t.gnss.eph = [] ∧ t.gnss.almanac = [] ∧ t.gnss.position = none ∧
        t.gnss.place = [] ∧ t.gnss.drift = none ∧ t.gnss.elevs = [] ∧ t.gnss.glonass = [] ∧ t.hotOk = false)) ∧
    (s.f F.GNSS_STATUS_SLEEP = 1 → exec (.gnssSleepCmd m) s = .next { s with gnss := { s.gnss with manual := true } }) ∧
    (s.f F.GNSS_STATUS_SLEEP = 0 → ∃ t, exec (.gnssSleepCmd m) s = .next t ∧ t.f F.GNSS_STATUS_SLEEP = 1 ∧ t.gnss.manual = true ∧ t.gnss.channels = [] ∧ t.gnss.acq = none ∧
      t.f F.GNSS_STATUS_FIX0 = 0 ∧ t.f F.GNSS_STATUS_FIX1 = 0 ∧ t.f F.GNSS_STATUS_HFIX = 0 ∧ t.f F.GNSS_STATUS_SATS0 = 0 ∧ t.f F.GNSS_STATUS_SATS1 = 0 ∧
      t.gnss.eph = s.gnss.eph ∧ t.gnss.almanac = s.gnss.almanac ∧ t.gnss.position = s.gnss.position ∧ t.gnss.sleepAt = (s.base 0).total ∧
      ({ s with gnss := t.gnss } : State).logAnd t [R.GNSS_STATUS, R.GNSS_TRK 0, R.GNSS_TRK 1]) ∧
    (s.f F.GNSS_STATUS_SLEEP = 0 → exec (.gnssWakeCmd m) s = .next { s with gnss := { s.gnss with manual := true } }) ∧
    (s.f F.GNSS_STATUS_SLEEP = 1 → ∃ t, exec (.gnssWakeCmd m) s = .next t ∧ t.gnss.manual = true ∧ fresh t s.fastest) ∧
    (s.f F.GNSS_STATUS_FIX0 = 1 → s.f F.GNSS_TTFF_TTFF = 0xFFFFFFFF → ∃ t, exec .firstFix s = .next t ∧
      t.f F.GNSS_TTFF_TTFF = ((s.base 0).total - s.gnss.startAt) / (1000000 * 2 ^ 32) % 2 ^ 32 ∧ s.logAnd t [R.GNSS_TTFF]) ∧
    (s.f F.GNSS_STATUS_FIX0 = 0 ∨ s.f F.GNSS_TTFF_TTFF ≠ 0xFFFFFFFF → exec .firstFix s = .next s) ∧
    (s.sleepRole = false → exec .gnssSleep s = .next s ∧ exec .gnssWakeTimer s = .next s) ∧
    (s.f F.GNSS_STATUS_SLEEP = 1 → exec .gnssSleep s = .next s) ∧ (s.f F.GNSS_STATUS_SLEEP = 0 → exec .gnssWakeTimer s = .next s) ∧
    (s.sleepRole = true → s.f F.GNSS_STATUS_SLEEP = 0 → s.gnss.woken = false → s.f F.TICK_PHASE_PHASE = 5 →
      ∃ t, exec .gnssSleep s = .next t ∧ t.f F.GNSS_STATUS_SLEEP = 1) ∧
    (s.sleepRole = true → s.f F.GNSS_STATUS_SLEEP = 0 → s.gnss.woken = false → s.f F.TICK_PHASE_PHASE ≠ 5 → exec .gnssSleep s = .next s) ∧
    (s.sleepRole = true → s.f F.GNSS_STATUS_SLEEP = 0 → s.gnss.woken = true → s.refreshed = true → s.f F.GNSS_TTFF_TTFF ≠ 0xFFFFFFFF →
      ∃ t, exec .gnssSleep s = .next t ∧ t.f F.GNSS_STATUS_SLEEP = 1) ∧
    (s.sleepRole = true → s.gnss.woken = true → s.refreshed = false ∨ s.f F.GNSS_TTFF_TTFF = 0xFFFFFFFF → exec .gnssSleep s = .next s)) ∧
  (∀ s : State,
    (∀ (m : Master), exec (.fastestStart m) s = .next (s.gnssCmdWrite m (gnssCmd 1))) ∧
    (∀ (m : Master), exec (.hotStart m) s = .next (s.gnssCmdWrite m (gnssCmd 2))) ∧
    (∀ (m : Master), exec (.warmStart m) s = .next (s.gnssCmdWrite m (gnssCmd 3))) ∧
    (∀ (m : Master), exec (.coldStart m) s = .next (s.gnssCmdWrite m (gnssCmd 4))) ∧
    (∀ (m : Master), exec (.gnssSleepCmd m) s = .next (s.gnssCmdWrite m (gnssCmd 5))) ∧
    (∀ (m : Master), exec (.gnssWakeCmd m) s = .next (s.gnssCmdWrite m (gnssCmd 6))) ∧
    (exec .firstFix s = .next s.firstFix) ∧
    (exec .gnssSleep s = .next s.roleSleep) ∧
    (exec .gnssWakeTimer s = .next s.roleWake))

/-- A power-fail indication drops the claim and the command pins, ends all work and starts Afterglow, once. A reset leaves the roles, the
power-cycle count, a trial and the checkpoint generations, MRAM and the always-on island; every other register holds its reset value; the
memories outside MRAM and MONO are lost with VDD_CORE only (the readings of assumption log 43). The release shows causes and straps, with
the pair strap in PAIR_STATUS.POS too, and begins the load at power-up; PLL lock starts the sequencer and TICK at 0; the reset output is
released 1 ms after the release. The hold-up voltage and the temperature are taken every 1 ms and set their flags; EXTEST, CLAMP and HIGHZ
act only in Stop without a claim and are BYPASS otherwise, recorded. Last, each command named answers a next state for every state and
operands. Clauses that rest on the model's own readings: assumption log 2, 8, 41, 48, 49, 65. (R463, R468, R469, R470, R472, R473, R474,
R479, R480, R327, R329.) -/
def Obligations.PowerResetAndJtag : Prop :=
  ((∀ s₀ s : State,
    (s₀.sys.inReset = false → s₀.comesAt (s₀.cyclesTo 0 (s₀.sys.releasedAt + msUnits)) = none → exec .rstOutRelease s₀ = .next s₀) ∧
    (s₀.sys.inReset = false → s₀.comesAt (s₀.cyclesTo 0 (s₀.sys.releasedAt + msUnits)) = some s →
      exec .rstOutRelease s₀ = .next { s with pins := { s.pins with rstOut := true, phyRst := true } }) ∧
    (∀ v : BitVec 8, s₀.comesAt (s₀.cyclesTo 0 (s₀.sys.holdAt + msUnits)) = none → exec (.holdVUpdate v) s₀ = .next s₀) ∧
    (∀ v : BitVec 8, s₀.comesAt (s₀.cyclesTo 0 (s₀.sys.holdAt + msUnits)) = some s → ∃ t, exec (.holdVUpdate v) s₀ = .next t ∧
      t.f F.SYS_PWR_HOLD_V = v.toNat ∧ t.f F.SYS_PWR_HOLD_LOW = (if v.toNat < 105 then 1 else 0) ∧
      t.sys = { s.sys with holdAt := (s.base 0).total } ∧ ({ s with sys := t.sys } : State).logAnd t [R.SYS_PWR]) ∧
    (∀ v : Half, s₀.comesAt (s₀.cyclesTo 0 (s₀.sys.tjAt + msUnits)) = none → exec (.tjUpdate v) s₀ = .next s₀) ∧
    (∀ v : Half, s₀.comesAt (s₀.cyclesTo 0 (s₀.sys.tjAt + msUnits)) = some s → ∃ t, exec (.tjUpdate v) s₀ = .next t ∧
      t.fi F.SYS_TEMP_TJ = v.toInt ∧ t.f F.SYS_TEMP_HOT = (if 1200 < v.toInt then 1 else s.f F.SYS_TEMP_HOT) ∧
      t.sys = { s.sys with tjAt := (s.base 0).total } ∧ ({ s with sys := t.sys } : State).logAnd t [R.SYS_TEMP] ∧
      (v.toInt ≤ 1200 → ({ s with sys := t.sys } : State).regsOnly t [R.SYS_TEMP]))) ∧
  ∀ s : State,
    (∀ pin rails, s.sys.inReset = true ∨ s.f F.REC_STATUS_AFTERGLOW = 1 → exec (.powerFailIndication pin rails) s = .next s) ∧
    (∀ pin rails, s.sys.inReset = false → s.f F.REC_STATUS_AFTERGLOW = 0 → ∃ t, exec (.powerFailIndication pin rails) s = .next t ∧
      t.f F.REC_STATUS_AFTERGLOW = 1 ∧ t.f F.SYS_PWR_PF_PIN = (if pin then 1 else 0) ∧ t.f F.SYS_PWR_RAIL_OK = rails.toNat ∧
      t.f F.PAIR_STATUS_CLAIM = 0 ∧ t.f F.PAIR_STATUS_OWNED = 0 ∧ t.f F.LOOP_STATUS_OWNED = 0 ∧ t.azs.batch = [] ∧ t.azs.staged = [] ∧
      t.prg.writing = none ∧ t.cml.fbCore = none ∧ t.gnss.channels = [] ∧ t.pair.paired = false) ∧
    (s.f F.REC_STATUS_AFTERGLOW = 0 ∨ s.recorder.closed = false ∨ s.f F.LAN_STATUS_STATE = 4 → exec .resetEntry s = .next s) ∧
    (s.f F.REC_STATUS_AFTERGLOW = 1 → s.recorder.closed = true → s.f F.LAN_STATUS_STATE ≠ 4 →
      ∃ t, exec .resetEntry s = .next t ∧ s.inResetAs t 0xA true) ∧
    (s.f F.REC_STATUS_AFTERGLOW = 0 → exec .converterStop s = .next s) ∧
    (s.f F.REC_STATUS_AFTERGLOW = 1 → ∃ t, exec .converterStop s = .next t ∧ s.inResetAs t 2 true) ∧
    (s.sys.inReset = true → exec .pinReset s = .next { s with sys := { s.sys with causes := s.sys.causes ||| 4 } }) ∧
    (s.sys.inReset = false → ∃ t, exec .pinReset s = .next t ∧ s.inResetAs t 4 false) ∧
    (s.sys.inReset = false → ∀ x, exec (.resetRelease x) s = .next s) ∧
    (s.sys.inReset = true → ∀ x, ∃ t, exec (.resetRelease x) s = .next t ∧ t.sys = { s.sys with inReset := false, coreOn := true, causes := 0, releasedAt := (s.base 0).total } ∧
      t.reg R.SYS_RESET = s.sys.causes ∧ t.f F.SYS_STRAP_PAIR_POS = (if x.pairPos then 1 else 0) ∧ t.f F.PAIR_STATUS_POS = (if x.pairPos then 0 else 1) ∧
      t.f F.SYS_STRAP_REF_EXT = (if x.refExt then 1 else 0) ∧ t.f F.SYS_STRAP_BOOT_STOP = (if x.bootStop then 1 else 0) ∧
      t.f F.SYS_CLK_EXT_OK = (if x.extPresent then 1 else 0) ∧ t.f F.SYS_CLK_REF = (if x.refExt && x.extPresent then 1 else 0) ∧
      t.prg.loading = some .boot) ∧
    (s.sys.inReset = true ∨ s.tick.running = true → exec .pllLock s = .next s) ∧
    (s.sys.inReset = false → s.tick.running = false → ∃ t, exec .pllLock s = .next t ∧ t.tick.running = true ∧ t.f F.SYS_CLK_PLL_LOCK = 1 ∧
      t.base 3 = {}) ∧
    (s.sys.inReset = true → exec .rstOutRelease s = .next s) ∧
    (∃ t, exec .aonLoss s = .next t ∧ t.reg R.REC_PCYC = 0 ∧ t.aon = {} ∧ t.irq = { s.irq with aon := [] } ∧ t.sys.causes = s.sys.causes ||| 0x10 ∧
      t.gnss = { s.gnss with eph := [], almanac := [], position := none, place := [], drift := none, elevs := [], glonass := [] } ∧
      ({ s with aon := t.aon, irq := t.irq, gnss := t.gnss, sys := t.sys } : State).regsOnly t [R.REC_PCYC]) ∧
    exec .bypass s = .next { s with sys := { s.sys with jtag := .bypass } } ∧
    exec .samplePreload s = .next { s with sys := { s.sys with jtag := .samplePreload } } ∧
    exec .dbgacc s = .next { s with sys := { s.sys with jtag := .dbgacc } } ∧
    (∃ t, exec .idcode s = .next t ∧ t.sys = { s.sys with jtag := .idcode, tdr := t.sys.tdr } ∧ ({ t with sys := s.sys } : State) = s ∧
      t.sys.tdr = BitVec.ofNat 32 (s.variant.dieStep % 16 * 0x10000000 + 0x096004C7)) ∧
    (∀ p ∈ [(Instr.extest, Jtag.extest), (.clamp, .clamp), (.highz, .highz)],
      (s.mode = .stop → s.f F.PAIR_STATUS_CLAIM = 0 → exec p.1 s = .next { s with sys := { s.sys with jtag := p.2 } }) ∧
      (s.mode ≠ .stop ∨ s.f F.PAIR_STATUS_CLAIM = 1 → ∃ t, exec p.1 s = .next t ∧ t.sys.jtag = .bypass ∧ ({ s with sys := t.sys } : State).logAnd t []))) ∧
  (∀ s : State,
    (∀ (pin : Bool) (rails : BitVec 4), exec (.powerFailIndication pin rails) s = .next (s.powerFail pin rails)) ∧
    (∀ (straps : Straps), exec (.resetRelease straps) s = .next (s.release_ straps)) ∧
    (exec .resetEntry s = .next s.resetEntry) ∧
    (exec .pinReset s = .next s.pinReset) ∧
    (exec .pllLock s = .next s.pllLock) ∧
    (exec .rstOutRelease s = .next s.rstOut) ∧
    (exec .aonLoss s = .next s.aonLoss) ∧
    (∀ (v : BitVec 8), exec (.holdVUpdate v) s = .next (s.holdV v.toNat)) ∧
    (∀ (t : Half), exec (.tjUpdate t) s = .next (s.tjUpdate t)) ∧
    (exec .bypass s = .next (s.jtag .bypass)) ∧
    (exec .idcode s = .next { s with sys := { s.sys with jtag := .idcode, tdr := s.idcode } }) ∧
    (exec .samplePreload s = .next (s.jtag .samplePreload)) ∧
    (exec .extest s = .next (s.jtagPins .extest)) ∧
    (exec .clamp s = .next (s.jtagPins .clamp)) ∧
    (exec .highz s = .next (s.jtagPins .highz)) ∧
    (exec .dbgacc s = .next (s.jtag .dbgacc)) ∧
    (exec .converterStop s = .next s.converterStop))

/-- Without the panel option its commands do nothing. Every row of a sequence comes at its own instant. Enabling starts RAILS with the default
band; RAIL_MS later the drive and clear start with every enabled zone at the band's entry; then RUN begins with a forced full frame;
disabling discards regions and marks every line dirty, and the shutdown rows follow in order to OFF. A request outside RUN is recorded, an
empty one ignored, one apart from the active region queued, one that overlaps it ahead of its cursor merged; a line that starts clears its
dirty bit, and one whose write would still run at its zone's toggle waits for it; a write of the framebuffer marks its lines. Zones toggle
and apply the band; a crack beyond LIMIT with CRACK_STOP shuts down. Last, each command named answers a next state for every state and
operands. Clauses that rest on the model's own readings: assumption log 8, 28, 32, 66. (R6, R442, R444, R445, R446, R448, R449, R450,
R451, R452, R453, R454.) -/
def Obligations.TheLanternPanel : Prop :=
  ((∀ s₀ s : State,
    let rail := 1000 * max 1 (s₀.f F.LAN_CTRL_RAIL_MS)
    let due := fun (us : Nat) => s₀.comesAt (s₀.cyclesTo 0 (s₀.lan.since + us * usUnits))
    (s₀.f F.LAN_STATUS_STATE = 1 → due rail = none → exec .commonDriveStart s₀ = .next s₀) ∧
    (s₀.f F.LAN_STATUS_STATE = 1 → due rail = some s → ∃ t, exec .commonDriveStart s₀ = .next t ∧ t.f F.LAN_STATUS_STATE = 2 ∧ t.pins.vcomEn = true ∧ t.pins.gclr = true ∧
      (∀ z, z < 4 → t.pins.vcom.getLsbD z = s.zoneOn z) ∧
      (∀ z, z < 4 → s.zoneOn z = true → tget? t.lan.toggleAt z = some ((s.base 0).total + s.firstToggle z * usUnits) ∧
        tget? t.lan.applied z = some (s.f F.LAN_STATUS_BAND, s.reg (R.LAN_DRV (s.f F.LAN_STATUS_BAND)))) ∧
      ({ s with pins := t.pins } : State).lanOnly t [R.LAN_STATUS]) ∧
    (s₀.f F.LAN_STATUS_STATE = 2 → due (rail + 800) = none → exec .gclrRelease s₀ = .next s₀) ∧
    (s₀.f F.LAN_STATUS_STATE = 2 → due (rail + 800) = some s → s.lan.active = none → s.lan.queue = [] → ∃ t p, exec .gclrRelease s₀ = .next t ∧ t.f F.LAN_STATUS_STATE = 3 ∧
      t.pins = { s.pins with gclr := false } ∧ t.atLine p 0 ∧ p.region = ⟨0, s.lanH - 1, true, true⟩ ∧
      (s.base 0).total ≤ p.readyAt ∧ p.readyAt ≤ (s.base 0).total + 2 * usUnits ∧ t.lan.queue = []) ∧
    (s₀.f F.LAN_STATUS_STATE = 4 → s₀.lan.shutStep = 0 → (due 10 = none → exec .shutdownClear s₀ = .next s₀) ∧ (due 10 = some s → exec .shutdownClear s₀ =
      .next { s with pins := { s.pins with gclr := true }, lan := { s.lan with shutStep := 1 } })) ∧
    (s₀.f F.LAN_STATUS_STATE = 4 → s₀.lan.shutStep = 1 → (due 810 = none → exec .shutdownVcomOff s₀ = .next s₀) ∧ (due 810 = some s → exec .shutdownVcomOff s₀ =
      .next { s with pins := { s.pins with gclr := false, vcomEn := false, vcom := 0 }, lan := { s.lan with shutStep := 2 } })) ∧
    (s₀.f F.LAN_STATUS_STATE = 4 → s₀.lan.shutStep = 2 → (due 860 = none → exec .shutdownDischarge s₀ = .next s₀) ∧ (due 860 = some s → exec .shutdownDischarge s₀ =
      .next { s with pins := { s.pins with railEn := false, disch := true }, lan := { s.lan with shutStep := 3 } })) ∧
    (s₀.f F.LAN_STATUS_STATE = 4 → s₀.lan.shutStep = 3 → (due 2000 = none → exec .shutdownEnd s₀ = .next s₀) ∧ (due 2000 = some s →
      ∃ t, exec .shutdownEnd s₀ = .next t ∧ t.f F.LAN_STATUS_STATE = 0 ∧ s.regsOnly t [R.LAN_STATUS])) ∧
    (∀ p, s₀.lan.active = some p → p.line.isSome = true → s₀.comesAt (s₀.cyclesTo 0 p.endAt) = none → exec .lineWrite s₀ = .next s₀) ∧
    (∀ p y, s₀.lan.active = some p → p.line = some y → s₀.comesAt (s₀.cyclesTo 0 p.endAt) = some s → p.rewrite = none → s.lan.queue = [] → s.nextLine { p with line := none } = none →
      ∃ t, exec .lineWrite s₀ = .next t ∧ t.lan.active = none ∧
        t.f F.LAN_CNT_LINES = (s.f F.LAN_CNT_LINES + 1) % 2 ^ (F.LAN_CNT_LINES.hi + 1 - F.LAN_CNT_LINES.lo) ∧
        t.f F.LAN_STATUS_DONE = (if p.region.irq then 1 else s.f F.LAN_STATUS_DONE)) ∧
    (∀ p y z, s₀.lan.active = some p → p.line = some y → s₀.comesAt (s₀.cyclesTo 0 p.endAt) = some s → s.nextLine { p with line := none } = some z → ∃ t q, exec .lineWrite s₀ = .next t ∧
      t.atLine q z ∧ q.region = p.region ∧ q.rewrite = p.rewrite ∧ q.rewriting = p.rewriting ∧ t.lan.queue = s.lan.queue ∧
      t.f F.LAN_CNT_LINES = (s.f F.LAN_CNT_LINES + 1) % 2 ^ (F.LAN_CNT_LINES.hi + 1 - F.LAN_CNT_LINES.lo)) ∧
    (∀ z : Zone, s₀.zoneOn z.val = true → s₀.f F.LAN_STATUS_STATE = 2 ∨ s₀.f F.LAN_STATUS_STATE = 3 →
      let at' := s₀.comesAt (s₀.cyclesTo 0 (tget 0 s₀.lan.toggleAt z.val))
      let flip := fun (t : State) => t.pins = { s.pins with vcom := s.pins.vcom ^^^ BitVec.ofNat 4 (2 ^ z.val) } ∧
        tget? t.lan.toggleAt z.val = some (tget 0 s.lan.toggleAt z.val + s.halfPeriod z.val * usUnits) ∧
        tget? t.lan.applied z.val = some (s.f F.LAN_STATUS_BAND, s.reg (R.LAN_DRV (s.f F.LAN_STATUS_BAND)))
      (at' = none → exec (.vcomToggle z) s₀ = .next s₀) ∧
      (at' = some s → (∀ p, s.lan.active = some p → p.waiting = false ∨ s.zoneOf p.cursor ≠ z.val) → ∃ t, exec (.vcomToggle z) s₀ = .next t ∧
        flip t ∧ ({ s with pins := t.pins } : State).lanOnly t [R.LAN_STATUS]) ∧
      (∀ p, at' = some s → p.waiting = true → s.zoneOf p.cursor = z.val → s.lan.active = some p → ∃ t q, exec (.vcomToggle z) s₀ = .next t ∧
        flip t ∧ t.lan.active = some q ∧ q.line = some p.cursor ∧
        q.cursor = p.cursor + 1 ∧ q.waiting = false ∧ (p.cursor < 960 → t.dirty p.cursor = false) ∧ t.lan.queue = s.lan.queue)) ∧
    (∀ ohm : Half, s₀.variant.panelP = true →
      let sec := max (s₀.lan.tempAt + 1) (((s₀.base 0).total + nsPerSec - 1) / nsPerSec)
      let at' := s₀.comesAt (s₀.cyclesTo 0 (sec * nsPerSec))
      let u : State := { s with lan := { s.lan with tempAt := sec } }
      (at' = none → exec (.temperatureSample ohm) s₀ = .next s₀) ∧
      (at' = some s → exec (.temperatureSample ohm) s₀ = .next (u.takeTemp.takeCrack ohm.toNat)) ∧
      (at' = some s → s.panelTemp.1 = false → s.f F.LAN_STATUS_STATE ≠ 3 → ∃ t, exec (.temperatureSample ohm) s₀ = .next t ∧
        t.f F.LAN_CRACK_OHM = ohm.toNat ∧ t.f F.LAN_STATUS_TEMP_INV = 1 ∧ t.f F.LAN_TNOW_VALID = 0 ∧ t.f F.LAN_STATUS_BAND = s.f F.LAN_STATUS_BAND ∧
        u.regsOnly t [R.LAN_CRACK, R.LAN_STATUS, R.LAN_TNOW]) ∧
      (at' = some s → s.f F.LAN_STATUS_STATE = 3 → s.f F.LAN_CRACK_LIMIT < ohm.toNat → s.f F.LAN_STATUS_CRACK = 0 →
        s.f F.LAN_CTRL_CRACK_STOP = 1 → ∃ t, exec (.temperatureSample ohm) s₀ = .next t ∧ t.f F.LAN_STATUS_CRACK = 1 ∧ t.f F.LAN_STATUS_CRACK_SEEN = 1 ∧
        t.f F.LAN_STATUS_STATE = 4 ∧ t.lan.active = none))) ∧
  ∀ (s : State) (m : Master) (v : Word),
    (s.variant.panelP = false → exec (.lanternEnable m v) s = .next s ∧ exec (.lanternDisable m v) s = .next s ∧
      exec (.updateRequest m v) s = .next s ∧ ∀ ohm, exec (.temperatureSample ohm) s = .next s) ∧
    (s.variant.panelP = true → s.f F.LAN_CTRL_EN = 0 → ∃ t, exec (.lanternEnable m v) s = .next t ∧ t.f F.LAN_CTRL_EN = 1 ∧ t.f F.LAN_STATUS_STATE = 1 ∧
      t.f F.LAN_STATUS_BAND = t.f F.LAN_CTRL_DEF_BAND ∧ t.pins = { s.pins with disch := false, railEn := true } ∧ t.lan = { s.lan with setWritten := false, since := (s.base 0).total } ∧
      ({ s with pins := t.pins, lan := t.lan } : State).regsOnly t [R.LAN_CTRL, R.LAN_STATUS]) ∧
    (s.variant.panelP = true → s.f F.LAN_CTRL_EN = 1 → s.f F.LAN_STATUS_STATE ≠ 0 → s.f F.LAN_STATUS_STATE ≠ 4 →
      ∃ t, exec (.lanternDisable m v) s = .next t ∧ t.f F.LAN_CTRL_EN = 0 ∧ t.f F.LAN_STATUS_STATE = 4 ∧
        t.lan = { s.lan with active := none, queue := [], shutStep := 0, since := (s.base 0).total } ∧ (∀ y, y < 960 → t.dirty y = true) ∧ t.pins = s.pins ∧ t.mem = s.mem) ∧
    (s.f F.LAN_STATUS_STATE ≠ 1 → exec .commonDriveStart s = .next s) ∧
    (s.f F.LAN_STATUS_STATE ≠ 2 → exec .gclrRelease s = .next s) ∧
    (∀ i ∈ [(Instr.shutdownClear, 0), (.shutdownVcomOff, 1), (.shutdownDischarge, 2)], s.f F.LAN_STATUS_STATE ≠ 4 ∨ s.lan.shutStep ≠ i.2 →
      exec i.1 s = .next s) ∧
    (s.f F.LAN_STATUS_STATE ≠ 4 ∨ s.lan.shutStep ≠ 3 → exec .shutdownEnd s = .next s) ∧
    (s.variant.panelP = true → s.f F.LAN_STATUS_STATE ≠ 3 → exec (.updateRequest m v) s = .next (s.event 0x1003 [])) ∧
    (s.variant.panelP = true → s.f F.LAN_STATUS_STATE = 3 → bitsOf v 9 0 = 0 ∨ s.lanH ≤ bitsOf v 25 16 → exec (.updateRequest m v) s = .next s) ∧
    (s.variant.panelP = true → s.f F.LAN_STATUS_STATE = 3 → bitsOf v 9 0 ≠ 0 → bitsOf v 25 16 < s.lanH →
      let r : Lines := ⟨bitsOf v 25 16, min (s.lanH - 1) (bitsOf v 25 16 + bitsOf v 9 0 - 1), decide (bitsOf v 30 30 = 1), decide (bitsOf v 31 31 = 1)⟩
      (∀ p, s.lan.active = some p → p.region.hi < r.lo → s.lan.queue = [] → ∃ t, exec (.updateRequest m v) s = .next t ∧
        t.lan = { s.lan with queue := [r] } ∧ s.lanOnly t [R.LAN_QUEUE]) ∧
      (∀ p, s.lan.active = some p → p.region.lo ≤ r.hi → r.lo ≤ p.region.hi → p.cursor ≤ r.lo → ∃ t q, exec (.updateRequest m v) s = .next t ∧
        t.lan = { s.lan with active := some q } ∧ q.region.hi = max p.region.hi r.hi ∧ q.region.force = (p.region.force || r.force) ∧
        q.rewrite = p.rewrite ∧ q.cursor = p.cursor ∧ s.lanOnly t [R.LAN_QUEUE]) ∧
      (s.lan.active = none → s.lan.queue = [] → r.force = true → ∃ t p, exec (.updateRequest m v) s = .next t ∧ t.atLine p r.lo ∧
        p.region = r ∧ (∀ y, y ≠ r.lo → y < 960 → t.dirty y = s.dirty y))) ∧
    (exec (.updateRequest m v) s = .next (s.lanRequest v)) ∧
    (s.lan.active = none → exec .lineWrite s = .next s) ∧
    (∀ p, s.lan.active = some p → p.line = none → exec .lineWrite s = .next s) ∧
    (∀ (a : Addr) (d : Bytes), lpddrBase ≤ a.toNat → a.toNat + d.length ≤ 0x200000000 → ∃ t, exec (.framebufferWrite m a d) s = .next t ∧
      (∀ i, i < d.length → t.byte (a.toNat + i) = d.getD i 0) ∧ (∀ b, outside a.toNat d.length b → t.byte b = s.byte b) ∧
      (s.variant.panelP = true → ∀ i y, i < d.length → s.fbLine (a.toNat + i) = some y → t.dirty y = true) ∧
      (∀ r, inArray r (R.LAN_DIRTY 0) 4 30 = false → t.reg r = s.reg r)) ∧
    (∀ z : Zone, s.zoneOn z.val = false ∨ s.f F.LAN_STATUS_STATE ≠ 2 ∧ s.f F.LAN_STATUS_STATE ≠ 3 → exec (.vcomToggle z) s = .next s)) ∧
  (∀ s : State,
    (exec .lineWrite s = .next s.lineWritten) ∧
    (∀ (z : Zone), exec (.vcomToggle z) s = .next (s.vcomToggle z.val)) ∧
    (exec .gclrRelease s = .next s.gclrRelease) ∧
    (∀ (m : Master) (v : Word), ∃ t, exec (.lanternEnable m v) s = .next t) ∧
    (exec .commonDriveStart s = .next s.commonDrive) ∧
    (∀ (m : Master) (v : Word), ∃ t, exec (.lanternDisable m v) s = .next t) ∧
    (∃ t, exec .shutdownClear s = .next t) ∧
    (∃ t, exec .shutdownVcomOff s = .next t) ∧
    (∃ t, exec .shutdownDischarge s = .next t) ∧
    (exec .shutdownEnd s = .next s.shutEnd) ∧
    (∀ (m : Master) (v : Word), exec (.updateRequest m v) s = .next (s.lanRequest v)) ∧
    (∀ (m : Master) (a : Addr) (data : Bytes), exec (.framebufferWrite m a data) s = .next (s.fbWrite a.toNat data)) ∧
    (∀ (ohm : Half), exec (.temperatureSample ohm) s = .next (s.takeReadings ohm.toNat)))

/-- A controller that is off, in internal loopback, or not integrated before the frame began takes nothing from the bus; an FD frame without
FD_EN is an error. A frame for a mailbox sets NEW, and OVR where it was new, and its words, data and SEQ stand in its slot with the stamp
awaited; without a filter it goes to the FIFO under ACC_DEF, or is counted when the FIFO is full, or is discarded; no other byte changes.
Errors count by 1 or 8 and move the state; recovery clears the counters when automatic or asked for; sleep drops what is pending, once a
launched frame has ended; the wake its mode looks for restores the state by the counters and sets its always-on latch, with 11 recessive
bits to integrate. Last, each command named answers a next state for every state and operands. Clauses that rest on the model's own
readings: assumption log 8, 25, 72. (R391, R393, R394, R396, R397, R398, R400, R412, R415, R416.) -/
def Obligations.CanReceptionAndErrors : Prop :=
  (∀ (s : State) (c : CanNo),
    let k := c.val
    let r := s.canReg k
    let integrated := fun (f : CanFrame) => (s.canSt k).joinAt = 0 ∨ (s.canSt k).joinAt + s.frameLeast r f ≤ (s.base 0).total
    (∀ f, s.canOn k = false ∨ s.f (F.CAN_CTRL_MODE r) = 2 ∨ ¬ integrated f → exec (.canFrameReceived c f) s = .next s) ∧
    (∀ f, s.canOn k = true → s.f (F.CAN_CTRL_MODE r) ≠ 2 → integrated f → f.fdf = true → s.f (F.CAN_CTRL_FD_EN r) = 0 → s.f (F.CAN_ERR_TEC k) ≤ 255 →
      ∃ t, exec (.canFrameReceived c f) s = .next t ∧ t.f (F.CAN_ERR_LEC k) = 2 ∧ t.f (F.CAN_ERR_REC k) = min 255 (s.f (F.CAN_ERR_REC k) + 1) ∧
        t.f (F.CAN_ERR_TEC k) = s.f (F.CAN_ERR_TEC k) ∧ t.mem = s.mem ∧ s.canOnly t k [R.CAN_ERR k, R.CAN_STATUS k]) ∧
    (∀ f n m, s.canOn k = true → s.f (F.CAN_CTRL_MODE r) ≠ 2 → integrated f → (f.fdf = true → s.f (F.CAN_CTRL_FD_EN r) = 1) → s.f (F.CAN_CTRL_DUP r) = 0 →
      s.f (F.CAN_ERR_REC k) ≤ 127 → s.f (F.CAN_ERR_TEC k) ≤ 255 → s.canFilter r f = some (n, 1, m) → s.canRam r + 0x2000 ≤ ctxBase →
      let a := s.canRam r + 0xA00 + 0x50 * m
      ∃ t, exec (.canFrameReceived c f) s = .next t ∧ t.f (F.CAN_ERR_REC k) = s.f (F.CAN_ERR_REC k) - 1 ∧
        t.bit (R.CAN_MBNEW r) m = true ∧ t.bit (R.CAN_MBOVR r) m = (s.bit (R.CAN_MBOVR r) m || s.bit (R.CAN_MBNEW r) m) ∧
        t.rd a 4 = canWord0 f ∧ t.rd (a + 4) 4 = canWord1 f n (tget 0 (s.canSt r).seq m) % 2 ^ 32 ∧
        (∀ i, i < 64 → t.byte (a + 16 + i) = f.data.getD i 0) ∧ (∀ b, outside a 8 b → outside (a + 16) 64 b → t.byte b = s.byte b) ∧
        tget? t.points.live (pointKey 1 (64 * r + m)) = some s.tickNo ∧ 
        (s.sourceExists (120 + 4 * r) = true → s.f (F.IRQ_CFG_EN (120 + 4 * r)) = 1 → (120 + 4 * r, a + 8) ∈ t.irq.awaiting)) ∧
    (∀ f, s.canOn k = true → s.f (F.CAN_CTRL_MODE r) ≠ 2 → integrated f → (f.fdf = true → s.f (F.CAN_CTRL_FD_EN r) = 1) → s.f (F.CAN_CTRL_DUP r) = 0 →
      s.f (F.CAN_ERR_REC k) ≤ 127 → s.f (F.CAN_ERR_TEC k) ≤ 255 → s.canFilter r f = none →
      (s.f (F.CAN_CTRL_ACC_DEF r) = 0 → ∃ t, exec (.canFrameReceived c f) s = .next t ∧ t.mem = s.mem ∧
        s.canOnly t k [R.CAN_ERR k, R.CAN_STATUS k]) ∧
      (s.f (F.CAN_CTRL_ACC_DEF r) = 1 → s.f (F.CAN_FIFO_COUNT r) < 32 → s.canRam r + 0x2000 ≤ ctxBase →
        let q := (s.f (F.CAN_FIFO_RPTR r) + s.f (F.CAN_FIFO_COUNT r)) % 32
        let a := s.canRam r + 0x1400 + 0x50 * q
        ∃ t, exec (.canFrameReceived c f) s = .next t ∧ t.f (F.CAN_FIFO_COUNT r) = s.f (F.CAN_FIFO_COUNT r) + 1 ∧
          t.f (F.CAN_FIFO_RPTR r) = s.f (F.CAN_FIFO_RPTR r) ∧ t.rd a 4 = canWord0 f ∧ (∀ i, i < 64 → t.byte (a + 16 + i) = f.data.getD i 0) ∧
          (∀ b, outside a 8 b → outside (a + 16) 64 b → t.byte b = s.byte b)) ∧
      (s.f (F.CAN_CTRL_ACC_DEF r) = 1 → 32 ≤ s.f (F.CAN_FIFO_COUNT r) → ∃ t, exec (.canFrameReceived c f) s = .next t ∧ t.mem = s.mem ∧
        t.f (F.CAN_CNT_FIFO_OVF r) = min 65535 (s.f (F.CAN_CNT_FIFO_OVF r) + 1) ∧ t.f (F.CAN_FIFO_COUNT r) = s.f (F.CAN_FIFO_COUNT r))) ∧
    (∀ lec heavy, s.canOn k = false → exec (.canBusError c lec heavy) s = .next s) ∧
    (∀ (lec : CanErr) (heavy : Bool), s.canOn k = true → s.f (F.CAN_ERR_TEC k) ≤ 255 → ∃ t, exec (.canBusError c lec heavy) s = .next t ∧
      t.f (F.CAN_ERR_LEC k) = lec.val ∧ t.f (F.CAN_ERR_REC k) = min 255 (s.f (F.CAN_ERR_REC k) + if heavy then 8 else 1) ∧
      t.f (F.CAN_STATUS_STATE k) = (if 127 < s.f (F.CAN_ERR_TEC k) ∨ 127 < s.f (F.CAN_ERR_REC k) + (if heavy then 8 else 1) then 1 else 0) ∧
      s.canOnly t k [R.CAN_ERR k, R.CAN_STATUS k] ∧ t.mem = s.mem) ∧
    (∀ m v, ∃ t, exec (.fifoReadAdvance c m v) s = .next t ∧ t.f (F.CAN_FIFO_RPTR k) = bitsOf v 4 0 ∧
      t.f (F.CAN_FIFO_COUNT k) = s.f (F.CAN_FIFO_COUNT k) - (bitsOf v 4 0 + 32 - s.f (F.CAN_FIFO_RPTR k)) % 32 ∧ s.regsOnly t [R.CAN_FIFO k]) ∧
    (s.f (F.CAN_STATUS_STATE k) = 2 → s.f (F.CAN_CTRL_BOFF_AUTO r) = 1 ∨ (s.canSt k).recovering = true → ∃ t, exec (.busOffRecovery c) s = .next t ∧
      t.f (F.CAN_STATUS_STATE k) = 0 ∧ t.f (F.CAN_ERR_TEC k) = 0 ∧ t.f (F.CAN_ERR_REC k) = 0 ∧ t.mem = s.mem ∧
      s.canOnly t k [R.CAN_ERR k, R.CAN_STATUS k]) ∧
    (s.f (F.CAN_STATUS_STATE k) ≠ 2 ∨ s.f (F.CAN_CTRL_BOFF_AUTO r) = 0 ∧ (s.canSt k).recovering = false → exec (.busOffRecovery c) s = .next s) ∧
    (∀ m v, s.f (F.CAN_CTRL_EN k) = 1 → s.f (F.CAN_STATUS_STATE k) = 2 → bitsOf v 24 24 = 0 → ∃ t, exec (.recover c m v) s = .next t ∧
      (t.canSt k).recovering = true ∧ t.f (F.CAN_STATUS_STATE k) = 2 ∧ (∀ a, a ≠ R.CAN_CTRL k → t.reg a = s.reg a) ∧ t.mem = s.mem) ∧
    (∀ m v, s.f (F.CAN_CTRL_EN k) = 1 → s.f (F.CAN_STATUS_STATE k) ≠ 3 → (s.canSt k).launched = [] → ∃ t, exec (.canSleep c m v) s = .next t ∧
      t.f (F.CAN_STATUS_STATE k) = 3 ∧ (t.canSt k).launched = [] ∧ (t.canSt k).waiting = [] ∧
      ((s.canSt k).sent = [] → (if k % 2 = 0 then bitsOf v 27 27 = 0 else s.f (F.CAN_CTRL_DUP (k - 1)) = 0) → t.reg (R.CAN_TXPEND k) = 0) ∧ t.mem = s.mem) ∧
    (∀ m v, s.f (F.CAN_CTRL_EN k) = 1 → s.f (F.CAN_STATUS_STATE k) ≠ 3 → (s.canSt k).launched ≠ [] → ∃ t, exec (.canSleep c m v) s = .next t ∧
      (t.canSt k).sleepDue = true ∧ (t.canSt k).launched = (s.canSt k).launched ∧ (∀ a, a ≠ R.CAN_CTRL k → t.reg a = s.reg a) ∧ t.mem = s.mem) ∧
    (∀ x : WakeSign, let byFrame := s.f (F.CAN_WAKE_WMODE k) = 1 ∧ 160 ≤ s.nomBit r
      let seen := match x with
        | .dominant n => ¬ byFrame ∧ max 1 (s.f (F.CAN_WAKE_FILT k)) ≤ n.toNat
        | .frame f => byFrame ∧ s.isWakeFrame k f = true
      (s.f (F.CAN_STATUS_STATE k) ≠ 3 ∨ ¬ seen → exec (.canWake c x) s = .next s) ∧
      (s.f (F.CAN_STATUS_STATE k) = 3 → seen → ∃ t, exec (.canWake c x) s = .next t ∧ t.f (F.CAN_CTRL_SLEEP k) = 0 ∧ t.f (F.CAN_TTSTAT_SYNC k) = 0 ∧
      (t.canSt k).joinAt = (s.base 0).total + 11 * s.nomBit r * 25 * 2 ^ 31 ∧
      t.f (F.CAN_STATUS_STATE k) = (if 127 < s.f (F.CAN_ERR_TEC k) ∨ 127 < s.f (F.CAN_ERR_REC k) then 1 else 0) ∧ 123 + 4 * k ∈ t.irq.aon ∧
      s.canOnly t k [R.CAN_CTRL k, R.CAN_TTSTAT k, R.CAN_STATUS k]))) ∧
  (∀ s : State,
    (∀ (k : CanNo) (f : CanFrame), exec (.canFrameReceived k f) s = .next (s.canReceived k.val f)) ∧
    (∀ (k : CanNo) (m : Master) (v : Word), exec (.fifoReadAdvance k m v) s = .next (s.fifoAdvance k.val v)) ∧
    (∀ (k : CanNo), exec (.busOffRecovery k) s = .next (s.boffRecovery k.val)) ∧
    (∀ (k : CanNo) (m : Master) (v : Word), exec (.recover k m v) s = .next (s.canCtrlWrite m k.val (withBits v 25 25 1))) ∧
    (∀ (k : CanNo) (m : Master) (v : Word), exec (.canSleep k m v) s = .next (s.canCtrlWrite m k.val (withBits v 24 24 1))) ∧
    (∀ (k : CanNo) (x : WakeSign), exec (.canWake k x) s = .next (s.canWake k.val x)) ∧
    (∀ (k : CanNo) (lec : CanErr) (heavy : Bool), ∃ t, exec (.canBusError k lec heavy) s = .next t))

/-- Queueing sets the pending bit of an enabled buffer whose launch waits for no time; a cancel removes the pending ones and marks an attempt
that runs. A window opens at its start for a synchronised controller; an exclusive one launches its buffer only when the frame can end by
the window's end. A successful end counts the attempt in the slot's control word, frees the buffer and lowers TEC; a failed one raises TEC
by 8, repeats or drops by the retry limit, and above 255 is bus-off. A master's cycle start counts the cycle, or follows the tick under
TICKLOCK, and launches its reference message or holds it for an idle bus; a follower's reference message steps its base to the predicted
start; 1.5 cycles without one clear SYNC. Last, each command named answers a next state for every state and operands. Clauses that rest on
the model's own readings: assumption log 8, 25, 67, 72. (R368, R401, R402, R403, R404, R405, R406, R407, R408, R411, R412.) -/
def Obligations.CanTransmissionAndSchedule : Prop :=
  ((∀ (s₀ s : State) (c : CanNo),
    let k := c.val
    (∀ (b : CanBuf) n, tget? (s₀.canSt k).waiting b.val = some n →
      (s₀.comesAt (s₀.cyclesToLaunch (2 + k) n) = none → exec (.txLaunchTime c b) s₀ = .next s₀) ∧
      (s₀.comesAt (s₀.cyclesToLaunch (2 + k) n) = some s → ∃ t, exec (.txLaunchTime c b) s₀ = .next t ∧ tget? (t.canSt k).waiting b.val = none ∧
        (∀ j, j ≠ b.val → tget? (t.canSt k).waiting j = tget? (s.canSt k).waiting j) ∧ ({ t with can := s.can } : State) = s)) ∧
    (∀ w : CanWin, s₀.f (F.CAN_CTRL_EN k) = 1 → s₀.canRole k ≠ 0 → s₀.winOn k w.val = true → s₀.canSynced k = true →
      let due := s₀.comesAt (s₀.cyclesTo 0 ((s₀.canSt k).cycleAt + s₀.winStart k w.val * usUnits))
      (due = none → exec (.windowStart c w) s₀ = .next s₀) ∧
      (due = some s → ∃ t, exec (.windowStart c w) s₀ = .next t ∧ (t.canSt k).window = some w.val ∧ ({ t with can := s.can } : State) = s ∧
        let b := s.winBuf k w.val
        (s.winKind k w.val ≠ 1 ∨ s.exclusiveKind k b = none → (t.canSt k).launched = (s.canSt k).launched) ∧
        (∀ x, s.winKind k w.val = 1 → s.exclusiveKind k b = some x → s.canOn k = true → s.f (F.CAN_CTRL_DUP k) = 0 → (s.canSt k).sent = [] →
          let l := s.txFrame k b x
          let fits := s.fitsWindow k w.val (s.frameLen k l) && s.fdAllowed k (leBytes (l.take 4)) (leBytes ((l.drop 4).take 4))
          (fits = true → tget? (t.canSt k).launched b = some x ∧ tget? (t.canSt k).now b = none ∧ tget? (t.canSt k).attempts b = none ∧
            tget? (t.canSt k).launchEnd b = some ((s.canSt k).cycleAt + s.winEnd k w.val * usUnits)) ∧
          (fits = false → (t.canSt k).launched = (s.canSt k).launched)))) ∧
    (∀ busy, s₀.mastersNow k = true →
      (s₀.comesAt (s₀.cyclesToStart k) = none → exec (.cycleStart c busy) s₀ = .next s₀) ∧
      (s₀.comesAt (s₀.cyclesToStart k) = some s → ∃ t m, exec (.cycleStart c busy) s₀ = .next t ∧ (t.canSt k).master = true ∧
        (t.canSt k).window = none ∧ (t.canSt k).cycleAt = (s.base 0).total ∧
        t.f (F.CAN_TTSTAT_CYCLE k) = (if s.f (F.CAN_TT_TICKLOCK k) = 1 then s.tickNo else s.f (F.CAN_TTSTAT_CYCLE k) + 1) %
          2 ^ min 6 (s.f (F.CAN_TT_CYC_LOG k)) ∧
        t.f (F.CAN_TTSTAT_REF_LATE k) = (if busy then 1 else s.f (F.CAN_TTSTAT_REF_LATE k)) ∧
        m.ident = BitVec.ofNat 29 (bitsOf (s.reg (R.CAN_TT k)) 25 15) ∧ m.data = [BitVec.ofNat 8 (t.f (F.CAN_TTSTAT_CYCLE k))] ∧ m.ide = false ∧
        m.fdf = false ∧ (t.canSt k).refPend = (if busy then some m else none) ∧ (busy = false → (t.canSt k).refOut = some m) ∧
        ({ s with can := t.can, inForce := t.inForce } : State).regsOnly t [R.CAN_TTSTAT k])) ∧
    ((s₀.canSt k).master = false → s₀.f (F.CAN_TTSTAT_SYNC k) = 1 →
      let due := s₀.comesAt (s₀.cyclesTo (8 + k) ((s₀.canSt k).busNext + s₀.cycleLen k * 3 / 2))
      (due = none → exec (.syncLoss c) s₀ = .next s₀) ∧
      (due = some s → ∃ t, exec (.syncLoss c) s₀ = .next t ∧ t.f (F.CAN_TTSTAT_SYNC k) = 0 ∧ s.canOnly t k [R.CAN_TTSTAT k]))) ∧
  ∀ (s : State) (c : CanNo),
    let k := c.val
    let r := s.canReg k
    (∀ m v, ∃ t, exec (.txQueue c m v) s = .next t ∧ t.mem = s.mem ∧ ∀ b, b < 32 →
      (s.bit (R.CAN_TXPEND k) b = true ∨ v.getLsbD b = false ∨ bitsOf (s.txcfg k b) 31 31 = 0 →
        t.bit (R.CAN_TXPEND k) b = s.bit (R.CAN_TXPEND k) b) ∧
      (v.getLsbD b = true → bitsOf (s.txcfg k b) 31 31 = 1 → bitsOf (s.txcfg k b) 23 23 = 1 ∨ bitsOf (s.txcfg k b) 12 12 = 0 →
        t.bit (R.CAN_TXPEND k) b = true)) ∧
    (∀ m v, ∃ t, exec (.txCancel c m v) s = .next t ∧ t.mem = s.mem ∧ (t.canSt k).launched = (s.canSt k).launched ∧
      (∀ b, b < 32 → let runs := (s.buses k).any fun j => (tget? (s.canSt j).launched b).isSome
        t.bit (R.CAN_TXPEND k) b = (s.bit (R.CAN_TXPEND k) b && (!v.getLsbD b || runs)) ∧
        (v.getLsbD b = true → runs = true → b ∈ (t.canSt k).cancel) ∧
        (v.getLsbD b = true → runs = false → tget? (t.canSt k).waiting b = none)) ∧
      ({ s with can := t.can } : State).regsOnly t [R.CAN_TXPEND k]) ∧
    (∀ b : CanBuf, tget? (s.canSt k).waiting b.val = none → exec (.txLaunchTime c b) s = .next s) ∧
    (∀ w : CanWin, s.f (F.CAN_CTRL_EN k) = 0 ∨ s.canRole k = 0 ∨ s.winOn k w.val = false ∨ s.canSynced k = false →
      exec (.windowStart c w) s = .next s) ∧
    (∀ b : CanBuf, s.txRuns k b.val = none → exec (.txEnd c b) s = .next s ∧ ∀ lec, exec (.txError c b lec) s = .next s) ∧
    (∀ (b : CanBuf) x, s.txRuns k b.val = some x → (s.canSt k).sleepDue = false → s.f (F.CAN_CTRL_MODE r) ≠ 2 → s.f (F.CAN_ERR_TEC k) ≤ 255 → s.txSlot r 0 + 0xA00 ≤ ctxBase →
      ∃ t, exec (.txEnd c b) s = .next t ∧ t.f (F.CAN_ERR_TEC k) = s.f (F.CAN_ERR_TEC k) - 1 ∧ tget? (t.canSt k).launched b.val = none ∧
        tget? (t.canSt k).attempts b.val = none ∧
        t.byte (s.txSlot r b.val + 6) = BitVec.ofNat 8 (tget 0 (s.canSt k).attempts b.val + 1) ∧
        (∀ a, a ≠ s.txSlot r b.val + 6 → t.byte a = s.byte a) ∧
        (s.f (F.CAN_CTRL_DUP r) = 0 → s.canCommand r b.val = false → t.bit (R.CAN_TXPEND r) b.val = false) ∧
        (∀ j, j < 32 → j ≠ b.val → t.bit (R.CAN_TXPEND r) j = s.bit (R.CAN_TXPEND r) j) ∧
        (∀ a, logReg a = false → a ∉ [R.CAN_ERR k, R.CAN_STATUS k, R.CAN_TXPEND r] → t.reg a = s.reg a)) ∧
    (∀ (b : CanBuf) x (lec : CanErr), s.txRuns k b.val = some x → (s.canSt k).sleepDue = false → s.cancelled r b.val x = false → ¬(s.f (F.CAN_STATUS_STATE k) = 1 ∧ lec.val = 3) →
      s.f (F.CAN_STATUS_STATE k) ≠ 2 → ∃ t, exec (.txError c b lec) s = .next t ∧ t.f (F.CAN_ERR_LEC k) = lec.val ∧
      t.f (F.CAN_ERR_TEC k) = min 511 (s.f (F.CAN_ERR_TEC k) + 8) ∧
      (255 < s.f (F.CAN_ERR_TEC k) + 8 → t.f (F.CAN_STATUS_STATE k) = 2 ∧ (t.canSt k).launched = [] ∧
        (k = r → s.f (F.CAN_CTRL_DUP k) = 0 → (s.canSt k).sent = [] → t.reg (R.CAN_TXPEND k) = 0)) ∧
      (s.f (F.CAN_ERR_TEC k) + 8 ≤ 255 → bitsOf (s.txcfg r b.val) 22 19 ≤ tget 0 (s.canSt k).attempts b.val →
        tget? (t.canSt k).launched b.val = none ∧ (s.f (F.CAN_CTRL_DUP r) = 0 → s.canCommand r b.val = false → t.bit (R.CAN_TXPEND r) b.val = false) ∧
        t.f (F.CAN_CNT_DROPS k) = min 65535 (s.f (F.CAN_CNT_DROPS k) + 1)) ∧
      (s.f (F.CAN_ERR_TEC k) + 8 ≤ 255 → tget 0 (s.canSt k).attempts b.val < bitsOf (s.txcfg r b.val) 22 19 →
        tget? (s.canSt k).launchEnd b.val = none → t.reg (R.CAN_TXPEND r) = s.reg (R.CAN_TXPEND r) ∧
        tget? (t.canSt k).attempts b.val = some (tget 0 (s.canSt k).attempts b.val + 1) ∧
        t.f (F.CAN_CNT_DROPS k) = s.f (F.CAN_CNT_DROPS k))) ∧
    (∀ busy, s.mastersNow k = false → (s.canSt k).master = false → exec (.cycleStart c busy) s = .next s) ∧
    (∀ busy, s.mastersNow k = false → (s.canSt k).master = true → ∃ t, exec (.cycleStart c busy) s = .next t ∧ (t.canSt k).master = false ∧
      (t.canSt k).window = none ∧ ({ s with can := t.can, inForce := t.inForce } : State).regsOnly t []) ∧
    (∀ (cyc : Cycle) (ident : StdId), s.canOn k = false ∨ s.f (F.CAN_TT_ROLE k) = 0 ∨ s.f (F.CAN_TT_ROLE k) = 1 ∨ s.f (F.CAN_TT_ROLE k) = 3 ∧ s.owns = true ∨
      ident.toNat ≠ bitsOf (s.eff (R.CAN_TT k)) 25 15 → exec (.referenceMessage c cyc ident) s = .next s) ∧
    (∀ (cyc : Cycle) (ident : StdId), ident.toNat = bitsOf (s.eff (R.CAN_TT k)) 25 15 → s.canOn k = true → s.f (F.CAN_TT_ROLE k) = 2 ∨ s.f (F.CAN_TT_ROLE k) = 3 ∧ s.owns = false →
      ∃ (t : State) (step : Int), exec (.referenceMessage c cyc ident) s = .next t ∧ (t.canSt k).master = false ∧ t.f (F.CAN_TTSTAT_CYCLE k) = cyc.toNat ∧
        t.f (F.CAN_TTSTAT_SYNC k) = 1 ∧ t.fi (F.CAN_TTSTAT_SYNC_ERR k) = max (-32768) (min 32767 (step.tdiv (2 ^ 32))) ∧
        (s.f (F.CAN_TTSTAT_SYNC k) = 1 → step = (((s.canSt k).busNext +
          (cyc.toNat + s.canCycles k - s.f (F.CAN_TTSTAT_CYCLE k) - 1) % s.canCycles k * s.cycleLen k : Nat) : Int) - (s.base (8 + k)).total) ∧
        t.base (8 + k) = (s.base (8 + k)).shift step ∧ (∀ j, j ≠ 8 + k → t.base j = s.base j)) ∧
    ((s.canSt k).master = true ∨ s.f (F.CAN_TTSTAT_SYNC k) = 0 → exec (.syncLoss c) s = .next s)) ∧
  (∀ s : State,
    (∀ (k : CanNo) (m : Master) (v : Word), exec (.txQueue k m v) s = .next (s.canPendWrite k.val v)) ∧
    (∀ (k : CanNo) (m : Master) (v : Word), exec (.txCancel k m v) s = .next (s.canCancel k.val v)) ∧
    (∀ (k : CanNo) (b : CanBuf), exec (.txEnd k b) s = .next (s.txEnd k.val b.val)) ∧
    (∀ (k : CanNo) (b : CanBuf) (lec : CanErr), exec (.txError k b lec) s = .next (s.txError k.val b.val lec.val)) ∧
    (∀ (k : CanNo) (busBusy : Bool), exec (.cycleStart k busBusy) s = .next (s.cycleStart k.val busBusy)) ∧
    (∀ (k : CanNo) (cycle : Cycle) (ident : StdId), exec (.referenceMessage k cycle ident) s = .next (s.refMessage k.val cycle.toNat ident.toNat)) ∧
    (∀ (k : CanNo) (w : CanWin), exec (.windowStart k w) s = .next (s.windowStart k.val w.val)) ∧
    (∀ (k : CanNo) (b : CanBuf), exec (.txLaunchTime k b) s = .next (s.launchTime k.val b.val)) ∧
    (∀ (k : CanNo), exec (.syncLoss k) s = .next (s.syncLoss k.val)))

/-- A LAN is up with link and a frame within LAN_TO, and a change is recorded; a supervision frame goes out every 2 s with the next PRP
number, or is held by the Release guard; an entry is forgotten 400 ms after its first copy. A dark module (AFTERGLOW) receives nothing. A
frame of a pair that is off, or a second copy, has no effect; a bad FCS is counted; a frame no service claims stands in the next receive
buffer with its length and LAN, and no other byte changes, or is dropped when 64 are filled. A submitted descriptor starts its frame in
order; its end, when it has left the wire, moves HW. The end of a tick marks a silent source failed, and a live one healthy. An accepted
sentence writes only its source area, with sequence and format number; a bad or unmatched one is counted. Last, each command named answers
a next state for every state and operands. Clauses that rest on the model's own readings: assumption log 8, 26, 31, 65. (R418, R419, R420,
R422, R423, R424, R426, R428.) -/
def Obligations.EthernetSerialAndPcie : Prop :=
  ((∀ s₀ s : State,
    (∀ (port : Port) link, s₀.dark = false → (s₀.reg R.NET_STATUS).getLsbD port.val = link →
      let due := s₀.comesAt (s₀.cyclesTo 0 (s₀.silentAt port.val))
      exec (.lanStateChange port link false) s₀ = .next s₀ ∧ (due = none → exec (.lanStateChange port link true) s₀ = .next s₀) ∧
      (due = some s → ∃ t, exec (.lanStateChange port link true) s₀ = .next t ∧
        (t.reg R.NET_STATUS).getLsbD (4 + port.val) = ((s.reg R.NET_STATUS).getLsbD port.val && decide ((s.base 0).total < s.silentAt port.val)) ∧
        (∀ j, j ≠ 4 + port.val → (t.reg R.NET_STATUS).getLsbD j = (s.reg R.NET_STATUS).getLsbD j) ∧ s.logAnd t [R.NET_STATUS])) ∧
    (∀ p : EthPair, s₀.pairOn p.val = true →
      let due := match tget? s₀.net.supAt p.val with | some n => s₀.comesAt (s₀.cyclesTo 0 (n + 2 * nsPerSec)) | none => some s₀
      (due = none → exec (.supervisionFrame p) s₀ = .next s₀) ∧
      (due = some s → ∃ t, exec (.supervisionFrame p) s₀ = .next t ∧ tget? t.net.supAt p.val = some (s.base 0).total ∧
        (s.f (F.NET_PRP_GUARD p.val) = 0 → tget 0 t.net.prpSeq p.val = (tget 0 s.net.prpSeq p.val + 1) % 65536 ∧ tget? t.net.sent p.val = some .supervision) ∧
        (s.guarded p.val 90 = true → t.net.guarded = s.net.guarded ++ [(p.val, .supervision)]) ∧ ({ t with net := s.net } : State) = s)) ∧
    (∀ (p : EthPair) (mac : Mac) (q : Half), let key := (p.val, mac.toNat, q.toNat)
      (s₀.net.seen.find? (·.1 = key) = none → exec (.prpEntryForget p mac q) s₀ = .next s₀) ∧
      (∀ e, s₀.net.seen.find? (·.1 = key) = some e →
        (s₀.comesAt (s₀.cyclesTo 0 (e.2 + 400 * msUnits)) = none → exec (.prpEntryForget p mac q) s₀ = .next s₀) ∧
        (s₀.comesAt (s₀.cyclesTo 0 (e.2 + 400 * msUnits)) = some s → ∃ t, exec (.prpEntryForget p mac q) s₀ = .next t ∧
          (∀ x, x ∈ t.net.seen ↔ x ∈ s.net.seen ∧ x.1 ≠ key) ∧ ({ t with net := { t.net with seen := s.net.seen } } : State) = s))) ∧
    (∀ (p : EthPair) n, tget? (s₀.ring p.val).launch (s₀.f (F.NET_TXHT_HW p.val)) = some n →
      let due := s₀.comesAt (s₀.cyclesToLaunch 1 n)
      (due = none → exec (.ringLaunchTime p) s₀ = .next s₀) ∧
      (due = some s → let i := s.f (F.NET_TXHT_HW p.val)
        (tget? (s.ring p.val).launch i).isSome = true → i ≠ s.f (F.NET_TXHT_SW p.val) → s.pairOn p.val = true → s.f (F.NET_PRP_GUARD p.val) = 0 →
        (s.ring p.val).sending = false → i ∉ (s.ring p.val).refused → ∃ t, exec (.ringLaunchTime p) s₀ = .next t ∧ (t.ring p.val).sending = true ∧
          tget? (t.ring p.val).launch i = none ∧ (t.ring p.val).endAt = s.wireFree p.val + s.wireNs p.val ((s.txBytes p.val i).length + 30) * 2 ^ 32 ∧
          ({ t with net := s.net } : State) = s)) ∧
    (∀ p : EthPair, (s₀.ring p.val).sending = true →
      let due := s₀.comesAt (s₀.cyclesTo 0 (s₀.ring p.val).endAt)
      (due = none → exec (.ringFrameSent p) s₀ = .next s₀) ∧
      (due = some s → (s.f (F.NET_TXHT_HW p.val) + 1) % 64 = s.f (F.NET_TXHT_SW p.val) →
        ∃ t, exec (.ringFrameSent p) s₀ = .next t ∧ (t.ring p.val).sending = false ∧
          t.f (F.NET_TXHT_HW p.val) = (s.f (F.NET_TXHT_HW p.val) + 1) % 64 ∧ s.regsOnly { t with net := s.net } [R.NET_TXHT p.val])) ∧
    (s₀.comesAt (500 * s₀.periodUs - s₀.tick.cycles) = some s →
      (∀ j, ∃ t, exec (.sourceTimeout (.listen j)) s₀ = .next t ∧ s.regsOnly t [R.NET_450GRP j.val] ∧ t.f (F.NET_450GRP_FAILED j.val) =
        if s.f (F.NET_450GRP_EN j.val) = 0 ∨ s.f (F.NET_450GRP_TIMEOUT j.val) ≠ 0 ∧ s.silentFor (pointKey 2 j.val) (s.f (F.NET_450GRP_TIMEOUT j.val)) = true
        then 1 else 0) ∧
      (∀ k, s.serExists k.val = false → exec (.sourceTimeout (.serial k)) s₀ = .next s) ∧
      (∀ k, s.serExists k.val = true → ∃ t, exec (.sourceTimeout (.serial k)) s₀ = .next t ∧ s.regsOnly t [R.NET_SERSTAT k.val] ∧ t.f (F.NET_SERSTAT_FAILED k.val) =
        if s.f (F.NET_SERCFG_EN k.val) = 0 ∨ s.f (F.NET_SERCFG_TIMEOUT k.val) ≠ 0 ∧ s.silentFor (pointKey 3 k.val) (s.f (F.NET_SERCFG_TIMEOUT k.val)) = true
        then 1 else 0))) ∧
  ∀ s : State,
    (s.dark = true → (∀ port link silent f, exec (.lanStateChange port link silent) s = .next s ∧ exec (.ethernetFrameReceived port f) s = .next s) ∧
      ∀ k l, exec (.sentence k l) s = .next s) ∧
    (∀ (port : Port) link silent, s.dark = false → (s.reg R.NET_STATUS).getLsbD port.val ≠ link → ∃ t, exec (.lanStateChange port link silent) s = .next t ∧
      let up := link && decide ((s.base 0).total < s.silentAt port.val)
      (t.reg R.NET_STATUS).getLsbD port.val = link ∧ (t.reg R.NET_STATUS).getLsbD (4 + port.val) = up ∧
      (∀ j, j ≠ port.val → j ≠ 4 + port.val → (t.reg R.NET_STATUS).getLsbD j = (s.reg R.NET_STATUS).getLsbD j) ∧ s.logAnd t [R.NET_STATUS] ∧
      ((s.reg R.NET_STATUS).getLsbD (4 + port.val) = up → s.regsOnly t [R.NET_STATUS])) ∧
    (∀ p : EthPair, s.pairOn p.val = false → exec (.supervisionFrame p) s = .next s) ∧
    (∀ (port : Port) f, s.dark = false → let p := port.val / 2
      let u := s.heardOn port.val
      (s.f (F.NET_PRP_EN p) = 0 → exec (.ethernetFrameReceived port f) s = .next s) ∧
      (s.f (F.NET_PRP_EN p) = 1 → f.fcsOk = true → 1518 < f.bytes.length → exec (.ethernetFrameReceived port f) s = .next s) ∧
      tget? u.net.heardAt port.val = some (s.base 0).total ∧
      (s.f (F.NET_PRP_EN p) = 1 → f.fcsOk = false → ∃ t, exec (.ethernetFrameReceived port f) s = .next t ∧
        s.f (F.NET_PRPCNT_FCS_ERR p) ≤ t.f (F.NET_PRPCNT_FCS_ERR p) ∧ s.regsOnly t [R.NET_PRPCNT p]) ∧
      (∀ q e, s.f (F.NET_PRP_EN p) = 1 → f.fcsOk = true → f.bytes.length ≤ 1518 → f.seq = some q →
        s.net.seen.find? (·.1 = (p, f.src.toNat, q.toNat)) = some e → (s.base 0).total < e.2 + 400 * msUnits →
        exec (.ethernetFrameReceived port f) s = .next u) ∧
      (s.f (F.NET_PRP_EN p) = 1 → f.fcsOk = true → f.bytes.length ≤ 1518 → f.seq = none → f.body = .other → 64 ≤ (s.ring p).filled →
        ∃ t, exec (.ethernetFrameReceived port f) s = .next t ∧ t.mem = s.mem ∧ u.regsOnly t [R.NET_PRPCNT p]) ∧
      (s.f (F.NET_PRP_EN p) = 1 → f.fcsOk = true → f.bytes.length ≤ 1518 → f.seq = none → f.body = .other → (s.ring p).filled < 64 →
        let a := bufAt (s.f (F.NET_RXBASE_BASE p)) (s.f (F.NET_RXHT_HW p))
        let d := descAt (s.f (F.NET_RXBASE_BASE p)) (s.f (F.NET_RXHT_HW p))
        ∃ t, exec (.ethernetFrameReceived port f) s = .next t ∧ (∀ i, i < f.bytes.length → t.byte (a + i) = f.bytes.getD i 0) ∧
          t.rd d 2 = f.bytes.length ∧ t.rd (d + 2) 1 = 2 ^ (port.val % 2) + 0x80 ∧
          (∀ b, outside a f.bytes.length b → outside d 4 b → t.byte b = s.byte b) ∧
          t.f (F.NET_RXHT_HW p) = (s.f (F.NET_RXHT_HW p) + 1) % 64 ∧ (t.ring p).filled = (s.ring p).filled + 1 ∧
          (s.sourceExists 156 = true → s.f (F.IRQ_CFG_EN 156) = 1 → (156, d + 8) ∈ t.irq.awaiting))) ∧
    (∀ (p : EthPair) m v, ∃ t, exec (.txDescriptorSubmit p m v) s = .next t ∧ t.f (F.NET_TXHT_SW p.val) = bitsOf v 13 8 ∧ t.mem = s.mem) ∧
    (∀ (p : EthPair) m v, let i := s.f (F.NET_TXHT_HW p.val)
      s.f (F.NET_TXHT_SW p.val) = i → bitsOf v 13 8 = (i + 1) % 64 → s.rd (descAt (s.f (F.NET_TXBASE_BASE p.val)) i + 2) 1 % 2 = 0 →
      s.pairOn p.val = true → s.f (F.NET_PRP_GUARD p.val) = 0 → (s.ring p.val).sending = false → i ∉ (s.ring p.val).refused →
      tget? (s.ring p.val).launch i = none → ∃ t a b, exec (.txDescriptorSubmit p m v) s = .next t ∧ (t.ring p.val).sending = true ∧
        tget? t.net.sent p.val = some (.ring (s.txBytes p.val i) a b) ∧ s.regsOnly { t with net := s.net } [R.NET_TXHT p.val]) ∧
    (∀ (p : EthPair) m v, ∃ t, exec (.rxDescriptorFree p m v) s = .next t ∧ t.f (F.NET_RXHT_SW p.val) = bitsOf v 13 8 ∧
      (t.ring p.val).filled = (s.ring p.val).filled - (bitsOf v 13 8 + 64 - s.f (F.NET_RXHT_SW p.val)) % 64 ∧
      s.regsOnly { t with net := s.net } [R.NET_RXHT p.val]) ∧
    (∀ p : EthPair, tget? (s.ring p.val).launch (s.f (F.NET_TXHT_HW p.val)) = none → exec (.ringLaunchTime p) s = .next s) ∧
    (∀ p : EthPair, (s.ring p.val).sending = false → exec (.ringFrameSent p) s = .next s) ∧
    (∀ up (gen : PcieGen) (width : PcieWidth) msix, ∃ t, exec (.pcieLinkChange up gen width msix) s = .next t ∧
      t.f F.NET_PCIE_STAT_LINK = (if up then 1 else 0) ∧ t.f F.NET_PCIE_STAT_GEN = (if up then gen.val else 0) ∧
      t.f F.NET_PCIE_STAT_WIDTH = (if up then width.val else 0) ∧ t.f F.NET_PCIE_STAT_MSIX_EN = (if up && msix then 1 else 0) ∧
      s.logAnd t [R.NET_PCIE_STAT]) ∧
    (∀ d, s.pairOf 0 = none → exec (.udpbcDatagram d) s = .next s) ∧
    (∀ d, s.pairOf 0 ≠ none → d.tagOk = true → s.listenFor d = none → ∃ t, exec (.udpbcDatagram d) s = .next t ∧
      s.f F.NET_450CNT_NOMATCH ≤ t.f F.NET_450CNT_NOMATCH ∧ s.regsOnly t [R.NET_450CNT]) ∧
    (∀ d, s.pairOf 0 ≠ none → d.tagOk = false → ∃ t, exec (.udpbcDatagram d) s = .next t ∧
      s.f F.NET_450CNT_TAG_ERR ≤ t.f F.NET_450CNT_TAG_ERR ∧ s.logAnd t [R.NET_450CNT]) ∧
    (∀ d j b l n text, s.pairOf 0 ≠ none → d.tagOk = true → s.listenFor d = some j → d.sentences = [b] → scanLine (b.map some) none = ([l], 0) →
      s.sortSentence l = .accepted n text → s.listenArea j + 0x400 ≤ ctxBase → ∃ t, exec (.udpbcDatagram d) s = .next t ∧
        t.rd (s.listenArea j) 4 = tget 0 s.net.areaSeq (64 + j) % 2 ^ 32 ∧ t.rd (s.listenArea j + 4) 4 = n ∧
        (∀ a, outside (s.listenArea j) 0x400 a → t.byte a = s.byte a) ∧ tget? t.points.live (pointKey 2 j) = some s.tickNo) ∧
    (∀ (k : SerPort) l, s.serExists k.val = false ∨ s.f (F.NET_SERCFG_EN k.val) = 0 → exec (.sentence k l) s = .next s) ∧
    (∀ (k : SerPort) chars l n text, s.dark = false → s.serExists k.val = true → s.f (F.NET_SERCFG_EN k.val) = 1 → scanLine chars none = ([l], 0) →
      s.sortSentence l = .accepted n text → s.serArea k.val + 0x1000 ≤ ctxBase → ∃ t, exec (.sentence k chars) s = .next t ∧
        t.rd (s.serArea k.val) 4 = tget 0 s.net.areaSeq k.val % 2 ^ 32 ∧ t.rd (s.serArea k.val + 4) 4 = n ∧
        tget? t.net.areaSeq k.val = some ((tget 0 s.net.areaSeq k.val + 1) % 0xFFFFFFFF) ∧
        (∀ a, outside (s.serArea k.val) 0x1000 a → t.byte a = s.byte a) ∧ tget? t.points.live (pointKey 3 k.val) = some s.tickNo) ∧
    (∀ (k : SerPort) chars l, s.dark = false → s.serExists k.val = true → s.f (F.NET_SERCFG_EN k.val) = 1 → scanLine chars none = ([l], 0) →
      s.sortSentence l = .badSum ∨ s.sortSentence l = .unmatched → ∃ t, exec (.sentence k chars) s = .next t ∧ t.mem = s.mem ∧
        s.logAnd t [R.NET_SERSTAT k.val])) ∧
  (∀ s : State,
    (∀ (port : Port) (f : EthFrame), exec (.ethernetFrameReceived port f) s = .next (s.ethFrame port.val f)) ∧
    (∀ (k : SerPort) (chars : SerChars), exec (.sentence k chars) s = .next (s.serLine k.val chars)) ∧
    (∀ (d : Datagram), exec (.udpbcDatagram d) s = .next (s.datagram d)) ∧
    (∀ (u : SrcUnit), exec (.sourceTimeout u) s = .next (s.sourceTimeout u)) ∧
    (∀ (p : EthPair) (m : Master) (v : Word), exec (.txDescriptorSubmit p m v) s = .next (s.txSubmit p.val v)) ∧
    (∀ (p : EthPair), exec (.ringLaunchTime p) s = .next (s.ringLaunch p.val)) ∧
    (∀ (p : EthPair), exec (.ringFrameSent p) s = .next (s.ringSent p.val)) ∧
    (∀ (p : EthPair) (src : Mac) (seq : Half), exec (.prpEntryForget p src seq) s = .next (s.prpForget (p.val, src.toNat, seq.toNat))) ∧
    (∀ (p : EthPair), exec (.supervisionFrame p) s = .next (s.supervision p.val)) ∧
    (∀ (port : Port) (link : Bool) (silent : Bool), exec (.lanStateChange port link silent) s = .next (s.lanChange port.val link silent)) ∧
    (∀ (p : EthPair) (m : Master) (v : Word), exec (.rxDescriptorFree p m v) s = .next (s.rxFree p.val v)) ∧
    (∀ (up : Bool) (gen : PcieGen) (width : PcieWidth) (msix : Bool), ∃ t, exec (.pcieLinkChange up gen width msix) s = .next t))

/-- While Grezhasel is off its frames have no effect. An input frame of another tick is counted late, one of an unknown station, a wrong CRC
or a wrong length is counted bad, and a good one is the station's shadow, once, with source 160. A delayed burst starts when the frame in
progress has left the wire, and its end, its length later, opens the service slot for the responses asked for. A service request takes the
lowest free slot with address, length, MONO and data, and no other byte changes; without one it is counted. The host service answers a
malformed request with 2 and executes a well-formed read or write of memory. Last, each command named answers a next state for every state
and operands. Clauses that rest on the model's own readings: assumption log 8, 27, 42. (R421, R429, R432, R433, R437.) -/
def Obligations.GrezhaselAndHostService : Prop :=
  ((∀ (s₀ s : State) lan, s₀.grz.burst = true → b2n lan ∈ s₀.grz.late →
    let due := s₀.comesAt (s₀.cyclesTo 0 (s₀.wireFree s₀.grzPair))
    (due = none → exec (.burstDelayedStart lan) s₀ = .next s₀) ∧
    (due = some s → ∃ t, exec (.burstDelayedStart lan) s₀ = .next t ∧ b2n lan ∉ t.grz.late ∧
      t.f (F.IRQ_COAL_PCNT 157) = s.upCount 157 ∧ ({ s with grz := t.grz } : State).logAnd t [] ∧
      (∀ x l, s.grz.late.length = 2 → s.grz.todo = x :: l → t.grz.todo = l ∧ (s.grzAllowed x.entry = true → x.entry ∈ t.grz.launched)) ∧
      (s.grz.late.length ≠ 2 → t.grz.todo = s.grz.todo ∧ t.grz.frames = s.grz.frames))) ∧
  (∀ s₀ s : State, s₀.grz.burst = true → s₀.grz.late = [] →
    let due := s₀.comesAt (s₀.grz.startAt.foldl (fun m e => max m e.2) 0 + s₀.grz.len - s₀.tick.cycles)
    (due = none → exec .outputBurstEnd s₀ = .next s₀) ∧
    (due = some s → ∃ t, exec .outputBurstEnd s₀ = .next t ∧ t.grz.burst = false ∧ t.grz.todo = [] ∧
      (∀ x ∈ s.grz.todo, s.grzAllowed x.entry = true → x.entry ∈ t.grz.launched) ∧
      (∀ x ∈ s.grz.todo, s.grzAllowed x.entry = false → x.entry ∉ s.grz.launched →
        (∀ y ∈ s.grz.todo, y.entry = x.entry → s.grzAllowed y.entry = false) → x.entry ∉ t.grz.launched) ∧
      (∀ r, r < 8 → s.grzOn = true → (r ∈ t.grz.slot ↔ (s.reg R.GRZ_SVCSEND).getLsbD r = true)))) ∧
  ∀ s : State,
    (∀ g, s.grzOn = false → exec (.grzInputFrame g) s = .next s ∧ exec (.serviceRequest g) s = .next s) ∧
    (∀ g, s.grzOn = true → g.tick.toNat ≠ s.tickNo ∨ 500 * s.periodUs ≤ s.tick.cycles → ∃ t, exec (.grzInputFrame g) s = .next t ∧ t.grz = s.grz ∧
      s.f F.GRZ_CNT_LATE ≤ t.f F.GRZ_CNT_LATE ∧ t.f F.GRZ_CNT_BAD = s.f F.GRZ_CNT_BAD ∧ s.regsOnly t [R.GRZ_CNT]) ∧
    (∀ g, s.grzOn = true → g.tick.toNat = s.tickNo → s.tick.cycles < 500 * s.periodUs → (s.grzEntry g.addr.toNat = none ∨
        ∃ n, s.grzEntry g.addr.toNat = some n ∧ (g.crcOk = false ∨ g.data.length ≠ s.f (F.GRZ_SPI_LEN n))) →
      ∃ t, exec (.grzInputFrame g) s = .next t ∧ t.grz = s.grz ∧ s.f F.GRZ_CNT_BAD ≤ t.f F.GRZ_CNT_BAD ∧ s.regsOnly t [R.GRZ_CNT]) ∧
    (∀ g n, s.grzOn = true → g.tick.toNat = s.tickNo → s.tick.cycles < 500 * s.periodUs → s.grzEntry g.addr.toNat = some n → g.crcOk = true → g.data.length = s.f (F.GRZ_SPI_LEN n) →
      (∀ d, tget? s.grz.shadow n = some d → exec (.grzInputFrame g) s = .next s) ∧
      (tget? s.grz.shadow n = none → ∃ t, exec (.grzInputFrame g) s = .next t ∧ tget? t.grz.shadow n = some g.data ∧
        (∀ j, j ≠ n → tget? t.grz.shadow j = tget? s.grz.shadow j) ∧ t.mem = s.mem ∧ t.f (F.IRQ_COAL_PCNT 160) = s.upCount 160 ∧
        ({ s with grz := t.grz } : State).logAnd t [])) ∧
    (∀ lan, s.grz.burst = false ∨ b2n lan ∉ s.grz.late → exec (.burstDelayedStart lan) s = .next s) ∧
    (s.grz.burst = false ∨ s.grz.late ≠ [] → exec .outputBurstEnd s = .next s) ∧
    (∀ g, s.grzOn = true → g.crcOk = false ∨ 1440 < g.data.length → ∃ t, exec (.serviceRequest g) s = .next t ∧
      s.f F.GRZ_CNT_BAD ≤ t.f F.GRZ_CNT_BAD ∧ s.regsOnly t [R.GRZ_CNT]) ∧
    (∀ g, s.grzOn = true → g.crcOk = true → g.data.length ≤ 1440 → bitsOf (s.reg R.GRZ_SVCREQ) 7 0 = 255 →
      ∃ t, exec (.serviceRequest g) s = .next t ∧ s.f F.GRZ_SVCREQ_DROPS ≤ t.f F.GRZ_SVCREQ_DROPS ∧ s.regsOnly t [R.GRZ_SVCREQ]) ∧
    (∀ g r, s.grzOn = true → g.crcOk = true → g.data.length ≤ 1440 → r < 8 → (s.reg R.GRZ_SVCREQ).getLsbD r = false →
      (∀ i, i < r → (s.reg R.GRZ_SVCREQ).getLsbD i = true) → let a := s.svcReq r
      ∃ t, exec (.serviceRequest g) s = .next t ∧ (t.reg R.GRZ_SVCREQ).getLsbD r = true ∧
        (∀ i, i ≠ r → (t.reg R.GRZ_SVCREQ).getLsbD i = (s.reg R.GRZ_SVCREQ).getLsbD i) ∧
        t.rd a 2 = g.addr.toNat ∧ t.rd (a + 2) 2 = g.data.length ∧ t.rd (a + 8) 8 = (s.base 0).form ∧
        (∀ i, i < g.data.length → t.byte (a + 16 + i) = g.data.getD i 0) ∧ (∀ b, outside a (16 + g.data.length) b → t.byte b = s.byte b) ∧
        t.f (F.IRQ_COAL_PCNT 161) = s.upCount 161) ∧
    (∀ m v, ∃ t, exec (.serviceSlotFree m v) s = .next t ∧ (∀ i, i < 8 → (t.reg R.GRZ_SVCREQ).getLsbD i = ((s.reg R.GRZ_SVCREQ).getLsbD i && !v.getLsbD i)) ∧
      t.f F.GRZ_SVCREQ_DROPS = s.f F.GRZ_SVCREQ_DROPS ∧ s.regsOnly t [R.GRZ_SVCREQ]) ∧
    (∀ m v, ∃ t, exec (.serviceSend m v) s = .next t ∧ (∀ i, i < 8 → (t.reg R.GRZ_SVCSEND).getLsbD i = ((s.reg R.GRZ_SVCSEND).getLsbD i || v.getLsbD i)) ∧
      s.regsOnly t [R.GRZ_SVCSEND]) ∧
    (∀ r : SvcSlot, r.val ∉ s.grz.slot → exec (.serviceResponseSent r) s = .next s) ∧
    (∀ r : SvcSlot, r.val ∈ s.grz.slot → ∃ t, exec (.serviceResponseSent r) s = .next t ∧ r.val ∉ t.grz.slot ∧
      (t.reg R.GRZ_SVCSEND).getLsbD r.val = false ∧ t.mem = s.mem ∧ t.f (F.IRQ_COAL_PCNT 162) = s.upCount 162 ∧
      t.grz.reply = some (s.rd (s.svcResp r.val) 2, s.rdBytes (s.svcResp r.val + 16) (min 1440 (s.rd (s.svcResp r.val + 2) 2))) ∧
      ({ s with grz := t.grz } : State).logAnd t [R.GRZ_SVCSEND]) ∧
    (∀ q, s.pairOf 3 = none ∨ s.f F.NET_CTRL_HOST_EN = 0 → exec (.hostServiceRequest q) s = .next s) ∧
    (∀ q p, s.pairOf 3 = some p → s.f (F.NET_PRP_GUARD p) = 0 → s.f F.NET_CTRL_HOST_EN = 1 → q.length < 16 → ∃ t, exec (.hostServiceRequest q) s = .next t ∧
      tget? t.net.sent p = some (.reply (reqSeq q) 2 []) ∧ t.f (F.IRQ_COAL_PCNT 158) = s.upCount 158 ∧
      ({ s with net := t.net } : State).logAnd t []) ∧
    (∀ q p a, s.pairOf 3 = some p → s.f (F.NET_PRP_GUARD p) = 0 → s.f F.NET_CTRL_HOST_EN = 1 → parseReq q = some ⟨reqSeq q, false, 1, a, []⟩ → hostBad a .read = false →
      regionOf a ≠ .registers → ∃ t, exec (.hostServiceRequest q) s = .next t ∧ tget? t.net.sent p = some (.reply (reqSeq q) 0 [s.rd a 4]) ∧
        ({ t with net := s.net } : State) = s) ∧
    (∀ q p a v, s.pairOf 3 = some p → s.f (F.NET_PRP_GUARD p) = 0 → s.f F.NET_CTRL_HOST_EN = 1 → parseReq q = some ⟨reqSeq q, true, 1, a, [v]⟩ → hostBad a .write = false →
      regionOf a ≠ .registers → ∃ t, exec (.hostServiceRequest q) s = .next t ∧ tget? t.net.sent p = some (.reply (reqSeq q) 0 []) ∧
        (∀ b, t.byte b = if a ≤ b ∧ b < a + 4 ∧ writeIgnored b = false then BitVec.ofNat 8 (v.toNat / 256 ^ (b - a)) else s.byte b))) ∧
  (∀ s : State,
    (∀ (lanB : Bool), exec (.burstDelayedStart lanB) s = .next (s.burstDelayed (b2n lanB))) ∧
    (∀ (g : GrzFrame), exec (.grzInputFrame g) s = .next (s.grzInput g)) ∧
    (exec .outputBurstEnd s = .next s.burstEnd) ∧
    (∀ (g : GrzFrame), exec (.serviceRequest g) s = .next (s.svcRequest g)) ∧
    (∀ (m : Master) (v : Word), exec (.serviceSend m v) s = .next (s.svcSend v)) ∧
    (∀ (req : Bytes), exec (.hostServiceRequest req) s = .next (s.hostService req)) ∧
    (∀ (r : SvcSlot), exec (.serviceResponseSent r) s = .next (s.svcSent r.val)) ∧
    (∀ (m : Master) (v : Word), exec (.serviceSlotFree m v) s = .next (s.svcFree v)))

/-- From any state in which memory and registers are listed by increasing address and no entry holds what an unlisted address reads as, every
step leads to such a state, whatever command stands in front: equal memories are equal data. The canonical form is the model's; the memory
and the registers are those of the address map. That State.reset has it is in TheStateAfterReset. (R486, R489.) -/
def Obligations.EveryStepKeepsTheTables : Prop :=
  ∀ s t : State, s.tablesOk = true → Sys2Proof.Machine.step s = .next t → t.tablesOk = true
end

