-- ==== Sys2Proof/Laws/State.lean ====
section
/-!
SUPPORT. Laws/State.lean: for each update of the state, what every field is after it.  True by unfolding; no proof needs to unfold an
update again.
-/
namespace Sys2Proof.Machine

variable (s : State)

/-! ## setReg -/

@[simp] theorem State.setReg_variant (a : Nat) (v : Word) : (s.setReg a v).variant = s.variant := rfl
@[simp] theorem State.setReg_pending (a : Nat) (v : Word) : (s.setReg a v).pending = s.pending := rfl
@[simp] theorem State.setReg_mem (a : Nat) (v : Word) : (s.setReg a v).mem = s.mem := rfl
@[simp] theorem State.setReg_regs (a : Nat) (v : Word) : (s.setReg a v).regs = tset (regReset a) s.regs a v := rfl
@[simp] theorem State.setReg_inForce (a : Nat) (v : Word) : (s.setReg a v).inForce = s.inForce := rfl
@[simp] theorem State.setReg_mregs (a : Nat) (v : Word) : (s.setReg a v).mregs = s.mregs := rfl
@[simp] theorem State.setReg_latches (a : Nat) (v : Word) : (s.setReg a v).latches = s.latches := rfl
@[simp] theorem State.setReg_lowBufs (a : Nat) (v : Word) : (s.setReg a v).lowBufs = s.lowBufs := rfl
@[simp] theorem State.setReg_recorder (a : Nat) (v : Word) : (s.setReg a v).recorder = s.recorder := rfl
@[simp] theorem State.setReg_irq (a : Nat) (v : Word) : (s.setReg a v).irq = s.irq := rfl
@[simp] theorem State.setReg_time (a : Nat) (v : Word) : (s.setReg a v).time = s.time := rfl
@[simp] theorem State.setReg_aon (a : Nat) (v : Word) : (s.setReg a v).aon = s.aon := rfl
@[simp] theorem State.setReg_pins (a : Nat) (v : Word) : (s.setReg a v).pins = s.pins := rfl
@[simp] theorem State.setReg_cml (a : Nat) (v : Word) : (s.setReg a v).cml = s.cml := rfl
@[simp] theorem State.setReg_out (a : Nat) (v : Word) : (s.setReg a v).out = s.out := rfl
@[simp] theorem State.setReg_loop (a : Nat) (v : Word) : (s.setReg a v).loop = s.loop := rfl
@[simp] theorem State.setReg_can (a : Nat) (v : Word) : (s.setReg a v).can = s.can := rfl
@[simp] theorem State.setReg_prg (a : Nat) (v : Word) : (s.setReg a v).prg = s.prg := rfl
@[simp] theorem State.setReg_pair (a : Nat) (v : Word) : (s.setReg a v).pair = s.pair := rfl
@[simp] theorem State.setReg_azs (a : Nat) (v : Word) : (s.setReg a v).azs = s.azs := rfl
@[simp] theorem State.setReg_shd (a : Nat) (v : Word) : (s.setReg a v).shd = s.shd := rfl
@[simp] theorem State.setReg_prism (a : Nat) (v : Word) : (s.setReg a v).prism = s.prism := rfl
@[simp] theorem State.setReg_gnss (a : Nat) (v : Word) : (s.setReg a v).gnss = s.gnss := rfl
@[simp] theorem State.setReg_points (a : Nat) (v : Word) : (s.setReg a v).points = s.points := rfl
@[simp] theorem State.setReg_grz (a : Nat) (v : Word) : (s.setReg a v).grz = s.grz := rfl
@[simp] theorem State.setReg_net (a : Nat) (v : Word) : (s.setReg a v).net = s.net := rfl
@[simp] theorem State.setReg_lan (a : Nat) (v : Word) : (s.setReg a v).lan = s.lan := rfl
@[simp] theorem State.setReg_tick (a : Nat) (v : Word) : (s.setReg a v).tick = s.tick := rfl
@[simp] theorem State.setReg_sys (a : Nat) (v : Word) : (s.setReg a v).sys = s.sys := rfl
@[simp] theorem State.setReg_site (a : Nat) (v : Word) : (s.setReg a v).site = s.site := rfl
@[simp] theorem State.setReg_freeCtr (a : Nat) (v : Word) : (s.setReg a v).freeCtr = s.freeCtr := rfl

/-! ## writeReg -/

@[simp] theorem State.writeReg_variant (a : Nat) (v : Word) : (s.writeReg a v).variant = s.variant := rfl
@[simp] theorem State.writeReg_pending (a : Nat) (v : Word) : (s.writeReg a v).pending = s.pending := rfl
@[simp] theorem State.writeReg_mem (a : Nat) (v : Word) : (s.writeReg a v).mem = s.mem := rfl
@[simp] theorem State.writeReg_inForce (a : Nat) (v : Word) : (s.writeReg a v).inForce = s.inForce := rfl
@[simp] theorem State.writeReg_mregs (a : Nat) (v : Word) : (s.writeReg a v).mregs = s.mregs := rfl
@[simp] theorem State.writeReg_latches (a : Nat) (v : Word) : (s.writeReg a v).latches = s.latches := rfl
@[simp] theorem State.writeReg_lowBufs (a : Nat) (v : Word) : (s.writeReg a v).lowBufs = s.lowBufs := rfl
@[simp] theorem State.writeReg_recorder (a : Nat) (v : Word) : (s.writeReg a v).recorder = s.recorder := rfl
@[simp] theorem State.writeReg_irq (a : Nat) (v : Word) : (s.writeReg a v).irq = s.irq := rfl
@[simp] theorem State.writeReg_time (a : Nat) (v : Word) : (s.writeReg a v).time = s.time := rfl
@[simp] theorem State.writeReg_aon (a : Nat) (v : Word) : (s.writeReg a v).aon = s.aon := rfl
@[simp] theorem State.writeReg_pins (a : Nat) (v : Word) : (s.writeReg a v).pins = s.pins := rfl
@[simp] theorem State.writeReg_cml (a : Nat) (v : Word) : (s.writeReg a v).cml = s.cml := rfl
@[simp] theorem State.writeReg_out (a : Nat) (v : Word) : (s.writeReg a v).out = s.out := rfl
@[simp] theorem State.writeReg_loop (a : Nat) (v : Word) : (s.writeReg a v).loop = s.loop := rfl
@[simp] theorem State.writeReg_can (a : Nat) (v : Word) : (s.writeReg a v).can = s.can := rfl
@[simp] theorem State.writeReg_prg (a : Nat) (v : Word) : (s.writeReg a v).prg = s.prg := rfl
@[simp] theorem State.writeReg_pair (a : Nat) (v : Word) : (s.writeReg a v).pair = s.pair := rfl
@[simp] theorem State.writeReg_azs (a : Nat) (v : Word) : (s.writeReg a v).azs = s.azs := rfl
@[simp] theorem State.writeReg_shd (a : Nat) (v : Word) : (s.writeReg a v).shd = s.shd := rfl
@[simp] theorem State.writeReg_prism (a : Nat) (v : Word) : (s.writeReg a v).prism = s.prism := rfl
@[simp] theorem State.writeReg_gnss (a : Nat) (v : Word) : (s.writeReg a v).gnss = s.gnss := rfl
@[simp] theorem State.writeReg_points (a : Nat) (v : Word) : (s.writeReg a v).points = s.points := rfl
@[simp] theorem State.writeReg_grz (a : Nat) (v : Word) : (s.writeReg a v).grz = s.grz := rfl
@[simp] theorem State.writeReg_net (a : Nat) (v : Word) : (s.writeReg a v).net = s.net := rfl
@[simp] theorem State.writeReg_lan (a : Nat) (v : Word) : (s.writeReg a v).lan = s.lan := rfl
@[simp] theorem State.writeReg_tick (a : Nat) (v : Word) : (s.writeReg a v).tick = s.tick := rfl
@[simp] theorem State.writeReg_sys (a : Nat) (v : Word) : (s.writeReg a v).sys = s.sys := rfl
@[simp] theorem State.writeReg_site (a : Nat) (v : Word) : (s.writeReg a v).site = s.site := rfl
@[simp] theorem State.writeReg_freeCtr (a : Nat) (v : Word) : (s.writeReg a v).freeCtr = s.freeCtr := rfl

/-! ## put -/

@[simp] theorem State.put_variant (x : Fld) (v : Nat) : (s.put x v).variant = s.variant := rfl
@[simp] theorem State.put_pending (x : Fld) (v : Nat) : (s.put x v).pending = s.pending := rfl
@[simp] theorem State.put_mem (x : Fld) (v : Nat) : (s.put x v).mem = s.mem := rfl
@[simp] theorem State.put_inForce (x : Fld) (v : Nat) : (s.put x v).inForce = s.inForce := rfl
@[simp] theorem State.put_mregs (x : Fld) (v : Nat) : (s.put x v).mregs = s.mregs := rfl
@[simp] theorem State.put_latches (x : Fld) (v : Nat) : (s.put x v).latches = s.latches := rfl
@[simp] theorem State.put_lowBufs (x : Fld) (v : Nat) : (s.put x v).lowBufs = s.lowBufs := rfl
@[simp] theorem State.put_recorder (x : Fld) (v : Nat) : (s.put x v).recorder = s.recorder := rfl
@[simp] theorem State.put_irq (x : Fld) (v : Nat) : (s.put x v).irq = s.irq := rfl
@[simp] theorem State.put_time (x : Fld) (v : Nat) : (s.put x v).time = s.time := rfl
@[simp] theorem State.put_aon (x : Fld) (v : Nat) : (s.put x v).aon = s.aon := rfl
@[simp] theorem State.put_pins (x : Fld) (v : Nat) : (s.put x v).pins = s.pins := rfl
@[simp] theorem State.put_cml (x : Fld) (v : Nat) : (s.put x v).cml = s.cml := rfl
@[simp] theorem State.put_out (x : Fld) (v : Nat) : (s.put x v).out = s.out := rfl
@[simp] theorem State.put_loop (x : Fld) (v : Nat) : (s.put x v).loop = s.loop := rfl
@[simp] theorem State.put_can (x : Fld) (v : Nat) : (s.put x v).can = s.can := rfl
@[simp] theorem State.put_prg (x : Fld) (v : Nat) : (s.put x v).prg = s.prg := rfl
@[simp] theorem State.put_pair (x : Fld) (v : Nat) : (s.put x v).pair = s.pair := rfl
@[simp] theorem State.put_azs (x : Fld) (v : Nat) : (s.put x v).azs = s.azs := rfl
@[simp] theorem State.put_shd (x : Fld) (v : Nat) : (s.put x v).shd = s.shd := rfl
@[simp] theorem State.put_prism (x : Fld) (v : Nat) : (s.put x v).prism = s.prism := rfl
@[simp] theorem State.put_gnss (x : Fld) (v : Nat) : (s.put x v).gnss = s.gnss := rfl
@[simp] theorem State.put_points (x : Fld) (v : Nat) : (s.put x v).points = s.points := rfl
@[simp] theorem State.put_grz (x : Fld) (v : Nat) : (s.put x v).grz = s.grz := rfl
@[simp] theorem State.put_net (x : Fld) (v : Nat) : (s.put x v).net = s.net := rfl
@[simp] theorem State.put_lan (x : Fld) (v : Nat) : (s.put x v).lan = s.lan := rfl
@[simp] theorem State.put_tick (x : Fld) (v : Nat) : (s.put x v).tick = s.tick := rfl
@[simp] theorem State.put_sys (x : Fld) (v : Nat) : (s.put x v).sys = s.sys := rfl
@[simp] theorem State.put_site (x : Fld) (v : Nat) : (s.put x v).site = s.site := rfl
@[simp] theorem State.put_freeCtr (x : Fld) (v : Nat) : (s.put x v).freeCtr = s.freeCtr := rfl

/-! ## puti -/

@[simp] theorem State.puti_variant (x : Fld) (v : Int) : (s.puti x v).variant = s.variant := rfl
@[simp] theorem State.puti_pending (x : Fld) (v : Int) : (s.puti x v).pending = s.pending := rfl
@[simp] theorem State.puti_mem (x : Fld) (v : Int) : (s.puti x v).mem = s.mem := rfl
@[simp] theorem State.puti_inForce (x : Fld) (v : Int) : (s.puti x v).inForce = s.inForce := rfl
@[simp] theorem State.puti_mregs (x : Fld) (v : Int) : (s.puti x v).mregs = s.mregs := rfl
@[simp] theorem State.puti_latches (x : Fld) (v : Int) : (s.puti x v).latches = s.latches := rfl
@[simp] theorem State.puti_lowBufs (x : Fld) (v : Int) : (s.puti x v).lowBufs = s.lowBufs := rfl
@[simp] theorem State.puti_recorder (x : Fld) (v : Int) : (s.puti x v).recorder = s.recorder := rfl
@[simp] theorem State.puti_irq (x : Fld) (v : Int) : (s.puti x v).irq = s.irq := rfl
@[simp] theorem State.puti_time (x : Fld) (v : Int) : (s.puti x v).time = s.time := rfl
@[simp] theorem State.puti_aon (x : Fld) (v : Int) : (s.puti x v).aon = s.aon := rfl
@[simp] theorem State.puti_pins (x : Fld) (v : Int) : (s.puti x v).pins = s.pins := rfl
@[simp] theorem State.puti_cml (x : Fld) (v : Int) : (s.puti x v).cml = s.cml := rfl
@[simp] theorem State.puti_out (x : Fld) (v : Int) : (s.puti x v).out = s.out := rfl
@[simp] theorem State.puti_loop (x : Fld) (v : Int) : (s.puti x v).loop = s.loop := rfl
@[simp] theorem State.puti_can (x : Fld) (v : Int) : (s.puti x v).can = s.can := rfl
@[simp] theorem State.puti_prg (x : Fld) (v : Int) : (s.puti x v).prg = s.prg := rfl
@[simp] theorem State.puti_pair (x : Fld) (v : Int) : (s.puti x v).pair = s.pair := rfl
@[simp] theorem State.puti_azs (x : Fld) (v : Int) : (s.puti x v).azs = s.azs := rfl
@[simp] theorem State.puti_shd (x : Fld) (v : Int) : (s.puti x v).shd = s.shd := rfl
@[simp] theorem State.puti_prism (x : Fld) (v : Int) : (s.puti x v).prism = s.prism := rfl
@[simp] theorem State.puti_gnss (x : Fld) (v : Int) : (s.puti x v).gnss = s.gnss := rfl
@[simp] theorem State.puti_points (x : Fld) (v : Int) : (s.puti x v).points = s.points := rfl
@[simp] theorem State.puti_grz (x : Fld) (v : Int) : (s.puti x v).grz = s.grz := rfl
@[simp] theorem State.puti_net (x : Fld) (v : Int) : (s.puti x v).net = s.net := rfl
@[simp] theorem State.puti_lan (x : Fld) (v : Int) : (s.puti x v).lan = s.lan := rfl
@[simp] theorem State.puti_tick (x : Fld) (v : Int) : (s.puti x v).tick = s.tick := rfl
@[simp] theorem State.puti_sys (x : Fld) (v : Int) : (s.puti x v).sys = s.sys := rfl
@[simp] theorem State.puti_site (x : Fld) (v : Int) : (s.puti x v).site = s.site := rfl
@[simp] theorem State.puti_freeCtr (x : Fld) (v : Int) : (s.puti x v).freeCtr = s.freeCtr := rfl

/-! ## putb -/

@[simp] theorem State.putb_variant (x : Fld) (v : Bool) : (s.putb x v).variant = s.variant := rfl
@[simp] theorem State.putb_pending (x : Fld) (v : Bool) : (s.putb x v).pending = s.pending := rfl
@[simp] theorem State.putb_mem (x : Fld) (v : Bool) : (s.putb x v).mem = s.mem := rfl
@[simp] theorem State.putb_inForce (x : Fld) (v : Bool) : (s.putb x v).inForce = s.inForce := rfl
@[simp] theorem State.putb_mregs (x : Fld) (v : Bool) : (s.putb x v).mregs = s.mregs := rfl
@[simp] theorem State.putb_latches (x : Fld) (v : Bool) : (s.putb x v).latches = s.latches := rfl
@[simp] theorem State.putb_lowBufs (x : Fld) (v : Bool) : (s.putb x v).lowBufs = s.lowBufs := rfl
@[simp] theorem State.putb_recorder (x : Fld) (v : Bool) : (s.putb x v).recorder = s.recorder := rfl
@[simp] theorem State.putb_irq (x : Fld) (v : Bool) : (s.putb x v).irq = s.irq := rfl
@[simp] theorem State.putb_time (x : Fld) (v : Bool) : (s.putb x v).time = s.time := rfl
@[simp] theorem State.putb_aon (x : Fld) (v : Bool) : (s.putb x v).aon = s.aon := rfl
@[simp] theorem State.putb_pins (x : Fld) (v : Bool) : (s.putb x v).pins = s.pins := rfl
@[simp] theorem State.putb_cml (x : Fld) (v : Bool) : (s.putb x v).cml = s.cml := rfl
@[simp] theorem State.putb_out (x : Fld) (v : Bool) : (s.putb x v).out = s.out := rfl
@[simp] theorem State.putb_loop (x : Fld) (v : Bool) : (s.putb x v).loop = s.loop := rfl
@[simp] theorem State.putb_can (x : Fld) (v : Bool) : (s.putb x v).can = s.can := rfl
@[simp] theorem State.putb_prg (x : Fld) (v : Bool) : (s.putb x v).prg = s.prg := rfl
@[simp] theorem State.putb_pair (x : Fld) (v : Bool) : (s.putb x v).pair = s.pair := rfl
@[simp] theorem State.putb_azs (x : Fld) (v : Bool) : (s.putb x v).azs = s.azs := rfl
@[simp] theorem State.putb_shd (x : Fld) (v : Bool) : (s.putb x v).shd = s.shd := rfl
@[simp] theorem State.putb_prism (x : Fld) (v : Bool) : (s.putb x v).prism = s.prism := rfl
@[simp] theorem State.putb_gnss (x : Fld) (v : Bool) : (s.putb x v).gnss = s.gnss := rfl
@[simp] theorem State.putb_points (x : Fld) (v : Bool) : (s.putb x v).points = s.points := rfl
@[simp] theorem State.putb_grz (x : Fld) (v : Bool) : (s.putb x v).grz = s.grz := rfl
@[simp] theorem State.putb_net (x : Fld) (v : Bool) : (s.putb x v).net = s.net := rfl
@[simp] theorem State.putb_lan (x : Fld) (v : Bool) : (s.putb x v).lan = s.lan := rfl
@[simp] theorem State.putb_tick (x : Fld) (v : Bool) : (s.putb x v).tick = s.tick := rfl
@[simp] theorem State.putb_sys (x : Fld) (v : Bool) : (s.putb x v).sys = s.sys := rfl
@[simp] theorem State.putb_site (x : Fld) (v : Bool) : (s.putb x v).site = s.site := rfl
@[simp] theorem State.putb_freeCtr (x : Fld) (v : Bool) : (s.putb x v).freeCtr = s.freeCtr := rfl

/-! ## count -/

@[simp] theorem State.count_variant (x : Fld) (d : Nat) : (s.count x d).variant = s.variant := rfl
@[simp] theorem State.count_pending (x : Fld) (d : Nat) : (s.count x d).pending = s.pending := rfl
@[simp] theorem State.count_mem (x : Fld) (d : Nat) : (s.count x d).mem = s.mem := rfl
@[simp] theorem State.count_inForce (x : Fld) (d : Nat) : (s.count x d).inForce = s.inForce := rfl
@[simp] theorem State.count_mregs (x : Fld) (d : Nat) : (s.count x d).mregs = s.mregs := rfl
@[simp] theorem State.count_latches (x : Fld) (d : Nat) : (s.count x d).latches = s.latches := rfl
@[simp] theorem State.count_lowBufs (x : Fld) (d : Nat) : (s.count x d).lowBufs = s.lowBufs := rfl
@[simp] theorem State.count_recorder (x : Fld) (d : Nat) : (s.count x d).recorder = s.recorder := rfl
@[simp] theorem State.count_irq (x : Fld) (d : Nat) : (s.count x d).irq = s.irq := rfl
@[simp] theorem State.count_time (x : Fld) (d : Nat) : (s.count x d).time = s.time := rfl
@[simp] theorem State.count_aon (x : Fld) (d : Nat) : (s.count x d).aon = s.aon := rfl
@[simp] theorem State.count_pins (x : Fld) (d : Nat) : (s.count x d).pins = s.pins := rfl
@[simp] theorem State.count_cml (x : Fld) (d : Nat) : (s.count x d).cml = s.cml := rfl
@[simp] theorem State.count_out (x : Fld) (d : Nat) : (s.count x d).out = s.out := rfl
@[simp] theorem State.count_loop (x : Fld) (d : Nat) : (s.count x d).loop = s.loop := rfl
@[simp] theorem State.count_can (x : Fld) (d : Nat) : (s.count x d).can = s.can := rfl
@[simp] theorem State.count_prg (x : Fld) (d : Nat) : (s.count x d).prg = s.prg := rfl
@[simp] theorem State.count_pair (x : Fld) (d : Nat) : (s.count x d).pair = s.pair := rfl
@[simp] theorem State.count_azs (x : Fld) (d : Nat) : (s.count x d).azs = s.azs := rfl
@[simp] theorem State.count_shd (x : Fld) (d : Nat) : (s.count x d).shd = s.shd := rfl
@[simp] theorem State.count_prism (x : Fld) (d : Nat) : (s.count x d).prism = s.prism := rfl
@[simp] theorem State.count_gnss (x : Fld) (d : Nat) : (s.count x d).gnss = s.gnss := rfl
@[simp] theorem State.count_points (x : Fld) (d : Nat) : (s.count x d).points = s.points := rfl
@[simp] theorem State.count_grz (x : Fld) (d : Nat) : (s.count x d).grz = s.grz := rfl
@[simp] theorem State.count_net (x : Fld) (d : Nat) : (s.count x d).net = s.net := rfl
@[simp] theorem State.count_lan (x : Fld) (d : Nat) : (s.count x d).lan = s.lan := rfl
@[simp] theorem State.count_tick (x : Fld) (d : Nat) : (s.count x d).tick = s.tick := rfl
@[simp] theorem State.count_sys (x : Fld) (d : Nat) : (s.count x d).sys = s.sys := rfl
@[simp] theorem State.count_site (x : Fld) (d : Nat) : (s.count x d).site = s.site := rfl
@[simp] theorem State.count_freeCtr (x : Fld) (d : Nat) : (s.count x d).freeCtr = s.freeCtr := rfl

/-! ## bump -/

@[simp] theorem State.bump_variant (x : Fld) : (s.bump x).variant = s.variant := rfl
@[simp] theorem State.bump_pending (x : Fld) : (s.bump x).pending = s.pending := rfl
@[simp] theorem State.bump_mem (x : Fld) : (s.bump x).mem = s.mem := rfl
@[simp] theorem State.bump_inForce (x : Fld) : (s.bump x).inForce = s.inForce := rfl
@[simp] theorem State.bump_mregs (x : Fld) : (s.bump x).mregs = s.mregs := rfl
@[simp] theorem State.bump_latches (x : Fld) : (s.bump x).latches = s.latches := rfl
@[simp] theorem State.bump_lowBufs (x : Fld) : (s.bump x).lowBufs = s.lowBufs := rfl
@[simp] theorem State.bump_recorder (x : Fld) : (s.bump x).recorder = s.recorder := rfl
@[simp] theorem State.bump_irq (x : Fld) : (s.bump x).irq = s.irq := rfl
@[simp] theorem State.bump_time (x : Fld) : (s.bump x).time = s.time := rfl
@[simp] theorem State.bump_aon (x : Fld) : (s.bump x).aon = s.aon := rfl
@[simp] theorem State.bump_pins (x : Fld) : (s.bump x).pins = s.pins := rfl
@[simp] theorem State.bump_cml (x : Fld) : (s.bump x).cml = s.cml := rfl
@[simp] theorem State.bump_out (x : Fld) : (s.bump x).out = s.out := rfl
@[simp] theorem State.bump_loop (x : Fld) : (s.bump x).loop = s.loop := rfl
@[simp] theorem State.bump_can (x : Fld) : (s.bump x).can = s.can := rfl
@[simp] theorem State.bump_prg (x : Fld) : (s.bump x).prg = s.prg := rfl
@[simp] theorem State.bump_pair (x : Fld) : (s.bump x).pair = s.pair := rfl
@[simp] theorem State.bump_azs (x : Fld) : (s.bump x).azs = s.azs := rfl
@[simp] theorem State.bump_shd (x : Fld) : (s.bump x).shd = s.shd := rfl
@[simp] theorem State.bump_prism (x : Fld) : (s.bump x).prism = s.prism := rfl
@[simp] theorem State.bump_gnss (x : Fld) : (s.bump x).gnss = s.gnss := rfl
@[simp] theorem State.bump_points (x : Fld) : (s.bump x).points = s.points := rfl
@[simp] theorem State.bump_grz (x : Fld) : (s.bump x).grz = s.grz := rfl
@[simp] theorem State.bump_net (x : Fld) : (s.bump x).net = s.net := rfl
@[simp] theorem State.bump_lan (x : Fld) : (s.bump x).lan = s.lan := rfl
@[simp] theorem State.bump_tick (x : Fld) : (s.bump x).tick = s.tick := rfl
@[simp] theorem State.bump_sys (x : Fld) : (s.bump x).sys = s.sys := rfl
@[simp] theorem State.bump_site (x : Fld) : (s.bump x).site = s.site := rfl
@[simp] theorem State.bump_freeCtr (x : Fld) : (s.bump x).freeCtr = s.freeCtr := rfl

/-! ## setBit -/

@[simp] theorem State.setBit_variant (a k : Nat) (v : Bool) : (s.setBit a k v).variant = s.variant := rfl
@[simp] theorem State.setBit_pending (a k : Nat) (v : Bool) : (s.setBit a k v).pending = s.pending := rfl
@[simp] theorem State.setBit_mem (a k : Nat) (v : Bool) : (s.setBit a k v).mem = s.mem := rfl
@[simp] theorem State.setBit_inForce (a k : Nat) (v : Bool) : (s.setBit a k v).inForce = s.inForce := rfl
@[simp] theorem State.setBit_mregs (a k : Nat) (v : Bool) : (s.setBit a k v).mregs = s.mregs := rfl
@[simp] theorem State.setBit_latches (a k : Nat) (v : Bool) : (s.setBit a k v).latches = s.latches := rfl
@[simp] theorem State.setBit_lowBufs (a k : Nat) (v : Bool) : (s.setBit a k v).lowBufs = s.lowBufs := rfl
@[simp] theorem State.setBit_recorder (a k : Nat) (v : Bool) : (s.setBit a k v).recorder = s.recorder := rfl
@[simp] theorem State.setBit_irq (a k : Nat) (v : Bool) : (s.setBit a k v).irq = s.irq := rfl
@[simp] theorem State.setBit_time (a k : Nat) (v : Bool) : (s.setBit a k v).time = s.time := rfl
@[simp] theorem State.setBit_aon (a k : Nat) (v : Bool) : (s.setBit a k v).aon = s.aon := rfl
@[simp] theorem State.setBit_pins (a k : Nat) (v : Bool) : (s.setBit a k v).pins = s.pins := rfl
@[simp] theorem State.setBit_cml (a k : Nat) (v : Bool) : (s.setBit a k v).cml = s.cml := rfl
@[simp] theorem State.setBit_out (a k : Nat) (v : Bool) : (s.setBit a k v).out = s.out := rfl
@[simp] theorem State.setBit_loop (a k : Nat) (v : Bool) : (s.setBit a k v).loop = s.loop := rfl
@[simp] theorem State.setBit_can (a k : Nat) (v : Bool) : (s.setBit a k v).can = s.can := rfl
@[simp] theorem State.setBit_prg (a k : Nat) (v : Bool) : (s.setBit a k v).prg = s.prg := rfl
@[simp] theorem State.setBit_pair (a k : Nat) (v : Bool) : (s.setBit a k v).pair = s.pair := rfl
@[simp] theorem State.setBit_azs (a k : Nat) (v : Bool) : (s.setBit a k v).azs = s.azs := rfl
@[simp] theorem State.setBit_shd (a k : Nat) (v : Bool) : (s.setBit a k v).shd = s.shd := rfl
@[simp] theorem State.setBit_prism (a k : Nat) (v : Bool) : (s.setBit a k v).prism = s.prism := rfl
@[simp] theorem State.setBit_gnss (a k : Nat) (v : Bool) : (s.setBit a k v).gnss = s.gnss := rfl
@[simp] theorem State.setBit_points (a k : Nat) (v : Bool) : (s.setBit a k v).points = s.points := rfl
@[simp] theorem State.setBit_grz (a k : Nat) (v : Bool) : (s.setBit a k v).grz = s.grz := rfl
@[simp] theorem State.setBit_net (a k : Nat) (v : Bool) : (s.setBit a k v).net = s.net := rfl
@[simp] theorem State.setBit_lan (a k : Nat) (v : Bool) : (s.setBit a k v).lan = s.lan := rfl
@[simp] theorem State.setBit_tick (a k : Nat) (v : Bool) : (s.setBit a k v).tick = s.tick := rfl
@[simp] theorem State.setBit_sys (a k : Nat) (v : Bool) : (s.setBit a k v).sys = s.sys := rfl
@[simp] theorem State.setBit_site (a k : Nat) (v : Bool) : (s.setBit a k v).site = s.site := rfl
@[simp] theorem State.setBit_freeCtr (a k : Nat) (v : Bool) : (s.setBit a k v).freeCtr = s.freeCtr := rfl

/-! ## setReg64 -/

@[simp] theorem State.setReg64_variant (a v : Nat) : (s.setReg64 a v).variant = s.variant := rfl
@[simp] theorem State.setReg64_pending (a v : Nat) : (s.setReg64 a v).pending = s.pending := rfl
@[simp] theorem State.setReg64_mem (a v : Nat) : (s.setReg64 a v).mem = s.mem := rfl
@[simp] theorem State.setReg64_inForce (a v : Nat) : (s.setReg64 a v).inForce = s.inForce := rfl
@[simp] theorem State.setReg64_mregs (a v : Nat) : (s.setReg64 a v).mregs = s.mregs := rfl
@[simp] theorem State.setReg64_latches (a v : Nat) : (s.setReg64 a v).latches = s.latches := rfl
@[simp] theorem State.setReg64_lowBufs (a v : Nat) : (s.setReg64 a v).lowBufs = s.lowBufs := rfl
@[simp] theorem State.setReg64_recorder (a v : Nat) : (s.setReg64 a v).recorder = s.recorder := rfl
@[simp] theorem State.setReg64_irq (a v : Nat) : (s.setReg64 a v).irq = s.irq := rfl
@[simp] theorem State.setReg64_time (a v : Nat) : (s.setReg64 a v).time = s.time := rfl
@[simp] theorem State.setReg64_aon (a v : Nat) : (s.setReg64 a v).aon = s.aon := rfl
@[simp] theorem State.setReg64_pins (a v : Nat) : (s.setReg64 a v).pins = s.pins := rfl
@[simp] theorem State.setReg64_cml (a v : Nat) : (s.setReg64 a v).cml = s.cml := rfl
@[simp] theorem State.setReg64_out (a v : Nat) : (s.setReg64 a v).out = s.out := rfl
@[simp] theorem State.setReg64_loop (a v : Nat) : (s.setReg64 a v).loop = s.loop := rfl
@[simp] theorem State.setReg64_can (a v : Nat) : (s.setReg64 a v).can = s.can := rfl
@[simp] theorem State.setReg64_prg (a v : Nat) : (s.setReg64 a v).prg = s.prg := rfl
@[simp] theorem State.setReg64_pair (a v : Nat) : (s.setReg64 a v).pair = s.pair := rfl
@[simp] theorem State.setReg64_azs (a v : Nat) : (s.setReg64 a v).azs = s.azs := rfl
@[simp] theorem State.setReg64_shd (a v : Nat) : (s.setReg64 a v).shd = s.shd := rfl
@[simp] theorem State.setReg64_prism (a v : Nat) : (s.setReg64 a v).prism = s.prism := rfl
@[simp] theorem State.setReg64_gnss (a v : Nat) : (s.setReg64 a v).gnss = s.gnss := rfl
@[simp] theorem State.setReg64_points (a v : Nat) : (s.setReg64 a v).points = s.points := rfl
@[simp] theorem State.setReg64_grz (a v : Nat) : (s.setReg64 a v).grz = s.grz := rfl
@[simp] theorem State.setReg64_net (a v : Nat) : (s.setReg64 a v).net = s.net := rfl
@[simp] theorem State.setReg64_lan (a v : Nat) : (s.setReg64 a v).lan = s.lan := rfl
@[simp] theorem State.setReg64_tick (a v : Nat) : (s.setReg64 a v).tick = s.tick := rfl
@[simp] theorem State.setReg64_sys (a v : Nat) : (s.setReg64 a v).sys = s.sys := rfl
@[simp] theorem State.setReg64_site (a v : Nat) : (s.setReg64 a v).site = s.site := rfl
@[simp] theorem State.setReg64_freeCtr (a v : Nat) : (s.setReg64 a v).freeCtr = s.freeCtr := rfl

/-! ## setMode -/

@[simp] theorem State.setMode_variant (m : Mode) : (s.setMode m).variant = s.variant := rfl
@[simp] theorem State.setMode_pending (m : Mode) : (s.setMode m).pending = s.pending := rfl
@[simp] theorem State.setMode_mem (m : Mode) : (s.setMode m).mem = s.mem := rfl
@[simp] theorem State.setMode_inForce (m : Mode) : (s.setMode m).inForce = s.inForce := rfl
@[simp] theorem State.setMode_mregs (m : Mode) : (s.setMode m).mregs = s.mregs := rfl
@[simp] theorem State.setMode_latches (m : Mode) : (s.setMode m).latches = s.latches := rfl
@[simp] theorem State.setMode_lowBufs (m : Mode) : (s.setMode m).lowBufs = s.lowBufs := rfl
@[simp] theorem State.setMode_recorder (m : Mode) : (s.setMode m).recorder = s.recorder := rfl
@[simp] theorem State.setMode_irq (m : Mode) : (s.setMode m).irq = s.irq := rfl
@[simp] theorem State.setMode_time (m : Mode) : (s.setMode m).time = s.time := rfl
@[simp] theorem State.setMode_aon (m : Mode) : (s.setMode m).aon = s.aon := rfl
@[simp] theorem State.setMode_pins (m : Mode) : (s.setMode m).pins = s.pins := rfl
@[simp] theorem State.setMode_cml (m : Mode) : (s.setMode m).cml = s.cml := rfl
@[simp] theorem State.setMode_out (m : Mode) : (s.setMode m).out = s.out := rfl
@[simp] theorem State.setMode_loop (m : Mode) : (s.setMode m).loop = s.loop := rfl
@[simp] theorem State.setMode_can (m : Mode) : (s.setMode m).can = s.can := rfl
@[simp] theorem State.setMode_prg (m : Mode) : (s.setMode m).prg = s.prg := rfl
@[simp] theorem State.setMode_pair (m : Mode) : (s.setMode m).pair = s.pair := rfl
@[simp] theorem State.setMode_azs (m : Mode) : (s.setMode m).azs = s.azs := rfl
@[simp] theorem State.setMode_shd (m : Mode) : (s.setMode m).shd = s.shd := rfl
@[simp] theorem State.setMode_prism (m : Mode) : (s.setMode m).prism = s.prism := rfl
@[simp] theorem State.setMode_gnss (m : Mode) : (s.setMode m).gnss = s.gnss := rfl
@[simp] theorem State.setMode_points (m : Mode) : (s.setMode m).points = s.points := rfl
@[simp] theorem State.setMode_grz (m : Mode) : (s.setMode m).grz = s.grz := rfl
@[simp] theorem State.setMode_net (m : Mode) : (s.setMode m).net = s.net := rfl
@[simp] theorem State.setMode_lan (m : Mode) : (s.setMode m).lan = s.lan := rfl
@[simp] theorem State.setMode_tick (m : Mode) : (s.setMode m).tick = s.tick := rfl
@[simp] theorem State.setMode_sys (m : Mode) : (s.setMode m).sys = s.sys := rfl
@[simp] theorem State.setMode_site (m : Mode) : (s.setMode m).site = s.site := rfl
@[simp] theorem State.setMode_freeCtr (m : Mode) : (s.setMode m).freeCtr = s.freeCtr := rfl

/-! ## setLater -/

@[simp] theorem State.setLater_variant (a : Nat) (v : Word) : (s.setLater a v).variant = s.variant := rfl
@[simp] theorem State.setLater_pending (a : Nat) (v : Word) : (s.setLater a v).pending = s.pending := rfl
@[simp] theorem State.setLater_mem (a : Nat) (v : Word) : (s.setLater a v).mem = s.mem := rfl
@[simp] theorem State.setLater_mregs (a : Nat) (v : Word) : (s.setLater a v).mregs = s.mregs := rfl
@[simp] theorem State.setLater_latches (a : Nat) (v : Word) : (s.setLater a v).latches = s.latches := rfl
@[simp] theorem State.setLater_lowBufs (a : Nat) (v : Word) : (s.setLater a v).lowBufs = s.lowBufs := rfl
@[simp] theorem State.setLater_recorder (a : Nat) (v : Word) : (s.setLater a v).recorder = s.recorder := rfl
@[simp] theorem State.setLater_irq (a : Nat) (v : Word) : (s.setLater a v).irq = s.irq := rfl
@[simp] theorem State.setLater_time (a : Nat) (v : Word) : (s.setLater a v).time = s.time := rfl
@[simp] theorem State.setLater_aon (a : Nat) (v : Word) : (s.setLater a v).aon = s.aon := rfl
@[simp] theorem State.setLater_pins (a : Nat) (v : Word) : (s.setLater a v).pins = s.pins := rfl
@[simp] theorem State.setLater_cml (a : Nat) (v : Word) : (s.setLater a v).cml = s.cml := rfl
@[simp] theorem State.setLater_out (a : Nat) (v : Word) : (s.setLater a v).out = s.out := rfl
@[simp] theorem State.setLater_loop (a : Nat) (v : Word) : (s.setLater a v).loop = s.loop := rfl
@[simp] theorem State.setLater_can (a : Nat) (v : Word) : (s.setLater a v).can = s.can := rfl
@[simp] theorem State.setLater_prg (a : Nat) (v : Word) : (s.setLater a v).prg = s.prg := rfl
@[simp] theorem State.setLater_pair (a : Nat) (v : Word) : (s.setLater a v).pair = s.pair := rfl
@[simp] theorem State.setLater_azs (a : Nat) (v : Word) : (s.setLater a v).azs = s.azs := rfl
@[simp] theorem State.setLater_shd (a : Nat) (v : Word) : (s.setLater a v).shd = s.shd := rfl
@[simp] theorem State.setLater_prism (a : Nat) (v : Word) : (s.setLater a v).prism = s.prism := rfl
@[simp] theorem State.setLater_gnss (a : Nat) (v : Word) : (s.setLater a v).gnss = s.gnss := rfl
@[simp] theorem State.setLater_points (a : Nat) (v : Word) : (s.setLater a v).points = s.points := rfl
@[simp] theorem State.setLater_grz (a : Nat) (v : Word) : (s.setLater a v).grz = s.grz := rfl
@[simp] theorem State.setLater_net (a : Nat) (v : Word) : (s.setLater a v).net = s.net := rfl
@[simp] theorem State.setLater_lan (a : Nat) (v : Word) : (s.setLater a v).lan = s.lan := rfl
@[simp] theorem State.setLater_tick (a : Nat) (v : Word) : (s.setLater a v).tick = s.tick := rfl
@[simp] theorem State.setLater_sys (a : Nat) (v : Word) : (s.setLater a v).sys = s.sys := rfl
@[simp] theorem State.setLater_site (a : Nat) (v : Word) : (s.setLater a v).site = s.site := rfl
@[simp] theorem State.setLater_freeCtr (a : Nat) (v : Word) : (s.setLater a v).freeCtr = s.freeCtr := rfl

/-! ## takeEffect -/

@[simp] theorem State.takeEffect_variant (a b : Nat) : (s.takeEffect a b).variant = s.variant := rfl
@[simp] theorem State.takeEffect_pending (a b : Nat) : (s.takeEffect a b).pending = s.pending := rfl
@[simp] theorem State.takeEffect_mem (a b : Nat) : (s.takeEffect a b).mem = s.mem := rfl
@[simp] theorem State.takeEffect_regs (a b : Nat) : (s.takeEffect a b).regs = s.regs := rfl
@[simp] theorem State.takeEffect_inForce (a b : Nat) : (s.takeEffect a b).inForce = s.inForce.filter fun e => decide (e.1 < a) || decide (b ≤ e.1) := rfl
@[simp] theorem State.takeEffect_mregs (a b : Nat) : (s.takeEffect a b).mregs = s.mregs := rfl
@[simp] theorem State.takeEffect_latches (a b : Nat) : (s.takeEffect a b).latches = s.latches := rfl
@[simp] theorem State.takeEffect_lowBufs (a b : Nat) : (s.takeEffect a b).lowBufs = s.lowBufs := rfl
@[simp] theorem State.takeEffect_recorder (a b : Nat) : (s.takeEffect a b).recorder = s.recorder := rfl
@[simp] theorem State.takeEffect_irq (a b : Nat) : (s.takeEffect a b).irq = s.irq := rfl
@[simp] theorem State.takeEffect_time (a b : Nat) : (s.takeEffect a b).time = s.time := rfl
@[simp] theorem State.takeEffect_aon (a b : Nat) : (s.takeEffect a b).aon = s.aon := rfl
@[simp] theorem State.takeEffect_pins (a b : Nat) : (s.takeEffect a b).pins = s.pins := rfl
@[simp] theorem State.takeEffect_cml (a b : Nat) : (s.takeEffect a b).cml = s.cml := rfl
@[simp] theorem State.takeEffect_out (a b : Nat) : (s.takeEffect a b).out = s.out := rfl
@[simp] theorem State.takeEffect_loop (a b : Nat) : (s.takeEffect a b).loop = s.loop := rfl
@[simp] theorem State.takeEffect_can (a b : Nat) : (s.takeEffect a b).can = s.can := rfl
@[simp] theorem State.takeEffect_prg (a b : Nat) : (s.takeEffect a b).prg = s.prg := rfl
@[simp] theorem State.takeEffect_pair (a b : Nat) : (s.takeEffect a b).pair = s.pair := rfl
@[simp] theorem State.takeEffect_azs (a b : Nat) : (s.takeEffect a b).azs = s.azs := rfl
@[simp] theorem State.takeEffect_shd (a b : Nat) : (s.takeEffect a b).shd = s.shd := rfl
@[simp] theorem State.takeEffect_prism (a b : Nat) : (s.takeEffect a b).prism = s.prism := rfl
@[simp] theorem State.takeEffect_gnss (a b : Nat) : (s.takeEffect a b).gnss = s.gnss := rfl
@[simp] theorem State.takeEffect_points (a b : Nat) : (s.takeEffect a b).points = s.points := rfl
@[simp] theorem State.takeEffect_grz (a b : Nat) : (s.takeEffect a b).grz = s.grz := rfl
@[simp] theorem State.takeEffect_net (a b : Nat) : (s.takeEffect a b).net = s.net := rfl
@[simp] theorem State.takeEffect_lan (a b : Nat) : (s.takeEffect a b).lan = s.lan := rfl
@[simp] theorem State.takeEffect_tick (a b : Nat) : (s.takeEffect a b).tick = s.tick := rfl
@[simp] theorem State.takeEffect_sys (a b : Nat) : (s.takeEffect a b).sys = s.sys := rfl
@[simp] theorem State.takeEffect_site (a b : Nat) : (s.takeEffect a b).site = s.site := rfl
@[simp] theorem State.takeEffect_freeCtr (a b : Nat) : (s.takeEffect a b).freeCtr = s.freeCtr := rfl

/-! ## setMreg -/

@[simp] theorem State.setMreg_variant (m : Master) (a : Nat) (v : Word) : (s.setMreg m a v).variant = s.variant := rfl
@[simp] theorem State.setMreg_pending (m : Master) (a : Nat) (v : Word) : (s.setMreg m a v).pending = s.pending := rfl
@[simp] theorem State.setMreg_mem (m : Master) (a : Nat) (v : Word) : (s.setMreg m a v).mem = s.mem := rfl
@[simp] theorem State.setMreg_regs (m : Master) (a : Nat) (v : Word) : (s.setMreg m a v).regs = s.regs := rfl
@[simp] theorem State.setMreg_inForce (m : Master) (a : Nat) (v : Word) : (s.setMreg m a v).inForce = s.inForce := rfl
@[simp] theorem State.setMreg_mregs (m : Master) (a : Nat) (v : Word) : (s.setMreg m a v).mregs = tset 0 s.mregs (mkey m a) v := rfl
@[simp] theorem State.setMreg_latches (m : Master) (a : Nat) (v : Word) : (s.setMreg m a v).latches = s.latches := rfl
@[simp] theorem State.setMreg_lowBufs (m : Master) (a : Nat) (v : Word) : (s.setMreg m a v).lowBufs = s.lowBufs := rfl
@[simp] theorem State.setMreg_recorder (m : Master) (a : Nat) (v : Word) : (s.setMreg m a v).recorder = s.recorder := rfl
@[simp] theorem State.setMreg_irq (m : Master) (a : Nat) (v : Word) : (s.setMreg m a v).irq = s.irq := rfl
@[simp] theorem State.setMreg_time (m : Master) (a : Nat) (v : Word) : (s.setMreg m a v).time = s.time := rfl
@[simp] theorem State.setMreg_aon (m : Master) (a : Nat) (v : Word) : (s.setMreg m a v).aon = s.aon := rfl
@[simp] theorem State.setMreg_pins (m : Master) (a : Nat) (v : Word) : (s.setMreg m a v).pins = s.pins := rfl
@[simp] theorem State.setMreg_cml (m : Master) (a : Nat) (v : Word) : (s.setMreg m a v).cml = s.cml := rfl
@[simp] theorem State.setMreg_out (m : Master) (a : Nat) (v : Word) : (s.setMreg m a v).out = s.out := rfl
@[simp] theorem State.setMreg_loop (m : Master) (a : Nat) (v : Word) : (s.setMreg m a v).loop = s.loop := rfl
@[simp] theorem State.setMreg_can (m : Master) (a : Nat) (v : Word) : (s.setMreg m a v).can = s.can := rfl
@[simp] theorem State.setMreg_prg (m : Master) (a : Nat) (v : Word) : (s.setMreg m a v).prg = s.prg := rfl
@[simp] theorem State.setMreg_pair (m : Master) (a : Nat) (v : Word) : (s.setMreg m a v).pair = s.pair := rfl
@[simp] theorem State.setMreg_azs (m : Master) (a : Nat) (v : Word) : (s.setMreg m a v).azs = s.azs := rfl
@[simp] theorem State.setMreg_shd (m : Master) (a : Nat) (v : Word) : (s.setMreg m a v).shd = s.shd := rfl
@[simp] theorem State.setMreg_prism (m : Master) (a : Nat) (v : Word) : (s.setMreg m a v).prism = s.prism := rfl
@[simp] theorem State.setMreg_gnss (m : Master) (a : Nat) (v : Word) : (s.setMreg m a v).gnss = s.gnss := rfl
@[simp] theorem State.setMreg_points (m : Master) (a : Nat) (v : Word) : (s.setMreg m a v).points = s.points := rfl
@[simp] theorem State.setMreg_grz (m : Master) (a : Nat) (v : Word) : (s.setMreg m a v).grz = s.grz := rfl
@[simp] theorem State.setMreg_net (m : Master) (a : Nat) (v : Word) : (s.setMreg m a v).net = s.net := rfl
@[simp] theorem State.setMreg_lan (m : Master) (a : Nat) (v : Word) : (s.setMreg m a v).lan = s.lan := rfl
@[simp] theorem State.setMreg_tick (m : Master) (a : Nat) (v : Word) : (s.setMreg m a v).tick = s.tick := rfl
@[simp] theorem State.setMreg_sys (m : Master) (a : Nat) (v : Word) : (s.setMreg m a v).sys = s.sys := rfl
@[simp] theorem State.setMreg_site (m : Master) (a : Nat) (v : Word) : (s.setMreg m a v).site = s.site := rfl
@[simp] theorem State.setMreg_freeCtr (m : Master) (a : Nat) (v : Word) : (s.setMreg m a v).freeCtr = s.freeCtr := rfl

/-! ## mput -/

@[simp] theorem State.mput_variant (m : Master) (x : Fld) (v : Nat) : (s.mput m x v).variant = s.variant := rfl
@[simp] theorem State.mput_pending (m : Master) (x : Fld) (v : Nat) : (s.mput m x v).pending = s.pending := rfl
@[simp] theorem State.mput_mem (m : Master) (x : Fld) (v : Nat) : (s.mput m x v).mem = s.mem := rfl
@[simp] theorem State.mput_regs (m : Master) (x : Fld) (v : Nat) : (s.mput m x v).regs = s.regs := rfl
@[simp] theorem State.mput_inForce (m : Master) (x : Fld) (v : Nat) : (s.mput m x v).inForce = s.inForce := rfl
@[simp] theorem State.mput_latches (m : Master) (x : Fld) (v : Nat) : (s.mput m x v).latches = s.latches := rfl
@[simp] theorem State.mput_lowBufs (m : Master) (x : Fld) (v : Nat) : (s.mput m x v).lowBufs = s.lowBufs := rfl
@[simp] theorem State.mput_recorder (m : Master) (x : Fld) (v : Nat) : (s.mput m x v).recorder = s.recorder := rfl
@[simp] theorem State.mput_irq (m : Master) (x : Fld) (v : Nat) : (s.mput m x v).irq = s.irq := rfl
@[simp] theorem State.mput_time (m : Master) (x : Fld) (v : Nat) : (s.mput m x v).time = s.time := rfl
@[simp] theorem State.mput_aon (m : Master) (x : Fld) (v : Nat) : (s.mput m x v).aon = s.aon := rfl
@[simp] theorem State.mput_pins (m : Master) (x : Fld) (v : Nat) : (s.mput m x v).pins = s.pins := rfl
@[simp] theorem State.mput_cml (m : Master) (x : Fld) (v : Nat) : (s.mput m x v).cml = s.cml := rfl
@[simp] theorem State.mput_out (m : Master) (x : Fld) (v : Nat) : (s.mput m x v).out = s.out := rfl
@[simp] theorem State.mput_loop (m : Master) (x : Fld) (v : Nat) : (s.mput m x v).loop = s.loop := rfl
@[simp] theorem State.mput_can (m : Master) (x : Fld) (v : Nat) : (s.mput m x v).can = s.can := rfl
@[simp] theorem State.mput_prg (m : Master) (x : Fld) (v : Nat) : (s.mput m x v).prg = s.prg := rfl
@[simp] theorem State.mput_pair (m : Master) (x : Fld) (v : Nat) : (s.mput m x v).pair = s.pair := rfl
@[simp] theorem State.mput_azs (m : Master) (x : Fld) (v : Nat) : (s.mput m x v).azs = s.azs := rfl
@[simp] theorem State.mput_shd (m : Master) (x : Fld) (v : Nat) : (s.mput m x v).shd = s.shd := rfl
@[simp] theorem State.mput_prism (m : Master) (x : Fld) (v : Nat) : (s.mput m x v).prism = s.prism := rfl
@[simp] theorem State.mput_gnss (m : Master) (x : Fld) (v : Nat) : (s.mput m x v).gnss = s.gnss := rfl
@[simp] theorem State.mput_points (m : Master) (x : Fld) (v : Nat) : (s.mput m x v).points = s.points := rfl
@[simp] theorem State.mput_grz (m : Master) (x : Fld) (v : Nat) : (s.mput m x v).grz = s.grz := rfl
@[simp] theorem State.mput_net (m : Master) (x : Fld) (v : Nat) : (s.mput m x v).net = s.net := rfl
@[simp] theorem State.mput_lan (m : Master) (x : Fld) (v : Nat) : (s.mput m x v).lan = s.lan := rfl
@[simp] theorem State.mput_tick (m : Master) (x : Fld) (v : Nat) : (s.mput m x v).tick = s.tick := rfl
@[simp] theorem State.mput_sys (m : Master) (x : Fld) (v : Nat) : (s.mput m x v).sys = s.sys := rfl
@[simp] theorem State.mput_site (m : Master) (x : Fld) (v : Nat) : (s.mput m x v).site = s.site := rfl
@[simp] theorem State.mput_freeCtr (m : Master) (x : Fld) (v : Nat) : (s.mput m x v).freeCtr = s.freeCtr := rfl

/-! ## setBase -/

@[simp] theorem State.setBase_variant (b : Nat) (v : BaseVal) : (s.setBase b v).variant = s.variant := rfl
@[simp] theorem State.setBase_pending (b : Nat) (v : BaseVal) : (s.setBase b v).pending = s.pending := rfl
@[simp] theorem State.setBase_mem (b : Nat) (v : BaseVal) : (s.setBase b v).mem = s.mem := rfl
@[simp] theorem State.setBase_regs (b : Nat) (v : BaseVal) : (s.setBase b v).regs = s.regs := rfl
@[simp] theorem State.setBase_inForce (b : Nat) (v : BaseVal) : (s.setBase b v).inForce = s.inForce := rfl
@[simp] theorem State.setBase_mregs (b : Nat) (v : BaseVal) : (s.setBase b v).mregs = s.mregs := rfl
@[simp] theorem State.setBase_latches (b : Nat) (v : BaseVal) : (s.setBase b v).latches = s.latches := rfl
@[simp] theorem State.setBase_lowBufs (b : Nat) (v : BaseVal) : (s.setBase b v).lowBufs = s.lowBufs := rfl
@[simp] theorem State.setBase_recorder (b : Nat) (v : BaseVal) : (s.setBase b v).recorder = s.recorder := rfl
@[simp] theorem State.setBase_irq (b : Nat) (v : BaseVal) : (s.setBase b v).irq = s.irq := rfl
@[simp] theorem State.setBase_time (b : Nat) (v : BaseVal) : (s.setBase b v).time = { s.time with bases := tset {} s.time.bases b v } := rfl
@[simp] theorem State.setBase_aon (b : Nat) (v : BaseVal) : (s.setBase b v).aon = s.aon := rfl
@[simp] theorem State.setBase_pins (b : Nat) (v : BaseVal) : (s.setBase b v).pins = s.pins := rfl
@[simp] theorem State.setBase_cml (b : Nat) (v : BaseVal) : (s.setBase b v).cml = s.cml := rfl
@[simp] theorem State.setBase_out (b : Nat) (v : BaseVal) : (s.setBase b v).out = s.out := rfl
@[simp] theorem State.setBase_loop (b : Nat) (v : BaseVal) : (s.setBase b v).loop = s.loop := rfl
@[simp] theorem State.setBase_can (b : Nat) (v : BaseVal) : (s.setBase b v).can = s.can := rfl
@[simp] theorem State.setBase_prg (b : Nat) (v : BaseVal) : (s.setBase b v).prg = s.prg := rfl
@[simp] theorem State.setBase_pair (b : Nat) (v : BaseVal) : (s.setBase b v).pair = s.pair := rfl
@[simp] theorem State.setBase_azs (b : Nat) (v : BaseVal) : (s.setBase b v).azs = s.azs := rfl
@[simp] theorem State.setBase_shd (b : Nat) (v : BaseVal) : (s.setBase b v).shd = s.shd := rfl
@[simp] theorem State.setBase_prism (b : Nat) (v : BaseVal) : (s.setBase b v).prism = s.prism := rfl
@[simp] theorem State.setBase_gnss (b : Nat) (v : BaseVal) : (s.setBase b v).gnss = s.gnss := rfl
@[simp] theorem State.setBase_points (b : Nat) (v : BaseVal) : (s.setBase b v).points = s.points := rfl
@[simp] theorem State.setBase_grz (b : Nat) (v : BaseVal) : (s.setBase b v).grz = s.grz := rfl
@[simp] theorem State.setBase_net (b : Nat) (v : BaseVal) : (s.setBase b v).net = s.net := rfl
@[simp] theorem State.setBase_lan (b : Nat) (v : BaseVal) : (s.setBase b v).lan = s.lan := rfl
@[simp] theorem State.setBase_tick (b : Nat) (v : BaseVal) : (s.setBase b v).tick = s.tick := rfl
@[simp] theorem State.setBase_sys (b : Nat) (v : BaseVal) : (s.setBase b v).sys = s.sys := rfl
@[simp] theorem State.setBase_site (b : Nat) (v : BaseVal) : (s.setBase b v).site = s.site := rfl
@[simp] theorem State.setBase_freeCtr (b : Nat) (v : BaseVal) : (s.setBase b v).freeCtr = s.freeCtr := rfl

/-! ## refreshPoint -/

@[simp] theorem State.refreshPoint_variant (k u : Nat) : (s.refreshPoint k u).variant = s.variant := rfl
@[simp] theorem State.refreshPoint_pending (k u : Nat) : (s.refreshPoint k u).pending = s.pending := rfl
@[simp] theorem State.refreshPoint_mem (k u : Nat) : (s.refreshPoint k u).mem = s.mem := rfl
@[simp] theorem State.refreshPoint_regs (k u : Nat) : (s.refreshPoint k u).regs = s.regs := rfl
@[simp] theorem State.refreshPoint_inForce (k u : Nat) : (s.refreshPoint k u).inForce = s.inForce := rfl
@[simp] theorem State.refreshPoint_mregs (k u : Nat) : (s.refreshPoint k u).mregs = s.mregs := rfl
@[simp] theorem State.refreshPoint_latches (k u : Nat) : (s.refreshPoint k u).latches = s.latches := rfl
@[simp] theorem State.refreshPoint_lowBufs (k u : Nat) : (s.refreshPoint k u).lowBufs = s.lowBufs := rfl
@[simp] theorem State.refreshPoint_recorder (k u : Nat) : (s.refreshPoint k u).recorder = s.recorder := rfl
@[simp] theorem State.refreshPoint_irq (k u : Nat) : (s.refreshPoint k u).irq = s.irq := rfl
@[simp] theorem State.refreshPoint_time (k u : Nat) : (s.refreshPoint k u).time = s.time := rfl
@[simp] theorem State.refreshPoint_aon (k u : Nat) : (s.refreshPoint k u).aon = s.aon := rfl
@[simp] theorem State.refreshPoint_pins (k u : Nat) : (s.refreshPoint k u).pins = s.pins := rfl
@[simp] theorem State.refreshPoint_cml (k u : Nat) : (s.refreshPoint k u).cml = s.cml := rfl
@[simp] theorem State.refreshPoint_out (k u : Nat) : (s.refreshPoint k u).out = s.out := rfl
@[simp] theorem State.refreshPoint_loop (k u : Nat) : (s.refreshPoint k u).loop = s.loop := rfl
@[simp] theorem State.refreshPoint_can (k u : Nat) : (s.refreshPoint k u).can = s.can := rfl
@[simp] theorem State.refreshPoint_prg (k u : Nat) : (s.refreshPoint k u).prg = s.prg := rfl
@[simp] theorem State.refreshPoint_pair (k u : Nat) : (s.refreshPoint k u).pair = s.pair := rfl
@[simp] theorem State.refreshPoint_azs (k u : Nat) : (s.refreshPoint k u).azs = s.azs := rfl
@[simp] theorem State.refreshPoint_shd (k u : Nat) : (s.refreshPoint k u).shd = s.shd := rfl
@[simp] theorem State.refreshPoint_prism (k u : Nat) : (s.refreshPoint k u).prism = s.prism := rfl
@[simp] theorem State.refreshPoint_gnss (k u : Nat) : (s.refreshPoint k u).gnss = s.gnss := rfl
@[simp] theorem State.refreshPoint_points (k u : Nat) : (s.refreshPoint k u).points =
    { s.points with
      live := tput s.points.live (pointKey k u) s.tickNo
      seen := if s.tick.running && decide (s.tick.cycles = 0) then tput s.points.seen (pointKey k u) s.tickNo else s.points.seen } := rfl
@[simp] theorem State.refreshPoint_grz (k u : Nat) : (s.refreshPoint k u).grz = s.grz := rfl
@[simp] theorem State.refreshPoint_net (k u : Nat) : (s.refreshPoint k u).net = s.net := rfl
@[simp] theorem State.refreshPoint_lan (k u : Nat) : (s.refreshPoint k u).lan = s.lan := rfl
@[simp] theorem State.refreshPoint_tick (k u : Nat) : (s.refreshPoint k u).tick = s.tick := rfl
@[simp] theorem State.refreshPoint_sys (k u : Nat) : (s.refreshPoint k u).sys = s.sys := rfl
@[simp] theorem State.refreshPoint_site (k u : Nat) : (s.refreshPoint k u).site = s.site := rfl
@[simp] theorem State.refreshPoint_freeCtr (k u : Nat) : (s.refreshPoint k u).freeCtr = s.freeCtr := rfl

/-! ## setStream -/

@[simp] theorem State.setStream_variant (n : Nat) (x : StreamSt) : (s.setStream n x).variant = s.variant := rfl
@[simp] theorem State.setStream_pending (n : Nat) (x : StreamSt) : (s.setStream n x).pending = s.pending := rfl
@[simp] theorem State.setStream_mem (n : Nat) (x : StreamSt) : (s.setStream n x).mem = s.mem := rfl
@[simp] theorem State.setStream_regs (n : Nat) (x : StreamSt) : (s.setStream n x).regs = s.regs := rfl
@[simp] theorem State.setStream_inForce (n : Nat) (x : StreamSt) : (s.setStream n x).inForce = s.inForce := rfl
@[simp] theorem State.setStream_mregs (n : Nat) (x : StreamSt) : (s.setStream n x).mregs = s.mregs := rfl
@[simp] theorem State.setStream_latches (n : Nat) (x : StreamSt) : (s.setStream n x).latches = s.latches := rfl
@[simp] theorem State.setStream_lowBufs (n : Nat) (x : StreamSt) : (s.setStream n x).lowBufs = s.lowBufs := rfl
@[simp] theorem State.setStream_recorder (n : Nat) (x : StreamSt) : (s.setStream n x).recorder = s.recorder := rfl
@[simp] theorem State.setStream_irq (n : Nat) (x : StreamSt) : (s.setStream n x).irq = s.irq := rfl
@[simp] theorem State.setStream_time (n : Nat) (x : StreamSt) : (s.setStream n x).time = s.time := rfl
@[simp] theorem State.setStream_aon (n : Nat) (x : StreamSt) : (s.setStream n x).aon = s.aon := rfl
@[simp] theorem State.setStream_pins (n : Nat) (x : StreamSt) : (s.setStream n x).pins = s.pins := rfl
@[simp] theorem State.setStream_cml (n : Nat) (x : StreamSt) : (s.setStream n x).cml = s.cml := rfl
@[simp] theorem State.setStream_out (n : Nat) (x : StreamSt) : (s.setStream n x).out = s.out := rfl
@[simp] theorem State.setStream_loop (n : Nat) (x : StreamSt) : (s.setStream n x).loop = s.loop := rfl
@[simp] theorem State.setStream_can (n : Nat) (x : StreamSt) : (s.setStream n x).can = s.can := rfl
@[simp] theorem State.setStream_prg (n : Nat) (x : StreamSt) : (s.setStream n x).prg = s.prg := rfl
@[simp] theorem State.setStream_pair (n : Nat) (x : StreamSt) : (s.setStream n x).pair = s.pair := rfl
@[simp] theorem State.setStream_azs (n : Nat) (x : StreamSt) : (s.setStream n x).azs = s.azs := rfl
@[simp] theorem State.setStream_shd (n : Nat) (x : StreamSt) : (s.setStream n x).shd = s.shd := rfl
@[simp] theorem State.setStream_prism (n : Nat) (x : StreamSt) : (s.setStream n x).prism = { s.prism with streams := tset {} s.prism.streams n x } := rfl
@[simp] theorem State.setStream_gnss (n : Nat) (x : StreamSt) : (s.setStream n x).gnss = s.gnss := rfl
@[simp] theorem State.setStream_points (n : Nat) (x : StreamSt) : (s.setStream n x).points = s.points := rfl
@[simp] theorem State.setStream_grz (n : Nat) (x : StreamSt) : (s.setStream n x).grz = s.grz := rfl
@[simp] theorem State.setStream_net (n : Nat) (x : StreamSt) : (s.setStream n x).net = s.net := rfl
@[simp] theorem State.setStream_lan (n : Nat) (x : StreamSt) : (s.setStream n x).lan = s.lan := rfl
@[simp] theorem State.setStream_tick (n : Nat) (x : StreamSt) : (s.setStream n x).tick = s.tick := rfl
@[simp] theorem State.setStream_sys (n : Nat) (x : StreamSt) : (s.setStream n x).sys = s.sys := rfl
@[simp] theorem State.setStream_site (n : Nat) (x : StreamSt) : (s.setStream n x).site = s.site := rfl
@[simp] theorem State.setStream_freeCtr (n : Nat) (x : StreamSt) : (s.setStream n x).freeCtr = s.freeCtr := rfl

/-! ## setCan -/

@[simp] theorem State.setCan_variant (k : Nat) (x : CanSt) : (s.setCan k x).variant = s.variant := rfl
@[simp] theorem State.setCan_pending (k : Nat) (x : CanSt) : (s.setCan k x).pending = s.pending := rfl
@[simp] theorem State.setCan_mem (k : Nat) (x : CanSt) : (s.setCan k x).mem = s.mem := rfl
@[simp] theorem State.setCan_regs (k : Nat) (x : CanSt) : (s.setCan k x).regs = s.regs := rfl
@[simp] theorem State.setCan_inForce (k : Nat) (x : CanSt) : (s.setCan k x).inForce = s.inForce := rfl
@[simp] theorem State.setCan_mregs (k : Nat) (x : CanSt) : (s.setCan k x).mregs = s.mregs := rfl
@[simp] theorem State.setCan_latches (k : Nat) (x : CanSt) : (s.setCan k x).latches = s.latches := rfl
@[simp] theorem State.setCan_lowBufs (k : Nat) (x : CanSt) : (s.setCan k x).lowBufs = s.lowBufs := rfl
@[simp] theorem State.setCan_recorder (k : Nat) (x : CanSt) : (s.setCan k x).recorder = s.recorder := rfl
@[simp] theorem State.setCan_irq (k : Nat) (x : CanSt) : (s.setCan k x).irq = s.irq := rfl
@[simp] theorem State.setCan_time (k : Nat) (x : CanSt) : (s.setCan k x).time = s.time := rfl
@[simp] theorem State.setCan_aon (k : Nat) (x : CanSt) : (s.setCan k x).aon = s.aon := rfl
@[simp] theorem State.setCan_pins (k : Nat) (x : CanSt) : (s.setCan k x).pins = s.pins := rfl
@[simp] theorem State.setCan_cml (k : Nat) (x : CanSt) : (s.setCan k x).cml = s.cml := rfl
@[simp] theorem State.setCan_out (k : Nat) (x : CanSt) : (s.setCan k x).out = s.out := rfl
@[simp] theorem State.setCan_loop (k : Nat) (x : CanSt) : (s.setCan k x).loop = s.loop := rfl
@[simp] theorem State.setCan_can (k : Nat) (x : CanSt) : (s.setCan k x).can = tset {} s.can k x := rfl
@[simp] theorem State.setCan_prg (k : Nat) (x : CanSt) : (s.setCan k x).prg = s.prg := rfl
@[simp] theorem State.setCan_pair (k : Nat) (x : CanSt) : (s.setCan k x).pair = s.pair := rfl
@[simp] theorem State.setCan_azs (k : Nat) (x : CanSt) : (s.setCan k x).azs = s.azs := rfl
@[simp] theorem State.setCan_shd (k : Nat) (x : CanSt) : (s.setCan k x).shd = s.shd := rfl
@[simp] theorem State.setCan_prism (k : Nat) (x : CanSt) : (s.setCan k x).prism = s.prism := rfl
@[simp] theorem State.setCan_gnss (k : Nat) (x : CanSt) : (s.setCan k x).gnss = s.gnss := rfl
@[simp] theorem State.setCan_points (k : Nat) (x : CanSt) : (s.setCan k x).points = s.points := rfl
@[simp] theorem State.setCan_grz (k : Nat) (x : CanSt) : (s.setCan k x).grz = s.grz := rfl
@[simp] theorem State.setCan_net (k : Nat) (x : CanSt) : (s.setCan k x).net = s.net := rfl
@[simp] theorem State.setCan_lan (k : Nat) (x : CanSt) : (s.setCan k x).lan = s.lan := rfl
@[simp] theorem State.setCan_tick (k : Nat) (x : CanSt) : (s.setCan k x).tick = s.tick := rfl
@[simp] theorem State.setCan_sys (k : Nat) (x : CanSt) : (s.setCan k x).sys = s.sys := rfl
@[simp] theorem State.setCan_site (k : Nat) (x : CanSt) : (s.setCan k x).site = s.site := rfl
@[simp] theorem State.setCan_freeCtr (k : Nat) (x : CanSt) : (s.setCan k x).freeCtr = s.freeCtr := rfl

/-! ## setRing -/

@[simp] theorem State.setRing_variant (p : Nat) (x : RingSt) : (s.setRing p x).variant = s.variant := rfl
@[simp] theorem State.setRing_pending (p : Nat) (x : RingSt) : (s.setRing p x).pending = s.pending := rfl
@[simp] theorem State.setRing_mem (p : Nat) (x : RingSt) : (s.setRing p x).mem = s.mem := rfl
@[simp] theorem State.setRing_regs (p : Nat) (x : RingSt) : (s.setRing p x).regs = s.regs := rfl
@[simp] theorem State.setRing_inForce (p : Nat) (x : RingSt) : (s.setRing p x).inForce = s.inForce := rfl
@[simp] theorem State.setRing_mregs (p : Nat) (x : RingSt) : (s.setRing p x).mregs = s.mregs := rfl
@[simp] theorem State.setRing_latches (p : Nat) (x : RingSt) : (s.setRing p x).latches = s.latches := rfl
@[simp] theorem State.setRing_lowBufs (p : Nat) (x : RingSt) : (s.setRing p x).lowBufs = s.lowBufs := rfl
@[simp] theorem State.setRing_recorder (p : Nat) (x : RingSt) : (s.setRing p x).recorder = s.recorder := rfl
@[simp] theorem State.setRing_irq (p : Nat) (x : RingSt) : (s.setRing p x).irq = s.irq := rfl
@[simp] theorem State.setRing_time (p : Nat) (x : RingSt) : (s.setRing p x).time = s.time := rfl
@[simp] theorem State.setRing_aon (p : Nat) (x : RingSt) : (s.setRing p x).aon = s.aon := rfl
@[simp] theorem State.setRing_pins (p : Nat) (x : RingSt) : (s.setRing p x).pins = s.pins := rfl
@[simp] theorem State.setRing_cml (p : Nat) (x : RingSt) : (s.setRing p x).cml = s.cml := rfl
@[simp] theorem State.setRing_out (p : Nat) (x : RingSt) : (s.setRing p x).out = s.out := rfl
@[simp] theorem State.setRing_loop (p : Nat) (x : RingSt) : (s.setRing p x).loop = s.loop := rfl
@[simp] theorem State.setRing_can (p : Nat) (x : RingSt) : (s.setRing p x).can = s.can := rfl
@[simp] theorem State.setRing_prg (p : Nat) (x : RingSt) : (s.setRing p x).prg = s.prg := rfl
@[simp] theorem State.setRing_pair (p : Nat) (x : RingSt) : (s.setRing p x).pair = s.pair := rfl
@[simp] theorem State.setRing_azs (p : Nat) (x : RingSt) : (s.setRing p x).azs = s.azs := rfl
@[simp] theorem State.setRing_shd (p : Nat) (x : RingSt) : (s.setRing p x).shd = s.shd := rfl
@[simp] theorem State.setRing_prism (p : Nat) (x : RingSt) : (s.setRing p x).prism = s.prism := rfl
@[simp] theorem State.setRing_gnss (p : Nat) (x : RingSt) : (s.setRing p x).gnss = s.gnss := rfl
@[simp] theorem State.setRing_points (p : Nat) (x : RingSt) : (s.setRing p x).points = s.points := rfl
@[simp] theorem State.setRing_grz (p : Nat) (x : RingSt) : (s.setRing p x).grz = s.grz := rfl
@[simp] theorem State.setRing_net (p : Nat) (x : RingSt) : (s.setRing p x).net = { s.net with rings := tset {} s.net.rings p x } := rfl
@[simp] theorem State.setRing_lan (p : Nat) (x : RingSt) : (s.setRing p x).lan = s.lan := rfl
@[simp] theorem State.setRing_tick (p : Nat) (x : RingSt) : (s.setRing p x).tick = s.tick := rfl
@[simp] theorem State.setRing_sys (p : Nat) (x : RingSt) : (s.setRing p x).sys = s.sys := rfl
@[simp] theorem State.setRing_site (p : Nat) (x : RingSt) : (s.setRing p x).site = s.site := rfl
@[simp] theorem State.setRing_freeCtr (p : Nat) (x : RingSt) : (s.setRing p x).freeCtr = s.freeCtr := rfl

/-! ## setPulse -/

@[simp] theorem State.setPulse_variant (p : Nat) (v : PulseSt) : (s.setPulse p v).variant = s.variant := rfl
@[simp] theorem State.setPulse_pending (p : Nat) (v : PulseSt) : (s.setPulse p v).pending = s.pending := rfl
@[simp] theorem State.setPulse_mem (p : Nat) (v : PulseSt) : (s.setPulse p v).mem = s.mem := rfl
@[simp] theorem State.setPulse_regs (p : Nat) (v : PulseSt) : (s.setPulse p v).regs = s.regs := rfl
@[simp] theorem State.setPulse_inForce (p : Nat) (v : PulseSt) : (s.setPulse p v).inForce = s.inForce := rfl
@[simp] theorem State.setPulse_mregs (p : Nat) (v : PulseSt) : (s.setPulse p v).mregs = s.mregs := rfl
@[simp] theorem State.setPulse_latches (p : Nat) (v : PulseSt) : (s.setPulse p v).latches = s.latches := rfl
@[simp] theorem State.setPulse_lowBufs (p : Nat) (v : PulseSt) : (s.setPulse p v).lowBufs = s.lowBufs := rfl
@[simp] theorem State.setPulse_recorder (p : Nat) (v : PulseSt) : (s.setPulse p v).recorder = s.recorder := rfl
@[simp] theorem State.setPulse_irq (p : Nat) (v : PulseSt) : (s.setPulse p v).irq = s.irq := rfl
@[simp] theorem State.setPulse_time (p : Nat) (v : PulseSt) : (s.setPulse p v).time = s.time := rfl
@[simp] theorem State.setPulse_aon (p : Nat) (v : PulseSt) : (s.setPulse p v).aon = s.aon := rfl
@[simp] theorem State.setPulse_pins (p : Nat) (v : PulseSt) : (s.setPulse p v).pins = s.pins := rfl
@[simp] theorem State.setPulse_cml (p : Nat) (v : PulseSt) : (s.setPulse p v).cml = s.cml := rfl
@[simp] theorem State.setPulse_out (p : Nat) (v : PulseSt) : (s.setPulse p v).out = s.out := rfl
@[simp] theorem State.setPulse_loop (p : Nat) (v : PulseSt) : (s.setPulse p v).loop = { s.loop with pulses := tset {} s.loop.pulses p v } := rfl
@[simp] theorem State.setPulse_can (p : Nat) (v : PulseSt) : (s.setPulse p v).can = s.can := rfl
@[simp] theorem State.setPulse_prg (p : Nat) (v : PulseSt) : (s.setPulse p v).prg = s.prg := rfl
@[simp] theorem State.setPulse_pair (p : Nat) (v : PulseSt) : (s.setPulse p v).pair = s.pair := rfl
@[simp] theorem State.setPulse_azs (p : Nat) (v : PulseSt) : (s.setPulse p v).azs = s.azs := rfl
@[simp] theorem State.setPulse_shd (p : Nat) (v : PulseSt) : (s.setPulse p v).shd = s.shd := rfl
@[simp] theorem State.setPulse_prism (p : Nat) (v : PulseSt) : (s.setPulse p v).prism = s.prism := rfl
@[simp] theorem State.setPulse_gnss (p : Nat) (v : PulseSt) : (s.setPulse p v).gnss = s.gnss := rfl
@[simp] theorem State.setPulse_points (p : Nat) (v : PulseSt) : (s.setPulse p v).points = s.points := rfl
@[simp] theorem State.setPulse_grz (p : Nat) (v : PulseSt) : (s.setPulse p v).grz = s.grz := rfl
@[simp] theorem State.setPulse_net (p : Nat) (v : PulseSt) : (s.setPulse p v).net = s.net := rfl
@[simp] theorem State.setPulse_lan (p : Nat) (v : PulseSt) : (s.setPulse p v).lan = s.lan := rfl
@[simp] theorem State.setPulse_tick (p : Nat) (v : PulseSt) : (s.setPulse p v).tick = s.tick := rfl
@[simp] theorem State.setPulse_sys (p : Nat) (v : PulseSt) : (s.setPulse p v).sys = s.sys := rfl
@[simp] theorem State.setPulse_site (p : Nat) (v : PulseSt) : (s.setPulse p v).site = s.site := rfl
@[simp] theorem State.setPulse_freeCtr (p : Nat) (v : PulseSt) : (s.setPulse p v).freeCtr = s.freeCtr := rfl

/-! ## setAct -/

@[simp] theorem State.setAct_variant (c : Nat) (x : Act) : (s.setAct c x).variant = s.variant := rfl
@[simp] theorem State.setAct_pending (c : Nat) (x : Act) : (s.setAct c x).pending = s.pending := rfl
@[simp] theorem State.setAct_mem (c : Nat) (x : Act) : (s.setAct c x).mem = s.mem := rfl
@[simp] theorem State.setAct_regs (c : Nat) (x : Act) : (s.setAct c x).regs = s.regs := rfl
@[simp] theorem State.setAct_inForce (c : Nat) (x : Act) : (s.setAct c x).inForce = s.inForce := rfl
@[simp] theorem State.setAct_mregs (c : Nat) (x : Act) : (s.setAct c x).mregs = s.mregs := rfl
@[simp] theorem State.setAct_latches (c : Nat) (x : Act) : (s.setAct c x).latches = s.latches := rfl
@[simp] theorem State.setAct_lowBufs (c : Nat) (x : Act) : (s.setAct c x).lowBufs = s.lowBufs := rfl
@[simp] theorem State.setAct_recorder (c : Nat) (x : Act) : (s.setAct c x).recorder = s.recorder := rfl
@[simp] theorem State.setAct_irq (c : Nat) (x : Act) : (s.setAct c x).irq = s.irq := rfl
@[simp] theorem State.setAct_time (c : Nat) (x : Act) : (s.setAct c x).time = s.time := rfl
@[simp] theorem State.setAct_aon (c : Nat) (x : Act) : (s.setAct c x).aon = s.aon := rfl
@[simp] theorem State.setAct_pins (c : Nat) (x : Act) : (s.setAct c x).pins = s.pins := rfl
@[simp] theorem State.setAct_cml (c : Nat) (x : Act) : (s.setAct c x).cml = { s.cml with acts := tput s.cml.acts c x } := rfl
@[simp] theorem State.setAct_out (c : Nat) (x : Act) : (s.setAct c x).out = s.out := rfl
@[simp] theorem State.setAct_loop (c : Nat) (x : Act) : (s.setAct c x).loop = s.loop := rfl
@[simp] theorem State.setAct_can (c : Nat) (x : Act) : (s.setAct c x).can = s.can := rfl
@[simp] theorem State.setAct_prg (c : Nat) (x : Act) : (s.setAct c x).prg = s.prg := rfl
@[simp] theorem State.setAct_pair (c : Nat) (x : Act) : (s.setAct c x).pair = s.pair := rfl
@[simp] theorem State.setAct_azs (c : Nat) (x : Act) : (s.setAct c x).azs = s.azs := rfl
@[simp] theorem State.setAct_shd (c : Nat) (x : Act) : (s.setAct c x).shd = s.shd := rfl
@[simp] theorem State.setAct_prism (c : Nat) (x : Act) : (s.setAct c x).prism = s.prism := rfl
@[simp] theorem State.setAct_gnss (c : Nat) (x : Act) : (s.setAct c x).gnss = s.gnss := rfl
@[simp] theorem State.setAct_points (c : Nat) (x : Act) : (s.setAct c x).points = s.points := rfl
@[simp] theorem State.setAct_grz (c : Nat) (x : Act) : (s.setAct c x).grz = s.grz := rfl
@[simp] theorem State.setAct_net (c : Nat) (x : Act) : (s.setAct c x).net = s.net := rfl
@[simp] theorem State.setAct_lan (c : Nat) (x : Act) : (s.setAct c x).lan = s.lan := rfl
@[simp] theorem State.setAct_tick (c : Nat) (x : Act) : (s.setAct c x).tick = s.tick := rfl
@[simp] theorem State.setAct_sys (c : Nat) (x : Act) : (s.setAct c x).sys = s.sys := rfl
@[simp] theorem State.setAct_site (c : Nat) (x : Act) : (s.setAct c x).site = s.site := rfl
@[simp] theorem State.setAct_freeCtr (c : Nat) (x : Act) : (s.setAct c x).freeCtr = s.freeCtr := rfl

/-! ## markDirty -/

@[simp] theorem State.markDirty_variant (p : Nat) : (s.markDirty p).variant = s.variant := rfl
@[simp] theorem State.markDirty_pending (p : Nat) : (s.markDirty p).pending = s.pending := rfl
@[simp] theorem State.markDirty_mem (p : Nat) : (s.markDirty p).mem = s.mem := rfl
@[simp] theorem State.markDirty_regs (p : Nat) : (s.markDirty p).regs = s.regs := rfl
@[simp] theorem State.markDirty_inForce (p : Nat) : (s.markDirty p).inForce = s.inForce := rfl
@[simp] theorem State.markDirty_mregs (p : Nat) : (s.markDirty p).mregs = s.mregs := rfl
@[simp] theorem State.markDirty_latches (p : Nat) : (s.markDirty p).latches = s.latches := rfl
@[simp] theorem State.markDirty_lowBufs (p : Nat) : (s.markDirty p).lowBufs = s.lowBufs := rfl
@[simp] theorem State.markDirty_recorder (p : Nat) : (s.markDirty p).recorder = s.recorder := rfl
@[simp] theorem State.markDirty_irq (p : Nat) : (s.markDirty p).irq = s.irq := rfl
@[simp] theorem State.markDirty_time (p : Nat) : (s.markDirty p).time = s.time := rfl
@[simp] theorem State.markDirty_aon (p : Nat) : (s.markDirty p).aon = s.aon := rfl
@[simp] theorem State.markDirty_pins (p : Nat) : (s.markDirty p).pins = s.pins := rfl
@[simp] theorem State.markDirty_cml (p : Nat) : (s.markDirty p).cml = { s.cml with dirty := addTo s.cml.dirty p } := rfl
@[simp] theorem State.markDirty_out (p : Nat) : (s.markDirty p).out = s.out := rfl
@[simp] theorem State.markDirty_loop (p : Nat) : (s.markDirty p).loop = s.loop := rfl
@[simp] theorem State.markDirty_can (p : Nat) : (s.markDirty p).can = s.can := rfl
@[simp] theorem State.markDirty_prg (p : Nat) : (s.markDirty p).prg = s.prg := rfl
@[simp] theorem State.markDirty_pair (p : Nat) : (s.markDirty p).pair = s.pair := rfl
@[simp] theorem State.markDirty_azs (p : Nat) : (s.markDirty p).azs = s.azs := rfl
@[simp] theorem State.markDirty_shd (p : Nat) : (s.markDirty p).shd = s.shd := rfl
@[simp] theorem State.markDirty_prism (p : Nat) : (s.markDirty p).prism = s.prism := rfl
@[simp] theorem State.markDirty_gnss (p : Nat) : (s.markDirty p).gnss = s.gnss := rfl
@[simp] theorem State.markDirty_points (p : Nat) : (s.markDirty p).points = s.points := rfl
@[simp] theorem State.markDirty_grz (p : Nat) : (s.markDirty p).grz = s.grz := rfl
@[simp] theorem State.markDirty_net (p : Nat) : (s.markDirty p).net = s.net := rfl
@[simp] theorem State.markDirty_lan (p : Nat) : (s.markDirty p).lan = s.lan := rfl
@[simp] theorem State.markDirty_tick (p : Nat) : (s.markDirty p).tick = s.tick := rfl
@[simp] theorem State.markDirty_sys (p : Nat) : (s.markDirty p).sys = s.sys := rfl
@[simp] theorem State.markDirty_site (p : Nat) : (s.markDirty p).site = s.site := rfl
@[simp] theorem State.markDirty_freeCtr (p : Nat) : (s.markDirty p).freeCtr = s.freeCtr := rfl

/-! ## withPending -/

@[simp] theorem State.withPending_variant (l : List Instr) : (s.withPending l).variant = s.variant := rfl
@[simp] theorem State.withPending_pending (l : List Instr) : (s.withPending l).pending = l := rfl
@[simp] theorem State.withPending_mem (l : List Instr) : (s.withPending l).mem = s.mem := rfl
@[simp] theorem State.withPending_regs (l : List Instr) : (s.withPending l).regs = s.regs := rfl
@[simp] theorem State.withPending_inForce (l : List Instr) : (s.withPending l).inForce = s.inForce := rfl
@[simp] theorem State.withPending_mregs (l : List Instr) : (s.withPending l).mregs = s.mregs := rfl
@[simp] theorem State.withPending_latches (l : List Instr) : (s.withPending l).latches = s.latches := rfl
@[simp] theorem State.withPending_lowBufs (l : List Instr) : (s.withPending l).lowBufs = s.lowBufs := rfl
@[simp] theorem State.withPending_recorder (l : List Instr) : (s.withPending l).recorder = s.recorder := rfl
@[simp] theorem State.withPending_irq (l : List Instr) : (s.withPending l).irq = s.irq := rfl
@[simp] theorem State.withPending_time (l : List Instr) : (s.withPending l).time = s.time := rfl
@[simp] theorem State.withPending_aon (l : List Instr) : (s.withPending l).aon = s.aon := rfl
@[simp] theorem State.withPending_pins (l : List Instr) : (s.withPending l).pins = s.pins := rfl
@[simp] theorem State.withPending_cml (l : List Instr) : (s.withPending l).cml = s.cml := rfl
@[simp] theorem State.withPending_out (l : List Instr) : (s.withPending l).out = s.out := rfl
@[simp] theorem State.withPending_loop (l : List Instr) : (s.withPending l).loop = s.loop := rfl
@[simp] theorem State.withPending_can (l : List Instr) : (s.withPending l).can = s.can := rfl
@[simp] theorem State.withPending_prg (l : List Instr) : (s.withPending l).prg = s.prg := rfl
@[simp] theorem State.withPending_pair (l : List Instr) : (s.withPending l).pair = s.pair := rfl
@[simp] theorem State.withPending_azs (l : List Instr) : (s.withPending l).azs = s.azs := rfl
@[simp] theorem State.withPending_shd (l : List Instr) : (s.withPending l).shd = s.shd := rfl
@[simp] theorem State.withPending_prism (l : List Instr) : (s.withPending l).prism = s.prism := rfl
@[simp] theorem State.withPending_gnss (l : List Instr) : (s.withPending l).gnss = s.gnss := rfl
@[simp] theorem State.withPending_points (l : List Instr) : (s.withPending l).points = s.points := rfl
@[simp] theorem State.withPending_grz (l : List Instr) : (s.withPending l).grz = s.grz := rfl
@[simp] theorem State.withPending_net (l : List Instr) : (s.withPending l).net = s.net := rfl
@[simp] theorem State.withPending_lan (l : List Instr) : (s.withPending l).lan = s.lan := rfl
@[simp] theorem State.withPending_tick (l : List Instr) : (s.withPending l).tick = s.tick := rfl
@[simp] theorem State.withPending_sys (l : List Instr) : (s.withPending l).sys = s.sys := rfl
@[simp] theorem State.withPending_site (l : List Instr) : (s.withPending l).site = s.site := rfl
@[simp] theorem State.withPending_freeCtr (l : List Instr) : (s.withPending l).freeCtr = s.freeCtr := rfl

/-! ## A byte of memory and a drawn value -/

@[simp] theorem State.setByte_variant (a : Nat) (v : Byte) : (s.setByte a v).variant = s.variant := by
  unfold State.setByte; split <;> rfl
@[simp] theorem State.setByte_pending (a : Nat) (v : Byte) : (s.setByte a v).pending = s.pending := by
  unfold State.setByte; split <;> rfl
@[simp] theorem State.setByte_regs (a : Nat) (v : Byte) : (s.setByte a v).regs = s.regs := by
  unfold State.setByte; split <;> rfl
@[simp] theorem State.setByte_inForce (a : Nat) (v : Byte) : (s.setByte a v).inForce = s.inForce := by
  unfold State.setByte; split <;> rfl
@[simp] theorem State.setByte_mregs (a : Nat) (v : Byte) : (s.setByte a v).mregs = s.mregs := by
  unfold State.setByte; split <;> rfl
@[simp] theorem State.setByte_latches (a : Nat) (v : Byte) : (s.setByte a v).latches = s.latches := by
  unfold State.setByte; split <;> rfl
@[simp] theorem State.setByte_lowBufs (a : Nat) (v : Byte) : (s.setByte a v).lowBufs = s.lowBufs := by
  unfold State.setByte; split <;> rfl
@[simp] theorem State.setByte_recorder (a : Nat) (v : Byte) : (s.setByte a v).recorder = s.recorder := by
  unfold State.setByte; split <;> rfl
@[simp] theorem State.setByte_irq (a : Nat) (v : Byte) : (s.setByte a v).irq = s.irq := by
  unfold State.setByte; split <;> rfl
@[simp] theorem State.setByte_time (a : Nat) (v : Byte) : (s.setByte a v).time = s.time := by
  unfold State.setByte; split <;> rfl
@[simp] theorem State.setByte_aon (a : Nat) (v : Byte) : (s.setByte a v).aon = s.aon := by
  unfold State.setByte; split <;> rfl
@[simp] theorem State.setByte_pins (a : Nat) (v : Byte) : (s.setByte a v).pins = s.pins := by
  unfold State.setByte; split <;> rfl
@[simp] theorem State.setByte_cml (a : Nat) (v : Byte) : (s.setByte a v).cml = s.cml := by
  unfold State.setByte; split <;> rfl
@[simp] theorem State.setByte_out (a : Nat) (v : Byte) : (s.setByte a v).out = s.out := by
  unfold State.setByte; split <;> rfl
@[simp] theorem State.setByte_loop (a : Nat) (v : Byte) : (s.setByte a v).loop = s.loop := by
  unfold State.setByte; split <;> rfl
@[simp] theorem State.setByte_can (a : Nat) (v : Byte) : (s.setByte a v).can = s.can := by
  unfold State.setByte; split <;> rfl
@[simp] theorem State.setByte_prg (a : Nat) (v : Byte) : (s.setByte a v).prg = s.prg := by
  unfold State.setByte; split <;> rfl
@[simp] theorem State.setByte_pair (a : Nat) (v : Byte) : (s.setByte a v).pair = s.pair := by
  unfold State.setByte; split <;> rfl
@[simp] theorem State.setByte_azs (a : Nat) (v : Byte) : (s.setByte a v).azs = s.azs := by
  unfold State.setByte; split <;> rfl
@[simp] theorem State.setByte_shd (a : Nat) (v : Byte) : (s.setByte a v).shd = s.shd := by
  unfold State.setByte; split <;> rfl
@[simp] theorem State.setByte_prism (a : Nat) (v : Byte) : (s.setByte a v).prism = s.prism := by
  unfold State.setByte; split <;> rfl
@[simp] theorem State.setByte_gnss (a : Nat) (v : Byte) : (s.setByte a v).gnss = s.gnss := by
  unfold State.setByte; split <;> rfl
@[simp] theorem State.setByte_points (a : Nat) (v : Byte) : (s.setByte a v).points = s.points := by
  unfold State.setByte; split <;> rfl
@[simp] theorem State.setByte_grz (a : Nat) (v : Byte) : (s.setByte a v).grz = s.grz := by
  unfold State.setByte; split <;> rfl
@[simp] theorem State.setByte_net (a : Nat) (v : Byte) : (s.setByte a v).net = s.net := by
  unfold State.setByte; split <;> rfl
@[simp] theorem State.setByte_lan (a : Nat) (v : Byte) : (s.setByte a v).lan = s.lan := by
  unfold State.setByte; split <;> rfl
@[simp] theorem State.setByte_tick (a : Nat) (v : Byte) : (s.setByte a v).tick = s.tick := by
  unfold State.setByte; split <;> rfl
@[simp] theorem State.setByte_sys (a : Nat) (v : Byte) : (s.setByte a v).sys = s.sys := by
  unfold State.setByte; split <;> rfl
@[simp] theorem State.setByte_site (a : Nat) (v : Byte) : (s.setByte a v).site = s.site := by
  unfold State.setByte; split <;> rfl
@[simp] theorem State.setByte_freeCtr (a : Nat) (v : Byte) : (s.setByte a v).freeCtr = s.freeCtr := by
  unfold State.setByte; split <;> rfl

@[simp] theorem State.draw_variant (n : Nat) : (s.draw n).2.variant = s.variant := rfl
@[simp] theorem State.draw_pending (n : Nat) : (s.draw n).2.pending = s.pending := rfl
@[simp] theorem State.draw_mem (n : Nat) : (s.draw n).2.mem = s.mem := rfl
@[simp] theorem State.draw_regs (n : Nat) : (s.draw n).2.regs = s.regs := rfl
@[simp] theorem State.draw_inForce (n : Nat) : (s.draw n).2.inForce = s.inForce := rfl
@[simp] theorem State.draw_mregs (n : Nat) : (s.draw n).2.mregs = s.mregs := rfl
@[simp] theorem State.draw_latches (n : Nat) : (s.draw n).2.latches = s.latches := rfl
@[simp] theorem State.draw_lowBufs (n : Nat) : (s.draw n).2.lowBufs = s.lowBufs := rfl
@[simp] theorem State.draw_recorder (n : Nat) : (s.draw n).2.recorder = s.recorder := rfl
@[simp] theorem State.draw_irq (n : Nat) : (s.draw n).2.irq = s.irq := rfl
@[simp] theorem State.draw_time (n : Nat) : (s.draw n).2.time = s.time := rfl
@[simp] theorem State.draw_aon (n : Nat) : (s.draw n).2.aon = s.aon := rfl
@[simp] theorem State.draw_pins (n : Nat) : (s.draw n).2.pins = s.pins := rfl
@[simp] theorem State.draw_cml (n : Nat) : (s.draw n).2.cml = s.cml := rfl
@[simp] theorem State.draw_out (n : Nat) : (s.draw n).2.out = s.out := rfl
@[simp] theorem State.draw_loop (n : Nat) : (s.draw n).2.loop = s.loop := rfl
@[simp] theorem State.draw_can (n : Nat) : (s.draw n).2.can = s.can := rfl
@[simp] theorem State.draw_prg (n : Nat) : (s.draw n).2.prg = s.prg := rfl
@[simp] theorem State.draw_pair (n : Nat) : (s.draw n).2.pair = s.pair := rfl
@[simp] theorem State.draw_azs (n : Nat) : (s.draw n).2.azs = s.azs := rfl
@[simp] theorem State.draw_shd (n : Nat) : (s.draw n).2.shd = s.shd := rfl
@[simp] theorem State.draw_prism (n : Nat) : (s.draw n).2.prism = s.prism := rfl
@[simp] theorem State.draw_gnss (n : Nat) : (s.draw n).2.gnss = s.gnss := rfl
@[simp] theorem State.draw_points (n : Nat) : (s.draw n).2.points = s.points := rfl
@[simp] theorem State.draw_grz (n : Nat) : (s.draw n).2.grz = s.grz := rfl
@[simp] theorem State.draw_net (n : Nat) : (s.draw n).2.net = s.net := rfl
@[simp] theorem State.draw_lan (n : Nat) : (s.draw n).2.lan = s.lan := rfl
@[simp] theorem State.draw_tick (n : Nat) : (s.draw n).2.tick = s.tick := rfl
@[simp] theorem State.draw_sys (n : Nat) : (s.draw n).2.sys = s.sys := rfl
@[simp] theorem State.draw_site (n : Nat) : (s.draw n).2.site = s.site := rfl
@[simp] theorem State.draw_freeCtr (n : Nat) : (s.draw n).2.freeCtr = s.freeCtr + 1 := rfl

end Sys2Proof.Machine
end

