-- ==== Sys2Proof/Laws/Tables.lean ====
section
/-!
SUPPORT. Laws/Tables.lean: what sparse tables answer after an update, and that every update keeps their canonical form.
-/
namespace Sys2Proof.Machine

variable {β : Type}

@[simp] theorem tget?_nil (k : Nat) : tget? ([] : Tbl β) k = none := rfl

@[simp] theorem tget?_tput_same (l : Tbl β) (k : Nat) (v : β) : tget? (tput l k v) k = some v := by
  induction l with
  | nil => simp [tput, tget?]
  | cons e l ih =>
    obtain ⟨j, w⟩ := e
    simp only [tput]
    split
    · simp [tget?]
    · split
      · simp [tget?]
      · rename_i h; simp only [tget?]; rw [if_neg (by omega)]; exact ih

theorem tget?_tput_other (l : Tbl β) (k k' : Nat) (v : β) (h : k' ≠ k) : tget? (tput l k v) k' = tget? l k' := by
  induction l with
  | nil => simp [tput, tget?, Ne.symm h]
  | cons e l ih =>
    obtain ⟨j, w⟩ := e
    simp only [tput]
    split
    · simp [tget?, Ne.symm h]
    · split
      · rename_i _ h2; subst h2; simp [tget?, Ne.symm h]
      · simp only [tget?]
        split
        · rfl
        · exact ih

@[simp] theorem tget?_tdel_same (l : Tbl β) (k : Nat) : tget? (tdel l k) k = none := by
  induction l with
  | nil => rfl
  | cons e l ih =>
    obtain ⟨j, w⟩ := e
    simp only [tdel]
    split
    · exact ih
    · rename_i h; simp only [tget?, if_neg h]; exact ih

theorem tget?_tdel_other (l : Tbl β) (k k' : Nat) (h : k' ≠ k) : tget? (tdel l k) k' = tget? l k' := by
  induction l with
  | nil => rfl
  | cons e l ih =>
    obtain ⟨j, w⟩ := e
    simp only [tdel]
    split
    · rename_i h2; subst h2; simp only [tget?, if_neg (Ne.symm h)]; exact ih
    · simp only [tget?]; split
      · rfl
      · exact ih

@[simp] theorem tget_tput_same (d : β) (l : Tbl β) (k : Nat) (v : β) : tget d (tput l k v) k = v := by simp [tget]

theorem tget_tput_other (d : β) (l : Tbl β) (k k' : Nat) (v : β) (h : k' ≠ k) : tget d (tput l k v) k' = tget d l k' := by
  simp [tget, tget?_tput_other l k k' v h]

@[simp] theorem tget_tdel_same (d : β) (l : Tbl β) (k : Nat) : tget d (tdel l k) k = d := by simp [tget]

theorem tget_tdel_other (d : β) (l : Tbl β) (k k' : Nat) (h : k' ≠ k) : tget d (tdel l k) k' = tget d l k' := by
  simp [tget, tget?_tdel_other l k k' h]

@[simp] theorem tget_tset_same [DecidableEq β] (d : β) (l : Tbl β) (k : Nat) (v : β) : tget d (tset d l k v) k = v := by
  unfold tset; split
  · rename_i h; subst h; simp
  · simp

theorem tget_tset_other [DecidableEq β] (d d' : β) (l : Tbl β) (k k' : Nat) (v : β) (h : k' ≠ k) :
    tget d' (tset d l k v) k' = tget d' l k' := by
  unfold tset; split
  · exact tget_tdel_other d' l k k' h
  · exact tget_tput_other d' l k k' v h

/-! ## Canonical form -/

theorem tabove_tput (l : Tbl β) (m k : Nat) (v : β) (hl : tabove m l = true) (hk : m < k) : tabove m (tput l k v) = true := by
  induction l with
  | nil => simpa [tput, tabove] using hk
  | cons e l ih =>
    obtain ⟨j, w⟩ := e
    simp only [tabove, List.all_cons, Bool.and_eq_true, decide_eq_true_eq] at hl
    simp only [tput]
    split
    · simp only [tabove, List.all_cons, Bool.and_eq_true, decide_eq_true_eq]; exact ⟨hk, hl.1, hl.2⟩
    · split
      · simp only [tabove, List.all_cons, Bool.and_eq_true, decide_eq_true_eq]; exact ⟨hk, hl.2⟩
      · have := ih hl.2
        simp only [tabove, List.all_cons, Bool.and_eq_true, decide_eq_true_eq]; exact ⟨hl.1, this⟩

theorem tabove_tdel (l : Tbl β) (m k : Nat) (hl : tabove m l = true) : tabove m (tdel l k) = true := by
  induction l with
  | nil => rfl
  | cons e l ih =>
    obtain ⟨j, w⟩ := e
    simp only [tabove, List.all_cons, Bool.and_eq_true, decide_eq_true_eq] at hl
    simp only [tdel]
    split
    · exact ih hl.2
    · simp only [tabove, List.all_cons, Bool.and_eq_true, decide_eq_true_eq]; exact ⟨hl.1, ih hl.2⟩

theorem tabove_trans (l : Tbl β) (m k : Nat) (h : m ≤ k) (hl : tabove k l = true) : tabove m l = true := by
  simp only [tabove, List.all_eq_true, decide_eq_true_eq] at *
  intro e he; have := hl e he; omega

theorem twf_tput [DecidableEq β] (d : Nat → β) (l : Tbl β) (k : Nat) (v : β) (h : twf d l = true) (hv : v ≠ d k) :
    twf d (tput l k v) = true := by
  induction l with
  | nil => simp [tput, twf, tabove, hv]
  | cons e l ih =>
    obtain ⟨j, w⟩ := e
    simp only [twf, Bool.and_eq_true, decide_eq_true_eq] at h
    obtain ⟨⟨h1, h2⟩, h3⟩ := h
    simp only [tput]
    split
    · rename_i hk
      simp only [twf, Bool.and_eq_true, decide_eq_true_eq, tabove, List.all_cons]
      exact ⟨⟨hv, hk, tabove_trans l k j (by omega) h2⟩, ⟨h1, h2⟩, h3⟩
    · split
      · rename_i _ hk; subst hk; simp only [twf, Bool.and_eq_true, decide_eq_true_eq]; exact ⟨⟨hv, h2⟩, h3⟩
      · simp only [twf, Bool.and_eq_true, decide_eq_true_eq]
        exact ⟨⟨h1, tabove_tput l j k v h2 (by omega)⟩, ih h3⟩

theorem twf_tdel [DecidableEq β] (d : Nat → β) (l : Tbl β) (k : Nat) (h : twf d l = true) : twf d (tdel l k) = true := by
  induction l with
  | nil => rfl
  | cons e l ih =>
    obtain ⟨j, w⟩ := e
    simp only [twf, Bool.and_eq_true, decide_eq_true_eq] at h
    obtain ⟨⟨h1, h2⟩, h3⟩ := h
    simp only [tdel]
    split
    · exact ih h3
    · simp only [twf, Bool.and_eq_true, decide_eq_true_eq]; exact ⟨⟨h1, tabove_tdel l j k h2⟩, ih h3⟩

/-- An update of a table whose unlisted keys hold `d` keeps the canonical form. -/
theorem twf_tset [DecidableEq β] (d : Nat → β) (l : Tbl β) (k : Nat) (v : β) (h : twf d l = true) : twf d (tset (d k) l k v) = true := by
  unfold tset; split
  · exact twf_tdel d l k h
  · rename_i hv; exact twf_tput d l k v h hv

theorem tabove_filter (l : Tbl β) (m : Nat) (p : Nat × β → Bool) (h : tabove m l = true) : tabove m (l.filter p) = true := by
  simp only [tabove, List.all_eq_true, decide_eq_true_eq] at *
  intro e he; exact h e (List.mem_filter.mp he).1

/-- Taking entries out keeps the canonical form. -/
theorem twf_filter [DecidableEq β] (d : Nat → β) (l : Tbl β) (p : Nat × β → Bool) (h : twf d l = true) : twf d (l.filter p) = true := by
  induction l with
  | nil => rfl
  | cons e l ih =>
    obtain ⟨j, w⟩ := e
    simp only [twf, Bool.and_eq_true, decide_eq_true_eq] at h
    obtain ⟨⟨h1, h2⟩, h3⟩ := h
    simp only [List.filter]
    split
    · simp only [twf, Bool.and_eq_true, decide_eq_true_eq]; exact ⟨⟨h1, tabove_filter l j p h2⟩, ih h3⟩
    · exact ih h3

end Sys2Proof.Machine
end

