-- ==== Sys2Proof/Laws/Registers.lean ====
section
/-!
SUPPORT. Laws/Registers.lean: what a register and a field read after a write of a register or a field.
-/
namespace Sys2Proof

/-! ## Fields of a word -/

/-- Bit i of a word whose bits hi to lo were replaced. -/
theorem getLsbD_withBits {n : Nat} (w : BitVec n) (hi lo v i : Nat) (hl : lo ≤ hi) :
    (withBits w hi lo v).getLsbD i =
      if i < n then (if lo ≤ i ∧ i ≤ hi then v.testBit (i - lo) else w.getLsbD i) else false := by
  simp only [withBits, BitVec.getLsbD_or, BitVec.getLsbD_and, BitVec.getLsbD_not, BitVec.getLsbD_ofNat, Nat.testBit_mul_two_pow,
    Nat.testBit_two_pow_sub_one, Nat.testBit_mod_two_pow]
  by_cases hn : i < n
  · by_cases h1 : lo ≤ i
    · by_cases h2 : i ≤ hi
      · simp [hn, h1, h2, show i - lo < hi + 1 - lo by omega]
      · simp [hn, h1, h2, show ¬ i - lo < hi + 1 - lo by omega]
    · simp [hn, h1]
  · simp [hn]

/-- A bit of a field read as a number. -/
theorem testBit_bitsOf {n : Nat} (w : BitVec n) (hi lo i : Nat) :
    (bitsOf w hi lo).testBit i = (decide (i < hi + 1 - lo) && w.getLsbD (i + lo)) := by
  simp [bitsOf, Nat.testBit_mod_two_pow, BitVec.getLsbD, Nat.add_comm]

/-- A field reads what was written into it, cut to its width. -/
theorem bitsOf_withBits_same {n : Nat} (w : BitVec n) (hi lo v : Nat) (hl : lo ≤ hi) (hn : hi < n) :
    bitsOf (withBits w hi lo v) hi lo = v % 2 ^ (hi + 1 - lo) := by
  apply Nat.eq_of_testBit_eq; intro i
  rw [testBit_bitsOf, getLsbD_withBits _ _ _ _ _ hl, Nat.testBit_mod_two_pow]
  by_cases h : i < hi + 1 - lo
  · have : i + lo < n := by omega
    simp [h, this]; intro; omega
  · simp [h]

/-- A field reads what it did before a write of other bits. -/
theorem bitsOf_withBits_other {n : Nat} (w : BitVec n) (hi lo v hi' lo' : Nat) (hl : lo ≤ hi) (h : hi' < lo ∨ hi < lo') :
    bitsOf (withBits w hi lo v) hi' lo' = bitsOf w hi' lo' := by
  apply Nat.eq_of_testBit_eq; intro i
  rw [testBit_bitsOf, testBit_bitsOf, getLsbD_withBits _ _ _ _ _ hl]
  by_cases h1 : i < hi' + 1 - lo'
  · by_cases h2 : i + lo' < n
    · have : ¬ (lo ≤ i + lo' ∧ i + lo' ≤ hi) := by omega
      simp [h1, h2, this]
    · simp [h1, h2]
      exact BitVec.getLsbD_of_ge _ _ (by omega)
  · simp [h1]

theorem bitsOf_lt {n : Nat} (w : BitVec n) (hi lo : Nat) : bitsOf w hi lo < 2 ^ (hi + 1 - lo) :=
  Nat.mod_lt _ (Nat.two_pow_pos _)

namespace Machine

variable (s : State)

/-! ## Registers -/

@[simp] theorem State.reg_setReg_same (a : Nat) (v : Word) : (s.setReg a v).reg a = v := by simp [State.reg]

theorem State.reg_setReg_other (a b : Nat) (v : Word) (h : b ≠ a) : (s.setReg a v).reg b = s.reg b := by
  simp [State.reg, tget_tset_other _ _ _ _ _ _ h]

theorem State.reg_setReg (a b : Nat) (v : Word) : (s.setReg a v).reg b = if b = a then v else s.reg b := by
  split
  · next h => subst h; simp
  · next h => exact s.reg_setReg_other a b v h

/-- Registers are read through the table alone. -/
theorem State.reg_congr {s t : State} (h : t.regs = s.regs) (a : Nat) : t.reg a = s.reg a := by simp [State.reg, h]

theorem State.f_congr {s t : State} (x : Fld) (h : t.reg x.addr = s.reg x.addr) : t.f x = s.f x := by simp [State.f, h]

/-! ## Fields -/

theorem State.reg_put_same (x : Fld) (v : Nat) : (s.put x v).reg x.addr = withBits (s.reg x.addr) x.hi x.lo v := by
  simp [State.put]

theorem State.reg_put_other (x : Fld) (v b : Nat) (h : b ≠ x.addr) : (s.put x v).reg b = s.reg b := by
  simp [State.put, State.reg_setReg_other _ _ _ _ h]

theorem State.f_put_same (x : Fld) (v : Nat) (hl : x.lo ≤ x.hi) (hn : x.hi < 32) :
    (s.put x v).f x = v % 2 ^ (x.hi + 1 - x.lo) := by
  simp only [State.f, State.reg_put_same]; exact bitsOf_withBits_same _ _ _ _ hl hn

/-- A field of another register. -/
theorem State.f_put_addr (x y : Fld) (v : Nat) (h : y.addr ≠ x.addr) : (s.put x v).f y = s.f y := by
  simp only [State.f, State.reg_put_other _ _ _ _ h]

/-- Another field of the same register. -/
theorem State.f_put_bits (x y : Fld) (v : Nat) (hl : x.lo ≤ x.hi) (h : y.hi < x.lo ∨ x.hi < y.lo) :
    (s.put x v).f y = s.f y := by
  by_cases ha : y.addr = x.addr
  · simp only [State.f, ha, State.reg_put_same]; exact bitsOf_withBits_other _ _ _ _ _ _ hl h
  · exact s.f_put_addr x y v ha

theorem State.f_lt (x : Fld) : s.f x < 2 ^ (x.hi + 1 - x.lo) := bitsOf_lt _ _ _

/-- A saturating count after it counted. -/
theorem State.f_count_same (x : Fld) (d : Nat) (hl : x.lo ≤ x.hi) (hn : x.hi < 32) :
    (s.count x d).f x = min (2 ^ (x.hi + 1 - x.lo) - 1) (s.f x + d) := by
  rw [State.count, State.f_put_same _ _ _ hl hn, satAdd]
  exact Nat.mod_eq_of_lt (by have := Nat.two_pow_pos (x.hi + 1 - x.lo); omega)

theorem State.reg_count_other (x : Fld) (d b : Nat) (h : b ≠ x.addr) : (s.count x d).reg b = s.reg b :=
  s.reg_put_other _ _ _ h

theorem State.reg_setBit_other (a k b : Nat) (v : Bool) (h : b ≠ a + 4 * (k / 32)) : (s.setBit a k v).reg b = s.reg b :=
  s.reg_setReg_other _ _ _ h

/-- A bit of a bitmap after another or the same one was written. -/
theorem State.bit_setBit (a k j : Nat) (v : Bool) : (s.setBit a k v).bit a j = if j = k then v else s.bit a j := by
  unfold State.bit
  by_cases hw : j / 32 = k / 32
  · have hlt : j % 32 < 32 := Nat.mod_lt _ (by decide)
    simp only [State.setBit, hw, State.reg_setReg_same]
    rw [getLsbD_withBits _ _ _ _ _ (Nat.le_refl _)]
    by_cases h : j = k
    · subst h; simp [hlt]; cases v <;> simp
    · have h2 : ¬ (k % 32 ≤ j % 32 ∧ j % 32 ≤ k % 32) := by omega
      simp [hlt, h, h2]
  · have h : j ≠ k := fun e => hw (by rw [e])
    rw [State.reg_setBit_other _ _ _ _ _ (by omega), if_neg h]

theorem State.reg_setReg64_other (a v b : Nat) (h : b ≠ a) (h' : b ≠ a + 4) : (s.setReg64 a v).reg b = s.reg b := by
  simp [State.setReg64, State.reg_setReg_other, h, h']

theorem State.reg64_setReg64 (a v : Nat) (h : v < 2 ^ 64) : (s.setReg64 a v).reg64 a = v := by
  simp only [State.reg64, State.setReg64, State.reg_setReg_same]
  rw [State.reg_setReg_other _ _ _ _ (by omega), State.reg_setReg_same]
  simp only [BitVec.toNat_ofNat]; omega

/-! ## The canonical form of the registers -/

theorem State.twf_setReg (a : Nat) (v : Word) (h : twf (fun a => regReset a) s.regs = true) :
    twf (fun a => regReset a) (s.setReg a v).regs = true := by
  simpa using twf_tset (fun a => regReset a) s.regs a v h

end Machine
end Sys2Proof
end

