-- ==== Sys2Proof/Laws/Memory.lean ====
section
/-!
SUPPORT. Laws/Memory.lean: what a byte of memory reads after a store, that every store of bytes changes memory alone and keeps its canonical
form, and what a number reads that was stored.
-/
namespace Sys2Proof.Machine

variable (s : State)

/-- Bytes are read through memory alone. -/
theorem State.byte_congr {s t : State} (h : t.mem = s.mem) (a : Nat) : t.byte a = s.byte a := by simp [State.byte, h]

theorem State.byte_setByte (a b : Nat) (v : Byte) :
    (s.setByte a v).byte b = if b = a ∧ writeIgnored a = false then v else s.byte b := by
  unfold State.setByte
  by_cases hw : writeIgnored a = true
  · simp [hw]
  · by_cases h : b = a
    · subst h; simp [hw, State.byte]
    · simp [hw, h, State.byte, tget_tset_other _ _ _ _ _ _ h]

theorem State.memWf_setByte (a : Nat) (v : Byte) (h : memWf s.mem = true) : memWf (s.setByte a v).mem = true := by
  unfold State.setByte; split
  · exact h
  · exact twf_tset memDefault s.mem a v h

theorem State.onlyMem_refl : s.onlyMem s := rfl

theorem State.onlyMem_trans {s t u : State} (h : s.onlyMem t) (h' : t.onlyMem u) : s.onlyMem u := by
  have e : { u with mem := s.mem } = { ({ u with mem := t.mem } : State) with mem := s.mem } := rfl
  unfold State.onlyMem at *; rw [e, h', h]

theorem State.onlyMem_setByte (a : Nat) (v : Byte) : s.onlyMem (s.setByte a v) := by
  unfold State.setByte; split <;> rfl

/-! ## Stores of several bytes -/

theorem State.onlyMem_wr (a n v : Nat) : s.onlyMem (s.wr a n v) := by
  induction n generalizing s a v with
  | zero => rfl
  | succ n ih => exact State.onlyMem_trans (s.onlyMem_setByte _ _) (ih _ _ _)

theorem State.onlyMem_wrBytes (a : Nat) (l : List Byte) : s.onlyMem (s.wrBytes a l) := by
  induction l generalizing s a with
  | nil => rfl
  | cons b l ih => exact State.onlyMem_trans (s.onlyMem_setByte _ _) (ih _ _)

theorem State.memWf_wr (a n v : Nat) (h : memWf s.mem = true) : memWf (s.wr a n v).mem = true := by
  induction n generalizing s a v with
  | zero => exact h
  | succ n ih => exact ih _ _ _ (s.memWf_setByte _ _ h)

theorem State.memWf_wrBytes (a : Nat) (l : List Byte) (h : memWf s.mem = true) : memWf (s.wrBytes a l).mem = true := by
  induction l generalizing s a with
  | nil => exact h
  | cons b l ih => exact ih _ _ (s.memWf_setByte _ _ h)

/-- A byte after a store of n bytes: the stored one inside them, unless it ignores writes. -/
theorem State.byte_wr (a n v b : Nat) :
    (s.wr a n v).byte b =
      if a ≤ b ∧ b < a + n ∧ writeIgnored b = false then BitVec.ofNat 8 (v / 256 ^ (b - a)) else s.byte b := by
  induction n generalizing s a v with
  | zero => rw [if_neg (by omega)]; rfl
  | succ n ih =>
    rw [State.wr, ih, State.byte_setByte]
    by_cases h : b = a
    · subst h
      rw [if_neg (by omega)]
      by_cases hw : writeIgnored b = false
      · rw [if_pos ⟨rfl, hw⟩, if_pos ⟨by omega, by omega, hw⟩]; simp
      · rw [if_neg (fun e => hw e.2), if_neg (fun e => hw e.2.2)]
    · by_cases h2 : a + 1 ≤ b ∧ b < a + 1 + n ∧ writeIgnored b = false
      · rw [if_pos h2, if_pos ⟨by omega, by omega, h2.2.2⟩, show b - a = (b - (a + 1)) + 1 by omega, Nat.pow_succ,
          Nat.div_div_eq_div_mul, Nat.mul_comm 256]
      · rw [if_neg h2, if_neg (fun e => h e.1), if_neg (fun e => h2 ⟨by omega, by omega, e.2.2⟩)]

/-- Outside the stored bytes memory reads as before. -/
theorem State.byte_wr_other (a n v b : Nat) (h : b < a ∨ a + n ≤ b) : (s.wr a n v).byte b = s.byte b := by
  rw [State.byte_wr, if_neg (by omega)]

theorem State.byte_wrBytes_other (a : Nat) (l : List Byte) (b : Nat) (h : b < a ∨ a + l.length ≤ b) :
    (s.wrBytes a l).byte b = s.byte b := by
  induction l generalizing s a with
  | nil => rfl
  | cons c l ih =>
    simp only [List.length_cons] at h
    rw [State.wrBytes, ih _ _ (by omega), State.byte_setByte, if_neg (by omega)]

/-! ## Numbers -/

/-- A number is read from its bytes. -/
theorem State.rd_congr {s t : State} (a n : Nat) (h : ∀ b, a ≤ b → b < a + n → t.byte b = s.byte b) : t.rd a n = s.rd a n := by
  induction n generalizing a with
  | zero => rfl
  | succ n ih =>
    rw [State.rd, State.rd, h a (by omega) (by omega), ih (a + 1) (fun b h1 h2 => h b (by omega) (by omega))]

theorem State.rd_wr_other (a n v b k : Nat) (h : b + k ≤ a ∨ a + n ≤ b) : (s.wr a n v).rd b k = s.rd b k :=
  State.rd_congr b k fun c h1 h2 => s.byte_wr_other a n v c (by omega)

/-- What was stored reads back, where no byte of it ignores writes. -/
theorem State.rd_wr_same (a n v : Nat) (h : ∀ b, a ≤ b → b < a + n → writeIgnored b = false) :
    (s.wr a n v).rd a n = v % 256 ^ n := by
  induction n generalizing s a v with
  | zero => rw [Nat.pow_zero, Nat.mod_one]; rfl
  | succ n ih =>
    rw [State.wr, State.rd, ih _ _ _ (fun b h1 h2 => h b (by omega) (by omega)), State.byte_wr_other _ _ _ _ _ (by omega),
      State.byte_setByte, if_pos ⟨rfl, h a (by omega) (by omega)⟩, Nat.pow_succ', Nat.mod_mul]
    simp

theorem State.rd_lt (a n : Nat) : s.rd a n < 256 ^ n := by
  induction n generalizing a with
  | zero => simp [State.rd]
  | succ n ih =>
    have h1 := ih (a + 1); have h2 := (s.byte a).isLt
    rw [State.rd, Nat.pow_succ]; omega

/-! ## Fields after a store -/

theorem State.onlyMem_variant {s t : State} (h : s.onlyMem t) : t.variant = s.variant :=
  (congrArg State.variant (show ({ t with mem := s.mem } : State) = s from h) : ({ t with mem := s.mem } : State).variant = s.variant)
theorem State.onlyMem_pending {s t : State} (h : s.onlyMem t) : t.pending = s.pending :=
  (congrArg State.pending (show ({ t with mem := s.mem } : State) = s from h) : ({ t with mem := s.mem } : State).pending = s.pending)
theorem State.onlyMem_regs {s t : State} (h : s.onlyMem t) : t.regs = s.regs :=
  (congrArg State.regs (show ({ t with mem := s.mem } : State) = s from h) : ({ t with mem := s.mem } : State).regs = s.regs)
theorem State.onlyMem_inForce {s t : State} (h : s.onlyMem t) : t.inForce = s.inForce :=
  (congrArg State.inForce (show ({ t with mem := s.mem } : State) = s from h) : ({ t with mem := s.mem } : State).inForce = s.inForce)
theorem State.onlyMem_mregs {s t : State} (h : s.onlyMem t) : t.mregs = s.mregs :=
  (congrArg State.mregs (show ({ t with mem := s.mem } : State) = s from h) : ({ t with mem := s.mem } : State).mregs = s.mregs)
theorem State.onlyMem_latches {s t : State} (h : s.onlyMem t) : t.latches = s.latches :=
  (congrArg State.latches (show ({ t with mem := s.mem } : State) = s from h) : ({ t with mem := s.mem } : State).latches = s.latches)
theorem State.onlyMem_lowBufs {s t : State} (h : s.onlyMem t) : t.lowBufs = s.lowBufs :=
  (congrArg State.lowBufs (show ({ t with mem := s.mem } : State) = s from h) : ({ t with mem := s.mem } : State).lowBufs = s.lowBufs)
theorem State.onlyMem_recorder {s t : State} (h : s.onlyMem t) : t.recorder = s.recorder :=
  (congrArg State.recorder (show ({ t with mem := s.mem } : State) = s from h) : ({ t with mem := s.mem } : State).recorder = s.recorder)
theorem State.onlyMem_irq {s t : State} (h : s.onlyMem t) : t.irq = s.irq :=
  (congrArg State.irq (show ({ t with mem := s.mem } : State) = s from h) : ({ t with mem := s.mem } : State).irq = s.irq)
theorem State.onlyMem_time {s t : State} (h : s.onlyMem t) : t.time = s.time :=
  (congrArg State.time (show ({ t with mem := s.mem } : State) = s from h) : ({ t with mem := s.mem } : State).time = s.time)
theorem State.onlyMem_aon {s t : State} (h : s.onlyMem t) : t.aon = s.aon :=
  (congrArg State.aon (show ({ t with mem := s.mem } : State) = s from h) : ({ t with mem := s.mem } : State).aon = s.aon)
theorem State.onlyMem_pins {s t : State} (h : s.onlyMem t) : t.pins = s.pins :=
  (congrArg State.pins (show ({ t with mem := s.mem } : State) = s from h) : ({ t with mem := s.mem } : State).pins = s.pins)
theorem State.onlyMem_cml {s t : State} (h : s.onlyMem t) : t.cml = s.cml :=
  (congrArg State.cml (show ({ t with mem := s.mem } : State) = s from h) : ({ t with mem := s.mem } : State).cml = s.cml)
theorem State.onlyMem_out {s t : State} (h : s.onlyMem t) : t.out = s.out :=
  (congrArg State.out (show ({ t with mem := s.mem } : State) = s from h) : ({ t with mem := s.mem } : State).out = s.out)
theorem State.onlyMem_loop {s t : State} (h : s.onlyMem t) : t.loop = s.loop :=
  (congrArg State.loop (show ({ t with mem := s.mem } : State) = s from h) : ({ t with mem := s.mem } : State).loop = s.loop)
theorem State.onlyMem_can {s t : State} (h : s.onlyMem t) : t.can = s.can :=
  (congrArg State.can (show ({ t with mem := s.mem } : State) = s from h) : ({ t with mem := s.mem } : State).can = s.can)
theorem State.onlyMem_prg {s t : State} (h : s.onlyMem t) : t.prg = s.prg :=
  (congrArg State.prg (show ({ t with mem := s.mem } : State) = s from h) : ({ t with mem := s.mem } : State).prg = s.prg)
theorem State.onlyMem_pair {s t : State} (h : s.onlyMem t) : t.pair = s.pair :=
  (congrArg State.pair (show ({ t with mem := s.mem } : State) = s from h) : ({ t with mem := s.mem } : State).pair = s.pair)
theorem State.onlyMem_azs {s t : State} (h : s.onlyMem t) : t.azs = s.azs :=
  (congrArg State.azs (show ({ t with mem := s.mem } : State) = s from h) : ({ t with mem := s.mem } : State).azs = s.azs)
theorem State.onlyMem_shd {s t : State} (h : s.onlyMem t) : t.shd = s.shd :=
  (congrArg State.shd (show ({ t with mem := s.mem } : State) = s from h) : ({ t with mem := s.mem } : State).shd = s.shd)
theorem State.onlyMem_prism {s t : State} (h : s.onlyMem t) : t.prism = s.prism :=
  (congrArg State.prism (show ({ t with mem := s.mem } : State) = s from h) : ({ t with mem := s.mem } : State).prism = s.prism)
theorem State.onlyMem_gnss {s t : State} (h : s.onlyMem t) : t.gnss = s.gnss :=
  (congrArg State.gnss (show ({ t with mem := s.mem } : State) = s from h) : ({ t with mem := s.mem } : State).gnss = s.gnss)
theorem State.onlyMem_points {s t : State} (h : s.onlyMem t) : t.points = s.points :=
  (congrArg State.points (show ({ t with mem := s.mem } : State) = s from h) : ({ t with mem := s.mem } : State).points = s.points)
theorem State.onlyMem_grz {s t : State} (h : s.onlyMem t) : t.grz = s.grz :=
  (congrArg State.grz (show ({ t with mem := s.mem } : State) = s from h) : ({ t with mem := s.mem } : State).grz = s.grz)
theorem State.onlyMem_net {s t : State} (h : s.onlyMem t) : t.net = s.net :=
  (congrArg State.net (show ({ t with mem := s.mem } : State) = s from h) : ({ t with mem := s.mem } : State).net = s.net)
theorem State.onlyMem_lan {s t : State} (h : s.onlyMem t) : t.lan = s.lan :=
  (congrArg State.lan (show ({ t with mem := s.mem } : State) = s from h) : ({ t with mem := s.mem } : State).lan = s.lan)
theorem State.onlyMem_tick {s t : State} (h : s.onlyMem t) : t.tick = s.tick :=
  (congrArg State.tick (show ({ t with mem := s.mem } : State) = s from h) : ({ t with mem := s.mem } : State).tick = s.tick)
theorem State.onlyMem_sys {s t : State} (h : s.onlyMem t) : t.sys = s.sys :=
  (congrArg State.sys (show ({ t with mem := s.mem } : State) = s from h) : ({ t with mem := s.mem } : State).sys = s.sys)
theorem State.onlyMem_site {s t : State} (h : s.onlyMem t) : t.site = s.site :=
  (congrArg State.site (show ({ t with mem := s.mem } : State) = s from h) : ({ t with mem := s.mem } : State).site = s.site)
theorem State.onlyMem_freeCtr {s t : State} (h : s.onlyMem t) : t.freeCtr = s.freeCtr :=
  (congrArg State.freeCtr (show ({ t with mem := s.mem } : State) = s from h) : ({ t with mem := s.mem } : State).freeCtr = s.freeCtr)

@[simp] theorem State.wr_variant (a n v : Nat) : (s.wr a n v).variant = s.variant := State.onlyMem_variant (s.onlyMem_wr a n v)
@[simp] theorem State.wr_pending (a n v : Nat) : (s.wr a n v).pending = s.pending := State.onlyMem_pending (s.onlyMem_wr a n v)
@[simp] theorem State.wr_regs (a n v : Nat) : (s.wr a n v).regs = s.regs := State.onlyMem_regs (s.onlyMem_wr a n v)
@[simp] theorem State.wr_inForce (a n v : Nat) : (s.wr a n v).inForce = s.inForce := State.onlyMem_inForce (s.onlyMem_wr a n v)
@[simp] theorem State.wr_mregs (a n v : Nat) : (s.wr a n v).mregs = s.mregs := State.onlyMem_mregs (s.onlyMem_wr a n v)
@[simp] theorem State.wr_latches (a n v : Nat) : (s.wr a n v).latches = s.latches := State.onlyMem_latches (s.onlyMem_wr a n v)
@[simp] theorem State.wr_lowBufs (a n v : Nat) : (s.wr a n v).lowBufs = s.lowBufs := State.onlyMem_lowBufs (s.onlyMem_wr a n v)
@[simp] theorem State.wr_recorder (a n v : Nat) : (s.wr a n v).recorder = s.recorder := State.onlyMem_recorder (s.onlyMem_wr a n v)
@[simp] theorem State.wr_irq (a n v : Nat) : (s.wr a n v).irq = s.irq := State.onlyMem_irq (s.onlyMem_wr a n v)
@[simp] theorem State.wr_time (a n v : Nat) : (s.wr a n v).time = s.time := State.onlyMem_time (s.onlyMem_wr a n v)
@[simp] theorem State.wr_aon (a n v : Nat) : (s.wr a n v).aon = s.aon := State.onlyMem_aon (s.onlyMem_wr a n v)
@[simp] theorem State.wr_pins (a n v : Nat) : (s.wr a n v).pins = s.pins := State.onlyMem_pins (s.onlyMem_wr a n v)
@[simp] theorem State.wr_cml (a n v : Nat) : (s.wr a n v).cml = s.cml := State.onlyMem_cml (s.onlyMem_wr a n v)
@[simp] theorem State.wr_out (a n v : Nat) : (s.wr a n v).out = s.out := State.onlyMem_out (s.onlyMem_wr a n v)
@[simp] theorem State.wr_loop (a n v : Nat) : (s.wr a n v).loop = s.loop := State.onlyMem_loop (s.onlyMem_wr a n v)
@[simp] theorem State.wr_can (a n v : Nat) : (s.wr a n v).can = s.can := State.onlyMem_can (s.onlyMem_wr a n v)
@[simp] theorem State.wr_prg (a n v : Nat) : (s.wr a n v).prg = s.prg := State.onlyMem_prg (s.onlyMem_wr a n v)
@[simp] theorem State.wr_pair (a n v : Nat) : (s.wr a n v).pair = s.pair := State.onlyMem_pair (s.onlyMem_wr a n v)
@[simp] theorem State.wr_azs (a n v : Nat) : (s.wr a n v).azs = s.azs := State.onlyMem_azs (s.onlyMem_wr a n v)
@[simp] theorem State.wr_shd (a n v : Nat) : (s.wr a n v).shd = s.shd := State.onlyMem_shd (s.onlyMem_wr a n v)
@[simp] theorem State.wr_prism (a n v : Nat) : (s.wr a n v).prism = s.prism := State.onlyMem_prism (s.onlyMem_wr a n v)
@[simp] theorem State.wr_gnss (a n v : Nat) : (s.wr a n v).gnss = s.gnss := State.onlyMem_gnss (s.onlyMem_wr a n v)
@[simp] theorem State.wr_points (a n v : Nat) : (s.wr a n v).points = s.points := State.onlyMem_points (s.onlyMem_wr a n v)
@[simp] theorem State.wr_grz (a n v : Nat) : (s.wr a n v).grz = s.grz := State.onlyMem_grz (s.onlyMem_wr a n v)
@[simp] theorem State.wr_net (a n v : Nat) : (s.wr a n v).net = s.net := State.onlyMem_net (s.onlyMem_wr a n v)
@[simp] theorem State.wr_lan (a n v : Nat) : (s.wr a n v).lan = s.lan := State.onlyMem_lan (s.onlyMem_wr a n v)
@[simp] theorem State.wr_tick (a n v : Nat) : (s.wr a n v).tick = s.tick := State.onlyMem_tick (s.onlyMem_wr a n v)
@[simp] theorem State.wr_sys (a n v : Nat) : (s.wr a n v).sys = s.sys := State.onlyMem_sys (s.onlyMem_wr a n v)
@[simp] theorem State.wr_site (a n v : Nat) : (s.wr a n v).site = s.site := State.onlyMem_site (s.onlyMem_wr a n v)
@[simp] theorem State.wr_freeCtr (a n v : Nat) : (s.wr a n v).freeCtr = s.freeCtr := State.onlyMem_freeCtr (s.onlyMem_wr a n v)

@[simp] theorem State.wrBytes_variant (a : Nat) (l : List Byte) : (s.wrBytes a l).variant = s.variant := State.onlyMem_variant (s.onlyMem_wrBytes a l)
@[simp] theorem State.wrBytes_pending (a : Nat) (l : List Byte) : (s.wrBytes a l).pending = s.pending := State.onlyMem_pending (s.onlyMem_wrBytes a l)
@[simp] theorem State.wrBytes_regs (a : Nat) (l : List Byte) : (s.wrBytes a l).regs = s.regs := State.onlyMem_regs (s.onlyMem_wrBytes a l)
@[simp] theorem State.wrBytes_inForce (a : Nat) (l : List Byte) : (s.wrBytes a l).inForce = s.inForce := State.onlyMem_inForce (s.onlyMem_wrBytes a l)
@[simp] theorem State.wrBytes_mregs (a : Nat) (l : List Byte) : (s.wrBytes a l).mregs = s.mregs := State.onlyMem_mregs (s.onlyMem_wrBytes a l)
@[simp] theorem State.wrBytes_latches (a : Nat) (l : List Byte) : (s.wrBytes a l).latches = s.latches := State.onlyMem_latches (s.onlyMem_wrBytes a l)
@[simp] theorem State.wrBytes_lowBufs (a : Nat) (l : List Byte) : (s.wrBytes a l).lowBufs = s.lowBufs := State.onlyMem_lowBufs (s.onlyMem_wrBytes a l)
@[simp] theorem State.wrBytes_recorder (a : Nat) (l : List Byte) : (s.wrBytes a l).recorder = s.recorder := State.onlyMem_recorder (s.onlyMem_wrBytes a l)
@[simp] theorem State.wrBytes_irq (a : Nat) (l : List Byte) : (s.wrBytes a l).irq = s.irq := State.onlyMem_irq (s.onlyMem_wrBytes a l)
@[simp] theorem State.wrBytes_time (a : Nat) (l : List Byte) : (s.wrBytes a l).time = s.time := State.onlyMem_time (s.onlyMem_wrBytes a l)
@[simp] theorem State.wrBytes_aon (a : Nat) (l : List Byte) : (s.wrBytes a l).aon = s.aon := State.onlyMem_aon (s.onlyMem_wrBytes a l)
@[simp] theorem State.wrBytes_pins (a : Nat) (l : List Byte) : (s.wrBytes a l).pins = s.pins := State.onlyMem_pins (s.onlyMem_wrBytes a l)
@[simp] theorem State.wrBytes_cml (a : Nat) (l : List Byte) : (s.wrBytes a l).cml = s.cml := State.onlyMem_cml (s.onlyMem_wrBytes a l)
@[simp] theorem State.wrBytes_out (a : Nat) (l : List Byte) : (s.wrBytes a l).out = s.out := State.onlyMem_out (s.onlyMem_wrBytes a l)
@[simp] theorem State.wrBytes_loop (a : Nat) (l : List Byte) : (s.wrBytes a l).loop = s.loop := State.onlyMem_loop (s.onlyMem_wrBytes a l)
@[simp] theorem State.wrBytes_can (a : Nat) (l : List Byte) : (s.wrBytes a l).can = s.can := State.onlyMem_can (s.onlyMem_wrBytes a l)
@[simp] theorem State.wrBytes_prg (a : Nat) (l : List Byte) : (s.wrBytes a l).prg = s.prg := State.onlyMem_prg (s.onlyMem_wrBytes a l)
@[simp] theorem State.wrBytes_pair (a : Nat) (l : List Byte) : (s.wrBytes a l).pair = s.pair := State.onlyMem_pair (s.onlyMem_wrBytes a l)
@[simp] theorem State.wrBytes_azs (a : Nat) (l : List Byte) : (s.wrBytes a l).azs = s.azs := State.onlyMem_azs (s.onlyMem_wrBytes a l)
@[simp] theorem State.wrBytes_shd (a : Nat) (l : List Byte) : (s.wrBytes a l).shd = s.shd := State.onlyMem_shd (s.onlyMem_wrBytes a l)
@[simp] theorem State.wrBytes_prism (a : Nat) (l : List Byte) : (s.wrBytes a l).prism = s.prism := State.onlyMem_prism (s.onlyMem_wrBytes a l)
@[simp] theorem State.wrBytes_gnss (a : Nat) (l : List Byte) : (s.wrBytes a l).gnss = s.gnss := State.onlyMem_gnss (s.onlyMem_wrBytes a l)
@[simp] theorem State.wrBytes_points (a : Nat) (l : List Byte) : (s.wrBytes a l).points = s.points := State.onlyMem_points (s.onlyMem_wrBytes a l)
@[simp] theorem State.wrBytes_grz (a : Nat) (l : List Byte) : (s.wrBytes a l).grz = s.grz := State.onlyMem_grz (s.onlyMem_wrBytes a l)
@[simp] theorem State.wrBytes_net (a : Nat) (l : List Byte) : (s.wrBytes a l).net = s.net := State.onlyMem_net (s.onlyMem_wrBytes a l)
@[simp] theorem State.wrBytes_lan (a : Nat) (l : List Byte) : (s.wrBytes a l).lan = s.lan := State.onlyMem_lan (s.onlyMem_wrBytes a l)
@[simp] theorem State.wrBytes_tick (a : Nat) (l : List Byte) : (s.wrBytes a l).tick = s.tick := State.onlyMem_tick (s.onlyMem_wrBytes a l)
@[simp] theorem State.wrBytes_sys (a : Nat) (l : List Byte) : (s.wrBytes a l).sys = s.sys := State.onlyMem_sys (s.onlyMem_wrBytes a l)
@[simp] theorem State.wrBytes_site (a : Nat) (l : List Byte) : (s.wrBytes a l).site = s.site := State.onlyMem_site (s.onlyMem_wrBytes a l)
@[simp] theorem State.wrBytes_freeCtr (a : Nat) (l : List Byte) : (s.wrBytes a l).freeCtr = s.freeCtr := State.onlyMem_freeCtr (s.onlyMem_wrBytes a l)

end Sys2Proof.Machine
end

