-- ==== Sys2Proof/Laws/Cumel.lean ====
section
/-!
SUPPORT. Laws/Cumel.lean: the registers of a context in its slot of the context store, and what running one instruction does around its
body.
-/
namespace Sys2Proof.Machine

variable (s : State)

/-! ## Where the registers of a slot lie -/

/-- The bytes of a slot that take writes. -/
theorem writeIgnored_slot (c o : Nat) (hc : c < 256)
    (h : (8 ≤ o ∧ o < 0x20C) ∨ (0x210 ≤ o ∧ o < 0x218) ∨ (0x240 ≤ o ∧ o < 0x1000)) : writeIgnored (slot c + o) = false := by
  have e : (slot c + o) % 0x1000 = o := by simp only [slot, ctxBase]; omega
  simp only [writeIgnored, e]
  have : ¬ 0x1000000 ≤ slot c + o := by simp only [slot, ctxBase]; omega
  simp [this]; omega

/-- The bytes of w0 ignore writes. -/
theorem writeIgnored_w0 (c o : Nat) (hc : c < 256) (h : o < 8) : writeIgnored (slot c + o) = true := by
  have e : (slot c + o) % 0x1000 = o := by simp only [slot, ctxBase]; omega
  have h1 : slot c + o < 0x1000000 := by simp only [slot, ctxBase]; omega
  have h2 : ctxBase ≤ slot c + o := by simp only [slot, ctxBase]; omega
  simp [writeIgnored, e, h1, h2, h]

/-- A number stored in a slot reads back. -/
theorem State.rd_wr_slot (c o n v : Nat) (hc : c < 256)
    (h : (8 ≤ o ∧ o + n ≤ 0x20C) ∨ (0x210 ≤ o ∧ o + n ≤ 0x218) ∨ (0x240 ≤ o ∧ o + n ≤ 0x1000)) :
    (s.wr (slot c + o) n v).rd (slot c + o) n = v % 256 ^ n := by
  refine s.rd_wr_same _ _ _ fun b h1 h2 => ?_
  obtain ⟨k, rfl⟩ : ∃ k, b = slot c + (o + k) := ⟨b - slot c - o, by omega⟩
  exact writeIgnored_slot c (o + k) hc (by omega)

/-! ## The w registers -/

@[simp] theorem State.w_zero (c : Nat) : s.w c 0 = 0 := rfl

theorem State.w_setW_same (c r : Nat) (v : Dword) (hc : c < 256) (h : r ≠ 0) (hr : r < 32) : (s.setW c r v).w c r = v := by
  rw [State.w, if_neg h, State.setW, State.rd_wr_slot _ _ _ _ _ hc (by omega)]
  apply BitVec.eq_of_toNat_eq; simp [v.isLt]

theorem State.w_setW_other (c r q : Nat) (v : Dword) (h : q ≠ r) : (s.setW c r v).w c q = s.w c q := by
  unfold State.w State.setW; split
  · rfl
  · rw [State.rd_wr_other _ _ _ _ _ _ (by omega)]

/-- A byte after a write of a w register: w0 keeps its bytes. -/
theorem State.byte_setW_other (c r : Nat) (v : Dword) (b : Nat) (hc : c < 256) (h : r = 0 ∨ outside (slot c + 8 * r) 8 b) :
    (s.setW c r v).byte b = s.byte b := by
  rw [State.setW, State.byte_wr]
  split
  · next e =>
    rcases h with rfl | h
    · have := writeIgnored_w0 c (b - slot c) hc (by omega)
      rw [show slot c + (b - slot c) = b by omega, e.2.2] at this; cases this
    · unfold outside at h; omega
  · rfl

/-! ## Registers of other kinds -/

theorem State.d_setD_same (c r : Nat) (v : Dword) (hc : c < 256) (hr : r < 32) : (s.setD c r v).d c r = v := by
  rw [State.d, State.setD, Nat.add_assoc, State.rd_wr_slot _ _ _ _ _ hc (by omega)]
  apply BitVec.eq_of_toNat_eq; simp [v.isLt]

theorem State.d_setD_other (c r q : Nat) (v : Dword) (h : q ≠ r) : (s.setD c r v).d c q = s.d c q := by
  rw [State.d, State.setD, State.rd_wr_other _ _ _ _ _ _ (by omega)]; rfl

theorem State.pc_setPc (c v : Nat) (hc : c < 256) : (s.setPc c v).pc c = v % 2 ^ 23 := by
  rw [State.pc, State.setPc, State.rd_wr_slot _ _ _ _ _ hc (by omega)]; omega

theorem State.ib_setIb (c v : Nat) (hc : c < 256) : (s.setIb c v).ib c = v % 2 ^ 22 := by
  rw [State.ib, State.setIb, State.rd_wr_slot _ _ _ _ _ hc (by omega)]; omega

theorem State.tb_setTb (c v : Nat) (hc : c < 256) : (s.setTb c v).tb c = v % 2 ^ 12 := by
  rw [State.tb, State.setTb, State.rd_wr_slot _ _ _ _ _ hc (by omega)]; omega

theorem State.fpflags_setFpflags (c v : Nat) (hc : c < 256) : (s.setFpflags c v).fpflags c = v % 32 := by
  rw [State.fpflags, State.setFpflags, State.rd_wr_slot _ _ _ _ _ hc (by omega)]; omega

theorem State.depth_setDepth (c v : Nat) (hc : c < 256) (h : v ≤ 220) : (s.setDepth c v).depth c = v := by
  rw [State.depth, State.setDepth, State.rd_wr_slot _ _ _ _ _ hc (by omega), Nat.mod_eq_of_lt (by omega)]; omega

theorem State.w_setPc (c v r : Nat) (hr : r < 32) : (s.setPc c v).w c r = s.w c r := by
  unfold State.w State.setPc; split
  · rfl
  · rw [State.rd_wr_other _ _ _ _ _ _ (by omega)]

theorem State.d_setPc (c v r : Nat) (hr : r < 32) : (s.setPc c v).d c r = s.d c r := by
  unfold State.d State.setPc; rw [State.rd_wr_other _ _ _ _ _ _ (by omega)]

theorem State.ib_setPc (c v : Nat) : (s.setPc c v).ib c = s.ib c := by
  unfold State.ib State.setPc; rw [State.rd_wr_other _ _ _ _ _ _ (by omega)]

theorem State.tb_setPc (c v : Nat) : (s.setPc c v).tb c = s.tb c := by
  unfold State.tb State.setPc; rw [State.rd_wr_other _ _ _ _ _ _ (by omega)]

theorem State.fpflags_setPc (c v : Nat) : (s.setPc c v).fpflags c = s.fpflags c := by
  unfold State.fpflags State.setPc; rw [State.rd_wr_other _ _ _ _ _ _ (by omega)]

theorem State.depth_setPc (c v : Nat) : (s.setPc c v).depth c = s.depth c := by
  unfold State.depth State.setPc; rw [State.rd_wr_other _ _ _ _ _ _ (by omega)]

theorem State.pc_setW (c r : Nat) (v : Dword) (hr : r < 32) : (s.setW c r v).pc c = s.pc c := by
  unfold State.pc State.setW; rw [State.rd_wr_other _ _ _ _ _ _ (by omega)]

theorem State.pc_setD (c r : Nat) (v : Dword) (hr : r < 32) : (s.setD c r v).pc c = s.pc c := by
  unfold State.pc State.setD; rw [State.rd_wr_other _ _ _ _ _ _ (by omega)]

theorem State.pc_setFpflags (c v : Nat) : (s.setFpflags c v).pc c = s.pc c := by
  unfold State.pc State.setFpflags; rw [State.rd_wr_other _ _ _ _ _ _ (by omega)]

theorem State.fpflags_setD (c r : Nat) (v : Dword) (hr : r < 32) : (s.setD c r v).fpflags c = s.fpflags c := by
  unfold State.fpflags State.setD; rw [State.rd_wr_other _ _ _ _ _ _ (by omega)]

theorem State.d_setFpflags (c v r : Nat) (hr : r < 32) : (s.setFpflags c v).d c r = s.d c r := by
  unfold State.d State.setFpflags; rw [State.rd_wr_other _ _ _ _ _ _ (by omega)]

theorem State.fpflags_setW (c r : Nat) (v : Dword) (hr : r < 32) : (s.setW c r v).fpflags c = s.fpflags c := by
  unfold State.fpflags State.setW; rw [State.rd_wr_other _ _ _ _ _ _ (by omega)]

theorem State.w_setFpflags (c v r : Nat) (hr : r < 32) : (s.setFpflags c v).w c r = s.w c r := by
  unfold State.w State.setFpflags; split
  · rfl
  · rw [State.rd_wr_other _ _ _ _ _ _ (by omega)]

/-! ## One instruction -/

/-- The activation of a context that was resumed at a breakpoint loses its mark; memory and registers stay. -/
theorem State.mem_modAct (c : Nat) (g : Act → Act) : (s.modAct c g).mem = s.mem := by
  unfold State.modAct; split <;> rfl

theorem State.regs_modAct (c : Nat) (g : Act → Act) : (s.modAct c g).regs = s.regs := by
  unfold State.modAct; split <;> rfl

/-- The state in which the body of an instruction runs. -/
def State.bodyState (s : State) (c : Nat) : State := (s.modAct c ({ · with skip := false })).setPc c (s.pc c + 4)

/-- A context whose PC names an instruction runs its body with PC at the next word. -/
theorem State.run_ok (c : Nat) (body : State → Ran) (t : State) (h4 : s.pc c % 4 = 0) (hp : s.pc c ≤ 0x4FFFFF)
    (h : body (s.bodyState c) = .ok t) : s.run c body = t := by
  have e : (s.modAct c ({ · with skip := false })).pc c = s.pc c := by
    simp only [State.pc]; rw [State.rd_congr]; intro b _ _; exact State.byte_congr (s.mem_modAct c _) b
  have hf : (s.modAct c ({ · with skip := false })).fetchExc c = none := by
    simp only [State.fetchExc, e]; rw [if_neg (by omega), if_neg (by omega)]
  simp only [State.run, hf, e]
  rw [show (s.modAct c ({ · with skip := false })).setPc c (s.pc c + 4) = s.bodyState c from rfl, h]

/-- An exception of the body: none of its effect takes place. -/
theorem State.run_exc (c : Nat) (body : State → Ran) (e : Exc) (h4 : s.pc c % 4 = 0) (hp : s.pc c ≤ 0x4FFFFF)
    (h : body (s.bodyState c) = .exc e) : s.run c body = (s.modAct c ({ · with skip := false })).excSched c e := by
  have e' : (s.modAct c ({ · with skip := false })).pc c = s.pc c := by
    simp only [State.pc]; rw [State.rd_congr]; intro b _ _; exact State.byte_congr (s.mem_modAct c _) b
  have hf : (s.modAct c ({ · with skip := false })).fetchExc c = none := by
    simp only [State.fetchExc, e']; rw [if_neg (by omega), if_neg (by omega)]
  simp only [State.run, hf, e']
  rw [show (s.modAct c ({ · with skip := false })).setPc c (s.pc c + 4) = s.bodyState c from rfl, h]

theorem State.byte_bodyState (c b : Nat) (h : outside (slot c + 0x200) 4 b) : (s.bodyState c).byte b = s.byte b := by
  unfold State.bodyState State.setPc
  rw [State.byte_wr_other _ _ _ _ _ h]; exact State.byte_congr (s.mem_modAct c _) b

theorem State.pc_bodyState (c : Nat) (hc : c < 256) (hp : s.pc c ≤ 0x4FFFFF) : (s.bodyState c).pc c = s.pc c + 4 := by
  rw [State.bodyState, State.pc_setPc _ _ _ hc]; omega

theorem State.onlyMem_bodyState (c : Nat) : (s.modAct c ({ · with skip := false })).onlyMem (s.bodyState c) :=
  State.onlyMem_wr _ _ _ _

/-- The registers that an instruction reads are those before it. -/
theorem State.rd_bodyState (c a n : Nat) (h : a + n ≤ slot c + 0x200 ∨ slot c + 0x204 ≤ a) : (s.bodyState c).rd a n = s.rd a n :=
  State.rd_congr a n fun b h1 h2 => s.byte_bodyState c b (by unfold outside; omega)

theorem State.w_bodyState (c r : Nat) (hr : r < 32) : (s.bodyState c).w c r = s.w c r := by
  unfold State.w; split
  · rfl
  · rw [State.rd_bodyState _ _ _ _ (by omega)]

theorem State.d_bodyState (c r : Nat) (hr : r < 32) : (s.bodyState c).d c r = s.d c r := by
  unfold State.d; rw [State.rd_bodyState _ _ _ _ (by omega)]

theorem State.fpflags_bodyState (c : Nat) : (s.bodyState c).fpflags c = s.fpflags c := by
  unfold State.fpflags; rw [State.rd_bodyState _ _ _ _ (by omega)]

theorem State.ib_bodyState (c : Nat) : (s.bodyState c).ib c = s.ib c := by
  unfold State.ib; rw [State.rd_bodyState _ _ _ _ (by omega)]

theorem State.tb_bodyState (c : Nat) : (s.bodyState c).tb c = s.tb c := by
  unfold State.tb; rw [State.rd_bodyState _ _ _ _ (by omega)]

theorem State.depth_bodyState (c : Nat) : (s.bodyState c).depth c = s.depth c := by
  unfold State.depth; rw [State.rd_bodyState _ _ _ _ (by omega)]

/-! ## What an instruction with one result does -/

theorem regNo_eq_zero (r : RegNo) : r = 0 ↔ r.toNat = 0 := by
  constructor
  · rintro rfl; rfl
  · intro h; apply BitVec.eq_of_toNat_eq; simpa using h

/-- An instruction that writes w[rd] with a value of the registers: PC, the register, and nothing else. -/
theorem State.runW_spec (c : Ctx) (rd : RegNo) (v : State → Dword) (h4 : s.pc c.toNat % 4 = 0) (hp : s.pc c.toNat ≤ 0x4FFFFF) :
    (s.runW c rd v).pc c.toNat = s.pc c.toNat + 4 ∧
    (s.runW c rd v).w c.toNat rd.toNat = (if rd = 0 then 0 else v (s.bodyState c.toNat)) ∧
    (s.modAct c.toNat ({ · with skip := false })).onlyMem (s.runW c rd v) ∧
    ∀ a, outside (slot c.toNat + 0x200) 4 a → (rd = 0 ∨ outside (slot c.toNat + 8 * rd.toNat) 8 a) →
      (s.runW c rd v).byte a = s.byte a := by
  have hc : c.toNat < 256 := c.isLt
  have hr : rd.toNat < 32 := rd.isLt
  rw [show s.runW c rd v = (s.bodyState c.toNat).setW c.toNat rd.toNat (v (s.bodyState c.toNat)) from s.run_ok _ _ _ h4 hp rfl]
  refine ⟨?_, ?_, ?_, ?_⟩
  · rw [State.pc_setW _ _ _ _ hr, State.pc_bodyState _ _ hc hp]
  · by_cases hz : rd = 0
    · simp [hz]
    · rw [if_neg hz, State.w_setW_same _ _ _ _ hc (by rwa [Ne, ← regNo_eq_zero]) hr]
  · exact State.onlyMem_trans (s.onlyMem_bodyState _) (State.onlyMem_wr _ _ _ _)
  · intro a h1 h2
    rw [State.byte_setW_other _ _ _ _ _ hc (h2.imp_left (regNo_eq_zero rd).1), State.byte_bodyState _ _ _ h1]

/-- An instruction that writes d[rd] and collects its flags. -/
theorem State.runD_spec (c : Ctx) (rd : RegNo) (v : State → FpRes) (h4 : s.pc c.toNat % 4 = 0) (hp : s.pc c.toNat ≤ 0x4FFFFF) :
    let r := v (s.bodyState c.toNat)
    (s.runD c rd v).pc c.toNat = s.pc c.toNat + 4 ∧
    (s.runD c rd v).d c.toNat rd.toNat = BitVec.ofNat 64 r.bits ∧
    (s.runD c rd v).fpflags c.toNat = (s.fpflags c.toNat ||| r.flags) % 32 ∧
    (s.modAct c.toNat ({ · with skip := false })).onlyMem (s.runD c rd v) ∧
    ∀ a, outside (slot c.toNat + 0x200) 4 a → outside (slot c.toNat + 0x100 + 8 * rd.toNat) 8 a →
      (r.flags = 0 ∨ outside (slot c.toNat + 0x210) 4 a) → (s.runD c rd v).byte a = s.byte a := by
  have hc : c.toNat < 256 := c.isLt
  have hr : rd.toNat < 32 := rd.isLt
  have hf : s.fpflags c.toNat < 32 := Nat.mod_lt _ (by decide)
  intro r
  rw [show s.runD c rd v = ((s.bodyState c.toNat).setD c.toNat rd.toNat (BitVec.ofNat 64 r.bits)).flags c.toNat r.flags from
    s.run_ok _ _ _ h4 hp rfl]
  by_cases hz : r.flags = 0
  · rw [State.flags, if_pos hz]
    refine ⟨?_, State.d_setD_same _ _ _ _ hc hr, ?_, State.onlyMem_trans (s.onlyMem_bodyState _) (State.onlyMem_wr _ _ _ _), ?_⟩
    · rw [State.pc_setD _ _ _ _ hr, State.pc_bodyState _ _ hc hp]
    · rw [State.fpflags_setD _ _ _ _ hr, State.fpflags_bodyState, hz, Nat.or_zero, Nat.mod_eq_of_lt hf]
    · intro a h1 h2 _
      rw [State.setD, State.byte_wr_other _ _ _ _ _ h2, State.byte_bodyState _ _ _ h1]
  · rw [State.flags, if_neg hz]
    refine ⟨?_, ?_, ?_, State.onlyMem_trans (State.onlyMem_trans (s.onlyMem_bodyState _) (State.onlyMem_wr _ _ _ _))
      (State.onlyMem_wr _ _ _ _), ?_⟩
    · rw [State.pc_setFpflags, State.pc_setD _ _ _ _ hr, State.pc_bodyState _ _ hc hp]
    · rw [State.d_setFpflags _ _ _ _ hr, State.d_setD_same _ _ _ _ hc hr]
    · rw [State.fpflags_setFpflags _ _ _ hc, State.fpflags_setD _ _ _ _ hr, State.fpflags_bodyState]
    · intro a h1 h2 h3
      rw [State.setFpflags, State.byte_wr_other _ _ _ _ _ (h3.resolve_left hz), State.setD, State.byte_wr_other _ _ _ _ _ h2,
        State.byte_bodyState _ _ _ h1]

end Sys2Proof.Machine
end

