-- ==== Sys2Proof/Laws/Recorder.lean ====
section
/-!
SUPPORT. Laws/Recorder.lean: everything that recording an event and asserting an interrupt source can do: the recorder, the interrupt
controller, the detectors, their registers and the event store in MRAM change, and nothing else.
-/
namespace Sys2Proof.Machine

variable (s : State)

theorem State.logFrame_refl : s.logFrame s := ⟨rfl, fun _ _ => rfl, fun _ _ => rfl⟩

theorem State.logFrame_trans {s t u : State} (h : s.logFrame t) (h' : t.logFrame u) : s.logFrame u := by
  refine ⟨?_, fun a ha => (h'.2.1 a ha).trans (h.2.1 a ha), fun a ha => (h'.2.2 a ha).trans (h.2.2 a ha)⟩
  have e : ({ u with mem := s.mem, regs := s.regs, recorder := s.recorder, irq := s.irq, shd := s.shd } : State) =
    { ({ u with mem := t.mem, regs := t.regs, recorder := t.recorder, irq := t.irq, shd := t.shd } : State) with
      mem := s.mem, regs := s.regs, recorder := s.recorder, irq := s.irq, shd := s.shd } := rfl
  rw [e, h'.1, h.1]

theorem State.logFrame_recorder (r : RecSt) : s.logFrame { s with recorder := r } := ⟨rfl, fun _ _ => rfl, fun _ _ => rfl⟩
theorem State.logFrame_irq (r : IrqSt) : s.logFrame { s with irq := r } := ⟨rfl, fun _ _ => rfl, fun _ _ => rfl⟩
theorem State.logFrame_shd (r : ShdSt) : s.logFrame { s with shd := r } := ⟨rfl, fun _ _ => rfl, fun _ _ => rfl⟩

theorem State.logFrame_setReg (a : Nat) (v : Word) (h : logReg a = true) : s.logFrame (s.setReg a v) := by
  refine ⟨rfl, fun b hb => s.reg_setReg_other a b v ?_, fun _ _ => rfl⟩
  rintro rfl; rw [h] at hb; cases hb

theorem State.logFrame_put (x : Fld) (v : Nat) (h : logReg x.addr = true) : s.logFrame (s.put x v) := s.logFrame_setReg _ _ h
theorem State.logFrame_count (x : Fld) (d : Nat) (h : logReg x.addr = true) : s.logFrame (s.count x d) := s.logFrame_setReg _ _ h

theorem State.logFrame_foldl {α : Type} (g : State → α → State) (hg : ∀ (s : State) (x : α), s.logFrame (g s x)) (l : List α) :
    s.logFrame (l.foldl g s) := by
  induction l generalizing s with
  | nil => exact s.logFrame_refl
  | cons x l ih => exact State.logFrame_trans (hg s x) (ih _)

/-! ## Placing a record -/

theorem State.logFrame_newRecord (src code : Nat) (p : Payload) (b : Bool) : s.logFrame (s.newRecord src code p b).2 :=
  s.logFrame_recorder _

theorem State.logFrame_toStore (r : Rec) : s.logFrame (s.toStore r) := by
  refine State.logFrame_trans ⟨?_, ?_, ?_⟩ (State.logFrame_put _ _ _ rfl)
  · have := s.onlyMem_wrBytes (mramBase + 64 * (r.seq - s.recorder.first)) r.bytes
    have e : ∀ u : State, s.onlyMem u →
        ({ u with mem := s.mem, regs := s.regs, recorder := s.recorder, irq := s.irq, shd := s.shd } : State) = s := by
      intro u h
      exact congrArg (fun v : State => ({ v with regs := s.regs, recorder := s.recorder, irq := s.irq, shd := s.shd } : State)) h
    exact e _ this
  · intro a _; exact State.reg_congr (by simp) a
  · intro a h; exact s.byte_wrBytes_other _ _ a (Or.inl (by omega))

theorem State.logFrame_startFlush (c : Nat) : s.logFrame (s.startFlush c) := by
  unfold State.startFlush; split
  · exact s.logFrame_refl
  · exact State.logFrame_trans (s.logFrame_recorder _) (State.logFrame_put _ _ _ rfl)

theorem State.logFrame_fillTrigger : s.logFrame s.fillTrigger := by
  simp only [State.fillTrigger]; split
  · exact s.logFrame_startFlush 8
  · exact s.logFrame_refl

theorem State.logFrame_place (src code : Nat) (p : Payload) (d : Bool) : s.logFrame (s.place src code p d) := by
  unfold State.place; split
  · exact State.logFrame_trans (s.logFrame_newRecord src code p false) (State.logFrame_toStore _ _)
  · split
    · exact State.logFrame_trans (s.logFrame_newRecord src code p true)
        (State.logFrame_trans (State.logFrame_recorder _ _) (State.logFrame_fillTrigger _))
    · exact State.logFrame_trans (s.logFrame_newRecord src code p false) (State.logFrame_recorder _ _)

/-! ## Detectors and sources -/

theorem State.logFrame_countPend : s.logFrame s.countPend := s.logFrame_put _ _ rfl

theorem blockOf_pend (k : Nat) (h : k < 8) : logReg (R.SHD_PEND 0 + 4 * k) = true := by
  interval_cases k <;> rfl

/-- The number of a detector is below 256. -/
theorem State.logFrame_detect (d : Nat) (h : d < 256) : s.logFrame (s.detect d) := by
  simp only [State.detect]; split
  · refine State.logFrame_trans ?_ (State.logFrame_trans (State.logFrame_setReg _ _ _ (blockOf_pend (d / 32) (by omega)))
      (State.logFrame_trans (State.logFrame_put _ _ _ rfl) (State.logFrame_trans (State.logFrame_put _ _ _ rfl) (State.logFrame_countPend _))))
    split
    · exact s.logFrame_refl
    · exact s.logFrame_shd _
  · exact s.logFrame_refl

theorem State.listedEff_lt {a stride n : Nat} {e : Nat × Word} (h : e ∈ s.listedEff a stride n) : e.1 < n := by
  simp only [State.listedEff, List.mem_filterMap, List.mem_range] at h
  obtain ⟨i, hi, h⟩ := h; split at h
  · cases h; exact hi
  · cases h

theorem State.detectorsOf_lt {src unit d : Nat} (h : d ∈ s.detectorsOf src unit) : d < 256 := by
  simp only [State.detectorsOf, List.mem_filterMap] at h
  obtain ⟨e, he, h⟩ := h; split at h
  · cases h; exact s.listedEff_lt he
  · cases h

theorem State.logFrame_detectAll (l : List Nat) (h : ∀ d ∈ l, d < 256) : s.logFrame (l.foldl (·.detect ·) s) := by
  induction l generalizing s with
  | nil => exact s.logFrame_refl
  | cons x l ih =>
    exact State.logFrame_trans (s.logFrame_detect x (h x (by simp))) (ih _ (fun d hd => h d (by simp [hd])))

/-- A source that exists has a number below 256. -/
theorem State.sourceExists_lt {n : Nat} (h : s.sourceExists n = true) : n < 256 := by
  simp [State.sourceExists] at h; omega

theorem logReg_coal (n : Nat) (h : n < 256) : logReg (F.IRQ_COAL_PCNT n).addr = true := by
  have e : (F.IRQ_COAL_PCNT n).addr = R.IRQ_COAL n := rfl
  have : blockOf (R.IRQ_COAL n) = 14 := by simp only [blockOf, R.IRQ_COAL]; omega
  simp [logReg, e, this]

theorem State.logFrame_assertSrc (n : Nat) : s.logFrame (s.assertSrc n) := by
  simp only [State.assertSrc]
  by_cases hx : s.sourceExists n = true
  · rw [if_pos hx]
    have hn := s.sourceExists_lt hx
    refine State.logFrame_trans (s.logFrame_detectAll (s.detectorsOf 2 n) (fun d hd => s.detectorsOf_lt hd)) ?_
    split
    · refine State.logFrame_trans ?_ (State.logFrame_count _ _ _ (logReg_coal n hn))
      split
      · exact State.logFrame_irq _ _
      · exact State.logFrame_refl _
    · exact State.logFrame_refl _
  · rw [if_neg hx]; exact s.logFrame_refl

/-! ## Acceptance -/

theorem State.logFrame_accept (src code : Nat) (p : Payload) (d : Bool) : s.logFrame (s.accept src code p d).2 := by
  simp only [State.accept]; split
  · exact s.logFrame_refl
  · split
    · exact s.logFrame_count _ _ rfl
    · split
      · exact s.logFrame_count _ _ rfl
      · split
        · exact State.logFrame_trans (s.logFrame_place _ _ _ _) (State.logFrame_trans (State.logFrame_put _ _ _ rfl)
            (State.logFrame_trans (State.logFrame_assertSrc _ _) (State.logFrame_count _ _ _ rfl)))
        · exact s.logFrame_place _ _ _ _

theorem State.bucketOf_le (code : Nat) : s.bucketOf code ≤ 1024 := by
  unfold State.bucketOf; split
  · next e h =>
    have h := List.mem_of_find?_eq_some h
    simp only [State.listed, List.mem_filterMap] at h
    obtain ⟨x, _, h⟩ := h; split at h
    · next c => cases h; simp only [R.REC_RLCODE] at *; omega
    · cases h
  · exact Nat.le_refl _

theorem logReg_rlsup (b : Nat) (h : b < 1024) : logReg (F.REC_RLSUP_COUNT b).addr = true := by
  have e : (F.REC_RLSUP_COUNT b).addr = R.REC_RLSUP b := rfl
  have : blockOf (R.REC_RLSUP b) = 15 := by simp only [blockOf, R.REC_RLSUP]; omega
  simp [logReg, e, this]

theorem State.logFrame_suppress (b code : Nat) (h : b ≤ 1024) : s.logFrame (s.suppress b code) := by
  simp only [State.suppress]
  refine State.logFrame_trans (State.logFrame_trans ?_ (State.logFrame_count _ _ _ rfl)) (State.logFrame_recorder _ _)
  split
  · exact s.logFrame_count _ _ rfl
  · exact s.logFrame_count _ _ (logReg_rlsup b (by omega))

theorem State.logFrame_summarise (code : Nat) : s.logFrame (s.summarise code) := by
  unfold State.summarise; split
  · next x _ =>
    have h := s.logFrame_accept 0x10 0x0F02 (payW [x.code, x.count, x.first, x.last]) false
    split
    · next s' e => rw [e] at h; exact State.logFrame_trans h (State.logFrame_recorder _ _)
    · next s' _ e => rw [e] at h; exact h
  · exact s.logFrame_refl

theorem State.logFrame_flushOn (code : Nat) (fs : Bool) : s.logFrame (s.flushOn code fs) := by
  unfold State.flushOn; split
  · split
    · exact s.logFrame_startFlush _
    · exact s.logFrame_refl
  · exact s.logFrame_refl

theorem State.logFrame_spend (b code : Nat) : s.logFrame (s.spend b code) := by
  unfold State.spend; split
  · exact s.logFrame_refl
  · exact s.logFrame_recorder _

theorem State.logFrame_offerRec (src code : Nat) (p : Payload) : s.logFrame (s.offerRec src code p).2 := by
  unfold State.offerRec; split
  · exact s.logFrame_count _ _ rfl
  · dsimp only; split
    · exact s.logFrame_suppress _ _ (s.bucketOf_le code)
    · exact State.logFrame_trans (s.logFrame_spend _ _) (State.logFrame_trans (State.logFrame_summarise _ _) (State.logFrame_accept _ _ _ _ _))

theorem State.logFrame_offer (src code : Nat) (p : Payload) (fs : Bool) : s.logFrame (s.offer src code p fs).2 := by
  unfold State.offer; split
  · exact s.logFrame_refl
  · exact State.logFrame_trans (s.logFrame_offerRec _ _ _) (State.logFrame_flushOn _ _ _)

/-! ## Events -/

theorem State.logFrame_record (code : Nat) (p : Payload) (fs : Bool) : s.logFrame (s.record code p fs) := s.logFrame_offer _ _ _ _
theorem State.logFrame_event (code : Nat) (l : List Nat) : s.logFrame (s.event code l) := s.logFrame_record _ _ _
theorem State.logFrame_recordWrite (m : Master) (a : Nat) (v : Word) (r : Nat) : s.logFrame (s.recordWrite m a v r) :=
  s.logFrame_record _ _ _
theorem State.logFrame_busError (m : Master) (a w : Nat) (k : AccessKind) : s.logFrame (s.busError m a w k) :=
  State.logFrame_trans (s.logFrame_record _ _ _) (State.logFrame_assertSrc _ _)

end Sys2Proof.Machine
end

