-- ==== Sys2Proof/Laws/Time.lean ====
section
/-!
SUPPORT. Laws/Time.lean: what the passing of time and a command with an instant of its own can do: `elapse` moves clocks, timers and run times and
leaves all else, and `whenDue` is the state as it is, or the effect at the instant.
-/
namespace Sys2Proof.Machine

variable (s : State) (n : Nat) (g : State → State)

/-- The state without what time moves: registers, bases, calendar, coalescing timers, the tick's cycles, and the cores' run times. -/
def State.still (s : State) : State :=
  { s with regs := [], time := { s.time with bases := [] }, aon := { s.aon with cal := {}, lastOff := 0 }, irq := { s.irq with timer := [] },
           tick := { s.tick with cycles := 0 }, cml := { s.cml with busy := [], acts := [] } }

theorem State.still_foldl {α : Type} (h : State → α → State) (hh : ∀ (s : State) (x : α), (h s x).still = s.still) (l : List α) :
    (l.foldl h s).still = s.still := by
  induction l generalizing s with
  | nil => rfl
  | cons x l ih => exact (ih _).trans (hh s x)

theorem State.still_setReg (a : Nat) (v : Word) : (s.setReg a v).still = s.still := rfl
theorem State.still_put (x : Fld) (v : Nat) : (s.put x v).still = s.still := rfl
theorem State.still_setBase (b : Nat) (v : BaseVal) : (s.setBase b v).still = s.still := rfl
theorem State.still_modAct (c : Nat) (h : Act → Act) : (s.modAct c h).still = s.still := by
  unfold State.modAct; split <;> rfl

theorem State.countBase_still (b : Nat) : (s.countBase n b).still = s.still := by
  unfold State.countBase
  dsimp only
  generalize BaseVal.mk _ _ = v
  exact s.still_setBase b v

theorem State.still_cal (c : BaseVal) : ({ s with aon := { s.aon with cal := c } } : State).still = s.still := rfl

theorem State.countCalendar_still : (s.countCalendar n).still = s.still := by
  unfold State.countCalendar
  split
  · generalize (n * (2 * 2 ^ 32) : Nat) = k
    exact s.still_cal _
  · rfl

theorem State.countTimers_still : (s.countTimers n).still = s.still := rfl
theorem State.countTick_still : (s.countTick n).still = s.still := by
  unfold State.countTick
  dsimp only
  generalize s.tick.cycles + n = c
  generalize min 0xFFFF (c / 500) = v
  rfl

theorem State.still_aon (o : Int) : ({ s with aon := { s.aon with lastOff := o } } : State).still = s.still := rfl

theorem State.refreshLeap_still : s.refreshLeap.still = s.still := by
  unfold State.refreshLeap
  dsimp only
  split
  · rw [State.still_put, State.still_put, State.still_put]
  · exact (State.still_aon _ _).trans (by rw [State.putb, State.putb, State.puti, State.still_put, State.still_put, State.still_put])

theorem State.countBases_still : (s.countBases n).still = s.still := by
  have h := s.still_foldl (fun s b => s.countBase n b) (fun s b => s.countBase_still n b) countedBases
  unfold State.countBases
  dsimp only
  split
  · exact h
  · exact (State.refreshLeap_still _).trans h

theorem State.countCores_still : (s.countCores n).still = s.still := by
  refine s.still_foldl _ (fun s k => ?_) _
  dsimp only
  split
  · rfl
  · exact State.still_modAct _ _ _

theorem State.elapse_still : (s.elapse n).still = s.still := by
  have c := s.countCalendar_still n
  unfold State.elapse
  dsimp only
  split
  · split
    · exact (State.countBase_still _ _ _).trans c
    · exact c
  · split
    · rw [State.countCores_still, State.countTick_still, State.countTimers_still, State.countBases_still, c]
    · rw [State.countTimers_still, State.countBases_still, c]

@[simp] theorem State.elapse_mem : (s.elapse n).mem = s.mem := by
  have h := congrArg State.mem (s.elapse_still n); exact h
@[simp] theorem State.elapse_pending : (s.elapse n).pending = s.pending := by
  have h := congrArg State.pending (s.elapse_still n); exact h
@[simp] theorem State.elapse_variant : (s.elapse n).variant = s.variant := by
  have h := congrArg State.variant (s.elapse_still n); exact h
@[simp] theorem State.elapse_mregs : (s.elapse n).mregs = s.mregs := by
  have h := congrArg State.mregs (s.elapse_still n); exact h
@[simp] theorem State.elapse_inForce : (s.elapse n).inForce = s.inForce := by
  have h := congrArg State.inForce (s.elapse_still n); exact h
@[simp] theorem State.elapse_recorder : (s.elapse n).recorder = s.recorder := by
  have h := congrArg State.recorder (s.elapse_still n); exact h
@[simp] theorem State.elapse_inFlight : (s.elapse n).irq.inFlight = s.irq.inFlight := by
  have h := congrArg (·.irq.inFlight) (s.elapse_still n); exact h
@[simp] theorem State.elapse_awaiting : (s.elapse n).irq.awaiting = s.irq.awaiting := by
  have h := congrArg (·.irq.awaiting) (s.elapse_still n); exact h
@[simp] theorem State.elapse_pins : (s.elapse n).pins = s.pins := by
  have h := congrArg State.pins (s.elapse_still n); exact h
@[simp] theorem State.elapse_out : (s.elapse n).out = s.out := by
  have h := congrArg State.out (s.elapse_still n); exact h
@[simp] theorem State.elapse_loop : (s.elapse n).loop = s.loop := by
  have h := congrArg State.loop (s.elapse_still n); exact h
@[simp] theorem State.elapse_can : (s.elapse n).can = s.can := by
  have h := congrArg State.can (s.elapse_still n); exact h
@[simp] theorem State.elapse_prg : (s.elapse n).prg = s.prg := by
  have h := congrArg State.prg (s.elapse_still n); exact h
@[simp] theorem State.elapse_pair : (s.elapse n).pair = s.pair := by
  have h := congrArg State.pair (s.elapse_still n); exact h
@[simp] theorem State.elapse_azs : (s.elapse n).azs = s.azs := by
  have h := congrArg State.azs (s.elapse_still n); exact h
@[simp] theorem State.elapse_shd : (s.elapse n).shd = s.shd := by
  have h := congrArg State.shd (s.elapse_still n); exact h
@[simp] theorem State.elapse_prism : (s.elapse n).prism = s.prism := by
  have h := congrArg State.prism (s.elapse_still n); exact h
@[simp] theorem State.elapse_gnss : (s.elapse n).gnss = s.gnss := by
  have h := congrArg State.gnss (s.elapse_still n); exact h
@[simp] theorem State.elapse_points : (s.elapse n).points = s.points := by
  have h := congrArg State.points (s.elapse_still n); exact h
@[simp] theorem State.elapse_grz : (s.elapse n).grz = s.grz := by
  have h := congrArg State.grz (s.elapse_still n); exact h
@[simp] theorem State.elapse_net : (s.elapse n).net = s.net := by
  have h := congrArg State.net (s.elapse_still n); exact h
@[simp] theorem State.elapse_lan : (s.elapse n).lan = s.lan := by
  have h := congrArg State.lan (s.elapse_still n); exact h
@[simp] theorem State.elapse_running : (s.elapse n).tick.running = s.tick.running := by
  have h := congrArg (·.tick.running) (s.elapse_still n); exact h
@[simp] theorem State.elapse_sys : (s.elapse n).sys = s.sys := by
  have h := congrArg State.sys (s.elapse_still n); exact h
@[simp] theorem State.elapse_site : (s.elapse n).site = s.site := by
  have h := congrArg State.site (s.elapse_still n); exact h
@[simp] theorem State.elapse_freeCtr : (s.elapse n).freeCtr = s.freeCtr := by
  have h := congrArg State.freeCtr (s.elapse_still n); exact h

/-! ## A command with an instant of its own -/

@[simp] theorem State.whenDue_now : s.whenDue 0 g = g s := rfl

/-- An instant beyond the tick that runs has not come. -/
theorem State.whenDue_beyond (h : s.tick.running = true) (hn : 500 * s.periodUs < s.tick.cycles + n) (h0 : n ≠ 0) : s.whenDue n g = s := by
  simp [State.whenDue, h, hn, h0]

/-- Within the tick the clock moves on to the instant, and the effect takes place there. -/
theorem State.whenDue_within (h : s.tick.running = false ∨ s.tick.cycles + n ≤ 500 * s.periodUs) (h0 : n ≠ 0) : s.whenDue n g = g (s.elapse n) := by
  have hb : (s.tick.running && decide (500 * s.periodUs < s.tick.cycles + n)) = false := by
    rcases h with h | h
    · simp [h]
    · simp [Nat.not_lt.mpr h]
  unfold State.whenDue
  rw [if_neg h0, hb]
  rfl

/-- Everything a command with an instant can answer. -/
theorem State.whenDue_cases : s.whenDue n g = s ∨ s.whenDue n g = g s ∨ s.whenDue n g = g (s.elapse n) := by
  unfold State.whenDue
  split
  · exact .inr (.inl rfl)
  · split
    · exact .inl rfl
    · exact .inr (.inr rfl)

/-- What the clock and the effect keep, the command keeps. -/
theorem State.whenDue_keeps (p : State → Prop) (hs : p s) (he : p (s.elapse n)) (hg : ∀ t, p t → p (g t)) : p (s.whenDue n g) := by
  rcases s.whenDue_cases n g with h | h | h <;> rw [h]
  exacts [hs, hg _ hs, hg _ he]

end Sys2Proof.Machine
end

