-- ==== Sys2Proof/Tests/Slice0.lean ====
section
/-!
SUPPORT. Tests/Slice0.lean: the package's own tests.  First an ill-formed term for each check of WellFormed; then words of Cumel
instructions written out from the tables of R153 to R155; then, for each statement of Obligations.lean that has hypotheses, states and
operands that meet them (`witness_…`, one part for each clause, at the boundary of its range where it has one); last a few effects of
single commands whose expected results come from the rules.
-/
namespace Sys2Proof.Tests
open Sys2Proof Sys2Proof.Machine
-- One theorem at a time: with all of them at once their threads' stacks would not fit.
set_option Elab.async false

/-! ## States -/

/-- The state after reset with some register fields given other values. -/
def st (l : List (Fld × Nat)) : State := l.foldl (fun s x => s.put x.1 x.2) State.reset

/-- An activation of context settings `cfg`. -/
def act (cfg : Word) : Act := { cfg := cfg, per := 0, ent := 0, started := true }

/-- Type t with an entry PC and a size in the active bank. -/
def withType (s : State) (t entry size : Nat) : State :=
  ((s.wr (0x1000 + 16 * t) 4 entry).wr (0x1004 + 16 * t) 4 size).wr (0x100C + 16 * t) 4 1

/-- Instance n with a base and a type in the active bank. -/
def withInst (s : State) (n base t : Nat) : State :=
  ((s.wr (0x11004 + 16 * n) 4 base).wr (0x11008 + 16 * n) 2 t).wr (0x1100A + 16 * n) 2 1

/-- Context 0 in an instance of 64 bytes at the start of instance data. -/
def inst0 : State := withInst (withType State.reset 0 0x100 64) 0 0 0

/-- The state after one command, where it answers a next state. -/
def after (i : Instr) (s : State) : State :=
  match exec i s with
  | .next t => t
  | _ => s

/-! ## WellFormed -/

def frame0 : CanFrame := { ident := 1, ide := false, rtr := false, fdf := false, brs := false, esi := false, dlc := 2, data := [1, 2] }
def gram0 : Datagram := { group := 1, tagOk := true, talker := 0, inst := 1, sentences := [] }
def grz0 : GrzFrame := { crcOk := true, addr := 1, tick := 0, data := [] }
def sol0 : ChainSol :=
  { solved := false, pos := [0, 0, 0], vel := [0, 0, 0], cov := [], hdop := 0, rms := 0, sumsq := 0, leftOut := [],
    agc1 := 0, agc2 := 0, apart := [] }
def epoch0 : Epoch :=
  { c0 := sol0, c1 := sol0, sigs := [], blFound := false, blRatio := 0, blVec := [0, 0, 0], blElev := 0, hdgVar := 0, blLength := 0,
    bias := 0, toGps := 0, drift := 0, tunc := 0, eph := [], almanac := [], glonass := [] }
def hello0 : Hello := { sysId := 0, periodMs := 10, mirror := false, unitB := true, litVer := 0, tick := 0, phase := 0 }
def eth0 : EthFrame := { fcsOk := true, src := 2, seq := none, bytes := [1, 2, 3], body := .other }

theorem test_wf_bus_error : Instr.wf (.busError .cc0 0 1 .read) = true ∧ Instr.wf (.busError .cc0 0 0 .read) = false := by decide
theorem test_wf_can_frame : Instr.wf (.canFrameReceived 0 frame0) = true ∧ Instr.wf (.canFrameReceived 0 { frame0 with dlc := 3 }) = false := by decide
theorem test_wf_can_remote : Instr.wf (.canFrameReceived 0 { frame0 with rtr := true }) = false := by decide
theorem test_wf_ethernet : Instr.wf (.ethernetFrameReceived 0 eth0) = true ∧
    Instr.wf (.ethernetFrameReceived 0 { eth0 with bytes := List.replicate 1519 0 }) = false ∧
    Instr.wf (.ethernetFrameReceived 0 { eth0 with body := .hostRequest (List.replicate 1473 0) }) = false := by decide +kernel
theorem test_wf_datagram : Instr.wf (.udpbcDatagram gram0) = true ∧ Instr.wf (.udpbcDatagram { gram0 with inst := 10000 }) = false := by decide
theorem test_wf_grz : Instr.wf (.grzInputFrame grz0) = true ∧ Instr.wf (.grzInputFrame { grz0 with data := List.replicate 1441 0 }) = false := by
  decide +kernel
theorem test_wf_service : Instr.wf (.serviceRequest { grz0 with data := List.replicate 1441 0 }) = false := by decide +kernel
theorem test_wf_host : Instr.wf (.hostServiceRequest (List.replicate 1473 0)) = false := by decide +kernel
theorem test_wf_hello : Instr.wf (.helloFrame hello0 true) = true ∧ Instr.wf (.helloFrame { hello0 with periodMs := 7 }) = false := by decide
theorem test_wf_checkpoint : Instr.wf (.checkpointFrame true 0 [1, 2]) = false := by decide
theorem test_wf_epoch : Instr.wf (.epochRecordCommit epoch0) = true ∧
    Instr.wf (.epochRecordCommit { epoch0 with c1 := { sol0 with pos := [0] } }) = false := by decide
theorem test_wf_acquisition : Instr.wf (.acquisitionPass 0 .gps 1 300 90) = true ∧ Instr.wf (.acquisitionPass 0 .gps 1 300 91) = false := by decide
theorem test_wf_framebuffer : Instr.wf (.framebufferWrite .cc0 0 []) = false := by decide

/-! ## Words of Cumel instructions: opcode, fields and function number as R153 to R155 place them -/

theorem test_decode_add : cmlDecode 0 0b000001_00011_00001_00010_00000_000000 = some (.add 0 3 1 2) := by decide
theorem test_decode_fadd : cmlDecode 0 0b000010_01000_01000_01000_00000_000000 = some (.fadd 0 8 8 8) := by decide
theorem test_decode_mfs : cmlDecode 0 0b000011_00101_00000_01010_00000_000010 = some (.mfs 0 5 0 10) := by decide
theorem test_decode_addi : cmlDecode 0 0b000100_00011_00000_11_11111111111111 = none ∧
    cmlDecode 0 0b000100_00011_00000_00_11111111111111 = some (.addi 0 3 0 0x3FFF) := by decide
theorem test_decode_lsi : cmlDecode 0 0b000101_00011_00011_11_00000000000111 = some (.lsi 0 3 3 7) := by decide
theorem test_decode_ldI : cmlDecode 0 0b001000_00010_00111_0000000000010000 = some (.ldI 0 2 7 0x10) := by decide
theorem test_decode_swG : cmlDecode 0 0b010101_00010_00111_1111111111111100 = some (.swG 0 2 7 0xFFFC) := by decide
theorem test_decode_jal : cmlDecode 0 0b011100_00001_111111111111111111111 = some (.jal 0 1 0x1FFFFF) := by decide
theorem test_decode_fbcall : cmlDecode 0 0b100000_00000_00000_0000001000000001 = some (.fbcall 0 0 0 0x201) := by decide
theorem test_decode_scanend : cmlDecode 0 0b101100_00000_00000_0000000000000000 = some (.scanend 0 0 0 0) := by decide
theorem test_decode_zero : cmlDecode 0 0 = none := by decide

/-! ## Witnesses: the queue and the tick -/

theorem witness_AStepRunsTheFrontCommand : State.reset.pending = [] := by decide
theorem witness_TickEdges :
    State.reset.tick.running = false ∧ State.reset.mode = .stop ∧
    (let s : State := { st [(F.PRG_MODE_MODE, 1)] with tick := { running := true } }
     s.tick.running = true ∧ s.prg.swapping = false ∧ s.pair.align = none ∧ s.pair.takeover = none ∧ s.mode ≠ .stop ∧
       s.cml.scanLate = false ∧ s.cml.settleLate = false ∧ (∀ c, c ∈ s.cml.settleLeft → s.exempt 256 c = true)) ∧
    (let s : State := { st [(F.PRG_MODE_MODE, 2), (F.CML_TSTAT_STATE 7, 4)] with tick := { running := true }, cml := { scanLeft := [7] } }
     s.mode ≠ .stop ∧ ∀ c ∈ s.cml.scanLeft, s.exempt 256 c = true) ∧
    (let s : State := { st [(F.PRG_MODE_MODE, 1)] with tick := { running := true }, cml := { scanLeft := [7], settleLeft := [7] } }
     s.mode ≠ .stop ∧ (∃ c, c ∈ s.cml.scanLeft ∧ s.exempt 256 c = false) ∧ ∃ c, c ∈ s.cml.settleLeft ∧ s.exempt 256 c = false) ∧
    (let s : State := { st [(F.PRG_MODE_MODE, 1)] with tick := { running := true }, cml := { scanLate := true, settleLate := true } }
     s.mode ≠ .stop ∧ s.cml.scanLate = true ∧ s.cml.settleLate = true) ∧
    (let s : State := { State.reset with tick := { running := true }, sys := { inReset := false } }
     s.tick.running = true ∧ s.sys.inReset = false ∧ s.mode = .stop) := by decide +kernel
theorem witness_PeriodCountersAndFaultStop :
    (State.reset.mode = .stop ∧ bitsOf (2 : Word) 1 0 < 3 ∧ State.reset.periodReason (selUs (bitsOf (2 : Word) 1 0)) = none) ∧
    bitsOf (3 : Word) 1 0 = 3 ∧ State.reset.tick.stopDue = false ∧
    (let s : State := { st [(F.PRG_MODE_MODE, 1)] with tick := { stopDue := true } }
     s.tick.stopDue = true ∧ s.mode ≠ .stop) ∧
    (let s : State := { State.reset with tick := { stopDue := true } }
     s.tick.stopDue = true ∧ s.mode = .stop) := by decide +kernel

/-! ## Witnesses: Cumel -/

theorem canFetch_reset : State.canFetch State.reset 0 := ⟨by decide, by decide⟩
theorem canFetch_last : State.canFetch (State.reset.setPc 0 0x4FFFFC) 0 := ⟨by decide, by decide⟩
theorem canFetch_inst0 : State.canFetch inst0 0 := ⟨by decide +kernel, by decide +kernel⟩

theorem witness_IntegerOperations : State.canFetch State.reset 0 ∧ State.canFetch (State.reset.setPc 0 0x4FFFFC) 0 := ⟨canFetch_reset, canFetch_last⟩
theorem witness_ImmediateOperations : State.canFetch State.reset 0 := canFetch_reset
theorem witness_FloatingPointArithmetic : State.canFetch State.reset 0 ∧ (0 : RegNo) = 0 := ⟨canFetch_reset, rfl⟩
theorem witness_FloatingPointComparesAndConversions : State.canFetch State.reset 0 := canFetch_reset
theorem witness_FloatingPointNaNs : (f64.read 0x7FF8000000000000).isNan = true ∧ (f64.read 0x7FF0000000000001).isNan = true ∧
    (f64.read 0xFFFFFFFFFFFFFFFF).isNan = true ∧ (f64.read 0x7FF0000000000000).isNan = false ∧ 0x7FF0000000000000 < 2 ^ 64 := by decide
theorem witness_SystemOperations : State.canFetch State.reset 0 ∧ (10 : RegNo) = 10 ∧ 11 ≤ (11 : RegNo).toNat ∧ 11 ≤ (31 : RegNo).toNat ∧
    (3 : RegNo) = 3 ∧ (10 : RegNo) ≠ 3 ∧ (10 : RegNo).toNat ≤ 10 := ⟨canFetch_reset, by decide⟩
theorem witness_Branches : State.canFetch State.reset 0 := canFetch_reset

/-- The first and the last access of an instance of 64 bytes. -/
theorem witness_InstanceLoads : State.canFetch inst0 0 ∧ inst0.goodI 0 0 0 8 ∧ inst0.goodI 0 0 56 8 ∧ inst0.goodI 0 0 60 4 ∧ inst0.goodI 0 0 63 1 := by
  refine ⟨canFetch_inst0, ?_⟩; unfold State.goodI State.insideI; decide +kernel
theorem witness_InstanceStores : State.canFetch inst0 0 ∧ inst0.goodI 0 0 56 8 ∧ inst0.goodI 0 0 60 4 ∧ inst0.goodI 0 0 63 1 := by
  refine ⟨canFetch_inst0, ?_⟩; unfold State.goodI State.insideI; decide +kernel

/-- w1 holds an address: the end of LPDDR5, and the last register. -/
def atMem : State := State.reset.setW 0 1 0x1FFFFFFF8
def atReg : State := State.reset.setW 0 1 0x4011FFFC
theorem witness_GlobalLoads : State.canFetch atMem 0 ∧ atMem.goodG 0 1 0 8 .read ∧ atMem.goodG 0 1 4 4 .read ∧ atMem.goodG 0 1 7 1 .read ∧
    atReg.addrG 0 1 0 % 4 = 0 ∧ regionOf (atReg.addrG 0 1 0) = .registers := by
  refine ⟨⟨by decide +kernel, by decide +kernel⟩, ?_⟩; unfold State.goodG; decide +kernel
theorem witness_GlobalStores : State.canFetch atReg 0 ∧ atMem.goodG 0 1 0 8 .write ∧ atMem.goodG 0 1 4 4 .write ∧ atMem.goodG 0 1 7 1 .write ∧
    atReg.addrG 0 1 0 % 4 = 0 ∧ regionOf (atReg.addrG 0 1 0) = .registers := by
  refine ⟨⟨by decide +kernel, by decide +kernel⟩, ?_⟩; unfold State.goodG; decide +kernel
theorem witness_MisalignedAccessesRaiseAlign : State.canFetch State.reset 0 ∧ State.reset.offI 0 0 4 % 8 ≠ 0 ∧ State.reset.offI 0 0 1 % 4 ≠ 0 ∧
    State.reset.addrG 0 0 4 % 8 ≠ 0 ∧ State.reset.addrG 0 0 1 % 4 ≠ 0 := ⟨canFetch_reset, by decide +kernel⟩

def full0 : State := inst0.setDepth 0 220
/-- Type 0 in ROM, at the entry of the library's first block. -/
def lib0 : State := (inst0.wr 0x100C 4 3).wr 0x1000 4 (Config.romEntry 0)
theorem lib0_instOf : ∃ x, lib0.instOf 0 = some x ∧ libOf x.2 = some .modeseq := by
  have hb : lib0.bankBase = 0 := by unfold lib0; simp only [State.bankBase, State.f, State.reg, State.wr_regs]; decide +kernel
  have hi : lib0.instEnt 0 = inst0.instEnt 0 := by
    have hr : ∀ o n, 0x11000 ≤ o → lib0.rd o n = inst0.rd o n := by
      intro o n h; unfold lib0; rw [State.rd_wr_other, State.rd_wr_other] <;> omega
    simp only [State.instEnt, hb, State.instIn, show inst0.bankBase = 0 by decide +kernel]
    rw [hr, hr, hr, hr] <;> omega
  have ht : lib0.typeEnt 0 = ⟨Config.romEntry 0, 64, 0, true, true⟩ := by
    have h : Config.romEntry 0 % 256 ^ 4 = Config.romEntry 0 := by
      unfold Config.romEntry; exact Nat.mod_eq_of_lt (by have := (Config.romWord 0).isLt; omega)
    have hw : ∀ b, 0x1000 ≤ b → b < 0x1000 + 4 → writeIgnored b = false := by
      intro b h1 h2; have : b = 0x1000 ∨ b = 0x1001 ∨ b = 0x1002 ∨ b = 0x1003 := by omega
      rcases this with rfl | rfl | rfl | rfl <;> decide
    have h0 : lib0.rd 0x1000 4 = Config.romEntry 0 := by unfold lib0; rw [State.rd_wr_same _ _ _ _ hw, h]
    have hr : ∀ o n, 0x1004 ≤ o → lib0.rd o n = (inst0.wr 0x100C 4 3).rd o n := by
      intro o n h; unfold lib0; rw [State.rd_wr_other]; omega
    simp only [State.typeEnt, hb, State.typeIn, Nat.zero_add, Nat.mul_zero, Nat.add_zero, h0]
    have hv : (inst0.wr 0x100C 4 3).rd 0x1004 4 = 64 ∧ (inst0.wr 0x100C 4 3).rd 0x1008 4 = 0 ∧ (inst0.wr 0x100C 4 3).rd 0x100C 4 = 3 := by decide +kernel
    rw [hr 0x1004, hr 0x1008, hr 0x100C, hv.1, hv.2.1, hv.2.2] <;> first | omega | rfl
  have h0 : (inst0.instEnt 0).defined = true ∧ (inst0.instEnt 0).type = 0 := by decide +kernel
  exact ⟨(inst0.instEnt 0, ⟨Config.romEntry 0, 64, 0, true, true⟩), by simp [State.instOf, hi, h0.1, h0.2, ht],
    by simp [libOf, libBlocks, LibBlock.num]⟩
theorem witness_FunctionBlockCalls :
    (∃ x, lib0.instOf 0 = some x ∧ libOf x.2 = some .modeseq) ∧
    ((0 : RegNo) = 0 ∧ (inst0.instOf 0).isSome ∧ (∀ x ∈ inst0.instOf 0, libOf x.2 = none) ∧ inst0.depth 0 < 220) ∧
    ((inst0.wreg 0 0).toInt + (0 : Half).toNat = 0) ∧ 0 < full0.depth 0 ∧ (full0.setDepth 0 1).depth 0 = 1 ∧
    inst0.instOf 1 = none ∧ inst0.instOf (-1) = none ∧ inst0.instOf 65536 = none ∧
    ((full0.instOf 0).isSome ∧ full0.depth 0 = 220) ∧ inst0.depth 0 = 0 ∧ (1 : RegNo) ≠ 0 := ⟨lib0_instOf, by decide +kernel⟩
theorem canFetch_lib0 : State.canFetch lib0 0 ∧ lib0.depth 0 = 0 := by
  have hp : ∀ o, o + 4 ≤ 0x1000 → lib0.rd (slot (0 : Ctx).toNat + o) 4 = inst0.rd (slot (0 : Ctx).toNat + o) 4 := by
    intro o ho; have : 0x800000 ≤ slot (0 : Ctx).toNat := by decide
    unfold lib0; rw [State.rd_wr_other, State.rd_wr_other] <;> omega
  have hd := hp 0x214 (by decide)
  refine ⟨?_, ?_⟩
  · simp only [State.canFetch, State.pc, hp 0x200 (by decide)]; decide +kernel
  · simp only [State.depth]; exact (congrArg (min 220) hd).trans (by decide +kernel)
theorem canFetch_full0 : State.canFetch inst0 0 ∧ State.canFetch full0 0 := by unfold State.canFetch; decide +kernel
theorem witness_InstaGivesTheAddress : State.canFetch inst0 0 ∧ (inst0.instOf 0).isSome ∧
    ((inst0.setW 0 1 (-1)).wreg 0 1).toInt + (0 : Half).toNat = -1 ∧ ((inst0.setW 0 1 1).wreg 0 1).toInt + (65535 : Half).toNat = 65536 ∧
    (inst0.instEnt 65535).defined = false ∧ 4096 ≤ ((withInst inst0 1 0 4096).instEnt 1).type ∧
    ((withInst inst0 2 0 5).typeEnt ((withInst inst0 2 0 5).instEnt 2).type).defined = false := ⟨canFetch_inst0, by decide +kernel⟩
theorem witness_TimersAndEdges : State.canFetch inst0 0 ∧ (inst0.ib 0 + (40 : Half).toNat) % 8 = 0 ∧ inst0.insideI 0 (inst0.ib 0 + (40 : Half).toNat) 24 ∧
    inst0.insideI 0 (inst0.ib 0 + (63 : Half).toNat) 1 := by
  refine ⟨canFetch_inst0, ?_⟩; unfold State.insideI; decide +kernel

/-- One point descriptor: a station that no entry names, and an enabled pin. -/
def points1 : State := st [(F.CML_PTCNT_COUNT, 1)]
def points2 : State := (points1.wr 0xC00000 4 0x01000004).latchPoints
theorem witness_SubstituteReads :
    State.canFetch points1 0 ∧ (31 : RegNo).toNat % 2 = 1 ∧ (30 : RegNo).toNat % 2 = 0 ∧ points1.f F.CML_PTBASE_BASE / 16 * 16 + 32 * 1 ≤ 0x300000 ∧
    (((points1.setW 0 1 (-1)).wreg 0 1).toInt + (0 : Half).toNat < 0 ∧ ((min 16384 (points1.f F.CML_PTCNT_COUNT) : Nat) : Int) ≤ (points1.wreg 0 0).toInt + (1 : Half).toNat) ∧
    ((points1.wr 0xC00000 1 5).pointAt 0xC00000).ok = false ∧
    ((points1.pointAt 0xC00000).ok = true ∧ points1.pointHealthy (points1.strobePoint 0xC00000) = false) ∧
    ((points2.pointAt 0xC00000).ok = true ∧ points2.pointHealthy (points2.strobePoint 0xC00000) = true ∧ (points2.pointAt 0xC00000).policy ≠ 1 ∧ (30 : RegNo) ≠ 0) ∧
    ((points2.wr 0xC00002 1 1).pointAt 0xC00000).policy = 1 := ⟨⟨by decide +kernel, by decide +kernel⟩, by decide +kernel⟩

theorem witness_UnlistedWordsRaiseIllegal : State.canFetch State.reset 0 ∧ cmlDecode 0 0 = none ∧ cmlDecode 0 0xB0000000 ≠ none ∧
    63 ∈ [0, 7, 29, 30, 31, 46, 47, 48, 63] := ⟨canFetch_reset, by decide⟩

/-- A task that an exception suspends. -/
def task0 : State := { State.reset with cml := { acts := [(0, act 0x81000000)] } }
theorem witness_ExceptionSuspendsTheTask : bitsOf (task0.curCfg 0) 25 24 = 1 ∧ task0.f F.CML_EXC_VALID = 0 ∧
    (task0.put F.CML_EXC_VALID 1).f F.CML_EXC_VALID = 1 := by decide +kernel

/-- A problem of one variable with n, SLICE and record. -/
def prob0 : AzsDesc :=
  { n := 1, m := 0, p := 0, method := 0, k := 1, g := 1, slice := 1, pol := 0, warm := false, wsSrc := 0, mat := 0x4000, vec := 0x5000, res := 0x6000,
    ws := 0x7000, work := 0x8000, cyc := 1 }
def solver : State := { inst0 with azs := { table := [(5, prob0)] } }
def inSolve : State := { (solver.put F.TICK_PHASE_PHASE 2) with azs := { table := [(5, prob0)], batch := [5] } }
theorem witness_SolverInstructions :
    State.canFetch solver 0 ∧ State.canFetch inSolve 0 ∧ ((solver.setW 0 1 (-1)).wreg 0 1).toInt + (0 : Half).toNat < 0 ∧ tget? solver.azs.table 4 = none ∧
    (tget? solver.azs.table 5).isSome ∧ prob0.slice / 2 ^ (solver.tickNo % 8) % 2 = 1 ∧ solver.f F.TICK_PHASE_PHASE ≤ 1 ∧
    solver.tick.cycles + 2 + 2 < 500 * (2 * solver.periodUs / 10) ∧
    (prob0.slice / 2 ^ ((inSolve.tickNo + 1) % 8) % 2 ≠ 1 ∧ ¬ inSolve.f F.TICK_PHASE_PHASE ≤ 1) ∧
    ¬(solver.f F.TICK_PHASE_PHASE = 2 ∧ 5 ∈ solver.azs.batch) ∧ (inSolve.f F.TICK_PHASE_PHASE = 2 ∧
      inSolve.tick.cycles < 500 * (7 * inSolve.periodUs / 10) ∧ 5 ∈ inSolve.azs.batch) ∧
    solver.insideI 0 ((solver.ib 0 : Int) + ((solver.setW 0 1 24).wreg 0 1).toInt) (32 + 8 * prob0.n) := by
  refine ⟨⟨by decide +kernel, by decide +kernel⟩, ⟨by decide +kernel, by decide +kernel⟩, ?_⟩; unfold State.insideI; decide +kernel

def blockedAt (prq : Bool) (us : Nat) : State := { inst0.put F.TICK_PHASE_OFFSET us with cml := { blocked := [(0, (prq, 1, 2, 16))] } }
theorem witness_PrismAndCheckpointInstructions :
    State.canFetch inst0 0 ∧ (1 : Half).toNat % 16 ≠ 0 ∧ (0x3F0 : Half).toNat % 16 = 0 ∧ (inst0.put F.TICK_PHASE_OFFSET 599).offsetUs < 600 ∧
    (600 ≤ (inst0.put F.TICK_PHASE_OFFSET 600).offsetUs ∧ ¬inst0.insideI 0 ((inst0.ib 0 : Int) + 49) (16 * 1) ∧
      inst0.insideI 0 ((inst0.ib 0 : Int) + 48) (16 * 1)) ∧
    (tget? (blockedAt true 600).cml.blocked 0 = some (true, (1 : RegNo).toNat, (2 : RegNo).toNat, (16 : Half).toNat) ∧ 600 ≤ (blockedAt true 600).offsetUs) ∧
    (tget? (blockedAt false 0).cml.blocked 0 = some (false, (1 : RegNo).toNat, (2 : RegNo).toNat, (16 : Half).toNat) ∧
      ¬((blockedAt false 0).f F.TICK_PHASE_PHASE = 2)) ∧
    tget? inst0.cml.blocked 0 = none := by
  refine ⟨canFetch_inst0, ?_⟩; unfold State.insideI; decide +kernel

def held0 : State := { State.reset with cml := { acts := [(0, act 0)], held := [0] } }
def inHold : State := { st [(F.PRG_MODE_MODE, 2), (F.CML_BP_EN 7, 1), (F.CML_BP_CTX 7, 255)] with cml := { acts := [(0, act 0)] } }
theorem witness_ScanEndAndBreakpoints :
    State.canFetch task0 0 ∧ (task0.act? 0).isSome ∧ 0 ∉ task0.cml.scanLeft ∧ 0 ∉ task0.cml.settleLeft ∧ 0 ∉ task0.cml.held ∧
    ((held0.act? 0).isSome ∧ 0 ∈ held0.cml.held) ∧ task0.breaks 0 = false ∧
    (inHold.mode = .hold ∧ (0 : Ctx) ≠ 255 ∧ (∀ x ∈ inHold.act? 0, x.skip = false) ∧ (inHold.act? 0).isSome ∧ inHold.suspended 0 = false) ∧
    (inHold.f (F.CML_BP_EN 7) = 1 ∧ inHold.f (F.CML_BP_PC 7) / 4 * 4 = inHold.pc 0 ∧ inHold.f (F.CML_BP_CTX 7) = 255) ∧
    task0.mode ≠ .hold := ⟨⟨by decide +kernel, by decide +kernel⟩, by decide +kernel⟩

/-- Context 3 a software-triggered task of core 2, in Run. -/
def soft3 : State := st [(F.CML_TCFG_EN 3, 1), (F.CML_TCFG_TRIG 3, 2), (F.CML_TCFG_CORE 3, 2), (F.PRG_MODE_MODE, 1)]
theorem witness_TriggersAndDebugWrites :
    (soft3.softTask 3 = true ∧ soft3.mode ≠ .stop ∧ soft3.b (F.CML_TSTAT_SUSP 3) = false ∧ soft3.atBreak 3 = false ∧
      soft3.b F.REC_STATUS_AFTERGLOW = false ∧ soft3.act? 3 = none ∧ soft3.prg.swapping = false) ∧
    soft3.softTask 4 = false ∧ soft3.softTask 255 = false ∧
    (st [(F.CML_TSTAT_STATE 3, 4)]).atBreak 3 = true ∧ State.reset.atBreak 3 = false ∧
    ((st [(F.CML_TSTAT_STATE 3, 5), (F.CML_TSTAT_SUSP 3, 1)]).b (F.CML_TSTAT_SUSP 3) = true ∧
      (st [(F.CML_TSTAT_STATE 3, 5), (F.CML_TSTAT_SUSP 3, 1)]).f (F.CML_TSTAT_STATE 3) = 5 ∧ (0x20 : Word).getLsbD 6 = false ∧
      3 ∉ State.reset.cml.held) := by decide +kernel

/-! ## Witnesses: the program lifecycle -/

/-- A loaded program: version 1 in the Lit slot. -/
def lit1 : State := st [(F.PRG_LIT_VER_VER, 1)]
def gen0 : Ckpt := { version := 1, extent := 0 }
def running : State := st [(F.PRG_MODE_MODE, 1)]
def holding : State := st [(F.PRG_MODE_MODE, 2)]
def busy0 : State := { State.reset with prg := { restoring := some true } }

/-- A small variant, so that the smallest image passes its checks; with the roles, counts, cause and exchange that the clauses about images
ask for. -/
def small : State :=
  { st [(F.PRG_ROLES_CAND, 2), (F.PRG_ROLES_SHADE, 2), (F.PRG_SHADE_VER_VER, 2), (F.PRG_LIT_VER_VER, 1), (F.PRG_STATUS_FAILS, 3),
      (F.PRG_MODE_STOP_CAUSE, 4)] with
    variant := { dieStep := 1, grade := .s, gnss2 := false, panelP := false }, prg := { staging := some (2, false) } }

/-- Entry i of a section directory at `h`. -/
def section_ (s : State) (h i kind off size crc : Nat) : State :=
  let a := h + 0x40 + 32 * i
  (((((s.wr a 1 kind).wr (a + 4) 4 off).wr (a + 8) 4 size).wr (a + 12) 4 size).wr (a + 16) 4 crc)

/-- A small image of version 2: one setting, which gives every service to the first pair of ports, and a migration table from version 1
without entries. -/
def image (s : State) (h crc : Nat) : State :=
  let s := (((s.wr h 4 2).wr (h + 4) 4 0x1010).wr (h + 8) 4 crc).wr (h + 0x24) 2 2
  let s := section_ (section_ s h 0 2 0x1000 8 0x3F5998B4) h 1 3 0x1008 8 3306475437
  ((s.wr (h + 0x1000) 4 (R.NET_PRP 0)).wr (h + 0x1004) 4 0x9E000000).wr (h + 0x1008) 4 1

def imaged : State := image small (slotBase 2) 1402837878
set_option maxRecDepth 1000000 in
theorem imaged_crc : imaged.slotCrcOk (slotBase 2) = true := by decide +kernel
/-- What an image needs beside its CRC. -/
def fits (s : State) (h : Nat) (fresh : Bool) : Prop :=
  s.rd h 4 ≠ 0 ∧ ¬(fresh ∧ s.rd h 4 = (s.reg R.PRG_LIT_VER).toNat) ∧ s.checkSections h = none ∧
  (let t := s.asImage h
   firstOf [t.checkVariant h, t.checkLayout, t.checkLibrary, t.checkPairing, t.checkTasks, t.checkTable h] = none)
theorem imageCheck_of_fits (s : State) (h : Nat) (fresh : Bool) (c : s.slotCrcOk h = true) (q : fits s h fresh) : s.imageCheck h fresh = none := by
  obtain ⟨h1, h2, h3, h4⟩ := q
  unfold State.imageCheck
  dsimp only at h4 ⊢
  rw [if_neg h1, if_neg h2, if_neg (by simp [c]), h3]
  exact h4
theorem slotCrcOk_congr {s t : State} (q : t.mem = s.mem) (h : Nat) : t.slotCrcOk h = s.slotCrcOk h := by
  have hb : ∀ a, t.byte a = s.byte a := State.byte_congr q
  have hr : ∀ a n, t.rd a n = s.rd a n := fun a n => State.rd_congr a n fun b _ _ => hb b
  simp only [State.slotCrcOk, State.usedBytes, State.rdBytes, hb, hr]; congr
theorem imaged_fits : fits imaged (slotBase 2) true := by unfold fits; decide +kernel
theorem imaged_passes (fresh : Bool) : imaged.imageCheck (slotBase 2) fresh = none :=
  imageCheck_of_fits _ _ _ imaged_crc ⟨imaged_fits.1, fun h => imaged_fits.2.1 ⟨rfl, h.2⟩, imaged_fits.2.2⟩
theorem imaged_slots : imaged.candSlot = slotBase 2 ∧ imaged.shadeSlot = slotBase 2 ∧ imaged.put F.PRG_MODE_STOP_CAUSE 4 = imaged := by decide +kernel

theorem witness_ProgramCommandsThatAreAccepted :
    (let s : State := { lit1 with prg := { gens := [(0, gen0)] } }; s.prgBusy = false ∧ s.mode = .stop ∧ s.startReason true = 0) ∧
    (lit1.prgBusy = false ∧ lit1.mode = .stop ∧ lit1.startReason false = 0) ∧
    (running.mode ≠ .stop ∧ (State.reset.put F.PRG_MODE_PEND 2).startPending = true) ∧
    (running.prgBusy = false ∧ running.mode = .run) ∧ (holding.prgBusy = false ∧ holding.mode = .hold) ∧
    (imaged.prgBusy = false ∧ imaged.mode = .stop ∧ imaged.reg R.PRG_SHADE_VER ≠ 0) ∧
    (State.reset.put F.PRG_STATUS_TRIAL 1).f F.PRG_STATUS_TRIAL = 1 ∧ State.reset.f F.PRG_STATUS_TRIAL = 0 ∧ State.reset.prg.swapping = false ∧
    (let s : State := { State.reset with prg := { swapping := true } }; s.prg.swapping = true) ∧
    bitsOf (0x4C540003 : Word) 31 16 = 0x4C54 ∧ bitsOf (0x4C550003 : Word) 31 16 ≠ 0x4C54 ∧ 10 < bitsOf (0x4C54000B : Word) 3 0 ∧
    bitsOf (0x4C540000 : Word) 3 0 = 0 := by decide +kernel
theorem witness_LoadAndRollBack : imaged.imageCheck imaged.candSlot true = none ∧ imaged.imageCheck imaged.shadeSlot false = none := by
  rw [imaged_slots.1, imaged_slots.2.1]; exact ⟨imaged_passes true, imaged_passes false⟩

/-- In Run with a reverse table for the Shade's version. -/
def canBack : State :=
  let s := (st [(F.PRG_MODE_MODE, 1), (F.PRG_CTRL_RB_RUN_EN, 1), (F.PRG_SHADE_VER_VER, 7)]).wr 0x18 4 7
  ((s.wr 0x24 2 1).wr 0x40 1 4).wr 0x48 4 16
theorem witness_RollBackInRun : canBack.prgBusy = false ∧ canBack.mode ≠ .stop ∧ canBack.canRollBack = true := by decide +kernel
theorem witness_ProgramCommandsThatAreRefused :
    (running.mode = .run ∧ running.prgBusy = false ∧ running.canRollBack = false) ∧ (holding.mode = .hold ∧ holding.prgBusy = false) ∧
    (State.reset.mode = .stop ∧ State.reset.prgBusy = false ∧ State.reset.startPending = false ∧ State.reset.reg R.PRG_SHADE_VER = 0) ∧
    busy0.prgBusy = true := by decide +kernel
theorem witness_ModeChangesAtTheBoundary :
    (let s : State := { lit1 with prg := { startReady := true } }; s.prg.startReady = true ∧ s.f F.PRG_MODE_PEND ≠ 3) ∧
    (State.reset.prg.startReady = false ∧ State.reset.prg.restoring = none ∧ State.reset.f F.PRG_MODE_PEND = 0) ∧
    (∀ k ∈ [1, 2, 4], (State.reset.put F.PRG_MODE_PEND k).f F.PRG_MODE_PEND = k) ∧
    ((running.put F.PRG_MODE_PEND 3).f F.PRG_MODE_PEND = 3 ∧ (running.put F.PRG_MODE_PEND 3).mode ≠ .stop) := by decide +kernel

/-- In Stop, of a program that has run. -/
def snapDue : State := { st [(F.PRG_LIT_VER_VER, 1), (F.PRG_CTRL_CKPT_PERIOD, 1)] with prg := { ran := true } }
def trial0 : State := st [(F.PRG_STATUS_TRIAL, 1), (F.PRG_TRIAL_CNT_TCNT, 3), (F.PRG_CTRL_TRIAL_TICKS, 3)]
/-- Generation 1 in MRAM: sequence number 0, the CRC and the header of an empty checkpoint of version 1. -/
def inMram : State :=
  { lit1 with
    prg := { restoring := some true, gens := [(1, gen0)] }
    mem := [(0x83DFE008, 97), (0x83DFE009, 230), (0x83DFE00A, 55), (0x83DFE00B, 183), (0x83DFE00C, 1)] }
theorem witness_RestartsSnapshotsAndTrials :
    State.reset.prg.restoring = none ∧
    (let s : State := { lit1 with prg := { restoring := some false } }
     s.prg.restoring = some false ∧ s.prg.startReady = false ∧ s.f F.PRG_MODE_PEND ≠ 3) ∧
    (let s := inMram
     s.prg.restoring = some true ∧ s.prg.startReady = false ∧ s.f F.PRG_MODE_PEND ≠ 3 ∧ s.newestIntact = true ∧
       s.restoreExpert.newestGen.isSome) ∧
    (let s : State := { lit1 with prg := { restoring := some true } }
     s.prg.restoring = some true ∧ s.prg.startReady = false ∧ s.f F.PRG_MODE_PEND ≠ 3 ∧ s.newestIntact = false) ∧
    (let s : State := { lit1.put F.PRG_MODE_PEND 3 with prg := { restoring := some false } }
     s.prg.restoring = some false ∧ s.prg.startReady = false ∧ s.f F.PRG_MODE_PEND = 3) ∧
    (let s : State := { lit1 with prg := { startReady := true } }; s.prg.startReady = true) ∧
    (State.reset.put F.PRG_CTRL_CKPT_PERIOD 0).f F.PRG_CTRL_CKPT_PERIOD = 0 ∧
    (snapDue.standby = false ∧ snapDue.f F.PRG_CTRL_CKPT_PERIOD ≠ 0 ∧ snapDue.litVer ≠ 0 ∧ snapDue.prg.ran = true ∧
      snapDue.f F.PRG_CTRL_CKPT_PERIOD ≤ snapDue.prg.since + 1 ∧ snapDue.ckptFits = true ∧ snapDue.prg.writing = none) ∧
    (State.reset.standby = false ∧ State.reset.prg.ran = false) ∧
    (let s : State := { State.reset with prg := { writing := some (1, gen0) } }
     s.prg.writing = some (1, gen0) ∧ s.f F.REC_STATUS_AFTERGLOW = 0) ∧
    (trial0.f F.PRG_STATUS_TRIAL = 1 ∧ max 1 (trial0.f F.PRG_CTRL_TRIAL_TICKS) ≤ trial0.f F.PRG_TRIAL_CNT_TCNT) ∧
    (trial0.put F.PRG_TRIAL_CNT_TCNT 2).f F.PRG_TRIAL_CNT_TCNT < trial0.f F.PRG_CTRL_TRIAL_TICKS := by decide +kernel
/-- An exchange staged in Run, at the end of the Keep phase, whose table in the staging bank holds no entry, or one of an operation that does
not exist. -/
def swapping0 : State :=
  let s := { st [(F.PRG_MODE_MODE, 1), (F.PRG_STATUS_STAGED, 1), (F.TICK_PHASE_PHASE, 5)] with prg := { staging := some (2, false) } }
  section_ (s.wr 0x400024 2 1) 0x400000 0 3 0 32 0
def stand0 : State :=
  { st [(F.PAIR_CTRL_EN, 1), (F.PRG_STATUS_STAGED, 1), (F.PRG_STATUS_TRIAL, 1)] with pair := { paired := true }, prg := { staging := some (2, false) } }
theorem witness_AutoRollback : imaged.f F.PRG_STATUS_FAILS = 3 ∧ imaged.prg.loading = none ∧ imaged.mode = .stop ∧
    (imaged.put F.PRG_MODE_STOP_CAUSE 4).shadeReason = none := by
  refine ⟨by decide +kernel, by decide +kernel, by decide +kernel, ?_⟩
  have h : imaged.reg R.PRG_SHADE_VER ≠ 0 := by decide +kernel
  rw [imaged_slots.2.2]; unfold State.shadeReason; rw [if_neg h]; exact witness_LoadAndRollBack.2
/-- The image in Run: entering Stop leaves what the check of the Shade reads. -/
def imagedRun : State := imaged.put F.PRG_MODE_MODE 1
theorem imagedRun_stopped : (imagedRun.enterStop 4).mem = imaged.mem ∧ (imagedRun.enterStop 4).reg R.PRG_SHADE_VER ≠ 0 ∧
    (imagedRun.enterStop 4).shadeSlot = slotBase 2 := by decide +kernel
theorem imagedRun_passes : (imagedRun.enterStop 4).shadeReason = none := by
  unfold State.shadeReason
  rw [if_neg imagedRun_stopped.2.1, imagedRun_stopped.2.2]
  exact imageCheck_of_fits _ _ _ ((slotCrcOk_congr imagedRun_stopped.1 _).trans imaged_crc) (by unfold fits; decide +kernel)
theorem witness_AutoRollbackInRun :
    (imagedRun.f F.PRG_STATUS_FAILS = 3 ∧ imagedRun.prg.loading = none ∧ imagedRun.mode ≠ .stop) ∧ (imagedRun.enterStop 4).shadeReason = none ∧
    (let s := st [(F.PRG_STATUS_FAILS, 3), (F.PRG_MODE_MODE, 1)]
     s.f F.PRG_STATUS_FAILS = 3 ∧ s.prg.loading = none ∧ s.mode ≠ .stop ∧ (s.enterStop 4).shadeReason.isSome) := ⟨by decide +kernel, imagedRun_passes, by decide +kernel⟩
theorem staging_fields : (imaged.put F.PRG_STATUS_STAGING 1).put F.PRG_STATUS_STAGING 0 = imaged ∧
    (imaged.fillBank (slotBase 2) imaged.stagingBase).stagingCheck false = none := by decide +kernel
theorem witness_StagingComplete : let s := imaged.put F.PRG_STATUS_STAGING 1
    s.prg.staging = some (2, false) ∧ s.f F.PRG_STATUS_STAGING = 1 ∧ (s.put F.PRG_STATUS_STAGING 0).imageCheck (slotBase 2) (!false) = none ∧
    ((s.put F.PRG_STATUS_STAGING 0).fillBank (slotBase 2) (s.put F.PRG_STATUS_STAGING 0).stagingBase).stagingCheck false = none := by
  intro s; refine ⟨by decide +kernel, by decide +kernel, ?_, ?_⟩
  · rw [staging_fields.1]; exact imaged_passes _
  · rw [staging_fields.1]; exact staging_fields.2
theorem witness_LoadsExchangesAndAutomaticRollback :
    State.reset.f F.PRG_STATUS_FAILS ≠ 3 ∧ State.reset.prg.staging = none ∧ State.reset.prg.loading = none ∧ State.reset.swapDue = false ∧
    (State.reset.follows = false ∧ State.reset.dark = false) ∧
    (swapping0.prg.staging = some (2, false) ∧ swapping0.swapDue = true ∧ (swapping0.stopForSwap.runExchange false).1 = true) ∧
    (let s : State := { ((swapping0.put F.PAIR_CTRL_EN 1).put F.PAIR_STATUS_CLAIM 1).setBit R.PAIR_PHEALTH_LO 11 true with pair := { paired := true } }
     s.swapDue = true ∧ (s.stopForSwap.runExchange false).1 = true ∧ (s.stopForSwap.runExchange false).2.inPair = true) ∧
    (let s := (swapping0.wr 0x401008 4 1).wr 0x40101C 1 9
     s.swapDue = true ∧ (s.stopForSwap.runExchange false).1 = false) ∧
    (let s := section_ (stand0.wr 0x400024 2 1) 0x400000 0 3 0 32 0
     s.prg.staging = some (2, false) ∧ s.f F.PRG_STATUS_STAGED = 1 ∧ s.follows = true ∧ s.dark = false ∧ s.mode = .stop ∧
       (s.linkFrame.runExchange false).1 = true) ∧
    (let s : State := { (swapping0.put F.PAIR_CTRL_EN 1).put F.PAIR_CTRL_MODE 1 with pair := { paired := true } }
     s.prg.staging = some (2, false) ∧ s.f F.PRG_STATUS_STAGED = 1 ∧ s.follows = true ∧ s.dark = false ∧ s.mode ≠ .stop ∧
       (s.linkFrame.stopForSwap.runExchange false).1 = true) ∧
    (stand0.follows = true ∧ stand0.dark = false ∧ stand0.prgBusy = false ∧ stand0.rd (slotBase (stand0.f F.PRG_ROLES_CAND)) 4 = (0 : Word).toNat ∧
      stand0.rd (slotBase (stand0.f F.PRG_ROLES_SHADE)) 4 ≠ (1 : Word).toNat ∧ stand0.f F.PRG_STATUS_TRIAL = 1 ∧ stand0.prg.swapping = false) ∧
    (let s : State := { State.reset with prg := { loading := some .load } }; s.prg.loading = some .load) ∧
    (let s : State := { State.reset with prg := { loading := some .rollback } }; s.prg.loading = some .rollback) := by decide +kernel

/-! ## Witnesses: registers, Prism, filters, loops -/

theorem witness_RegisterAccesses :
    (assigned R.PRISM_EST = true ∧ ordinaryReg R.PRISM_EST = true ∧ regionOf R.PRISM_EST = .registers ∧ R.PRISM_EST % 4 = 0 ∧
      State.reset.fusedBits R.PRISM_EST = 0 ∧ R.PRISM_EST ≠ R.PRG_CMD) ∧
    (let a := R.SHD_MAP 255
     assigned a = true ∧ laterReg a = true ∧ regionOf a = .registers ∧ a % 4 = 0 ∧ State.reset.fusedBits a = 0) ∧
    (regionOf 0x4011FFFC = .registers ∧ assigned 0x4011FFFC = false) ∧
    (let s : State := { State.reset with variant := { dieStep := 1, grade := .s, gnss2 := false, panelP := false } }
     R.LAN_CTRL ≠ R.PRG_CMD ∧ s.fusedBits R.LAN_CTRL = 0xFFFFFFFF) ∧
    (regionOf 0x1FFFFFFFC ≠ .registers ∧ badAccess 0x1FFFFFFFC 4 .write = false) ∧ badAccess 0x1000000 4 .write = true ∧
    badAccess 0xFFFFFFFFFF 1 .read = true ∧ badAccess 0x1000000 4 .fetch = false ∧
    (assigned R.TICK_NUM_LO = true ∧ lowWord R.TICK_NUM_LO = true ∧ tget? State.reset.latches (mkey .cc0 R.TICK_NUM_LO) = none) ∧
    (let s : State := { State.reset with latches := [(mkey .cc0 R.TICK_NUM_HI, 7)] }
     assigned R.TICK_NUM_HI = true ∧ inArray R.TICK_NUM_HI (R.IRQ_MASK 0) 4 8 = false ∧ tget? s.latches (mkey .cc0 R.TICK_NUM_HI) = some 7) ∧
    (assigned R.PRG_STATUS = true ∧ lowWord R.PRG_STATUS = false ∧ inArray R.PRG_STATUS (R.IRQ_MASK 0) 4 8 = false ∧
      inArray R.PRG_STATUS (R.TIME_FRAC 0) 0x20 16 = false ∧ tget? State.reset.latches (mkey .cc0 R.PRG_STATUS) = none) ∧
    (assigned (R.TIME_FRAC 3) = true ∧ inArray (R.TIME_FRAC 3) (R.TIME_FRAC 0) 0x20 16 = true ∧
      tget? State.reset.latches (mkey .cc0 (R.TIME_FRAC 3)) = none ∧ tget? State.reset.latches (mkey .cc0 (R.IRQ_MASK 7)) = none) ∧
    (let s : State := { State.reset with lowBufs := [(mkey .cc0 (R.TIME_INCLO 3), 7)] }
     assigned (R.TIME_INCHI 3) = true ∧ tget? s.lowBufs (mkey .cc0 (R.TIME_INCLO 3)) = some 7) ∧
    (assigned R.TIME_SET_SECLO = true ∧ lowRw R.TIME_SET_SECLO = true ∧ R.TIME_SET_SECLO % 4 = 0) ∧
    (let s : State := { State.reset with lowBufs := [(mkey .cc0 R.TIME_SET_SECLO, 7)] }
     tget? s.lowBufs (mkey .cc0 R.TIME_SET_SECLO) = some 7) := by decide +kernel

def sample0 : Sample := { value := 1, second := 0, quality := none, time := none }
/-- Stream 23 an analogue one, in a tick before its cut-off, at tick 300. -/
def stream23 (y : StreamSt) (l : List (Fld × Nat)) : State :=
  { (st (l ++ [(F.PRISM_SCFG_EN 23, 1), (F.PRISM_SCFG_KIND 23, 0), (F.PRISM_SCFG_STALE 23, 5)])).setReg R.TICK_NUM_LO 300 with
    prism := { streams := [(23, y)], capturing := true, tables := [(23, 0x20000000)] } }
def stampOf (s : State) (n : Nat) : Nat := s.instant n (s.base 0).total none
theorem witness_PrismStreams :
    State.reset.streamExists 23 = false ∧
    (let s : State := { st [(F.PRISM_SCFG_EN 4, 1), (F.PRISM_SCFG_KIND 4, 2)] with site := { sources := [2 :: 28 :: List.replicate 62 0] } }
     s.streamExists 4 = true ∧ s.sampleValues 4 sample0 = none) ∧
    (let s : State := { stream23 {} [] with prism := {} }; s.streamExists 23 = true ∧ s.prism.capturing = false) ∧
    (let s := stream23 {} []
     s.streamExists 23 = true ∧ s.prism.capturing = true ∧ s.stampSource 23 = none ∧ (s.sampleValues 23 sample0).isSome ∧
       s.assign 23 (stampOf s 23) ≤ s.tickNo ∧ s.unitOf 23 = none) ∧
    (let s : State := { st [(F.PRISM_SCFG_EN 4, 1), (F.PRISM_SCFG_KIND 4, 2)] with
       time := { bases := [(0, ⟨1, 0⟩)] }, site := { sources := [2 :: List.replicate 63 0] } }
     s.streamExists 4 = true ∧ s.stampSource 4 = some 164 ∧ (s.sampleValues 4 sample0).isSome ∧
     s.tickNo < s.assign 4 (s.instant 4 (tget (s.base 0, s.base 1) s.irq.stamp 164).1.total none)) ∧
    (let s : State := { st [(F.PRISM_SCFG_EN 4, 1), (F.PRISM_SCFG_KIND 4, 2), (F.FILT_DGL_EN 23, 1), (F.FILT_DGL_STREAM 23, 4)] with
       prism := { capturing := true }, site := { sources := [2 :: List.replicate 63 0] } }
     s.streamExists 4 = true ∧ s.prism.capturing = true ∧ s.unitOf 4 = some 23 ∧ (s.sampleValues 4 sample0).isSome ∧
       s.assign 4 (s.base 0).total ≤ s.tickNo) ∧
    (let s := stream23 { slips := [300, 299, 201], slipMask := true, lastSlip := 200, lastCap := 295, clean := 255, cleanUp := 100 } [(F.PRISM_MASKED_MASKED, 2 ^ 23)]
     3 ≤ s.slipCount 23 ∧ (s.stream 23).slipMask = true ∧ (s.stream 23).lastSlip + 100 ≤ s.tickNo ∧
     (s.stream 23).lastCap + s.staleLimit 23 ≤ s.tickNo ∧ s.bit R.PRISM_MASKED 23 = true ∧ s.f F.PRISM_MASKCFG_UNMASK ≤ (s.stream 23).clean) ∧
    (let s := stream23 { slips := [300, 299, 200], lastSlip := 201, lastCap := 296, cleanUp := 100, pass := 255, fbRej := 2 } []
     s.slipCount 23 < 3 ∧ (s.stream 23).slipMask = false ∧ s.tickNo < (s.stream 23).lastSlip + 100 ∧ s.tickNo < (s.stream 23).lastCap + s.staleLimit 23 ∧
     s.bit R.PRISM_MASKED 23 = false ∧ 100 ≤ (s.stream 23).cleanUp ∧ s.bit R.PRISM_VOTED 23 = false ∧ (s.stream 23).fbOut = false ∧
     (s.stream 23).fbRej < 3) ∧
    (let s : State := { st [(F.PRISM_VOTE_READMIT, 9)] with prism := { streams := [(11, { out := true, pass := 9 })] } }
     (s.stream 11).out = true ∧ s.f F.PRISM_VOTE_READMIT ≤ (s.stream 11).pass ∧ (s.stream 11).fbOut = false) ∧
    (let s : State := { st [(F.PRISM_VOTE_READMIT, 9), (F.PRISM_VOTED_VOTED, 2)] with prism := { streams := [(1, { fbOut := true, fbPass := 9 })] } }
     (s.stream 1).fbOut = true ∧ s.f F.PRISM_VOTE_READMIT ≤ (s.stream 1).fbPass ∧ (s.stream 1).out = false ∧ s.bit R.PRISM_VOTED 1 = true) ∧
    (let s : State := { st [(F.PRISM_SCFG_EN 4, 1), (F.PRISM_SCFG_KIND 4, 2)] with
       prism := { streams := [(4, { fbRej := 3, window := [⟨1, 0, none, 0, 0, 0, false⟩] })] },
       site := { sources := [2 :: List.replicate 63 0] } }
     3 ≤ (s.stream 4).fbRej ∧ (s.measured 4).isSome) ∧
    (State.reset.prism.restart = [] ∧ (st [(F.FILT_FB_CTRL_FB_EN, 0)]).f F.FILT_FB_CTRL_FB_EN = 0 ∧ State.reset.f F.FILT_FB_CTRL_FB_EN = 1) := by
  decide +kernel

def cand0 : Cand := { n := 1 }
/-- What RESULT_COMMIT judges, as the statement names it: cause, usable, back and due, and whether main and fall-back have a candidate. -/
def judged (s : State) : List Bool :=
  let m := s.maskAll
  let u := (if m.prism.ran then m.mainPath else m).noteMain
  let back := u.b F.FILT_FB_STATUS_FB_ACTIVE
  let v := if back then u.countReturn else u
  [decide (bitsOf (v.eff R.PRISM_CTRL) 0 0 = 0 ∨ v.f F.PRISM_STATUS_TBL_FAIL = 1 ∨ v.f F.FILT_FB_CTRL_FORCE = 1) ||
     (match v.prism.main with | some c => c.fail | none => false),
   v.b F.FILT_FB_CTRL_FB_EN && (match v.prism.fb with | some d => d.valid | none => false), back,
   decide (max 1 (v.f F.FILT_FB_CTRL_RETURN) ≤ v.f F.FILT_FB_STATUS_RET_CNT), v.prism.main.isSome, v.prism.fb.isSome]
/-- A candidate of each path at one place, with unit covariances. -/
def candU (valid : Bool) : Cand := { cov := [0x3FF0000000000000, 0, 0x3FF0000000000000], valid := valid }
def both (l : List (Fld × Nat)) : State :=
  { st (l ++ [(F.FILT_FB_CTRL_FB_EN, 1), (F.PRISM_CTRL_MAIN_EN, 1)]) with prism := { main := some (candU true), fb := some (candU true) } }
theorem witness_ResultCommit :
    judged (both []) = [false, true, false, false, true, true] ∧
    judged (both [(F.FILT_FB_CTRL_FORCE, 1)]) = [true, true, false, false, true, true] ∧
    judged (both [(F.FILT_FB_STATUS_FB_ACTIVE, 1), (F.FILT_FB_CTRL_RETURN, 2)]) = [false, true, true, false, true, true] ∧
    judged (both [(F.FILT_FB_STATUS_FB_ACTIVE, 1), (F.FILT_FB_CTRL_RETURN, 2), (F.FILT_FB_STATUS_RET_CNT, 1)]) = [false, true, true, true, true, true] ∧
    judged { both [] with prism := { main := some (candU true) } } = [false, false, false, false, true, false] ∧
    judged { both [] with prism := { fb := some (candU true) } } = [false, true, false, false, false, true] ∧
    judged (st [(F.PRISM_STATUS_TBL_FAIL, 1)]) = [true, false, false, false, false, false] := by decide +kernel
theorem witness_PrismResults :
    (20 ≤ (st [(F.PRISM_STATUS_POS_CNT, 20)]).f F.PRISM_STATUS_POS_CNT ∧ 20 ≤ (st [(F.PRISM_STATUS_HDG_CNT, 20)]).f F.PRISM_STATUS_HDG_CNT ∧
      State.reset.f F.PRISM_STATUS_POS_EST = 0 ∧ State.reset.f F.PRISM_STATUS_HDG_EST = 0 ∧
      (st [(F.PRISM_STATUS_POS_CNT, 19)]).f F.PRISM_STATUS_POS_CNT < 20 ∧ (st [(F.PRISM_STATUS_HDG_EST, 1)]).f F.PRISM_STATUS_HDG_EST = 1) ∧
    (let s : State := { State.reset with prism := { noPos := 200, noHdg := 199 } }; 200 ≤ s.prism.noPos ∧ s.prism.noHdg < 200) ∧
    (∀ n, n < 24 → State.reset.tableAt n = none) ∧
    (let s := (stream23 {} []).wr 0x20000038 4 1
     ((List.range 24).filter fun n => (s.tableAt n).isSome) = [23] ∧ s.tableAt 23 = some 0x20000000 ∧ s.tblFailed 23 = false ∧
     s.weightsOk 0x20000000 = false ∧ 0x20000000 + 65536 * s.prism.patrol < 0x20000000 + 64 + s.rd 0x20000008 4 ∧
     0x20000000 + 64 < 0x20000000 + 65536 * (s.prism.patrol + 1)) ∧
    (State.reset.mode = .stop ∧ 1 ≤ bitsOf (50 : Word) 5 0 ∧ bitsOf (50 : Word) 5 0 ≤ 50 ∧ bitsOf (50 : Word) 5 0 ≠ State.reset.f F.PRISM_GRID_CELL ∧
      bitsOf (50 : Word) 5 0 = (State.reset.put F.PRISM_GRID_CELL 50).f F.PRISM_GRID_CELL ∧ (State.reset.put F.PRISM_GRID_CELL 50).mode = .stop) ∧
    (running.mode ≠ .stop ∧ bitsOf (0 : Word) 5 0 = 0 ∧ 50 < bitsOf (51 : Word) 5 0) ∧
    State.reset.prism.fbRuns = false ∧ (let s : State := { State.reset with prism := { fbRuns := true }, cml := { fbCore := some 4 } }; s.prism.fbRuns = true ∧ s.cml.fbCore.isSome) ∧
    (let s : State := { State.reset with prism := { main := some cand0, returning := true } }; s.prism.main = some cand0 ∧ s.prism.returning = true) ∧
    State.reset.prism.main = none := by decide +kernel

theorem witness_AnalogueFilterChains :
    State.reset.chainOn 23 = false ∧ (st [(F.FILT_STAT_FILLING 23, 1)]).f (F.FILT_STAT_FILLING 23) = 1 ∧
    (let s := st [(F.FILT_CH_EN 23, 1)]
     s.chainOn 23 = true ∧ s.f (F.FILT_STAT_FILLING 23) = 0 ∧ bitsOf (s.eff (R.FILT_GL 23)) 31 31 = 0) := by decide +kernel

/-- Engine 31 on, with a finite proportional gain; and a copy that drives an output of command class without ownership. -/
def engine31 : State := st [(F.LOOP_CFG_EN 31, 1), (F.LOOP_CFG_OUT_EN 31, 1), (F.LOOP_CFG_OUT 31, 15)]
def engineT : State := { (engine31.put (F.LOOP_AOCFG_CMD 15) 1) with out := { rSp := [(31, 0)] } }
theorem witness_LoopEngines :
    State.reset.f (F.LOOP_CFG_EN 31) = 0 ∧ engine31.f (F.LOOP_CFG_EN 31) = 1 ∧ engine31.tracking 31 = false ∧ engine31.conflict 31 = false ∧
    sFinite 0 = true ∧ sFinite 0x7F800000 = false ∧
    (engineT.tracking 31 = true ∧ engineT.engineSubbed 31 = false ∧ engineT.engineCommand 31 = true ∧ engineT.f F.LOOP_STATUS_OWNED = 0) ∧
    (let s : State := { engineT with out := {} }; s.engineSubbed 31 = true) ∧
    (engine31.comesAt (engine31.cyclesToSample 31)).isSome ∧
    (let s : State := { engine31.setReg (R.LOOP_PER 31) 0x64 with tick := { running := true, cycles := 4999999 }, loop := { sampledAt := [(31, 0)] } }
     s.f (F.LOOP_CFG_EN 31) = 1 ∧ s.comesAt (s.cyclesToSample 31) = none) ∧
    (engineT.mode = .stop ∧ engineT.f (F.LOOP_CFG_OUT_EN 31) = 1 ∧ engineT.conflict 31 = false) ∧
    tget? State.reset.loop.load 31 = none ∧
    (let s : State := { State.reset with tick := { running := true, cycles := 5000000 }, loop := { load := [(31, none)], sampledAt := [(31, 1)] } }
     s.comesAt (s.cyclesToLaunch 0 (tget 0 s.loop.sampledAt 31 + 400 * 2 ^ 32)) = none) ∧
    (let s : State := { engine31.put (F.LOOP_AOCFG_EN 15) 1 with loop := { load := [(31, some 65535)] } }
     tget? s.loop.load 31 = some (some 65535) ∧ (s.comesAt (s.cyclesToLaunch 0 (tget 0 s.loop.sampledAt 31 + 400 * 2 ^ 32))).isSome ∧ s.driverOf (s.f (F.LOOP_CFG_OUT 31)) = some 31 ∧ s.f (F.LOOP_AOCFG_EN (s.f (F.LOOP_CFG_OUT 31))) = 1 ∧
     s.engineSubbed 31 = false) := by decide +kernel
/-- For engine 31 with its feedback off: the sum and the new integral while it drives, and the rewritten integral and its sum while it tracks,
as the statement names them. -/
def sums31 (s : State) : Nat × Nat × Nat × Nat :=
  let g := fun r => (s.reg r).toNat
  let sp := sMul (g (R.LOOP_SPSC 31)) (s.engineSetpoint 31)
  let dt := sRatio (max 1 (s.f (F.LOOP_PER_PERIOD 31)) : Nat) 10000
  let err := sSub sp 0
  let p := sMul (g (R.LOOP_KP 31)) err
  let d := sDiv (sMul (g (R.LOOP_KD 31) ^^^ 0x80000000) (sSub 0 (tget 0 s.loop.fbPrev 31))) dt
  let ff := sMul (g (R.LOOP_KF 31)) sp
  let v := fun i => sAdd (sAdd (sAdd ff p) i) d
  let x := fun i => sMul (v i) (sOfInt 65535)
  let up := fun i => if sLt (sOfInt (s.f (F.LOOP_LIM_OMAX 31))) (x i) then sOfInt (s.f (F.LOOP_LIM_OMAX 31)) else x i
  let y := fun i => if sLt (up i) (sOfInt (s.f (F.LOOP_LIM_OMIN 31))) then sOfInt (s.f (F.LOOP_LIM_OMIN 31)) else up i
  let i0 := g (R.LOOP_INT 31)
  let i2 := sAdd (sAdd i0 (sMul (sMul (g (R.LOOP_KI 31)) err) dt))
    (sMul (sMul (g (R.LOOP_KB 31)) (sSub (sDiv (sOfInt (sRound (y i0))) (sOfInt 65535)) (v i0))) dt)
  let i1 := sSub (sSub (sSub (sDiv (sOfInt (s.f (F.LOOP_TRK_TRK 31))) (sOfInt 65535)) ff) p) d
  (v i0, i2, v i1, i1)
theorem witness_LoopEnginesSums :
    engine31.f (F.LOOP_CFG_SPSRC 31) = 0 ∧ engine31.f (F.LOOP_CFG_FBSRC 31) = 0 ∧
    sFinite (sums31 engine31).1 = true ∧ sFinite (sums31 engine31).2.1 = true ∧ sFinite (sums31 engineT).2.2.1 = true ∧
    sFinite (sums31 engineT).2.2.2 = true ∧ sFinite (sums31 (engine31.setReg (R.LOOP_INT 31) 0x7F800000)).1 = false := by decide +kernel

theorem witness_PinsAndPulseInputs :
    State.reset.bit R.LOOP_GPIO_IN_LO 47 = false ∧ State.reset.bit R.LOOP_GPIO_IN_LO 47 ≠ true ∧ (State.reset.pulse 7).a = false ∧
    (State.reset.pulse 7).a ≠ true := by decide +kernel

/-! ## Witnesses: the solver, detectors, the pair -/

def batch5 : State := { (State.reset.put F.TICK_PHASE_PHASE 2) with azs := { running := [(5, prob0)], batch := [5] } }
theorem witness_SolverProblemsEnd :
    5 ∉ State.reset.azs.batch ∧
    (let s : State := { State.reset with azs := { running := [(4, { prob0 with g := 64 }), (5, prob0)], batch := [4, 5] } }; s.azsBlocked 5 = true) ∧
    (5 ∈ batch5.azs.batch ∧ batch5.azsBlocked 5 = false ∧ tget? batch5.azs.running 5 = some prob0 ∧ batch5.azs.discard = false ∧
      batch5.tick.cycles ≤ 500 * (7 * batch5.periodUs / 10) ∧
      prob0.res + 2 * prob0.recSize ≤ 0x400000 ∧ prob0.areasOk = true ∧ apart [] prob0.written = true ∧ batch5.azsRejects prob0 = false) ∧
    (let d : AzsDesc := { prob0 with k := 0 }; (batch5.solve d (batch5.warmStart d)).failed = false) ∧
    (let s : State := { (State.reset.put F.TICK_PHASE_PHASE 2) with azs := { crossing := some 7 }, tick := { cycles := 3499999 } }
     s.azs.crossing = some 7 ∧ s.f F.TICK_PHASE_PHASE < 3 ∧ s.tick.cycles < 500 * (7 * s.periodUs / 10) ∧ 7 + 5 < 500 * (7 * s.periodUs / 10)) ∧
    (let s : State := { batch5 with tick := { cycles := 3500004 } }; s.azs.discard = false ∧ 500 * (7 * s.periodUs / 10) + 3 < s.tick.cycles) ∧
    (batch5.wr (0x10000000 + 0x5000 + 16) 8 0x7FF0000000000000).azsRejects prob0 = true ∧
    (let s : State := { batch5 with azs := { batch5.azs with discard := true } }; s.azs.discard = true) ∧ prob0.work + prob0.workSize ≤ 0x400000 ∧ State.reset.azs.crossing = none ∧
    (let s : State := { State.reset.put F.TICK_PHASE_PHASE 2 with azs := { crossing := some 3499997 } }
     500 * (7 * s.periodUs / 10) ≤ 3499997 + 3 ∧ s.azs.discard = false) ∧
    (let s : State := { State.reset.put F.TICK_PHASE_PHASE 3 with azs := { crossing := some 7 } }
     s.azs.crossing = some 7 ∧ 3 ≤ s.f F.TICK_PHASE_PHASE ∧ s.azs.discard = false) ∧
    batch5.f F.TICK_PHASE_PHASE < 3 := by decide +kernel

/-- Problem 5 defined with no variable, which admission refuses; and an empty table, which it accepts. -/
def defined5 (k : Admit) : State := { (State.reset.wr (0x10000000 + 64 * 5 + 11) 1 1) with azs := { admitting := some k } }
theorem witness_AdmissionAndDetections :
    State.reset.azs.admitting = none ∧
    (∀ k ∈ [Admit.load, .period, .command, .swap], (defined5 k).azs.admitting = some k ∧ (defined5 k).azsJudge = .inl (1, 5)) ∧
    (let s : State := { State.reset with azs := { admitting := some .command } }; s.azs.admitting = some .command ∧ s.azsJudge = .inr []) ∧
    bitsOf (State.reset.eff (R.SHD_MAP 255)) 31 31 = 0 ∧ bitsOf ((st [(F.SHD_MAP_EN 255, 1)]).eff (R.SHD_MAP 255)) 31 31 = 1 :=
  by decide +kernel

def pairUp (p : PairSt) (l : List (Fld × Nat)) : State := { st (l ++ [(F.PAIR_CTRL_EN, 1)]) with pair := { p with paired := true } }
/-- The state at the instant at which the filtered level falls or rises. -/
def atLow (s : State) : Option State :=
  s.comesAt (s.cyclesTo 0 (match s.pair.fall with | some f => f.1 + s.claimFilt * usUnits | none => 0))
def atHigh (s : State) : Option State := s.comesAt (s.cyclesTo 0 (s.pair.rise + s.claimFilt * usUnits))
/-- One cycle before the end of a tick. -/
def lastCycle (s : State) : State := { s with tick := { running := true, cycles := 4999999 } }
/-- The owner of a pair in a tick with a test pulse. -/
def testing0 : State := { st [(F.PAIR_CTRL_EN, 1), (F.PAIR_ECL_TEST_EN, 1), (F.PAIR_STATUS_CLAIM, 1), (F.PAIR_STATUS_ECL_IN, 0)] with pair := { paired := true } }
/-- A claimless module whose partner's pulse, from MONO 0, is due. -/
def pulseDue (n : Nat) : State :=
  { (pairUp { fall := some (0, 0, false), eclOk := true, wrongPulse := 1 } [(F.PAIR_ECL_TEST_EN, 1)]) with time := { bases := [(0, ⟨0, n⟩)] } }
theorem witness_TheEclipseLines :
    (State.reset.inPair = false ∧ State.reset.pair.fall = none ∧ State.reset.pair.filtered = false) ∧
    (let s := pulseDue (2 ^ 62)
     s.inPair = true ∧ s.f F.PAIR_STATUS_CLAIM = 0 ∧ s.pair.fall = some (0, 0, false) ∧ ¬((s.base 0).total ≤ (s.testWidth + 2) * usUnits)) ∧
    (let s := { (pulseDue 0) with time := { bases := [(0, ⟨0, (pulseDue 0).testWidth * usUnits⟩)] } }
     s.inPair = true ∧ s.testWidth * usUnits ≤ (s.base 0).total + 2 * usUnits ∧ (s.base 0).total ≤ (s.testWidth + 2) * usUnits) ∧
    (st [(F.PAIR_STATUS_ECL_IN, 1)]).f F.PAIR_STATUS_ECL_IN = 1 ∧ (st [(F.PAIR_STATUS_ECL_IN, 0)]).f F.PAIR_STATUS_ECL_IN = 0 ∧
    ((st [(F.PAIR_ECL_TEST_EN, 0)]).testDue = false ∧ State.reset.owns = false ∧ State.reset.pair.testEnd = none ∧ State.reset.pulseExpected = false) ∧
    (testing0.testDue = true ∧ testing0.owns = true ∧ testing0.pair.testEnd = none ∧ testing0.tick.cycles ≤ 450 * testing0.periodUs) ∧
    450 * testing0.periodUs < (lastCycle testing0).tick.cycles ∧
    (let s : State := { State.reset with pair := { testEnd := some 500 } }
     s.pair.testEnd = some 500 ∧ (s.comesAt (s.cyclesTo 0 500)).isSome ∧ (lastCycle s).comesAt ((lastCycle s).cyclesTo 0 (2 ^ 60)) = none) ∧
    (let s := st [(F.PAIR_STATUS_ECL_IN, 1)]
     s.f F.PAIR_STATUS_ECL_IN = 1 ∧ s.pair.filtered = false ∧ atHigh (lastCycle s) = none ∧ (atHigh s).any fun t => t.f F.PAIR_STATUS_CLAIM = 0) ∧
    (let s := st [(F.PAIR_STATUS_ECL_IN, 1), (F.PAIR_STATUS_CLAIM, 1), (F.PAIR_STATUS_POS, 1)]
     s.pair.filtered = false ∧ (atHigh s).any fun t => t.f F.PAIR_STATUS_CLAIM = 1 ∧ t.f F.PAIR_STATUS_POS = 1) ∧
    (let s := pairUp { filtered := true, fall := some (0, 8, false) } [(F.PAIR_STATUS_ECL_IN, 0), (F.PRG_MODE_MODE, 1)]
     s.f F.PAIR_STATUS_ECL_IN = 0 ∧ s.pair.filtered = true ∧ atLow (lastCycle s) = none ∧
       (atLow s).any fun t => t.inPair = true ∧ t.mode = .run ∧ t.f F.PAIR_STATUS_CLAIM = 0) ∧
    (let s : State := { st [(F.PAIR_STATUS_ECL_IN, 0)] with pair := { filtered := true } }
     s.f F.PAIR_STATUS_ECL_IN = 0 ∧ s.pair.filtered = true ∧ (atLow s).any fun t => t.inPair = false) ∧
    (let s := pairUp { filtered := true } [(F.PAIR_STATUS_ECL_IN, 0)]
     (atLow s).any fun t => t.inPair = true ∧ t.mode ≠ .run ∧ t.pair.fall = none) ∧
    (let s := pairUp { filtered := true, takeover := some 9 } [(F.PAIR_STATUS_ECL_IN, 0), (F.PRG_MODE_MODE, 1), (F.PAIR_STATUS_CLAIM, 1)]
     (atLow s).any fun t => t.inPair = true ∧ t.f F.PAIR_STATUS_CLAIM = 1 ∧ t.standby = false ∧ t.pair.takeover.isSome) ∧
    (let s := pairUp { filtered := true, fall := some (0, 8, true) } [(F.PAIR_STATUS_ECL_IN, 0), (F.PAIR_CTRL_COLD_TAKE, 1)]
     (atLow s).any fun t => t.standby = true ∧ t.pair.takeover = none ∧ t.pair.fall = some (0, 8, true) ∧ t.pair.committed = none ∧
       t.f F.PAIR_CTRL_COLD_TAKE = 1) ∧
    (let c : Ckpt := { tick := 7, version := 0 }
     let s := pairUp { filtered := true, fall := some (0, 8, false), committed := some c } [(F.PAIR_STATUS_ECL_IN, 0)]
     (atLow s).any fun t => t.standby = true ∧ t.pair.takeover = none ∧ t.pair.fall = some (0, 8, false) ∧ t.pair.committed = some c ∧
       t.ckptRefused c = false ∧ (if false then 8 + 1 else 8 + 2) ≤ c.tick + 3) ∧
    (let s := pairUp { filtered := true, fall := some (0, 8, true) } [(F.PAIR_STATUS_ECL_IN, 0)]
     (atLow s).any fun t => t.standby = true ∧ t.pair.takeover = none ∧ t.pair.fall = some (0, 8, true) ∧ t.pair.committed = none ∧
       t.f F.PAIR_CTRL_COLD_TAKE = 0) := by decide +kernel

/-- A hello frame that fits a unit A. -/
def hello1 : Hello := { hello0 with sysId := State.reset.variant.id }
theorem witness_PairingAndLink :
    (State.reset.f F.PAIR_CTRL_EN = 0 ∨ State.reset.pair.paired = true) ∧
    (let s := st [(F.PAIR_CTRL_EN, 1)]
     s.f F.PAIR_CTRL_EN = 1 ∧ s.pair.paired = false ∧ bitsOf hello1.sysId 23 0 = bitsOf s.variant.id 23 0 ∧ hello1.periodMs = s.periodMs ∧
     ¬(hello1.unitB = true ↔ s.f F.PAIR_STATUS_POS = 1) ∧ (hello1.mirror = true ↔ s.f F.PAIR_CTRL_MODE = 1)) ∧
    bitsOf hello0.sysId 23 0 ≠ bitsOf State.reset.variant.id 23 0 ∧
    (let s := st [(F.PAIR_CTRL_EN, 1), (F.PAIR_STATUS_POS, 1), (F.PAIR_CTRL_MODE, 1)]
     { hello1 with periodMs := 20 }.periodMs ≠ s.periodMs ∧ hello1.periodMs = s.periodMs ∧ bitsOf hello1.sysId 23 0 = bitsOf s.variant.id 23 0 ∧
     (hello1.unitB = true ↔ s.f F.PAIR_STATUS_POS = 1) ∧ ¬({ hello1 with unitB := false }.unitB = true ↔ s.f F.PAIR_STATUS_POS = 1) ∧
     ¬(hello1.mirror = true ↔ s.f F.PAIR_CTRL_MODE = 1)) ∧
    (let s := st [(F.PAIR_STATUS_CLAIM, 0), (F.PAIR_STATUS_ECL_IN, 1)]; s.f F.PAIR_STATUS_CLAIM = 0 ∧ s.mode = .stop ∧ s.f F.PAIR_STATUS_ECL_IN = 1) ∧
    State.reset.inPair = false ∧ State.reset.dark = false ∧ (st [(F.REC_STATUS_AFTERGLOW, 1)]).dark = true ∧
    (let s := st [(F.PAIR_CTRL_EN, 1), (F.PRG_MODE_MODE, 1)]; s.mode = .run ∧ s.pair.filtered = false) ∧
    ((st [(F.PAIR_CTRL_EN, 1)]).f F.PAIR_LINK_LANES = 0 ∧ (st [(F.PAIR_LINK_LANES, 1)]).f F.PAIR_LINK_LANES ≠ 0) ∧
    (let s : State := { (st [(F.PAIR_STATUS_LINK_UP, 1)]).setReg R.TICK_NUM_LO 9 with pair := { upTick := 6, frameTick := some 6, tx := some [1, 2] } }
     s.f F.PAIR_STATUS_LINK_UP = 1 ∧ s.pair.upTick + 3 ≤ s.tickNo ∧ s.pair.frameTick = some 6 ∧ 6 + 3 ≤ s.tickNo ∧ s.pair.tx = some [1, 2]) ∧
    (State.reset.f F.PAIR_STATUS_LINK_UP = 0 ∧ State.reset.tickNo < State.reset.pair.upTick + 3) ∧
    State.reset.standby = false ∧ stand0.standby = true ∧ bitsOf (0x88000000 : Word) 31 31 = 1 := by decide +kernel

def rec0 : StateRecord := { crcOk := true, tick := 1, stamp := 2, version := 3, trial := 4, prism := [], refreshEnds := false }
theorem witness_CheckpointsOfTheStandby :
    (0 : CkptFrame).val ∉ State.reset.pair.rx.failed ∧
    (let s : State := { State.reset with pair := { rx := { failed := [28671] } } }; (28671 : CkptFrame).val ∈ s.pair.rx.failed) ∧
    ({ rec0 with crcOk := false }).crcOk = false ∧ (let s : State := { State.reset with pair := { rx := { bad := true } } }; s.pair.rx.bad = true) ∧
    ((st [(F.REC_STATUS_AFTERGLOW, 1)]).dark = true ∧ stand0.dark = false ∧ rec0.tick ≠ stand0.tickNo) ∧
    (State.reset.pair.tx = none ∧ (0 : CkptFrame).val ∉ State.reset.pair.txAgain) ∧
    (let s : State := { State.reset with pair := { tx := some [1], txAgain := [28671] } }
     s.pair.tx = some [1] ∧ (28671 : CkptFrame).val ∈ s.pair.txAgain) ∧
    (let s : State := { stand0 with pair := { stand0.pair with tiles := [(23, 7)] } }
     s.standby = true ∧ tget? s.pair.tiles 23 = some (7 : Word).toNat ∧ tget? s.pair.tiles 23 ≠ some (8 : Word).toNat) ∧
    (rec0.crcOk = true ∧ stand0.pair.rx.bad = false ∧ stand0.standby = true ∧ stand0.pair.rx.warm = [] ∧ rec0.tick < 2 ^ 64) ∧
    (let s := pairUp { rx := { frames := [(16383, List.replicate 256 7)] } } []
     s.pair.rx.frames = [(16383, List.replicate 256 7)] ∧ 16383 < 16384 ∧ (List.replicate 256 (7 : Byte)).length ≤ 256 ∧ s.standby = true) ∧
    State.reset.standby = false := by decide +kernel

/-! ## Recorder, interrupts, time -/

def rec1 : Rec := { seq := 5, secs := 0, aux := 0, tick := 0, code := 0x8000, flags := 0, source := 0x10, payload := 0 }
def recs (r : RecSt) (l : List (Fld × Nat)) : State := { st l with recorder := r }
/-- The default bucket holds one record's tokens. -/
def oneToken : RecSt := { tokens := [(1024, 16000)] }

theorem witness_RecordsQueuesAndFlushes :
    (recs { closed := true } []).recorder.closed = true ∧
    (let s := recs {} [(F.REC_STATUS_FULL, 1)]; s.recorder.closed = false ∧ s.f F.REC_STATUS_FULL = 1) ∧
    (let s := recs { tokens := [(1024, 15999)] } []
     (0x0EFF : Code).toNat < 0x0F00 ∧ 0x0F0F < (0x0F10 : Code).toNat ∧ s.recorder.closed = false ∧ s.f F.REC_STATUS_FULL = 0 ∧
     tget 0 s.recorder.tokens (s.bucketOf 0x0EFF) < 16000) ∧
    ((recs oneToken []).recorderOpen 0x0EFF ∧ (recs oneToken []).recorderOpen 0x0F10) ∧
    (recs oneToken []).f F.REC_STATUS_BUFFERED = 0 ∧ (recs oneToken []).recorder.queue.length < 256 ∧
    ((recs oneToken [(F.REC_STATUS_BUFFERED, 1)]).recorderOpen 0x0F10 ∧ (recs oneToken [(F.REC_STATUS_BUFFERED, 1)]).f F.REC_STATUS_BUFFERED = 1) ∧
    (bitsOf (0x7FFF : Word) 15 0 < 0x8000 ∧ 0x8000 ≤ bitsOf (0x8000 : Word) 15 0 ∧ (recs oneToken []).recorderOpen (bitsOf (0x8000 : Word) 15 0)) ∧
    State.reset.recorder.queue = [] ∧ (recs { queue := [rec1] } []).recorder.queue = rec1 :: [] ∧ bitsOf (0x80000000 : Word) 31 31 = 1 ∧
    State.reset.recorder.flush = none ∧ (recs { flush := some 9 } []).recorder.flush = some 9 ∧
    (let s := recs { flush := some 254, queue := [rec1] } [(F.REC_USED_USED, 786429)]
     s.recorder.flush = some 254 ∧ 254 ≠ 255 ∧ s.recorder.closed = false ∧ s.f F.REC_STATUS_FULL = 0 ∧
     s.f F.REC_USED_USED + s.recorder.queue.length + s.recorder.buffer.length + 1 < 786432) ∧
    (State.reset.f F.REC_STATUS_AFTERGLOW = 0 ∨ State.reset.recorder.closed = true) ∧
    (let s := recs {} [(F.REC_STATUS_AFTERGLOW, 1), (F.REC_USED_USED, 786429)]
     s.f F.REC_STATUS_AFTERGLOW = 1 ∧ s.recorder.closed = false ∧ s.f F.REC_STATUS_FULL = 0 ∧
     s.f F.REC_USED_USED + s.recorder.queue.length + s.recorder.buffer.length + 2 < 786432) := by
  unfold State.recorderOpen; decide +kernel

/-- CC0 fetches record q. -/
def fetching (q : Nat) (r : RecSt) : State :=
  let s := (recs { r with fetching := [masterCode .cc0] } [(F.REC_USED_USED, 3)]).setMreg .cc0 R.REC_RD_SEQ_LO (BitVec.ofNat 32 q)
  s
theorem witness_ReadingAndClearingTheRecord :
    masterCode .cc0 ∉ State.reset.recorder.fetching ∧
    (let s := fetching 5 { first := 5, next := 6, buffer := [rec1] }
     let q := (s.mreg .cc0 R.REC_RD_SEQ_HI).toNat * 2 ^ 32 + (s.mreg .cc0 R.REC_RD_SEQ_LO).toNat
     masterCode .cc0 ∈ s.recorder.fetching ∧ s.recorder.first ≤ q ∧ q ≤ s.lastCommitted ∧ s.recorder.buffer.find? (·.seq = q) = some rec1) ∧
    (let s := fetching 3 { first := 1, next := 4 }
     let q := (s.mreg .cc0 R.REC_RD_SEQ_HI).toNat * 2 ^ 32 + (s.mreg .cc0 R.REC_RD_SEQ_LO).toNat
     s.recorder.buffer.find? (·.seq = q) = none ∧ s.recorder.first ≤ q ∧ q ≤ s.lastCommitted ∧ q - s.recorder.first < s.f F.REC_USED_USED) ∧
    (let s := fetching 0 { first := 1, next := 4 }
     let q := (s.mreg .cc0 R.REC_RD_SEQ_HI).toNat * 2 ^ 32 + (s.mreg .cc0 R.REC_RD_SEQ_LO).toNat
     s.recorder.buffer.find? (·.seq = q) = none ∧ (q < s.recorder.first ∨ s.lastCommitted < q)) ∧
    bitsOf (0x43530001 : Word) 31 16 ≠ 0x4352 ∧
    (bitsOf (0x43520001 : Word) 31 16 = 0x4352 ∧ bitsOf (0x43520001 : Word) 0 0 = 1 ∧ (st [(F.PRG_MODE_MODE, 1)]).mode = .run) ∧
    (State.reset.mode ≠ .run ∧ State.reset.f F.REC_STATUS_CLR_LOCK = 0) ∧
    (let s := st [(F.REC_STATUS_CLR_LOCK, 1)]; s.mode ≠ .run ∧ s.f F.REC_STATUS_CLR_LOCK = 1) ∧
    State.reset.f F.REC_STATUS_CHAL_VALID = 0 ∧ (recs { closed := true } []).recorder.closed = true ∧
    (let s := st [(F.REC_STATUS_CHAL_VALID, 1)]; s.recorder.closed = false ∧ s.f F.REC_STATUS_CHAL_VALID = 1) := by decide +kernel

/-- A response that is not the right one exists, whatever the response function is. -/
theorem witness_wrong_response (c : Nat) (k : Nat) : ∃ v : Word, v ≠ Config.clearResponse c k := by
  refine ⟨Config.clearResponse c k ^^^ 1, ?_⟩
  intro h
  have h := congrArg (Config.clearResponse c k ^^^ ·) h
  simp at h

/-- Source 200 pending for the host. -/
def pend200 : State := st [(F.IRQ_CFG_EN 200, 1), (F.IRQ_CFG_TARGETS 200, 64), (F.IRQ_TGTEN_EN, 64), (F.IRQ_COAL_PCNT 200, 1)]
def dels (l : List Delivery) (s : State) : State := { s with irq := { s.irq with inFlight := l } }
theorem witness_InterruptDelivery :
    State.reset.sourceExists 255 = false ∧ State.reset.sourceExists 6 = false ∧ State.reset.sourceExists 231 = true ∧
    (let s := st [(F.IRQ_CFG_EN 200, 1)]; s.f (F.IRQ_CFG_EN 200) = 1 ∧ s.f (F.IRQ_COAL_PCNT 200) = 0) ∧ State.reset.f (F.IRQ_CFG_EN 200) = 0 ∧
    (let s : State := { st [(F.IRQ_COAL_PCNT 200, 1), (F.IRQ_COAL_TIME 200, 1)] with sys := { inReset := false } }
     let due := fun (s : State) => s.comesAt (500 * s.f (F.IRQ_COAL_TIME 200) - tget 0 s.irq.timer 200)
     0 < s.f (F.IRQ_COAL_PCNT 200) ∧ 0 < s.f (F.IRQ_COAL_TIME 200) ∧ due (lastCycle s) = none ∧ (due s).any fun u => !u.sys.inReset) ∧
    (State.reset.f (F.IRQ_COAL_PCNT 200) = 0 ∨ State.reset.f (F.IRQ_COAL_TIME 200) = 0) ∧
    (State.reset.prg.swapping = true ∨ State.reset.nextSource = none) ∧
    (pend200.prg.swapping = false ∧ pend200.nextSource = some 200 ∧ pend200.target 200 = some 6) ∧
    State.reset.irq.inFlight = [] ∧
    (let s := dels [⟨200, 5, 1, [], 200⟩] State.reset; s.irq.inFlight = ⟨200, 5, 1, [], 200⟩ :: [] ∧ 5 < 6 ∧ s.tasksFor 5 200 = []) ∧
    (let s := dels [⟨193, 7, 255, [mramBase + 0x3000000], 5⟩] State.reset
     s.irq.inFlight = ⟨193, 7, 255, [mramBase + 0x3000000], 5⟩ :: [] ∧ 7 < 8 ∧ mramBase + 0x3000000 ≤ mramBase + 0x3000000) ∧
    (let s := dels [⟨191, 8, 2, [mramBase + 0x3000000], 191⟩] State.reset
     s.irq.inFlight = ⟨191, 8, 2, [mramBase + 0x3000000], 191⟩ :: [] ∧ recvSource 191 = true) ∧
    (let s := st [(F.IRQ_CFG_EN 191, 1), (F.IRQ_COAL_PCNT 191, 1)]
     recvSource 191 = true ∧ s.srcReady 191 = true ∧ s.srcMasked 191 = false ∧ s.target 191 = none ∧ s.prg.swapping = false) ∧
    recvSource 192 = false ∧ State.reset.srcReady 120 = false := by decide +kernel

def aon (l : List Nat) (s : State) : State := { s with irq := { s.irq with aon := l } }
theorem witness_InterruptControls :
    (∀ d ∈ State.reset.irq.inFlight, d.src / 32 ≠ 7) ∧ State.reset.sourceExists 0 = true ∧ State.reset.sourceExists 196 = false ∧
    (let s : State := { aon [123] (st [(F.IRQ_CFG_EN 123, 1)]) with sys := { inReset := false } }
     123 ∈ s.irq.aon ∧ s.f (F.IRQ_CFG_EN 123) = 1 ∧ s.sourceExists 123 = true ∧ s.clocked 123 = true) ∧
    State.reset.clocked 123 = false ∧ State.reset.dark = false ∧ (st [(F.REC_STATUS_AFTERGLOW, 1)]).dark = true ∧
    (123 ∉ State.reset.irq.aon ∨ State.reset.f (F.IRQ_CFG_EN 123) = 0) ∧ (1 : Word).getLsbD 0 = true ∧ (0 : Word).getLsbD 0 = false ∧
    (let s : State := { State.reset with irq := { msixHeld := [255] } }; 255 ∈ s.irq.msixHeld) ∧ 255 ∉ State.reset.irq.msixHeld := by
  decide +kernel

theorem witness_TimeBasesAndDiscipline :
    baseExists 7 = false ∧ baseExists 1 = true ∧ (0x200100000 : Dword).toNat ≤ 0x200100000 ∧ 0x1FFF00000 ≤ (0x1FFF00000 : Dword).toNat ∧
    (let s : State := { st [] with sys := { inReset := false } }; s.sys.inReset = false ∧ (lastCycle s).tick.running = true) ∧
    (let s : State := { st [(F.TIME_STATUS_STATE, 2)] with time := { lastSol := 0 } }
     let due := fun (s : State) => s.comesAt (s.cyclesTo 0 (s.time.lastSol + 3 * nsPerSec))
     s.tai = .locked ∧ due (lastCycle s) = none ∧ (due s).isSome) ∧
    State.reset.gnss.timeSol = none ∧ State.reset.gnss.solSec ≠ some ((0 : Dword).toNat) ∧
    (let s : State := { st [(F.TIME_STATUS_STATE, 1)] with gnss := { timeSol := some (-5), solSec := some 3 }, time := { hostSet := some (0, ⟨7, 0⟩) } }
     s.gnss.timeSol = some (-5) ∧ s.gnss.solSec = some ((3 : Dword).toNat) ∧ s.tai = .hostset ∧ s.time.hostSet = some ((s.base 0).total, ⟨7, 0⟩)) ∧
    (let s : State := { st [(F.TIME_STATUS_STATE, 1)] with gnss := { timeSol := some (-5), solSec := some 3 } }
     s.gnss.timeSol = some (-5) ∧ s.gnss.solSec = some ((3 : Dword).toNat) ∧ s.time.hostSet = none) ∧
    State.reset.tai = .free ∧ (st [(F.TIME_STATUS_STATE, 1)]).tai = .hostset ∧ (st [(F.TIME_STATUS_STATE, 2)]).tai = .locked ∧
    (st [(F.TIME_STATUS_STATE, 3)]).tai = .holdover ∧ (st [(F.TIME_STATUS_STATE, 4)]).tai = .recovering ∧
    (let s := st [(F.TIME_STATUS_STATE, 1), (F.TIME_DISC_LOCK_TOL, 1)]
     s.tai = .hostset ∧ (((2 ^ 32 : Int)).natAbs : Int) ≤ s.lockTol ∧ ¬ (((2 ^ 32 + 1 : Int)).natAbs : Int) ≤ s.lockTol) ∧
    (let s := st [(F.TIME_STATUS_STATE, 2), (F.TIME_CTRL_DISC_EN, 1)]; s.tai = .locked ∧ s.f F.TIME_CTRL_DISC_EN = 1) ∧
    (let s := st [(F.TIME_STATUS_STATE, 4), (F.TIME_CTRL_DISC_EN, 1)]
     s.tai = .recovering ∧ s.f F.TIME_CTRL_DISC_EN = 1 ∧ ¬ (((2 ^ 60 : Int)).natAbs : Int) ≤ s.lockTol) ∧
    (st [(F.TIME_CTRL_DISC_EN, 0)]).f F.TIME_CTRL_DISC_EN = 0 ∧
    (let s := st [(F.TIME_STATUS_STATE, 4), (F.TIME_CTRL_BEACON_EN, 0)]; s.f F.TIME_CTRL_BEACON_EN = 0 ∧ s.tai = .recovering) ∧
    (st [(F.TIME_CTRL_BEACON_EN, 1)]).f F.TIME_CTRL_BEACON_EN = 1 ∧
    (st [(F.TIME_STATUS_CIV_VALID, 1)]).f F.TIME_STATUS_CIV_VALID = 1 ∧ State.reset.f F.TIME_STATUS_CIV_VALID = 0 := by decide +kernel

def leaps (l : Tbl LeapRow) (s : State) : State := { s with time := { s.time with leap := l } }
theorem witness_LeapSecondsBeaconReference :
    (st [(F.TIME_CTRL_LEAP_GNSS, 0)]).f F.TIME_CTRL_LEAP_GNSS = 0 ∧ bitsOf (0x80000025 : Word) 31 31 = 1 ∧ bitsOf (0x25 : Word) 31 31 = 0 ∧
    (let s := leaps [(31, ⟨9, 37, false⟩)] (st [(F.TIME_CTRL_LEAP_GNSS, 1)])
     s.f F.TIME_CTRL_LEAP_GNSS = 1 ∧ s.time.leap.find? (·.2.te = 9) = some (31, ⟨9, 37, false⟩) ∧ s.time.leap.find? (·.2.te = 8) = none ∧
     (List.range 32).find? (fun k => (tget? s.time.leap k).isNone) = some 0) ∧
    leapAt State.reset.time.leap (State.reset.base 1).sec = none ∧
    (let s := leaps [(0, ⟨0, -32768, false⟩)] State.reset; leapAt s.time.leap (s.base 1).sec = some (0, ⟨0, -32768, false⟩) ∧ (-32768 : Int) ≤ -32768) ∧
    (State.reset.tai = .free ∨ State.reset.f F.TIME_CTRL_BEACON_EN = 0) ∧
    (let s : State := { st [(F.TIME_STATUS_STATE, 2), (F.TIME_CTRL_BEACON_EN, 1)] with time := { bases := [(1, ⟨0, 2 ^ 40⟩)] } }
     s.tai ≠ .free ∧ s.f F.TIME_CTRL_BEACON_EN = 1 ∧ (lastCycle s).comesAt (lastCycle s).toWholeSecond = none ∧ (s.comesAt s.toWholeSecond).isSome) ∧
    (let s : State := { State.reset with pins := { beacon := true }, time := { beaconEnd := 2 ^ 60 } }
     s.pins.beacon = true ∧ (lastCycle s).comesAt ((lastCycle s).cyclesTo 0 (2 ^ 60)) = none ∧ (s.comesAt (s.cyclesTo 0 (2 ^ 60))).isSome) ∧
    State.reset.pins.beacon = false ∧
    State.reset.f F.SYS_CLK_REF = 0 ∧ (let s := st [(F.SYS_CLK_REF, 1), (F.TIME_STATUS_STATE, 3)]; s.f F.SYS_CLK_REF = 1 ∧ s.tai = .holdover) ∧
    (let s := st [(F.SYS_STRAP_REF_EXT, 1), (F.SYS_CLK_EXT_OK, 1)]
     s.f F.SYS_STRAP_REF_EXT = 1 ∧ s.f F.SYS_CLK_EXT_OK = 1 ∧ s.f F.SYS_CLK_REF = 0) ∧
    (let s := st [(F.SYS_STRAP_REF_EXT, 1), (F.SYS_CLK_EXT_OK, 1), (F.SYS_CLK_REF, 1)]
     s.f F.SYS_STRAP_REF_EXT = 1 ∧ s.f F.SYS_CLK_EXT_OK = 1 ∧ s.f F.SYS_CLK_REF = 1) ∧
    (State.reset.f F.SYS_STRAP_REF_EXT = 0 ∨ State.reset.f F.SYS_CLK_EXT_OK = 0) := by decide +kernel

/-! ## GNSS, power, Lantern -/

def gns (g : GnssSt) (l : List (Fld × Nat)) : State :=
  { st ([(F.GNSS_CTRL_EN, 1), (F.GNSS_CTRL_CH1_EN, 1), (F.GNSS_CTRL_B2_EN, 1), (F.GNSS_CTRL_CONST, 15), (F.GNSS_ACQ_NC, 2), (F.GNSS_ACQ_THR, 30)] ++ l)
    with gnss := g }
def chan (k : Nat) (t : Track) : Channel := { chain := k, sys := .gps, sat := 1, band2 := false, elev := 0, track := t }

theorem witness_GnssChannelsAndEpochs :
    (gns {} [(F.GNSS_CTRL_EN, 0)]).chainRuns 0 = false ∧ (gns {} [(F.GNSS_CTRL_CONST, 0)]).sysOn .gps = false ∧ (44 < (gns {} [(F.GNSS_CTRL_ELEV_MASK, 45)]).elevMask) ∧
    (let s := gns {} [(F.GNSS_CTRL_ELEV_MASK, 45)]
     s.chainRuns 0 = true ∧ s.chainRuns 1 = true ∧ s.sysOn .gps = true ∧ s.elevMask ≤ 45 ∧ 0 + 1 < 1 * min 20 (max 1 (s.f F.GNSS_ACQ_NC))) ∧
    (let s := gns { acq := some ⟨0, .gps, 1, 1, [], false⟩ } []
     1 * min 20 (max 1 (s.f F.GNSS_ACQ_NC)) ≤ 1 + 1 ∧ ([29] : List Nat).length < min 20 (max 1 (s.f F.GNSS_ACQ_NC))) ∧
    (let s := gns { acq := some ⟨0, .gps, 1, 1, [5], true⟩ } []
     1 * min 20 (max 1 (s.f F.GNSS_ACQ_NC)) ≤ 1 + 1 ∧ ((s.others 0 .gps 1 false).filter (·.chain = 0)).length < 128) ∧
    (let s := gns { acq := some ⟨0, .beidou, 1, 18, [], false⟩ } []
     s.sysOn .beidou = true ∧ 18 + 1 < 10 * min 20 (max 1 (s.f F.GNSS_ACQ_NC)) ∧ 10 * min 20 (max 1 (s.f F.GNSS_ACQ_NC)) ≤ 19 + 1) ∧
    (let s := gns { acq := some ⟨0, .gps, 1, 1, [], true⟩, channels := (List.range 128).map fun i => { chan 0 .locked with sat := i + 2 } } []
     128 ≤ ((s.others 0 .gps 1 false).filter (·.chain = 0)).length) ∧
    (let s := gns { channels := [chan 0 .locked] } []
     s.gnss.channels.find? (sameSignal 0 .gps 1 false) = some (chan 0 .locked) ∧ s.chainRuns 0 = true ∧ s.f F.GNSS_CTRL_B2_EN = 1 ∧
     GnssSys.gps ≠ .glonass ∧ (chan 0 .locked).track = .locked ∧ (chan 0 .locked).low = none ∧
     ((s.others 0 .gps 1 true).filter (·.chain = 0)).length < 128) ∧
    (let x := { chan 0 .locked with low := some 7 }
     let s := gns { channels := [x] } []
     let due := fun (s : State) => s.comesAt (s.cyclesTo 0 (7 + 200000 * usUnits))
     s.gnss.channels.find? (sameSignal 0 .gps 1 false) = some x ∧ x.track = .locked ∧ due (lastCycle s) = none ∧ (due s).isSome) ∧
    (let s := gns { channels := [chan 0 .searching], unlocked := [(0, 0)] } []
     let due := fun (s : State) (n : Nat) => s.comesAt (s.cyclesTo 0 (n * nsPerSec))
     s.gnss.channels.find? (sameSignal 0 .gps 1 false) = some (chan 0 .searching) ∧ (chan 0 .searching).track = .searching ∧
     due (lastCycle s) 2 = none ∧ ((due s 2).any fun u => u.gnss.untracked = []) ∧
     tget? s.gnss.unlocked 0 = some 0 ∧ s.chainRuns 0 = true ∧ due (lastCycle s) 10 = none ∧ (due s 10).isSome) ∧
    State.reset.gnss.channels.find? (sameSignal 0 .gps 1 false) = none ∧ tget? State.reset.gnss.unlocked 1 = none ∧
    (gns {} [(F.GNSS_STATUS_SLEEP, 1)]).gnssOn = false ∧ (gns {} []).gnssOn = true ∧ epoch0.c0.solved = false ∧
    ({ State.reset with variant := { State.reset.variant with gnss2 := false } } : State).variant.gnss2 = false ∧
    ([0, 6].filterMap (tget? State.reset.gnss.held) = []) ∧
    (let s : State := { gns { held := [(5, 0)] } [(F.GNSS_CHKCFG_CLEAR_S, 1)] with sys := { inReset := false } }
     let due := fun (s : State) => s.comesAt (s.cyclesTo 0 (0 + s.clearTime))
     [5].filterMap (tget? s.gnss.held) = [0] ∧ due (lastCycle s) = none ∧
     (due s).any fun u => tget? u.gnss.held 5 = some 0 ∧ 0 + u.clearTime ≤ (u.base 0).total) := by decide +kernel

def sleepy (g : GnssSt) (l : List (Fld × Nat)) : State := gns g ([(F.PAIR_STATUS_ROLE, 2), (F.PAIR_CTRL_MODE, 0), (F.GNSS_CTRL_SLEEP_EN, 1)] ++ l)
theorem witness_GnssStartsAndSleep :
    (st [(F.GNSS_CTRL_EN, 0)]).f F.GNSS_CTRL_EN = 0 ∧ (gns {} []).f F.GNSS_CTRL_EN = 1 ∧ (st [(F.GNSS_STATUS_SLEEP, 1)]).f F.GNSS_STATUS_SLEEP = 1 ∧
    State.reset.f F.GNSS_STATUS_SLEEP = 0 ∧
    (let s := st [(F.GNSS_STATUS_FIX0, 1), (F.GNSS_TTFF_TTFF, 0xFFFFFFFF)]; s.f F.GNSS_STATUS_FIX0 = 1 ∧ s.f F.GNSS_TTFF_TTFF = 0xFFFFFFFF) ∧
    State.reset.f F.GNSS_STATUS_FIX0 = 0 ∧ (st [(F.GNSS_TTFF_TTFF, 0xFFFFFFFE)]).f F.GNSS_TTFF_TTFF ≠ 0xFFFFFFFF ∧ State.reset.sleepRole = false ∧
    (let s := sleepy {} [(F.TICK_PHASE_PHASE, 5)]; s.sleepRole = true ∧ s.gnss.woken = false ∧ s.f F.GNSS_STATUS_SLEEP = 0 ∧ s.f F.TICK_PHASE_PHASE = 5) ∧
    (sleepy {} [(F.TICK_PHASE_PHASE, 4)]).f F.TICK_PHASE_PHASE ≠ 5 ∧
    (let s := sleepy { woken := true } []; s.sleepRole = true ∧ s.gnss.woken = true ∧ s.refreshed = true ∧ s.f F.GNSS_TTFF_TTFF ≠ 0xFFFFFFFF) ∧
    (let s := sleepy { woken := true } [(F.GNSS_TTFF_TTFF, 0xFFFFFFFF)]
     s.sleepRole = true ∧ s.gnss.woken = true ∧ s.f F.GNSS_TTFF_TTFF = 0xFFFFFFFF) ∧
    (let s := sleepy {} [(F.GNSS_STATUS_SLEEP, 1)]
     let due := fun (s : State) => s.comesAt (s.cyclesTo 0 (s.gnss.sleepAt + s.wakePeriod * nsPerSec))
     s.sleepRole = true ∧ s.f F.GNSS_STATUS_SLEEP = 1 ∧ due (lastCycle s) = none ∧ (due s).isSome) := by decide +kernel

/-- Out of reset. -/
def out (l : List (Fld × Nat)) : State := { st l with sys := { inReset := false } }
theorem witness_PowerResetAndJtag :
    (let due := fun (s : State) (t : Nat) => s.comesAt (s.cyclesTo 0 (t + msUnits))
     (out []).sys.inReset = false ∧ due (lastCycle (out [])) 0 = none ∧ (due (out []) (out []).sys.releasedAt).isSome ∧
     (due (out []) (out []).sys.holdAt).isSome ∧ (due (out []) (out []).sys.tjAt).isSome) ∧
    State.reset.sys.inReset = true ∧ ((out []).sys.inReset = false ∧ (out []).f F.REC_STATUS_AFTERGLOW = 0 ∧ (out []).tick.running = false) ∧
    (out [(F.REC_STATUS_AFTERGLOW, 1)]).f F.REC_STATUS_AFTERGLOW = 1 ∧
    (let s : State := { out [(F.REC_STATUS_AFTERGLOW, 1)] with recorder := { closed := true } }
     s.f F.REC_STATUS_AFTERGLOW = 1 ∧ s.recorder.closed = true ∧ s.f F.LAN_STATUS_STATE ≠ 4) ∧
    (State.reset.f F.REC_STATUS_AFTERGLOW = 0 ∨ State.reset.recorder.closed = false ∨ State.reset.f F.LAN_STATUS_STATE = 4) ∧
    (1200 : Half).toInt ≤ 1200 ∧ 1200 < (1201 : Half).toInt ∧ (State.reset.mode = .stop ∧ State.reset.f F.PAIR_STATUS_CLAIM = 0) ∧
    ((st [(F.PRG_MODE_MODE, 1)]).mode ≠ .stop ∨ (st [(F.PRG_MODE_MODE, 1)]).f F.PAIR_STATUS_CLAIM = 1) ∧
    (st [(F.PAIR_STATUS_CLAIM, 1)]).f F.PAIR_STATUS_CLAIM = 1 := by decide +kernel

def lan (x : LanSt) (l : List (Fld × Nat)) : State := { st ((F.LAN_GEOM_HEIGHT, 4) :: l) with lan := x }
def pass (lo hi cur : Nat) (line : Option Nat) : Pass := { region := ⟨lo, hi, false, true⟩, cursor := cur, line := line }
/-- The shutdown sequence with k rows passed. -/
def shutting (k : Nat) : State := lan { shutStep := k } [(F.LAN_STATUS_STATE, 4)]
def lanDue (s : State) (us : Nat) : Option State := s.comesAt (s.cyclesTo 0 (s.lan.since + us * usUnits))
/-- The state at the next whole second at which the panel's temperature is taken. -/
def secDue (s : State) : Option State :=
  s.comesAt (s.cyclesTo 0 (max (s.lan.tempAt + 1) (((s.base 0).total + nsPerSec - 1) / nsPerSec) * nsPerSec))
theorem witness_TheLanternPanel :
    ({ State.reset with variant := { State.reset.variant with panelP := false } } : State).variant.panelP = false ∧ State.reset.variant.panelP = true ∧
    State.reset.f F.LAN_CTRL_EN = 0 ∧
    (let s := st [(F.LAN_CTRL_EN, 1), (F.LAN_STATUS_STATE, 3)]; s.f F.LAN_CTRL_EN = 1 ∧ s.f F.LAN_STATUS_STATE ≠ 0 ∧ s.f F.LAN_STATUS_STATE ≠ 4) ∧
    State.reset.f F.LAN_STATUS_STATE ≠ 1 ∧ State.reset.f F.LAN_STATUS_STATE ≠ 2 ∧
    (let s := st [(F.LAN_STATUS_STATE, 1), (F.LAN_ZONE_EN 3, 1)]
     s.f F.LAN_STATUS_STATE = 1 ∧ lanDue (lastCycle s) 1000 = none ∧ (lanDue s (1000 * max 1 (s.f F.LAN_CTRL_RAIL_MS))).any fun u => u.zoneOn 3 = true) ∧
    (let s := st [(F.LAN_STATUS_STATE, 2)]
     s.f F.LAN_STATUS_STATE = 2 ∧ lanDue (lastCycle s) 1800 = none ∧
     (lanDue s (1000 * max 1 (s.f F.LAN_CTRL_RAIL_MS) + 800)).any fun u => u.lan.active = none ∧ u.lan.queue = []) ∧
    ([(0, 10), (1, 810), (2, 860), (3, 2000)].all fun x => decide ((shutting x.1).f F.LAN_STATUS_STATE = 4 ∧ (shutting x.1).lan.shutStep = x.1 ∧
      lanDue (lastCycle (shutting x.1)) x.2 = none ∧ (lanDue (shutting x.1) x.2).isSome)) := by decide +kernel
theorem witness_TheLanternPanel_lines :
    (State.reset.f F.LAN_STATUS_STATE ≠ 4 ∨ State.reset.lan.shutStep ≠ 3) ∧ State.reset.f F.LAN_STATUS_STATE ≠ 3 ∧
    (let s := lan {} [(F.LAN_STATUS_STATE, 3)]
     s.f F.LAN_STATUS_STATE = 3 ∧ bitsOf (0 : Word) 9 0 = 0 ∧ s.lanH ≤ bitsOf (0x00040001 : Word) 25 16 ∧ bitsOf (0x40030001 : Word) 9 0 ≠ 0 ∧
     bitsOf (0x40030001 : Word) 25 16 < s.lanH ∧ s.lan.active = none ∧ s.lan.queue = [] ∧ decide (bitsOf (0x40030001 : Word) 30 30 = 1) = true) ∧
    (let s := lan { active := some (pass 0 2 1 (some 0)) } [(F.LAN_STATUS_STATE, 3), (F.LAN_DIRTY_DIRTY 0, 2)]
     s.lan.active = some (pass 0 2 1 (some 0)) ∧ (pass 0 2 1 (some 0)).region.hi < bitsOf (0x00030001 : Word) 25 16 ∧
     (pass 0 2 1 (some 0)).region.lo ≤ min (s.lanH - 1) (2 + 2 - 1) ∧ bitsOf (0x00020002 : Word) 25 16 ≤ (pass 0 2 1 (some 0)).region.hi ∧
     (pass 0 2 1 (some 0)).cursor ≤ bitsOf (0x00020002 : Word) 25 16 ∧ (pass 0 2 1 (some 0)).rewrite = none ∧
     (s.comesAt (s.cyclesTo 0 (pass 0 2 1 (some 0)).endAt)).any fun u => u.nextLine { pass 0 2 1 (some 0) with line := none } = some 1) ∧
    (let p := { pass 0 2 3 (some 2) with endAt := 10 ^ 15 }
     let s := lan { active := some p } []
     let due := fun (s : State) => s.comesAt (s.cyclesTo 0 p.endAt)
     s.lan.active = some p ∧ p.line.isSome = true ∧ p.rewrite = none ∧ due (lastCycle s) = none ∧
     (due s).any fun u => u.lan.queue = [] ∧ u.nextLine { p with line := none } = none) ∧
    (pass 0 2 3 none).line = none ∧
    (lpddrBase ≤ (0x1FFFFFFFF : Addr).toNat ∧ (0x1FFFFFFFF : Addr).toNat + ([7] : List Byte).length ≤ 0x200000000) ∧
    (let s := st [(F.LAN_GEOM_HEIGHT, 960)]; s.fbLine (s.fbBase + 959 * s.lanStride) = some 959) ∧
    (let s := lan { active := some { pass 0 2 2 none with waiting := true } } [(F.LAN_STATUS_STATE, 3), (F.LAN_ZONE_EN 3, 1)]
     let due := fun (s : State) (n : Nat) => s.comesAt (s.cyclesTo 0 n)
     s.zoneOn 3 = true ∧ s.f F.LAN_STATUS_STATE = 3 ∧ s.zoneOf 2 = 3 ∧ (due s (tget 0 s.lan.toggleAt 3)).isSome ∧
     (lan { toggleAt := [(3, 10 ^ 15)] } [(F.LAN_STATUS_STATE, 3), (F.LAN_ZONE_EN 3, 1)]).zoneOn 3 = true ∧
     due (lastCycle (lan { toggleAt := [(3, 10 ^ 15)] } [(F.LAN_STATUS_STATE, 3), (F.LAN_ZONE_EN 3, 1)])) (10 ^ 15) = none ∧ ¬ s.zoneOf 2 = 2) ∧
    State.reset.zoneOn 1 = false ∧ (State.reset.f F.LAN_STATUS_STATE ≠ 2 ∧ State.reset.f F.LAN_STATUS_STATE ≠ 3) ∧
    (State.reset.variant.panelP = true ∧ State.reset.panelTemp.1 = false ∧ State.reset.f F.LAN_STATUS_STATE ≠ 3 ∧ (secDue State.reset).isSome ∧
      secDue (lastCycle State.reset) = none) ∧
    (let s := st [(F.LAN_STATUS_STATE, 3), (F.LAN_CRACK_LIMIT, 0xFFFE), (F.LAN_CTRL_CRACK_STOP, 1)]
     (secDue s).any fun u => u.f F.LAN_STATUS_STATE = 3 ∧ u.f F.LAN_CRACK_LIMIT < (0xFFFF : Half).toNat ∧ u.f F.LAN_STATUS_CRACK = 0 ∧
       u.f F.LAN_CTRL_CRACK_STOP = 1) := by
  decide +kernel

/-! ## CAN, network, Grezhasel -/

/-- Controller 0 on, a filter for identifier 1 into mailbox 31. -/
def can0 (x : CanSt) (l : List (Fld × Nat)) : State :=
  { st ([(F.CAN_CTRL_EN 0, 1), (F.CAN_FID_EN 0 127, 1), (F.CAN_FID_ID 0 127, 1), (F.CAN_FMSK_MASK 0 127, 0x7FF), (F.CAN_FACT_ACTION 0 127, 1),
      (F.CAN_FACT_MB 0 127, 31)] ++ l) with can := [(0, x)] }
theorem witness_CanReceptionAndErrors :
    (State.reset.canOn 0 = false ∧ (can0 {} [(F.CAN_CTRL_MODE 0, 2)]).f (F.CAN_CTRL_MODE ((can0 {} [(F.CAN_CTRL_MODE 0, 2)]).canReg 0)) = 2) ∧
    (let s := can0 { joinAt := 1 } []; ¬ ((s.canSt 0).joinAt = 0 ∨ (s.canSt 0).joinAt + s.frameLeast (s.canReg 0) frame0 ≤ (s.base 0).total)) ∧
    (let s := can0 {} [(F.CAN_ERR_TEC 0, 255), (F.CAN_CTRL_FD_EN 0, 0)]
     (s.canSt 0).joinAt = 0 ∧ s.canOn 0 = true ∧ s.f (F.CAN_CTRL_MODE (s.canReg 0)) ≠ 2 ∧ ({ frame0 with fdf := true }).fdf = true ∧ s.f (F.CAN_CTRL_FD_EN (s.canReg 0)) = 0 ∧
     s.f (F.CAN_ERR_TEC 0) ≤ 255) ∧
    (let s := can0 {} [(F.CAN_ERR_REC 0, 127)]
     s.f (F.CAN_CTRL_DUP (s.canReg 0)) = 0 ∧ s.f (F.CAN_ERR_REC 0) ≤ 127 ∧ s.canFilter (s.canReg 0) frame0 = some (127, 1, 31) ∧
     s.canRam (s.canReg 0) + 0x2000 ≤ ctxBase ∧ s.canFilter (s.canReg 0) { frame0 with ident := 2 } = none ∧
     (frame0.fdf = true → s.f (F.CAN_CTRL_FD_EN (s.canReg 0)) = 1)) ∧
    ((can0 {} [(F.CAN_CTRL_ACC_DEF 0, 0)]).f (F.CAN_CTRL_ACC_DEF 0) = 0) ∧
    (let s := can0 {} [(F.CAN_CTRL_ACC_DEF 0, 1), (F.CAN_FIFO_COUNT 0, 31)]; s.f (F.CAN_CTRL_ACC_DEF 0) = 1 ∧ s.f (F.CAN_FIFO_COUNT 0) < 32) ∧
    (let s := can0 {} [(F.CAN_CTRL_ACC_DEF 0, 1), (F.CAN_FIFO_COUNT 0, 32)]; s.f (F.CAN_CTRL_ACC_DEF 0) = 1 ∧ 32 ≤ s.f (F.CAN_FIFO_COUNT 0)) ∧
    (let s := can0 {} [(F.CAN_STATUS_STATE 0, 2), (F.CAN_CTRL_BOFF_AUTO 0, 1)]; s.f (F.CAN_STATUS_STATE 0) = 2 ∧ s.f (F.CAN_CTRL_BOFF_AUTO 0) = 1) ∧
    (let s := can0 { recovering := true } [(F.CAN_STATUS_STATE 0, 2)]; s.f (F.CAN_STATUS_STATE 0) = 2 ∧ (s.canSt 0).recovering = true) ∧
    (let s := can0 {} [(F.CAN_STATUS_STATE 0, 2), (F.CAN_CTRL_BOFF_AUTO 0, 0)]
     s.f (F.CAN_CTRL_BOFF_AUTO 0) = 0 ∧ (s.canSt 0).recovering = false ∧ s.f (F.CAN_CTRL_EN 0) = 1 ∧ s.f (F.CAN_STATUS_STATE 0) = 2 ∧
     bitsOf (0x02000000 : Word) 24 24 = 0 ∧ s.f (F.CAN_STATUS_STATE 0) ≠ 3 ∧ (s.canSt 0).launched = [] ∧ (s.canSt 0).sent = [] ∧
     bitsOf (0 : Word) 27 27 = 0) ∧
    (let s := can0 { launched := [(31, .slot)] } []
     s.f (F.CAN_CTRL_EN 0) = 1 ∧ s.f (F.CAN_STATUS_STATE 0) ≠ 3 ∧ (s.canSt 0).launched ≠ []) ∧
    (State.reset.f (F.CAN_STATUS_STATE 7) ≠ 3 ∧ State.reset.f (F.CAN_STATUS_STATE 7) ≠ 2) ∧
    (let s := can0 {} [(F.CAN_STATUS_STATE 0, 3), (F.CAN_WAKE_FILT 0, 2)]
     s.f (F.CAN_STATUS_STATE 0) = 3 ∧ s.f (F.CAN_WAKE_WMODE 0) ≠ 1 ∧ max 1 (s.f (F.CAN_WAKE_FILT 0)) ≤ 2 ∧ ¬ max 1 (s.f (F.CAN_WAKE_FILT 0)) ≤ 1) ∧
    (let s := can0 {} [(F.CAN_STATUS_STATE 0, 3), (F.CAN_WAKE_WMODE 0, 1), (F.CAN_NBT_NBRP 0, 79), (F.CAN_WAKE_DLC 0, 2), (F.CAN_WAKE_ID_ID 0, 1),
      (F.CAN_WAKE_IDM_ID 0, 0x7FF)]
     s.f (F.CAN_WAKE_WMODE 0) = 1 ∧ 160 ≤ s.nomBit (s.canReg 0) ∧ s.isWakeFrame 0 frame0 = true ∧ s.isWakeFrame 0 { frame0 with ident := 2 } = false) := by
  decide +kernel

/-- Controller 0 in a schedule: window 63 exclusive in every cycle, of buffer 31. -/
def sched0 (x : CanSt) (l : List (Fld × Nat)) : State :=
  can0 x ([(F.CAN_TT_ROLE 0, 1), (F.CAN_WENT_EN 0 63, 1), (F.CAN_WENT_KIND_SEL 0 63, 1), (F.CAN_WENT_KIND_OTH 0 63, 1), (F.CAN_WENT_BUF 0 63, 31),
    (F.CAN_TXCFG_EN 0 31, 1), (F.CAN_TXPEND_PEND 0, 0x80000000)] ++ l)
theorem witness_CanTransmissionAndSchedule :
    (let s := can0 {} [(F.CAN_TXCFG_EN 0 31, 1)]
     s.bit (R.CAN_TXPEND 0) 31 = false ∧ (0x80000000 : Word).getLsbD 31 = true ∧ bitsOf (s.txcfg 0 31) 31 31 = 1 ∧ bitsOf (s.txcfg 0 31) 12 12 = 0) ∧
    (0 : Word).getLsbD 31 = false ∧ bitsOf (State.reset.txcfg 0 31) 31 31 = 0 ∧
    (let s := can0 { waiting := [(31, 2 ^ 60)] } []
     tget? (s.canSt 0).waiting 31 = some (2 ^ 60) ∧ (lastCycle s).comesAt ((lastCycle s).cyclesToLaunch 2 (2 ^ 60)) = none ∧
     (s.comesAt (s.cyclesToLaunch 2 (2 ^ 60))).isSome) ∧
    (let s := can0 { launched := [(31, .slot)] } []; (s.buses 0).any (fun j => (tget? (s.canSt j).launched 31).isSome) = true ∧
     (s.buses 0).any (fun j => (tget? (s.canSt j).launched 30).isSome) = false) ∧
    (State.reset.f (F.CAN_CTRL_EN 0) = 0 ∧ (can0 {} [(F.CAN_TT_ROLE 0, 0)]).canRole 0 = 0 ∧ (sched0 {} []).winOn 0 62 = false ∧
      (sched0 {} []).canSynced 0 = false) ∧
    (let s := sched0 { master := true } [(F.CAN_TTCYC_CYCLE_LEN 0, 10000)]
     s.f (F.CAN_CTRL_EN 0) = 1 ∧ s.canRole 0 ≠ 0 ∧ s.winOn 0 63 = true ∧ s.canSynced 0 = true ∧ s.f (F.CAN_CTRL_DUP 0) = 0 ∧
     s.comesAt (s.cyclesTo 0 ((s.canSt 0).cycleAt + s.winStart 0 63 * usUnits)) = some s ∧ (s.canSt 0).sent = [] ∧
     s.winKind 0 63 = 1 ∧ s.exclusiveKind 0 (s.winBuf 0 63) = some .slot ∧ s.canOn 0 = true ∧
     s.fdAllowed 0 (leBytes ((s.txFrame 0 31 .slot).take 4)) (leBytes (((s.txFrame 0 31 .slot).drop 4).take 4)) = true ∧
     s.fitsWindow 0 63 (s.frameLen 0 (s.txFrame 0 31 .slot)) = true) ∧
    (let s := lastCycle (sched0 { master := true, cycleAt := 2 ^ 60 } [])
     s.winOn 0 63 = true ∧ s.canSynced 0 = true ∧ s.comesAt (s.cyclesTo 0 ((s.canSt 0).cycleAt + s.winStart 0 63 * usUnits)) = none) ∧
    (let s := sched0 { master := true } [(F.CAN_TTCYC_CYCLE_LEN 0, 0)]; s.fitsWindow 0 63 (s.frameLen 0 (s.txFrame 0 31 .slot)) = false) ∧
    (let s := sched0 { master := true } [(F.CAN_WENT_KIND_SEL 0 63, 0), (F.CAN_WENT_KIND_OTH 0 63, 0)]; s.winKind 0 63 ≠ 1) := by decide +kernel
theorem witness_CanTransmissionAndSchedule_ends :
    State.reset.txRuns 0 31 = none ∧
    (let s := can0 { launched := [(31, .slot)] } [(F.CAN_ERR_TEC 0, 255), (F.CAN_TXPEND_PEND 0, 0x80000000)]
     s.txRuns 0 31 = some .slot ∧ (s.canSt 0).sleepDue = false ∧ s.cancelled 0 31 .slot = false ∧ (s.canSt 0).sent = [] ∧ s.f (F.CAN_CTRL_DUP 0) = 0 ∧ s.f (F.CAN_CTRL_MODE (s.canReg 0)) ≠ 2 ∧ s.f (F.CAN_ERR_TEC 0) ≤ 255 ∧ s.txSlot (s.canReg 0) 0 + 0xA00 ≤ ctxBase ∧
     0 = s.canReg 0 ∧ s.canCommand (s.canReg 0) 31 = false ∧ ¬(s.f (F.CAN_STATUS_STATE 0) = 1 ∧ 2 = 3) ∧ s.f (F.CAN_STATUS_STATE 0) ≠ 2 ∧
     255 < s.f (F.CAN_ERR_TEC 0) + 8) ∧
    (let s := can0 { launched := [(31, .slot)], attempts := [(31, 15)] } [(F.CAN_ERR_TEC 0, 247), (F.CAN_TXCFG_RETRY 0 31, 15), (F.CAN_TXPEND_PEND 0, 0x80000000)]
     s.cancelled 0 31 .slot = false ∧ s.f (F.CAN_ERR_TEC 0) + 8 ≤ 255 ∧ bitsOf (s.txcfg (s.canReg 0) 31) 22 19 ≤ tget 0 (s.canSt 0).attempts 31) ∧
    (let s := can0 { attempts := [(31, 14)] } [(F.CAN_TXCFG_EN 0 31, 1), (F.CAN_TXCFG_RETRY 0 31, 15), (F.CAN_TXPEND_PEND 0, 0x80000000)]
     s.txRuns 0 31 = some .slot ∧ tget 0 (s.canSt 0).attempts 31 < bitsOf (s.txcfg (s.canReg 0) 31) 22 19 ∧ tget? (s.canSt 0).launchEnd 31 = none ∧
     s.cancelled 0 31 .slot = false ∧ s.f (F.CAN_ERR_TEC 0) + 8 ≤ 255) ∧
    (State.reset.f (F.CAN_TT_ROLE 0) = 0 ∧ (let s := can0 {} [(F.CAN_TT_ROLE 0, 3)]; s.f (F.CAN_TT_ROLE 0) = 3 ∧ s.owns = false) ∧
      (can0 {} [(F.CAN_TT_ROLE 0, 2)]).f (F.CAN_TT_ROLE 0) = 2) ∧
    (let s := can0 {} [(F.CAN_TT_ROLE 0, 1), (F.CAN_TT_TICKLOCK 0, 1)]
     s.mastersNow 0 = true ∧ s.f (F.CAN_TT_TICKLOCK 0) = 1 ∧ (s.comesAt (s.cyclesToStart 0)).isSome) ∧
    (let s := lastCycle (can0 { busNext := 2 ^ 60 } [(F.CAN_TT_ROLE 0, 1)]); s.mastersNow 0 = true ∧ s.comesAt (s.cyclesToStart 0) = none) ∧
    (State.reset.mastersNow 0 = false ∧ (State.reset.canSt 0).master = false) ∧
    (let s := can0 { master := true } [(F.CAN_TT_ROLE 0, 0)]; s.mastersNow 0 = false ∧ (s.canSt 0).master = true) ∧
    (let s := can0 { busNext := 2 ^ 60 } [(F.CAN_TTSTAT_SYNC 0, 1)]
     let due := fun (s : State) => s.comesAt (s.cyclesTo 8 ((s.canSt 0).busNext + s.cycleLen 0 * 3 / 2))
     (s.canSt 0).master = false ∧ s.f (F.CAN_TTSTAT_SYNC 0) = 1 ∧ due (lastCycle s) = none ∧ (due s).isSome) ∧
    (let s := can0 {} [(F.CAN_TT_ROLE 0, 3), (F.PAIR_STATUS_CLAIM, 1), (F.PAIR_STATUS_ECL_IN, 0)]; s.f (F.CAN_TT_ROLE 0) = 3 ∧ s.owns = true) ∧
    (let s := can0 {} [(F.CAN_TT_ROLE 0, 2)]; s.canOn 0 = true ∧ s.f (F.CAN_TT_ROLE 0) = 2 ∧ (1 : StdId).toNat = bitsOf (s.eff (R.CAN_TT 0)) 25 15 ∧
      (0 : StdId).toNat ≠ bitsOf (s.eff (R.CAN_TT 0)) 25 15) ∧
    (State.reset.canSt 0).master = false ∧ ((can0 { master := true } []).canSt 0).master = true := by decide +kernel

/-- Pair 0 on with every service. -/
def pair0 (l : List (Fld × Nat)) : State := st ([(F.NET_PRP_EN 0, 1), (F.NET_PRP_USE 0, 15), (F.NET_PRP_GUARD 0, 0)] ++ l)
def rings (p : Nat) (x : RingSt) (s : State) : State := { s with net := { s.net with rings := [(p, x)] } }
/-- Sentence format 0 of the active bank takes any talker's GGA and no field. -/
def withGga (s : State) : State := (s.wr 0x540 4 0x2000).wrBytes 0x2000 [0x2D, 0x2D, 0x47, 0x47, 0x41, 0, 0, 0]
def gga : List Byte := [0x24, 0x47, 0x50, 0x47, 0x47, 0x41, 0x0D, 0x0A]
def zda : List Byte := [0x24, 0x47, 0x50, 0x5A, 0x44, 0x41, 0x0D, 0x0A]
theorem witness_EthernetSerialAndPcie :
    State.reset.f (F.NET_PRP_EN 1) = 0 ∧ (pair0 []).f (F.NET_PRP_EN 0) = 1 ∧ ({ eth0 with fcsOk := false }).fcsOk = false ∧
    (let s : State := { pair0 [] with net := { seen := [((0, 2, 0xFFFF), 0)] } }
     ({ eth0 with seq := some 0xFFFF } : EthFrame).seq = some (0xFFFF : Half) ∧
     s.net.seen.find? (·.1 = (1 / 2, eth0.src.toNat, (0xFFFF : Half).toNat)) = some ((0, 2, 0xFFFF), 0) ∧ (s.base 0).total < 0 + 400 * msUnits ∧
     (lastCycle s).comesAt ((lastCycle s).cyclesTo 0 (0 + 400 * msUnits)) = none ∧ (s.comesAt (s.cyclesTo 0 (0 + 400 * msUnits))).isSome ∧
     s.net.seen.find? (·.1 = (0, 2, 0xFFFE)) = none) ∧
    (let s : State := { State.reset with net := { heardAt := [(3, 0)] } }
     let due := fun (s : State) => s.comesAt (s.cyclesTo 0 (s.silentAt 3))
     s.dark = false ∧ (s.reg R.NET_STATUS).getLsbD 3 = false ∧ due (lastCycle s) = none ∧ (due s).isSome) ∧
    (State.reset.pairOn 0 = false ∧ (pair0 []).pairOn 0 = true ∧ tget? (pair0 []).net.supAt 0 = none ∧ (pair0 []).f (F.NET_PRP_GUARD 0) = 0 ∧
      (let s : State := { pair0 [] with net := { supAt := [(0, 0)] } }
       (lastCycle s).comesAt ((lastCycle s).cyclesTo 0 (0 + 2 * nsPerSec)) = none ∧ (s.comesAt (s.cyclesTo 0 (0 + 2 * nsPerSec))).isSome) ∧
      (let s : State := { pair0 [(F.NET_PRP_GUARD 0, 1)] with grz := { burst := true } }; s.guarded 0 90 = true)) ∧
    (eth0.fcsOk = true ∧ ({ eth0 with bytes := List.replicate 1518 0 }).bytes.length ≤ 1518 ∧ eth0.seq = none ∧ eth0.body = .other) ∧
    64 ≤ ((rings 0 { filled := 64 } (pair0 [])).ring 0).filled ∧ ((rings 0 { filled := 63 } (pair0 [])).ring 0).filled < 64 := by decide +kernel
theorem witness_EthernetSerialAndPcie_rings :
    (let s := pair0 [(F.NET_TXHT_HW 0, 63), (F.NET_TXHT_SW 0, 63)]
     s.f (F.NET_TXHT_SW 0) = s.f (F.NET_TXHT_HW 0) ∧ bitsOf (0 : Word) 13 8 = (s.f (F.NET_TXHT_HW 0) + 1) % 64 ∧
     s.rd (descAt (s.f (F.NET_TXBASE_BASE 0)) 63 + 2) 1 % 2 = 0 ∧ s.f (F.NET_PRP_GUARD 0) = 0 ∧ (s.ring 0).sending = false ∧
     63 ∉ (s.ring 0).refused ∧ tget? (s.ring 0).launch 63 = none) ∧
    (let s := rings 0 { launch := [(63, 9)] } (pair0 [(F.NET_TXHT_HW 0, 63)])
     tget? (s.ring 0).launch (s.f (F.NET_TXHT_HW 0)) = some 9 ∧ (s.comesAt (s.cyclesToLaunch 1 9)).isSome ∧ s.pairOn 0 = true ∧ s.f (F.NET_TXHT_HW 0) ≠ s.f (F.NET_TXHT_SW 0) ∧ s.f (F.NET_PRP_GUARD 0) = 0 ∧
     (s.ring 0).sending = false ∧ s.f (F.NET_TXHT_HW 0) ∉ (s.ring 0).refused) ∧
    (let s := rings 0 { sending := true } (pair0 [(F.NET_TXHT_HW 0, 63)])
     (s.ring 0).sending = true ∧ (s.comesAt (s.cyclesTo 0 (s.ring 0).endAt)).isSome ∧ (s.f (F.NET_TXHT_HW 0) + 1) % 64 = s.f (F.NET_TXHT_SW 0)) ∧
    (let s := lastCycle (rings 0 { launch := [(63, 2 ^ 60)], sending := true, endAt := 2 ^ 60 } (pair0 [(F.NET_TXHT_HW 0, 63)]))
     tget? (s.ring 0).launch (s.f (F.NET_TXHT_HW 0)) = some (2 ^ 60) ∧ (s.ring 0).sending = true ∧
     s.comesAt (s.cyclesToLaunch 1 (2 ^ 60)) = none ∧ s.comesAt (s.cyclesTo 0 (s.ring 0).endAt) = none) := by decide +kernel
/-- The end of the first tick after reset. -/
def tickEnd0 : Option State := State.reset.comesAt (500 * State.reset.periodUs - State.reset.tick.cycles)
theorem witness_EthernetSerialAndPcie_sentences :
    (st [(F.REC_STATUS_AFTERGLOW, 1)]).dark = true ∧ State.reset.dark = false ∧ State.reset.pairOf 0 = none ∧ (pair0 []).pairOf 0 ≠ none ∧ gram0.tagOk = true ∧ (pair0 []).listenFor gram0 = none ∧
    ({ gram0 with tagOk := false }).tagOk = false ∧
    (let s := withGga (pair0 [(F.NET_450GRP_EN 31, 1), (F.NET_450GRP_GROUP 31, 1), (F.NET_450SFI_TALKER 31, 0x2D2D)])
     let d := { gram0 with sentences := [gga] }
     s.pairOf 0 ≠ none ∧ d.tagOk = true ∧ s.listenFor d = some 31 ∧ d.sentences = [gga] ∧ scanLine (gga.map some) none = ([gga.take 6], 0) ∧
     s.sortSentence (gga.take 6) = .accepted 0 [0x47, 0x50, 0x47, 0x47, 0x41] ∧ s.listenArea 31 + 0x400 ≤ ctxBase) ∧
    (State.reset.serExists 27 = false ∧ State.reset.f (F.NET_SERCFG_EN 15) = 0) ∧
    (let s := withGga (st [(F.NET_SERCFG_EN 15, 1)])
     s.serExists 15 = true ∧ s.f (F.NET_SERCFG_EN 15) = 1 ∧ s.sortSentence (gga.take 6) = .accepted 0 [0x47, 0x50, 0x47, 0x47, 0x41] ∧
     s.serArea 15 + 0x1000 ≤ ctxBase ∧ scanLine (zda.map some) none = ([zda.take 6], 0) ∧ s.sortSentence (zda.take 6) = .unmatched ∧
     s.sortSentence (gga.take 6 ++ [0x2A, 0x30, 0x30]) = .badSum) ∧
    tickEnd0.isSome ∧
    (let s := st [(F.NET_450GRP_TIMEOUT 31, 1)]; s.f (F.NET_450GRP_TIMEOUT 31) ≠ 0 ∧ s.silentFor (pointKey 2 31) (s.f (F.NET_450GRP_TIMEOUT 31)) = true) ∧
    (let s := st [(F.NET_SERCFG_TIMEOUT 15, 1)]; s.f (F.NET_SERCFG_TIMEOUT 15) ≠ 0 ∧ s.silentFor (pointKey 3 15) (s.f (F.NET_SERCFG_TIMEOUT 15)) = true) ∧
    (st [(F.NET_SERCFG_TIMEOUT 15, 0)]).f (F.NET_SERCFG_TIMEOUT 15) = 0 := by decide +kernel

/-- Grezhasel on pair 0 with entry 2,047 for station 1: two input bytes. -/
def grz (x : GrzSt) (l : List (Fld × Nat)) : State :=
  { pair0 ([(F.GRZ_CTRL_EN, 1), (F.GRZ_SADR_EN 2047, 1), (F.GRZ_SADR_ADDR 2047, 1), (F.GRZ_SPI_LEN 2047, 2)] ++ l) with grz := x }
/-- A host request: `HT`-magic, sequence number 7, operation, count 1, address and data. -/
def hostReq (op : Byte) (a : List Byte) (d : List Byte) : List Byte := [0x54, 0x48, 7, 0, op, 1, 0, 0] ++ a ++ d
def grz2 : GrzFrame := { grz0 with data := [1, 2] }
/-- The tick's last cycle is over. -/
def lastTick (s : State) : State := { s with tick := { running := true, cycles := 5000000 } }
def todo : GrzTodo := { entry := 2047, data := none, sub := false }
theorem witness_GrezhaselAndHostService :
    State.reset.grzOn = false ∧ (grz {} []).grzOn = true ∧ ({ grz0 with tick := 1 }).tick.toNat ≠ (grz {} []).tickNo ∧
    (grz0.tick.toNat = (grz {} []).tickNo ∧ (grz {} []).grzEntry 2 = none ∧ (grz {} []).grzEntry grz2.addr.toNat = some 2047 ∧
      grz0.data.length ≠ (grz {} []).f (F.GRZ_SPI_LEN 2047) ∧ grz2.data.length = (grz {} []).f (F.GRZ_SPI_LEN 2047) ∧ grz2.crcOk = true ∧
      ({ grz2 with crcOk := false }).crcOk = false ∧ tget? (grz {} []).grz.shadow 2047 = none ∧
      tget? (grz { shadow := [(2047, [3, 4])] } []).grz.shadow 2047 = some [3, 4]) ∧
    500 * (lastTick (grz {} [])).periodUs ≤ (lastTick (grz {} [])).tick.cycles ∧ (grz {} []).tick.cycles < 500 * (grz {} []).periodUs ∧
    (let s : State := lastCycle { grz { burst := true, late := [1] } [] with net := { busyTo := [(0, 2 ^ 60)] } }
     s.grz.burst = true ∧ b2n true ∈ s.grz.late ∧ s.comesAt (s.cyclesTo 0 (s.wireFree s.grzPair)) = none) ∧
    (State.reset.grz.burst = false ∧ (grz { burst := true, late := [0] } []).grz.late ≠ [] ∧ b2n true ∉ (grz { burst := true, late := [0] } []).grz.late) ∧
    (let s := grz { burst := true, late := [0, 1], todo := [todo] } [(F.GRZ_CTRL_OWNER_ONLY, 0)]
     s.grz.burst = true ∧ b2n true ∈ s.grz.late ∧ s.grz.late.length = 2 ∧ s.grz.todo = todo :: [] ∧ s.grzAllowed 2047 = true ∧
     (s.comesAt (s.cyclesTo 0 (s.wireFree s.grzPair))).isSome) ∧
    (let s := grz { burst := true, late := [1] } []; b2n true ∈ s.grz.late ∧ s.grz.late.length ≠ 2) ∧
    (let s := grz { burst := true, todo := [todo] } [(F.GRZ_SADR_CMD 2047, 1)]
     s.grz.burst = true ∧ s.grz.late = [] ∧ (s.comesAt (s.grz.startAt.foldl (fun m e => max m e.2) 0 + s.grz.len - s.tick.cycles)).isSome ∧
     (let u := lastCycle { s with grz := { s.grz with len := 5000001 } }
      u.grz.late = [] ∧ u.comesAt (u.grz.startAt.foldl (fun m e => max m e.2) 0 + u.grz.len - u.tick.cycles) = none) ∧ (∀ x ∈ s.grz.todo, s.grzAllowed x.entry = false ∧ x.entry ∉ s.grz.launched)) := by decide +kernel
theorem witness_GrezhaselAndHostService_requests :
    (1440 < ({ grz0 with data := List.replicate 1441 0 }).data.length ∧ ({ grz0 with data := List.replicate 1440 0 }).data.length ≤ 1440) ∧
    bitsOf ((grz {} [(F.GRZ_SVCREQ_REQ, 255)]).reg R.GRZ_SVCREQ) 7 0 = 255 ∧
    (let s := grz {} [(F.GRZ_SVCREQ_REQ, 127)]
     (s.reg R.GRZ_SVCREQ).getLsbD 7 = false ∧ ∀ i, i < 7 → (s.reg R.GRZ_SVCREQ).getLsbD i = true) ∧
    (7 ∉ State.reset.grz.slot ∧ 7 ∈ (grz { slot := [7] } []).grz.slot) ∧
    (State.reset.pairOf 3 = none ∧ (pair0 [(F.NET_CTRL_HOST_EN, 0)]).f F.NET_CTRL_HOST_EN = 0) ∧
    ((pair0 [(F.NET_CTRL_HOST_EN, 1)]).pairOf 3 = some 0 ∧ (pair0 [(F.NET_CTRL_HOST_EN, 1)]).f (F.NET_PRP_GUARD 0) = 0 ∧ (pair0 [(F.NET_CTRL_HOST_EN, 1)]).f F.NET_CTRL_HOST_EN = 1 ∧
      (List.replicate 15 (0 : Byte)).length < 16) ∧
    (let q := hostReq 1 [0xFC, 0xFF, 0xFF, 0xFF, 1, 0, 0, 0] []
     parseReq q = some ⟨reqSeq q, false, 1, 0x1FFFFFFFC, []⟩ ∧ hostBad 0x1FFFFFFFC .read = false ∧ regionOf 0x1FFFFFFFC ≠ .registers) ∧
    (let q := hostReq 2 [0, 0, 0, 0, 1, 0, 0, 0] [1, 2, 3, 4]
     parseReq q = some ⟨reqSeq q, true, 1, 0x100000000, [0x04030201]⟩ ∧ hostBad 0x100000000 .write = false ∧ regionOf 0x100000000 ≠ .registers) := by
  decide +kernel

theorem witness_EveryStepKeepsTheTables : State.reset.tablesOk = true ∧ ∃ t : State, step State.reset = .next t := by
  exact ⟨by decide +kernel, _, rfl⟩

theorem witness_DecodeOfEncodeIsTheInstruction : cmlEncode (.add 0 3 1 2) = some (0, 0b000001_00011_00001_00010_00000_000000) := by decide

/-! ## Effects of single commands: expected results from the rules named -/

/-- Registers 1 and 2 of context 0. -/
def ws (a b : Dword) : State := (inst0.setW 0 1 a).setW 0 2 b
def ds (a b : Dword) : State := (inst0.setD 0 1 a).setD 0 2 b
def minI : Dword := 0x8000000000000000

theorem test_add_wraps : (after (.add 0 3 1 2) (ws (-1) 2)).w 0 3 = 1 := by decide +kernel
theorem test_add_to_w0 : (after (.add 0 0 1 2) (ws 5 2)).w 0 0 = 0 ∧ (after (.add 0 0 1 2) (ws 5 2)).pc 0 = 4 := by decide +kernel
theorem test_mulh_signed : (after (.mulh 0 3 1 2) (ws (-1) 1)).w 0 3 = -1 := by decide +kernel
theorem test_sll_uses_six_bits : (after (.sll 0 3 1 2) (ws 1 65)).w 0 3 = 2 := by decide +kernel
theorem test_sra_sign : (after (.sra 0 1 1 2) (ws minI 63)).w 0 1 = -1 := by decide +kernel
theorem test_slt_signed : (after (.slt 0 3 1 2) (ws (-1) 0)).w 0 3 = 1 ∧ (after (.sltu 0 3 1 2) (ws (-1) 0)).w 0 3 = 0 := by decide +kernel
theorem test_div_rounds_to_zero : (after (.div 0 3 1 2) (ws (-7) 2)).w 0 3 = -3 ∧ (after (.rem 0 3 1 2) (ws (-7) 2)).w 0 3 = -1 := by decide +kernel
theorem test_div_by_zero : (after (.divu 0 3 1 2) (ws 7 0)).w 0 3 = -1 ∧ (after (.remu 0 3 1 2) (ws 7 0)).w 0 3 = 7 := by decide +kernel
theorem test_div_overflow : (after (.div 0 3 1 2) (ws minI (-1))).w 0 3 = minI ∧ (after (.rem 0 3 1 2) (ws minI (-1))).w 0 3 = 0 := by decide +kernel
theorem test_addi_sign : (after (.addi 0 3 1 0x3FFF) (ws 0 0)).w 0 3 = -1 := by decide +kernel
theorem test_lsi : (after (.lsi 0 1 1 0x2AAA) (ws 1 0)).w 0 1 = 0x6AAA := by decide +kernel
theorem test_fadd : (after (.fadd 0 3 1 2) (ds 0x3FF8000000000000 0x4002000000000000)).d 0 3 = 0x400E000000000000 := by decide +kernel
theorem test_fmin_zeros : (after (.fmin 0 3 1 2) (ds 0 0x8000000000000000)).d 0 3 = 0x8000000000000000 := by decide +kernel
theorem test_fdiv_by_zero : (after (.fdiv 0 3 1 2) (ds 0x3FF0000000000000 0)).d 0 3 = 0x7FF0000000000000 := by decide +kernel
theorem test_fcvt_saturates : (after (.fcvtWD 0 3 1 0) (ds 0x43F0000000000000 0)).w 0 3 = 0x7FFFFFFFFFFFFFFF := by decide +kernel
theorem test_fcvt_ties_to_even : (after (.fcvtWD 0 3 1 0) (ds 0x4004000000000000 0)).w 0 3 = 2 := by decide +kernel
theorem test_lwI_sign : (after (.lwI 0 3 0 8) (inst0.wr 0x800008 4 0x80000000)).w 0 3 = 0xFFFFFFFF80000000 := by decide +kernel
theorem test_lbI_zero : (after (.lbI 0 3 0 63) (inst0.wr 0x80003F 1 0xFF)).w 0 3 = 0xFF := by decide +kernel
theorem test_stI_marks_page : (after (.stI 0 1 0 56) (ws 0x0102030405060708 0)).rd 0x800038 8 = 0x0102030405060708 ∧
    (after (.stI 0 1 0 56) (ws 1 0)).cml.dirty = [0] := by decide +kernel
theorem test_bounds : (after (.stI 0 1 0 64) (ws 1 0)).rd 0x800040 8 = 0 ∧ (after (.stI 0 1 0 64) (ws 1 0)).cml.dirty = [] := by decide +kernel
theorem test_branch : (after (.beqz 0 1 3) (ws 0 0)).pc 0 = 12 ∧ (after (.beqz 0 1 3) (ws 1 0)).pc 0 = 4 := by decide +kernel
theorem test_jal : (after (.jal 0 1 0x1FFFFF) (ws 0 0)).w 0 1 = 4 ∧ (after (.jal 0 1 0x1FFFFF) ((ws 0 0).setPc 0 8)).pc 0 = 4 := by decide +kernel
theorem test_queue_order :
    step { State.reset with pending := [.holdVUpdate 105, .tjUpdate 0] } = exec (.holdVUpdate 105) { State.reset with pending := [.tjUpdate 0] } := rfl
theorem test_hold_low : (after (.holdVUpdate 104) State.reset).f F.SYS_PWR_HOLD_LOW = 1 ∧ (after (.holdVUpdate 105) State.reset).f F.SYS_PWR_HOLD_LOW = 0 := by
  decide +kernel
theorem test_idcode : (after .idcode State.reset).sys.tdr = 0x196004C7 := by decide +kernel
theorem test_aon_latch : (after (.aonLatch 123) State.reset).irq.aon = [123] := by decide +kernel
theorem test_can_bus_error : (after (.canBusError 0 (⟨3, by decide⟩) true) (can0 {} [])).f (F.CAN_ERR_REC 0) = 8 := by decide +kernel
theorem test_can_bus_off_clears : (after (.busOffRecovery 0) (can0 { recovering := true } [(F.CAN_STATUS_STATE 0, 2), (F.CAN_ERR_TEC 0, 256)])).f (F.CAN_ERR_TEC 0) = 0 := by
  decide +kernel
theorem test_flush_starts : (after (.flush .cc0 0xC0000000) State.reset).recorder.flush = some 9 := by decide +kernel
theorem test_shutdown_order : (after .shutdownVcomOff (lan { shutStep := 0 } [(F.LAN_STATUS_STATE, 4)])).lan.shutStep = 0 ∧
    (after .shutdownClear (lan { shutStep := 0 } [(F.LAN_STATUS_STATE, 4)])).lan.shutStep = 1 := by decide +kernel
theorem test_host_read : tget? (after (.hostServiceRequest (hostReq 1 [0, 0, 0, 0, 1, 0, 0, 0] []))
    ((pair0 [(F.NET_CTRL_HOST_EN, 1)]).wr 0x100000000 4 0x1234)).net.sent 0 = some (.reply 7 0 [0x1234]) := by decide +kernel

end Sys2Proof.Tests
end

section
/-!
Every command, every step and every run of steps answers a next state (R11, R184, R189; assumption log 8).
-/
namespace Sys2Proof.Machine

/-- A command with a condition of its own answers a next state on both sides of it. -/
theorem answers_ite (c : Prop) [Decidable c] (t u : State) :
    ∃ x, (if c then .next t else .next u : Host.Outcome State Fault Refusal) = .next x :=
  ⟨if c then t else u, (apply_ite _ c t u).symm⟩

theorem execRecordCommit_answers (s : State) : ∃ t, execRecordCommit s = .next t := by
  unfold execRecordCommit
  cases s.recorder.queue with
  | nil => exact ⟨_, rfl⟩
  | cons r l => exact ⟨_, rfl⟩

theorem execFlushEnd_answers (s : State) : ∃ t, execFlushEnd s = .next t := by
  unfold execFlushEnd
  cases s.recorder.flush with
  | none => exact ⟨_, rfl⟩
  | some c => exact ⟨_, rfl⟩

/-- Every command, whatever its operands, answers a next state. -/
theorem exec_answers (i : Instr) (s : State) : ∃ t, exec i s = .next t := by
  cases i with
  | recordCommit => exact execRecordCommit_answers s
  | flushEnd => exact execFlushEnd_answers s
  | calendarUpdate | canBusError | lanternEnable | lanternDisable | establishmentTimeout | trialConfirmed | linkTrainingTimeout
  | afterglowEnd | readReady | busError => exact answers_ite _ _ _
  | _ => exact ⟨_, rfl⟩

/-- A step answers a next state, whatever command stands at the front of the queue. -/
theorem step_answers (s : State) : ∃ t, step s = .next t := by
  unfold step
  cases s.pending with
  | nil => exact ⟨_, rfl⟩
  | cons c l => exact exec_answers c (s.withPending l)

/-- No fault and no refusal ends a run: every state is safe for every number of steps. -/
theorem safe_all (s : State) : Safe s := by
  intro n
  induction n generalizing s with
  | zero => exact ⟨s, rfl⟩
  | succ n ih =>
    obtain ⟨u, hu⟩ := step_answers s
    have hrun : Host.Core.run core (n + 1) s = Host.Core.run core n u := by
      simp only [Host.Core.run]
      rw [show core.step s = .next u from hu]
    unfold SafeFor
    rw [hrun]
    exact ih u

/-- Settles O2. -/
theorem everyStepAnswersANextState : Obligations.EveryStepAnswersANextState := by
  unfold Obligations.EveryStepAnswersANextState
  exact fun s => ⟨fun i => exec_answers i s, step_answers s, safe_all s⟩
end Sys2Proof.Machine
end

section
/-!
Detectors' maps written outside Run, and the register accesses of O35 (R12 to R14, R271).
-/
namespace Sys2Proof.Machine

/-- A table from which the entries of a key were taken lists nothing for it. -/
theorem tget?_filter_none {β : Type} (l : Tbl β) (p : Nat × β → Bool) (k : Nat) (hp : ∀ v, p (k, v) = false) :
    tget? (l.filter p) k = none := by
  induction l with
  | nil => rfl
  | cons e l ih =>
    obtain ⟨j, v⟩ := e
    by_cases hj : j = k
    · subst hj; simpa [List.filter_cons, hp] using ih
    · rw [List.filter_cons]
      split
      · simpa [tget?, hj] using ih
      · exact ih

/-- Once its edge has come, a register's own word is in force. -/
theorem State.eff_takeEffect (s : State) (a b : Nat) (h : a < b) : (s.takeEffect a b).eff a = s.reg a := by
  have hnone : tget? (s.takeEffect a b).inForce a = none := tget?_filter_none _ _ _ fun v => by simp [h]
  unfold State.eff
  rw [hnone]
  rfl

/-- Outside Run a write of a detector's map is in force at once (R271). -/
theorem State.eff_writeShd_map (s : State) (d : Nat) (v : Word) (hd : d < 256) (hm : s.mode ≠ .run) :
    (s.writeShd (R.SHD_MAP d) v).eff (R.SHD_MAP d) = s.plain (R.SHD_MAP d) v := by
  have hmap : inArray (R.SHD_MAP d) (R.SHD_MAP 0) 4 256 = true := by simp [inArray, R.SHD_MAP]; omega
  have hctrl : R.SHD_MAP d ≠ R.SHD_CTRL ∧ R.SHD_MAP d ≠ R.SHD_DETECT ∧ R.SHD_MAP d ≠ R.SHD_REBASE := by
    simp only [R.SHD_MAP, R.SHD_CTRL, R.SHD_DETECT, R.SHD_REBASE]; omega
  obtain ⟨h1, h2, h3⟩ := hctrl
  unfold State.writeShd
  rw [if_neg h1, if_neg h2, if_neg h3, hmap, Bool.or_true, if_pos rfl, if_neg hm, State.eff_takeEffect _ _ _ (by omega)]
  exact State.reg_setReg_same _ _ _

/-- Refutes O35: its second clause says that a register of `laterReg` keeps its old word in force, which a detector's map does in Run alone.
After reset the module is in Stop; there a write of 1 to SHD_MAP0 puts the new word in force at once, where 0 was before. -/
theorem not_registerAccesses : ¬ Obligations.RegisterAccesses := by
  intro h
  obtain ⟨hwrites, -⟩ := h
  obtain ⟨-, hlater, hblock, -⟩ := hwrites State.reset .cc0 0x40070400 1
  obtain ⟨t, ht, -, heff, -⟩ := hlater (by decide) (by decide) (by decide) (by decide) (by decide)
  have hwrite := hblock (by decide) (by decide) (by decide) (by decide) (by decide)
  rw [hwrite] at ht
  obtain rfl : State.reset.noSteps.writeShd (R.SHD_MAP 0) 1 = t := Host.Outcome.next.inj ht
  have hnew : (State.reset.noSteps.writeShd (R.SHD_MAP 0) 1).eff (R.SHD_MAP 0) = 1 :=
    State.eff_writeShd_map State.reset.noSteps 0 1 (by decide) (by decide)
  have hold : State.reset.eff (R.SHD_MAP 0) = 0 := by decide
  exact absurd (hnew.symm.trans (heff.trans hold)) (by decide)
end Sys2Proof.Machine
end

section
/-!
What a change of registers alone keeps, what recording keeps beside the log, and a command's instant as `State.comesAt` tells it.
-/
namespace Sys2Proof.Machine

/-! ## Frames of registers -/

theorem State.regsOnly_refl (s : State) (l : List Nat) : s.regsOnly s l := ⟨rfl, fun _ _ => rfl⟩

theorem State.regsOnly_trans {s t u : State} {l : List Nat} (h : s.regsOnly t l) (h' : t.regsOnly u l) : s.regsOnly u l := by
  refine ⟨?_, fun a ha => (h'.2 a ha).trans (h.2 a ha)⟩
  have e : ({ u with regs := s.regs } : State) = { ({ u with regs := t.regs } : State) with regs := s.regs } := rfl
  rw [e, h'.1, h.1]

theorem State.regsOnly.mono {s t : State} {l l' : List Nat} (h : s.regsOnly t l) (hl : ∀ a ∈ l, a ∈ l') : s.regsOnly t l' :=
  ⟨h.1, fun a ha => h.2 a fun hm => ha (hl a hm)⟩

theorem State.regsOnly_setReg (s : State) {a : Nat} {l : List Nat} (v : Word) (h : a ∈ l) : s.regsOnly (s.setReg a v) l :=
  ⟨rfl, fun b hb => s.reg_setReg_other a b v fun e => hb (e ▸ h)⟩

theorem State.regsOnly_put (s : State) {x : Fld} {l : List Nat} (v : Nat) (h : x.addr ∈ l) : s.regsOnly (s.put x v) l :=
  s.regsOnly_setReg _ h

theorem State.regsOnly_foldl {α : Type} (g : State → α → State) (l : List Nat) (xs : List α) (s : State)
    (hg : ∀ (s : State), ∀ x ∈ xs, s.regsOnly (g s x) l) : s.regsOnly (xs.foldl g s) l :=
  List.foldlRecOn xs g (motive := fun t => s.regsOnly t l) (s.regsOnly_refl l)
    fun t ht x hx => State.regsOnly_trans ht (hg t x hx)

section
variable {s t : State} {l : List Nat} (h : s.regsOnly t l)
include h

theorem State.regsOnly_lan : t.lan = s.lan := by
  have e := congrArg State.lan h.1; exact e
theorem State.regsOnly_pins : t.pins = s.pins := by
  have e := congrArg State.pins h.1; exact e
theorem State.regsOnly_mem : t.mem = s.mem := by
  have e := congrArg State.mem h.1; exact e
theorem State.regsOnly_time : t.time = s.time := by
  have e := congrArg State.time h.1; exact e

theorem State.regsOnly_f (x : Fld) (hx : x.addr ∉ l) : t.f x = s.f x := State.f_congr x (h.2 _ hx)

end

/-- Both sides of a frame may take another state of Lantern. -/
theorem State.regsOnly.withLan {s t : State} {l : List Nat} (h : s.regsOnly t l) (x : LanSt) :
    ({ s with lan := x } : State).regsOnly { t with lan := x } l :=
  ⟨congrArg (fun u : State => ({ u with lan := x } : State)) h.1, h.2⟩

/-- A frame that gives Lantern a state of its own is a frame of Lantern. -/
theorem State.lanOnly_of_regsOnly {s t : State} {x : LanSt} {l : List Nat} (h : ({ s with lan := x } : State).regsOnly t l) :
    s.lanOnly t l := by
  obtain rfl : t.lan = x := State.regsOnly_lan h
  exact h

/-- The same where the pins change too. -/
theorem State.lanOnly_of_pins {s t : State} {p : PinSt} {x : LanSt} {l : List Nat}
    (h : ({ s with pins := p, lan := x } : State).regsOnly t l) : ({ s with pins := t.pins } : State).lanOnly t l := by
  obtain rfl : t.pins = p := State.regsOnly_pins h
  exact State.lanOnly_of_regsOnly (s := { s with pins := t.pins }) h

/-! ## What recording keeps -/

section
variable {s t : State} (h : s.logFrame t)
include h

theorem State.logFrame_lan : t.lan = s.lan := by
  have e := congrArg State.lan h.1; exact e
theorem State.logFrame_pins : t.pins = s.pins := by
  have e := congrArg State.pins h.1; exact e
theorem State.logFrame_time : t.time = s.time := by
  have e := congrArg State.time h.1; exact e

theorem State.logFrame_f (x : Fld) (hx : logReg x.addr = false) : t.f x = s.f x := State.f_congr x (h.2.1 _ hx)

end

theorem State.startFlush_mem (s : State) (c : Nat) : (s.startFlush c).mem = s.mem := by
  unfold State.startFlush; split <;> rfl

theorem State.fillTrigger_mem (s : State) : s.fillTrigger.mem = s.mem := by
  simp only [State.fillTrigger]; split
  · exact s.startFlush_mem 8
  · rfl

/-- A record that waits in the buffer or the queue writes no memory. -/
theorem State.place_mem (s : State) (src code : Nat) (p : Payload) : (s.place src code p false).mem = s.mem := by
  unfold State.place
  rw [if_neg (by simp)]
  split
  · exact State.fillTrigger_mem _
  · rfl

theorem State.detect_mem (s : State) (d : Nat) : (s.detect d).mem = s.mem := by
  simp only [State.detect]; split
  · simp only [State.countPend, State.put_mem, State.setBit_mem]; split <;> rfl
  · rfl

theorem State.assertSrc_mem (s : State) (n : Nat) : (s.assertSrc n).mem = s.mem := by
  have hdet : ((s.detectorsOf 2 n).foldl (·.detect ·) s).mem = s.mem :=
    List.foldlRecOn _ _ (motive := fun t : State => t.mem = s.mem) rfl fun t ht d _ => (t.detect_mem d).trans ht
  simp only [State.assertSrc]; split
  · split
    · rw [State.count_mem]; split <;> exact hdet
    · exact hdet
  · rfl

theorem State.accept_mem (s : State) (src code : Nat) (p : Payload) : (s.accept src code p false).2.mem = s.mem := by
  simp only [State.accept]; split
  · rfl
  · split
    · rfl
    · split
      · rfl
      · split
        · rw [State.count_mem, State.assertSrc_mem, State.put_mem, State.place_mem]
        · exact s.place_mem _ _ _

theorem State.suppress_mem (s : State) (b code : Nat) : (s.suppress b code).mem = s.mem := by
  simp only [State.suppress, State.count_mem]; split <;> rfl

theorem State.summarise_mem (s : State) (code : Nat) : (s.summarise code).mem = s.mem := by
  unfold State.summarise; split
  · next x _ =>
    have h := s.accept_mem 0x10 0x0F02 (payW [x.code, x.count, x.first, x.last])
    split
    · next e => rw [e] at h; exact h
    · next e => rw [e] at h; exact h
  · rfl

theorem State.flushOn_mem (s : State) (code : Nat) (fs : Bool) : (s.flushOn code fs).mem = s.mem := by
  unfold State.flushOn; split
  · split
    · exact s.startFlush_mem _
    · rfl
  · rfl

theorem State.spend_mem (s : State) (b code : Nat) : (s.spend b code).mem = s.mem := by
  unfold State.spend; split <;> rfl

theorem State.offerRec_mem (s : State) (src code : Nat) (p : Payload) : (s.offerRec src code p).2.mem = s.mem := by
  unfold State.offerRec; split
  · rfl
  · dsimp only; split
    · exact s.suppress_mem _ _
    · rw [State.accept_mem, State.summarise_mem, State.spend_mem]

/-- A recorded event writes no memory: its record reaches MRAM by a later commit or flush. -/
theorem State.record_mem (s : State) (code : Nat) (p : Payload) (fs : Bool) : (s.record code p fs).mem = s.mem := by
  unfold State.record State.offer; split
  · rfl
  · rw [State.flushOn_mem, State.offerRec_mem]

theorem State.recordWrite_mem (s : State) (m : Master) (a : Nat) (v : Word) (r : Nat) : (s.recordWrite m a v r).mem = s.mem :=
  s.record_mem _ _ _

/-! ## A command's instant -/

/-- A command whose instant lies beyond the tick that runs changes nothing. -/
theorem State.whenDue_of_none {s : State} {n : Nat} (g : State → State) (h : s.comesAt n = none) : s.whenDue n g = s := by
  unfold State.comesAt at h
  split at h
  · cases h
  · next h0 =>
    split at h
    · next hb => exact State.whenDue_beyond s n g hb.1 hb.2 h0
    · cases h

/-- A command whose instant comes acts on the state that stands then. -/
theorem State.whenDue_of_some {s u : State} {n : Nat} (g : State → State) (h : s.comesAt n = some u) : s.whenDue n g = g u := by
  unfold State.comesAt at h
  split at h
  · next h0 => cases h; subst h0; exact s.whenDue_now g
  · next h0 =>
    split at h
    · cases h
    · next hb =>
      cases h
      refine State.whenDue_within s n g ?_ h0
      by_cases hr : s.tick.running = true
      · exact .inr (Nat.not_lt.mp fun hn => hb ⟨hr, hn⟩)
      · exact .inl (Bool.eq_false_iff.mpr hr)

/-- Up to a command's instant Lantern's state stays. -/
theorem State.comesAt_lan {s u : State} {n : Nat} (h : s.comesAt n = some u) : u.lan = s.lan := by
  unfold State.comesAt at h
  split at h
  · cases h; rfl
  · split at h
    · cases h
    · cases h; exact s.elapse_lan n

/-- MONO is read through the time island's state alone. -/
theorem State.mono_congr {s t : State} (h : t.time = s.time) : t.mono = s.mono := by
  have hbase : ∀ u : State, u.mono = (tget {} u.time.bases 0).total := fun u => congrArg BaseVal.total (if_neg (by decide))
  rw [hbase, hbase, h]
end Sys2Proof.Machine
end

section
/-!
Lantern: what its readings of a line rest on, the line that starts, and the run of the engine (R441 to R449).
-/
namespace Sys2Proof.Machine

/-! ## LAN_QUEUE -/

theorem State.regsOnly_showLan (s : State) : s.regsOnly s.showLan [R.LAN_QUEUE] := by
  have hput : ∀ (u : State) (x : Fld) (v : Nat), x.addr = R.LAN_QUEUE → u.regsOnly (u.put x v) [R.LAN_QUEUE] :=
    fun u x v hx => u.regsOnly_put v (by simp [hx])
  have h2 := State.regsOnly_trans (hput s F.LAN_QUEUE_ACTIVE (if s.lan.active.isSome then 1 else 0) rfl)
    (hput _ F.LAN_QUEUE_DEPTH s.lan.queue.length rfl)
  unfold State.showLan
  dsimp only
  split <;> exact State.regsOnly_trans h2 (State.regsOnly_trans (hput _ _ _ rfl) (hput _ _ _ rfl))

@[simp] theorem State.showLan_lan (s : State) : s.showLan.lan = s.lan := State.regsOnly_lan s.regsOnly_showLan
@[simp] theorem State.showLan_pins (s : State) : s.showLan.pins = s.pins := State.regsOnly_pins s.regsOnly_showLan
@[simp] theorem State.showLan_mem (s : State) : s.showLan.mem = s.mem := State.regsOnly_mem s.regsOnly_showLan
@[simp] theorem State.showLan_mono (s : State) : s.showLan.mono = s.mono :=
  State.mono_congr (State.regsOnly_time s.regsOnly_showLan)

theorem State.reg_showLan (s : State) (a : Nat) (h : a ≠ R.LAN_QUEUE) : s.showLan.reg a = s.reg a :=
  s.regsOnly_showLan.2 a (by simpa using h)

theorem State.f_showLan (s : State) (x : Fld) (h : x.addr ≠ R.LAN_QUEUE) : s.showLan.f x = s.f x :=
  State.f_congr x (s.reg_showLan _ h)

/-! ## Dirty bits -/

/-- The registers that hold the dirty bits of the panel's lines. -/
def dirtyRegs : List Nat := (List.range 30).map R.LAN_DIRTY

theorem dirtyReg_mem {y : Nat} (h : y < 960) : R.LAN_DIRTY 0 + 4 * (y / 32) ∈ dirtyRegs :=
  List.mem_map.mpr ⟨y / 32, List.mem_range.mpr (by omega), rfl⟩

theorem inArray_of_mem_dirtyRegs {a : Nat} (h : a ∈ dirtyRegs) : inArray a (R.LAN_DIRTY 0) 4 30 = true := by
  obtain ⟨i, hi, rfl⟩ := List.mem_map.mp h
  have := List.mem_range.mp hi
  exact decide_eq_true (by simp only [R.LAN_DIRTY]; omega)

theorem State.regsOnly_setDirty (s : State) {y : Nat} (v : Bool) (h : y < 960) : s.regsOnly (s.setDirty y v) dirtyRegs :=
  s.regsOnly_setReg _ (dirtyReg_mem h)

theorem State.dirty_setDirty (s : State) (y z : Nat) (v : Bool) : (s.setDirty y v).dirty z = if z = y then v else s.dirty z :=
  s.bit_setBit (R.LAN_DIRTY 0) y z v

/-- The dirty bits are read through their registers alone. -/
theorem State.dirty_congr {s t : State} (h : ∀ a, R.LAN_DIRTY 0 ≤ a → t.reg a = s.reg a) (y : Nat) : t.dirty y = s.dirty y := by
  unfold State.dirty State.bit
  rw [h _ (Nat.le_add_right _ _)]

theorem State.dirty_showLan (s : State) (y : Nat) : s.showLan.dirty y = s.dirty y :=
  State.dirty_congr (fun a ha => s.reg_showLan a (by simp only [R.LAN_DIRTY, R.LAN_QUEUE] at *; omega)) y

/-! ## What a line's data and time rest on -/

/-- Both states have the panel set up alike: every register below the dirty bits but LAN_QUEUE. -/
structure State.SameSetup (s t : State) : Prop where
  reg : ∀ a, a < R.LAN_DIRTY 0 → a ≠ R.LAN_QUEUE → t.reg a = s.reg a

/-- Both states hold the same image on the panel: its setup, memory, and the drive entries applied. -/
structure State.SameImage (s t : State) : Prop extends s.SameSetup t where
  mem : t.mem = s.mem
  applied : t.lan.applied = s.lan.applied

/-- Folds that agree on what their values keep are equal. -/
theorem foldl_congr_of_keeps {α β : Type} {P : β → Prop} {g g' : β → α → β} {l : List α} {b : β} (hb : P b)
    (h : ∀ b, P b → ∀ a ∈ l, g b a = g' b a ∧ P (g b a)) : l.foldl g b = l.foldl g' b := by
  induction l generalizing b with
  | nil => rfl
  | cons a l ih =>
    obtain ⟨e, hp⟩ := h b hb a (by simp)
    rw [List.foldl_cons, List.foldl_cons, ← e]
    exact ih hp fun b hb x hx => h b hb x (by simp [hx])

section
variable {s t : State} (hz : ∀ z, z < 4 → t.reg (R.LAN_ZONE z) = s.reg (R.LAN_ZONE z))
include hz

theorem State.zoneOn_congr {z : Nat} (h : z < 4) : t.zoneOn z = s.zoneOn z := by
  unfold State.zoneOn State.b
  rw [State.f_congr (F.LAN_ZONE_EN z) (hz z h)]

/-- The zone of a line rests on the zones' registers alone. -/
theorem State.zoneOf_congr (y : Nat) : t.zoneOf y = s.zoneOf y := by
  have hstart : ∀ z, z < 4 → t.f (F.LAN_ZONE_START z) = s.f (F.LAN_ZONE_START z) := fun z h => State.f_congr _ (hz z h)
  have hlist : (List.range 4).filter (fun z => t.zoneOn z && decide (t.f (F.LAN_ZONE_START z) ≤ y)) =
      (List.range 4).filter (fun z => s.zoneOn z && decide (s.f (F.LAN_ZONE_START z) ≤ y)) :=
    List.filter_congr fun z h => by rw [State.zoneOn_congr hz (List.mem_range.mp h), hstart z (List.mem_range.mp h)]
  unfold State.zoneOf
  rw [hlist]
  refine foldl_congr_of_keeps (P := (· < 4)) (by decide) fun b hb z hm => ?_
  have h4 : z < 4 := List.mem_range.mp (List.mem_filter.mp hm).1
  rw [hstart b hb, hstart z h4]
  refine ⟨rfl, ?_⟩
  split <;> assumption

end

section
variable {s t : State} (h : s.SameSetup t)
include h

theorem State.SameSetup.f (x : Fld) (hd : x.addr < R.LAN_DIRTY 0) (hq : x.addr ≠ R.LAN_QUEUE) : t.f x = s.f x :=
  State.f_congr x (h.reg _ hd hq)

theorem State.SameSetup.zone (z : Nat) (hz : z < 4) : t.reg (R.LAN_ZONE z) = s.reg (R.LAN_ZONE z) :=
  h.reg _ (by simp only [R.LAN_ZONE, R.LAN_DIRTY]; omega) (by simp only [R.LAN_ZONE, R.LAN_QUEUE]; omega)

theorem State.SameSetup.lanW : t.lanW = s.lanW := by
  unfold State.lanW; rw [h.f F.LAN_GEOM_WIDTH (by decide) (by decide)]

theorem State.SameSetup.lanH : t.lanH = s.lanH := by
  unfold State.lanH; rw [h.f F.LAN_GEOM_HEIGHT (by decide) (by decide)]

theorem State.SameSetup.pixelBits : t.pixelBits = s.pixelBits := by
  unfold State.pixelBits; rw [h.f F.LAN_CTRL_BPP (by decide) (by decide)]

theorem State.SameSetup.lineBits : t.lineBits = s.lineBits := by
  unfold State.lineBits; rw [h.f F.LAN_CTRL_BPP (by decide) (by decide)]

theorem State.SameSetup.lanDiv : t.lanDiv = s.lanDiv := by
  unfold State.lanDiv; rw [h.f F.LAN_CTRL_DIV (by decide) (by decide)]

theorem State.SameSetup.lanStride : t.lanStride = s.lanStride := by
  unfold State.lanStride; rw [h.lanW, h.pixelBits]

theorem State.SameSetup.fbBase : t.fbBase = s.fbBase := by
  unfold State.fbBase; rw [h.f F.LAN_FBBASE_BASE (by decide) (by decide)]

theorem State.SameSetup.lineClocks : t.lineClocks = s.lineClocks := by
  unfold State.lineClocks; rw [h.lanW, h.lineBits]

theorem State.SameSetup.fbLine (a : Nat) : t.fbLine a = s.fbLine a := by
  unfold State.fbLine; rw [h.fbBase, h.lanStride, h.lanH]

end

section
variable {s t : State} (h : s.SameImage t)
include h

theorem State.SameImage.lineData (y : Nat) : t.lineData y = s.lineData y := by
  have hrd : t.rd (t.fbBase + y * t.lanStride) t.lanStride = s.rd (s.fbBase + y * s.lanStride) s.lanStride := by
    rw [h.fbBase, h.lanStride]
    exact State.rd_congr _ _ fun b _ _ => State.byte_congr h.mem b
  unfold State.lineData State.lineBitsOf
  rw [hrd, h.lineClocks, h.lanW, h.pixelBits, h.lineBits]

theorem State.SameImage.lineTime (y : Nat) : t.lineTime y = s.lineTime y := by
  have hband := h.f F.LAN_STATUS_BAND (by decide) (by decide)
  have hlt : s.f F.LAN_STATUS_BAND < 8 := s.f_lt F.LAN_STATUS_BAND
  have hdrv : t.reg (R.LAN_DRV (s.f F.LAN_STATUS_BAND)) = s.reg (R.LAN_DRV (s.f F.LAN_STATUS_BAND)) :=
    h.reg _ (by simp only [R.LAN_DRV, R.LAN_DIRTY]; omega) (by simp only [R.LAN_DRV, R.LAN_QUEUE]; omega)
  unfold State.lineTime
  rw [State.zoneOf_congr h.zone, h.applied, h.lineClocks, h.lanDiv, hband, hdrv]

theorem State.SameImage.showLan : s.SameImage t.showLan where
  reg a hd hq := (t.reg_showLan a hq).trans (h.reg a hd hq)
  mem := t.showLan_mem.trans h.mem
  applied := (congrArg LanSt.applied t.showLan_lan).trans h.applied

end

/-! ## A line starts, or waits -/

/-- The pass p with the write of its line y under way. -/
def State.started (s : State) (p : Pass) (y : Nat) : Pass :=
  { p with cursor := y + 1, line := some y, waiting := false, data := s.lineData y, time := s.lineTime y,
           endAt := max s.mono p.readyAt + s.lineTime y * (10 * 2 ^ 32) }

/-- The pass p with its line y waiting for its zone's toggle. -/
def Pass.held (p : Pass) (y : Nat) : Pass := { p with cursor := y, line := none, waiting := true }

theorem State.startLine_eq (s : State) (p : Pass) (y : Nat) :
    s.startLine p y = ({ s with lan := { s.lan with active := some (s.started p y) } } : State).setDirty y false := rfl

/-- A line is offered: its write starts, or it waits. -/
theorem State.offerLine_cases (s : State) (p : Pass) (y : Nat) :
    s.offerLine p y = s.startLine p y ∨ s.offerLine p y = { s with lan := { s.lan with active := some (p.held y) } } := by
  unfold State.offerLine
  split
  · split
    · exact .inr rfl
    · exact .inl rfl
  · exact .inl rfl

theorem State.sameImage_startLine (s : State) (p : Pass) (y : Nat) : s.SameImage (s.startLine p y) where
  reg a ha _ := by
    rw [State.startLine_eq]
    exact State.reg_setBit_other _ _ _ _ _ (by omega)
  mem := rfl
  applied := rfl

/-- The line that starts is the active region's, as the panel then shows it. -/
theorem State.atLine_startLine (s : State) (p : Pass) (y : Nat) : (s.startLine p y).showLan.atLine (s.started p y) y := by
  have himg : s.SameImage (s.startLine p y).showLan := (s.sameImage_startLine p y).showLan
  have hmono : (s.startLine p y).showLan.mono = s.mono := by rw [State.showLan_mono]; exact State.mono_congr rfl
  refine ⟨by rw [State.showLan_lan, State.startLine_eq]; rfl, .inl ⟨rfl, rfl, rfl, (himg.lineData y).symm, (himg.lineTime y).symm, ?_, ?_⟩⟩
  · exact congrArg (fun n => max n p.readyAt + s.lineTime y * (10 * 2 ^ 32)) hmono.symm
  · intro _
    rw [State.dirty_showLan, State.startLine_eq, State.dirty_setDirty, if_pos rfl]

/-- What an offered line leaves: the pass of its region at that line, and beside Lantern's state only that line's dirty bit and LAN_QUEUE. -/
theorem State.offerLine_spec (s : State) (p : Pass) (y : Nat) : ∃ q, (s.offerLine p y).showLan.atLine q y ∧
    q.region = p.region ∧ q.rewrite = p.rewrite ∧ q.rewriting = p.rewriting ∧ q.readyAt = p.readyAt ∧
    (s.offerLine p y).showLan.lan = { s.lan with active := some q } ∧ (s.offerLine p y).showLan.pins = s.pins ∧
    s.SameImage (s.offerLine p y).showLan ∧ ∀ z, z ≠ y → (s.offerLine p y).showLan.dirty z = s.dirty z := by
  rcases s.offerLine_cases p y with e | e <;> rw [e]
  · refine ⟨s.started p y, s.atLine_startLine p y, rfl, rfl, rfl, rfl, State.showLan_lan _, State.showLan_pins _,
      (s.sameImage_startLine p y).showLan, fun z hz => ?_⟩
    rw [State.dirty_showLan, State.startLine_eq, State.dirty_setDirty, if_neg hz]; rfl
  · have himg : s.SameImage { s with lan := { s.lan with active := some (p.held y) } } := ⟨⟨fun _ _ _ => rfl⟩, rfl, rfl⟩
    refine ⟨p.held y, ⟨by rw [State.showLan_lan], .inr ⟨rfl, rfl, rfl⟩⟩, rfl, rfl, rfl, rfl, State.showLan_lan _, State.showLan_pins _, himg.showLan,
      fun z _ => ?_⟩
    rw [State.dirty_showLan]; rfl
end Sys2Proof.Machine
end

section
/-!
Lantern's engine and its requests (R444 to R446).
-/
namespace Sys2Proof.Machine

/-! ## The next line -/

/-- The next line of a pass rests on the dirty bits alone. -/
theorem State.nextLine_congr {s t : State} (h : ∀ y, t.dirty y = s.dirty y) (p : Pass) : t.nextLine p = s.nextLine p := by
  unfold State.nextLine
  simp only [h]

/-- A forced region's next line is the one at its cursor. -/
theorem State.nextLine_force (s : State) (p : Pass) (hf : p.region.force = true) (hc : p.cursor ≤ p.region.hi) :
    s.nextLine p = some p.cursor := by
  obtain ⟨n, hn⟩ : ∃ n, p.region.hi + 1 - p.cursor = n + 1 := ⟨p.region.hi - p.cursor, by omega⟩
  unfold State.nextLine
  rw [hn, List.range_succ_eq_map]
  simp [hf]

/-! ## The engine's run -/

section
variable {s : State} (n : Nat)

theorem State.lanRun_idle (ha : s.lan.active = none) (hq : s.lan.queue = []) : s.lanRun n = s := by
  cases n with
  | zero => rfl
  | succ n => simp only [State.lanRun, ha, hq]

theorem State.lanRun_take {r : Lines} {l : List Lines} (ha : s.lan.active = none) (hq : s.lan.queue = r :: l) :
    s.lanRun (n + 1) = (s.takeRegion r l).lanRun n := by
  simp only [State.lanRun, ha, hq]

theorem State.lanRun_offer {p : Pass} {y : Nat} (ha : s.lan.active = some p) (hn : s.nextLine p = some y) :
    s.lanRun (n + 1) = s.offerLine p y := by
  simp only [State.lanRun, ha, hn]

/-- What the end of a region shows. -/
def State.regionDone (s : State) (p : Pass) : State :=
  let s : State := { s with lan := { s.lan with active := none } }
  if p.region.irq then (s.put F.LAN_STATUS_DONE 1).assertSrc 195 else s

theorem State.lanRun_end {p : Pass} (ha : s.lan.active = some p) (hn : s.nextLine p = none) (hr : p.rewrite = none) :
    s.lanRun (n + 1) = (s.regionDone p).lanRun n := by
  simp only [State.lanRun, ha, hn, hr]; rfl

end

theorem State.regionDone_lan (s : State) (p : Pass) : (s.regionDone p).lan = { s.lan with active := none } := by
  unfold State.regionDone
  dsimp only
  split
  · exact State.logFrame_lan (State.logFrame_assertSrc _ _)
  · rfl

/-- Where a region that asks for it ends, DONE is set. -/
theorem State.done_regionDone (s : State) (p : Pass) :
    (s.regionDone p).f F.LAN_STATUS_DONE = if p.region.irq then 1 else s.f F.LAN_STATUS_DONE := by
  unfold State.regionDone
  dsimp only
  split
  · rw [State.logFrame_f (State.logFrame_assertSrc _ _) _ rfl, State.f_put_same _ _ _ (by decide) (by decide)]; rfl
  · rfl

theorem State.lines_regionDone (s : State) (p : Pass) : (s.regionDone p).f F.LAN_CNT_LINES = s.f F.LAN_CNT_LINES := by
  unfold State.regionDone
  dsimp only
  split
  · rw [State.logFrame_f (State.logFrame_assertSrc _ _) _ rfl, State.f_put_addr _ _ _ _ (by decide)]; rfl
  · rfl

/-! ## The end of a line's write -/

/-- The state in which a line's write has ended: the pass has no line, and the line is counted. -/
def State.lineCounted (s : State) (p : Pass) : State :=
  ({ s with lan := { s.lan with active := some { p with line := none } } } : State).bump F.LAN_CNT_LINES

theorem State.endLine_eq {s : State} {p : Pass} (h : s.lan.active = some p) :
    s.endLine = ((s.lineCounted p).lanRun lanFuel).showLan := by
  unfold State.endLine
  rw [h]; rfl

theorem State.lines_lineCounted (s : State) (p : Pass) : (s.lineCounted p).f F.LAN_CNT_LINES =
    (s.f F.LAN_CNT_LINES + 1) % 2 ^ (F.LAN_CNT_LINES.hi + 1 - F.LAN_CNT_LINES.lo) :=
  State.f_put_same _ _ _ (by decide) (by decide)

theorem State.nextLine_lineCounted (s : State) (p : Pass) :
    (s.lineCounted p).nextLine { p with line := none } = s.nextLine { p with line := none } :=
  State.nextLine_congr (fun y => State.dirty_congr (s := s)
    (fun a ha => State.reg_put_other _ _ _ _ (by simp only [R.LAN_DIRTY, F.LAN_CNT_LINES, R.LAN_CNT] at *; omega)) y) _

/-- The last line of the last region ends. -/
theorem State.endLine_last {s : State} {p : Pass} (ha : s.lan.active = some p) (hr : p.rewrite = none) (hq : s.lan.queue = [])
    (hn : s.nextLine { p with line := none } = none) : s.endLine = ((s.lineCounted p).regionDone { p with line := none }).showLan := by
  rw [State.endLine_eq ha]
  have hend := State.lanRun_end (s := s.lineCounted p) 199 rfl ((s.nextLine_lineCounted p).trans hn) hr
  rw [show lanFuel = 199 + 1 from rfl, hend, State.lanRun_idle]
  · rw [State.regionDone_lan]
  · rw [State.regionDone_lan]; exact hq

/-- A line ends and the next one of its region is offered. -/
theorem State.endLine_next {s : State} {p : Pass} {z : Nat} (ha : s.lan.active = some p)
    (hn : s.nextLine { p with line := none } = some z) : s.endLine = ((s.lineCounted p).offerLine { p with line := none } z).showLan := by
  rw [State.endLine_eq ha]
  have hoff := State.lanRun_offer (s := s.lineCounted p) 199 rfl ((s.nextLine_lineCounted p).trans hn)
  rw [show lanFuel = 199 + 1 from rfl, hoff]

/-- LINE_WRITE at its instant. -/
theorem State.lineWritten_due {s₀ s : State} {p : Pass} (ha : s₀.lan.active = some p) (hl : p.line.isSome = true)
    (h : s₀.comesAt (s₀.cyclesTo 0 p.endAt) = some s) : s₀.lineWritten = s.endLine := by
  unfold State.lineWritten
  rw [ha]
  dsimp only
  rw [if_pos hl]
  exact State.whenDue_of_some _ h

/-- LINE_WRITE before its instant. -/
theorem State.lineWritten_early {s : State} {p : Pass} (ha : s.lan.active = some p) (hl : p.line.isSome = true)
    (h : s.comesAt (s.cyclesTo 0 p.endAt) = none) : s.lineWritten = s := by
  unfold State.lineWritten
  rw [ha]
  dsimp only
  rw [if_pos hl]
  exact State.whenDue_of_none _ h

/-- LINE_WRITE where no write runs. -/
theorem State.lineWritten_noLine {s : State} (h : ∀ p, s.lan.active = some p → p.line = none) : s.lineWritten = s := by
  unfold State.lineWritten
  split
  · next p ha => rw [if_neg (by simp [h p ha])]
  · rfl

theorem State.lineWritten_last {s₀ s : State} {p : Pass} {y : Nat} (ha₀ : s₀.lan.active = some p) (hl : p.line = some y)
    (h : s₀.comesAt (s₀.cyclesTo 0 p.endAt) = some s) (hr : p.rewrite = none) (hq : s.lan.queue = [])
    (hn : s.nextLine { p with line := none } = none) : ∃ t, exec .lineWrite s₀ = .next t ∧ t.lan.active = none ∧
      t.f F.LAN_CNT_LINES = (s.f F.LAN_CNT_LINES + 1) % 2 ^ (F.LAN_CNT_LINES.hi + 1 - F.LAN_CNT_LINES.lo) ∧
      t.f F.LAN_STATUS_DONE = (if p.region.irq then 1 else s.f F.LAN_STATUS_DONE) := by
  have ha : s.lan.active = some p := by rw [State.comesAt_lan h]; exact ha₀
  refine ⟨_, congrArg Host.Outcome.next (State.lineWritten_due ha₀ (by simp [hl]) h), ?_⟩
  rw [State.endLine_last ha hr hq hn]
  refine ⟨by rw [State.showLan_lan, State.regionDone_lan], ?_, ?_⟩
  · rw [State.f_showLan _ _ (by decide), State.lines_regionDone, State.lines_lineCounted]
  · rw [State.f_showLan _ _ (by decide), State.done_regionDone]
    exact congrArg (if p.region.irq then 1 else ·) (State.f_put_addr _ _ _ _ (by decide))

theorem State.lineWritten_next {s₀ s : State} {p : Pass} {y z : Nat} (ha₀ : s₀.lan.active = some p) (hl : p.line = some y)
    (h : s₀.comesAt (s₀.cyclesTo 0 p.endAt) = some s) (hn : s.nextLine { p with line := none } = some z) :
    ∃ t q, exec .lineWrite s₀ = .next t ∧ t.atLine q z ∧ q.region = p.region ∧ q.rewrite = p.rewrite ∧ q.rewriting = p.rewriting ∧
      t.lan.queue = s.lan.queue ∧
      t.f F.LAN_CNT_LINES = (s.f F.LAN_CNT_LINES + 1) % 2 ^ (F.LAN_CNT_LINES.hi + 1 - F.LAN_CNT_LINES.lo) := by
  have ha : s.lan.active = some p := by rw [State.comesAt_lan h]; exact ha₀
  obtain ⟨q, hline, hregion, hrewrite, hrewriting, -, hlan, -, himg, -⟩ := (s.lineCounted p).offerLine_spec { p with line := none } z
  refine ⟨_, q, congrArg Host.Outcome.next ((State.lineWritten_due ha₀ (by simp [hl]) h).trans (State.endLine_next ha hn)), hline, hregion, hrewrite,
    hrewriting, by rw [hlan]; rfl, ?_⟩
  rw [himg.f _ (by decide) (by decide), State.lines_lineCounted]

/-! ## Requests -/

/-- The pass of a region that has just been taken. -/
def State.taken (s : State) (r : Lines) : Pass :=
  { region := r, cursor := r.lo, readyAt := s.mono + (s.draw 1001).1 * 2 ^ 33 }

/-- A region starts within 2 µs of its being taken (R445). -/
theorem State.readyAt_taken (s : State) (r : Lines) : s.mono ≤ (s.taken r).readyAt ∧ (s.taken r).readyAt ≤ s.mono + 2 * usUnits := by
  have hlt : (s.draw 1001).1 < 1001 := Nat.mod_lt _ (by decide)
  have hready : (s.taken r).readyAt = s.mono + (s.draw 1001).1 * 2 ^ 33 := rfl
  rw [hready]
  unfold usUnits
  omega

/-- The state in which a region has been taken and the queue is empty. -/
def State.withTaken (s : State) (r : Lines) : State :=
  { (s.draw 1001).2 with lan := { s.lan with active := some (s.taken r), queue := [] } }

/-- A forced request to an idle engine starts at its first line. -/
theorem State.lanTake_idle {s : State} {r : Lines} (ha : s.lan.active = none) (hq : s.lan.queue = []) (hf : r.force = true)
    (hr : r.lo ≤ r.hi) : s.lanTake r = ((s.withTaken r).offerLine (s.taken r) r.lo).showLan := by
  have hqueued : s.lanTake r = (({ s with lan := { s.lan with queue := [r] } } : State).lanRun lanFuel).showLan := by
    unfold State.lanTake
    simp only [ha, hq, Option.isNone_none, if_true, List.nil_append]
  have hoffer := State.lanRun_offer (s := s.withTaken r) 198 rfl (State.nextLine_force _ (s.taken r) hf hr)
  have htake : ({ s with lan := { s.lan with queue := [r] } } : State).lanRun (198 + 1 + 1) = (s.withTaken r).lanRun (198 + 1) :=
    State.lanRun_take _ ha rfl
  rw [hqueued]
  exact congrArg State.showLan (htake.trans hoffer)

/-- A request apart from the active region waits in an empty queue. -/
theorem State.lanTake_apart {s : State} {p : Pass} {r : Lines} (ha : s.lan.active = some p) (hq : s.lan.queue = [])
    (ho : r.overlaps p.region = false) : s.lanTake r = ({ s with lan := { s.lan with queue := [r] } } : State).showLan := by
  unfold State.lanTake
  simp [ha, hq, ho]

/-- A request that overlaps the active region merges into it. -/
theorem State.lanTake_merge {s : State} {p : Pass} {r : Lines} (ha : s.lan.active = some p) (ho : r.overlaps p.region = true) :
    s.lanTake r = ({ s with lan := { s.lan with active := some (p.merge r) } } : State).showLan := by
  unfold State.lanTake
  simp [ha, ho]

/-- A change of the queue and the active region that LAN_QUEUE shows is a frame of Lantern. -/
theorem State.lanOnly_showLan (s : State) (x : LanSt) : s.lanOnly ({ s with lan := x } : State).showLan [R.LAN_QUEUE] :=
  State.lanOnly_of_regsOnly (State.regsOnly_showLan _)

/-- Ahead of the cursor a merged request leaves the rewrite range. -/
theorem Pass.merge_ahead {p : Pass} {r : Lines} (h : p.cursor ≤ r.lo) : (p.merge r).rewrite = p.rewrite := by
  unfold Pass.merge
  exact if_neg (Nat.not_lt.mpr h)

/-- The region that a write of LAN_REQ asks for (R445). -/
def State.asked (s : State) (v : Word) : Lines :=
  ⟨bitsOf v 25 16, min (s.lanH - 1) (bitsOf v 25 16 + bitsOf v 9 0 - 1), decide (bitsOf v 30 30 = 1), decide (bitsOf v 31 31 = 1)⟩

section
variable {s : State} {v : Word} (hp : s.variant.panelP = true)
include hp

/-- Outside RUN a request is recorded. -/
theorem State.lanRequest_off (h : s.f F.LAN_STATUS_STATE ≠ 3) : s.lanRequest v = s.event 0x1003 [] := by
  unfold State.lanRequest State.lanExists State.lanState
  rw [if_neg (by simp [hp]), if_pos h]

theorem State.lanRequest_run (h : s.f F.LAN_STATUS_STATE = 3) :
    s.lanRequest v = if bitsOf v 9 0 = 0 ∨ s.lanH ≤ bitsOf v 25 16 then s else s.lanTake (s.asked v) := by
  unfold State.lanRequest State.lanExists State.lanState
  rw [if_neg (by simp [hp]), if_neg (by simp [h])]; rfl

/-- A request for lines of the panel is taken. -/
theorem State.lanRequest_taken (h : s.f F.LAN_STATUS_STATE = 3) (hn : bitsOf v 9 0 ≠ 0) (hlo : bitsOf v 25 16 < s.lanH) :
    s.lanRequest v = s.lanTake (s.asked v) := by
  rw [State.lanRequest_run hp h, if_neg (by omega)]

end

/-- Without the panel option a request does nothing. -/
theorem State.lanRequest_absent {s : State} (v : Word) (hp : s.variant.panelP = false) : s.lanRequest v = s := by
  unfold State.lanRequest State.lanExists
  rw [if_pos hp]

section
variable {s : State} {m : Master} {v : Word} (hp : s.variant.panelP = true) (hstate : s.f F.LAN_STATUS_STATE = 3)
  (hn : bitsOf v 9 0 ≠ 0) (hlo : bitsOf v 25 16 < s.lanH)
include hp hstate hn hlo

theorem State.updateRequest_apart {p : Pass} (ha : s.lan.active = some p) (happart : p.region.hi < (s.asked v).lo) (hq : s.lan.queue = []) :
    ∃ t, exec (.updateRequest m v) s = .next t ∧ t.lan = { s.lan with queue := [s.asked v] } ∧ s.lanOnly t [R.LAN_QUEUE] := by
  have ho : (s.asked v).overlaps p.region = false := decide_eq_false (by omega)
  exact ⟨_, congrArg Host.Outcome.next ((State.lanRequest_taken hp hstate hn hlo).trans (State.lanTake_apart ha hq ho)), State.showLan_lan _,
    s.lanOnly_showLan _⟩

theorem State.updateRequest_merge {p : Pass} (ha : s.lan.active = some p) (h1 : p.region.lo ≤ (s.asked v).hi)
    (h2 : (s.asked v).lo ≤ p.region.hi) (hc : p.cursor ≤ (s.asked v).lo) :
    ∃ t q, exec (.updateRequest m v) s = .next t ∧ t.lan = { s.lan with active := some q } ∧
      q.region.hi = max p.region.hi (s.asked v).hi ∧ q.region.force = (p.region.force || (s.asked v).force) ∧
      q.rewrite = p.rewrite ∧ q.cursor = p.cursor ∧ s.lanOnly t [R.LAN_QUEUE] := by
  have ho : (s.asked v).overlaps p.region = true := decide_eq_true ⟨h2, h1⟩
  exact ⟨_, p.merge (s.asked v), congrArg Host.Outcome.next ((State.lanRequest_taken hp hstate hn hlo).trans (State.lanTake_merge ha ho)),
    State.showLan_lan _, rfl, rfl, Pass.merge_ahead hc, rfl, s.lanOnly_showLan _⟩

theorem State.updateRequest_idle (ha : s.lan.active = none) (hq : s.lan.queue = []) (hf : (s.asked v).force = true) :
    ∃ t p, exec (.updateRequest m v) s = .next t ∧ t.atLine p (s.asked v).lo ∧ p.region = s.asked v ∧
      ∀ y, y ≠ (s.asked v).lo → y < 960 → t.dirty y = s.dirty y := by
  have hr : (s.asked v).lo ≤ (s.asked v).hi := by unfold State.asked; dsimp only; omega
  obtain ⟨q, hline, hregion, -, -, -, -, -, -, hdirty⟩ := (s.withTaken (s.asked v)).offerLine_spec (s.taken (s.asked v)) (s.asked v).lo
  exact ⟨_, q, congrArg Host.Outcome.next ((State.lanRequest_taken hp hstate hn hlo).trans (State.lanTake_idle ha hq hf hr)), hline, hregion,
    fun y hy _ => hdirty y hy⟩

end
end Sys2Proof.Machine
end

section
/-!
Lantern's zones, its enable and its shutdown sequence (R448, R449, R451, R453, R454).
-/
namespace Sys2Proof.Machine

/-! ## Bands of the zones -/

/-- The band in force and its drive entry. -/
def State.drive (s : State) : Nat × Word := (s.f F.LAN_STATUS_BAND, s.reg (R.LAN_DRV (s.f F.LAN_STATUS_BAND)))

theorem State.regsOnly_showBands (s : State) : s.regsOnly s.showBands [R.LAN_STATUS] :=
  State.regsOnly_foldl _ _ _ s fun u z _ => u.regsOnly_setReg _ (by simp)

/-- ZBAND alone shows which zones have applied the band. -/
theorem State.f_showBands (s : State) (x : Fld) (hx : x.hi < 16 ∨ 19 < x.lo) : s.showBands.f x = s.f x :=
  List.foldlRecOn (List.range 4) _ (motive := fun t : State => t.f x = s.f x) rfl fun t ht z hz =>
    (State.f_put_bits t ⟨R.LAN_STATUS, 16 + z, 16 + z⟩ x _ (Nat.le_refl _) (by have := List.mem_range.mp hz; dsimp only; omega)).trans ht

theorem State.drive_congr {s t : State} (hb : t.f F.LAN_STATUS_BAND = s.f F.LAN_STATUS_BAND)
    (hr : ∀ a, a ≠ R.LAN_STATUS → t.reg a = s.reg a) : t.drive = s.drive := by
  unfold State.drive
  rw [hb, hr _ (by simp only [R.LAN_DRV, R.LAN_STATUS]; omega)]

/-- Lantern's state with the band in force applied in zone z. -/
def State.withBand (s : State) (z : Nat) : LanSt := { s.lan with applied := tput s.lan.applied z s.drive }

/-- Zone z applies the band: Lantern's state holds it for the zone, and ZBAND shows it. -/
theorem State.regsOnly_applyBand (s : State) (z : Nat) : ({ s with lan := s.withBand z } : State).regsOnly (s.applyBand z) [R.LAN_STATUS] :=
  State.regsOnly_showBands _

theorem State.applyBand_lan (s : State) (z : Nat) : (s.applyBand z).lan = s.withBand z := State.regsOnly_lan (s.regsOnly_applyBand z)

theorem State.reg_applyBand (s : State) (z a : Nat) (h : a ≠ R.LAN_STATUS) : (s.applyBand z).reg a = s.reg a :=
  (s.regsOnly_applyBand z).2 a (by simpa using h)

theorem State.f_applyBand (s : State) (z : Nat) (x : Fld) (hx : x.hi < 16 ∨ 19 < x.lo) : (s.applyBand z).f x = s.f x :=
  State.f_showBands _ x hx

theorem State.drive_applyBand (s : State) (z : Nat) : (s.applyBand z).drive = s.drive :=
  State.drive_congr (s.f_applyBand z _ (by decide)) fun a ha => s.reg_applyBand z a ha

/-- Zones that apply the band one after another hold the same drive. -/
theorem State.applied_foldl_applyBand (l : List Nat) (s : State) :
    (l.foldl (·.applyBand ·) s).lan = { s.lan with applied := l.foldl (fun t z => tput t z s.drive) s.lan.applied } := by
  induction l generalizing s with
  | nil => rfl
  | cons z l ih =>
    rw [List.foldl_cons, ih, s.drive_applyBand z, s.applyBand_lan z]; rfl

theorem State.regsOnly_foldl_applyBand (l : List Nat) (s : State) :
    ({ s with lan := (l.foldl (·.applyBand ·) s).lan } : State).regsOnly (l.foldl (·.applyBand ·) s) [R.LAN_STATUS] := by
  induction l generalizing s with
  | nil => exact State.regsOnly_refl _ _
  | cons z l ih => exact State.regsOnly_trans ((s.regsOnly_applyBand z).withLan _) (ih (s.applyBand z))

theorem State.f_foldl_applyBand (l : List Nat) (s : State) (x : Fld) (hx : x.hi < 16 ∨ 19 < x.lo) :
    (l.foldl (·.applyBand ·) s).f x = s.f x :=
  List.foldlRecOn l _ (motive := fun t : State => t.f x = s.f x) rfl fun t ht z _ => (t.f_applyBand z x hx).trans ht

/-! ## The start of common drive -/

/-- A table filled key by key holds each key's value. -/
theorem tget?_foldl_tput {β : Type} (g : Nat → β) (l : List Nat) (t : Tbl β) (k : Nat) :
    tget? (l.foldl (fun t z => tput t z (g z)) t) k = if k ∈ l then some (g k) else tget? t k := by
  induction l generalizing t with
  | nil => simp
  | cons z l ih =>
    rw [List.foldl_cons, ih]
    by_cases hk : k ∈ l
    · simp [hk]
    · by_cases hz : k = z
      · subst hz; simp [hk]
      · simp [hk, hz, tget?_tput_other _ _ _ _ hz]

/-- Of four zones every bit of the sum of the enabled ones' powers says whether its zone is among them. -/
theorem getLsbD_zoneMask (p : Nat → Bool) {z : Nat} (hz : z < 4) :
    (BitVec.ofNat 4 (((List.range 4).filter p).foldl (fun n z => n + 2 ^ z) 0)).getLsbD z = p z := by
  have hall : ∀ a b c d : Bool, ∀ i : Fin 4, (BitVec.ofNat 4 (((List.range 4).filter fun k => [a, b, c, d].getD k false).foldl
      (fun n z => n + 2 ^ z) 0)).getLsbD i = [a, b, c, d].getD i false := by decide
  have hp : ∀ k, k < 4 → p k = [p 0, p 1, p 2, p 3].getD k false := fun k hk => by interval_cases k <;> rfl
  rw [List.filter_congr fun k hk => hp k (List.mem_range.mp hk), hp z hz]
  exact hall _ _ _ _ ⟨z, hz⟩

theorem State.mem_zones (s : State) {z : Nat} (hz : z < 4) (h : s.zoneOn z = true) : z ∈ (List.range 4).filter s.zoneOn :=
  List.mem_filter.mpr ⟨List.mem_range.mpr hz, h⟩

/-- The pins and Lantern's state as common drive starts, before the zones apply the band. -/
def State.drivePins (s : State) : PinSt :=
  { s.pins with vcomEn := true, gclr := true,
                vcom := BitVec.ofNat 4 (((List.range 4).filter s.zoneOn).foldl (fun n z => n + 2 ^ z) 0) }
def State.driveLan (s : State) : LanSt :=
  { s.lan with applied := [],
               toggleAt := ((List.range 4).filter s.zoneOn).foldl (fun t z => tput t z (s.mono + s.firstToggle z * usUnits)) [] }
def State.driveStart (s : State) : State := ({ s with pins := s.drivePins, lan := s.driveLan } : State).put F.LAN_STATUS_STATE 2

theorem State.driveZones_eq (s : State) : s.driveZones = ((List.range 4).filter s.zoneOn).foldl (·.applyBand ·) s.driveStart := rfl

theorem State.regsOnly_driveZones (s : State) :
    ({ s with pins := s.drivePins, lan := s.driveZones.lan } : State).regsOnly s.driveZones [R.LAN_STATUS] := by
  have hzones := State.regsOnly_foldl_applyBand ((List.range 4).filter s.zoneOn) s.driveStart
  refine State.regsOnly_trans ?_ hzones
  exact State.regsOnly_put ({ s with pins := s.drivePins, lan := s.driveZones.lan } : State) (x := F.LAN_STATUS_STATE) 2 (by simp [F.LAN_STATUS_STATE])

theorem State.drive_driveStart (s : State) : s.driveStart.drive = s.drive :=
  State.drive_congr (State.f_put_bits _ _ _ _ (by decide) (by decide)) fun a ha => State.reg_put_other _ _ _ _ ha

theorem State.driveZones_lan (s : State) : s.driveZones.lan =
    { s.driveLan with applied := ((List.range 4).filter s.zoneOn).foldl (fun t z => tput t z s.drive) [] } := by
  have h := State.applied_foldl_applyBand ((List.range 4).filter s.zoneOn) s.driveStart
  rw [s.drive_driveStart] at h
  exact h

/-- COMMON_DRIVE_START at its instant. -/
theorem State.commonDrive_due {s₀ s : State} (hs : s₀.f F.LAN_STATUS_STATE = 1)
    (h : s₀.comesAt (s₀.cyclesTo 0 (s₀.lan.since + s₀.railUs * usUnits)) = some s) : s₀.commonDrive = s.driveZones := by
  unfold State.commonDrive State.lanState
  rw [if_pos hs]
  exact State.whenDue_of_some _ h

theorem State.commonDrive_early {s : State} (hs : s.f F.LAN_STATUS_STATE = 1)
    (h : s.comesAt (s.cyclesTo 0 (s.lan.since + s.railUs * usUnits)) = none) : s.commonDrive = s := by
  unfold State.commonDrive State.lanState
  rw [if_pos hs]
  exact State.whenDue_of_none _ h

theorem State.commonDrive_off {s : State} (hs : s.f F.LAN_STATUS_STATE ≠ 1) : s.commonDrive = s := if_neg hs

theorem State.execCommonDriveStart_due {s₀ s : State} (hs : s₀.f F.LAN_STATUS_STATE = 1)
    (h : s₀.comesAt (s₀.cyclesTo 0 (s₀.lan.since + s₀.railUs * usUnits)) = some s) :
    ∃ t, exec .commonDriveStart s₀ = .next t ∧ t.f F.LAN_STATUS_STATE = 2 ∧ t.pins.vcomEn = true ∧ t.pins.gclr = true ∧
      (∀ z, z < 4 → t.pins.vcom.getLsbD z = s.zoneOn z) ∧
      (∀ z, z < 4 → s.zoneOn z = true → tget? t.lan.toggleAt z = some ((s.base 0).total + s.firstToggle z * usUnits) ∧
        tget? t.lan.applied z = some (s.f F.LAN_STATUS_BAND, s.reg (R.LAN_DRV (s.f F.LAN_STATUS_BAND)))) ∧
      ({ s with pins := t.pins } : State).lanOnly t [R.LAN_STATUS] := by
  have hframe := s.regsOnly_driveZones
  have hpins : s.driveZones.pins = s.drivePins := State.regsOnly_pins hframe
  refine ⟨_, congrArg Host.Outcome.next (State.commonDrive_due hs h), ?_, by rw [hpins]; rfl, by rw [hpins]; rfl, fun z hz => ?_, fun z hz hon => ?_,
    State.lanOnly_of_pins hframe⟩
  · rw [State.driveZones_eq, State.f_foldl_applyBand _ _ _ (by decide)]
    exact State.f_put_same _ _ _ (by decide) (by decide)
  · rw [hpins]; exact getLsbD_zoneMask s.zoneOn hz
  · have hm := s.mem_zones hz hon
    rw [s.driveZones_lan]
    exact ⟨(tget?_foldl_tput _ _ _ _).trans (if_pos hm), (tget?_foldl_tput (fun _ => s.drive) _ _ _).trans (if_pos hm)⟩

/-! ## A toggle -/

/-- The pins and Lantern's state after zone z has changed phase, before it applies the band. -/
def State.flippedPins (s : State) (z : Nat) : PinSt := { s.pins with vcom := s.pins.vcom ^^^ BitVec.ofNat 4 (2 ^ z) }
def State.flippedLan (s : State) (z : Nat) : LanSt :=
  { s.lan with toggleAt := tput s.lan.toggleAt z (tget 0 s.lan.toggleAt z + s.halfPeriod z * usUnits) }

/-- The state after zone z has changed phase and applied the band. -/
def State.flipped (s : State) (z : Nat) : State := ({ s with pins := s.flippedPins z, lan := s.flippedLan z } : State).applyBand z

theorem State.toggle_eq (s : State) (z : Nat) : s.toggle z = (s.flipped z).startWaiting z := rfl

theorem State.flipped_lan (s : State) (z : Nat) : (s.flipped z).lan = { s.flippedLan z with applied := tput s.lan.applied z s.drive } :=
  State.applyBand_lan _ z

theorem State.regsOnly_flipped (s : State) (z : Nat) :
    ({ s with pins := s.flippedPins z, lan := { s.flippedLan z with applied := tput s.lan.applied z s.drive } } : State).regsOnly
      (s.flipped z) [R.LAN_STATUS] :=
  State.regsOnly_applyBand _ z

theorem State.zoneOf_flipped (s : State) (z y : Nat) : (s.flipped z).zoneOf y = s.zoneOf y :=
  State.zoneOf_congr (fun k hk => State.reg_applyBand _ z _ (by simp only [R.LAN_ZONE, R.LAN_STATUS]; omega)) y

/-- VCOM_TOGGLE at its zone's instant. -/
theorem State.vcomToggle_due {s₀ s : State} {z : Nat} (hon : s₀.zoneOn z = true)
    (hs : s₀.f F.LAN_STATUS_STATE = 2 ∨ s₀.f F.LAN_STATUS_STATE = 3)
    (h : s₀.comesAt (s₀.cyclesTo 0 (tget 0 s₀.lan.toggleAt z)) = some s) : s₀.vcomToggle z = s.toggle z := by
  unfold State.vcomToggle State.lanState
  rw [if_pos (by simp [hon, hs])]
  exact State.whenDue_of_some _ h

theorem State.vcomToggle_early {s : State} {z : Nat} (hon : s.zoneOn z = true)
    (hs : s.f F.LAN_STATUS_STATE = 2 ∨ s.f F.LAN_STATUS_STATE = 3)
    (h : s.comesAt (s.cyclesTo 0 (tget 0 s.lan.toggleAt z)) = none) : s.vcomToggle z = s := by
  unfold State.vcomToggle State.lanState
  rw [if_pos (by simp [hon, hs])]
  exact State.whenDue_of_none _ h

theorem State.vcomToggle_off {s : State} {z : Nat}
    (h : s.zoneOn z = false ∨ s.f F.LAN_STATUS_STATE ≠ 2 ∧ s.f F.LAN_STATUS_STATE ≠ 3) : s.vcomToggle z = s := by
  unfold State.vcomToggle State.lanState
  exact if_neg (by rcases h with h | ⟨h2, h3⟩ <;> simp [*])

/-- What a toggle of zone z leaves on the pins and for its next toggle. -/
def State.Flips (s : State) (z : Nat) (t : State) : Prop :=
  t.pins = { s.pins with vcom := s.pins.vcom ^^^ BitVec.ofNat 4 (2 ^ z) } ∧
  tget? t.lan.toggleAt z = some (tget 0 s.lan.toggleAt z + s.halfPeriod z * usUnits) ∧
  tget? t.lan.applied z = some (s.f F.LAN_STATUS_BAND, s.reg (R.LAN_DRV (s.f F.LAN_STATUS_BAND)))

theorem State.flips_flipped (s : State) (z : Nat) : s.Flips z (s.flipped z) := by
  refine ⟨State.regsOnly_pins (s.regsOnly_flipped z), ?_, ?_⟩ <;> rw [s.flipped_lan z] <;> exact tget?_tput_same _ _ _

/-- No line waits for the zone's toggle. -/
theorem State.toggle_noWait {s : State} {z : Nat} (h : ∀ p, s.lan.active = some p → p.waiting = false ∨ s.zoneOf p.cursor ≠ z) :
    s.toggle z = s.flipped z := by
  rw [State.toggle_eq]
  unfold State.startWaiting
  split
  · next p hp =>
    have hact : s.lan.active = some p := by rw [s.flipped_lan z] at hp; exact hp
    rw [s.zoneOf_flipped z]
    exact if_neg (by rcases h p hact with hw | hw <;> simp [hw])
  · rfl

/-- The line that waits for the zone's toggle starts. -/
theorem State.toggle_wait {s : State} {z : Nat} {p : Pass} (ha : s.lan.active = some p) (hw : p.waiting = true)
    (hz : s.zoneOf p.cursor = z) : s.toggle z = ((s.flipped z).startLine p p.cursor).showLan := by
  have hact : (s.flipped z).lan.active = some p := by rw [s.flipped_lan z]; exact ha
  rw [State.toggle_eq]
  unfold State.startWaiting
  rw [hact]
  dsimp only
  rw [s.zoneOf_flipped z, if_pos (by simp [hw, hz])]

theorem State.execToggle_noWait {s₀ s : State} {z : Zone} (hon : s₀.zoneOn z.val = true)
    (hs : s₀.f F.LAN_STATUS_STATE = 2 ∨ s₀.f F.LAN_STATUS_STATE = 3)
    (h : s₀.comesAt (s₀.cyclesTo 0 (tget 0 s₀.lan.toggleAt z.val)) = some s)
    (hw : ∀ p, s.lan.active = some p → p.waiting = false ∨ s.zoneOf p.cursor ≠ z.val) :
    ∃ t, exec (.vcomToggle z) s₀ = .next t ∧ s.Flips z.val t ∧ ({ s with pins := t.pins } : State).lanOnly t [R.LAN_STATUS] :=
  ⟨_, congrArg Host.Outcome.next ((State.vcomToggle_due hon hs h).trans (State.toggle_noWait hw)), s.flips_flipped z.val,
    State.lanOnly_of_pins (s.regsOnly_flipped z.val)⟩

theorem State.startLine_lan (s : State) (p : Pass) (y : Nat) :
    (s.startLine p y).lan = { s.lan with active := some (s.started p y) } := rfl

theorem State.startLine_pins (s : State) (p : Pass) (y : Nat) : (s.startLine p y).pins = s.pins := rfl

theorem State.execToggle_wait {s₀ s : State} {z : Zone} {p : Pass} (hon : s₀.zoneOn z.val = true)
    (hs : s₀.f F.LAN_STATUS_STATE = 2 ∨ s₀.f F.LAN_STATUS_STATE = 3)
    (h : s₀.comesAt (s₀.cyclesTo 0 (tget 0 s₀.lan.toggleAt z.val)) = some s) (hw : p.waiting = true)
    (hz : s.zoneOf p.cursor = z.val) (ha : s.lan.active = some p) :
    ∃ t q, exec (.vcomToggle z) s₀ = .next t ∧ s.Flips z.val t ∧ t.lan.active = some q ∧ q.line = some p.cursor ∧
      q.cursor = p.cursor + 1 ∧ q.waiting = false ∧ (p.cursor < 960 → t.dirty p.cursor = false) ∧ t.lan.queue = s.lan.queue := by
  obtain ⟨hpins, htoggle, happlied⟩ := s.flips_flipped z.val
  have hlan : ((s.flipped z.val).startLine p p.cursor).showLan.lan =
      { (s.flipped z.val).lan with active := some ((s.flipped z.val).started p p.cursor) } :=
    (State.showLan_lan _).trans (State.startLine_lan _ _ _)
  have hpins' : ((s.flipped z.val).startLine p p.cursor).showLan.pins = (s.flipped z.val).pins :=
    (State.showLan_pins _).trans (State.startLine_pins _ _ _)
  have hqueue : (s.flipped z.val).lan.queue = s.lan.queue := (congrArg LanSt.queue (s.flipped_lan z.val)).trans rfl
  refine ⟨_, (s.flipped z.val).started p p.cursor,
    congrArg Host.Outcome.next ((State.vcomToggle_due hon hs h).trans (State.toggle_wait ha hw hz)),
    ⟨hpins'.trans hpins, (congrArg (tget? ·.toggleAt z.val) hlan).trans htoggle, (congrArg (tget? ·.applied z.val) hlan).trans happlied⟩,
    congrArg LanSt.active hlan, rfl, rfl, rfl, fun _ => ?_, (congrArg LanSt.queue hlan).trans hqueue⟩
  rw [State.dirty_showLan, State.startLine_eq, State.dirty_setDirty, if_pos rfl]

/-! ## GCLR_RELEASE -/

/-- The state in which the clear has ended, and the region that then fills the panel. -/
def State.cleared (s : State) : State := ({ s with pins := { s.pins with gclr := false } } : State).put F.LAN_STATUS_STATE 3
def State.fullFrame (s : State) : Lines := ⟨0, s.lanH - 1, true, true⟩

theorem State.state_cleared (s : State) (r : Lines) : (s.cleared.withTaken r).f F.LAN_STATUS_STATE = 3 := by
  have hput : s.cleared.f F.LAN_STATUS_STATE = 3 := State.f_put_same _ _ _ (by decide) (by decide)
  exact (State.f_congr _ rfl).trans hput

theorem State.gclrRelease_due {s₀ s : State} (hs : s₀.f F.LAN_STATUS_STATE = 2)
    (h : s₀.comesAt (s₀.cyclesTo 0 (s₀.lan.since + (s₀.railUs + 800) * usUnits)) = some s) :
    s₀.gclrRelease = s.cleared.lanTake s.fullFrame := by
  unfold State.gclrRelease State.lanState
  rw [if_pos hs]
  exact State.whenDue_of_some _ h

theorem State.gclrRelease_early {s : State} (hs : s.f F.LAN_STATUS_STATE = 2)
    (h : s.comesAt (s.cyclesTo 0 (s.lan.since + (s.railUs + 800) * usUnits)) = none) : s.gclrRelease = s := by
  unfold State.gclrRelease State.lanState
  rw [if_pos hs]
  exact State.whenDue_of_none _ h

theorem State.gclrRelease_off {s : State} (hs : s.f F.LAN_STATUS_STATE ≠ 2) : s.gclrRelease = s := if_neg hs

theorem State.execGclrRelease_due {s₀ s : State} (hs : s₀.f F.LAN_STATUS_STATE = 2)
    (h : s₀.comesAt (s₀.cyclesTo 0 (s₀.lan.since + (s₀.railUs + 800) * usUnits)) = some s) (ha : s.lan.active = none)
    (hq : s.lan.queue = []) : ∃ t p, exec .gclrRelease s₀ = .next t ∧ t.f F.LAN_STATUS_STATE = 3 ∧
      t.pins = { s.pins with gclr := false } ∧ t.atLine p 0 ∧ p.region = ⟨0, s.lanH - 1, true, true⟩ ∧
      (s.base 0).total ≤ p.readyAt ∧ p.readyAt ≤ (s.base 0).total + 2 * usUnits ∧ t.lan.queue = [] := by
  have hmono : s.cleared.mono = (s.base 0).total := State.mono_congr rfl
  obtain ⟨hmin, hmax⟩ := s.cleared.readyAt_taken s.fullFrame
  obtain ⟨q, hline, hregion, -, -, hat, hlan, hpins, himg, -⟩ :=
    (s.cleared.withTaken s.fullFrame).offerLine_spec (s.cleared.taken s.fullFrame) s.fullFrame.lo
  have htake := State.lanTake_idle (s := s.cleared) (r := s.fullFrame) ha hq rfl (Nat.zero_le _)
  rw [hmono, ← hat] at hmin hmax
  exact ⟨_, q, congrArg Host.Outcome.next ((State.gclrRelease_due hs h).trans htake),
    (himg.f _ (by decide) (by decide)).trans (s.state_cleared _), hpins, hline, hregion, hmin, hmax, congrArg LanSt.queue hlan⟩

/-! ## Enable -/

/-- The state in which the enable sequence has started, but for STATE and BAND. -/
def State.enabling (s : State) : State :=
  { s with lan := { s.lan with setWritten := false, since := s.mono }, pins := { s.pins with disch := false, railEn := true } }

theorem State.lanEnable_eq (s : State) :
    s.lanEnable = (s.enabling.put F.LAN_STATUS_STATE 1).put F.LAN_STATUS_BAND (s.f F.LAN_CTRL_DEF_BAND) := rfl

theorem State.regsOnly_lanEnable (s : State) : s.enabling.regsOnly s.lanEnable [R.LAN_STATUS] := by
  rw [State.lanEnable_eq]
  exact State.regsOnly_trans (State.regsOnly_put _ _ (by simp [F.LAN_STATUS_STATE])) (State.regsOnly_put _ _ (by simp [F.LAN_STATUS_BAND]))

/-- EN of LAN_CTRL takes the bit that a write gives it. -/
theorem State.en_writeReg (s : State) (v : Word) : (s.writeReg R.LAN_CTRL v).f F.LAN_CTRL_EN = bitsOf v 31 31 := by
  have hw : (s.writeReg R.LAN_CTRL v).reg R.LAN_CTRL =
      (⟨0x40100000, 0, 1, 0, 1, 0xFFFFE000, 0, 0, 0, 0x2058000, 0x40FF0000⟩ : RegInfo).written (s.reg R.LAN_CTRL) v :=
    State.reg_setReg_same _ _ _
  have hbit : ((s.writeReg R.LAN_CTRL v).reg R.LAN_CTRL).getLsbD 31 = v.getLsbD 31 := by
    rw [hw]; simp [RegInfo.written]
  refine Nat.eq_of_testBit_eq fun i => ?_
  rw [State.f, testBit_bitsOf, testBit_bitsOf]
  cases i with
  | zero => exact congrArg (true && ·) hbit
  | succ i => simp [F.LAN_CTRL_EN]

/-- LAN_CTRL.EN, written 1 while it is 0: the enable sequence starts. -/
theorem State.lanCtrlWrite_enable {s : State} (m : Master) (v : Word) (h0 : s.f F.LAN_CTRL_EN = 0) (h1 : bitsOf v 31 31 = 1) :
    s.lanCtrlWrite m v = (s.writeReg R.LAN_CTRL v).lanEnable := by
  have hwas : s.b F.LAN_CTRL_EN = false := by simp [State.b, h0]
  have hnow : (s.writeReg R.LAN_CTRL v).b F.LAN_CTRL_EN = true := by simp [State.b, State.en_writeReg, h1]
  unfold State.lanCtrlWrite
  simp [hwas, hnow]

theorem State.execLanternEnable_starts {s : State} (m : Master) (v : Word) (hp : s.variant.panelP = true) (h0 : s.f F.LAN_CTRL_EN = 0) :
    ∃ t, exec (.lanternEnable m v) s = .next t ∧ t.f F.LAN_CTRL_EN = 1 ∧ t.f F.LAN_STATUS_STATE = 1 ∧
      t.f F.LAN_STATUS_BAND = t.f F.LAN_CTRL_DEF_BAND ∧ t.pins = { s.pins with disch := false, railEn := true } ∧
      t.lan = { s.lan with setWritten := false, since := (s.base 0).total } ∧
      ({ s with pins := t.pins, lan := t.lan } : State).regsOnly t [R.LAN_CTRL, R.LAN_STATUS] := by
  have hv : bitsOf (withBits v 31 31 1) 31 31 = 1 := bitsOf_withBits_same v 31 31 1 (by decide) (by decide)
  let u := s.writeReg R.LAN_CTRL (withBits v 31 31 1)
  have hexec : exec (.lanternEnable m v) s = .next u.lanEnable := by
    rw [show exec (.lanternEnable m v) s = if s.lanExists then .next (s.lanCtrlWrite m (withBits v 31 31 1)) else .next s from rfl,
      if_pos (show s.lanExists = true from hp), State.lanCtrlWrite_enable m _ h0 hv]
  have hframe := u.regsOnly_lanEnable
  have hpins : u.lanEnable.pins = { s.pins with disch := false, railEn := true } := State.regsOnly_pins hframe
  have hlan : u.lanEnable.lan = { s.lan with setWritten := false, since := (s.base 0).total } :=
    (State.regsOnly_lan hframe).trans (congrArg (fun n => ({ s.lan with setWritten := false, since := n } : LanSt)) (State.mono_congr rfl))
  refine ⟨_, hexec, ?_, ?_, ?_, hpins, hlan, ?_⟩
  · rw [State.regsOnly_f hframe _ (by decide)]
    exact (s.en_writeReg _).trans hv
  · rw [State.lanEnable_eq, State.f_put_bits _ _ _ _ (by decide) (by decide), State.f_put_same _ _ _ (by decide) (by decide)]; rfl
  · rw [State.regsOnly_f hframe F.LAN_CTRL_DEF_BAND (by decide), State.lanEnable_eq, State.f_put_same _ _ _ (by decide) (by decide)]
    exact Nat.mod_eq_of_lt (State.f_lt _ _)
  · have hw : ({ s with pins := u.lanEnable.pins, lan := u.lanEnable.lan } : State).regsOnly
        ({ u with pins := u.lanEnable.pins, lan := u.lanEnable.lan } : State) [R.LAN_CTRL, R.LAN_STATUS] :=
      State.regsOnly_setReg ({ s with pins := u.lanEnable.pins, lan := u.lanEnable.lan } : State) _ (by simp)
    have hen : ({ u with pins := u.lanEnable.pins, lan := u.lanEnable.lan } : State) = u.enabling := by
      rw [State.regsOnly_pins hframe, State.regsOnly_lan hframe]; rfl
    rw [hen] at hw
    exact State.regsOnly_trans hw (hframe.mono (by simp))

/-! ## Shutdown -/

/-- Lantern's state as a shutdown starts. -/
def State.shutLan (s : State) : LanSt := { s.lan with active := none, queue := [], shutStep := 0, since := s.mono }

/-- The registers that a shutdown's start changes. -/
def shutRegs : List Nat := R.LAN_STATUS :: R.LAN_QUEUE :: dirtyRegs

/-- Every line is dirty. -/
def State.allDirty (s : State) : State := (List.range 30).foldl (fun s i => s.setReg (R.LAN_DIRTY i) (BitVec.allOnes 32)) s

theorem State.regsOnly_allDirty (s : State) : s.regsOnly s.allDirty dirtyRegs :=
  State.regsOnly_foldl _ _ _ s fun u i hi => u.regsOnly_setReg _ (List.mem_map.mpr ⟨i, hi, rfl⟩)

theorem State.reg_foldl_setReg (g : Nat → Nat) (w : Word) (l : List Nat) (s : State) (a : Nat) :
    (l.foldl (fun s i => s.setReg (g i) w) s).reg a = if a ∈ l.map g then w else s.reg a := by
  induction l generalizing s with
  | nil => simp
  | cons i l ih =>
    rw [List.foldl_cons, ih, State.reg_setReg, List.map_cons]
    by_cases hl : a ∈ l.map g
    · simp [hl]
    · by_cases hi : a = g i <;> simp [hi, hl]

theorem State.dirty_allDirty (s : State) {y : Nat} (h : y < 960) : s.allDirty.dirty y = true := by
  have hreg : s.allDirty.reg (R.LAN_DIRTY 0 + 4 * (y / 32)) = BitVec.allOnes 32 :=
    (State.reg_foldl_setReg R.LAN_DIRTY _ _ _ _).trans (if_pos (dirtyReg_mem h))
  unfold State.dirty State.bit
  rw [hreg, BitVec.getLsbD_allOnes]
  exact decide_eq_true (Nat.mod_lt _ (by decide))

theorem State.lanShutdown_eq {s : State} (h0 : s.f F.LAN_STATUS_STATE ≠ 0) (h4 : s.f F.LAN_STATUS_STATE ≠ 4) :
    s.lanShutdown = (({ s with lan := s.shutLan } : State).put F.LAN_STATUS_STATE 4).allDirty.showLan := by
  unfold State.lanShutdown State.lanState
  rw [if_neg (by omega)]; rfl

section
variable {s : State} (h0 : s.f F.LAN_STATUS_STATE ≠ 0) (h4 : s.f F.LAN_STATUS_STATE ≠ 4)
include h0 h4

theorem State.regsOnly_lanShutdown : ({ s with lan := s.shutLan } : State).regsOnly s.lanShutdown shutRegs := by
  rw [State.lanShutdown_eq h0 h4]
  have hstate := State.regsOnly_put ({ s with lan := s.shutLan } : State) (x := F.LAN_STATUS_STATE) (l := shutRegs) 4
    (by simp [shutRegs, F.LAN_STATUS_STATE])
  have hdirty := (State.regsOnly_allDirty (({ s with lan := s.shutLan } : State).put F.LAN_STATUS_STATE 4)).mono (l' := shutRegs)
    fun a ha => by simp [shutRegs, ha]
  exact State.regsOnly_trans hstate (State.regsOnly_trans hdirty ((State.regsOnly_showLan _).mono (by simp [shutRegs])))

theorem State.state_lanShutdown : s.lanShutdown.f F.LAN_STATUS_STATE = 4 := by
  rw [State.lanShutdown_eq h0 h4, State.f_showLan _ _ (by decide), State.regsOnly_f (State.regsOnly_allDirty _) _ (by decide)]
  exact State.f_put_same _ _ _ (by decide) (by decide)

theorem State.dirty_lanShutdown {y : Nat} (hy : y < 960) : s.lanShutdown.dirty y = true := by
  rw [State.lanShutdown_eq h0 h4, State.dirty_showLan]
  exact State.dirty_allDirty _ hy

end

/-- What a write of LAN_CTRL keeps of BPP and DIV while EN is 1. -/
def State.keptCtrl (s : State) (v : Word) : Word := withBits v 29 24 (bitsOf (s.reg R.LAN_CTRL) 29 24)

/-- The state after LAN_CTRL took a write while EN is 1: an ignored change of BPP or DIV is recorded. -/
def State.ctrlTaken (s : State) (m : Master) (v : Word) : State :=
  if s.keptCtrl v ≠ v then (s.writeReg R.LAN_CTRL (s.keptCtrl v)).recordWrite m R.LAN_CTRL v else s.writeReg R.LAN_CTRL (s.keptCtrl v)

theorem State.logFrame_ctrlTaken (s : State) (m : Master) (v : Word) :
    (s.writeReg R.LAN_CTRL (s.keptCtrl v)).logFrame (s.ctrlTaken m v) := by
  unfold State.ctrlTaken
  split
  · exact State.logFrame_recordWrite _ _ _ _ _
  · exact State.logFrame_refl _

theorem State.ctrlTaken_mem (s : State) (m : Master) (v : Word) : (s.ctrlTaken m v).mem = s.mem := by
  unfold State.ctrlTaken
  split
  · exact State.recordWrite_mem _ _ _ _ _
  · rfl

theorem State.en_ctrlTaken (s : State) (m : Master) (v : Word) : (s.ctrlTaken m v).f F.LAN_CTRL_EN = bitsOf v 31 31 := by
  rw [State.logFrame_f (s.logFrame_ctrlTaken m v) _ rfl, State.en_writeReg]
  exact bitsOf_withBits_other v 29 24 _ 31 31 (by decide) (by decide)

/-- LAN_CTRL.EN, written 0 while it is 1: the shutdown sequence starts. -/
theorem State.lanCtrlWrite_disable {s : State} (m : Master) (v : Word) (h1 : s.f F.LAN_CTRL_EN = 1) (h0 : bitsOf v 31 31 = 0) :
    s.lanCtrlWrite m v = (s.ctrlTaken m v).lanShutdown := by
  have hwas : s.b F.LAN_CTRL_EN = true := by simp [State.b, h1]
  have hnow : (s.ctrlTaken m v).b F.LAN_CTRL_EN = false := by simp [State.b, State.en_ctrlTaken, h0]
  unfold State.lanCtrlWrite
  simp only [hwas, if_true, true_and, Bool.not_true, Bool.and_false, Bool.true_and]
  change (if false = true then _ else if !(s.ctrlTaken m v).b F.LAN_CTRL_EN then (s.ctrlTaken m v).lanShutdown else s.ctrlTaken m v) = _
  simp [hnow]

theorem State.execLanternDisable_shuts {s : State} (m : Master) (v : Word) (hp : s.variant.panelP = true) (h1 : s.f F.LAN_CTRL_EN = 1)
    (h0 : s.f F.LAN_STATUS_STATE ≠ 0) (h4 : s.f F.LAN_STATUS_STATE ≠ 4) :
    ∃ t, exec (.lanternDisable m v) s = .next t ∧ t.f F.LAN_CTRL_EN = 0 ∧ t.f F.LAN_STATUS_STATE = 4 ∧
      t.lan = { s.lan with active := none, queue := [], shutStep := 0, since := (s.base 0).total } ∧
      (∀ y, y < 960 → t.dirty y = true) ∧ t.pins = s.pins ∧ t.mem = s.mem := by
  have hv : bitsOf (withBits v 31 31 0) 31 31 = 0 := bitsOf_withBits_same v 31 31 0 (by decide) (by decide)
  let u := s.ctrlTaken m (withBits v 31 31 0)
  have hlog : (s.writeReg R.LAN_CTRL (s.keptCtrl (withBits v 31 31 0))).logFrame u := s.logFrame_ctrlTaken m _
  have hexec : exec (.lanternDisable m v) s = .next u.lanShutdown := by
    rw [show exec (.lanternDisable m v) s = if s.lanExists then .next (s.lanCtrlWrite m (withBits v 31 31 0)) else .next s from rfl,
      if_pos (show s.lanExists = true from hp), State.lanCtrlWrite_disable m _ h1 hv]
  have hstate : u.f F.LAN_STATUS_STATE = s.f F.LAN_STATUS_STATE :=
    (State.logFrame_f hlog _ rfl).trans (State.f_congr _ (State.reg_setReg_other _ _ _ _ (by decide)))
  rw [← hstate] at h0 h4
  have hframe := State.regsOnly_lanShutdown h0 h4
  have hlan : u.lan = s.lan := (State.logFrame_lan hlog).trans rfl
  have hmono : u.mono = (s.base 0).total := State.mono_congr ((State.logFrame_time hlog).trans rfl)
  refine ⟨_, hexec, ?_, State.state_lanShutdown h0 h4, ?_, fun y hy => State.dirty_lanShutdown h0 h4 hy,
    (State.regsOnly_pins hframe).trans ((State.logFrame_pins hlog).trans rfl), (State.regsOnly_mem hframe).trans (s.ctrlTaken_mem m _)⟩
  · rw [State.regsOnly_f hframe _ (by decide)]
    exact (s.en_ctrlTaken m _).trans hv
  · rw [State.regsOnly_lan hframe, State.shutLan, hlan, hmono]

/-! ## The shutdown rows -/

theorem State.shutRow_early {s : State} {n us : Nat} (g : PinSt → PinSt) (hs : s.f F.LAN_STATUS_STATE = 4) (hn : s.lan.shutStep = n)
    (h : s.comesAt (s.cyclesTo 0 (s.lan.since + us * usUnits)) = none) : s.shutRow n us g = s := by
  unfold State.shutRow State.lanState
  rw [if_pos ⟨hs, hn⟩]
  exact State.whenDue_of_none _ h

theorem State.shutRow_due {s₀ s : State} {n us : Nat} (g : PinSt → PinSt) (hs : s₀.f F.LAN_STATUS_STATE = 4) (hn : s₀.lan.shutStep = n)
    (h : s₀.comesAt (s₀.cyclesTo 0 (s₀.lan.since + us * usUnits)) = some s) :
    s₀.shutRow n us g = { s with pins := g s.pins, lan := { s.lan with shutStep := n + 1 } } := by
  unfold State.shutRow State.lanState
  rw [if_pos ⟨hs, hn⟩]
  exact State.whenDue_of_some _ h

theorem State.shutRow_other {s : State} {n : Nat} (us : Nat) (g : PinSt → PinSt) (h : s.f F.LAN_STATUS_STATE ≠ 4 ∨ s.lan.shutStep ≠ n) :
    s.shutRow n us g = s :=
  if_neg fun hc => h.elim (· hc.1) (· hc.2)

theorem State.execShutdownEnd_due {s₀ s : State} (hs : s₀.f F.LAN_STATUS_STATE = 4) (hn : s₀.lan.shutStep = 3)
    (h : s₀.comesAt (s₀.cyclesTo 0 (s₀.lan.since + 2000 * usUnits)) = some s) :
    ∃ t, exec .shutdownEnd s₀ = .next t ∧ t.f F.LAN_STATUS_STATE = 0 ∧ s.regsOnly t [R.LAN_STATUS] := by
  have hend : s₀.shutEnd = s.put F.LAN_STATUS_STATE 0 := by
    unfold State.shutEnd State.lanState
    rw [if_pos ⟨hs, hn⟩]
    exact State.whenDue_of_some _ h
  exact ⟨_, congrArg Host.Outcome.next hend, State.f_put_same _ _ _ (by decide) (by decide),
    s.regsOnly_put 0 (by simp [F.LAN_STATUS_STATE])⟩

theorem State.shutEnd_other {s : State} (h : s.f F.LAN_STATUS_STATE ≠ 4 ∨ s.lan.shutStep ≠ 3) : s.shutEnd = s :=
  if_neg fun hc => h.elim (· hc.1) (· hc.2)

theorem State.shutEnd_early {s : State} (hs : s.f F.LAN_STATUS_STATE = 4) (hn : s.lan.shutStep = 3)
    (h : s.comesAt (s.cyclesTo 0 (s.lan.since + 2000 * usUnits)) = none) : s.shutEnd = s := by
  unfold State.shutEnd State.lanState
  rw [if_pos ⟨hs, hn⟩]
  exact State.whenDue_of_none _ h
end Sys2Proof.Machine
end

section
/-!
The panel's temperature and crack loop, writes of the framebuffer, and the statement of O55 (R444, R450, R452).
-/
namespace Sys2Proof.Machine

/-! ## Temperature -/

/-- A write of a field keeps every field that shares no bit with it. -/
theorem State.f_put_apart (s : State) {x y : Fld} (v : Nat) (hl : x.lo ≤ x.hi) (h : y.addr ≠ x.addr ∨ y.hi < x.lo ∨ x.hi < y.lo) :
    (s.put x v).f y = s.f y :=
  h.elim (s.f_put_addr x y v) (s.f_put_bits x y v hl)

/-- The fields that a temperature sample writes. -/
def tempFields : List Fld :=
  [F.LAN_STATUS_TEMP_INV, F.LAN_TNOW_VALID, F.LAN_TNOW_T, F.LAN_STATUS_BAND, F.LAN_STATUS_BANDCHG, F.LAN_STATUS_ZBAND]

/-- The state that shows whether the panel temperature is valid. -/
def State.tempShown (s : State) (ok : Bool) : State := (s.putb F.LAN_STATUS_TEMP_INV (!ok)).putb F.LAN_TNOW_VALID ok

/-- The state that shows another band. -/
def State.bandMoved (s : State) (b : Nat) : State :=
  ((((s.put F.LAN_STATUS_BAND b).put F.LAN_STATUS_BANDCHG 1).event 0x1001 []).assertSrc 195).showBands

/-- A temperature sample shows whether the value is valid, then perhaps the value, then perhaps another band. -/
theorem State.takeTemp_cases (s : State) : s.takeTemp = s.tempShown s.panelTemp.1 ∨
    ∃ (u : State) (v : Nat), u.regs = (s.tempShown s.panelTemp.1).regs ∧
      (s.takeTemp = u.put F.LAN_TNOW_T v ∨ ∃ b, s.takeTemp = (u.put F.LAN_TNOW_T v).bandMoved b) := by
  unfold State.takeTemp
  generalize s.panelTemp = q
  obtain ⟨ok, t, unit⟩ := q
  dsimp only
  split
  · exact .inl rfl
  · right
    cases tenths t unit with
    | some x => exact ⟨s.tempShown ok, _, rfl, (ite_eq_or_eq _ _ _).imp_right fun h => ⟨_, h⟩⟩
    | none => exact ⟨((s.tempShown ok).draw 65536).2, _, rfl, (ite_eq_or_eq _ _ _).imp_right fun h => ⟨_, h⟩⟩

theorem State.takeTemp_invalid {s : State} (h : s.panelTemp.1 = false) : s.takeTemp = s.tempShown false := by
  unfold State.takeTemp
  revert h
  generalize s.panelTemp = q
  obtain ⟨ok, t, unit⟩ := q
  rintro rfl
  rfl

section
variable {x : Fld} (hx : ∀ y ∈ tempFields, x.addr ≠ y.addr ∨ x.hi < y.lo ∨ y.hi < x.lo)
include hx

theorem State.f_tempShown (s : State) (ok : Bool) : (s.tempShown ok).f x = s.f x :=
  (State.f_put_apart _ _ (by decide) (hx F.LAN_TNOW_VALID (by simp [tempFields]))).trans
    (State.f_put_apart _ _ (by decide) (hx F.LAN_STATUS_TEMP_INV (by simp [tempFields])))

theorem State.f_bandMoved (hlog : logReg x.addr = false) (s : State) (b : Nat) : (s.bandMoved b).f x = s.f x := by
  have hshow : ∀ u : State, u.showBands.f x = u.f x := fun u =>
    (hx F.LAN_STATUS_ZBAND (by simp [tempFields])).elim
      (fun ha => State.regsOnly_f u.regsOnly_showBands x (by simpa [F.LAN_STATUS_ZBAND] using ha)) (u.f_showBands x)
  unfold State.bandMoved
  rw [hshow, State.logFrame_f (State.logFrame_trans (State.logFrame_event _ _ _) (State.logFrame_assertSrc _ _)) _ hlog,
    State.f_put_apart _ _ (by decide) (hx F.LAN_STATUS_BANDCHG (by simp [tempFields])),
    State.f_put_apart _ _ (by decide) (hx F.LAN_STATUS_BAND (by simp [tempFields]))]

/-- A temperature sample keeps every field but its own. -/
theorem State.f_takeTemp (hlog : logReg x.addr = false) (s : State) : s.takeTemp.f x = s.f x := by
  rcases s.takeTemp_cases with h | ⟨u, v, hregs, h⟩
  · rw [h, State.f_tempShown hx]
  · have hu : (u.put F.LAN_TNOW_T v).f x = s.f x :=
      (State.f_put_apart _ _ (by decide) (hx F.LAN_TNOW_T (by simp [tempFields]))).trans
        ((State.f_congr x (State.reg_congr hregs _)).trans (State.f_tempShown hx s _))
    rcases h with h | ⟨b, h⟩ <;> rw [h]
    · exact hu
    · exact (State.f_bandMoved hx hlog _ _).trans hu

end

/-! ## The crack loop -/

theorem State.takeCrack_off {s : State} (ohm : Nat) (h : s.f F.LAN_STATUS_STATE ≠ 3) : s.takeCrack ohm = s.put F.LAN_CRACK_OHM ohm := by
  have hstate : (s.put F.LAN_CRACK_OHM ohm).f F.LAN_STATUS_STATE ≠ 3 := by rw [State.f_put_addr _ _ _ _ (by decide)]; exact h
  unfold State.takeCrack State.lanState
  exact if_pos hstate

/-- The state that shows a crack. -/
def State.crackShown (s : State) (ohm : Nat) : State :=
  ((((s.put F.LAN_CRACK_OHM ohm).putb F.LAN_STATUS_CRACK true).put F.LAN_STATUS_CRACK_SEEN 1).event 0x1002 []).assertSrc 195

/-- Showing a crack keeps every field of Lantern but CRACK, CRACK_SEEN and OHM. -/
theorem State.f_crackShown (s : State) (ohm : Nat) (x : Fld) (hlog : logReg x.addr = false)
    (hx : ∀ y ∈ [F.LAN_CRACK_OHM, F.LAN_STATUS_CRACK, F.LAN_STATUS_CRACK_SEEN], x.addr ≠ y.addr ∨ x.hi < y.lo ∨ y.hi < x.lo) :
    (s.crackShown ohm).f x = s.f x := by
  unfold State.crackShown
  rw [State.logFrame_f (State.logFrame_trans (State.logFrame_event _ _ _) (State.logFrame_assertSrc _ _)) _ hlog,
    State.f_put_apart _ _ (by decide) (hx F.LAN_STATUS_CRACK_SEEN (by simp)), State.putb,
    State.f_put_apart _ _ (by decide) (hx F.LAN_STATUS_CRACK (by simp)), State.f_put_apart _ _ (by decide) (hx F.LAN_CRACK_OHM (by simp))]

theorem State.crack_crackShown (s : State) (ohm : Nat) : (s.crackShown ohm).f F.LAN_STATUS_CRACK = 1 ∧
    (s.crackShown ohm).f F.LAN_STATUS_CRACK_SEEN = 1 := by
  have hlog : ∀ x : Fld, logReg x.addr = false → (s.crackShown ohm).f x =
      (((s.put F.LAN_CRACK_OHM ohm).putb F.LAN_STATUS_CRACK true).put F.LAN_STATUS_CRACK_SEEN 1).f x := fun x hx =>
    State.logFrame_f (State.logFrame_trans (State.logFrame_event _ _ _) (State.logFrame_assertSrc _ _)) x hx
  rw [hlog _ rfl, hlog _ rfl, State.f_put_same _ _ _ (by decide) (by decide), State.f_put_bits _ _ _ _ (by decide) (by decide), State.putb,
    State.f_put_same _ _ _ (by decide) (by decide)]
  exact ⟨rfl, rfl⟩

/-- In RUN a new crack beyond LIMIT shuts the panel down where CRACK_STOP asks for it. -/
theorem State.takeCrack_stop {s : State} {ohm : Nat} (hs : s.f F.LAN_STATUS_STATE = 3) (hl : s.f F.LAN_CRACK_LIMIT < ohm)
    (hc : s.f F.LAN_STATUS_CRACK = 0) (hstop : s.f F.LAN_CTRL_CRACK_STOP = 1) : s.takeCrack ohm = (s.crackShown ohm).lanShutdown := by
  have hstate : (s.put F.LAN_CRACK_OHM ohm).f F.LAN_STATUS_STATE = 3 := by rw [State.f_put_addr _ _ _ _ (by decide)]; exact hs
  have hnow : decide ((s.put F.LAN_CRACK_OHM ohm).f F.LAN_CRACK_LIMIT < ohm) = true := by
    rw [State.f_put_bits _ _ _ _ (by decide) (by decide)]; exact decide_eq_true hl
  have hcrack : (s.put F.LAN_CRACK_OHM ohm).b F.LAN_STATUS_CRACK = false := by
    rw [State.b, State.f_put_addr _ _ _ _ (by decide), hc]; rfl
  have hctrl : (s.crackShown ohm).b F.LAN_CTRL_CRACK_STOP = true := by
    rw [State.b, State.f_crackShown _ _ _ rfl (by decide), hstop]; rfl
  unfold State.takeCrack State.lanState
  dsimp only
  rw [if_neg (by rw [hstate]; decide), hnow, hcrack, if_neg (by decide)]
  simp only [if_true, Bool.true_and]
  exact if_pos hctrl

/-! ## TEMPERATURE_SAMPLE -/

/-- The state that remembers the second n at which the temperature was taken. The lemmas about it hold for every n: comparing s with it at
`tempNext` by unfolding would make the kernel evaluate that second. -/
def State.tempTaken (s : State) (n : Nat) : State := { s with lan := { s.lan with tempAt := n } }

theorem State.tempNext_eq (s : State) : s.tempNext = max (s.lan.tempAt + 1) (((s.base 0).total + nsPerSec - 1) / nsPerSec) := by
  unfold State.tempNext State.mono
  rfl

theorem State.takeReadings_due {s₀ s : State} (ohm : Nat) (hp : s₀.variant.panelP = true)
    (h : s₀.comesAt (s₀.cyclesTo 0 (s₀.tempNext * nsPerSec)) = some s) :
    s₀.takeReadings ohm = (s.tempTaken s₀.tempNext).takeTemp.takeCrack ohm := by
  unfold State.takeReadings State.lanExists
  rw [if_pos hp]
  exact State.whenDue_of_some _ h

theorem State.takeReadings_early {s : State} (ohm : Nat) (hp : s.variant.panelP = true)
    (h : s.comesAt (s.cyclesTo 0 (s.tempNext * nsPerSec)) = none) : s.takeReadings ohm = s := by
  unfold State.takeReadings State.lanExists
  rw [if_pos hp]
  exact State.whenDue_of_none _ h

theorem State.takeReadings_absent {s : State} (ohm : Nat) (hp : s.variant.panelP = false) : s.takeReadings ohm = s :=
  if_neg (show ¬ s.lanExists = true by simp [State.lanExists, hp])

/-- What an invalid temperature and the loop's resistance show. -/
def State.invalidShown (s : State) (ohm : Nat) : State := (s.tempShown false).put F.LAN_CRACK_OHM ohm

/-- Outside RUN an invalid temperature shows itself and the loop's resistance, and no more. -/
theorem State.takeReadings_invalid {s : State} (ohm : Nat) (hi : s.panelTemp.1 = false) (hs : s.f F.LAN_STATUS_STATE ≠ 3) :
    s.takeTemp.takeCrack ohm = s.invalidShown ohm := by
  have hstate : (s.tempShown false).f F.LAN_STATUS_STATE ≠ 3 := by rw [State.f_tempShown (by decide)]; exact hs
  rw [State.takeTemp_invalid hi, State.takeCrack_off _ hstate]; rfl

theorem State.regsOnly_invalidShown (s : State) (ohm : Nat) : s.regsOnly (s.invalidShown ohm) [R.LAN_CRACK, R.LAN_STATUS, R.LAN_TNOW] := by
  have hshown : s.regsOnly (s.tempShown false) [R.LAN_CRACK, R.LAN_STATUS, R.LAN_TNOW] :=
    State.regsOnly_trans (s.regsOnly_put (x := F.LAN_STATUS_TEMP_INV) _ (by decide)) (State.regsOnly_put _ (x := F.LAN_TNOW_VALID) _ (by decide))
  exact State.regsOnly_trans hshown (State.regsOnly_put _ (x := F.LAN_CRACK_OHM) _ (by decide))

theorem State.f_invalidShown (s : State) {ohm : Nat} (ho : ohm < 65536) : (s.invalidShown ohm).f F.LAN_CRACK_OHM = ohm ∧
    (s.invalidShown ohm).f F.LAN_STATUS_TEMP_INV = 1 ∧ (s.invalidShown ohm).f F.LAN_TNOW_VALID = 0 ∧
    (s.invalidShown ohm).f F.LAN_STATUS_BAND = s.f F.LAN_STATUS_BAND := by
  unfold State.invalidShown State.tempShown State.putb
  refine ⟨?_, ?_, ?_, ?_⟩
  · rw [State.f_put_same _ _ _ (by decide) (by decide)]; exact Nat.mod_eq_of_lt ho
  · rw [State.f_put_addr _ _ _ _ (by decide), State.f_put_addr _ _ _ _ (by decide), State.f_put_same _ _ _ (by decide) (by decide)]; rfl
  · rw [State.f_put_addr _ _ _ _ (by decide), State.f_put_same _ _ _ (by decide) (by decide)]; rfl
  · rw [State.f_put_addr _ _ _ _ (by decide), State.f_put_addr _ _ _ _ (by decide), State.f_put_bits _ _ _ _ (by decide) (by decide)]

/-- In RUN a new crack beyond LIMIT shuts down, whatever the temperature. -/
theorem State.takeReadings_crack {s : State} {ohm : Nat} (hs : s.f F.LAN_STATUS_STATE = 3) (hl : s.f F.LAN_CRACK_LIMIT < ohm)
    (hc : s.f F.LAN_STATUS_CRACK = 0) (hstop : s.f F.LAN_CTRL_CRACK_STOP = 1) :
    s.takeTemp.takeCrack ohm = (s.takeTemp.crackShown ohm).lanShutdown ∧ (s.takeTemp.crackShown ohm).f F.LAN_STATUS_STATE = 3 := by
  have hstate : s.takeTemp.f F.LAN_STATUS_STATE = 3 := (State.f_takeTemp (by decide) rfl s).trans hs
  have hlimit : s.takeTemp.f F.LAN_CRACK_LIMIT < ohm := by rw [State.f_takeTemp (by decide) rfl]; exact hl
  have hcrack : s.takeTemp.f F.LAN_STATUS_CRACK = 0 := (State.f_takeTemp (by decide) rfl s).trans hc
  have hctrl : s.takeTemp.f F.LAN_CTRL_CRACK_STOP = 1 := (State.f_takeTemp (by decide) rfl s).trans hstop
  exact ⟨State.takeCrack_stop hstate hlimit hcrack hctrl, (State.f_crackShown _ _ _ rfl (by decide)).trans hstate⟩

/-- A shutdown's start keeps the fields of LAN_STATUS but STATE. -/
theorem State.f_lanShutdown {s : State} (h0 : s.f F.LAN_STATUS_STATE ≠ 0) (h4 : s.f F.LAN_STATUS_STATE ≠ 4) (x : Fld)
    (ha : x.addr = R.LAN_STATUS) (hx : x.hi < 29) : s.lanShutdown.f x = s.f x := by
  rw [State.lanShutdown_eq h0 h4, State.f_showLan _ _ (by rw [ha]; decide), State.regsOnly_f (State.regsOnly_allDirty _) _ (by rw [ha]; decide)]
  exact State.f_put_bits _ _ _ _ (by decide) (.inl hx)

theorem State.takeReadings_shuts {s : State} {ohm : Nat} (hs : s.f F.LAN_STATUS_STATE = 3) (hl : s.f F.LAN_CRACK_LIMIT < ohm)
    (hc : s.f F.LAN_STATUS_CRACK = 0) (hstop : s.f F.LAN_CTRL_CRACK_STOP = 1) : ∃ t, s.takeTemp.takeCrack ohm = t ∧
      t.f F.LAN_STATUS_CRACK = 1 ∧ t.f F.LAN_STATUS_CRACK_SEEN = 1 ∧ t.f F.LAN_STATUS_STATE = 4 ∧ t.lan.active = none := by
  obtain ⟨heq, hstate⟩ := State.takeReadings_crack hs hl hc hstop
  have h0 : (s.takeTemp.crackShown ohm).f F.LAN_STATUS_STATE ≠ 0 := by rw [hstate]; decide
  have h4 : (s.takeTemp.crackShown ohm).f F.LAN_STATUS_STATE ≠ 4 := by rw [hstate]; decide
  obtain ⟨hcrack, hseen⟩ := s.takeTemp.crack_crackShown ohm
  exact ⟨_, heq, (State.f_lanShutdown h0 h4 _ rfl (by decide)).trans hcrack, (State.f_lanShutdown h0 h4 _ rfl (by decide)).trans hseen,
    State.state_lanShutdown h0 h4, congrArg LanSt.active (State.regsOnly_lan (State.regsOnly_lanShutdown h0 h4))⟩

/-- An invalid temperature outside RUN, taken in second n. -/
theorem State.tempTaken_invalid {s : State} (n : Nat) (ohm : Half) (hi : s.panelTemp.1 = false) (hs : s.f F.LAN_STATUS_STATE ≠ 3) :
    ∃ t, (s.tempTaken n).takeTemp.takeCrack ohm.toNat = t ∧ t.f F.LAN_CRACK_OHM = ohm.toNat ∧ t.f F.LAN_STATUS_TEMP_INV = 1 ∧
      t.f F.LAN_TNOW_VALID = 0 ∧ t.f F.LAN_STATUS_BAND = s.f F.LAN_STATUS_BAND ∧
      (s.tempTaken n).regsOnly t [R.LAN_CRACK, R.LAN_STATUS, R.LAN_TNOW] := by
  obtain ⟨hohm, hinv, hvalid, hband⟩ := (s.tempTaken n).f_invalidShown ohm.isLt
  exact ⟨_, State.takeReadings_invalid (s := s.tempTaken n) _ hi hs, hohm, hinv, hvalid, hband, State.regsOnly_invalidShown _ _⟩

/-- A new crack beyond LIMIT, taken in second n of RUN. -/
theorem State.tempTaken_shuts {s : State} (n : Nat) {ohm : Nat} (hs : s.f F.LAN_STATUS_STATE = 3) (hl : s.f F.LAN_CRACK_LIMIT < ohm)
    (hc : s.f F.LAN_STATUS_CRACK = 0) (hstop : s.f F.LAN_CTRL_CRACK_STOP = 1) : ∃ t, (s.tempTaken n).takeTemp.takeCrack ohm = t ∧
      t.f F.LAN_STATUS_CRACK = 1 ∧ t.f F.LAN_STATUS_CRACK_SEEN = 1 ∧ t.f F.LAN_STATUS_STATE = 4 ∧ t.lan.active = none :=
  State.takeReadings_shuts (s := s.tempTaken n) hs hl hc hstop

theorem exec_temperatureSample_eq (s : State) (ohm : Half) : exec (.temperatureSample ohm) s = .next (s.takeReadings ohm.toNat) := rfl

theorem exec_temperatureSample_early {s : State} (ohm : Half) (hp : s.variant.panelP = true)
    (h : s.comesAt (s.cyclesTo 0 (s.tempNext * nsPerSec)) = none) : exec (.temperatureSample ohm) s = .next s := by
  rw [exec_temperatureSample_eq, State.takeReadings_early _ hp h]

theorem exec_temperatureSample_due {s₀ s : State} (ohm : Half) (hp : s₀.variant.panelP = true)
    (h : s₀.comesAt (s₀.cyclesTo 0 (s₀.tempNext * nsPerSec)) = some s) :
    exec (.temperatureSample ohm) s₀ = .next ((s.tempTaken s₀.tempNext).takeTemp.takeCrack ohm.toNat) := by
  rw [exec_temperatureSample_eq, State.takeReadings_due _ hp h]

/-! ## Writes of the framebuffer -/

/-- A framebuffer line is a line of the panel. -/
theorem State.fbLine_lt {s : State} {a y : Nat} (h : s.fbLine a = some y) : y < 960 := by
  unfold State.fbLine State.lanH at h
  split at h
  · cases h; omega
  · cases h

/-- Marking the line that holds byte a. -/
def State.markLine (s : State) (a : Nat) : State :=
  match s.fbLine a with
  | some y => s.setDirty y true
  | none => s

theorem State.markLines_eq (s : State) (a n : Nat) :
    s.markLines a n = if s.lanExists then (List.range n).foldl (fun s i => s.markLine (a + i)) s else s := rfl

theorem State.regsOnly_markLine (s : State) (a : Nat) : s.regsOnly (s.markLine a) dirtyRegs := by
  unfold State.markLine
  split
  · next y h => exact s.regsOnly_setDirty true (State.fbLine_lt h)
  · exact s.regsOnly_refl _

theorem State.regsOnly_markLines (s : State) (a n : Nat) : s.regsOnly (s.markLines a n) dirtyRegs := by
  rw [State.markLines_eq]
  split
  · exact State.regsOnly_foldl _ _ _ s fun u i _ => u.regsOnly_markLine _
  · exact s.regsOnly_refl _

/-- Dirty bits are no part of the setup. -/
theorem State.sameSetup_of_dirtyRegs {s t : State} (h : s.regsOnly t dirtyRegs) : s.SameSetup t where
  reg a ha _ := h.2 a fun hm => by
    obtain ⟨i, -, rfl⟩ := List.mem_map.mp hm
    simp only [R.LAN_DIRTY] at ha; omega

theorem State.dirty_markLine (s : State) {a y : Nat} (h : s.fbLine a = some y) : (s.markLine a).dirty y = true := by
  unfold State.markLine
  rw [h]
  exact (s.dirty_setDirty y y true).trans (if_pos rfl)

/-- A line that is dirty stays dirty. -/
theorem State.dirty_markLine_of_dirty (s : State) (a : Nat) {y : Nat} (h : s.dirty y = true) : (s.markLine a).dirty y = true := by
  unfold State.markLine
  split
  · rw [State.dirty_setDirty]; split
    · rfl
    · exact h
  · exact h

theorem State.dirty_foldl_markLine (a : Nat) {y i : Nat} (l : List Nat) (s : State) (hi : i ∈ l) (h : s.fbLine (a + i) = some y) :
    (l.foldl (fun s i => s.markLine (a + i)) s).dirty y = true := by
  induction l generalizing s with
  | nil => cases hi
  | cons j l ih =>
    rw [List.foldl_cons]
    by_cases hj : i = j
    · subst hj
      exact List.foldlRecOn l _ (motive := fun t : State => t.dirty y = true) (s.dirty_markLine h)
        fun t ht k _ => t.dirty_markLine_of_dirty _ ht
    · refine ih (s.markLine (a + j)) ((List.mem_cons.mp hi).resolve_left hj) ?_
      rw [(State.sameSetup_of_dirtyRegs (s.regsOnly_markLine (a + j))).fbLine]
      exact h

/-- Every line that holds one of the bytes is marked. -/
theorem State.dirty_markLines (s : State) {a n i y : Nat} (hp : s.variant.panelP = true) (hi : i < n) (h : s.fbLine (a + i) = some y) :
    (s.markLines a n).dirty y = true := by
  rw [State.markLines_eq, if_pos (show s.lanExists = true from hp)]
  exact State.dirty_foldl_markLine a _ s (List.mem_range.mpr hi) h

/-- A stored list of bytes reads back where writes are not ignored. -/
theorem State.byte_wrBytes (s : State) (a : Nat) (l : List Byte) (hw : ∀ b, a ≤ b → b < a + l.length → writeIgnored b = false) {i : Nat}
    (hi : i < l.length) : (s.wrBytes a l).byte (a + i) = l.getD i 0 := by
  induction l generalizing s a i with
  | nil => cases hi
  | cons b l ih =>
    simp only [List.length_cons] at hw hi
    rw [State.wrBytes]
    cases i with
    | zero => rw [State.byte_wrBytes_other _ _ _ _ (by omega), State.byte_setByte, if_pos ⟨rfl, hw _ (by omega) (by omega)⟩]; rfl
    | succ i =>
      have h := ih (s.setByte a b) (a + 1) (fun c h1 h2 => hw c (by omega) (by omega)) (i := i) (by omega)
      rw [show a + (i + 1) = a + 1 + i by omega, h]; rfl

/-- No byte of LPDDR5 ignores writes. -/
theorem writeIgnored_lpddr {b : Nat} (h : lpddrBase ≤ b) : writeIgnored b = false := by
  simp only [lpddrBase] at h
  simp only [writeIgnored, Bool.or_eq_false_iff, Bool.and_eq_false_iff, decide_eq_false_iff_not]
  omega

theorem regionOf_lpddr {a : Nat} (h : lpddrBase ≤ a) (h' : a < 0x200000000) : regionOf a = .lpddr := by
  simp only [lpddrBase] at h
  unfold regionOf
  repeat rw [if_neg (by omega)]
  rw [if_pos h']

/-- A write into LPDDR5 stores its bytes and marks their lines. -/
theorem State.fbWrite_eq (s : State) {a : Nat} {d : List Byte} (h : lpddrBase ≤ a) (h' : a + d.length ≤ 0x200000000) (hd : d ≠ []) :
    s.fbWrite a d = (s.wrBytes a d).markLines a d.length := by
  have hpos := List.length_pos_iff.mpr hd
  exact if_pos ⟨regionOf_lpddr h (by omega), h'⟩

theorem State.execFramebufferWrite_spec (s : State) (m : Master) (a : Addr) (d : Bytes) (h : lpddrBase ≤ a.toNat)
    (h' : a.toNat + d.length ≤ 0x200000000) : ∃ t, exec (.framebufferWrite m a d) s = .next t ∧
      (∀ i, i < d.length → t.byte (a.toNat + i) = d.getD i 0) ∧ (∀ b, outside a.toNat d.length b → t.byte b = s.byte b) ∧
      (s.variant.panelP = true → ∀ i y, i < d.length → s.fbLine (a.toNat + i) = some y → t.dirty y = true) ∧
      (∀ r, inArray r (R.LAN_DIRTY 0) 4 30 = false → t.reg r = s.reg r) := by
  by_cases hd : d = []
  · subst hd
    have hnone : s.fbWrite a.toNat [] = s := by
      unfold State.fbWrite State.markLines
      exact (ite_eq_or_eq _ _ _).elim (fun h => h.trans (ite_self s)) id
    exact ⟨_, congrArg Host.Outcome.next hnone, fun i hi => absurd hi (Nat.not_lt_zero i), fun _ _ => rfl,
      fun _ i _ hi => absurd hi (Nat.not_lt_zero i), fun _ _ => rfl⟩
  · let u := s.wrBytes a.toNat d
    have hmark := u.regsOnly_markLines a.toNat d.length
    have hbyte : ∀ b, (u.markLines a.toNat d.length).byte b = u.byte b := fun b => State.byte_congr (State.regsOnly_mem hmark) b
    have hsetup : s.SameSetup u := ⟨fun r _ _ => State.reg_congr (s.wrBytes_regs _ _) r⟩
    refine ⟨_, congrArg Host.Outcome.next (s.fbWrite_eq h h' hd), fun i hi => ?_, fun b hb => ?_, fun hp i y hi hy => ?_, fun r hr => ?_⟩
    · exact (hbyte _).trans (s.byte_wrBytes _ _ (fun b hb _ => writeIgnored_lpddr (h.trans hb)) hi)
    · exact (hbyte _).trans (s.byte_wrBytes_other _ _ b hb)
    · exact u.dirty_markLines (by rw [s.wrBytes_variant]; exact hp) hi ((hsetup.fbLine _).trans hy)
    · have hout : r ∉ dirtyRegs := fun hm => by rw [inArray_of_mem_dirtyRegs hm] at hr; cases hr
      exact (hmark.2 r hout).trans (State.reg_congr (s.wrBytes_regs _ _) r)
end Sys2Proof.Machine
end

section
/-!
The statement of O55, assembled.
-/
namespace Sys2Proof.Machine

/-- A row of the shutdown schedule that is not the next one changes nothing. -/
theorem exec_shutRow_other (s : State) : ∀ i ∈ [(Instr.shutdownClear, 0), (.shutdownVcomOff, 1), (.shutdownDischarge, 2)],
    s.f F.LAN_STATUS_STATE ≠ 4 ∨ s.lan.shutStep ≠ i.2 → exec i.1 s = .next s := by
  intro i hi h
  simp only [List.mem_cons, List.not_mem_nil, or_false] at hi
  rcases hi with rfl | rfl | rfl <;> exact congrArg Host.Outcome.next (State.shutRow_other _ _ h)

/-- Settles O55: each clause is what its command's lemma says of the state before its instant, at it, or outside its states. -/
theorem theLanternPanel : Obligations.TheLanternPanel := by
  unfold Obligations.TheLanternPanel
  refine ⟨⟨fun s₀ s => ?_, fun s m v => ?_⟩, fun s => ?_⟩
  · intro rail due
    refine ⟨fun hs h => congrArg Host.Outcome.next (State.commonDrive_early hs h), fun hs h => State.execCommonDriveStart_due hs h,
      fun hs h => congrArg Host.Outcome.next (State.gclrRelease_early hs h), fun hs h ha hq => State.execGclrRelease_due hs h ha hq,
      fun hs hn => ⟨fun h => congrArg Host.Outcome.next (State.shutRow_early _ hs hn h), fun h => congrArg Host.Outcome.next (State.shutRow_due _ hs hn h)⟩,
      fun hs hn => ⟨fun h => congrArg Host.Outcome.next (State.shutRow_early _ hs hn h), fun h => congrArg Host.Outcome.next (State.shutRow_due _ hs hn h)⟩,
      fun hs hn => ⟨fun h => congrArg Host.Outcome.next (State.shutRow_early _ hs hn h), fun h => congrArg Host.Outcome.next (State.shutRow_due _ hs hn h)⟩,
      fun hs hn => ⟨fun h => congrArg Host.Outcome.next (State.shutEnd_early hs hn h), fun h => State.execShutdownEnd_due hs hn h⟩,
      fun p ha hl h => congrArg Host.Outcome.next (State.lineWritten_early ha hl h),
      fun p y ha hl h hr hq hn => State.lineWritten_last ha hl h hr hq hn, fun p y z ha hl h hn => State.lineWritten_next ha hl h hn,
      fun z hon hs => ?_, fun ohm hp => ?_⟩
    · intro at' flip
      exact ⟨fun h => congrArg Host.Outcome.next (State.vcomToggle_early hon hs h), fun h hw => State.execToggle_noWait hon hs h hw,
        fun p h hw hz ha => State.execToggle_wait hon hs h hw hz ha⟩
    · rw [← s₀.tempNext_eq]
      refine ⟨fun h => exec_temperatureSample_early ohm hp h, fun h => exec_temperatureSample_due ohm hp h, fun h hi hs => ?_,
        fun h hs hl hc hstop => ?_⟩
      · obtain ⟨t, ht, hshown⟩ := State.tempTaken_invalid s₀.tempNext ohm hi hs
        exact ⟨t, (exec_temperatureSample_due ohm hp h).trans (congrArg Host.Outcome.next ht), hshown⟩
      · obtain ⟨t, ht, hshown⟩ := State.tempTaken_shuts s₀.tempNext hs hl hc hstop
        exact ⟨t, (exec_temperatureSample_due ohm hp h).trans (congrArg Host.Outcome.next ht), hshown⟩
  · refine ⟨fun hp => ⟨if_neg (by simp [State.lanExists, hp]), if_neg (by simp [State.lanExists, hp]), congrArg Host.Outcome.next (State.lanRequest_absent v hp),
        fun ohm => congrArg Host.Outcome.next (State.takeReadings_absent _ hp)⟩,
      fun hp h0 => State.execLanternEnable_starts m v hp h0, fun hp h1 h0 h4 => State.execLanternDisable_shuts m v hp h1 h0 h4,
      fun hs => congrArg Host.Outcome.next (State.commonDrive_off hs), fun hs => congrArg Host.Outcome.next (State.gclrRelease_off hs),
      exec_shutRow_other s, fun h => congrArg Host.Outcome.next (State.shutEnd_other h),
      fun hp hs => congrArg Host.Outcome.next (State.lanRequest_off hp hs), fun hp hs hn => congrArg Host.Outcome.next ((State.lanRequest_run hp hs).trans (if_pos hn)),
      fun hp hs hn hlo => ?_, rfl, fun ha => congrArg Host.Outcome.next (State.lineWritten_noLine fun p hp => by simp [ha] at hp),
      fun p ha hl => congrArg Host.Outcome.next (State.lineWritten_noLine fun q hq => by rw [ha] at hq; cases hq; exact hl),
      fun a d h h' => s.execFramebufferWrite_spec m a d h h', fun z h => congrArg Host.Outcome.next (State.vcomToggle_off h)⟩
    intro r
    exact ⟨fun p ha happart hq => State.updateRequest_apart hp hs hn hlo ha happart hq,
      fun p ha h1 h2 hc => State.updateRequest_merge hp hs hn hlo ha h1 h2 hc, fun ha hq hf => State.updateRequest_idle hp hs hn hlo ha hq hf⟩
  · exact ⟨rfl, fun _ => rfl, rfl, fun m v => exec_answers _ s, rfl, fun m v => exec_answers _ s, ⟨_, rfl⟩, ⟨_, rfl⟩, ⟨_, rfl⟩, rfl,
      fun _ _ => rfl, fun _ _ _ => rfl, fun _ => rfl⟩
end Sys2Proof.Machine
end

section
/-!
One step and its queue, the period, the counters and the fault stop (R18, R22, R40, R41, R189, R194).
-/
namespace Sys2Proof.Machine

/-! ## One step -/

/-- Settles O1: a step looks at the front of the queue alone. -/
theorem aStepRunsTheFrontCommand : Obligations.AStepRunsTheFrontCommand := by
  unfold Obligations.AStepRunsTheFrontCommand
  refine ⟨fun _ _ _ => rfl, fun s h => ?_⟩
  unfold step
  rw [h]

/-! ## The period and the counters -/

theorem State.periodWrite_held {s : State} (m : Master) {v : Word} (hs : s.mode = .stop) (hv : bitsOf v 1 0 < 3)
    (hr : s.periodReason (selUs (bitsOf v 1 0)) = none) :
    s.periodWrite m v = { s with tick := { s.tick with newPeriod := some (bitsOf v 1 0) } } := by
  have hok : ¬(s.mode ≠ .stop ∨ bitsOf v 1 0 = 3) := by
    rintro (h | h)
    · exact h hs
    · omega
  unfold State.periodWrite
  rw [if_neg hok, hr]

/-- A period that is not held is recorded, with the reason of R19 where admission refuses it. -/
theorem State.periodWrite_ignored {s : State} (m : Master) {v : Word}
    (h : s.mode ≠ .stop ∨ bitsOf v 1 0 = 3 ∨ s.periodReason (selUs (bitsOf v 1 0)) ≠ none) :
    ∃ r, s.periodWrite m v = s.recordWrite m R.TICK_PERIOD v r := by
  unfold State.periodWrite
  by_cases hc : s.mode ≠ .stop ∨ bitsOf v 1 0 = 3
  · exact ⟨0, if_pos hc⟩
  · have hr : s.periodReason (selUs (bitsOf v 1 0)) ≠ none := (or_assoc.mpr h).resolve_left hc
    obtain ⟨r, hr⟩ := Option.ne_none_iff_exists'.mp hr
    exact ⟨r, by rw [if_neg hc, hr]⟩

/-- The state after a write of TICK_CTRL with CNT_CLR 1. -/
def State.countersCleared (s : State) (v : Word) : State :=
  (((s.writeReg R.TICK_CTRL v).setReg R.TICK_FCNT0 0).setReg R.TICK_FCNT1 0).setReg R.TICK_HWM 0

theorem State.writeTick_clear (s : State) (m : Master) (v : Word) :
    s.writeTick m R.TICK_CTRL (v ||| 1) = s.countersCleared (v ||| 1) := by
  have hbit : (v ||| 1).getLsbD 0 = true := by simp
  unfold State.writeTick
  rw [if_neg (by decide), if_pos rfl, if_pos hbit]
  rfl

theorem State.regsOnly_countersCleared (s : State) (v : Word) :
    s.regsOnly (s.countersCleared v) [R.TICK_CTRL, R.TICK_FCNT0, R.TICK_FCNT1, R.TICK_HWM] :=
  State.regsOnly_trans (s.regsOnly_setReg _ (by simp)) (State.regsOnly_trans (State.regsOnly_setReg _ _ (by simp))
    (State.regsOnly_trans (State.regsOnly_setReg _ _ (by simp)) (State.regsOnly_setReg _ _ (by simp))))

theorem State.reg_countersCleared (s : State) (v : Word) :
    (s.countersCleared v).reg R.TICK_FCNT0 = 0 ∧ (s.countersCleared v).reg R.TICK_FCNT1 = 0 ∧ (s.countersCleared v).reg R.TICK_HWM = 0 := by
  unfold State.countersCleared
  refine ⟨?_, ?_, State.reg_setReg_same _ _ _⟩
  · rw [State.reg_setReg_other _ _ _ _ (by decide), State.reg_setReg_other _ _ _ _ (by decide), State.reg_setReg_same]
  · rw [State.reg_setReg_other _ _ _ _ (by decide), State.reg_setReg_same]

/-! ## Entry to Stop -/

section
variable (s : State) {a : Nat}

theorem State.reg_dropExchange (h : a ≠ R.PRG_STATUS) : s.dropExchange.reg a = s.reg a :=
  (State.reg_put_other _ _ _ _ h).trans (s.reg_put_other _ _ _ h)

/-- The end of the tasks shows in the registers of tasks and of the six cores alone. -/
theorem State.reg_dropTasks (ht : ∀ c, a ≠ R.CML_TSTAT c) (hc : ∀ n < 6, a ≠ R.CML_CORE n) : s.dropTasks.reg a = s.reg a := by
  have hfold : ∀ {α : Type} (g : State → α → State) (l : List α) (u : State), (∀ (t : State), ∀ x ∈ l, (g t x).reg a = t.reg a) →
      (l.foldl g u).reg a = u.reg a := fun g l u hg =>
    List.foldlRecOn l g (motive := fun t : State => t.reg a = u.reg a) rfl fun t h x hx => (hg t x hx).trans h
  have hacts := hfold (fun (s : State) (e : Nat × Act) => (s.put (F.CML_TSTAT_STATE e.1) 0).put (F.CML_TSTAT_RUN_US e.1) (min 0xFFFF (e.2.run / 500)))
    (s.cml.acts.filter fun e => decide (s.f (F.CML_TSTAT_STATE e.1) ≠ 5)) s
    fun t e _ => (State.reg_put_other _ _ _ _ (ht e.1)).trans (State.reg_put_other _ _ _ _ (ht e.1))
  unfold State.dropTasks
  dsimp only
  rw [hfold]
  · exact (hfold _ _ _ fun t c _ => State.reg_put_other _ _ _ _ (ht c)).trans hacts
  · intro t n hn
    have hn := hc n (List.mem_range.mp hn)
    split
    · rfl
    · rw [State.reg_put_other _ _ _ _ hn, State.reg_put_other _ _ _ _ hn, State.reg_put_other _ _ _ _ hn]

theorem State.reg_startFails (hs : a ≠ R.PRG_STATUS) (ht : a ≠ R.PRG_TRIAL_CNT) (hl : logReg a = false) : s.startFails.reg a = s.reg a :=
  ((State.logFrame_event _ _ _).2.1 a hl).trans ((State.reg_put_other _ _ _ _ ht).trans (s.reg_put_other _ _ _ hs))

theorem State.reg_refreshRole (h : a ≠ R.PAIR_STATUS) : s.refreshRole.reg a = s.reg a := s.reg_put_other _ _ _ h

theorem State.reg_setClaim (c : Bool) (hp : a ≠ R.PAIR_STATUS) (hl : a ≠ R.LOOP_STATUS) : (s.setClaim c).reg a = s.reg a := by
  have hput : ∀ (t : State) (x : Fld) (v : Bool), x.addr = R.PAIR_STATUS → (t.putb x v).reg a = t.reg a :=
    fun t x v hx => t.reg_put_other x _ a (hx ▸ hp)
  have hpins : ∀ t : State, (if t.owns then t else t.releasePins).reg a = t.reg a := fun t => by
    split
    · rfl
    · exact t.reg_put_other _ _ _ hl
  exact (State.reg_refreshRole _ hp).trans ((hpins _).trans ((hput _ _ _ rfl).trans ((hput _ _ _ rfl).trans (hput _ _ _ rfl))))

end

/-- PRG_MODE as entry to Stop leaves it: the mode, its cause, and no command pending. -/
def State.modeStopped (s : State) (cause : Nat) : State :=
  ((s.setMode .stop).put F.PRG_MODE_STOP_CAUSE cause).put F.PRG_MODE_PEND 0

theorem State.reg_enterStop (s : State) (cause : Nat) : (s.enterStop cause).reg R.PRG_MODE = (s.modeStopped cause).reg R.PRG_MODE := by
  have hne : R.PRG_MODE ≠ R.PRG_STATUS ∧ R.PRG_MODE ≠ R.PRG_TRIAL_CNT ∧ R.PRG_MODE ≠ R.PAIR_STATUS ∧ R.PRG_MODE ≠ R.LOOP_STATUS := by decide
  obtain ⟨hst, htc, hp, hl⟩ := hne
  have ht : ∀ c, R.PRG_MODE ≠ R.CML_TSTAT c := fun c => by unfold R.PRG_MODE R.CML_TSTAT; omega
  have hc : ∀ n < 6, R.PRG_MODE ≠ R.CML_CORE n := fun n hn => by unfold R.PRG_MODE R.CML_CORE; omega
  have hpend : ∀ (t : State) (n : Nat) (p : Prop) [Decidable p],
      (if p then (t.put F.PRG_MODE_PEND 0).event 0x0307 [n] else t.put F.PRG_MODE_PEND 0).reg R.PRG_MODE = (t.put F.PRG_MODE_PEND 0).reg R.PRG_MODE :=
    fun t n p _ => by
      split
      · exact (State.logFrame_event _ _ _).2.1 _ rfl
      · rfl
  have hfails : ∀ (t : State) (b : Bool), (if b then t.startFails else t).reg R.PRG_MODE = t.reg R.PRG_MODE := fun t b => by
    split
    · exact t.reg_startFails hst htc rfl
    · rfl
  have hclaim : ∀ (t : State) (b : Bool), (if b then t.setClaim false else t.refreshRole).reg R.PRG_MODE = t.reg R.PRG_MODE := fun t b => by
    split
    · exact t.reg_setClaim false hp hl
    · exact t.reg_refreshRole hp
  have hwork : ∀ (t : State) (o : OutSt) (q : AzsSt), ({ t with out := o, azs := q } : State).reg R.PRG_MODE = t.reg R.PRG_MODE :=
    fun _ _ _ => rfl
  unfold State.enterStop
  refine (hclaim _ _).trans ((hfails _ _).trans ((hwork _ _ _).trans ?_))
  exact (State.reg_dropTasks _ ht hc).trans ((State.reg_dropExchange _ hst).trans (hpend _ _ _))

/-- Entry to Stop: the mode, its cause, and no command pending (R194). -/
theorem State.enterStop_spec (s : State) {cause : Nat} (h : cause < 8) : (s.enterStop cause).mode = .stop ∧
    (s.enterStop cause).f F.PRG_MODE_STOP_CAUSE = cause ∧ (s.enterStop cause).f F.PRG_MODE_PEND = 0 := by
  have hf : ∀ x : Fld, x.addr = R.PRG_MODE → (s.enterStop cause).f x = (s.modeStopped cause).f x :=
    fun x hx => State.f_congr x (hx ▸ s.reg_enterStop cause)
  have hmode : (s.enterStop cause).f F.PRG_MODE_MODE = 0 := by
    rw [hf _ rfl, State.modeStopped, State.f_put_bits _ _ _ _ (by decide) (by decide), State.f_put_bits _ _ _ _ (by decide) (by decide),
      State.setMode, State.f_put_same _ _ _ (by decide) (by decide), Nat.zero_mod]
  refine ⟨by unfold State.mode; rw [hmode]; rfl, ?_, ?_⟩
  · rw [hf _ rfl, State.modeStopped, State.f_put_bits _ _ _ _ (by decide) (by decide), State.f_put_same _ _ _ (by decide) (by decide)]
    exact Nat.mod_eq_of_lt (h.trans (by decide))
  · rw [hf _ rfl, State.modeStopped, State.f_put_same _ _ _ (by decide) (by decide), Nat.zero_mod]

/-! ## The fault stop -/

/-- A Stop that is due is due no more. -/
def State.stopTaken (s : State) : State := { s with tick := { s.tick with stopDue := false } }

/-- FAULT_STOP is set and recorded, and source 5 asserted. -/
def State.faultShown (s : State) : State := ((s.put F.TICK_STATUS_FAULT_STOP 1).event 0x0104 []).assertSrc 5

theorem State.faultStop_due {s : State} (hd : s.tick.stopDue = true) :
    s.faultStop = if s.mode = .stop then s.stopTaken else s.stopTaken.faultShown.enterStop 2 := if_pos hd

theorem State.logFrame_faultShown (s : State) : (s.put F.TICK_STATUS_FAULT_STOP 1).logFrame s.faultShown :=
  State.logFrame_trans (State.logFrame_event _ _ _) (State.logFrame_assertSrc _ _)

/-- A write of listed registers and what an event changes beside it. -/
theorem State.logAnd_of_put {s t : State} {x : Fld} {v : Nat} {l : List Nat} (hx : x.addr ∈ l) (h : (s.put x v).logFrame t) : s.logAnd t l := by
  obtain ⟨hrest, hreg, hbyte⟩ := h
  refine ⟨?_, fun a ha hl => (hreg a ha).trans (s.reg_put_other x v a fun e => hl (e ▸ hx)), hbyte⟩
  exact congrArg (fun u : State => ({ u with regs := s.regs } : State)) hrest

theorem State.faultShown_spec (s : State) : s.faultShown.f F.TICK_STATUS_FAULT_STOP = 1 ∧ s.logAnd s.faultShown [R.TICK_STATUS] := by
  refine ⟨?_, State.logAnd_of_put (by decide) s.logFrame_faultShown⟩
  rw [State.logFrame_f s.logFrame_faultShown _ rfl, State.f_put_same _ _ _ (by decide) (by decide)]
  rfl

/-- Settles O5: a write of TICK_PERIOD is held or recorded, CNT_CLR writes its four registers, and a Stop that is due is entered with
FAULT_STOP shown. -/
theorem periodCountersAndFaultStop : Obligations.PeriodCountersAndFaultStop := by
  unfold Obligations.PeriodCountersAndFaultStop
  refine ⟨fun s m v => ⟨fun hs hv hr => ?_, fun h => ?_, ?_, fun h => ?_, fun hd hs => ?_, fun hd hs => ?_, fun cause h => s.enterStop_spec h⟩,
    fun s => ⟨rfl, fun _ _ => rfl, fun _ _ => rfl⟩⟩
  · exact ⟨_, congrArg Host.Outcome.next (State.periodWrite_held m hs hv hr), rfl, rfl⟩
  · obtain ⟨r, hr⟩ := State.periodWrite_ignored m h
    exact ⟨_, congrArg Host.Outcome.next hr, s.logFrame_recordWrite m _ v r⟩
  · obtain ⟨h0, h1, hw⟩ := s.reg_countersCleared (v ||| 1)
    exact ⟨_, congrArg Host.Outcome.next (s.writeTick_clear m v), h0, h1, hw, s.regsOnly_countersCleared _⟩
  · exact congrArg Host.Outcome.next (if_neg (by simp [h]))
  · exact congrArg Host.Outcome.next ((State.faultStop_due hd).trans (if_pos hs))
  · obtain ⟨hflag, hframe⟩ := s.stopTaken.faultShown_spec
    exact ⟨_, congrArg Host.Outcome.next ((State.faultStop_due hd).trans (if_neg hs)), hflag, hframe⟩

end Sys2Proof.Machine
end

section
/-!
The edge at 0.70 T in Stop (R30, R31, R236, R265).
-/
namespace Sys2Proof.Machine

/-! ## What the passing of time leaves -/

section
variable (s : State) (n : Nat) {a : Nat}

theorem State.reg_refreshLeap (h : blockOf a ≠ 10) : s.refreshLeap.reg a = s.reg a := by
  have hput : ∀ (t : State) (x : Fld) (v : Nat), blockOf x.addr = 10 → (t.put x v).reg a = t.reg a :=
    fun t x v hx => t.reg_put_other x v a fun e => h (e ▸ hx)
  have haon : ∀ (t : State) (o : AonSt), ({ t with aon := o } : State).reg a = t.reg a := fun _ _ => rfl
  unfold State.refreshLeap
  dsimp only
  split
  · exact (hput _ _ _ rfl).trans ((hput _ _ _ rfl).trans (hput _ _ _ rfl))
  · exact (haon _ _).trans ((hput _ _ _ rfl).trans ((hput _ _ _ rfl).trans (hput _ _ _ rfl)))

theorem State.regs_setBase (b : Nat) (v : BaseVal) : (s.setBase b v).regs = s.regs := rfl

theorem State.regs_countBase (b : Nat) : (s.countBase n b).regs = s.regs := by
  unfold State.countBase
  dsimp only
  exact s.regs_setBase b _

theorem State.reg_countBases (h : blockOf a ≠ 10) : (s.countBases n).reg a = s.reg a := by
  have hbases : (countedBases.foldl (·.countBase n ·) s).regs = s.regs :=
    List.foldlRecOn _ _ (motive := fun t : State => t.regs = s.regs) rfl fun t ht b _ => (t.regs_countBase n b).trans ht
  unfold State.countBases
  dsimp only
  split
  · exact State.reg_congr hbases a
  · exact (State.reg_refreshLeap _ h).trans (State.reg_congr hbases a)

theorem State.regs_countCalendar : (s.countCalendar n).regs = s.regs := by
  have haon : ∀ o : AonSt, ({ s with aon := o } : State).regs = s.regs := fun _ => rfl
  unfold State.countCalendar
  split
  · exact haon _
  · rfl

theorem State.reg_countTick (h : a ≠ R.TICK_PHASE) : (s.countTick n).reg a = s.reg a := by
  have htick : ∀ (t : State) (k : TickSt), ({ t with tick := k } : State).reg a = t.reg a := fun _ _ => rfl
  unfold State.countTick
  dsimp only
  exact (htick _ _).trans (s.reg_put_other F.TICK_PHASE_OFFSET _ a h)

theorem State.regs_countCores : (s.countCores n).regs = s.regs := by
  refine List.foldlRecOn _ _ (motive := fun t : State => t.regs = s.regs) rfl fun t ht k _ => ?_
  dsimp only
  split
  · exact ht
  · exact (State.regs_modAct _ _ _).trans ht

theorem State.regs_countTimers : (s.countTimers n).regs = s.regs := rfl

/-- The passing of time shows in TICK_PHASE and in registers of the time block alone. -/
theorem State.reg_elapse (ht : blockOf a ≠ 10) (hp : a ≠ R.TICK_PHASE) : (s.elapse n).reg a = s.reg a := by
  have hcal := State.reg_congr (s.regs_countCalendar n) a
  have hbases : ((s.countCalendar n).countBases n |>.countTimers n).reg a = s.reg a :=
    (State.reg_congr (State.regs_countTimers _ n) a).trans ((State.reg_countBases _ n ht).trans hcal)
  unfold State.elapse
  dsimp only
  split
  · split
    · exact (State.reg_congr (State.regs_countBase _ n 0) a).trans hcal
    · exact hcal
  · split
    · exact (State.reg_congr (State.regs_countCores _ n) a).trans ((State.reg_countTick _ n hp).trans hbases)
    · exact hbases

/-- The mode is read through PRG_MODE alone. -/
theorem State.mode_congr {s t : State} (h : t.reg R.PRG_MODE = s.reg R.PRG_MODE) : t.mode = s.mode := by
  unfold State.mode
  rw [State.f_congr F.PRG_MODE_MODE h]

/-- An edge of the tick keeps the mode. -/
theorem State.mode_atEdge (p us : Nat) : (s.atEdge p us).mode = s.mode := by
  refine State.mode_congr (Eq.trans ?_ (s.reg_elapse (500 * us - s.tick.cycles) (by decide) (by decide)))
  exact (State.reg_put_other _ F.TICK_PHASE_OFFSET us _ (by decide)).trans (State.reg_put_other _ F.TICK_PHASE_PHASE p _ (by decide))

theorem State.out_atEdge (p us : Nat) : (s.atEdge p us).out = s.out := s.elapse_out _

end

/-! ## The work of the edge -/

/-- A batch that has nothing left ends with ACTIVE cleared. -/
theorem State.endBatch_nil {s : State} (h : s.azs.batch = []) :
    s.endBatch = ({ s with azs := { s.azs with batch := [] } } : State).put F.AZS_STATUS_ACTIVE 0 := if_pos (.inl h)

/-- Outside Run the selector does not step at its edge: descriptor writes take effect, and no more (R265, R271). -/
theorem State.shadowEdge_outsideRun {s : State} (seen : List Nat) (h : s.mode ≠ .run) :
    s.shadowEdge seen = s.takeEffect (R.SHD_SCEN 0) (R.SHD_MAP 256) := if_neg h

/-- What SETTLE_EDGE has done before it looks at the mode. -/
def State.settleWork (s : State) : State := ((s.atEdge 3 (7 * s.tenth)).endBatch).shadowEdge s.pendDet

/-- In Stop, with no batch under way, the mode and the outputs stand as before the edge. -/
theorem State.settleWork_stop {s : State} (hm : s.mode = .stop) (hb : s.azs.batch = []) :
    s.settleWork.mode = .stop ∧ s.settleWork.out = s.out := by
  have hbatch : (s.atEdge 3 (7 * s.tenth)).azs.batch = [] := (congrArg AzsSt.batch (s.elapse_azs _)).trans hb
  have hmode : ((s.atEdge 3 (7 * s.tenth)).endBatch).mode = .stop := by
    rw [State.endBatch_nil hbatch, ← hm, ← s.mode_atEdge 3 (7 * s.tenth)]
    exact State.mode_congr (State.reg_put_other _ _ _ _ (by decide))
  unfold State.settleWork
  rw [State.shadowEdge_outsideRun _ (by rw [hmode]; decide)]
  refine ⟨hmode, ?_⟩
  rw [State.endBatch_nil hbatch]
  exact s.out_atEdge 3 (7 * s.tenth)

/-- In Stop SETTLE_EDGE ends with nothing counting as committed. -/
theorem State.settleEdge_stop {s : State} (h : s.settleWork.mode = .stop) :
    s.settleEdge = { s.settleWork with out := { s.settleWork.out with committed := false } } := if_pos h

/-- With the mark of a committed set standing, SETTLE_EDGE in Stop does more than its work for the array and the selector. -/
theorem State.settleEdge_ne_settleWork {s : State} (hm : s.mode = .stop) (hb : s.azs.batch = []) (hc : s.out.committed = true) :
    s.settleEdge ≠ s.settleWork := by
  obtain ⟨hstop, hout⟩ := State.settleWork_stop hm hb
  intro h
  rw [State.settleEdge_stop hstop] at h
  have hclear : false = s.settleWork.out.committed := congrArg (fun t : State => t.out.committed) h
  rw [hout, hc] at hclear
  exact Bool.false_ne_true hclear

/-- The statement's clause of SETTLE_EDGE, for a sequencer that runs in Stop. -/
theorem settleEdge_of_tickEdges (h : Obligations.TickEdges) {s : State} (hr : s.tick.running = true) (hs : s.settleWork.mode = .stop) :
    s.settleEdge = s.settleWork := by
  obtain ⟨hedges, -⟩ := h
  obtain ⟨-, hrun, -⟩ := hedges s
  obtain ⟨-, -, -, -, ⟨u, ⟨-, -, -, rfl⟩, hsettle⟩, -⟩ := hrun hr
  have hexec : exec .settleEdge s = .next s.settleEdge := congrArg Host.Outcome.next (if_pos hr)
  exact (Host.Outcome.next.inj (hexec.symm.trans hsettle)).trans (if_pos hs)

/-- A sequencer that runs in Stop, with the mark of a committed set standing. -/
def State.committedInStop : State :=
  { State.reset with tick := { running := true }, out := { committed := true }, sys := { inReset := false, coreOn := true } }

/-- Refutes O4: its clause of SETTLE_EDGE names the state after the array's and the selector's work and leaves out that the edge also takes
back `out.committed`, the mark that this tick's staged set has been committed.  In the counterexample the mark stands before the edge; the
model's edge clears it, and in the state that the statement names it still stands. -/
theorem not_tickEdges : ¬ Obligations.TickEdges := by
  intro h
  have hstop : State.committedInStop.mode = .stop := by decide
  exact State.settleEdge_ne_settleWork hstop rfl rfl (settleEdge_of_tickEdges h rfl (State.settleWork_stop hstop rfl).1)
end Sys2Proof.Machine
end

section
/-!
What the body of an instruction sees of the state before it, where an `.I` access lies, what a block leaves, and a copy of bytes
by a context (R156, R159, R173, R175).
-/
namespace Sys2Proof.Machine

/-! ## Inside a body -/

section
variable (s : State) (c : Nat)

theorem State.regs_bodyState : (s.bodyState c).regs = s.regs :=
  (State.onlyMem_regs (s.onlyMem_bodyState c)).trans (s.regs_modAct c _)

theorem State.f_bodyState (x : Fld) : (s.bodyState c).f x = s.f x := State.f_congr x (State.reg_congr (s.regs_bodyState c) _)

theorem State.offsetUs_bodyState : (s.bodyState c).offsetUs = s.offsetUs := s.f_bodyState c _

theorem State.tickNo_bodyState : (s.bodyState c).tickNo = s.tickNo := by
  unfold State.tickNo State.reg64
  rw [State.reg_congr (s.regs_bodyState c), State.reg_congr (s.regs_bodyState c)]

theorem State.pc_lt : s.pc c < 2 ^ 23 := Nat.mod_lt _ (by decide)

theorem State.pc_congr {s t : State} (h : t.mem = s.mem) (c : Nat) : t.pc c = s.pc c := by
  unfold State.pc
  rw [State.rd_congr _ _ fun b _ _ => State.byte_congr h b]

/-- A slot lies in the context store. -/
theorem le_slot : ctxBase ≤ slot c := Nat.le_add_right _ _

/-- The program banks lie below the context store. -/
theorem State.typeEnt_bodyState {t : Nat} (ht : t < 4096) : (s.bodyState c).typeEnt t = s.typeEnt t := by
  have hbank : (s.bodyState c).bankBase = s.bankBase := congrArg (0x400000 * ·) (s.f_bodyState c _)
  have hle : s.bankBase ≤ 0x400000 := by
    have hb : s.f F.PRG_STATUS_BANK < 2 := s.f_lt F.PRG_STATUS_BANK
    unfold State.bankBase; omega
  have hslot : 0xF00000 ≤ slot c := le_slot c
  have hrd : ∀ k n, k + n ≤ 16 → (s.bodyState c).rd (s.bankBase + 0x1000 + 16 * t + k) n = s.rd (s.bankBase + 0x1000 + 16 * t + k) n :=
    fun k n hk => s.rd_bodyState c _ n (.inl (by omega))
  have hentry : (s.bodyState c).rd (s.bankBase + 0x1000 + 16 * t) 4 = s.rd (s.bankBase + 0x1000 + 16 * t) 4 := hrd 0 4 (by decide)
  unfold State.typeEnt State.typeIn
  rw [hbank]
  dsimp only
  rw [hentry, hrd 4 4 (by decide), hrd 8 4 (by decide), hrd 12 4 (by decide)]

theorem State.inInstance_bodyState (x : Int) (n : Nat) : (s.bodyState c).inInstance c x n = s.inInstance c x n := by
  unfold State.inInstance
  rw [State.ib_bodyState, State.tb_bodyState, s.typeEnt_bodyState c (show s.tb c < 4096 from Nat.mod_lt _ (by decide))]

end

/-! ## The access of R156 -/

theorem State.inInstance_iff (s : State) (c : Ctx) (x : Int) (n : Nat) : s.inInstance c.toNat x n = true ↔ s.insideI c x n := by
  unfold State.inInstance State.insideI
  rw [decide_eq_true_iff, Nat.cast_add]

/-- A byte access is never misaligned: it takes place or raises BOUNDS. -/
theorem State.instAddr_bytes (s : State) (c : Nat) (x : Int) (n : Nat) :
    s.instAddr c x n 1 = if s.inInstance c x n then .inr (instBase + x.toNat) else .inl .bounds := if_neg (by simp)

/-! ## A context that blocks -/

theorem State.act?_modAct (s : State) (c : Nat) (g : Act → Act) : (s.modAct c g).act? c = (s.act? c).map g := by
  unfold State.modAct
  cases h : s.act? c with
  | none => exact h
  | some x => exact tget?_tput_same _ _ _

theorem State.blocked_modAct (s : State) (c : Nat) (g : Act → Act) : (s.modAct c g).cml.blocked = s.cml.blocked := by
  unfold State.modAct
  split <;> rfl

/-- The context is marked blocked at an instruction, and waits. -/
def State.markBlocked (s : State) (c : Nat) (e : Bool × Nat × Nat × Nat) : State :=
  ({ s with cml := { s.cml with blocked := tput s.cml.blocked c e } } : State).modAct c ({ · with wait := .io })

section
variable (s : State) (c : Nat) (e : Bool × Nat × Nat × Nat)

theorem State.mem_markBlocked : (s.markBlocked c e).mem = s.mem := State.mem_modAct _ _ _
theorem State.regs_markBlocked : (s.markBlocked c e).regs = s.regs := State.regs_modAct _ _ _
theorem State.blocked_markBlocked : tget? (s.markBlocked c e).cml.blocked c = some e :=
  (congrArg (tget? · c) (State.blocked_modAct _ _ _)).trans (tget?_tput_same _ _ _)
theorem State.act?_markBlocked : (s.markBlocked c e).act? c = (s.act? c).map ({ · with wait := .io }) := State.act?_modAct _ _ _

end

theorem State.block_eq (s : State) (c : Nat) (prq : Bool) (fa fb : RegNo) (idx : Nat) :
    s.block c prq fa fb idx = .ok ((s.setPc c (s.here c)).markBlocked c (prq, fa.toNat, fb.toNat, idx)).sched := rfl

/-- The PC that a block puts back is that of the instruction. -/
theorem State.here_bodyState (s : State) (c : Nat) (hc : c < 256) (hp : s.pc c ≤ 0x4FFFFF) : (s.bodyState c).here c = s.pc c := by
  have hlt := s.pc_lt c
  rw [State.here, State.pc_bodyState _ _ hc hp]
  omega

/-- An instruction whose body blocks leaves the context blocked at it. -/
theorem blocks_of_body {i : Instr} {s : State} {c : Ctx} {prq : Bool} {fa fb : RegNo} {idx : Half} {body : State → Ran} (hf : s.canFetch c)
    (hi : exec i s = .next (s.run c.toNat body))
    (hb : body (s.bodyState c.toNat) = (s.bodyState c.toNat).block c.toNat prq fa fb idx.toNat) : blocks i s c prq fa fb idx := by
  obtain ⟨h4, hp⟩ := hf
  have hc : c.toNat < 256 := c.isLt
  rw [State.block_eq, s.here_bodyState c.toNat hc hp] at hb
  refine ⟨_, hi.trans (congrArg Host.Outcome.next (State.run_ok _ _ _ _ h4 hp hb)), ?_, State.blocked_markBlocked _ _ _, fun x hx => ?_,
    fun a ha => ?_, ?_⟩
  · rw [State.pc_congr (State.mem_markBlocked _ _ _), State.pc_setPc _ _ _ hc, Nat.mod_eq_of_lt (s.pc_lt _)]
  · have hact : (s.bodyState c.toNat).act? c.toNat = some { x with skip := false } := by
      rw [State.act?, State.onlyMem_cml (s.onlyMem_bodyState c.toNat)]
      exact (s.act?_modAct c.toNat _).trans (congrArg (Option.map _) hx)
    rw [State.act?_markBlocked, State.act?, State.setPc, State.wr_cml]
    exact congrArg (Option.map _) hact
  · rw [State.byte_congr (State.mem_markBlocked _ _ _), State.setPc, State.byte_wr_other _ _ _ _ _ ha, State.byte_bodyState _ _ _ ha]
  · rw [State.regs_markBlocked, State.setPc, State.wr_regs, State.regs_bodyState]

/-! ## A copy of bytes -/

theorem State.mem_touch (s : State) (a : Nat) : (s.touch a).mem = s.mem := by
  unfold State.touch
  split
  · split <;> rfl
  · rfl

/-- A copy by a context stores its bytes; the dirty bits are no memory. -/
theorem State.mem_ctxCopy (s : State) (a : Nat) (l : List Byte) : (s.ctxCopy a l).mem = (s.wrBytes a l).mem := by
  refine List.foldlRecOn _ _ (motive := fun t : State => t.mem = (s.wrBytes a l).mem) rfl fun t ht i _ => ?_
  split
  · exact (t.mem_touch _).trans ht
  · exact ht

theorem State.getD_rdBytes (s : State) (a : Nat) {n i : Nat} (h : i < n) : (s.rdBytes a n).getD i 0 = s.byte (a + i) := by
  simp [State.rdBytes, List.getD, h]

theorem State.length_rdBytes (s : State) (a n : Nat) : (s.rdBytes a n).length = n := by simp [State.rdBytes]

/-- Below the context store no byte ignores writes. -/
theorem writeIgnored_below {b : Nat} (h : b < ctxBase) : writeIgnored b = false := by
  have hrom : ¬ 0x1000000 ≤ b := fun hb => absurd (h.trans_le (show ctxBase ≤ 0x1000000 by decide)) (Nat.not_lt.mpr hb)
  simp [writeIgnored, hrom, Nat.not_le.mpr h]

/-- A copy to below the context store that then writes w[fa]: where its bytes come to stand, what the register reads, and what stays. -/
theorem State.copyThenW_spec (s : State) (c : Ctx) (fa : RegNo) (v : Dword) {a r n : Nat} (ha : a + n ≤ ctxBase) :
    let t := (s.ctxCopy a (s.rdBytes r n)).setW c.toNat fa.toNat v
    t.pc c.toNat = s.pc c.toNat ∧ t.w c.toNat fa.toNat = (if fa = 0 then 0 else v) ∧ (∀ k, k < n → t.byte (a + k) = s.byte (r + k)) ∧
      ∀ b, outside a n b → offW c fa b → t.byte b = s.byte b := by
  have hc : c.toNat < 256 := c.isLt
  have hr : fa.toNat < 32 := fa.isLt
  have hslot := le_slot c.toNat
  have hcopy : ∀ b, outside a n b → (s.ctxCopy a (s.rdBytes r n)).byte b = s.byte b := fun b hb => by
    rw [State.byte_congr (s.mem_ctxCopy _ _)]
    exact s.byte_wrBytes_other _ _ b (by rw [State.length_rdBytes]; exact hb)
  intro t
  refine ⟨?_, ?_, fun k hk => ?_, fun b hb hw => ?_⟩
  · rw [State.pc_setW _ _ _ _ hr, State.pc, State.pc, State.rd_congr _ _ fun b h1 h2 => hcopy b (by unfold outside; omega)]
  · by_cases hz : fa = 0
    · rw [if_pos hz, hz]; rfl
    · rw [if_neg hz]
      exact State.w_setW_same _ _ _ _ hc (by rwa [Ne, ← regNo_eq_zero]) hr
  · rw [State.byte_setW_other _ _ _ _ _ hc (.inr (by unfold outside; omega)), State.byte_congr (s.mem_ctxCopy _ _),
      State.byte_wrBytes _ _ _ (fun b _ hb => writeIgnored_below (by rw [State.length_rdBytes] at hb; omega)) (by rw [State.length_rdBytes]; exact hk),
      State.getD_rdBytes _ _ hk]
  · rw [State.byte_setW_other _ _ _ _ _ hc (hw.imp_left (regNo_eq_zero fa).mp), hcopy b hb]
end Sys2Proof.Machine
end

section
/-!
PRQ, the end of its stall and of SLVW's block, and CHK (R29, R159, R173, R175, R176).
-/
namespace Sys2Proof.Machine

/-! ## PRQ -/

/-- The units that PRQ copies: L of them, 0 standing for 64, from unit S on, and none beyond the 64 of the record (R175). -/
def prqUnits (idx : Half) : Nat :=
  min (if idx.toNat / 1024 = 0 then 64 else idx.toNat / 1024) (64 - idx.toNat / 16 % 64)

/-- Where PRQ's first unit stands in the result record of the tick. -/
def State.prqSource (s : State) (idx : Half) : Nat := resultAt s.tickNo + 16 * (idx.toNat / 16 % 64)

section
variable {s : State} {c : Ctx} {fa fb : RegNo} {idx : Half}

theorem State.prq_illegal (h : idx.toNat % 16 ≠ 0) : s.prq c fa fb idx = .exc .illegal := if_pos h

theorem State.prq_stall (h : idx.toNat % 16 = 0) (ho : s.offsetUs < 600) : s.prq c fa fb idx = s.block c.toNat true fa fb idx.toNat :=
  (if_neg (not_not_intro h)).trans (if_pos ho)

/-- From 0.6 ms on PRQ makes one `.I` access that holds all its units. -/
theorem State.prq_ready (h : idx.toNat % 16 = 0) (ho : 600 ≤ s.offsetUs) :
    s.prq c fa fb idx =
      match s.instAddr c.toNat (s.ib c.toNat + (s.wr_ c fb).toInt) (16 * prqUnits idx) 1 with
      | .inl e => .exc e
      | .inr a => .ok ((s.ctxCopy a (s.rdBytes (s.prqSource idx) (16 * prqUnits idx))).setW c.toNat fa.toNat
          (BitVec.ofNat 64 (s.rd (resultAt s.tickNo) 4))) :=
  (if_neg (not_not_intro h)).trans (if_neg (Nat.not_lt.mpr ho))

theorem State.prq_bounds (h : idx.toNat % 16 = 0) (ho : 600 ≤ s.offsetUs)
    (hi : ¬s.inInstance c.toNat (s.ib c.toNat + (s.wr_ c fb).toInt) (16 * prqUnits idx) = true) : s.prq c fa fb idx = .exc .bounds := by
  rw [State.prq_ready h ho, State.instAddr_bytes, if_neg hi]

theorem State.prq_copy (h : idx.toNat % 16 = 0) (ho : 600 ≤ s.offsetUs)
    (hi : s.inInstance c.toNat (s.ib c.toNat + (s.wr_ c fb).toInt) (16 * prqUnits idx) = true) :
    s.prq c fa fb idx = .ok ((s.ctxCopy (instBase + (s.ib c.toNat + (s.wr_ c fb).toInt : Int).toNat)
      (s.rdBytes (s.prqSource idx) (16 * prqUnits idx))).setW c.toNat fa.toNat (BitVec.ofNat 64 (s.rd (resultAt s.tickNo) 4))) := by
  rw [State.prq_ready h ho, State.instAddr_bytes, if_pos hi]

end

/-- The result record lies above the context store. -/
theorem resultAt_above (n : Nat) : 0x20000000 ≤ resultAt n := le_trans (by decide) (Nat.le_add_right _ _)

section
variable (s : State) (c : Ctx)

theorem State.byte_result_bodyState {b : Nat} (h : resultAt s.tickNo ≤ b) : (s.bodyState c.toNat).byte b = s.byte b := by
  have hres := resultAt_above s.tickNo
  have hc : c.toNat < 256 := c.isLt
  refine s.byte_bodyState _ b ?_
  unfold outside slot ctxBase
  omega

theorem State.prqSource_bodyState (idx : Half) : (s.bodyState c.toNat).prqSource idx = s.prqSource idx := by
  unfold State.prqSource
  rw [State.tickNo_bodyState]

/-- The body reads the record's tick number as it stands before it. -/
theorem State.resultNo_bodyState : (s.bodyState c.toNat).rd (resultAt (s.bodyState c.toNat).tickNo) 4 = s.rd (resultAt s.tickNo) 4 := by
  rw [State.tickNo_bodyState]
  exact State.rd_congr _ _ fun b h _ => s.byte_result_bodyState c h

end

/-- The `.I` offset at which PRQ stores its first unit. -/
def State.prqOffset (s : State) (c : Ctx) (fb : RegNo) : Int := (s.ib c.toNat : Int) + (s.wreg c fb).toInt

theorem State.prqOffset_bodyState (s : State) (c : Ctx) (fb : RegNo) :
    ((s.bodyState c.toNat).ib c.toNat : Int) + ((s.bodyState c.toNat).wr_ c fb).toInt = s.prqOffset c fb := by
  rw [State.ib_bodyState, State.wr_, State.w_bodyState _ _ _ fb.isLt]; rfl

section
variable {s : State} {c : Ctx} (fa : RegNo) {fb : RegNo} {idx : Half} (hf : s.canFetch c)
include hf

theorem prq_raises_illegal (h : idx.toNat % 16 ≠ 0) : raises (.prq c fa fb idx) s c .illegal :=
  congrArg Host.Outcome.next (State.run_exc _ _ _ _ hf.1 hf.2 (State.prq_illegal h))

theorem prq_blocks (h : idx.toNat % 16 = 0) (ho : s.offsetUs < 600) : blocks (.prq c fa fb idx) s c true fa fb idx :=
  blocks_of_body hf rfl (State.prq_stall h (by rw [State.offsetUs_bodyState]; exact ho))

theorem prq_raises_bounds (h : idx.toNat % 16 = 0) (ho : 600 ≤ s.offsetUs) (hx : ¬s.insideI c (s.prqOffset c fb) (16 * prqUnits idx)) :
    raises (.prq c fa fb idx) s c .bounds := by
  refine congrArg Host.Outcome.next (State.run_exc _ _ _ _ hf.1 hf.2 (State.prq_bounds h (by rw [State.offsetUs_bodyState]; exact ho) ?_))
  rw [State.prqOffset_bodyState, State.inInstance_bodyState]
  exact fun hi => hx ((s.inInstance_iff c _ _).mp hi)

theorem prq_copies (h : idx.toNat % 16 = 0) (ho : 600 ≤ s.offsetUs) (hx : s.insideI c (s.prqOffset c fb) (16 * prqUnits idx)) :
    ∃ t, exec (.prq c fa fb idx) s = .next t ∧ t.pc c.toNat = s.pc c.toNat + 4 ∧
      t.w c.toNat fa.toNat = (if fa = 0 then 0 else BitVec.ofNat 64 (s.rd (resultAt s.tickNo) 4)) ∧
      (∀ k, k < 16 * prqUnits idx → t.byte (instBase + (s.prqOffset c fb).toNat + k) = s.byte (s.prqSource idx + k)) ∧
      ∀ b, outside (instBase + (s.prqOffset c fb).toNat) (16 * prqUnits idx) b → offPc c b → offW c fa b → t.byte b = s.byte b := by
  have hin : (s.bodyState c.toNat).inInstance c.toNat ((s.bodyState c.toNat).ib c.toNat + ((s.bodyState c.toNat).wr_ c fb).toInt)
      (16 * prqUnits idx) = true := by
    rw [State.prqOffset_bodyState, State.inInstance_bodyState]
    exact (s.inInstance_iff c _ _).mpr hx
  have hbody := State.prq_copy (fa := fa) h (by rw [State.offsetUs_bodyState]; exact ho) hin
  have hend : instBase + (s.prqOffset c fb).toNat + 16 * prqUnits idx ≤ ctxBase := by
    obtain ⟨-, -, h0, hle⟩ := hx
    unfold instBase ctxBase
    omega
  obtain ⟨hpc, hw, hcopied, hrest⟩ := (s.bodyState c.toNat).copyThenW_spec c fa (BitVec.ofNat 64 (s.rd (resultAt s.tickNo) 4))
    (r := s.prqSource idx) hend
  rw [State.prqOffset_bodyState, State.prqSource_bodyState, State.resultNo_bodyState] at hbody
  refine ⟨_, congrArg Host.Outcome.next (State.run_ok _ _ _ _ hf.1 hf.2 hbody), ?_, hw, fun k hk => ?_, fun b hb hp hfa => ?_⟩
  · rw [hpc, State.pc_bodyState _ _ c.isLt hf.2]
  · rw [hcopied k hk, s.byte_result_bodyState c (by unfold State.prqSource; omega)]
  · rw [hrest b hb hfa, State.byte_bodyState _ _ _ hp]

end

/-! ## The end of a block -/

/-- The context is blocked no more, and the cores have chosen again. -/
def State.freed (s : State) (c : Ctx) : State :=
  (({ s with cml := { s.cml with blocked := tdel s.cml.blocked c.toNat } } : State).modAct c.toNat ({ · with wait := .no })).sched

section
variable {s : State} {c : Ctx}

theorem State.unblock_none (p : Bool) (h : tget? s.cml.blocked c.toNat = none) : s.unblock c p = s := by
  unfold State.unblock
  rw [h]

/-- A context that goes on executes the instruction that it is blocked at. -/
theorem State.unblock_some {p : Bool} {fa fb : RegNo} {idx : Half}
    (h : tget? s.cml.blocked c.toNat = some (p, fa.toNat, fb.toNat, idx.toNat)) :
    s.unblock c p = (s.freed c).run c.toNat fun v => if p then v.prq c fa fb idx else v.slvw c fa fb idx := by
  unfold State.unblock
  rw [h]
  dsimp only
  rw [if_neg (not_not_intro rfl), BitVec.ofNat_toNat, BitVec.ofNat_toNat, BitVec.ofNat_toNat, BitVec.setWidth_eq, BitVec.setWidth_eq,
    BitVec.setWidth_eq]
  rfl

theorem State.slvwDone_none (h : tget? s.cml.blocked c.toNat = none) : s.slvwDone c = false := by
  unfold State.slvwDone
  rw [h]

/-- The block of SLVW is over where its problem is in no batch of this Solve window. -/
theorem State.slvwDone_some {fa fb : RegNo} {idx : Half} (h : tget? s.cml.blocked c.toNat = some (false, fa.toNat, fb.toNat, idx.toNat))
    (hb : ¬(s.f F.TICK_PHASE_PHASE = 2 ∧ ((s.wreg c fb).toInt + idx.toNat).toNat ∈ s.azs.batch)) : s.slvwDone c = true := by
  unfold State.slvwDone
  rw [h]
  dsimp only
  rw [BitVec.ofNat_toNat, BitVec.ofNat_toNat, BitVec.setWidth_eq, BitVec.setWidth_eq, Bool.not_eq_true', ← Bool.not_eq_true]
  intro hblock
  simp only [State.slvwBlocks, Bool.and_eq_true, decide_eq_true_eq, List.contains_iff_mem] at hblock
  obtain ⟨⟨hphase, -⟩, hmem⟩ := hblock
  exact hb ⟨hphase, hmem⟩

end

/-! ## CHK -/

theorem mem_addTo (l : List Nat) (k p : Nat) : p ∈ addTo l k ↔ p ∈ l ∨ p = k := by
  induction l with
  | nil => simp [addTo]
  | cons j l ih =>
    unfold addTo
    split
    · simp [or_comm]
    · split
      · next h => subst h; simp [or_comm]
      · simp [ih, or_assoc]

theorem State.mem_dirty_chkPage (s : State) (q p : Nat) : p ∈ (s.chkPage q).cml.dirty ↔ p ∈ s.cml.dirty ∨ p = q := by
  have hdirty : (s.chkPage q).cml.dirty = addTo s.cml.dirty q := by
    unfold State.chkPage
    split <;> rfl
  rw [hdirty, mem_addTo]

theorem State.mem_relevant_chkPage (s : State) (q p : Nat) : p ∈ (s.chkPage q).cml.relevant ↔ p ∈ s.cml.relevant ∨ (1024 ≤ p ∧ p = q) := by
  unfold State.chkPage
  split
  · next h => exact ⟨.inl, fun hp => hp.elim id fun hq => absurd h (by omega)⟩
  · next h =>
    refine (mem_addTo s.cml.relevant q p).trans (or_congr_right ⟨fun e => ⟨by omega, e⟩, fun e => e.2⟩)

/-- The state with the marks of pages that another has. -/
def State.withMarks (s t : State) : State := { s with cml := { s.cml with dirty := t.cml.dirty, relevant := t.cml.relevant } }

theorem State.withMarks_mem (s t : State) : (s.withMarks t).mem = s.mem := rfl

theorem State.withMarks_withMem (s t : State) (m : List Host.Cell) :
    ({ s with mem := m, cml := { s.cml with dirty := t.cml.dirty, relevant := t.cml.relevant } } : State) =
      ({ s with mem := m } : State).withMarks t := rfl

/-- But for memory and marks of pages, the body of an instruction starts from the state with the mark of a resumed context taken off. -/
theorem State.bodyState_withMarks (s : State) (c : Ctx) :
    ({ s.bodyState c.toNat with mem := s.mem } : State).withMarks s = s.unmark c := by
  have honly : ({ s.bodyState c.toNat with mem := (s.unmark c).mem } : State) = s.unmark c := s.onlyMem_bodyState c.toNat
  have hmarks : (s.unmark c).withMarks s = s.unmark c := by
    unfold State.unmark State.modAct
    split <;> rfl
  rw [← s.mem_modAct c.toNat ({ · with skip := false })]
  exact (congrArg (fun u : State => u.withMarks s) honly).trans hmarks

theorem State.withMem_congr {s t u : State} (m : List Host.Cell) (h : s.withMarks t = u.withMarks t) :
    ({ s with mem := m } : State).withMarks t = ({ u with mem := m } : State).withMarks t :=
  congrArg (fun v : State => ({ v with mem := m } : State)) h

theorem State.chkPage_withMarks (s t : State) (q : Nat) : (s.chkPage q).withMarks t = s.withMarks t := by
  unfold State.chkPage
  split <;> rfl

/-- Marking a list of pages changes their marks and nothing else. -/
theorem State.foldl_chkPage (l : List Nat) (s t : State) :
    (l.foldl (·.chkPage ·) s).withMarks t = s.withMarks t ∧
    (∀ p, p ∈ (l.foldl (·.chkPage ·) s).cml.dirty ↔ p ∈ s.cml.dirty ∨ p ∈ l) ∧
    ∀ p, p ∈ (l.foldl (·.chkPage ·) s).cml.relevant ↔ p ∈ s.cml.relevant ∨ (1024 ≤ p ∧ p ∈ l) := by
  induction l generalizing s with
  | nil => exact ⟨rfl, by simp, by simp⟩
  | cons q l ih =>
    obtain ⟨hrest, hdirty, hrel⟩ := ih (s.chkPage q)
    refine ⟨hrest.trans (s.chkPage_withMarks t q), fun p => ?_, fun p => ?_⟩
    · rw [List.foldl_cons, hdirty, State.mem_dirty_chkPage, List.mem_cons, or_assoc]
    · rw [List.foldl_cons, hrel, State.mem_relevant_chkPage, List.mem_cons, or_assoc, and_or_left]

/-- The pages with dirty bits that n bytes from a reach. -/
def chkPages (a n : Nat) : List Nat :=
  (List.range 1792).filter fun p => decide (n ≠ 0 ∧ a < pageAddr p + 4096 ∧ pageAddr p < a + n)

theorem mem_chkPages (a n p : Nat) : p ∈ chkPages a n ↔ p < 1792 ∧ n ≠ 0 ∧ a < pageAddr p + 4096 ∧ pageAddr p < a + n := by
  rw [chkPages, List.mem_filter, List.mem_range, decide_eq_true_iff]

theorem exec_chk_eq {s : State} {c : Ctx} (fa fb : RegNo) (idx : Half) (hf : s.canFetch c) :
    exec (.chk c fa fb idx) s =
      .next ((chkPages ((s.wreg c fa).toNat + idx.toNat) (s.wreg c fb).toNat).foldl (·.chkPage ·) (s.bodyState c.toNat)) := by
  refine congrArg Host.Outcome.next (State.run_ok _ _ _ _ hf.1 hf.2 ?_)
  simp only [State.wr_, State.w_bodyState _ _ _ fa.isLt, State.w_bodyState _ _ _ fb.isLt]
  rfl

/-- CHK marks its pages, moves PC on, and changes nothing else (R176). -/
theorem chk_spec {s : State} {c : Ctx} (fa fb : RegNo) (idx : Half) (hf : s.canFetch c) :
    let l := chkPages ((s.wreg c fa).toNat + idx.toNat) (s.wreg c fb).toNat
    ∃ t, exec (.chk c fa fb idx) s = .next t ∧ t.pc c.toNat = s.pc c.toNat + 4 ∧
      (∀ p, p ∈ t.cml.dirty ↔ p ∈ s.cml.dirty ∨ p ∈ l) ∧
      (∀ p, p ∈ t.cml.relevant ↔ p ∈ s.cml.relevant ∨ (1024 ≤ p ∧ p ∈ l)) ∧
      (∀ b, offPc c b → t.byte b = s.byte b) ∧
      ({ t with mem := s.mem, cml := { t.cml with dirty := s.cml.dirty, relevant := s.cml.relevant } } : State) = s.unmark c := by
  intro l
  obtain ⟨hrest, hdirty, hrel⟩ := State.foldl_chkPage l (s.bodyState c.toNat) s
  have hmem : (l.foldl (·.chkPage ·) (s.bodyState c.toNat)).mem = (s.bodyState c.toNat).mem := by
    rw [← State.withMarks_mem _ s, hrest, State.withMarks_mem]
  have hcml : (s.bodyState c.toNat).cml = (s.unmark c).cml := State.onlyMem_cml (s.onlyMem_bodyState c.toNat)
  have hmarks : (s.unmark c).cml.dirty = s.cml.dirty ∧ (s.unmark c).cml.relevant = s.cml.relevant := by
    unfold State.unmark State.modAct
    split <;> exact ⟨rfl, rfl⟩
  refine ⟨_, exec_chk_eq fa fb idx hf, ?_, fun p => ?_, fun p => ?_, fun b hb => ?_, ?_⟩
  · rw [State.pc_congr hmem, State.pc_bodyState _ _ c.isLt hf.2]
  · rw [hdirty, hcml, hmarks.1]
  · rw [hrel, hcml, hmarks.2]
  · rw [State.byte_congr hmem, State.byte_bodyState _ _ _ hb]
  · rw [State.withMarks_withMem]
    exact (State.withMem_congr s.mem hrest).trans (s.bodyState_withMarks c)

/-! ## The statement -/

/-- Settles O27: each clause is the lemma of its instruction or command. -/
theorem prismAndCheckpointInstructions : Obligations.PrismAndCheckpointInstructions := by
  unfold Obligations.PrismAndCheckpointInstructions
  refine ⟨⟨fun s c fa fb idx hf => ?_, fun s c fa fb idx => ?_, fun s c fa fb idx hf => ?_⟩, fun s => ?_⟩
  · exact ⟨prq_raises_illegal fa hf, prq_blocks fa hf, prq_raises_bounds fa hf, prq_copies fa hf⟩
  · refine ⟨fun h ho => ?_, fun ho => congrArg Host.Outcome.next (if_pos ho), fun h hb => ?_, fun h => ⟨?_, ?_⟩⟩
    · exact congrArg Host.Outcome.next ((if_neg (Nat.not_lt.mpr ho)).trans (State.unblock_some h))
    · exact congrArg Host.Outcome.next ((if_pos (State.slvwDone_some h hb)).trans (State.unblock_some h))
    · exact congrArg Host.Outcome.next (if_neg (by rw [State.slvwDone_none h]; decide))
    · exact congrArg Host.Outcome.next ((congrArg (ite _ s) (State.unblock_none true h)).trans (ite_self s))
  · simpa only [mem_chkPages] using chk_spec fa fb idx hf
  · exact ⟨fun _ => rfl, fun _ _ _ _ => exec_answers _ s, fun _ => rfl, fun _ _ _ _ => exec_answers _ s⟩
end Sys2Proof.Machine
end

section
/-!
The capture cut-off with entries of two contexts that raise an exception (R108, R144, R184, R185).
-/
namespace Sys2Proof.Machine

/-- Contexts 5 and 255 wait to enter instance 0, which is not defined; EXC_ACT of both is 0b10, a fault stop. -/
def State.twoBadEntries : State :=
  { State.reset with cml := { acts := [(5, { cfg := 0x02000000, per := 0, ent := 0 }), (255, { cfg := 0x12000000, per := 0, ent := 0 })] } }

/-- The fault stop of context 5 drops both activations, and the exception of context 255, now without one, ends the fall-back's run. -/
theorem State.fbCore_cutOff_twoBadEntries : State.twoBadEntries.cutOff.cml.fbCore = none := by decide +kernel

/-- Refutes O36: its last clause says that with FB_EN set the fall-back context has its core after CAPTURE_CUT_OFF.  The command also lets
the cores choose anew, and an entry that raises an exception then acts at once: where the state lists an activation of context 255 too, the
fault stop of another context's entry takes it away, and the exception of 255 ends the fall-back's run that has just started.  The model
triggers tasks of contexts 0 to 254 alone; the statement takes every state. -/
theorem not_prismStreams : ¬ Obligations.PrismStreams := by
  intro h
  obtain ⟨hstreams, -⟩ := h
  obtain ⟨-, -, -, -, -, -, -, -, -, -, -, -, -, -, -, -, hcut⟩ := hstreams State.twoBadEntries 0 ⟨0, 0, none, none⟩
  obtain ⟨-, -, -, -, hon⟩ := hcut
  obtain ⟨-, -, hcore⟩ := hon (by decide)
  rw [State.fbCore_cutOff_twoBadEntries] at hcore
  cases hcore
end Sys2Proof.Machine
end

section
/-!
The patrol of one damaged table in the tick whose record has been published (R59, R89).
-/
namespace Sys2Proof.Machine

/-! ## The last published record -/

/-- A record in which at least one byte was replaced is not empty. -/
theorem State.lastRec_patchRecord_ne_nil (s : State) (off k v : Nat) : (s.patchRecord off (k + 1) v).prism.lastRec ≠ [] := by
  simp [State.patchRecord, bytesLE]

theorem State.lastRec_failInRecord_ne_nil {s : State} (n : Nat) (h : s.rd (resultAt s.tickNo) 8 = s.tickNo) :
    (s.failInRecord n).prism.lastRec ≠ [] := by
  unfold State.failInRecord
  rw [if_pos h]
  exact State.lastRec_patchRecord_ne_nil _ _ 0 _

/-! ## A table that fails -/

/-- The tick number is read through its two registers alone. -/
theorem State.tickNo_congr {s t : State} (hlo : t.reg R.TICK_NUM_LO = s.reg R.TICK_NUM_LO) (hhi : t.reg R.TICK_NUM_HI = s.reg R.TICK_NUM_HI) :
    t.tickNo = s.tickNo := by
  unfold State.tickNo State.reg64
  rw [hlo, show t.reg (R.TICK_NUM_LO + 4) = s.reg (R.TICK_NUM_LO + 4) from hhi]

/-- Result buffers lie below MRAM. -/
theorem resultAt_below (n : Nat) : resultAt n + 1024 ≤ mramBase := by
  unfold resultAt mramBase
  omega

/-- A failing table shows in PRISM_TBL_FAIL and PRISM_STATUS, and is recorded with source 21 (R58, R59). -/
theorem State.logFrame_failTable (s : State) (n : Nat) :
    ((s.setBit R.PRISM_TBL_FAIL n true).put F.PRISM_STATUS_TBL_FAIL 1).logFrame (s.failTable n) :=
  State.logFrame_trans (State.logFrame_event _ _ _) (State.logFrame_assertSrc _ _)

theorem State.tickNo_failTable (s : State) (n : Nat) : (s.failTable n).tickNo = s.tickNo := by
  obtain ⟨-, hreg, -⟩ := s.logFrame_failTable n
  have hkeep : ∀ a, logReg a = false → a ≠ R.PRISM_STATUS → a < R.PRISM_TBL_FAIL → (s.failTable n).reg a = s.reg a := fun a hl hs ht =>
    (hreg a hl).trans ((State.reg_put_other _ _ _ _ hs).trans (s.reg_setBit_other _ _ _ _ (by omega)))
  exact State.tickNo_congr (hkeep _ rfl (by decide) (by decide)) (hkeep _ rfl (by decide) (by decide))

/-- A failing table leaves the tick's published record as it is. -/
theorem State.rd_result_failTable (s : State) (n : Nat) :
    (s.failTable n).rd (resultAt (s.failTable n).tickNo) 8 = s.rd (resultAt s.tickNo) 8 := by
  obtain ⟨-, -, hbyte⟩ := s.logFrame_failTable n
  have hbelow := resultAt_below s.tickNo
  rw [State.tickNo_failTable]
  exact State.rd_congr _ _ fun b _ hb => hbyte b (by omega)

/-! ## The patrol -/

/-- The state with the patrol at its next 64 KiB. -/
def State.patrolled (s : State) : State := { s with prism := { s.prism with patrol := (s.prism.patrol + 1) % 128 } }

/-- Stream n's table is checked with the next 64 KiB: it reaches into them and has not failed. -/
def State.patrolDue (s : State) (n : Nat) : Bool :=
  match s.tableAt n with
  | some a => decide (0x20000000 + 65536 * s.prism.patrol < a + 64 + s.rd (a + 8) 4 ∧ a + 64 < 0x20000000 + 65536 * s.prism.patrol + 65536) &&
      !s.tblFailed n
  | none => false

/-- The check of stream n's table. -/
def State.patrolCheck (s : State) (n : Nat) : State :=
  match s.tableAt n with
  | some a => if s.weightsOk a then s else (s.failTable n).failInRecord n
  | none => s

theorem State.tablePatrol_eq (s : State) : s.tablePatrol = (s.tabled.filter s.patrolDue).foldl (·.patrolCheck ·) s.patrolled := rfl

/-- Stream n alone has a table: it stands at a, its weights are damaged, it has not failed, and it reaches into the next 64 KiB. -/
structure State.OneDamaged (s : State) (n a : Nat) : Prop where
  alone : s.tabled = [n]
  place : s.tableAt n = some a
  whole : s.tblFailed n = false
  damaged : s.weightsOk a = false
  after : 0x20000000 + 65536 * s.prism.patrol < a + 64 + s.rd (a + 8) 4
  before : a + 64 < 0x20000000 + 65536 * (s.prism.patrol + 1)

section
variable {s : State} {n a : Nat} (h : s.OneDamaged n a)
include h

theorem State.OneDamaged.patrolDue : s.patrolDue n = true := by
  unfold State.patrolDue
  rw [h.place]
  dsimp only
  rw [h.whole, Bool.not_false, Bool.and_true, decide_eq_true_iff]
  exact ⟨h.after, by rw [Nat.add_assoc, ← Nat.mul_succ]; exact h.before⟩

theorem State.OneDamaged.patrolCheck : s.patrolled.patrolCheck n = (s.patrolled.failTable n).failInRecord n := by
  have hplace : s.patrolled.tableAt n = some a := h.place
  have hdamaged : s.patrolled.weightsOk a = false := h.damaged
  unfold State.patrolCheck
  rw [hplace]
  dsimp only
  rw [if_neg (Bool.eq_false_iff.mp hdamaged)]

theorem State.OneDamaged.tablePatrol : s.tablePatrol = (s.patrolled.failTable n).failInRecord n := by
  rw [State.tablePatrol_eq, h.alone, List.filter_cons_of_pos h.patrolDue, List.filter_nil, List.foldl_cons, List.foldl_nil, h.patrolCheck]

/-- Where the tick's record has been published, the patrol rewrites the last published record too. -/
theorem State.OneDamaged.lastRec_ne_nil (hpub : s.rd (resultAt s.tickNo) 8 = s.tickNo) : s.tablePatrol.prism.lastRec ≠ [] := by
  rw [h.tablePatrol]
  refine State.lastRec_failInRecord_ne_nil n ?_
  rw [State.rd_result_failTable, State.tickNo_failTable]
  exact hpub

end

/-- A table for stream 0 whose header holds a wrong CRC of its weights, in tick 0. -/
def State.damagedTable : State := { State.reset.wr 0x20000038 4 1 with prism := { tables := [(0, 0x20000000)] } }

theorem State.oneDamaged_damagedTable : State.damagedTable.OneDamaged 0 0x20000000 where
  alone := by decide
  place := by decide
  whole := by decide
  damaged := by decide +kernel
  after := by decide +kernel
  before := by decide

/-- The result buffer of the tick carries the tick's number. -/
theorem State.published_damagedTable :
    State.damagedTable.rd (resultAt State.damagedTable.tickNo) 8 = State.damagedTable.tickNo := by decide +kernel

/-- Refutes O37: its clause of a table whose CRC is wrong says that beside the patrol's place Prism's state stays, in the tick whose record
has been published too.  There the failure goes into that record, and the model changes `prism.lastRec`, its copy of the last published
record, with it: in the counterexample the copy is empty before the patrol and is not after it. -/
theorem not_prismResults : ¬ Obligations.PrismResults := by
  intro h
  obtain ⟨hresults, -⟩ := h
  obtain ⟨-, -, -, -, -, hpatrol, -⟩ := hresults State.damagedTable
  obtain ⟨alone, place, whole, damaged, after, before⟩ := State.oneDamaged_damagedTable
  obtain ⟨t, ht, -, -, hprism, -⟩ := hpatrol 0 _ alone place whole damaged after before (by decide)
  obtain rfl : State.damagedTable.tablePatrol = t := Host.Outcome.next.inj ht
  exact State.oneDamaged_damagedTable.lastRec_ne_nil State.published_damagedTable (congrArg PrismSt.lastRec hprism)
end Sys2Proof.Machine
end

section
/-!
The outputs of the analogue chains, and the ends of filling and warming (R95, R96, R100, R103).
-/
namespace Sys2Proof.Machine

/-! ## Signed fields -/

/-- A number written in two's complement reads back reduced to the width. -/
theorem signedOf_unsignedOf (w : Nat) (x : Int) : signedOf w (unsignedOf w x) = x.bmod (2 ^ w) := by
  unfold signedOf unsignedOf
  rw [BitVec.ofNat_toNat, BitVec.setWidth_eq, BitVec.toInt_ofInt]

theorem State.fi_puti_same (s : State) (x : Fld) (v : Int) (hl : x.lo ≤ x.hi) (hn : x.hi < 32) :
    (s.puti x v).fi x = v.bmod (2 ^ (x.hi + 1 - x.lo)) := by
  have hfit : unsignedOf (x.hi + 1 - x.lo) v < 2 ^ (x.hi + 1 - x.lo) := BitVec.isLt _
  unfold State.fi State.puti
  rw [State.f_put_same _ _ _ hl hn, Nat.mod_eq_of_lt hfit, signedOf_unsignedOf]

/-! ## A chain's status -/

/-- The inputs' bits of FILT_WARM lie in one register. -/
theorem State.regsOnly_showWarm (s : State) {i : Nat} (hi : i < 24) : s.regsOnly (s.showWarm i) [R.FILT_WARM] := by
  have hword : R.FILT_WARM + 4 * (i / 32) = R.FILT_WARM := by rw [Nat.div_eq_of_lt (by omega), Nat.mul_zero, Nat.add_zero]
  exact s.regsOnly_setReg _ (List.mem_singleton.mpr hword)

theorem filtStat_ne_filtWarm (i : Nat) : R.FILT_STAT i ≠ R.FILT_WARM := by
  unfold R.FILT_STAT R.FILT_WARM; omega

/-- Bit k of a chain's status: 3 is FILLING and 2 is WARMING. -/
def statusBit (i k : Nat) : Fld := ⟨R.FILT_STAT i, k, k⟩

/-- A bit of a chain's status that is cleared and shown reads 0, and only the status and FILT_WARM change. -/
theorem State.clearStatus_spec (s : State) {i k : Nat} (hi : i < 24) (hk : k < 32) :
    ((s.put (statusBit i k) 0).showWarm i).f (statusBit i k) = 0 ∧ ((s.put (statusBit i k) 0).showWarm i).mem = s.mem ∧
      ∀ r, r ≠ R.FILT_STAT i → r ≠ R.FILT_WARM → ((s.put (statusBit i k) 0).showWarm i).reg r = s.reg r := by
  have hshow := (s.put (statusBit i k) 0).regsOnly_showWarm hi
  refine ⟨?_, (State.regsOnly_mem hshow).trans (s.put_mem _ _), fun r hstat hwarm => ?_⟩
  · have hkept : (statusBit i k).addr ∉ [R.FILT_WARM] := mt List.mem_singleton.mp (filtStat_ne_filtWarm i)
    rw [State.regsOnly_f hshow _ hkept, State.f_put_same _ _ _ (Nat.le_refl k) hk, Nat.zero_mod]
  · exact (hshow.2 r (mt List.mem_singleton.mp hwarm)).trans (s.reg_put_other _ _ _ hstat)

/-! ## A chain's output -/

/-- An output in FILT_OUT, of an input that has delivered something. -/
def State.outputShown (s : State) (i : Nat) (y : Int) : State :=
  let t := s.puti (F.FILT_OUT_OUT i) y
  { t with prism := { t.prism with silent := t.prism.silent.filter (· ≠ i) } }

/-- A chain that is off or still filling gives no output (R95, R100). -/
theorem State.filterOutput_idle {s : State} {i : Nat} (code : Int) (clip strobe : Bool)
    (h : s.chainOn i = false ∨ s.f (F.FILT_STAT_FILLING i) = 1) : s.filterOutput i code clip strobe = s := by
  have hidle : (s.chainOn i && !s.b (F.FILT_STAT_FILLING i)) = false := by
    rcases h with hoff | hfilling
    · rw [hoff, Bool.false_and]
    · rw [State.b, hfilling]; exact Bool.and_false _
  unfold State.filterOutput
  rw [hidle, if_neg Bool.false_ne_true]

/-- With its Glint filter off a chain's output passes as it is (R102). -/
theorem State.chainGlint_off {s : State} {i : Nat} (code : Int) (h : bitsOf (s.eff (R.FILT_GL i)) 31 31 = 0) :
    s.chainGlint i code = (code, false, s) := by
  unfold State.chainGlint
  exact if_neg (by rw [h]; exact Nat.zero_ne_one)

/-- An output between Strobes, without overload and Glint filter, goes to FILT_OUT as it is (R95, R96). -/
theorem State.filterOutput_plain {s : State} {i : Nat} (code : Int) (hon : s.chainOn i = true) (hfull : s.f (F.FILT_STAT_FILLING i) = 0)
    (hglint : bitsOf (s.eff (R.FILT_GL i)) 31 31 = 0) : s.filterOutput i code false false = s.outputShown i code := by
  have hruns : (s.chainOn i && !s.b (F.FILT_STAT_FILLING i)) = true := by rw [hon, State.b, hfull]; rfl
  have hpass := s.chainGlint_off code hglint
  unfold State.filterOutput
  rw [if_pos hruns]
  simp only [Bool.false_eq_true, if_false, hpass]
  rfl

/-- FILT_OUT holds a 24-bit code with its sign. -/
theorem State.fi_outputShown (s : State) (i : Nat) (code : Code24) :
    (s.outputShown i code.toInt).fi (F.FILT_OUT_OUT i) = code.toInt := by
  have hwritten : (s.puti (F.FILT_OUT_OUT i) code.toInt).fi (F.FILT_OUT_OUT i) = code.toInt.bmod (2 ^ 32) :=
    s.fi_puti_same _ _ (Nat.zero_le _) (Nat.lt_add_one 31)
  have hlow := code.le_toInt
  have hhigh := code.toInt_lt
  exact hwritten.trans (Int.bmod_eq_of_le (by omega) (by omega))

theorem State.not_mem_silent_outputShown (s : State) (i : Nat) (y : Int) : i ∉ (s.outputShown i y).prism.silent := fun h =>
  of_decide_eq_true (List.mem_filter.mp h).2 rfl

theorem State.reg_outputShown_other (s : State) (i : Nat) (y : Int) {r : Nat} (h : r ≠ R.FILT_OUT i) :
    (s.outputShown i y).reg r = s.reg r :=
  s.reg_put_other _ _ _ h

/-- Settles O38: each clause is the lemma of its output or of the status bit it clears. -/
theorem analogueFilterChains : Obligations.AnalogueFilterChains := by
  unfold Obligations.AnalogueFilterChains
  refine ⟨fun s i code clip strobe => ⟨?idle, ?plain, ?filling, ?warming⟩, fun s => ⟨?_, ?_, ?_⟩⟩
  case idle => exact fun h => congrArg Host.Outcome.next (State.filterOutput_idle _ _ _ h)
  case plain =>
    intro hon hfull hglint
    exact ⟨_, congrArg Host.Outcome.next (State.filterOutput_plain _ hon hfull hglint), s.fi_outputShown _ _,
      s.not_mem_silent_outputShown _ _, fun r hout _ _ => s.reg_outputShown_other _ _ hout, rfl⟩
  case filling => exact ⟨_, rfl, s.clearStatus_spec i.isLt (k := 3) (by decide)⟩
  case warming => exact ⟨_, rfl, s.clearStatus_spec i.isLt (k := 2) (by decide)⟩
  · exact fun _ _ _ _ => rfl
  · exact fun _ => rfl
  · exact fun _ => rfl
end Sys2Proof.Machine
end

section
/-!
The words of the Cumel instructions (R153 to R155): each format's fields read back, so each word decodes to its instruction.
-/
namespace Sys2Proof.Machine

/-! ## A word as a number -/

theorem toNat_append_eq {m n : Nat} (a : BitVec m) (b : BitVec n) : (a ++ b).toNat = a.toNat * 2 ^ n + b.toNat := by
  rw [BitVec.toNat_append, ← Nat.shiftLeft_add_eq_or_of_lt b.isLt, Nat.shiftLeft_eq]

theorem toNat_wordA (op func : Nat) (rd rs1 rs2 : RegNo) : (wordA op func rd rs1 rs2).toNat =
    (((op % 64 * 32 + rd.toNat) * 32 + rs1.toNat) * 32 + rs2.toNat) * 2048 + func % 2048 :=
  (toNat_append_eq (_ ++ rs2) _).trans (by simp only [toNat_append_eq, BitVec.toNat_ofNat]; rfl)

theorem toNat_wordI (op sub : Nat) (rd rs1 : RegNo) (imm : Imm14) : (wordI op sub rd rs1 imm).toNat =
    (((op % 64 * 32 + rd.toNat) * 32 + rs1.toNat) * 4 + sub % 4) * 16384 + imm.toNat :=
  (toNat_append_eq (_ ++ BitVec.ofNat 2 sub) _).trans (by simp only [toNat_append_eq, BitVec.toNat_ofNat]; rfl)

theorem toNat_wordM (op : Nat) (r q : RegNo) (h : Half) :
    (wordM op r q h).toNat = ((op % 64 * 32 + r.toNat) * 32 + q.toNat) * 65536 + h.toNat :=
  (toNat_append_eq (_ ++ q) _).trans (by simp only [toNat_append_eq, BitVec.toNat_ofNat]; rfl)

theorem toNat_wordB (op : Nat) (rs : RegNo) (off : Off21) :
    (wordB op rs off).toNat = (op % 64 * 32 + rs.toNat) * 2097152 + off.toNat :=
  (toNat_append_eq (_ ++ rs) _).trans (by simp only [toNat_append_eq, BitVec.toNat_ofNat]; rfl)

/-! ## A field is a digit of the number -/

theorem bitsOf_eq_of_toNat {n : Nat} {w : BitVec n} {hi lo x : Nat} (h : w.toNat / 2 ^ lo % 2 ^ (hi + 1 - lo) = x) : bitsOf w hi lo = x := by
  rw [bitsOf, Nat.shiftRight_eq_div_pow, h]

theorem extractLsb'_eq_of_toNat {n k lo : Nat} {w : BitVec n} {x : BitVec k} (h : w.toNat / 2 ^ lo % 2 ^ k = x.toNat) :
    w.extractLsb' lo k = x :=
  BitVec.eq_of_toNat_eq (by rw [BitVec.extractLsb'_toNat, Nat.shiftRight_eq_div_pow, h])

/-! ## Format A (R153) -/

section
variable (op func : Nat) (rd rs1 rs2 : RegNo)

@[simp] theorem wOp_wordA : wOp (wordA op func rd rs1 rs2) = op % 64 :=
  bitsOf_eq_of_toNat (by rw [toNat_wordA]; omega)

@[simp] theorem wR1_wordA : wR1 (wordA op func rd rs1 rs2) = rd :=
  extractLsb'_eq_of_toNat (by rw [toNat_wordA]; omega)

@[simp] theorem wR2_wordA : wR2 (wordA op func rd rs1 rs2) = rs1 :=
  extractLsb'_eq_of_toNat (by rw [toNat_wordA]; omega)

@[simp] theorem wR3_wordA : wR3 (wordA op func rd rs1 rs2) = rs2 :=
  extractLsb'_eq_of_toNat (by rw [toNat_wordA]; omega)

@[simp] theorem wFunc_wordA : wFunc (wordA op func rd rs1 rs2) = func % 2048 :=
  bitsOf_eq_of_toNat (by rw [toNat_wordA]; omega)

end

/-! ## Format I (R153) -/

section
variable (op sub : Nat) (rd rs1 : RegNo) (imm : Imm14)

@[simp] theorem wOp_wordI : wOp (wordI op sub rd rs1 imm) = op % 64 :=
  bitsOf_eq_of_toNat (by rw [toNat_wordI]; omega)

@[simp] theorem wSub_wordI : wSub (wordI op sub rd rs1 imm) = sub % 4 :=
  bitsOf_eq_of_toNat (by rw [toNat_wordI]; omega)

@[simp] theorem wR1_wordI : wR1 (wordI op sub rd rs1 imm) = rd :=
  extractLsb'_eq_of_toNat (by rw [toNat_wordI]; omega)

@[simp] theorem wR2_wordI : wR2 (wordI op sub rd rs1 imm) = rs1 :=
  extractLsb'_eq_of_toNat (by rw [toNat_wordI]; omega)

@[simp] theorem wImm_wordI : wImm (wordI op sub rd rs1 imm) = imm :=
  extractLsb'_eq_of_toNat (by rw [toNat_wordI]; omega)

end

/-! ## Format M (R153) -/

section
variable (op : Nat) (r q : RegNo) (h : Half)

@[simp] theorem wOp_wordM : wOp (wordM op r q h) = op % 64 :=
  bitsOf_eq_of_toNat (by rw [toNat_wordM]; omega)

@[simp] theorem wR1_wordM : wR1 (wordM op r q h) = r :=
  extractLsb'_eq_of_toNat (by rw [toNat_wordM]; omega)

@[simp] theorem wR2_wordM : wR2 (wordM op r q h) = q :=
  extractLsb'_eq_of_toNat (by rw [toNat_wordM]; omega)

@[simp] theorem wHalf_wordM : wHalf (wordM op r q h) = h :=
  extractLsb'_eq_of_toNat (by rw [toNat_wordM]; omega)

end

/-! ## Format B (R153) -/

section
variable (op : Nat) (rs : RegNo) (off : Off21)

@[simp] theorem wOp_wordB : wOp (wordB op rs off) = op % 64 :=
  bitsOf_eq_of_toNat (by rw [toNat_wordB]; omega)

@[simp] theorem wR1_wordB : wR1 (wordB op rs off) = rs :=
  extractLsb'_eq_of_toNat (by rw [toNat_wordB]; omega)

@[simp] theorem wOff_wordB : wOff (wordB op rs off) = off :=
  extractLsb'_eq_of_toNat (by rw [toNat_wordB]; omega)

end

/-! ## Decoding what was encoded -/

/-- The word that the encoder gives decodes to the instruction it was made of: row by row of the encoder, by the fields of the row's format. -/
theorem cmlDecode_of_cmlEncode {i : Instr} {c : Ctx} {w : Word} (h : cmlEncode i = some (c, w)) : cmlDecode c w = some i := by
  unfold cmlEncode at h
  split at h
  case h_87 => cases h
  all_goals
    obtain ⟨rfl, rfl⟩ := Prod.mk.inj (Option.some.inj h)
    simp [cmlDecode, decodeInteger, decodeFP, decodeSystem, decodeImm]

/-- Settles O23: a word decodes to the instruction that it encodes, and so encodes one instruction alone. -/
theorem decodeOfEncodeIsTheInstruction : Obligations.DecodeOfEncodeIsTheInstruction := by
  unfold Obligations.DecodeOfEncodeIsTheInstruction
  exact ⟨fun _ _ _ => cmlDecode_of_cmlEncode,
    fun _ _ _ _ hi hj => Option.some.inj ((cmlDecode_of_cmlEncode hi).symm.trans (cmlDecode_of_cmlEncode hj))⟩

/-- Settles O22: each word, written out, decodes by evaluation, whatever the context. -/
theorem cumelWordsDecode : Obligations.CumelWordsDecode := by
  unfold Obligations.CumelWordsDecode
  exact fun _ => ⟨rfl, rfl, rfl, rfl, rfl, rfl, rfl, rfl, rfl, rfl, rfl, rfl, rfl⟩
end Sys2Proof.Machine
end

section
/-!
The context store after reset (R145).
-/
namespace Sys2Proof.Machine

/-- A number whose bytes are all zero is zero. -/
theorem State.rd_eq_zero (s : State) (a n : Nat) (h : ∀ b, a ≤ b → b < a + n → s.byte b = 0) : s.rd a n = 0 := by
  induction n generalizing a with
  | zero => rfl
  | succ n ih => rw [State.rd, h a (by omega) (by omega), ih (a + 1) fun b h1 h2 => h b (by omega) (by omega)]; rfl

/-- In a slot of the context store every byte but the first of the CTX word is 0 where nothing has been written. -/
theorem memDefault_slot (c o : Nat) (hc : c < 256) (ho : o < 0x1000) :
    memDefault (slot c + o) = if o = 0x20C then BitVec.ofNat 8 c else 0 := by
  have hin : ctxBase ≤ slot c + o ∧ slot c + o < 0x1000000 := by unfold slot ctxBase; omega
  have hmod : (slot c + o) % 0x1000 = o := by unfold slot ctxBase; omega
  have hdiv : (slot c + o - ctxBase) / 0x1000 = c := by unfold slot ctxBase; omega
  unfold memDefault
  rw [hmod, hdiv]
  simp only [hin, true_and]

theorem State.byte_reset (a : Nat) : State.reset.byte a = memDefault a := rfl

/-- Beside the CTX word a slot's registers are zero after reset. -/
theorem State.rd_reset_slot (c o n : Nat) (hc : c < 256) (h : o + n ≤ 0x20C) : State.reset.rd (slot c + o) n = 0 := by
  refine State.rd_eq_zero _ _ _ fun b h1 h2 => ?_
  obtain ⟨k, rfl⟩ : ∃ k, b = slot c + k := ⟨b - slot c, by omega⟩
  rw [State.byte_reset, memDefault_slot c k hc (by omega), if_neg (by omega)]

/-- A slot's CTX word holds the context's own number. -/
theorem State.rd_reset_ctx (c : Nat) (hc : c < 256) : State.reset.rd (slot c + 0x20C) 4 = c := by
  have hrest : State.reset.rd (slot c + 0x20C + 1) 3 = 0 := by
    refine State.rd_eq_zero _ _ _ fun b h1 h2 => ?_
    obtain ⟨k, rfl⟩ : ∃ k, b = slot c + k := ⟨b - slot c, by omega⟩
    rw [State.byte_reset, memDefault_slot c k hc (by omega), if_neg (by omega)]
  rw [State.rd, hrest, State.byte_reset, memDefault_slot c 0x20C hc (by decide), if_pos rfl, BitVec.toNat_ofNat]
  omega

/-- Settles O3: the state after reset lists nothing, so each register and field is read off it, and the slots as memory's default. -/
theorem theStateAfterReset : Obligations.TheStateAfterReset := by
  unfold Obligations.TheStateAfterReset
  refine ⟨rfl, rfl, rfl, rfl, fun _ => rfl, rfl, rfl, rfl, rfl, rfl, rfl, rfl, rfl, rfl, rfl, rfl, fun c r => ⟨?_, ?_, ?_⟩⟩
  · unfold State.w
    rw [State.rd_reset_slot c.toNat (8 * r.toNat) 8 c.isLt (by omega)]
    exact ite_self 0
  · unfold State.pc
    rw [State.rd_reset_slot c.toNat 0x200 4 c.isLt (by decide), Nat.zero_mod]
  · exact State.rd_reset_ctx c.toNat c.isLt
end Sys2Proof.Machine
end

section
/-!
What an instruction does, read off its body: one lemma for each shape in which an instruction can end (R147 to R150, R184).
-/
namespace Sys2Proof.Machine

/-! ## The state in which a body runs -/

section
variable (s : State) (c : Ctx)

theorem State.mem_unmark : (s.unmark c).mem = s.mem := s.mem_modAct c.toNat _

theorem State.onlyMem_bodyState_unmark : (s.unmark c).onlyMem (s.bodyState c.toNat) := s.onlyMem_bodyState c.toNat

/-- While its body runs, the registers that an instruction names are those before it. -/
theorem State.wr_bodyState (r : RegNo) : (s.bodyState c.toNat).wr_ c r = s.wreg c r := s.w_bodyState c.toNat r.toNat r.isLt

theorem State.dr_bodyState (r : RegNo) : (s.bodyState c.toNat).dr c r = s.dreg c r :=
  congrArg BitVec.toNat (s.d_bodyState c.toNat r.toNat r.isLt)

/-- The body runs on the state with PC at the next word. -/
theorem State.bodyState_eq_running : s.bodyState c.toNat = (s.unmark c).running c := by
  unfold State.bodyState State.running
  rw [State.pc_congr (s.mem_unmark c)]
  rfl

theorem State.byte_running (b : Nat) : (s.running c).byte b = (s.bodyState c.toNat).byte b := by
  unfold State.running State.bodyState State.setPc
  rw [State.byte_wr, State.byte_wr, State.byte_congr (s.mem_modAct c.toNat _)]

theorem State.rd_running (a n : Nat) : (s.running c).rd a n = (s.bodyState c.toNat).rd a n :=
  State.rd_congr a n fun b _ _ => s.byte_running c b

end

/-! ## A write of one register after the body -/

section
variable (s : State) (c : Ctx) (fl : FpFlags)

theorem State.onlyMem_flags : s.onlyMem (s.flags c.toNat fl) := by
  unfold State.flags
  split
  · exact s.onlyMem_refl
  · exact s.onlyMem_wr _ _ _

theorem State.byte_flags {b : Nat} (h : fl = 0 ∨ offFlags c b) : (s.flags c.toNat fl).byte b = s.byte b := by
  unfold State.flags
  split
  · rfl
  · next hfl => exact s.byte_wr_other _ _ _ b (h.resolve_left hfl)

theorem State.pc_flags : (s.flags c.toNat fl).pc c.toNat = s.pc c.toNat := by
  unfold State.flags
  split
  · rfl
  · exact s.pc_setFpflags _ _

theorem State.w_flags (r : RegNo) : (s.flags c.toNat fl).w c.toNat r.toNat = s.w c.toNat r.toNat := by
  unfold State.flags
  split
  · rfl
  · exact s.w_setFpflags _ _ _ r.isLt

theorem State.fpflags_flags : (s.flags c.toNat fl).fpflags c.toNat = (s.fpflags c.toNat ||| fl) % 32 := by
  unfold State.flags
  split
  · next hfl =>
    have hlt : s.fpflags c.toNat < 32 := Nat.mod_lt _ (by decide)
    rw [hfl, Nat.or_zero, Nat.mod_eq_of_lt hlt]
  · exact s.fpflags_setFpflags _ _ c.isLt

/-- A write of w[r] reads back, but for w0. -/
theorem State.w_setW_reg (r : RegNo) (v : Dword) : (s.setW c.toNat r.toNat v).w c.toNat r.toNat = if r = 0 then 0 else v := by
  by_cases hz : r = 0
  · rw [if_pos hz, hz]; rfl
  · rw [if_neg hz]
    exact s.w_setW_same _ _ _ c.isLt (by rwa [Ne, ← regNo_eq_zero]) r.isLt

theorem State.byte_setW {r : RegNo} {b : Nat} (v : Dword) (h : offW c r b) : (s.setW c.toNat r.toNat v).byte b = s.byte b :=
  s.byte_setW_other _ _ _ _ c.isLt (h.imp_left (regNo_eq_zero r).mp)

end

/-! ## How an instruction can end -/

section
variable {s t : State} {c : Ctx} {i : Instr} {body : State → Ran} (hf : s.canFetch c) (hi : exec i s = .next (s.run c.toNat body))
include hf hi

theorem exec_of_body (hb : body (s.bodyState c.toNat) = .ok t) : exec i s = .next t :=
  hi.trans (congrArg Host.Outcome.next (s.run_ok _ _ _ hf.1 hf.2 hb))

/-- The body raises an exception. -/
theorem raises_of_body {e : Exc} (hb : body (s.bodyState c.toNat) = .exc e) : raises i s c e :=
  hi.trans (congrArg Host.Outcome.next (s.run_exc _ _ _ hf.1 hf.2 hb))

/-- The body writes w[rd]. -/
theorem writesW_of_body {rd : RegNo} {v : Dword} (hb : body (s.bodyState c.toNat) = .ok ((s.bodyState c.toNat).setW c.toNat rd.toNat v)) :
    writesW i s c rd v := by
  refine ⟨_, exec_of_body hf hi hb, ?_, State.w_setW_reg _ c rd v, ?_, fun a ha hw => ?_⟩
  · rw [State.pc_setW _ _ _ _ rd.isLt, s.pc_bodyState _ c.isLt hf.2]
  · exact State.onlyMem_trans (s.onlyMem_bodyState_unmark c) (State.onlyMem_wr _ _ _ _)
  · rw [State.byte_setW _ c v hw, s.byte_bodyState _ _ ha]

/-- The body writes w[rd] and collects flags. -/
theorem writesWF_of_body {rd : RegNo} {v : Dword} {fl : FpFlags}
    (hb : body (s.bodyState c.toNat) = .ok (((s.bodyState c.toNat).setW c.toNat rd.toNat v).flags c.toNat fl)) :
    writesWF i s c rd v fl := by
  refine ⟨_, exec_of_body hf hi hb, ?_, ?_, ?_, ?_, fun a ha hk => ?_⟩
  · rw [State.pc_flags, State.pc_setW _ _ _ _ rd.isLt, s.pc_bodyState _ c.isLt hf.2]
  · rw [State.w_flags, State.w_setW_reg]
  · rw [State.fpflags_flags, State.fpflags_setW _ _ _ _ rd.isLt, State.fpflags_bodyState]
  · exact State.onlyMem_trans (s.onlyMem_bodyState_unmark c) (State.onlyMem_trans (State.onlyMem_wr _ _ _ _) (State.onlyMem_flags _ c fl))
  · obtain ⟨hw, hfl⟩ := hk
    rw [State.byte_flags _ c fl hfl, State.byte_setW _ c v hw, s.byte_bodyState _ _ ha]

/-- The body writes d[rd] and collects flags. -/
theorem writesD_of_body {rd : RegNo} {r : FpRes}
    (hb : body (s.bodyState c.toNat) = .ok (((s.bodyState c.toNat).setD c.toNat rd.toNat (BitVec.ofNat 64 r.bits)).flags c.toNat r.flags)) :
    writesD i s c rd r := by
  have hrun : s.run c.toNat body = s.runD c rd fun _ => r :=
    (s.run_ok _ _ _ hf.1 hf.2 hb).trans (s.run_ok _ (fun u => .ok ((u.setD c.toNat rd.toNat (BitVec.ofNat 64 r.bits)).flags c.toNat r.flags))
      _ hf.1 hf.2 rfl).symm
  obtain ⟨hpc, hd, hfl, honly, hbytes⟩ := s.runD_spec c rd (fun _ => r) hf.1 hf.2
  exact ⟨_, hi.trans (congrArg Host.Outcome.next hrun), hpc, hd, hfl, honly, fun a ha hk => hbytes a ha hk.1 hk.2⟩

/-- The body leaves PC at the next word and changes nothing. -/
theorem setsPc_of_ok (hb : body (s.bodyState c.toNat) = .ok (s.bodyState c.toNat)) : setsPc i s c (s.pc c.toNat + 4) :=
  ⟨_, exec_of_body hf hi hb, s.pc_bodyState _ c.isLt hf.2, s.onlyMem_bodyState_unmark c, fun a ha _ => s.byte_bodyState _ a ha⟩

/-- The body jumps. -/
theorem setsPc_of_jump {pc : Nat} (hb : body (s.bodyState c.toNat) = (s.bodyState c.toNat).jump c pc) : setsPc i s c (pc % 2 ^ 23) := by
  refine ⟨_, exec_of_body hf hi hb, State.pc_setPc _ _ _ c.isLt, ?_, fun a ha _ => ?_⟩
  · exact State.onlyMem_trans (s.onlyMem_bodyState_unmark c) (State.onlyMem_wr _ _ _ _)
  · rw [State.setPc, State.byte_wr_other _ _ _ _ _ ha, s.byte_bodyState _ a ha]

end

/-- An instruction that writes w[rd] with a value of the state. -/
theorem writesW_of_runW {s : State} {c : Ctx} {i : Instr} {rd : RegNo} {v : State → Dword} {x : Dword} (hf : s.canFetch c)
    (hi : exec i s = .next (s.runW c rd v)) (hv : v (s.bodyState c.toNat) = x) : writesW i s c rd x := by
  subst hv
  exact writesW_of_body hf hi rfl

/-- An instruction that writes d[rd] with a result of the state. -/
theorem writesD_of_runD {s : State} {c : Ctx} {i : Instr} {rd : RegNo} {v : State → FpRes} {r : FpRes} (hf : s.canFetch c)
    (hi : exec i s = .next (s.runD c rd v)) (hv : v (s.bodyState c.toNat) = r) : writesD i s c rd r := by
  subst hv
  exact writesD_of_body hf hi rfl
end Sys2Proof.Machine
end

section
/-!
Integer and immediate operations (R147, R153 to R155).
-/
namespace Sys2Proof.Machine

/-! ## The values -/

theorem oneIf_eq (b : Bool) : oneIf b = if b = true then 1 else 0 := rfl

theorem oneIf_slt (x y : Dword) : oneIf (x.slt y) = if x.toInt < y.toInt then 1 else 0 := by
  rw [oneIf_eq]; simp only [BitVec.slt_iff_toInt_lt]

theorem oneIf_ult (x y : Dword) : oneIf (x.ult y) = if x.toNat < y.toNat then 1 else 0 := by
  rw [oneIf_eq]; simp only [BitVec.ult_iff_lt, BitVec.lt_def]

/-- Of two equal values the minimum is either. -/
theorem minS_eq (x y : Dword) : minS x y = if x.toInt ≤ y.toInt then x else y := by
  unfold minS
  rcases lt_trichotomy x.toInt y.toInt with h | h | h
  · rw [if_pos (BitVec.slt_iff_toInt_lt.mpr h), if_pos h.le]
  · rw [BitVec.toInt_inj.mp h, ite_self, ite_self]
  · rw [if_neg (mt BitVec.slt_iff_toInt_lt.mp h.not_gt), if_neg h.not_ge]

theorem maxS_eq (x y : Dword) : maxS x y = if x.toInt ≤ y.toInt then y else x := by
  unfold maxS
  rcases lt_trichotomy x.toInt y.toInt with h | h | h
  · rw [if_pos (BitVec.slt_iff_toInt_lt.mpr h), if_pos h.le]
  · rw [BitVec.toInt_inj.mp h, ite_self, ite_self]
  · rw [if_neg (mt BitVec.slt_iff_toInt_lt.mp h.not_gt), if_neg h.not_ge]

/-- The most negative value by −1 gives itself: 2⁶³ wraps. -/
theorem divS_eq (x y : Dword) : divS x y = if y = 0 then BitVec.ofInt 64 (-1)
    else if x = BitVec.intMin 64 ∧ y = BitVec.ofInt 64 (-1) then x else BitVec.ofInt 64 (x.toInt.tdiv y.toInt) := by
  unfold divS
  by_cases h : x = BitVec.intMin 64 ∧ y = BitVec.ofInt 64 (-1)
  · obtain ⟨rfl, rfl⟩ := h; decide
  · rw [if_neg h]

theorem remS_eq (x y : Dword) : remS x y = if y = 0 then x
    else if x = BitVec.intMin 64 ∧ y = BitVec.ofInt 64 (-1) then 0 else BitVec.ofInt 64 (x.toInt.tmod y.toInt) := by
  unfold remS
  by_cases h : x = BitVec.intMin 64 ∧ y = BitVec.ofInt 64 (-1)
  · obtain ⟨rfl, rfl⟩ := h; decide
  · rw [if_neg h]

theorem divU_eq (x y : Dword) : divU x y = if y = 0 then BitVec.ofInt 64 (-1) else BitVec.ofNat 64 (x.toNat / y.toNat) := by
  unfold divU
  rw [← BitVec.toNat_udiv, BitVec.ofNat_toNat, BitVec.setWidth_eq]

theorem remU_eq (x y : Dword) : remU x y = if y = 0 then x else BitVec.ofNat 64 (x.toNat % y.toNat) := by
  unfold remU
  rw [← BitVec.toNat_umod, BitVec.ofNat_toNat, BitVec.setWidth_eq]

/-- Sign extension keeps the number. -/
theorem toInt_signExtend_imm (imm : Imm14) : (imm.signExtend 64).toInt = imm.toInt :=
  BitVec.toInt_signExtend_of_le (by decide)

/-- The low six bits of a zero-extended immediate are its own. -/
theorem amount_imm (imm : Imm14) : amount (imm.zeroExtend 64) = imm.toNat % 64 := by
  have hlt := imm.isLt
  rw [amount, BitVec.toNat_setWidth, Nat.mod_eq_of_lt (hlt.trans (by decide))]

/-! ## The operations -/

section
variable {s : State} {c : Ctx} {i : Instr} {rd rs1 : RegNo} (hf : s.canFetch c)
include hf

theorem writesW_of_intOp {rs2 : RegNo} {g : Dword → Dword → Dword} {z : Dword} (hi : exec i s = .next (s.intOp c rd rs1 rs2 g))
    (hg : g (s.wreg c rs1) (s.wreg c rs2) = z) : writesW i s c rd z :=
  writesW_of_runW hf hi (by rw [s.wr_bodyState, s.wr_bodyState, hg])

theorem writesW_of_immOp {v : Dword} {g : Dword → Dword → Dword} {z : Dword} (hi : exec i s = .next (s.immOp c rd rs1 v g))
    (hg : g (s.wreg c rs1) v = z) : writesW i s c rd z :=
  writesW_of_runW hf hi (by rw [s.wr_bodyState, hg])

end

/-- Settles O6: each operation is one write of w[rd], whose value is the model's in the words of R155. -/
theorem integerOperations : Obligations.IntegerOperations := by
  unfold Obligations.IntegerOperations
  refine ⟨fun s c rd rs1 rs2 hf => ?_, fun s => ?_⟩
  · intro x y
    exact ⟨writesW_of_intOp hf rfl rfl, writesW_of_intOp hf rfl rfl, writesW_of_intOp hf rfl rfl, writesW_of_intOp hf rfl rfl,
      writesW_of_intOp hf rfl rfl, writesW_of_intOp hf rfl rfl, writesW_of_intOp hf rfl rfl, writesW_of_intOp hf rfl rfl,
      writesW_of_intOp hf rfl (oneIf_slt x y), writesW_of_intOp hf rfl (oneIf_ult x y), writesW_of_intOp hf rfl (minS_eq x y),
      writesW_of_intOp hf rfl (maxS_eq x y), writesW_of_intOp hf rfl rfl, writesW_of_intOp hf rfl rfl,
      writesW_of_intOp hf rfl (divS_eq x y), writesW_of_intOp hf rfl (divU_eq x y), writesW_of_intOp hf rfl (remS_eq x y),
      writesW_of_intOp hf rfl (remU_eq x y)⟩
  · refine ⟨?_, ?_, ?_, ?_, ?_, ?_, ?_, ?_, ?_, ?_, ?_, ?_, ?_, ?_, ?_, ?_, ?_, ?_⟩ <;> exact fun _ _ _ _ => exec_answers _ s

/-- Settles O7: each operation is one write of w[rd], with the immediate extended as its row says. -/
theorem immediateOperations : Obligations.ImmediateOperations := by
  unfold Obligations.ImmediateOperations
  refine ⟨fun s c rd rs1 imm hf => ?_, fun s => ?_⟩
  · intro x
    have hslt : oneIf (x.slt (imm.signExtend 64)) = if x.toInt < imm.toInt then 1 else 0 := by
      rw [oneIf_slt, toInt_signExtend_imm]
    have hamount := amount_imm imm
    exact ⟨writesW_of_immOp hf rfl rfl, writesW_of_immOp hf rfl hslt, writesW_of_immOp hf rfl (oneIf_ult x _),
      writesW_of_immOp hf rfl rfl, writesW_of_immOp hf rfl rfl, writesW_of_immOp hf rfl rfl, writesW_of_immOp hf rfl rfl,
      writesW_of_immOp hf rfl (congrArg (x <<< ·) hamount), writesW_of_immOp hf rfl (congrArg (x >>> ·) hamount),
      writesW_of_immOp hf rfl (congrArg x.sshiftRight hamount), writesW_of_immOp hf rfl (congrArg x.rotateRight hamount)⟩
  · refine ⟨?_, ?_, ?_, ?_, ?_, ?_, ?_, ?_, ?_, ?_, ?_⟩ <;> exact fun _ _ _ _ => exec_answers _ s
end Sys2Proof.Machine
end

section
/-!
System operations and branches (R148, R150, R153 to R155).
-/
namespace Sys2Proof.Machine

/-! ## What special registers read inside a body -/

section
variable (s : State) (c : Ctx)

theorem State.reg64_bodyState (a : Nat) : (s.bodyState c.toNat).reg64 a = s.reg64 a := by
  unfold State.reg64
  rw [State.reg_congr (s.regs_bodyState c.toNat), State.reg_congr (s.regs_bodyState c.toNat)]

theorem State.inForce_modAct (n : Nat) (g : Act → Act) : (s.modAct n g).inForce = s.inForce := by
  unfold State.modAct; split <;> rfl

theorem State.time_modAct (n : Nat) (g : Act → Act) : (s.modAct n g).time = s.time := by
  unfold State.modAct; split <;> rfl

theorem State.eff_bodyState (a : Nat) : (s.bodyState c.toNat).eff a = s.eff a := by
  unfold State.eff
  rw [State.reg_congr (s.regs_bodyState c.toNat), State.onlyMem_inForce (s.onlyMem_bodyState c.toNat), s.inForce_modAct]

/-- The body's state has the context's activation without its mark. -/
theorem State.act?_bodyState : (s.bodyState c.toNat).act? c.toNat = (s.act? c.toNat).map ({ · with skip := false }) := by
  rw [State.act?, State.onlyMem_cml (s.onlyMem_bodyState c.toNat)]
  exact s.act?_modAct c.toNat _

theorem State.curCfg_bodyState : (s.bodyState c.toNat).curCfg c.toNat = s.curCfg c.toNat := by
  unfold State.curCfg
  rw [s.act?_bodyState c]
  cases s.act? c.toNat with
  | none => exact congrArg (ite _ _) (s.eff_bodyState c _)
  | some x => rfl

theorem State.coreOf_bodyState : (s.bodyState c.toNat).coreOf c.toNat = s.coreOf c.toNat := by
  unfold State.coreOf
  rw [s.eff_bodyState, s.curCfg_bodyState]

theorem State.periodMs_bodyState : (s.bodyState c.toNat).periodMs = s.periodMs := by
  unfold State.periodMs
  rw [s.f_bodyState]

theorem State.taskPeriod_bodyState : (s.bodyState c.toNat).taskPeriod c.toNat = s.taskPeriod c.toNat := by
  unfold State.taskPeriod
  rw [s.act?_bodyState c, s.eff_bodyState, s.periodMs_bodyState]
  cases s.act? c.toNat <;> rfl

/-- MONO rests on the time bases alone. -/
theorem State.base_zero_bodyState : (s.bodyState c.toNat).base 0 = s.base 0 := by
  have hbase : ∀ u : State, u.base 0 = tget {} u.time.bases 0 := fun u => if_neg (by decide)
  rw [hbase, hbase, State.onlyMem_time (s.onlyMem_bodyState c.toNat), s.time_modAct]

/-- Special registers read inside a body what they read before it. -/
theorem State.special_bodyState (n : Nat) : (s.bodyState c.toNat).special c.toNat n = s.special c.toNat n := by
  unfold State.special
  rw [s.ib_bodyState, s.tb_bodyState, s.fpflags_bodyState, s.coreOf_bodyState, s.tickNo_bodyState, s.f_bodyState, s.taskPeriod_bodyState,
    s.reg64_bodyState, s.depth_bodyState, s.base_zero_bodyState]

end

/-- Numbers from 11 on name no special register. -/
theorem State.special_unlisted (s : State) (c : Nat) {n : Nat} (h : 11 ≤ n) : s.special c n = 0 := by
  unfold State.special
  split
  all_goals omega

/-- Special register 10 reads MONO.  (Both sides are numbers that the kernel would start to compute: the arms are taken apart by hand.) -/
theorem State.special_mono (s : State) (c : Nat) {n : Nat} (h : n = 10) : s.special c n = (s.base 0).form := by
  unfold State.special
  split
  case h_11 => rfl
  case h_12 => exact absurd h (by assumption)
  all_goals omega

/-! ## The operations -/

section
variable {s : State} {c : Ctx} (rd rs1 rs2 : RegNo) (hf : s.canFetch c)
include hf

/-- MFS writes the special register to w[rd]. -/
theorem mfs_writesW {v : Dword} (h : BitVec.ofNat 64 (s.special c.toNat rs2.toNat) = v) : writesW (.mfs c rd rs1 rs2) s c rd v :=
  writesW_of_runW hf rfl (by rw [s.special_bodyState, h])

theorem jr_setsPc : setsPc (.jr c rd rs1 rs2) s c ((s.wreg c rs1).toNat % 2 ^ 23) :=
  s.wr_bodyState c rs1 ▸ setsPc_of_jump (i := .jr c rd rs1 rs2) hf rfl rfl

/-- MTS of FPFLAGS takes the low five bits of w[rs1]. -/
theorem mts_fpflags (h : rd = 3) : ∃ t, exec (.mts c rd rs1 rs2) s = .next t ∧ t.pc c.toNat = s.pc c.toNat + 4 ∧
    t.fpflags c.toNat = (s.wreg c rs1).toNat % 32 ∧ s.changesOnly t c (offFlags c) := by
  subst h
  have hbody := exec_of_body (i := .mts c 3 rs1 rs2) hf rfl (if_pos rfl)
  rw [s.wr_bodyState] at hbody
  refine ⟨_, hbody, ?_, State.fpflags_setFpflags _ _ _ c.isLt, ?_, fun a ha hfl => ?_⟩
  · rw [State.pc_setFpflags, s.pc_bodyState _ c.isLt hf.2]
  · exact State.onlyMem_trans (s.onlyMem_bodyState_unmark c) (State.onlyMem_wr _ _ _ _)
  · rw [State.setFpflags, State.byte_wr_other _ _ _ _ _ hfl, s.byte_bodyState _ a ha]

theorem mts_discards (h : 11 ≤ rd.toNat) : setsPc (.mts c rd rs1 rs2) s c (s.pc c.toNat + 4) :=
  setsPc_of_ok hf rfl ((if_neg (by omega)).trans (if_neg (by omega)))

theorem mts_raises (h3 : rd ≠ 3) (h : rd.toNat ≤ 10) : raises (.mts c rd rs1 rs2) s c .special := by
  have hno : rd.toNat ≠ 3 := fun e => h3 (BitVec.eq_of_toNat_eq e)
  refine raises_of_body hf rfl ?_
  rw [if_neg hno, if_pos h]

end

/-- Settles O11: MFS reads each special register as it stands before the instruction; the others are read off their bodies. -/
theorem systemOperations : Obligations.SystemOperations := by
  unfold Obligations.SystemOperations
  refine ⟨fun s c rd rs1 rs2 hf => ?_, fun s => ⟨fun _ _ _ _ => rfl, fun _ _ _ _ => exec_answers _ s, fun _ _ _ _ => exec_answers _ s,
    fun _ _ _ _ => exec_answers _ s, fun _ _ _ _ => rfl⟩⟩
  have hmfs : ∀ {n : RegNo} {v : Dword}, BitVec.ofNat 64 (s.special c.toNat n.toNat) = v → rs2 = n → writesW (.mfs c rd rs1 rs2) s c rd v :=
    fun hv hn => mfs_writesW rd rs1 rs2 hf (by rw [hn, hv])
  have hctx : BitVec.ofNat 64 c.toNat = c.zeroExtend 64 := BitVec.eq_of_toNat_eq (by rw [BitVec.toNat_ofNat, BitVec.toNat_setWidth])
  exact ⟨setsPc_of_ok hf rfl rfl, setsPc_of_ok hf rfl rfl, jr_setsPc rd rs1 rs2 hf, hmfs rfl, hmfs rfl, hmfs hctx, hmfs rfl, hmfs rfl, hmfs rfl,
    hmfs rfl, hmfs rfl, hmfs rfl, hmfs rfl, hmfs (congrArg _ (s.special_mono _ rfl)),
    fun h => mfs_writesW rd rs1 rs2 hf (by rw [State.special_unlisted _ _ h]; rfl),
    mts_fpflags rd rs1 rs2 hf, mts_discards rd rs1 rs2 hf, mts_raises rd rs1 rs2 hf⟩

/-! ## Branches -/

section
variable {s : State} {c : Ctx} {i : Instr} {rs : RegNo} {off : Off21} (hf : s.canFetch c)

/-- The target of a branch at the context's PC. -/
def State.branchTarget (s : State) (c : Ctx) (off : Off21) : Nat := (((s.pc c.toNat : Int) + 4 * off.toInt) % 2 ^ 23).toNat

theorem State.branchTarget_lt (s : State) (c : Ctx) (off : Off21) : s.branchTarget c off < 2 ^ 23 := by
  unfold State.branchTarget; omega

include hf

theorem State.branchTo_bodyState : (s.bodyState c.toNat).branchTo c off = s.branchTarget c off := by
  unfold State.branchTo
  rw [s.here_bodyState _ c.isLt hf.2]
  rfl

theorem setsPc_of_branch {g : Dword → Bool} {p : Prop} [Decidable p] (hi : exec i s = .next (s.branch c rs off g))
    (hg : g (s.wreg c rs) = true ↔ p) : setsPc i s c (if p then s.branchTarget c off else s.pc c.toNat + 4) := by
  have hcond : g ((s.bodyState c.toNat).wr_ c rs) = true ↔ p := by rw [s.wr_bodyState]; exact hg
  by_cases h : p
  · rw [if_pos h, ← Nat.mod_eq_of_lt (s.branchTarget_lt c off), ← State.branchTo_bodyState hf]
    exact setsPc_of_jump hf hi (if_pos (hcond.mpr h))
  · rw [if_neg h]
    exact setsPc_of_ok hf hi (if_neg (mt hcond.mp h))

/-- JAL links the next word and jumps. -/
theorem jal_spec : ∃ t, exec (.jal c rs off) s = .next t ∧ t.pc c.toNat = s.branchTarget c off ∧
    t.w c.toNat rs.toNat = (if rs = 0 then 0 else BitVec.ofNat 64 (s.pc c.toNat + 4)) ∧ s.changesOnly t c (offW c rs) := by
  have hexec := exec_of_body (i := .jal c rs off) hf rfl rfl
  rw [State.branchTo_bodyState hf, s.pc_bodyState _ c.isLt hf.2] at hexec
  refine ⟨_, hexec, ?_, ?_, ?_, fun a ha hw => ?_⟩
  · rw [State.pc_setPc _ _ _ c.isLt, Nat.mod_eq_of_lt (s.branchTarget_lt c off)]
  · rw [State.w_setPc _ _ _ _ rs.isLt, State.w_setW_reg]
  · exact State.onlyMem_trans (s.onlyMem_bodyState_unmark c) (State.onlyMem_trans (State.onlyMem_wr _ _ _ _) (State.onlyMem_wr _ _ _ _))
  · rw [State.setPc, State.byte_wr_other _ _ _ _ _ ha, State.byte_setW _ c _ hw, s.byte_bodyState _ a ha]

end

/-- Settles O12: a branch jumps where its condition holds of w[rs], and JAL always. -/
theorem branches : Obligations.Branches := by
  unfold Obligations.Branches
  refine ⟨fun s c rs off hf => ?_, fun s => ⟨fun _ _ _ => exec_answers _ s, fun _ _ _ => exec_answers _ s, fun _ _ _ => exec_answers _ s,
    fun _ _ _ => exec_answers _ s, fun _ _ _ => exec_answers _ s⟩⟩
  intro x _
  have hneg : x.msb = true ↔ x.toInt < 0 := by rw [BitVec.msb_eq_toInt, decide_eq_true_iff]
  have hpos : (!x.msb) = true ↔ 0 ≤ x.toInt := by rw [Bool.not_eq_true', ← Bool.not_eq_true, hneg, not_lt]
  exact ⟨setsPc_of_branch hf rfl beq_iff_eq, setsPc_of_branch hf rfl bne_iff_ne, setsPc_of_branch hf rfl hneg,
    setsPc_of_branch hf rfl hpos, jal_spec hf⟩
end Sys2Proof.Machine
end

section
/-!
Floating-point operations (R148, R155).
-/
namespace Sys2Proof.Machine

/-! ## The operations -/

section
variable {s : State} {c : Ctx} {i : Instr} {rd rs1 rs2 : RegNo} (hf : s.canFetch c)
include hf

theorem writesD_of_fpOp {g : Nat → Nat → FpRes} (hi : exec i s = .next (s.fpOp c rd rs1 rs2 g)) :
    writesD i s c rd (g (s.dreg c rs1) (s.dreg c rs2)) :=
  writesD_of_runD hf hi (by rw [s.dr_bodyState, s.dr_bodyState])

/-- A comparison: w[rd] is 1 or 0. -/
theorem writesWF_of_runCmp {v : State → Bool × FpFlags} {r : Bool × FpFlags} (hi : exec i s = .next (s.runCmp c rd v))
    (hv : v (s.bodyState c.toNat) = r) : writesWF i s c rd (if r.1 then 1 else 0) r.2 := by
  subst hv
  exact writesWF_of_body hf hi rfl

/-- A comparison of two d registers. -/
theorem writesWF_of_cmp {g : Nat → Nat → Bool × FpFlags} (hi : exec i s = .next (s.runCmp c rd fun s => g (s.dr c rs1) (s.dr c rs2))) :
    writesWF i s c rd (if (g (s.dreg c rs1) (s.dreg c rs2)).1 then 1 else 0) (g (s.dreg c rs1) (s.dreg c rs2)).2 :=
  writesWF_of_runCmp hf hi (by rw [s.dr_bodyState, s.dr_bodyState])

/-- FSQRT with rs2 0. -/
theorem fsqrt_writesD (h : rs2 = 0) : writesD (.fsqrt c rd rs1 rs2) s c rd (f64.sqrt (s.dreg c rs1)) := by
  subst h
  refine writesD_of_body hf rfl ?_
  rw [if_neg (show ¬(0 : RegNo).toNat ≠ 0 by decide), s.dr_bodyState]

theorem fcvtWD_writesWF : writesWF (.fcvtWD c rd rs1 rs2) s c rd (BitVec.ofInt 64 (f64.toI64 (s.dreg c rs1)).1) (f64.toI64 (s.dreg c rs1)).2 := by
  refine writesWF_of_body hf rfl ?_
  rw [s.dr_bodyState]

end

/-- Adding 2⁶³ in 64 bits changes the sign bit alone. -/
theorem dNeg_eq {x : Nat} (h : x < 2 ^ 64) : dNeg x = (x + 2 ^ 63) % 2 ^ 64 := by
  refine Nat.eq_of_testBit_eq fun i => ?_
  rw [dNeg, Nat.testBit_xor, Nat.testBit_two_pow, Nat.testBit_mod_two_pow, Nat.add_comm]
  rcases lt_trichotomy i 63 with hi | rfl | hi
  · rw [Nat.testBit_two_pow_add_gt hi]; simp [hi.ne', hi.trans (Nat.lt_succ_self 63)]
  · rw [Nat.testBit_two_pow_add_eq]; simp
  · have hhigh : x.testBit i = false := Nat.testBit_lt_two_pow (h.trans_le (Nat.pow_le_pow_right (by decide) hi))
    simp [hhigh, hi.ne, Nat.not_lt.mpr (show 64 ≤ i from hi)]

theorem State.dreg_lt (s : State) (c : Ctx) (r : RegNo) : s.dreg c r < 2 ^ 64 := BitVec.isLt _

/-- Settles O8: each operation is one write of d[rd] with its flags. -/
theorem floatingPointArithmetic : Obligations.FloatingPointArithmetic := by
  unfold Obligations.FloatingPointArithmetic
  refine ⟨fun s c rd rs1 rs2 hf => ?_, fun s => ⟨fun _ _ _ _ => rfl, fun _ _ _ _ => rfl, fun _ _ _ _ => rfl, fun _ _ _ _ => rfl,
    fun _ _ _ _ => exec_answers _ s, fun _ _ _ _ => rfl, fun _ _ _ _ => rfl, fun _ _ _ _ => exec_answers _ s,
    fun _ _ _ _ => exec_answers _ s, fun _ _ _ _ => exec_answers _ s⟩⟩
  have hneg : dNeg (s.dreg c rs1) = (s.dreg c rs1 + 2 ^ 63) % 2 ^ 64 := dNeg_eq (s.dreg_lt c rs1)
  exact ⟨writesD_of_fpOp hf rfl, writesD_of_fpOp hf rfl, writesD_of_fpOp hf rfl, writesD_of_fpOp hf rfl, writesD_of_fpOp hf rfl,
    writesD_of_fpOp hf rfl, writesD_of_runD hf rfl (by rw [s.dr_bodyState, s.dr_bodyState, s.dr_bodyState]),
    writesD_of_runD hf rfl (by rw [s.dr_bodyState]; rfl), writesD_of_runD hf rfl (by rw [s.dr_bodyState, hneg]), fsqrt_writesD hf⟩

/-- Settles O9: a comparison and a conversion to w write w[rd] with flags, a conversion to d and the moves one register. -/
theorem floatingPointComparesAndConversions : Obligations.FloatingPointComparesAndConversions := by
  unfold Obligations.FloatingPointComparesAndConversions
  refine ⟨fun s c rd rs1 rs2 hf => ?_, fun s => ⟨fun _ _ _ _ => exec_answers _ s, fun _ _ _ _ => exec_answers _ s, fun _ _ _ _ => exec_answers _ s,
    fun _ _ _ _ => exec_answers _ s, fun _ _ _ _ => exec_answers _ s, fun _ _ _ _ => exec_answers _ s, fun _ _ _ _ => exec_answers _ s⟩⟩
  exact ⟨writesWF_of_cmp hf rfl, writesWF_of_cmp hf rfl, writesWF_of_cmp hf rfl, fcvtWD_writesWF hf,
    writesD_of_runD hf rfl (by rw [s.wr_bodyState]), writesW_of_runW hf rfl (s.d_bodyState c.toNat _ rs1.isLt),
    writesD_of_runD hf rfl (by rw [s.wr_bodyState])⟩

/-! ## NaNs -/

theorem FpVal.eq_nan_of_isNan {v : FpVal} (h : v.isNan = true) : ∃ b, v = .nan b := by
  cases v with
  | nan b => exact ⟨b, rfl⟩
  | inf _ => cases h
  | fin _ _ _ => cases h

/-- The default NaN of binary64. -/
theorem f64_nan : f64.nan = 0x7FF8000000000000 := by decide

section
variable {x y : Nat} (hx : (f64.read x).isNan = true)
include hx

theorem f64_two_nans (hy : (f64.read y).isNan = true) :
    (f64.add x y).bits = f64.nan ∧ (f64.mul x y).bits = f64.nan ∧ (f64.div x y).bits = f64.nan ∧
      (f64.min x y).bits = f64.nan ∧ (f64.max x y).bits = f64.nan := by
  obtain ⟨a, ha⟩ := FpVal.eq_nan_of_isNan hx
  obtain ⟨b, hb⟩ := FpVal.eq_nan_of_isNan hy
  unfold Fmt.add Fmt.mul Fmt.div Fmt.min Fmt.max
  rw [ha, hb]
  exact ⟨rfl, rfl, rfl, rfl, rfl⟩

/-- minimumNumber and maximumNumber of a NaN and a number give the number. -/
theorem f64_one_nan (hy : (f64.read y).isNan = false) :
    (f64.min x y).bits = y ∧ (f64.max x y).bits = y ∧ (f64.min y x).bits = y ∧ (f64.max y x).bits = y := by
  simp [Fmt.min, Fmt.max, hx, hy]

theorem f64_toI64_nan : f64.toI64 x = (0, 1) := by
  obtain ⟨a, ha⟩ := FpVal.eq_nan_of_isNan hx
  unfold Fmt.toI64
  rw [ha]

end

/-- Settles O10: each clause looks at the operands' kind alone. -/
theorem floatingPointNaNs : Obligations.FloatingPointNaNs := by
  unfold Obligations.FloatingPointNaNs
  rw [← f64_nan]
  exact ⟨fun _ _ => f64_two_nans, fun _ _ _ => f64_one_nan, fun _ => f64_toI64_nan⟩
end Sys2Proof.Machine
end

section
/-!
Instance and global accesses: their addresses, and what a load or store leaves (R154, R156 to R159).
-/
namespace Sys2Proof.Machine

/-! ## Addresses -/

section
variable (s : State) (c : Ctx) (rb : RegNo) (off : Half)

theorem State.iOff_bodyState : (s.bodyState c.toNat).iOff c rb off = s.offI c rb off := by
  unfold State.iOff State.offI
  rw [s.ib_bodyState, s.wr_bodyState]

theorem State.gAddr_bodyState : (s.bodyState c.toNat).gAddr c rb off = s.addrG c rb off := by
  unfold State.gAddr State.addrG
  rw [s.wr_bodyState]

theorem State.instAddr_misaligned (k : Nat) {x : Int} (n : Nat) {al : Nat} (h : x % al ≠ 0) : s.instAddr k x n al = .inl .align := if_pos h

/-- An aligned access inside the current instance reaches its place in instance data. -/
theorem State.instAddr_bodyState_inside {x : Int} {n al : Nat} (ha : x % al = 0) (h : s.insideI c x n) :
    (s.bodyState c.toNat).instAddr c.toNat x n al = .inr (instBase + x.toNat) := by
  have hin : (s.bodyState c.toNat).inInstance c.toNat x n = true := by
    rw [State.inInstance_bodyState]
    exact (s.inInstance_iff c x n).mpr h
  unfold State.instAddr
  rw [if_neg (not_not_intro ha), if_pos hin]

theorem State.accI_misaligned {n : Nat} (h : s.offI c rb off % n ≠ 0) (g : Nat → Ran) :
    (s.bodyState c.toNat).accI c rb off n g = .exc .align := by
  unfold State.accI
  rw [State.iOff_bodyState, State.instAddr_misaligned _ _ _ h]

theorem State.accI_good {n : Nat} (h : s.goodI c rb off n) (g : Nat → Ran) :
    (s.bodyState c.toNat).accI c rb off n g = g (s.addrI c rb off) := by
  unfold State.accI
  rw [State.iOff_bodyState, State.instAddr_bodyState_inside s c h.1 h.2]
  rfl

theorem State.accG_misaligned {n : Nat} (h : s.addrG c rb off % n ≠ 0) (k : AccessKind) (g : Nat → Ran) :
    (s.bodyState c.toNat).accG c rb off n k g = .exc .align := by
  unfold State.accG
  rw [State.gAddr_bodyState, if_pos h]

/-- An aligned global access that the bus takes reaches its address. -/
theorem State.accG_taken {n : Nat} {k : AccessKind} (ha : s.addrG c rb off % n = 0) (hlt : s.addrG c rb off < 2 ^ 40)
    (hbad : badAccess (s.addrG c rb off) n k = false) (g : Nat → Ran) :
    (s.bodyState c.toNat).accG c rb off n k g = g (s.addrG c rb off) := by
  unfold State.accG
  rw [State.gAddr_bodyState, if_neg (not_not_intro ha), if_neg (Nat.not_le.mpr hlt), hbad]
  rfl

theorem State.accG_good {n : Nat} {k : AccessKind} (h : s.goodG c rb off n k) (g : Nat → Ran) :
    (s.bodyState c.toNat).accG c rb off n k g = g (s.addrG c rb off) := by
  obtain ⟨ha, hlt, hbad, -⟩ := h
  exact s.accG_taken c rb off ha hlt hbad g

/-- Bytes of instance data stand in no slot of the context store. -/
theorem State.addrI_add_le {n : Nat} (h : s.goodI c rb off n) : s.addrI c rb off + n ≤ ctxBase := by
  obtain ⟨-, -, -, h0, hle⟩ := h
  unfold State.addrI ctxBase
  omega

theorem State.rd_addrI {n : Nat} (h : s.goodI c rb off n) :
    (s.bodyState c.toNat).rd (s.addrI c rb off) n = s.rd (s.addrI c rb off) n := by
  have hend := s.addrI_add_le c rb off h
  have hslot := le_slot c.toNat
  exact s.rd_bodyState _ _ _ (.inl (by omega))

end

/-- Beyond the end of LPDDR5 nothing is assigned. -/
theorem regionOf_beyond {a : Nat} (h : 0x200000000 ≤ a) : regionOf a = .unassigned := by
  unfold regionOf
  repeat rw [if_neg (by omega)]

section
variable {a : Nat} (h : regionOf a = .registers)
include h

theorem lt_of_registers : a < 2 ^ 40 := by
  by_contra hge
  rw [regionOf_beyond (by omega)] at h
  cases h

/-- An aligned word of the register region can be accessed. -/
theorem badAccess_registers (h4 : a % 4 = 0) (k : AccessKind) : badAccess a 4 k = false := by
  unfold badAccess
  rw [h]
  simp [h4]

end

/-! ## Loads -/

theorem State.gLoad_memory (s : State) (c : Nat) {a : Nat} (n : Nat) (h : regionOf a ≠ .registers) : s.gLoad c a n = (s.rd a n, s) := if_neg h

theorem State.gLoad_register (s : State) (c : Nat) {a : Nat} (n : Nat) (h : regionOf a = .registers) :
    s.gLoad c a n = ((s.readReg (coreMaster (s.coreOf c)) a).1.toNat, (s.readReg (coreMaster (s.coreOf c)) a).2) := if_pos h

section
variable {s : State} {c : Ctx} {i : Instr} {rt rb : RegNo} {off : Half} (hf : s.canFetch c)
include hf

theorem writesW_of_loadI {n : Nat} (hi : exec i s = .next (s.loadI c rt rb off n)) (h : s.goodI c rb off n) :
    writesW i s c rt (asLoaded n (s.rd (s.addrI c rb off) n)) := by
  refine writesW_of_body hf hi ?_
  rw [s.accI_good c rb off h, s.rd_addrI c rb off h]

theorem fldI_writesD (h : s.goodI c rb off 8) : writesD (.fldI c rt rb off) s c rt ⟨s.rd (s.addrI c rb off) 8, 0⟩ := by
  refine writesD_of_body hf rfl ?_
  rw [s.accI_good c rb off h, s.rd_addrI c rb off h]
  rfl

theorem writesW_of_loadG {n : Nat} (hi : exec i s = .next (s.loadG c rt rb off n)) (h : s.goodG c rb off n .read) :
    writesW i s c rt (asLoaded n ((s.running c).rd (s.addrG c rb off) n)) := by
  obtain ⟨-, -, -, hmem⟩ := id h
  refine writesW_of_body hf hi ?_
  rw [s.accG_good c rb off h, State.gLoad_memory _ _ _ hmem, s.rd_running]

theorem fldG_writesD (h : s.goodG c rb off 8 .read) :
    writesD (.fldG c rt rb off) s c rt ⟨(s.running c).rd (s.addrG c rb off) 8, 0⟩ := by
  refine writesD_of_body hf rfl ?_
  rw [s.accG_good c rb off h, s.rd_running]
  rfl

/-- LW.G of a register reads it as a bus master of the context's core does. -/
theorem lwG_register (h4 : s.addrG c rb off % 4 = 0) (hreg : regionOf (s.addrG c rb off) = .registers) :
    let r := (s.bodyState c.toNat).readReg (coreMaster ((s.bodyState c.toNat).coreOf c.toNat)) (s.addrG c rb off)
    exec (.lwG c rt rb off) s = .next (r.2.setW c.toNat rt.toNat (r.1.signExtend 64)) := by
  refine exec_of_body hf rfl ?_
  rw [s.accG_taken c rb off h4 (lt_of_registers hreg) (badAccess_registers hreg h4 _), State.gLoad_register _ _ _ hreg]
  simp [asLoaded]

end

/-- Settles O13: an instance load reads its bytes in instance data. -/
theorem instanceLoads : Obligations.InstanceLoads := by
  unfold Obligations.InstanceLoads
  refine ⟨fun s c rt rb off hf => ?_, fun s => ⟨fun _ _ _ _ => rfl, fun _ _ _ _ => rfl, fun _ _ _ _ => rfl, fun _ _ _ _ => exec_answers _ s⟩⟩
  exact ⟨writesW_of_loadI hf rfl, writesW_of_loadI hf rfl, writesW_of_loadI hf rfl, fldI_writesD hf⟩

/-- Settles O15: a global load reads memory, or the register that LW.G names. -/
theorem globalLoads : Obligations.GlobalLoads := by
  unfold Obligations.GlobalLoads
  refine ⟨fun s c rt rb off hf => ?_, fun s => ⟨fun _ _ _ _ => rfl, fun _ _ _ _ => rfl, fun _ _ _ _ => rfl, fun _ _ _ _ => exec_answers _ s⟩⟩
  refine ⟨writesW_of_loadG hf rfl, writesW_of_loadG hf rfl, writesW_of_loadG hf rfl, fldG_writesD hf, fun h4 hreg => ?_⟩
  rw [← s.bodyState_eq_running]
  exact lwG_register hf h4 hreg

/-! ## Stores -/

theorem State.regs_touch (s : State) (a : Nat) : (s.touch a).regs = s.regs := by
  unfold State.touch
  split
  · split <;> rfl
  · rfl

theorem State.relevant_touch (s : State) (a : Nat) : (s.touch a).cml.relevant = s.cml.relevant := by
  unfold State.touch
  split
  · split <;> rfl
  · rfl

theorem State.steps_touch (s : State) (a : Nat) : (s.touch a).cml.steps = s.cml.steps := by
  unfold State.touch
  split
  · split <;> rfl
  · rfl

/-- A touched byte's page gets its dirty bit where the page has one (R159). -/
theorem State.mem_dirty_touch (s : State) (a p : Nat) : p ∈ (s.touch a).cml.dirty ↔ p ∈ s.cml.dirty ∨ s.marks a p := by
  unfold State.touch State.marks
  cases hpage : pageOf a with
  | none => simp
  | some q =>
    by_cases hq : (q < 1024 || s.cml.relevant.contains q) = true
    · simp only [hq, if_true]
      refine (mem_addTo s.cml.dirty q p).trans (or_congr_right ⟨fun e => ?_, fun e => (Option.some.inj e.1).symm⟩)
      subst e
      exact ⟨rfl, by simpa using hq⟩
    · simp only [hq]
      refine (or_iff_left fun e => hq ?_).symm
      obtain ⟨hpq, hmark⟩ := e
      obtain rfl : q = p := Option.some.inj hpq
      simpa using hmark

theorem State.marks_congr {s t : State} (hrel : t.cml.relevant = s.cml.relevant) {a b : Nat} (hpage : pageOf b = pageOf a) (p : Nat) :
    t.marks b p ↔ s.marks a p := by
  unfold State.marks
  rw [hrel, hpage]

/-- The bytes of an aligned access stand in one page. -/
theorem pageOf_end {a n : Nat} (hn : n = 1 ∨ n = 4 ∨ n = 8) (ha : a % n = 0) : pageOf (a + n - 1) = pageOf a := by
  have hle : ∀ b, b % 8 = 0 → (b ≤ a + n - 1 ↔ b ≤ a) := by rcases hn with rfl | rfl | rfl <;> omega
  have hdiv : ∀ b, b % 4096 = 0 → (a + n - 1 - b) / 4096 = (a - b) / 4096 := by rcases hn with rfl | rfl | rfl <;> omega
  simp only [pageOf, ← Nat.not_le, hle instBase rfl, hle scratchBase rfl, hle ctxBase rfl, hdiv instBase rfl, hdiv scratchBase rfl]

section
variable (s : State) (a n v : Nat)

theorem State.mem_ctxStore : (s.ctxStore a n v).mem = (s.wr a n v).mem := (State.mem_touch _ _).trans (State.mem_touch _ _)

theorem State.byte_ctxStore (b : Nat) : (s.ctxStore a n v).byte b =
    if a ≤ b ∧ b < a + n ∧ writeIgnored b = false then BitVec.ofNat 8 (v / 256 ^ (b - a)) else s.byte b :=
  (State.byte_congr (s.mem_ctxStore a n v) b).trans (s.byte_wr a n v b)

theorem State.regs_ctxStore : (s.ctxStore a n v).regs = s.regs :=
  (State.regs_touch _ _).trans ((State.regs_touch _ _).trans (s.wr_regs a n v))

theorem State.steps_ctxStore : (s.ctxStore a n v).cml.steps = s.cml.steps :=
  (State.steps_touch _ _).trans ((State.steps_touch _ _).trans (congrArg CmlSt.steps (s.wr_cml a n v)))

theorem State.mem_dirty_ctxStore (hpage : pageOf (a + n - 1) = pageOf a) (p : Nat) :
    p ∈ (s.ctxStore a n v).cml.dirty ↔ p ∈ s.cml.dirty ∨ s.marks a p := by
  have hcml := s.wr_cml a n v
  have hrel : ((s.wr a n v).touch a).cml.relevant = s.cml.relevant := (State.relevant_touch _ _).trans (by rw [hcml])
  unfold State.ctxStore
  rw [State.mem_dirty_touch, State.mem_dirty_touch, hcml, State.marks_congr hrel hpage,
    State.marks_congr (s := s) (t := s.wr a n v) (congrArg CmlSt.relevant hcml) (b := a) rfl, or_assoc, or_self]

end

/-- The state with the memory, registers, dirty bits and steps of another. -/
def State.withStoresOf (t s : State) : State :=
  { t with mem := s.mem, regs := s.regs, cml := { t.cml with dirty := s.cml.dirty, steps := s.cml.steps } }

theorem State.withStoresOf_touch (t s : State) (a : Nat) : (t.touch a).withStoresOf s = t.withStoresOf s := by
  unfold State.touch
  split
  · split <;> rfl
  · rfl

theorem State.withStoresOf_onlyMem {t u : State} (s : State) (h : t.onlyMem u) : u.withStoresOf s = t.withStoresOf s := by
  have e := congrArg (fun x : State => x.withStoresOf s) h; exact e

theorem State.withStoresOf_regsOnly {t u : State} {l : List Nat} (s : State) (h : t.regsOnly u l) : u.withStoresOf s = t.withStoresOf s := by
  have e := congrArg (fun x : State => x.withStoresOf s) h.1; exact e

theorem State.withStoresOf_ctxStore (t s : State) (a n v : Nat) : (t.ctxStore a n v).withStoresOf s = t.withStoresOf s :=
  (State.withStoresOf_touch _ _ _).trans ((State.withStoresOf_touch _ _ _).trans (State.withStoresOf_onlyMem s (t.onlyMem_wr a n v)))

theorem State.withStoresOf_unmark (s : State) (c : Ctx) : (s.unmark c).withStoresOf s = s.unmark c := by
  unfold State.unmark State.modAct
  split <;> rfl

/-- What a completed store of the low n bytes of v at a leaves (the state of `stores`). -/
def State.stored (s t : State) (c : Ctx) (a n v : Nat) : Prop :=
  (∀ b, t.byte b = if a ≤ b ∧ b < a + n ∧ writeIgnored b = false then BitVec.ofNat 8 (v / 256 ^ (b - a)) else (s.running c).byte b) ∧
  (∀ p, p ∈ t.cml.dirty ↔ p ∈ s.cml.dirty ∨ s.marks a p) ∧
  (∀ r, inArray r (R.LAN_DIRTY 0) 4 30 = false → t.reg r = s.reg r) ∧ t.withStoresOf s = s.unmark c

theorem stores_iff (i : Instr) (s : State) (c : Ctx) (a n v : Nat) : stores i s c a n v ↔ ∃ t, exec i s = .next t ∧ s.stored t c a n v := Iff.rfl

/-- A store in the body, after which at most lines of the framebuffer are marked. -/
theorem State.stored_of_ctxStore {s t : State} {c : Ctx} {a n v : Nat} (hpage : pageOf (a + n - 1) = pageOf a)
    (h : ((s.bodyState c.toNat).ctxStore a n v).regsOnly t dirtyRegs) : s.stored t c a n v := by
  have hcml : t.cml = ((s.bodyState c.toNat).ctxStore a n v).cml := by
    have e := congrArg State.cml h.1; exact e
  have hbody : (s.bodyState c.toNat).cml = (s.unmark c).cml := State.onlyMem_cml (s.onlyMem_bodyState_unmark c)
  have hmarks : (s.unmark c).cml.dirty = s.cml.dirty ∧ (s.unmark c).cml.relevant = s.cml.relevant := by
    unfold State.unmark State.modAct
    split <;> exact ⟨rfl, rfl⟩
  refine ⟨fun b => ?_, fun p => ?_, fun r hr => ?_, ?_⟩
  · rw [State.byte_congr (State.regsOnly_mem h), State.byte_ctxStore, State.byte_running]
  · rw [hcml, State.mem_dirty_ctxStore _ _ _ _ hpage, hbody, hmarks.1,
      State.marks_congr (s := s) (by rw [hbody, hmarks.2]) (rfl : pageOf a = pageOf a)]
  · have hout : r ∉ dirtyRegs := fun hm => by rw [inArray_of_mem_dirtyRegs hm] at hr; cases hr
    exact (h.2 r hout).trans (State.reg_congr ((State.regs_ctxStore _ _ _ _).trans (s.regs_bodyState c.toNat)) r)
  · rw [State.withStoresOf_regsOnly s h, State.withStoresOf_ctxStore, State.withStoresOf_onlyMem s (s.onlyMem_bodyState_unmark c),
      State.withStoresOf_unmark]

theorem State.gStore_memory (s : State) (c : Nat) {a : Nat} (n v : Nat) (h : regionOf a ≠ .registers) :
    s.gStore c a n v = (s.ctxStore a n v).markLines a n := if_neg h

theorem State.gStore_register (s : State) (c : Nat) {a : Nat} (n v : Nat) (h : regionOf a = .registers) :
    s.gStore c a n v = s.busWrite (coreMaster (s.coreOf c)) a (BitVec.ofNat 32 v) := if_pos h

section
variable {s : State} {c : Ctx} {i : Instr} {rb : RegNo} {off : Half} (hf : s.canFetch c)

/-- An aligned instance access starts at a multiple of its width. -/
theorem State.addrI_mod {n : Nat} (hn : n = 1 ∨ n = 4 ∨ n = 8) (h : s.goodI c rb off n) : s.addrI c rb off % n = 0 := by
  obtain ⟨ha, -, -, h0, -⟩ := h
  unfold State.addrI
  rcases hn with rfl | rfl | rfl <;> omega

include hf

theorem stores_of_storeI {n : Nat} {v : State → Nat} {x : Nat} (hn : n = 1 ∨ n = 4 ∨ n = 8) (hi : exec i s = .next (s.storeI c rb off n v))
    (hv : v (s.bodyState c.toNat) = x) (h : s.goodI c rb off n) : stores i s c (s.addrI c rb off) n x := by
  subst hv
  exact (stores_iff _ _ _ _ _ _).mpr ⟨_, exec_of_body hf hi (s.accI_good c rb off h _),
    State.stored_of_ctxStore (pageOf_end hn (State.addrI_mod hn h)) (State.regsOnly_refl _ _)⟩

/-- What a global store to memory comes to. -/
theorem State.storeG_memory {n : Nat} (v : State → Nat) (h : s.goodG c rb off n .write) :
    s.storeG c rb off n v =
      ((s.bodyState c.toNat).ctxStore (s.addrG c rb off) n (v (s.bodyState c.toNat))).markLines (s.addrG c rb off) n := by
  obtain ⟨-, -, -, hmem⟩ := id h
  refine State.run_ok _ _ _ _ hf.1 hf.2 ?_
  rw [s.accG_good c rb off h, State.gStore_memory _ _ _ _ hmem]

theorem State.stored_storeG {n : Nat} (v : State → Nat) (hn : n = 1 ∨ n = 4 ∨ n = 8) (h : s.goodG c rb off n .write) :
    s.stored (s.storeG c rb off n v) c (s.addrG c rb off) n (v (s.bodyState c.toNat)) := by
  rw [State.storeG_memory hf v h]
  exact State.stored_of_ctxStore (pageOf_end hn h.1) (State.regsOnly_markLines _ _ _)

theorem stores_of_storeG {n : Nat} {v : State → Nat} {x : Nat} (hn : n = 1 ∨ n = 4 ∨ n = 8) (hi : exec i s = .next (s.storeG c rb off n v))
    (hv : v (s.bodyState c.toNat) = x) (h : s.goodG c rb off n .write) : stores i s c (s.addrG c rb off) n x := by
  subst hv
  exact (stores_iff _ _ _ _ _ _).mpr ⟨_, hi, State.stored_storeG hf v hn h⟩

/-- A store to memory lets no context step. -/
theorem State.steps_storeG {n : Nat} (v : State → Nat) (h : s.goodG c rb off n .write) : (s.storeG c rb off n v).cml.steps = s.cml.steps := by
  rw [State.storeG_memory hf v h]
  have hlines := State.regsOnly_markLines ((s.bodyState c.toNat).ctxStore (s.addrG c rb off) n (v (s.bodyState c.toNat))) (s.addrG c rb off) n
  have hcml := congrArg (fun t : State => t.cml.steps) hlines.1
  have hunmark : (s.unmark c).cml.steps = s.cml.steps := by
    unfold State.unmark State.modAct
    split <;> rfl
  refine Eq.trans hcml ((State.steps_ctxStore _ _ _ _).trans ?_)
  rw [State.onlyMem_cml (s.onlyMem_bodyState_unmark c), hunmark]

end

/-! ## SW.G -/

section
variable (s : State)

theorem State.rd_noSteps (a n : Nat) : s.noSteps.rd a n = s.rd a n := State.rd_congr a n fun _ _ _ => rfl

theorem State.wreg_noSteps (c : Ctx) (r : RegNo) : s.noSteps.wreg c r = s.wreg c r := by
  unfold State.wreg State.w
  rw [State.rd_noSteps]

theorem State.addrG_noSteps (c : Ctx) (rb : RegNo) (off : Half) : s.noSteps.addrG c rb off = s.addrG c rb off := by
  unfold State.addrG
  rw [State.wreg_noSteps]

theorem State.canFetch_noSteps {c : Ctx} (h : s.canFetch c) : s.noSteps.canFetch c := by
  unfold State.canFetch at h ⊢
  rwa [State.pc_congr (s := s) (t := s.noSteps) rfl]

theorem State.goodG_noSteps {c : Ctx} {rb : RegNo} {off : Half} {n : Nat} {k : AccessKind} (h : s.goodG c rb off n k) :
    s.noSteps.goodG c rb off n k := by
  unfold State.goodG at h ⊢
  rwa [State.addrG_noSteps]

/-- Taking steps left from an earlier command away first makes no difference to a store. -/
theorem State.stored_of_noSteps {t : State} {c : Ctx} {a n v : Nat} (h : s.noSteps.stored t c a n v) : s.stored t c a n v := by
  obtain ⟨hbytes, hdirty, hregs, hrest⟩ := h
  have hunmark : (s.noSteps.unmark c).withStoresOf s = (s.unmark c).withStoresOf s := by
    unfold State.unmark State.modAct
    rw [show s.noSteps.act? c.toNat = s.act? c.toNat from rfl]
    split <;> rfl
  have hrun : ∀ b, (s.noSteps.running c).byte b = (s.running c).byte b := fun b => by
    unfold State.running State.setPc
    rw [State.byte_wr, State.byte_wr, State.pc_congr (s := s) (t := s.noSteps) rfl]
    rfl
  refine ⟨fun b => ?_, hdirty, hregs, ?_⟩
  · rw [hbytes, hrun]
  · rw [← s.withStoresOf_unmark c, ← hunmark, ← hrest]
    rfl

/-- With no context to let step, the command ends. -/
theorem State.drainSteps_nil {s : State} (n : Nat) (h : s.cml.steps = []) : s.drainSteps (n + 1) = s := by
  unfold State.drainSteps
  rw [h]

end

/-- SW.G is its store, and then the steps that its write of CML_DBG lets happen. -/
theorem exec_swG (s : State) (c : Ctx) (rt rb : RegNo) (off : Half) :
    exec (.swG c rt rb off) s = .next ((s.noSteps.swG c rt rb off).drainSteps 256) := rfl

section
variable {s : State} {c : Ctx} {rt rb : RegNo} {off : Half} (hf : s.canFetch c)
include hf

theorem swG_stores (h : s.goodG c rb off 4 .write) : stores (.swG c rt rb off) s c (s.addrG c rb off) 4 (s.wreg c rt).toNat := by
  have hf' := s.canFetch_noSteps hf
  have hgood := s.goodG_noSteps h
  have hsteps : (s.noSteps.swG c rt rb off).cml.steps = [] := State.steps_storeG hf' _ hgood
  have hstored : s.stored (s.noSteps.swG c rt rb off) c _ 4 _ := s.stored_of_noSteps (State.stored_storeG hf' _ (.inr (.inl rfl)) hgood)
  rw [State.wr_bodyState, State.wreg_noSteps, State.addrG_noSteps] at hstored
  exact (stores_iff _ _ _ _ _ _).mpr ⟨_, congrArg Host.Outcome.next (State.drainSteps_nil 255 hsteps), hstored⟩

/-- SW.G of a register is its write by a bus master of the context's core, with the steps that the write lets happen. -/
theorem swG_register (h4 : s.addrG c rb off % 4 = 0) (hreg : regionOf (s.addrG c rb off) = .registers) :
    let u := s.noSteps.bodyState c.toNat
    exec (.swG c rt rb off) s =
      .next ((u.busWrite (coreMaster (u.coreOf c.toNat)) (s.addrG c rb off) (BitVec.ofNat 32 (s.wreg c rt).toNat)).drainSteps 256) := by
  have hf' := s.canFetch_noSteps hf
  rw [← s.addrG_noSteps] at h4 hreg ⊢
  intro u
  have hrun : s.noSteps.swG c rt rb off = u.busWrite (coreMaster (u.coreOf c.toNat)) (s.noSteps.addrG c rb off)
      (BitVec.ofNat 32 (s.wreg c rt).toNat) := by
    unfold State.swG
    refine State.run_ok _ _ _ _ hf'.1 hf'.2 ?_
    rw [s.noSteps.accG_taken c rb off h4 (lt_of_registers hreg) (badAccess_registers hreg h4 _), State.gStore_register _ _ _ _ hreg,
      ← s.wreg_noSteps, ← s.noSteps.wr_bodyState]
  rw [exec_swG, hrun]

theorem swG_misaligned (h : s.addrG c rb off % 4 ≠ 0) :
    exec (.swG c rt rb off) s = .next (((s.noSteps.unmark c).excSched c.toNat .align).drainSteps 256) := by
  have hf' := s.canFetch_noSteps hf
  rw [← s.addrG_noSteps] at h
  have hrun : s.noSteps.swG c rt rb off = (s.noSteps.unmark c).excSched c.toNat .align := by
    unfold State.swG
    refine State.run_exc _ _ _ _ hf'.1 hf'.2 ?_
    exact s.noSteps.accG_misaligned c rb off h _ _
  rw [exec_swG, hrun]

end

/-- Settles O14: an instance store writes its bytes in the body and marks their page. -/
theorem instanceStores : Obligations.InstanceStores := by
  unfold Obligations.InstanceStores
  refine ⟨fun s c rt rb off hf => ?_, fun s => ⟨fun _ _ _ _ => exec_answers _ s, fun _ _ _ _ => exec_answers _ s, fun _ _ _ _ => exec_answers _ s,
    fun _ _ _ _ => exec_answers _ s⟩⟩
  have hw := congrArg BitVec.toNat (s.wr_bodyState c rt)
  exact ⟨stores_of_storeI hf (.inr (.inr rfl)) rfl hw, stores_of_storeI hf (.inr (.inl rfl)) rfl hw, stores_of_storeI hf (.inl rfl) rfl hw,
    stores_of_storeI hf (.inr (.inr rfl)) rfl (s.dr_bodyState c rt)⟩

/-- Settles O16: a global store to memory also marks the lines of the framebuffer that it writes, and SW.G can write a register. -/
theorem globalStores : Obligations.GlobalStores := by
  unfold Obligations.GlobalStores
  refine ⟨fun s c rt rb off hf => ?_, fun s => ⟨fun _ _ _ _ => exec_answers _ s, fun _ _ _ _ => rfl, fun _ _ _ _ => exec_answers _ s,
    fun _ _ _ _ => exec_answers _ s⟩⟩
  have hw := congrArg BitVec.toNat (s.wr_bodyState c rt)
  refine ⟨stores_of_storeG hf (.inr (.inr rfl)) rfl hw, swG_stores hf, stores_of_storeG hf (.inl rfl) rfl hw,
    stores_of_storeG hf (.inr (.inr rfl)) rfl (s.dr_bodyState c rt), fun h4 hreg => ?_⟩
  rw [← State.bodyState_eq_running]
  exact swG_register hf h4 hreg

/-- Settles O17: alignment is judged before everything else that an access does. -/
theorem misalignedAccessesRaiseAlign : Obligations.MisalignedAccessesRaiseAlign := by
  unfold Obligations.MisalignedAccessesRaiseAlign
  intro s c rt rb off hf
  have hI : ∀ {i : Instr} {n : Nat} {g : State → Nat → Ran}, exec i s = .next (s.run c.toNat fun u => u.accI c rb off n (g u)) →
      s.offI c rb off % n ≠ 0 → raises i s c .align := fun hi h => raises_of_body hf hi (s.accI_misaligned c rb off h _)
  have hG : ∀ {i : Instr} {n : Nat} {k : AccessKind} {g : State → Nat → Ran}, exec i s = .next (s.run c.toNat fun u => u.accG c rb off n k (g u)) →
      s.addrG c rb off % n ≠ 0 → raises i s c .align := fun hi h => raises_of_body hf hi (s.accG_misaligned c rb off h _ _)
  exact ⟨hI rfl, hI rfl, hI rfl, hI rfl, hI rfl, hI rfl, hG rfl, hG rfl, hG rfl, hG rfl, swG_misaligned hf, hG rfl⟩
end Sys2Proof.Machine
end

section
/-!
Function-block calls and the addresses of instances (R145, R151, R152, R162, R163).
-/
namespace Sys2Proof.Machine

/-! ## Instances inside a body -/

section
variable (s : State) (c : Ctx)

/-- The instance table lies below the context store. -/
theorem State.instEnt_bodyState {n : Nat} (hn : n < 65536) : (s.bodyState c.toNat).instEnt n = s.instEnt n := by
  have hbank : (s.bodyState c.toNat).bankBase = s.bankBase := congrArg (0x400000 * ·) (s.f_bodyState c.toNat _)
  have hle : s.bankBase ≤ 0x400000 := by
    have hb : s.f F.PRG_STATUS_BANK < 2 := s.f_lt F.PRG_STATUS_BANK
    unfold State.bankBase; omega
  have hslot : 0xF00000 ≤ slot c.toNat := le_slot c.toNat
  have hrd : ∀ k m, k + m ≤ 16 → (s.bodyState c.toNat).rd (s.bankBase + 0x11000 + 16 * n + k) m = s.rd (s.bankBase + 0x11000 + 16 * n + k) m :=
    fun k m hk => s.rd_bodyState _ _ m (.inl (by omega))
  have hident : (s.bodyState c.toNat).rd (s.bankBase + 0x11000 + 16 * n) 4 = s.rd (s.bankBase + 0x11000 + 16 * n) 4 := hrd 0 4 (by decide)
  unfold State.instEnt State.instIn
  rw [hbank]
  dsimp only
  rw [hident, hrd 4 4 (by decide), hrd 8 2 (by decide), hrd 10 2 (by decide)]

theorem State.instOf_bodyState (n : Int) : (s.bodyState c.toNat).instOf n = s.instOf n := by
  unfold State.instOf
  by_cases hn : n < 0 ∨ 65536 ≤ n
  · rw [if_pos hn, if_pos hn]
  · rw [if_neg hn, if_neg hn, s.instEnt_bodyState c (by omega)]
    dsimp only
    by_cases ht : (s.instEnt n.toNat).type < 4096
    · rw [s.typeEnt_bodyState c.toNat ht]
    · simp [ht]

theorem State.sumIdx_bodyState (r : RegNo) (idx : Half) : (s.bodyState c.toNat).sumIdx c r idx = (s.wreg c r).toInt + idx.toNat := by
  unfold State.sumIdx
  rw [s.wr_bodyState]

end

/-- A number outside the instance table names no instance. -/
theorem State.instOf_outside (s : State) {n : Int} (h : n < 0 ∨ 65536 ≤ n) : s.instOf n = none := if_pos h

theorem State.instOf_undefined (s : State) {n : Int} (h0 : 0 ≤ n) (hlt : n < 65536)
    (h : (s.instEnt n.toNat).defined = false ∨ 4096 ≤ (s.instEnt n.toNat).type ∨ (s.typeEnt (s.instEnt n.toNat).type).defined = false) :
    s.instOf n = none := by
  unfold State.instOf
  rw [if_neg (by omega)]
  refine if_neg fun hall => ?_
  simp only [Bool.and_eq_true, decide_eq_true_eq] at hall
  obtain ⟨⟨hdef, htype⟩, htdef⟩ := hall
  rcases h with h | h | h
  · rw [hdef] at h; cases h
  · omega
  · rw [htdef] at h; cases h

/-! ## INSTA -/

section
variable {s : State} {c : Ctx} {fa fb : RegNo} {idx : Half} (hf : s.canFetch c)
include hf

theorem insta_writesW {e : InstEnt} {t : TypeEnt} (h : s.instOf ((s.wreg c fb).toInt + idx.toNat) = some (e, t)) :
    writesW (.insta c fa fb idx) s c fa (BitVec.ofNat 64 (0x800000 + e.base)) := by
  refine writesW_of_body hf rfl ?_
  rw [s.sumIdx_bodyState, s.instOf_bodyState, h]
  rfl

theorem insta_raises (h : s.instOf ((s.wreg c fb).toInt + idx.toNat) = none) : raises (.insta c fa fb idx) s c .inst := by
  refine raises_of_body hf rfl ?_
  rw [s.sumIdx_bodyState, s.instOf_bodyState, h]

end

/-- Settles O19: INSTA looks its instance up, and raises INST where there is none. -/
theorem instaGivesTheAddress : Obligations.InstaGivesTheAddress := by
  unfold Obligations.InstaGivesTheAddress
  refine ⟨fun s c fa fb idx hf => ?_, fun s _ _ _ _ => exec_answers _ s⟩
  exact ⟨fun e t => insta_writesW hf, fun h => insta_raises hf (s.instOf_outside h),
    fun h0 hlt h => insta_raises hf (s.instOf_undefined h0 hlt h)⟩

/-! ## Link registers -/

section
variable (s : State) (k v : Nat)

theorem State.pc_setIb : (s.setIb k v).pc k = s.pc k := by
  unfold State.pc State.setIb; rw [State.rd_wr_other _ _ _ _ _ _ (by omega)]

theorem State.pc_setTb : (s.setTb k v).pc k = s.pc k := by
  unfold State.pc State.setTb; rw [State.rd_wr_other _ _ _ _ _ _ (by omega)]

theorem State.ib_setTb : (s.setTb k v).ib k = s.ib k := by
  unfold State.ib State.setTb; rw [State.rd_wr_other _ _ _ _ _ _ (by omega)]

theorem State.depth_setIb : (s.setIb k v).depth k = s.depth k := by
  unfold State.depth State.setIb; rw [State.rd_wr_other _ _ _ _ _ _ (by omega)]

theorem State.depth_setTb : (s.setTb k v).depth k = s.depth k := by
  unfold State.depth State.setTb; rw [State.rd_wr_other _ _ _ _ _ _ (by omega)]

theorem State.depth_le : s.depth k ≤ 220 := min_le_left _ _

end

theorem State.onlyMem.wr {s t : State} (h : s.onlyMem t) (a n v : Nat) : s.onlyMem (t.wr a n v) := State.onlyMem_trans h (t.onlyMem_wr a n v)

/-- DEPTH, IB, TB and PC of a context, as a call sets them. -/
def State.setLink (s : State) (k depth ib tb pc : Nat) : State := (((s.setDepth k depth).setIb k ib).setTb k tb).setPc k pc

section
variable (s : State) {k depth : Nat} (ib tb pc : Nat)

theorem State.depth_setLink (hk : k < 256) (hd : depth ≤ 220) : (s.setLink k depth ib tb pc).depth k = depth := by
  rw [State.setLink, State.depth_setPc, State.depth_setTb, State.depth_setIb, State.depth_setDepth _ _ _ hk hd]

theorem State.pc_setLink (hk : k < 256) : (s.setLink k depth ib tb pc).pc k = pc % 2 ^ 23 := State.pc_setPc _ _ _ hk

theorem State.ib_setLink (hk : k < 256) : (s.setLink k depth ib tb pc).ib k = ib % 2 ^ 22 := by
  rw [State.setLink, State.ib_setPc, State.ib_setTb, State.ib_setIb _ _ _ hk]

theorem State.tb_setLink (hk : k < 256) : (s.setLink k depth ib tb pc).tb k = tb % 2 ^ 12 := by
  rw [State.setLink, State.tb_setPc, State.tb_setTb _ _ _ hk]

theorem State.byte_setLink {b : Nat} (h1 : outside (slot k + 0x200) 0xC b) (h2 : outside (slot k + 0x214) 4 b) :
    (s.setLink k depth ib tb pc).byte b = s.byte b := by
  unfold outside at h1 h2
  unfold State.setLink State.setPc State.setTb State.setIb State.setDepth
  rw [State.byte_wr_other _ _ _ _ _ (by omega), State.byte_wr_other _ _ _ _ _ (by omega), State.byte_wr_other _ _ _ _ _ (by omega),
    State.byte_wr_other _ _ _ _ _ (by omega)]

theorem State.onlyMem_setLink : s.onlyMem (s.setLink k depth ib tb pc) :=
  ((((s.onlyMem_refl.wr _ _ _).wr _ _ _).wr _ _ _).wr _ _ _)

/-- Link-stack frames lie apart from the link registers. -/
theorem State.rd_setLink {a n : Nat} (h : slot k + 0x240 ≤ a) : (s.setLink k depth ib tb pc).rd a n = s.rd a n :=
  State.rd_congr a n fun b h1 _ => s.byte_setLink ib tb pc (.inr (by omega)) (.inr (by omega))

end

/-! ## A frame of the link stack -/

/-- The state with a frame of PC, IB, TB and 0 stored at a. -/
def State.pushFrame (s : State) (a pc ib tb : Nat) : State := (((s.wr a 4 pc).wr (a + 4) 4 ib).wr (a + 8) 4 tb).wr (a + 12) 4 0

section
variable (s : State) {a : Nat} (pc ib tb : Nat)

theorem State.byte_pushFrame {b : Nat} (h : outside a 16 b) : (s.pushFrame a pc ib tb).byte b = s.byte b := by
  unfold outside at h
  unfold State.pushFrame
  rw [State.byte_wr_other _ _ _ _ _ (by omega), State.byte_wr_other _ _ _ _ _ (by omega), State.byte_wr_other _ _ _ _ _ (by omega),
    State.byte_wr_other _ _ _ _ _ (by omega)]

theorem State.onlyMem_pushFrame : s.onlyMem (s.pushFrame a pc ib tb) :=
  ((((s.onlyMem_refl.wr _ _ _).wr _ _ _).wr _ _ _).wr _ _ _)

/-- What was pushed reads back where the frame takes writes. -/
theorem State.rd_pushFrame (hw : ∀ b, a ≤ b → b < a + 16 → writeIgnored b = false) (hpc : pc < 2 ^ 32) (hib : ib < 2 ^ 32)
    (htb : tb < 2 ^ 32) :
    (s.pushFrame a pc ib tb).rd a 4 = pc ∧ (s.pushFrame a pc ib tb).rd (a + 4) 4 = ib ∧ (s.pushFrame a pc ib tb).rd (a + 8) 4 = tb ∧
      (s.pushFrame a pc ib tb).rd (a + 12) 4 = 0 := by
  have hsame : ∀ (u : State) (o v : Nat), o + 4 ≤ 16 → v < 2 ^ 32 → (u.wr (a + o) 4 v).rd (a + o) 4 = v := fun u o v ho hv => by
    rw [u.rd_wr_same _ _ _ fun b h1 h2 => hw b (by omega) (by omega)]
    exact Nat.mod_eq_of_lt hv
  have hfirst := hsame s 0 pc (by decide) hpc
  unfold State.pushFrame
  refine ⟨?_, ?_, ?_, hsame _ 12 0 (by decide) (by decide)⟩
  · rw [State.rd_wr_other _ _ _ _ _ _ (by omega), State.rd_wr_other _ _ _ _ _ _ (by omega), State.rd_wr_other _ _ _ _ _ _ (by omega)]
    exact hfirst
  · rw [State.rd_wr_other _ _ _ _ _ _ (by omega), State.rd_wr_other _ _ _ _ _ _ (by omega), hsame _ 4 ib (by decide) hib]
  · rw [State.rd_wr_other _ _ _ _ _ _ (by omega), hsame _ 8 tb (by decide) htb]

end

/-! ## Calls -/

/-- What a call enters, in the terms of a body. -/
theorem State.entered_eq (s : State) (c : Ctx) (base type entry : Nat) :
    s.entered c base type entry =
      ((s.bodyState c.toNat).pushFrame (frameAt c.toNat ((s.bodyState c.toNat).depth c.toNat)) ((s.bodyState c.toNat).pc c.toNat)
        ((s.bodyState c.toNat).ib c.toNat) ((s.bodyState c.toNat).tb c.toNat)).setLink c.toNat ((s.bodyState c.toNat).depth c.toNat + 1)
        base type entry := by
  rw [s.bodyState_eq_running]
  rfl

section
variable {s : State} {c : Ctx} {n : Int} {e : InstEnt} {t : TypeEnt}

theorem State.call_none (h : s.instOf n = none) : (s.bodyState c.toNat).call c n = .exc .inst := by
  unfold State.call
  rw [s.instOf_bodyState, h]

theorem State.call_full (h : (s.instOf n).isSome = true) (hd : s.depth c.toNat = 220) : (s.bodyState c.toNat).call c n = .exc .linkOvf := by
  obtain ⟨x, hx⟩ := Option.isSome_iff_exists.mp h
  unfold State.call
  rw [s.instOf_bodyState, hx]
  exact if_pos (by rw [s.depth_bodyState, hd])

section
variable (h : s.instOf n = some (e, t)) (hd : s.depth c.toNat < 220)
include h hd

/-- A call enters its instance, and the work of a library block follows. -/
theorem State.call_some : (s.bodyState c.toNat).call c n =
    match libOf t with
    | some b => .ok ((s.entered c e.base e.type t.entry).libRun c.toNat b e.ident e.base t.size)
    | none => .ok (s.entered c e.base e.type t.entry) := by
  rw [s.entered_eq]
  unfold State.call
  rw [s.instOf_bodyState, h]
  dsimp only
  rw [if_neg (by rw [s.depth_bodyState]; omega)]
  rfl

theorem State.call_plain (hl : libOf t = none) : (s.bodyState c.toNat).call c n = .ok (s.entered c e.base e.type t.entry) := by
  rw [State.call_some h hd, hl]

theorem State.call_library {b : LibBlock} (hl : libOf t = some b) :
    (s.bodyState c.toNat).call c n = .ok ((s.entered c e.base e.type t.entry).libRun c.toNat b e.ident e.base t.size) := by
  rw [State.call_some h hd, hl]

end
end

/-- A frame of the link stack lies in its slot and takes writes. -/
theorem writeIgnored_frame {k d b : Nat} (hk : k < 256) (hd : d < 220) (h1 : frameAt k d ≤ b) (h2 : b < frameAt k d + 16) :
    writeIgnored b = false := by
  unfold frameAt at h1 h2
  obtain ⟨o, rfl⟩ : ∃ o, b = slot k + o := ⟨b - slot k, by omega⟩
  exact writeIgnored_slot k o hk (by omega)

/-- What stands after a call: the frame, the link registers, and everything else as before. -/
theorem calls_of_exec {i : Instr} {s : State} {c : Ctx} {base type entry : Nat} (hf : s.canFetch c) (hd : s.depth c.toNat < 220)
    (h : exec i s = .next (s.entered c base type entry)) : calls i s c base type entry := by
  have hk : c.toNat < 256 := c.isLt
  have hpc : (s.bodyState c.toNat).pc c.toNat = s.pc c.toNat + 4 := s.pc_bodyState _ hk hf.2
  have hpcs : s.pc c.toNat + 4 < 2 ^ 32 := by have := s.pc_lt c.toNat; omega
  have hib : s.ib c.toNat < 2 ^ 32 := (Nat.mod_lt _ (by decide)).trans (show 2 ^ 22 < 2 ^ 32 by decide)
  have htb : s.tb c.toNat < 2 ^ 32 := (Nat.mod_lt _ (by decide)).trans (show 2 ^ 12 < 2 ^ 32 by decide)
  rw [s.entered_eq, hpc, s.depth_bodyState, s.ib_bodyState, s.tb_bodyState] at h
  have hpush := (s.bodyState c.toNat).rd_pushFrame (s.pc c.toNat + 4) (s.ib c.toNat) (s.tb c.toNat)
    (fun b => writeIgnored_frame hk hd) hpcs hib htb
  obtain ⟨h0, h4, h8, h12⟩ := hpush
  have hframe : slot c.toNat + 0x240 ≤ frameAt c.toNat (s.depth c.toNat) := by unfold frameAt; omega
  refine ⟨_, h, State.depth_setLink _ _ _ _ hk hd, State.pc_setLink _ _ _ _ hk, State.ib_setLink _ _ _ _ hk, State.tb_setLink _ _ _ _ hk,
    ?_, ?_, ?_, ?_, ?_, fun b h16 hlink hdepth => ?_⟩
  · exact (State.rd_setLink _ _ _ _ hframe).trans h0
  · exact (State.rd_setLink _ _ _ _ (hframe.trans (Nat.le_add_right _ _))).trans h4
  · exact (State.rd_setLink _ _ _ _ (hframe.trans (Nat.le_add_right _ _))).trans h8
  · exact (State.rd_setLink _ _ _ _ (hframe.trans (Nat.le_add_right _ _))).trans h12
  · exact State.onlyMem_trans (s.onlyMem_bodyState_unmark c) (State.onlyMem_trans (State.onlyMem_pushFrame _ _ _ _) (State.onlyMem_setLink _ _ _ _))
  · rw [State.byte_setLink _ _ _ _ hlink hdepth, State.byte_pushFrame (a := frameAt c.toNat (s.depth c.toNat)) _ _ _ _ h16]
    exact s.byte_bodyState _ b (by unfold outside at hlink ⊢; omega)

section
variable {i : Instr} {s : State} {c : Ctx} {fa : RegNo} {g : State → Int} {n : Int} (hf : s.canFetch c)
  (hi : exec i s = .next (s.run c.toNat fun u => if fa ≠ 0 then .exc .illegal else u.call c (g u)))
include hf hi

theorem raises_illegal_of_call (h : fa ≠ 0) : raises i s c .illegal := raises_of_body hf hi (if_pos h)

variable (hg : g (s.bodyState c.toNat) = n) (h0 : fa = 0)
include hg h0

theorem call_exec {t : State} (h : (s.bodyState c.toNat).call c n = .ok t) : exec i s = .next t := by
  refine exec_of_body hf hi ?_
  rw [if_neg (not_not_intro h0), hg, h]

theorem call_raises {x : Exc} (h : (s.bodyState c.toNat).call c n = .exc x) : raises i s c x := by
  refine raises_of_body hf hi ?_
  rw [if_neg (not_not_intro h0), hg, h]

theorem raises_inst_of_call (h : s.instOf n = none) : raises i s c .inst := call_raises hf hi hg h0 (State.call_none h)

theorem raises_linkOvf_of_call (h : (s.instOf n).isSome = true) (hd : s.depth c.toNat = 220) : raises i s c .linkOvf :=
  call_raises hf hi hg h0 (State.call_full h hd)

variable {e : InstEnt} {t : TypeEnt} (h : s.instOf n = some (e, t))
include h

theorem calls_of_call (hl : libOf t = none) (hd : s.depth c.toNat < 220) : calls i s c e.base e.type t.entry :=
  calls_of_exec hf hd (call_exec hf hi hg h0 (State.call_plain h hd hl))

theorem exec_library_call {b : LibBlock} (hl : libOf t = some b) (hd : s.depth c.toNat < 220) :
    exec i s = .next ((s.entered c e.base e.type t.entry).libRun c.toNat b e.ident e.base t.size) :=
  call_exec hf hi hg h0 (State.call_library h hd hl)

end

/-! ## FBRET -/

section
variable {s : State} {c : Ctx} {fa fb : RegNo} {idx : Half} (hf : s.canFetch c)
include hf

theorem fbret_raises_illegal (h : fa ≠ 0 ∨ fb ≠ 0) : raises (.fbret c fa fb idx) s c .illegal := by
  refine raises_of_body hf rfl ?_
  rw [if_pos h]

theorem fbret_raises_linkUnf (ha : fa = 0) (hb : fb = 0) (hd : s.depth c.toNat = 0) : raises (.fbret c fa fb idx) s c .linkUnf := by
  refine raises_of_body hf rfl ?_
  rw [if_neg (by rw [ha, hb]; decide), State.ret]
  exact if_pos (by rw [s.depth_bodyState, hd])

/-- FBRET takes the link registers from the top frame. -/
theorem fbret_pops (ha : fa = 0) (hb : fb = 0) (hd : 0 < s.depth c.toNat) :
    let a := slot c.toNat + 0x240 + 16 * (s.depth c.toNat - 1)
    ∃ t, exec (.fbret c fa fb idx) s = .next t ∧ t.depth c.toNat = s.depth c.toNat - 1 ∧ t.pc c.toNat = s.rd a 4 % 2 ^ 23 ∧
      t.ib c.toNat = s.rd (a + 4) 4 % 2 ^ 22 ∧ t.tb c.toNat = s.rd (a + 8) 4 % 2 ^ 12 ∧ (s.unmark c).onlyMem t ∧
      ∀ b, outside (slot c.toNat + 0x200) 0xC b → outside (slot c.toNat + 0x214) 4 b → t.byte b = s.byte b := by
  intro a
  have hk : c.toNat < 256 := c.isLt
  have hle := s.depth_le c.toNat
  have hrd : ∀ o n, (s.bodyState c.toNat).rd (a + o) n = s.rd (a + o) n := fun o n => s.rd_bodyState _ _ n (.inr (by omega))
  have hbody : exec (.fbret c fa fb idx) s = .next
      ((((s.bodyState c.toNat).setDepth c.toNat (s.depth c.toNat - 1)).setPc c.toNat (s.rd (a + 0) 4)).setIb c.toNat (s.rd (a + 4) 4) |>.setTb
        c.toNat (s.rd (a + 8) 4)) := by
    refine exec_of_body hf rfl ?_
    rw [if_neg (by rw [ha, hb]; decide), State.ret, s.depth_bodyState, ← hrd 0, ← hrd 4, ← hrd 8]
    exact if_neg hd.ne'
  refine ⟨_, hbody, ?_, ?_, ?_, State.tb_setTb _ _ _ hk, ?_, fun b hlink hdepth => ?_⟩
  · rw [State.depth_setTb, State.depth_setIb, State.depth_setPc, State.depth_setDepth _ _ _ hk (by omega)]
  · rw [State.pc_setTb, State.pc_setIb, State.pc_setPc _ _ _ hk, Nat.add_zero]
  · rw [State.ib_setTb, State.ib_setIb _ _ _ hk]
  · exact State.onlyMem_trans (s.onlyMem_bodyState_unmark c) ((((State.onlyMem_refl _).wr _ _ _).wr _ _ _).wr _ _ _ |>.wr _ _ _)
  · unfold outside at hlink hdepth
    unfold State.setTb State.setIb State.setPc State.setDepth
    rw [State.byte_wr_other _ _ _ _ _ (by omega), State.byte_wr_other _ _ _ _ _ (by omega), State.byte_wr_other _ _ _ _ _ (by omega),
      State.byte_wr_other _ _ _ _ _ (by omega)]
    exact s.byte_bodyState _ b (by unfold outside; omega)

end

section
variable (s : State) (c : Ctx) (fa fb : RegNo) (idx : Half)

theorem exec_fbcall : exec (.fbcall c fa fb idx) s =
    .next (s.run c.toNat fun u => if fa ≠ 0 then .exc .illegal else u.call c idx.toNat) := rfl

theorem exec_fbcallr : exec (.fbcallr c fa fb idx) s =
    .next (s.run c.toNat fun u => if fa ≠ 0 then .exc .illegal else u.call c (u.sumIdx c fb idx)) := rfl

end

/-- Settles O18: both calls are one act with a number of their own, and FBRET is its inverse on the link registers. -/
theorem functionBlockCalls : Obligations.FunctionBlockCalls := by
  unfold Obligations.FunctionBlockCalls
  refine ⟨fun s c fa fb idx hf => ?_,
    fun s => ⟨fun _ _ _ _ => exec_answers _ s, fun _ _ _ _ => exec_answers _ s, fun _ _ _ _ => exec_answers _ s⟩⟩
  have hsum := s.sumIdx_bodyState c fb idx
  have hdir := exec_fbcall s c fa fb idx
  have hreg := exec_fbcallr s c fa fb idx
  exact ⟨fun e t h0 => calls_of_call hf hdir rfl h0, fun e t h0 => calls_of_call hf hreg hsum h0,
    fun e t b h0 h hl => exec_library_call hf hdir rfl h0 h hl, fun e t b h0 h hl => exec_library_call hf hreg hsum h0 h hl, fbret_pops hf,
    raises_inst_of_call hf hdir rfl, raises_inst_of_call hf hreg hsum, raises_linkOvf_of_call hf hdir rfl, raises_linkOvf_of_call hf hreg hsum,
    fbret_raises_linkUnf hf, fun h => ⟨raises_illegal_of_call hf hdir h, raises_illegal_of_call hf hreg h⟩, fbret_raises_illegal hf⟩
end Sys2Proof.Machine
end

section
/-!
Timers and edge detectors (R165, R166, R167, R169).
-/
namespace Sys2Proof.Machine

/-! ## The rule of a timer -/

/-- ET, Q and RUN of a timer, as the rule lists them. -/
def Timer.values (t : Timer) : Nat × Bool × Bool := (t.et, t.q, t.run)

section
variable (pt p et : Nat) (q run prev inp adv : Bool)

/-- The off-delay: an input holds Q, its fall starts the time, and the time's end drops Q. -/
theorem Timer.step_offDelay : ((⟨et, q, run⟩ : Timer).step 1 pt p adv inp prev).values = timerRule 1 pt p et q run prev inp adv := by
  unfold Timer.step timerRule Timer.values
  cases inp
  case true => rfl
  cases prev
  case true => simp; split <;> rfl
  cases hcount : run && adv <;> simp [hcount] <;> split <;> rfl

/-- The pulse: a rising input starts it, and Q follows RUN. -/
theorem Timer.step_pulse : ((⟨et, q, run⟩ : Timer).step 2 pt p adv inp prev).values = timerRule 2 pt p et q run prev inp adv := by
  unfold Timer.step timerRule Timer.values
  cases run
  case false =>
    by_cases hend : pt = 0 <;> cases inp <;> cases prev <;> simp [hend]
  cases adv
  · by_cases hend : pt ≤ et <;> cases inp <;> simp [hend]
  · by_cases hend : pt ≤ min (et + p) pt <;> cases inp <;> simp [hend]

/-- The on-delay, and every other mode: RUN stays. -/
theorem Timer.step_onDelay {mode : Nat} (h1 : mode ≠ 1) (h2 : mode ≠ 2) :
    ((⟨et, q, run⟩ : Timer).step mode pt p adv inp prev).values = timerRule mode pt p et q run prev inp adv := by
  unfold Timer.step timerRule Timer.values
  rw [if_neg h1, if_neg h2]
  split
  · exact absurd rfl h1
  · exact absurd rfl h2
  · rfl

theorem Timer.step_values (mode : Nat) :
    ((⟨et, q, run⟩ : Timer).step mode pt p adv inp prev).values = timerRule mode pt p et q run prev inp adv := by
  by_cases h1 : mode = 1
  · rw [h1]; exact Timer.step_offDelay pt p et q run prev inp adv
  by_cases h2 : mode = 2
  · rw [h2]; exact Timer.step_pulse pt p et q run prev inp adv
  exact Timer.step_onDelay pt p et q run prev inp adv h1 h2

/-- ET never passes both its old value and the preset. -/
theorem timerRule_et_le (mode : Nat) : (timerRule mode pt p et q run prev inp adv).1 ≤ max et pt := by
  have hon : min (et + p) pt ≤ max et pt := (min_le_right _ _).trans (le_max_right _ _)
  have hkeep : ∀ b : Bool, (if b = true then min (et + p) pt else et) ≤ max et pt := fun b => by
    cases b
    · exact le_max_left _ _
    · exact hon
  have hzero : ∀ (b : Bool) (x : Nat), x ≤ max et pt → (if b = true then 0 else x) ≤ max et pt := fun b x hx => by
    cases b
    · exact hx
    · exact Nat.zero_le _
  have hone : ∀ (P : Prop) [Decidable P] (x y : Nat × Bool × Bool), x.1 ≤ max et pt → y.1 ≤ max et pt → (if P then x else y).1 ≤ max et pt :=
    fun P _ x y hx hy => by
      split
      · exact hx
      · exact hy
  unfold timerRule
  exact hone _ _ _ (hone _ _ _ (Nat.zero_le _) (hone _ _ _ (hkeep _) (hkeep _))) (hone _ _ _ (hzero _ _ (hzero _ _ (hkeep _))) (hzero _ _ (hkeep _)))

end

/-! ## The record after an execution -/

/-- The three stores of a timer: ET, the scan stamp, and the state byte with the reserved bytes. -/
def State.tmrStore (s : State) (a et now st : Nat) : State := ((s.ctxStore (a + 4) 4 et).ctxStore (a + 8) 8 now).ctxStore (a + 0x11) 7 st

section
variable (s : State) {a : Nat} (et now st : Nat)

theorem State.rd_ctxStore (a n v b m : Nat) : (s.ctxStore a n v).rd b m = (s.wr a n v).rd b m :=
  State.rd_congr b m fun x _ _ => State.byte_congr (s.mem_ctxStore a n v) x

theorem State.byte_ctxStore_other (a n v b : Nat) (h : outside a n b) : (s.ctxStore a n v).byte b = s.byte b :=
  (State.byte_congr (s.mem_ctxStore a n v) b).trans (s.byte_wr_other a n v b h)

theorem State.byte_tmrStore_other {b : Nat} (h1 : outside (a + 4) 12 b) (h2 : outside (a + 0x11) 7 b) :
    (s.tmrStore a et now st).byte b = s.byte b := by
  unfold State.tmrStore
  rw [State.byte_ctxStore_other _ _ _ _ _ h2, State.byte_ctxStore_other _ _ _ _ _ (by unfold outside at *; omega),
    State.byte_ctxStore_other _ _ _ _ _ (by unfold outside at *; omega)]

section
variable (hend : a + 24 ≤ ctxBase)
include hend

theorem State.rd_tmrStore_et (h : et < 2 ^ 32) : (s.tmrStore a et now st).rd (a + 4) 4 = et := by
  unfold State.tmrStore
  rw [State.rd_ctxStore, State.rd_wr_other _ _ _ _ _ _ (by omega), State.rd_ctxStore, State.rd_wr_other _ _ _ _ _ _ (by omega), State.rd_ctxStore,
    State.rd_wr_same _ _ _ _ fun b _ h2 => writeIgnored_below (by omega)]
  exact Nat.mod_eq_of_lt h

theorem State.rd_tmrStore_stamp (h : now < 2 ^ 64) : (s.tmrStore a et now st).rd (a + 8) 8 = now := by
  unfold State.tmrStore
  rw [State.rd_ctxStore, State.rd_wr_other _ _ _ _ _ _ (by omega), State.rd_ctxStore,
    State.rd_wr_same _ _ _ _ fun b _ h2 => writeIgnored_below (by omega)]
  exact Nat.mod_eq_of_lt h

theorem State.byte_tmrStore_state {b : Nat} (h1 : a + 0x11 ≤ b) (h2 : b < a + 0x18) :
    (s.tmrStore a et now st).byte b = BitVec.ofNat 8 (st / 256 ^ (b - (a + 0x11))) :=
  (State.byte_ctxStore _ _ _ _ b).trans (if_pos ⟨h1, h2, writeIgnored_below (by omega)⟩)

/-- The bytes past the state byte are written zero. -/
theorem State.byte_tmrStore_reserved {b : Nat} (hst : st < 256) (h1 : a + 0x12 ≤ b) (h2 : b < a + 0x18) : (s.tmrStore a et now st).byte b = 0 := by
  have hpow : 256 ^ 1 ≤ 256 ^ (b - (a + 0x11)) := Nat.pow_le_pow_right (by decide) (by omega)
  rw [s.byte_tmrStore_state et now st hend (by omega) h2, Nat.div_eq_of_lt (lt_of_lt_of_le hst hpow)]
  rfl

end
end

/-- A state byte of a timer record. -/
theorem timerState_lt (q inp run : Bool) : b2n q + 2 * b2n inp + 4 * b2n run < 256 := by cases q <;> cases inp <;> cases run <;> decide

theorem State.reg64_lt (s : State) (a : Nat) : s.reg64 a < 2 ^ 64 := by
  have hlo := (s.reg a).isLt
  have hhi := (s.reg (a + 4)).isLt
  unfold State.reg64
  omega

/-! ## TMR and EDGE -/

section
variable {s : State} {c : Ctx} {fa fb : RegNo} {idx : Half} (hf : s.canFetch c)

/-- The place of a record at IB + idx16. -/
def State.recordAt (s : State) (c : Ctx) (idx : Half) : Nat := 0x800000 + s.ib c.toNat + idx.toNat

theorem State.recordAt_add_le {n : Nat} (h : s.insideI c (s.ib c.toNat + idx.toNat) n) : s.recordAt c idx + n ≤ ctxBase := by
  obtain ⟨-, -, -, hle⟩ := h
  unfold State.recordAt ctxBase
  omega

/-- A record that lies inside the instance, at its alignment, is reached. -/
theorem State.instAddr_record {n al : Nat} (ha : (s.ib c.toNat + idx.toNat) % al = 0) (h : s.insideI c (s.ib c.toNat + idx.toNat) n) :
    (s.bodyState c.toNat).instAddr c.toNat (((s.bodyState c.toNat).ib c.toNat + idx.toNat : Nat) : Int) n al = .inr (s.recordAt c idx) := by
  rw [s.ib_bodyState, State.instAddr_bodyState_inside _ _ (by exact_mod_cast ha) (by exact_mod_cast h)]
  unfold State.recordAt instBase
  rw [Int.toNat_natCast, Nat.add_assoc]

/-- Registers of a context stand above every record. -/
theorem State.byte_setW_below {u : State} {r : RegNo} {v : Dword} {b : Nat} (h : b < ctxBase) : (u.setW c.toNat r.toNat v).byte b = u.byte b :=
  State.byte_setW _ _ _ (.inr (.inl (by have := le_slot c.toNat; omega)))

theorem State.rd_setW_below {u : State} {r : RegNo} {v : Dword} {b n : Nat} (h : b + n ≤ ctxBase) :
    (u.setW c.toNat r.toNat v).rd b n = u.rd b n :=
  State.rd_congr b n fun _ _ _ => State.byte_setW_below (by omega)

theorem State.rd_bodyState_below {b n : Nat} (h : b + n ≤ ctxBase) : (s.bodyState c.toNat).rd b n = s.rd b n :=
  s.rd_bodyState _ _ _ (.inl (by have := le_slot c.toNat; omega))

theorem State.byte_bodyState_below {b : Nat} (h : b < ctxBase) : (s.bodyState c.toNat).byte b = s.byte b :=
  s.byte_bodyState _ _ (.inl (by have := le_slot c.toNat; omega))

/-- What a timer computes from its record. -/
def State.timerValues (s : State) (c : Ctx) (fa : RegNo) (a : Nat) : Nat × Bool × Bool :=
  timerRule (s.byte (a + 0x10)).toNat (s.rd a 4) (s.taskPeriod c.toNat) (s.rd (a + 4) 4) ((s.byte (a + 0x11)).getLsbD 0)
    ((s.byte (a + 0x11)).getLsbD 2) ((s.byte (a + 0x11)).getLsbD 1) ((s.wreg c fa).getLsbD 0) (decide (s.rd (a + 8) 8 ≠ s.reg64 R.CML_STAMP_LO))

include hf

/-- TMR stores what the rule gives and writes Q. -/
theorem exec_tmr (ha : (s.ib c.toNat + idx.toNat) % 8 = 0) (h : s.insideI c (s.ib c.toNat + idx.toNat) 24) :
    let a := s.recordAt c idx
    let r := s.timerValues c fa a
    exec (.tmr c fa fb idx) s = .next (((s.bodyState c.toNat).tmrStore a r.1 (s.reg64 R.CML_STAMP_LO)
      (b2n r.2.1 + 2 * b2n ((s.wreg c fa).getLsbD 0) + 4 * b2n r.2.2)).setW c.toNat fb.toNat (if r.2.1 then 1 else 0)) := by
  intro a r
  have hend : a + 24 ≤ ctxBase := State.recordAt_add_le h
  have hnow : (s.bodyState c.toNat).special c.toNat 8 = s.reg64 R.CML_STAMP_LO := s.special_bodyState c 8
  refine exec_of_body hf rfl ?_
  dsimp only
  rw [State.instAddr_record ha h]
  dsimp only
  rw [hnow, s.wr_bodyState, s.taskPeriod_bodyState, State.byte_bodyState_below (by omega), State.byte_bodyState_below (by omega),
    State.rd_bodyState_below (by omega), State.rd_bodyState_below (by omega), State.rd_bodyState_below (by omega)]
  have hstep := Timer.step_values (s.rd a 4) (s.taskPeriod c.toNat) (s.rd (a + 4) 4) ((s.byte (a + 0x11)).getLsbD 0)
    ((s.byte (a + 0x11)).getLsbD 2) ((s.byte (a + 0x11)).getLsbD 1) ((s.wreg c fa).getLsbD 0)
    (decide (s.rd (a + 8) 8 ≠ s.reg64 R.CML_STAMP_LO)) (s.byte (a + 0x10)).toNat
  have hr : r = _ := hstep.symm
  rw [hr]
  rfl

theorem tmr_spec (ha : (s.ib c.toNat + idx.toNat) % 8 = 0) (h : s.insideI c (s.ib c.toNat + idx.toNat) 24) :
    let a := s.recordAt c idx
    let r := s.timerValues c fa a
    ∃ t, exec (.tmr c fa fb idx) s = .next t ∧ t.pc c.toNat = s.pc c.toNat + 4 ∧ t.rd (a + 4) 4 = r.1 ∧ t.rd (a + 8) 8 = s.reg64 R.CML_STAMP_LO ∧
      t.byte (a + 0x11) = BitVec.ofNat 8 (b2n r.2.1 + 2 * b2n ((s.wreg c fa).getLsbD 0) + 4 * b2n r.2.2) ∧
      (∀ b, a + 0x12 ≤ b → b < a + 0x18 → t.byte b = 0) ∧ t.w c.toNat fb.toNat = (if fb = 0 then 0 else if r.2.1 then 1 else 0) ∧
      ∀ b, outside (a + 4) 12 b → outside (a + 0x11) 7 b → offPc c b → offW c fb b → t.byte b = s.byte b := by
  intro a r
  have hend : a + 24 ≤ ctxBase := State.recordAt_add_le h
  have hslot := le_slot c.toNat
  have het : r.1 < 2 ^ 32 := lt_of_le_of_lt (timerRule_et_le _ _ _ _ _ _ _ _ _) (max_lt (s.rd_lt _ 4) (s.rd_lt _ 4))
  have hst := timerState_lt r.2.1 ((s.wreg c fa).getLsbD 0) r.2.2
  refine ⟨_, exec_tmr hf ha h, ?_, ?_, ?_, ?_, fun b h1 h2 => ?_, State.w_setW_reg _ _ _ _, fun b h1 h2 hpc hw => ?_⟩
  · rw [State.pc_setW _ _ _ _ fb.isLt, ← s.pc_bodyState _ c.isLt hf.2]
    exact congrArg (· % 2 ^ 23) (State.rd_congr _ _ fun b hb _ => State.byte_tmrStore_other _ _ _ _ (.inr (by omega))
      (.inr (by omega)))
  · rw [State.rd_setW_below (by omega), State.rd_tmrStore_et _ _ _ _ hend het]
  · rw [State.rd_setW_below (by omega), State.rd_tmrStore_stamp _ _ _ _ hend (s.reg64_lt _)]
  · rw [State.byte_setW_below (by omega), State.byte_tmrStore_state _ _ _ _ hend le_rfl (by omega), Nat.sub_self, Nat.pow_zero, Nat.div_one]
  · rw [State.byte_setW_below (by omega), State.byte_tmrStore_reserved _ _ _ _ hend hst h1 h2]
  · rw [State.byte_setW _ _ _ hw, State.byte_tmrStore_other _ _ _ _ h1 h2, s.byte_bodyState _ b hpc]

/-- EDGE stores IN without PRIME and writes the edge. -/
theorem exec_edge (h : s.insideI c (s.ib c.toNat + idx.toNat) 1) :
    let a := s.recordAt c idx
    let inp := (s.wreg c fb).getLsbD 0
    exec (.edge c fa fb idx) s = .next (((s.bodyState c.toNat).ctxStore a 1 (b2n inp)).setW c.toNat fa.toNat
      (if (s.byte a).getLsbD 7 then 0 else if inp && !(s.byte a).getLsbD 0 then 1 else if (s.byte a).getLsbD 0 && !inp then 2 else 0)) := by
  intro a inp
  have hend : a + 1 ≤ ctxBase := State.recordAt_add_le h
  refine exec_of_body hf rfl ?_
  dsimp only
  rw [State.instAddr_record (Nat.mod_one _) h]
  dsimp only
  rw [s.wr_bodyState, State.byte_bodyState_below (by omega)]

theorem edge_spec (h : s.insideI c (s.ib c.toNat + idx.toNat) 1) :
    let a := s.recordAt c idx
    let inp := (s.wreg c fb).getLsbD 0
    let prev := (s.byte a).getLsbD 0
    ∃ t, exec (.edge c fa fb idx) s = .next t ∧ t.pc c.toNat = s.pc c.toNat + 4 ∧ t.byte a = (if inp then 1 else 0) ∧
      t.w c.toNat fa.toNat = (if fa = 0 then 0 else if (s.byte a).getLsbD 7 then 0
        else if inp ∧ prev = false then 1 else if prev ∧ inp = false then 2 else 0) ∧
      ∀ b, b ≠ a → offPc c b → offW c fa b → t.byte b = s.byte b := by
  intro a inp prev
  have hend : a + 1 ≤ ctxBase := State.recordAt_add_le h
  have hslot := le_slot c.toNat
  refine ⟨_, exec_edge hf h, ?_, ?_, ?_, fun b hb hpc hw => ?_⟩
  · rw [State.pc_setW _ _ _ _ fa.isLt, ← s.pc_bodyState _ c.isLt hf.2]
    exact congrArg (· % 2 ^ 23) (State.rd_congr _ _ fun b hb _ => State.byte_ctxStore_other _ _ _ _ _ (.inr (by omega)))
  · rw [State.byte_setW_below (by omega), State.byte_ctxStore, if_pos ⟨le_rfl, by omega, writeIgnored_below (by omega)⟩, Nat.sub_self]
    change BitVec.ofNat 8 (b2n inp / 256 ^ 0) = _
    cases inp <;> rfl
  · rw [State.w_setW_reg]
    simp only [Bool.and_eq_true, Bool.not_eq_true', inp, prev]
    rfl
  · rw [State.byte_setW _ _ _ hw, State.byte_ctxStore_other _ _ _ _ _ (by unfold outside; omega), s.byte_bodyState _ b hpc]

end

/-- Settles O20: the timer of R166 is the rule's text mode by mode, and both records lie below the context store. -/
theorem timersAndEdges : Obligations.TimersAndEdges := by
  unfold Obligations.TimersAndEdges
  exact ⟨⟨fun s c fa fb idx hf => tmr_spec hf, fun s c fa fb idx hf => edge_spec hf⟩,
    fun s => ⟨fun _ _ _ _ => exec_answers _ s, fun _ _ _ _ => exec_answers _ s⟩⟩
end Sys2Proof.Machine
end

section
/-!
An exception of a task that suspends it (R184, R185).
-/
namespace Sys2Proof.Machine

/-! ## Where the registers of the cluster stand -/

theorem logReg_tstat (c : Ctx) : logReg (R.CML_TSTAT c.toNat) = false := by
  have hblock : blockOf (R.CML_TSTAT c.toNat) = 2 := by
    unfold blockOf R.CML_TSTAT
    have := c.isLt
    omega
  unfold logReg
  rw [hblock]
  rfl

theorem logReg_tcfg (c : Ctx) : logReg (R.CML_TCFG c.toNat) = false := by
  have hblock : blockOf (R.CML_TCFG c.toNat) = 2 := by
    unfold blockOf R.CML_TCFG
    have := c.isLt
    omega
  unfold logReg
  rw [hblock]
  rfl

theorem tstat_ne_exc (k : Nat) : R.CML_TSTAT k ≠ R.CML_EXC := by unfold R.CML_TSTAT R.CML_EXC; omega
theorem tstat_ne_excPc (k : Nat) : R.CML_TSTAT k ≠ R.CML_EXC_PC := by unfold R.CML_TSTAT R.CML_EXC_PC; omega
theorem tcfg_ne_exc (k : Nat) : R.CML_TCFG k ≠ R.CML_EXC := by unfold R.CML_TCFG R.CML_EXC; omega
theorem tcfg_ne_excPc (k : Nat) : R.CML_TCFG k ≠ R.CML_EXC_PC := by unfold R.CML_TCFG R.CML_EXC_PC; omega
theorem tcfg_ne_tstat (k : Nat) : R.CML_TCFG k ≠ R.CML_TSTAT k := by unfold R.CML_TCFG R.CML_TSTAT; omega

theorem Exc.code_lt (e : Exc) : e.code < 256 := by cases e <;> decide

/-- The descriptor in force depends on the activations, the words in force and CML_TCFGc. -/
theorem State.curCfg_congr {s t : State} {c : Nat} (hcml : t.cml = s.cml) (hin : t.inForce = s.inForce)
    (hreg : t.reg (R.CML_TCFG c) = s.reg (R.CML_TCFG c)) : t.curCfg c = s.curCfg c := by
  unfold State.curCfg State.act? State.tcfg State.eff
  rw [hcml, hin, hreg]

/-! ## The parts of an exception -/

/-- The cause in CML_TSTATc, the record and the interrupt. -/
def State.excRecorded (s : State) (c : Nat) (e : Exc) : State :=
  let u := s.put (F.CML_TSTAT_EXC c) e.code
  (u.record 0x0200 (payW [c, s.pc c, e.code]) (decide (2 ≤ cfgExcAct (u.curCfg c)))).assertSrc 8

/-- CML_EXC takes the first exception. -/
def State.excLatched (s : State) (c code pc : Nat) : State :=
  if s.b F.CML_EXC_VALID then s
  else (((s.put F.CML_EXC_CTX c).put F.CML_EXC_CAUSE code).put F.CML_EXC_VALID 1).put F.CML_EXC_PC_PC pc

theorem State.excRecorded_frame (s : State) (c : Nat) (e : Exc) : (s.put (F.CML_TSTAT_EXC c) e.code).logFrame (s.excRecorded c e) :=
  State.logFrame_trans (State.logFrame_record _ _ _ _) (State.logFrame_assertSrc _ _)

section
variable (s : State) (c : Ctx) (e : Exc)

theorem State.reg_excRecorded {a : Nat} (hl : logReg a = false) (ha : a ≠ R.CML_TSTAT c.toNat) : (s.excRecorded c.toNat e).reg a = s.reg a :=
  ((s.excRecorded_frame c.toNat e).2.1 a hl).trans (s.reg_put_other _ _ a ha)

theorem State.cause_excRecorded : (s.excRecorded c.toNat e).f (F.CML_TSTAT_EXC c.toNat) = e.code := by
  have hl : logReg (F.CML_TSTAT_EXC c.toNat).addr = false := logReg_tstat c
  rw [State.logFrame_f (s.excRecorded_frame c.toNat e) _ hl, State.f_put_same _ _ _ (show 8 ≤ 15 by decide) (show 15 < 32 by decide)]
  exact Nat.mod_eq_of_lt e.code_lt

theorem State.f_excRecorded {x : Fld} (hl : logReg x.addr = false) (ha : x.addr ≠ R.CML_TSTAT c.toNat) : (s.excRecorded c.toNat e).f x = s.f x :=
  State.f_congr x (s.reg_excRecorded c e hl ha)

theorem State.onlyLog_excRecorded : (s.excRecorded c.toNat e).cml = s.cml ∧ (s.excRecorded c.toNat e).inForce = s.inForce := by
  obtain ⟨hrest, -, -⟩ := s.excRecorded_frame c.toNat e
  exact ⟨by have h := congrArg State.cml hrest; exact h, by have h := congrArg State.inForce hrest; exact h⟩

end

section
variable (s : State) (c code pc : Nat)

theorem State.excLatched_valid (h : s.f F.CML_EXC_VALID = 1) : s.excLatched c code pc = s := if_pos (by simp [State.b, h])

theorem State.excLatched_free (h : s.f F.CML_EXC_VALID = 0) :
    s.excLatched c code pc = (((s.put F.CML_EXC_CTX c).put F.CML_EXC_CAUSE code).put F.CML_EXC_VALID 1).put F.CML_EXC_PC_PC pc :=
  if_neg (by simp [State.b, h])

theorem State.excValid_cases : s.f F.CML_EXC_VALID = 0 ∨ s.f F.CML_EXC_VALID = 1 := by
  have hlt : s.f F.CML_EXC_VALID < 2 := s.f_lt F.CML_EXC_VALID
  omega

theorem State.regsOnly_excLatched : s.regsOnly (s.excLatched c code pc) [R.CML_EXC, R.CML_EXC_PC] := by
  have hx : R.CML_EXC ∈ [R.CML_EXC, R.CML_EXC_PC] := List.mem_cons_self ..
  rcases s.excValid_cases with h | h
  · rw [s.excLatched_free c code pc h]
    exact State.regsOnly_trans (State.regsOnly_trans (State.regsOnly_trans (s.regsOnly_put c hx) (State.regsOnly_put _ code hx))
      (State.regsOnly_put _ 1 hx)) (State.regsOnly_put _ pc (List.mem_cons_of_mem _ (List.mem_cons_self ..)))
  · rw [s.excLatched_valid c code pc h]
    exact s.regsOnly_refl _

theorem State.count_excLatched : (s.excLatched c code pc).f F.CML_EXC_COUNT = s.f F.CML_EXC_COUNT := by
  rcases s.excValid_cases with h | h
  · rw [s.excLatched_free c code pc h, State.f_put_apart _ _ (by decide) (by decide), State.f_put_apart _ _ (by decide) (by decide),
      State.f_put_apart _ _ (by decide) (by decide), State.f_put_apart _ _ (by decide) (by decide)]
  · rw [s.excLatched_valid c code pc h]

theorem State.valid_excLatched : (s.excLatched c code pc).f F.CML_EXC_VALID = 1 := by
  rcases s.excValid_cases with h | h
  · rw [s.excLatched_free c code pc h, State.f_put_apart _ _ (by decide) (by decide), State.f_put_same _ _ _ (by decide) (by decide)]
    rfl
  · rw [s.excLatched_valid c code pc h, h]

/-- A free latch takes the context, the cause and the PC. -/
theorem State.taken_excLatched (h : s.f F.CML_EXC_VALID = 0) (hc : c < 2 ^ 8) (he : code < 2 ^ 8) (hp : pc < 2 ^ 23) :
    (s.excLatched c code pc).f F.CML_EXC_CTX = c ∧ (s.excLatched c code pc).f F.CML_EXC_CAUSE = code ∧
      (s.excLatched c code pc).f F.CML_EXC_PC_PC = pc := by
  rw [s.excLatched_free c code pc h]
  refine ⟨?_, ?_, ?_⟩
  · rw [State.f_put_apart _ _ (by decide) (by decide), State.f_put_apart _ _ (by decide) (by decide), State.f_put_apart _ _ (by decide) (by decide),
      State.f_put_same _ _ _ (by decide) (by decide)]
    exact Nat.mod_eq_of_lt hc
  · rw [State.f_put_apart _ _ (by decide) (by decide), State.f_put_apart _ _ (by decide) (by decide), State.f_put_same _ _ _ (by decide) (by decide)]
    exact Nat.mod_eq_of_lt he
  · rw [State.f_put_same _ _ _ (by decide) (by decide)]
    exact Nat.mod_eq_of_lt hp

end

/-- A context suspended by an exception. -/
def State.excSuspended (s : State) (c : Nat) : State := (s.put (F.CML_TSTAT_SUSP c) 1).put (F.CML_TSTAT_STATE c) 5

theorem State.regsOnly_excSuspended (s : State) (c : Nat) : s.regsOnly (s.excSuspended c) [R.CML_TSTAT c] :=
  State.regsOnly_trans (s.regsOnly_put _ (List.mem_cons_self ..)) (State.regsOnly_put _ _ (List.mem_cons_self ..))

theorem State.f_excSuspended (s : State) (c : Nat) :
    (s.excSuspended c).f (F.CML_TSTAT_SUSP c) = 1 ∧ (s.excSuspended c).f (F.CML_TSTAT_STATE c) = 5 ∧
      (s.excSuspended c).f (F.CML_TSTAT_EXC c) = s.f (F.CML_TSTAT_EXC c) := by
  unfold State.excSuspended
  refine ⟨?_, ?_, ?_⟩
  · rw [State.f_put_bits _ _ _ _ (show 0 ≤ 2 by decide) (.inr (show 2 < 5 by decide)),
      State.f_put_same _ _ _ (show 5 ≤ 5 by decide) (show 5 < 32 by decide)]
    rfl
  · rw [State.f_put_same _ _ _ (show 0 ≤ 2 by decide) (show 2 < 32 by decide)]
    rfl
  · rw [State.f_put_bits _ _ _ _ (show 0 ≤ 2 by decide) (.inr (show 2 < 8 by decide)),
      State.f_put_bits _ _ _ _ (show 5 ≤ 5 by decide) (.inr (show 5 < 8 by decide))]

/-! ## The whole -/

section
variable (s : State) (c : Ctx) (e : Exc)

/-- CML_EXC after its latch and its count. -/
def State.excCounted (s : State) (c code pc : Nat) : State := (s.excLatched c code pc).count F.CML_EXC_COUNT

theorem State.regsOnly_excCounted (s : State) (c code pc : Nat) : s.regsOnly (s.excCounted c code pc) [R.CML_EXC, R.CML_EXC_PC] :=
  State.regsOnly_trans (s.regsOnly_excLatched c code pc) (State.regsOnly_put _ _ (List.mem_cons_self ..))

/-- The count leaves the latched fields. -/
theorem State.f_excCounted (s : State) (c code pc : Nat) {x : Fld} (h : x.addr ≠ R.CML_EXC ∨ x.hi < 8 ∨ 15 < x.lo) :
    (s.excCounted c code pc).f x = (s.excLatched c code pc).f x := State.f_put_apart _ _ (by decide) h

theorem State.noteExc_eq (s : State) (c : Nat) (e : Exc) : s.noteExc c e = (s.excRecorded c e).excCounted c e.code (s.pc c) := rfl

theorem State.curCfg_noteExc : (s.noteExc c.toNat e).curCfg c.toNat = s.curCfg c.toNat := by
  rw [s.noteExc_eq]
  obtain ⟨hcml, hin⟩ := s.onlyLog_excRecorded c e
  obtain ⟨hrest, hregs⟩ := (s.excRecorded c.toNat e).regsOnly_excCounted c.toNat e.code (s.pc c.toNat)
  generalize (s.excRecorded c.toNat e).excCounted c.toNat e.code (s.pc c.toNat) = u at hrest hregs ⊢
  have hcml' : u.cml = (s.excRecorded c.toNat e).cml := by have h := congrArg State.cml hrest; exact h
  have hin' : u.inForce = (s.excRecorded c.toNat e).inForce := by have h := congrArg State.inForce hrest; exact h
  refine State.curCfg_congr (hcml'.trans hcml) (hin'.trans hin) ((hregs _ ?_).trans (s.reg_excRecorded c e (logReg_tcfg c) (tcfg_ne_tstat _)))
  simp [tcfg_ne_exc, tcfg_ne_excPc]

theorem State.exception_eq (h : bitsOf (s.curCfg c.toNat) 25 24 = 1) :
    s.exception c.toNat e = (((s.excRecorded c.toNat e).excCounted c.toNat e.code (s.pc c.toNat)).excSuspended c.toNat) := by
  have hact : cfgExcAct ((s.noteExc c.toNat e).curCfg c.toNat) = 1 := by rw [s.curCfg_noteExc]; exact h
  unfold State.exception State.excAct
  rw [hact, s.noteExc_eq]
  rfl

/-- Every register but those of the exception and of an event stays. -/
theorem State.reg_excSuspended {a : Nat} (code pc : Nat) (hl : logReg a = false) (h1 : a ≠ R.CML_EXC) (h2 : a ≠ R.CML_EXC_PC)
    (h3 : a ≠ R.CML_TSTAT c.toNat) : (((s.excRecorded c.toNat e).excCounted c.toNat code pc).excSuspended c.toNat).reg a = s.reg a := by
  rw [(State.regsOnly_excSuspended _ c.toNat).2 a (by simp [h3]), (State.regsOnly_excCounted _ c.toNat code pc).2 a (by simp [h1, h2]),
    s.reg_excRecorded c e hl h3]

theorem State.byte_excSuspended {a : Nat} (code pc : Nat) (ha : a < mramBase) :
    (((s.excRecorded c.toNat e).excCounted c.toNat code pc).excSuspended c.toNat).byte a = s.byte a := by
  rw [State.byte_congr (State.regsOnly_mem (State.regsOnly_excSuspended _ c.toNat)),
    State.byte_congr (State.regsOnly_mem (State.regsOnly_excCounted _ c.toNat code pc))]
  exact (s.excRecorded_frame c.toNat e).2.2 a ha

/-- The fields of CML_EXC and CML_EXC_PC are not those of CML_TSTATc. -/
theorem State.excField_excSuspended (s : State) {x : Fld} (h : x.addr = R.CML_EXC ∨ x.addr = R.CML_EXC_PC) :
    (s.excSuspended c.toNat).f x = s.f x :=
  State.regsOnly_f (s.regsOnly_excSuspended c.toNat) x (by
    rcases h with h | h
    · simpa [h] using (tstat_ne_exc c.toNat).symm
    · simpa [h] using (tstat_ne_excPc c.toNat).symm)

theorem State.excField_excRecorded {x : Fld} (h : x.addr = R.CML_EXC ∨ x.addr = R.CML_EXC_PC) : (s.excRecorded c.toNat e).f x = s.f x := by
  rcases h with h | h
  · exact s.f_excRecorded c e (by rw [h]; rfl) (by rw [h]; exact (tstat_ne_exc _).symm)
  · exact s.f_excRecorded c e (by rw [h]; rfl) (by rw [h]; exact (tstat_ne_excPc _).symm)

end

/-- Settles O25: the exception records itself, latches where the latch is free, counts, and suspends. -/
theorem exceptionSuspendsTheTask : Obligations.ExceptionSuspendsTheTask := by
  unfold Obligations.ExceptionSuspendsTheTask
  intro s c e hcfg u
  let r := s.excRecorded c.toNat e
  let n := r.excCounted c.toNat e.code (s.pc c.toNat)
  have hu : u = n.excSuspended c.toNat := s.exception_eq c e hcfg
  have hvalid : r.f F.CML_EXC_VALID = s.f F.CML_EXC_VALID := s.excField_excRecorded c e (.inl rfl)
  obtain ⟨hsusp, hstate, hcause⟩ := n.f_excSuspended c.toNat
  rw [hu]
  refine ⟨?_, hsusp, hstate, ?_, ?_, fun h0 => ?_, fun h1 => ?_, fun a => s.byte_excSuspended c e _ _, fun a => s.reg_excSuspended c e _ _⟩
  · rw [hcause, State.regsOnly_f (r.regsOnly_excCounted _ _ _) _ (by simp [F.CML_TSTAT_EXC, tstat_ne_exc, tstat_ne_excPc])]
    exact s.cause_excRecorded c e
  · rw [n.excField_excSuspended c (.inl rfl)]
    refine (State.f_count_same _ _ _ (by decide) (by decide)).trans ?_
    rw [r.count_excLatched, s.excField_excRecorded c e (.inl rfl)]
    rfl
  · rw [n.excField_excSuspended c (.inl rfl), r.f_excCounted _ _ _ (.inr (.inl (by decide))), r.valid_excLatched]
  · obtain ⟨hctx, hcode, hpc⟩ := r.taken_excLatched c.toNat e.code (s.pc c.toNat) (hvalid.trans h0) c.isLt e.code_lt (s.pc_lt _)
    refine ⟨?_, ?_, ?_⟩
    · rw [n.excField_excSuspended c (.inl rfl), r.f_excCounted _ _ _ (.inr (.inr (by decide))), hctx]
    · rw [n.excField_excSuspended c (.inl rfl), r.f_excCounted _ _ _ (.inr (.inr (by decide))), hcode]
    · rw [n.excField_excSuspended c (.inr rfl), r.f_excCounted _ _ _ (.inl (by decide)), hpc]
  · have hkeep : n = r.count F.CML_EXC_COUNT := by
      show (r.excLatched _ _ _).count F.CML_EXC_COUNT = _
      rw [r.excLatched_valid _ _ _ (hvalid.trans h1)]
    have hfield : ∀ x : Fld, x.addr = R.CML_EXC → 15 < x.lo → (n.excSuspended c.toNat).f x = s.f x := fun x hx hlo => by
      rw [n.excField_excSuspended c (.inl hx), hkeep, State.count, State.f_put_apart _ _ (by decide) (.inr (.inr hlo)),
        s.excField_excRecorded c e (.inl hx)]
    refine ⟨hfield _ rfl (by decide), hfield _ rfl (by decide), ?_⟩
    · rw [(n.regsOnly_excSuspended c.toNat).2 _ (by simpa using (tstat_ne_excPc c.toNat).symm), hkeep, State.reg_count_other _ _ _ _ (by decide)]
      exact s.reg_excRecorded c e rfl (tstat_ne_excPc _).symm
end Sys2Proof.Machine
end

section
/-!
The end of a scan, and breakpoints (R181, R182, R186).
-/
namespace Sys2Proof.Machine

theorem State.regsOnly_cml {s t : State} {l : List Nat} (h : s.regsOnly t l) : t.cml = s.cml := by
  have hcml := congrArg State.cml h.1
  exact hcml

/-! ## The end of an activation -/

/-- CML_TSTATc shows an activation that `SCANEND` ended. -/
def State.doneShown (s : State) (c run : Nat) : State :=
  ((s.put (F.CML_TSTAT_STATE c) 0).put (F.CML_TSTAT_RUN_US c) (min 0xFFFF (run / 500))).put (F.CML_TSTAT_DONE c) 1

/-- The link stack is empty besides. -/
def State.idled (s : State) (c run : Nat) : State := (s.setDepth c 0).doneShown c run

/-- The activation of c, its block and its gates are gone. -/
def State.withoutAct (s : State) (c : Nat) : State :=
  { s with cml := { s.cml with acts := tdel s.cml.acts c, blocked := tdel s.cml.blocked c, gates := s.cml.gates.filter (·.2 ≠ c) } }

/-- A pending activation of c starts. -/
def State.takeHeld (s : State) (c : Nat) : State :=
  if s.cml.held.contains c then ({ s with cml := { s.cml with held := s.cml.held.filter (· ≠ c) } }).newAct c else s

/-- A task no open window waits for leaves none. -/
theorem State.leaveWindow_other (s : State) {c : Nat} (h1 : c ∉ s.cml.scanLeft) (h2 : c ∉ s.cml.settleLeft) : s.leaveWindow c = s := by
  have hc1 : ¬ s.cml.scanLeft.contains c = true := fun h => h1 (List.contains_iff_mem.mp h)
  have hc2 : ¬ s.cml.settleLeft.contains c = true := fun h => h2 (List.contains_iff_mem.mp h)
  unfold State.leaveWindow
  rw [if_neg hc1]
  exact if_neg hc2

/-- DEPTH depends on memory alone. -/
theorem State.depth_congr {s t : State} (h : t.mem = s.mem) (k : Nat) : t.depth k = s.depth k := by
  unfold State.depth
  rw [State.rd_congr _ _ fun b _ _ => State.byte_congr h b]

section
variable (s : State) (c : Ctx)

theorem State.regs_takeHeld (k : Nat) : (s.takeHeld k).regs = s.regs := by
  unfold State.takeHeld
  split <;> rfl

theorem State.mem_takeHeld (k : Nat) : (s.takeHeld k).mem = s.mem := by
  unfold State.takeHeld
  split <;> rfl

theorem State.takeHeld_free {k : Nat} (h : k ∉ s.cml.held) : s.takeHeld k = s := if_neg fun hc => h (List.contains_iff_mem.mp hc)

/-- A pending activation starts and is pending no longer. -/
theorem State.takeHeld_held {k : Nat} (h : k ∈ s.cml.held) : ((s.takeHeld k).act? k).isSome ∧ k ∉ (s.takeHeld k).cml.held := by
  have heq : s.takeHeld k = ({ s with cml := { s.cml with held := s.cml.held.filter (· ≠ k) } }).newAct k := if_pos (List.contains_iff_mem.mpr h)
  rw [heq]
  refine ⟨?_, fun hmem => ?_⟩
  · unfold State.newAct State.setAct State.act?
    simp
  · exact absurd rfl (of_decide_eq_true (List.mem_filter.mp hmem).2)

theorem State.act?_withoutAct (k : Nat) : (s.withoutAct k).act? k = none := tget?_tdel_same _ _

theorem State.regsOnly_doneShown (k run : Nat) : s.regsOnly (s.doneShown k run) [R.CML_TSTAT k] :=
  State.regsOnly_trans (State.regsOnly_trans (s.regsOnly_put _ (List.mem_cons_self ..)) (State.regsOnly_put _ _ (List.mem_cons_self ..)))
    (State.regsOnly_put _ _ (List.mem_cons_self ..))

theorem State.f_doneShown (k run : Nat) :
    (s.doneShown k run).f (F.CML_TSTAT_STATE k) = 0 ∧ (s.doneShown k run).f (F.CML_TSTAT_DONE k) = 1 ∧
      (s.doneShown k run).f (F.CML_TSTAT_RUN_US k) = min 0xFFFF (run / 500) := by
  unfold State.doneShown
  refine ⟨?_, ?_, ?_⟩
  · rw [State.f_put_bits _ _ _ _ (show 7 ≤ 7 by decide) (.inl (show 2 < 7 by decide)),
      State.f_put_bits _ _ _ _ (show 16 ≤ 31 by decide) (.inl (show 2 < 16 by decide)),
      State.f_put_same _ _ _ (show 0 ≤ 2 by decide) (show 2 < 32 by decide)]
    rfl
  · rw [State.f_put_same _ _ _ (show 7 ≤ 7 by decide) (show 7 < 32 by decide)]
    rfl
  · rw [State.f_put_bits _ _ _ _ (show 7 ≤ 7 by decide) (.inr (show 7 < 16 by decide)),
      State.f_put_same _ _ _ (show 16 ≤ 31 by decide) (show 31 < 32 by decide)]
    exact Nat.mod_eq_of_lt (lt_of_le_of_lt (min_le_left _ _) (show 0xFFFF < 2 ^ 16 by decide))

theorem State.mem_idled (k run : Nat) : (s.idled k run).mem = (s.setDepth k 0).mem := State.regsOnly_mem (State.regsOnly_doneShown _ k run)

theorem State.onlyMem_setDepth (k d : Nat) : s.onlyMem (s.setDepth k d) := by
  unfold State.setDepth
  exact s.onlyMem_wr _ _ _

theorem State.cml_idled (k run : Nat) : (s.idled k run).cml = s.cml := by
  unfold State.idled
  rw [State.regsOnly_cml (State.regsOnly_doneShown _ k run), State.onlyMem_cml (s.onlyMem_setDepth k 0)]

theorem State.reg_idled {k run r : Nat} (h : r ≠ R.CML_TSTAT k) : (s.idled k run).reg r = s.reg r := by
  unfold State.idled
  rw [(State.regsOnly_doneShown _ k run).2 r (by simpa using h), State.reg_congr (State.onlyMem_regs (s.onlyMem_setDepth k 0))]

theorem State.depth_idled (run : Nat) : (s.idled c.toNat run).depth c.toNat = 0 :=
  (State.depth_congr (s.mem_idled _ run) _).trans (State.depth_setDepth _ _ _ c.isLt (by decide))

theorem State.byte_idled {k run b : Nat} (h : outside (slot k + 0x214) 4 b) : (s.idled k run).byte b = s.byte b := by
  rw [State.byte_congr (s.mem_idled k run)]
  unfold State.setDepth
  exact s.byte_wr_other _ _ _ b h

end

theorem State.regs_withoutAct (s : State) (k : Nat) : (s.withoutAct k).regs = s.regs := rfl
theorem State.mem_withoutAct (s : State) (k : Nat) : (s.withoutAct k).mem = s.mem := rfl

theorem State.windows_withoutAct (s : State) (k : Nat) :
    (s.withoutAct k).cml.scanLeft = s.cml.scanLeft ∧ (s.withoutAct k).cml.settleLeft = s.cml.settleLeft ∧
      (s.withoutAct k).cml.held = s.cml.held := ⟨rfl, rfl, rfl⟩

theorem State.endAct_some (s : State) {c : Nat} {x : Act} (hx : s.act? c = some x) :
    s.endAct c true = (((s.idled c x.run).withoutAct c).leaveWindow c).takeHeld c := by
  unfold State.endAct State.takeHeld State.withoutAct State.idled State.doneShown
  rw [hx]
  generalize s.setDepth c 0 = u
  rfl

theorem State.endAct_done (s : State) {c : Nat} {x : Act} (hx : s.act? c = some x) (h1 : c ∉ s.cml.scanLeft) (h2 : c ∉ s.cml.settleLeft) :
    s.endAct c true = ((s.idled c x.run).withoutAct c).takeHeld c := by
  obtain ⟨hscan, hsettle, -⟩ := (s.idled c x.run).windows_withoutAct c
  rw [s.endAct_some hx, State.leaveWindow_other _ (by rwa [hscan, s.cml_idled]) (by rwa [hsettle, s.cml_idled])]

section
variable {s : State} {c : Ctx} {fa fb : RegNo} {idx : Half}

theorem exec_scanend (hf : s.canFetch c) : exec (.scanend c fa fb idx) s = .next ((s.bodyState c.toNat).endAct c.toNat true).sched := by
  have hi : exec (.scanend c fa fb idx) s = .next (s.run c.toNat fun s => .ok (s.endAct c.toNat true).sched) := rfl
  exact exec_of_body hf hi rfl

theorem State.cml_bodyState_windows (s : State) (c : Nat) :
    (s.bodyState c).cml.scanLeft = s.cml.scanLeft ∧ (s.bodyState c).cml.settleLeft = s.cml.settleLeft ∧
      (s.bodyState c).cml.held = s.cml.held := by
  rw [State.onlyMem_cml (s.onlyMem_bodyState c)]
  unfold State.modAct
  split <;> exact ⟨rfl, rfl, rfl⟩

theorem scanend_spec {x : Act} (hf : s.canFetch c) (hx : s.act? c.toNat = some x) (h1 : c.toNat ∉ s.cml.scanLeft)
    (h2 : c.toNat ∉ s.cml.settleLeft) :
    ∃ u : State, exec (.scanend c fa fb idx) s = .next u.sched ∧ u.f (F.CML_TSTAT_STATE c.toNat) = 0 ∧ u.f (F.CML_TSTAT_DONE c.toNat) = 1 ∧
      u.f (F.CML_TSTAT_RUN_US c.toNat) = min 0xFFFF (x.run / 500) ∧ u.depth c.toNat = 0 ∧
      (c.toNat ∉ s.cml.held → u.act? c.toNat = none) ∧ (c.toNat ∈ s.cml.held → (u.act? c.toNat).isSome ∧ c.toNat ∉ u.cml.held) ∧
      (∀ a, offPc c a → outside (slot c.toNat + 0x214) 4 a → u.byte a = s.byte a) ∧
      ∀ r, r ≠ R.CML_TSTAT c.toNat → u.reg r = s.reg r := by
  let b := s.bodyState c.toNat
  let v := (b.idled c.toNat x.run).withoutAct c.toNat
  obtain ⟨hscan, hsettle, hheld⟩ := s.cml_bodyState_windows c.toNat
  have hact : b.act? c.toNat = some { x with skip := false } := by rw [s.act?_bodyState c, hx]; rfl
  have hv : v.cml.held = s.cml.held := by
    obtain ⟨-, -, hkeep⟩ := (b.idled c.toNat x.run).windows_withoutAct c.toNat
    rw [hkeep, b.cml_idled, hheld]
  have hend : b.endAct c.toNat true = v.takeHeld c.toNat :=
    b.endAct_done (x := { x with skip := false }) hact (by rw [hscan]; exact h1) (by rw [hsettle]; exact h2)
  have hregs : (v.takeHeld c.toNat).regs = (b.idled c.toNat x.run).regs := (v.regs_takeHeld c.toNat).trans (State.regs_withoutAct _ _)
  have hmem : (v.takeHeld c.toNat).mem = (b.idled c.toNat x.run).mem := (v.mem_takeHeld c.toNat).trans (State.mem_withoutAct _ _)
  have hreg : ∀ r, (v.takeHeld c.toNat).reg r = (b.idled c.toNat x.run).reg r := fun r => State.reg_congr hregs r
  obtain ⟨hstate, hdone, hrun⟩ := (b.setDepth c.toNat 0).f_doneShown c.toNat x.run
  refine ⟨v.takeHeld c.toNat, (exec_scanend hf).trans (by rw [← hend]), ?_, ?_, ?_, ?_, fun h => ?_, fun h => ?_,
    fun a hpc ha => ?_, fun r hr => ?_⟩
  · exact (State.f_congr _ (hreg _)).trans hstate
  · exact (State.f_congr _ (hreg _)).trans hdone
  · exact (State.f_congr _ (hreg _)).trans hrun
  · exact (State.depth_congr hmem _).trans (b.depth_idled c x.run)
  · rw [v.takeHeld_free (by rwa [hv])]
    exact State.act?_withoutAct _ _
  · exact v.takeHeld_held (by rwa [hv])
  · rw [State.byte_congr hmem, b.byte_idled ha, s.byte_bodyState _ a hpc]
  · rw [hreg, b.reg_idled hr]
    exact State.reg_congr (s.regs_bodyState _) r

/-! ## Suspension before an instruction -/

/-- A context in Hold with an activation that was not just resumed, and that is not suspended yet. -/
theorem State.breaks_of_hold (hm : s.mode = .hold) (hc : c ≠ 255) (hx : ∃ x, s.act? c.toNat = some x ∧ x.skip = false)
    (hs : s.suspended c.toNat = false) : s.breaks c.toNat = true := by
  obtain ⟨x, hact, hskip⟩ := hx
  have hne : c.toNat ≠ 255 := fun h => hc (BitVec.eq_of_toNat_eq h)
  unfold State.breaks
  rw [hact, hs, decide_eq_true ⟨hm, hne⟩]
  simp [hskip]

theorem State.breaks_only_in_hold (h : s.mode ≠ .hold) (k : Nat) : s.breaks k = false := by
  unfold State.breaks
  rw [decide_eq_false fun hc => h hc.1]
  rfl

theorem suspendsAt_of_breakAt {i : Instr} (h : exec i s = .next (s.breakAt c.toNat)) : suspendsAt i s c :=
  ⟨_, h, s.f_put_same _ _ (show 0 ≤ 2 by decide) (show 2 < 32 by decide), rfl, rfl, fun _ hr => s.reg_put_other _ _ _ hr⟩

theorem State.fetchExc_none (hf : s.canFetch c) : s.fetchExc c.toNat = none := by
  obtain ⟨hal, hle⟩ := hf
  unfold State.fetchExc
  rw [if_neg (not_not_intro hal), if_neg (Nat.not_lt.mpr hle)]

theorem exec_brk (hf : s.canFetch c) :
    exec (.brk c fa fb idx) s = .next (if s.breaks c.toNat then s.breakAt c.toNat else s.run c.toNat .ok) := by
  show Host.Outcome.next (if (s.fetchExc c.toNat).isNone && s.breaks c.toNat then s.breakAt c.toNat else s.run c.toNat .ok) = _
  rw [State.fetchExc_none hf]
  rfl

theorem brk_setsPc (hf : s.canFetch c) (h : s.breaks c.toNat = false) : setsPc (.brk c fa fb idx) s c (s.pc c.toNat + 4) :=
  setsPc_of_ok hf ((exec_brk hf).trans (by rw [h]; rfl)) rfl

theorem brk_suspends (hf : s.canFetch c) (h : s.breaks c.toNat = true) : suspendsAt (.brk c fa fb idx) s c :=
  suspendsAt_of_breakAt ((exec_brk hf).trans (by rw [h]; rfl))

theorem State.breakpointHits_iff {k n : Nat} : s.breakpointHits k n = true ↔
    s.f (F.CML_BP_EN n) ≠ 0 ∧ s.f (F.CML_BP_PC n) / 4 * 4 = s.pc k ∧ (s.f (F.CML_BP_CTX n) = 255 ∨ s.f (F.CML_BP_CTX n) = k) := by
  unfold State.breakpointHits State.b
  simp [and_assoc]

theorem breakpointHit_suspends (h : s.breaks c.toNat = true)
    (hbp : ∃ n, n < 8 ∧ s.f (F.CML_BP_EN n) = 1 ∧ s.f (F.CML_BP_PC n) / 4 * 4 = s.pc c.toNat ∧
      (s.f (F.CML_BP_CTX n) = 255 ∨ s.f (F.CML_BP_CTX n) = c.toNat)) : suspendsAt (.breakpointHit c) s c := by
  obtain ⟨n, hn, hen, hpc, hctx⟩ := hbp
  have hhit : s.breakpointHits c.toNat n = true := State.breakpointHits_iff.mpr ⟨by rw [hen]; decide, hpc, hctx⟩
  have hany : (List.range 8).any (s.breakpointHits c.toNat) = true := List.any_eq_true.mpr ⟨n, List.mem_range.mpr hn, hhit⟩
  refine suspendsAt_of_breakAt ?_
  show Host.Outcome.next (if s.breaks c.toNat && (List.range 8).any (s.breakpointHits c.toNat) then s.breakAt c.toNat else s) = _
  rw [h, hany]
  rfl

theorem breakpointHit_idle (h : s.breaks c.toNat = false) : exec (.breakpointHit c) s = .next s := by
  show Host.Outcome.next (if s.breaks c.toNat && (List.range 8).any (s.breakpointHits c.toNat) then s.breakAt c.toNat else s) = _
  rw [h]
  rfl

end

/-- Settles O28: SCANEND ends the activation or starts the pending one, and both kinds of breakpoint suspend under one condition. -/
theorem scanEndAndBreakpoints : Obligations.ScanEndAndBreakpoints := by
  unfold Obligations.ScanEndAndBreakpoints
  refine ⟨⟨fun s c fa fb idx x => scanend_spec, fun s c fa fb idx hf => ⟨?_, brk_setsPc hf, fun hm hc hx hs => ?_⟩,
    fun s c => ⟨fun hm hc hx hs => ?_, fun hm => ?_⟩⟩,
    fun s => ⟨fun _ _ _ _ => exec_answers _ s, fun _ _ _ _ => exec_answers _ s, fun _ => exec_answers _ s⟩⟩
  · rw [← s.bodyState_eq_running]
    exact exec_scanend hf
  · exact brk_suspends hf (State.breaks_of_hold hm hc hx hs)
  · exact breakpointHit_suspends (State.breaks_of_hold hm hc hx hs)
  · exact breakpointHit_idle (State.breaks_only_in_hold hm _)
end Sys2Proof.Machine
end

section
/-!
Triggers, debug writes and the release of a suspended task (R177, R178, R182, R185 to R187).
-/
namespace Sys2Proof.Machine

/-! ## CML_TRIG and CML_DBG -/

section
variable (s : State) (m : Master) (v : Word)

theorem State.trigWrite_soft (h : s.softTask (bitsOf v 7 0) = true) : s.trigWrite m v = (s.activate (bitsOf v 7 0)).sched := if_pos h

theorem State.trigWrite_other (h : s.softTask (bitsOf v 7 0) = false) : s.trigWrite m v = s.recordWrite m R.CML_TRIG v :=
  if_neg (by rw [h]; decide)

/-- A free context without an activation takes a new one with the settings in force. -/
theorem State.activate_idle {c : Nat} (hm : s.mode ≠ .stop) (hs : s.b (F.CML_TSTAT_SUSP c) = false) (hb : s.atBreak c = false)
    (hg : s.b F.REC_STATUS_AFTERGLOW = false) (hx : s.act? c = none) (hw : s.prg.swapping = false) : s.activate c = s.newAct c := by
  unfold State.activate
  rw [if_neg (by simp [hm, hs, hb, hg]), hx, hw]

theorem State.act?_newAct (c : Nat) :
    (s.newAct c).act? c = some { cfg := s.tcfg c, per := s.eff (R.CML_TPER c), ent := s.eff (R.CML_TENT c), wait := .after } :=
  tget?_tput_same _ _ _

theorem State.dbgResume_atBreak {c : Nat} (h : s.atBreak c = true) :
    s.dbgResume c = ((s.put (F.CML_TSTAT_STATE c) 1).modAct c ({ · with skip := true })).sched := if_pos h

theorem State.dbgResume_other {c : Nat} (h : s.atBreak c = false) : s.dbgResume c = s := if_neg (by rw [h]; decide)

/-! ## STEP -/

/-- The word that CML_DBG takes with RESUME 0 and STEP 1. -/
theorem stepWord_spec :
    (withBits v 31 30 1).getLsbD 31 = false ∧ (withBits v 31 30 1).getLsbD 30 = true ∧ bitsOf (withBits v 31 30 1) 7 0 = bitsOf v 7 0 := by
  refine ⟨?_, ?_, bitsOf_withBits_other _ _ _ _ _ _ (by decide) (by decide)⟩
  · rw [getLsbD_withBits _ _ _ _ _ (by decide)]
    rfl
  · rw [getLsbD_withBits _ _ _ _ _ (by decide)]
    rfl

/-- No part of CML_DBG is ever fused off. -/
theorem State.fusedBits_dbg : s.fusedBits R.CML_DBG = 0 := by
  unfold State.fusedBits
  rw [if_neg fun h => absurd h.1 (by decide), if_neg fun h => absurd h.2.1 (by decide), if_neg fun h => absurd h.2 (by decide),
    if_neg fun h => absurd h.2 (by decide), if_neg fun h => absurd h.1 (by decide)]
  exact if_neg fun h => by
    have hlow := h.1
    unfold R.SHD_SCEN R.CML_DBG at hlow
    omega

/-- A write of CML_DBG reaches its register whole. -/
theorem State.busWrite_dbg : s.busWrite m R.CML_DBG v = s.dbgWrite v := by
  have hblock : s.blockWrite m R.CML_DBG v = s.dbgWrite v := by
    unfold State.blockWrite
    rw [s.fusedBits_dbg]
    refine (if_neg (by decide)).trans ?_
    have hword : ((v &&& ~~~(0 : Word)) ||| (s.reg R.CML_DBG &&& 0)) = v := by
      refine (congrArg ((v &&& ~~~0) ||| ·) BitVec.and_zero).trans (BitVec.or_zero.trans ?_)
      exact BitVec.and_allOnes
    rw [hword]
    rfl
  unfold State.busWrite
  rw [if_neg (by decide), if_pos (by decide), if_neg (by decide), hblock]

theorem State.dbgWrite_step : s.dbgWrite (withBits v 31 30 1) =
    if s.atBreak (bitsOf v 7 0) then { s with cml := { s.cml with steps := s.cml.steps ++ [bitsOf v 7 0] } } else s := by
  obtain ⟨hresume, hstep, hctx⟩ := stepWord_spec v
  unfold State.dbgWrite
  rw [hresume, hstep, hctx]
  by_cases h : s.atBreak (bitsOf v 7 0) = true
  · rw [if_neg (by decide), if_pos ⟨rfl, h⟩, if_pos h]
  · rw [if_neg (by decide), if_neg fun hc => h hc.2, if_neg h]

/-- One step is the whole of the list. -/
theorem State.drainSteps_one {c : Nat} (n : Nat) :
    ({ s.noSteps with cml := { s.noSteps.cml with steps := s.noSteps.cml.steps ++ [c] } } : State).drainSteps (n + 1) =
      (s.noSteps.stepContext c).drainSteps n := rfl

theorem exec_cmlDbgStep : exec (.cmlDbgStep m v) s =
    .next ((if s.atBreak (bitsOf v 7 0) then
      ({ s.noSteps with cml := { s.noSteps.cml with steps := s.noSteps.cml.steps ++ [bitsOf v 7 0] } } : State) else s.noSteps).drainSteps 256) := by
  have hwrite := (s.noSteps.busWrite_dbg m (withBits v 31 30 1)).trans (s.noSteps.dbgWrite_step v)
  exact congrArg (fun u : State => Host.Outcome.next (u.drainSteps 256)) hwrite

theorem cmlDbgStep_atBreak (h : s.atBreak (bitsOf v 7 0) = true) :
    exec (.cmlDbgStep m v) s = .next ((s.noSteps.stepContext (bitsOf v 7 0)).drainSteps 255) := by
  rw [exec_cmlDbgStep, if_pos h, s.drainSteps_one 255]

theorem cmlDbgStep_other (h : s.atBreak (bitsOf v 7 0) = false) : exec (.cmlDbgStep m v) s = .next s.noSteps := by
  rw [exec_cmlDbgStep, h, if_neg (by decide), State.drainSteps_nil 255 rfl]

/-! ## CML_EXC -/

/-- CML_EXC is free again. -/
def State.excCleared (s : State) : State := ((s.put F.CML_EXC_VALID 0).put F.CML_EXC_COUNT 0).setReg R.CML_EXC_PC 0

theorem exec_excValidClear : exec (.excValidClear m v) s = .next s.excCleared := by
  have hbit : (v ||| 1).getLsbD 0 = true := by simp
  exact congrArg Host.Outcome.next (if_pos hbit)

theorem State.regsOnly_excCleared : s.regsOnly s.excCleared [R.CML_EXC, R.CML_EXC_PC] :=
  State.regsOnly_trans (State.regsOnly_trans (s.regsOnly_put _ (List.mem_cons_self ..)) (State.regsOnly_put _ _ (List.mem_cons_self ..)))
    (State.regsOnly_setReg _ _ (List.mem_cons_of_mem _ (List.mem_cons_self ..)))

/-- CML_EXC after the write, field by field. -/
theorem State.f_excCleared : s.excCleared.f F.CML_EXC_VALID = 0 ∧ s.excCleared.f F.CML_EXC_COUNT = 0 ∧
    s.excCleared.f F.CML_EXC_CTX = s.f F.CML_EXC_CTX ∧ s.excCleared.f F.CML_EXC_CAUSE = s.f F.CML_EXC_CAUSE := by
  have hpc : ∀ x : Fld, x.addr = R.CML_EXC → s.excCleared.f x = ((s.put F.CML_EXC_VALID 0).put F.CML_EXC_COUNT 0).f x := fun x hx =>
    State.f_congr x (State.reg_setReg_other _ _ _ _ (by rw [hx]; decide))
  refine ⟨?_, ?_, ?_, ?_⟩
  · rw [hpc _ rfl, State.f_put_apart _ _ (by decide) (by decide), State.f_put_same _ _ _ (by decide) (by decide)]
    rfl
  · rw [hpc _ rfl, State.f_put_same _ _ _ (by decide) (by decide)]
    rfl
  · rw [hpc _ rfl, State.f_put_apart _ _ (by decide) (by decide), State.f_put_apart _ _ (by decide) (by decide)]
  · rw [hpc _ rfl, State.f_put_apart _ _ (by decide) (by decide), State.f_put_apart _ _ (by decide) (by decide)]

theorem excValidClear_spec : ∃ t, exec (.excValidClear m v) s = .next t ∧ t.f F.CML_EXC_VALID = 0 ∧ t.f F.CML_EXC_COUNT = 0 ∧
    t.reg R.CML_EXC_PC = 0 ∧ t.f F.CML_EXC_CTX = s.f F.CML_EXC_CTX ∧ t.f F.CML_EXC_CAUSE = s.f F.CML_EXC_CAUSE ∧
    (∀ r, r ≠ R.CML_EXC → r ≠ R.CML_EXC_PC → t.reg r = s.reg r) ∧ ({ t with regs := s.regs } : State) = s := by
  obtain ⟨hvalid, hcount, hctx, hcause⟩ := s.f_excCleared
  obtain ⟨hrest, hregs⟩ := s.regsOnly_excCleared
  exact ⟨s.excCleared, exec_excValidClear s m v, hvalid, hcount, State.reg_setReg_same _ _ _, hctx, hcause,
    fun r h1 h2 => hregs r (by simp [h1, h2]),
    hrest⟩

end

/-! ## The release of a suspended task -/

/-- CML_TSTATc of a released task. -/
def State.releaseShown (s : State) (c run : Nat) : State :=
  ((s.put (F.CML_TSTAT_SUSP c) 0).put (F.CML_TSTAT_RUN_US c) (min 0xFFFF (run / 500))).put (F.CML_TSTAT_STATE c) 0

/-- Its activation is over. -/
def State.dropAct (s : State) (c : Nat) : State := { s with cml := { s.cml with acts := tdel s.cml.acts c } }

section
variable (s : State) (c : Nat)

theorem State.regs_dropAct : (s.dropAct c).regs = s.regs := rfl
theorem State.mem_dropAct : (s.dropAct c).mem = s.mem := rfl
theorem State.held_dropAct : (s.dropAct c).cml.held = s.cml.held := rfl
theorem State.act?_dropAct : (s.dropAct c).act? c = none := tget?_tdel_same _ _

theorem State.regsOnly_releaseShown (run : Nat) : s.regsOnly (s.releaseShown c run) [R.CML_TSTAT c] :=
  State.regsOnly_trans (State.regsOnly_trans (s.regsOnly_put _ (List.mem_cons_self ..)) (State.regsOnly_put _ _ (List.mem_cons_self ..)))
    (State.regsOnly_put _ _ (List.mem_cons_self ..))

theorem State.f_releaseShown (run : Nat) :
    (s.releaseShown c run).f (F.CML_TSTAT_SUSP c) = 0 ∧ (s.releaseShown c run).f (F.CML_TSTAT_STATE c) = 0 := by
  unfold State.releaseShown
  refine ⟨?_, ?_⟩
  · rw [State.f_put_bits _ _ _ _ (show 0 ≤ 2 by decide) (.inr (show 2 < 5 by decide)),
      State.f_put_bits _ _ _ _ (show 16 ≤ 31 by decide) (.inl (show 5 < 16 by decide)),
      State.f_put_same _ _ _ (show 5 ≤ 5 by decide) (show 5 < 32 by decide)]
    rfl
  · rw [State.f_put_same _ _ _ (show 0 ≤ 2 by decide) (show 2 < 32 by decide)]
    rfl

theorem State.sched_takeHeld (s : State) (c : Nat) :
    (if s.cml.held.contains c = true then (({ s with cml := { s.cml with held := s.cml.held.filter (· ≠ c) } }).newAct c).sched else s.sched) =
      (s.takeHeld c).sched := (apply_ite State.sched _ _ _).symm

/-- The end of a release, as the model writes it, where p shows what it shows and leaves the scheduler as it was. -/
theorem State.release_eq (p : State → State) (u : State) (c : Nat) (h : (p u).cml = u.cml) :
    (have s := u
      have s : State := { p s with cml := { s.cml with acts := tdel s.cml.acts c } }
      if s.cml.held.contains c = true then (({ s with cml := { s.cml with held := s.cml.held.filter (· ≠ c) } }).newAct c).sched else s.sched) =
      (((p u).dropAct c).takeHeld c).sched := by
  dsimp only
  rw [← h]
  exact ((p u).dropAct c).sched_takeHeld c

theorem State.suspRelease_suspended (hb : s.b (F.CML_TSTAT_SUSP c) = true) (h5 : s.f (F.CML_TSTAT_STATE c) = 5) :
    s.suspRelease c = (((s.releaseShown c ((s.act? c).elim 0 Act.run)).dropAct c).takeHeld c).sched := by
  have hstate : (s.put (F.CML_TSTAT_SUSP c) 0).f (F.CML_TSTAT_STATE c) = 5 := by
    rw [State.f_put_bits _ _ _ _ (show 5 ≤ 5 by decide) (.inl (show 2 < 5 by decide)), h5]
  have hact : (s.put (F.CML_TSTAT_SUSP c) 0).act? c = s.act? c := rfl
  unfold State.suspRelease State.releaseShown
  rw [if_pos hb, if_pos hstate, hact]
  generalize (s.put (F.CML_TSTAT_SUSP c) 0).put (F.CML_TSTAT_RUN_US c) (min 0xFFFF ((s.act? c).elim 0 Act.run / 500)) = u
  exact State.release_eq (·.put (F.CML_TSTAT_STATE c) 0) u c (State.regsOnly_cml (l := [R.CML_TSTAT c]) (u.regsOnly_put 0 (List.mem_cons_self ..)))

theorem State.tstatWrite_release {v : Word} (h : v.getLsbD 6 = false) : s.tstatWrite c (v ||| 32) = s.suspRelease c := by
  have h6 : (v ||| 32).getLsbD 6 = false := by rw [BitVec.getLsbD_or, h]; rfl
  have h5 : (v ||| 32).getLsbD 5 = true := by rw [BitVec.getLsbD_or]; simp
  unfold State.tstatWrite
  rw [h6, h5]
  rfl

end

theorem suspRelease_spec (s : State) (m : Master) (v : Word) (k : Ctx) (hb : s.b (F.CML_TSTAT_SUSP k.toNat) = true)
    (h5 : s.f (F.CML_TSTAT_STATE k.toNat) = 5) (hv : v.getLsbD 6 = false) :
    ∃ u : State, exec (.suspRelease m k v) s = .next u.sched ∧ u.f (F.CML_TSTAT_SUSP k.toNat) = 0 ∧ u.f (F.CML_TSTAT_STATE k.toNat) = 0 ∧
      (k.toNat ∉ s.cml.held → u.act? k.toNat = none) ∧ u.mem = s.mem ∧ ∀ r, r ≠ R.CML_TSTAT k.toNat → u.reg r = s.reg r := by
  have hexec : exec (.suspRelease m k v) s =
      .next (((s.releaseShown k.toNat ((s.act? k.toNat).elim 0 Act.run)).dropAct k.toNat).takeHeld k.toNat).sched := by
    rw [← State.suspRelease_suspended _ _ hb h5, ← s.tstatWrite_release k.toNat hv]
    rfl
  have hw := s.regsOnly_releaseShown k.toNat ((s.act? k.toNat).elim 0 Act.run)
  obtain ⟨hsusp, hstate⟩ := s.f_releaseShown k.toNat ((s.act? k.toNat).elim 0 Act.run)
  generalize s.releaseShown k.toNat ((s.act? k.toNat).elim 0 Act.run) = w at hexec hw hsusp hstate
  have hreg : ∀ r, ((w.dropAct k.toNat).takeHeld k.toNat).reg r = w.reg r :=
    State.reg_congr (((w.dropAct k.toNat).regs_takeHeld k.toNat).trans (w.regs_dropAct k.toNat))
  refine ⟨_, hexec, (State.f_congr _ (hreg _)).trans hsusp, (State.f_congr _ (hreg _)).trans hstate, fun h => ?_,
    ((w.dropAct k.toNat).mem_takeHeld k.toNat).trans ((w.mem_dropAct k.toNat).trans (State.regsOnly_mem hw)),
    fun r hr => (hreg r).trans (hw.2 r (by simpa using hr))⟩
  rw [State.takeHeld_free _ (by rwa [w.held_dropAct, State.regsOnly_cml hw])]
  exact w.act?_dropAct k.toNat

/-- Settles O29: each write does what its function does under its condition; a step is the one entry of an empty list. -/
theorem triggersAndDebugWrites : Obligations.TriggersAndDebugWrites := by
  unfold Obligations.TriggersAndDebugWrites
  refine ⟨fun s m v => ?_, fun s => ⟨fun _ _ _ => rfl, fun _ _ => rfl, fun _ _ => rfl, fun _ _ => rfl, fun _ _ => rfl⟩⟩
  refine ⟨fun h => congrArg Host.Outcome.next (s.trigWrite_soft m v h), fun _ hm hs hb hg hx hw => ?_, fun h => ⟨_, rfl, ?_⟩,
    fun h => congrArg Host.Outcome.next (s.dbgResume_atBreak h), fun h => congrArg Host.Outcome.next (s.dbgResume_other h),
    cmlDbgStep_atBreak s m v, cmlDbgStep_other s m v, excValidClear_spec s m v, suspRelease_spec s m v⟩
  · rw [s.activate_idle hm hs hb hg hx hw]
    exact s.act?_newAct _
  · rw [s.trigWrite_other m v h]
    exact s.logFrame_recordWrite _ _ _ _
end Sys2Proof.Machine
end

section
/-!
Solver instructions (R159, R173, R244).
-/
namespace Sys2Proof.Machine

/-! ## What the body sees of the array -/

section
variable (s : State) (n : Nat) (g : Act → Act)

theorem State.azs_modAct : (s.modAct n g).azs = s.azs := by
  unfold State.modAct; split <;> rfl

theorem State.tick_modAct : (s.modAct n g).tick = s.tick := by
  unfold State.modAct; split <;> rfl

theorem State.freeCtr_modAct : (s.modAct n g).freeCtr = s.freeCtr := by
  unfold State.modAct; split <;> rfl

theorem State.marksOf_modAct : (s.modAct n g).cml.dirty = s.cml.dirty ∧ (s.modAct n g).cml.relevant = s.cml.relevant := by
  unfold State.modAct; split <;> exact ⟨rfl, rfl⟩

end

section
variable (s : State) (c : Ctx)

theorem State.azs_bodyState : (s.bodyState c.toNat).azs = s.azs := (State.onlyMem_azs (s.onlyMem_bodyState c.toNat)).trans (s.azs_modAct _ _)

theorem State.tick_bodyState : (s.bodyState c.toNat).tick = s.tick := (State.onlyMem_tick (s.onlyMem_bodyState c.toNat)).trans (s.tick_modAct _ _)

theorem State.freeCtr_bodyState : (s.bodyState c.toNat).freeCtr = s.freeCtr :=
  (State.onlyMem_freeCtr (s.onlyMem_bodyState c.toNat)).trans (s.freeCtr_modAct _ _)

theorem State.periodUs_bodyState : (s.bodyState c.toNat).periodUs = s.periodUs := congrArg (1000 * ·) (s.periodMs_bodyState c)

/-- Problem memory lies above the context store. -/
theorem State.byte_bodyState_above {b : Nat} (h : probBase ≤ b) : (s.bodyState c.toNat).byte b = s.byte b := by
  have hc : c.toNat < 256 := c.isLt
  refine s.byte_bodyState _ b (.inr ?_)
  unfold probBase at h
  unfold slot ctxBase
  omega

theorem State.rd_bodyState_above {a m : Nat} (h : probBase ≤ a) : (s.bodyState c.toNat).rd a m = s.rd a m :=
  State.rd_congr a m fun _ hb _ => s.byte_bodyState_above c (h.trans hb)

theorem AzsDesc.le_recAt (d : AzsDesc) (i : Nat) : probBase ≤ d.recAt i := by unfold AzsDesc.recAt; omega

theorem State.curRec_bodyState (d : AzsDesc) : (s.bodyState c.toNat).curRec d = s.curRec d := by
  unfold State.curRec
  rw [s.rd_bodyState_above c ((d.le_recAt 0).trans (Nat.le_add_right _ _)), s.rd_bodyState_above c ((d.le_recAt 1).trans (Nat.le_add_right _ _))]

theorem State.recStatus_bodyState (d : AzsDesc) : (s.bodyState c.toNat).recStatus d = s.recStatus d := by
  unfold State.recStatus
  rw [s.curRec_bodyState, s.rd_bodyState_above c (d.le_recAt _)]

theorem State.admitted_bodyState (n : Int) : (s.bodyState c.toNat).admitted n = s.admitted n := by
  unfold State.admitted
  rw [s.azs_bodyState]

end

section
variable (s : State) {n : Int}

theorem State.admitted_negative (h : n < 0) : s.admitted n = none := if_pos h

theorem State.admitted_none (h0 : 0 ≤ n) (h : tget? s.azs.table n.toNat = none) : s.admitted n = none := by
  unfold State.admitted
  rw [if_neg (by omega), h]
  rfl

theorem State.admitted_some {d : AzsDesc} (h0 : 0 ≤ n) (h : tget? s.azs.table n.toNat = some d) : s.admitted n = some (n.toNat, d) := by
  unfold State.admitted
  rw [if_neg (by omega), h]
  rfl

end

/-! ## Staging -/

/-- The staging reaches the array before this tick's Solve edge; the residue of the batch it is for; and whether it waits apart. -/
def State.slvNow (s : State) : Bool :=
  decide (s.f F.TICK_PHASE_PHASE ≤ 1) && decide (s.tick.cycles + 2 + (s.draw 3).1 < 500 * (2 * s.periodUs / 10))
def State.slvResidue (s : State) : Nat := if s.slvNow then s.tickNo % 8 else (s.tickNo + 1) % 8
def State.slvApart (s : State) : Bool := !s.slvNow && decide (s.f F.TICK_PHASE_PHASE ≤ 1)

/-- The state with other stagings, after the draw of a crossing. -/
def State.withStaging (s : State) (staged after : List Nat) : State :=
  { s with freeCtr := s.freeCtr + 1, azs := { s.azs with staged := staged, after := after } }

theorem State.mem_withStaging (s : State) (staged after : List Nat) : (s.withStaging staged after).mem = s.mem := rfl

section
variable (s : State) (q : Nat) (d : AzsDesc)

theorem State.stage_eq : s.stage q d =
    if d.slice / 2 ^ s.slvResidue % 2 = 0 then (2, s.withStaging s.azs.staged s.azs.after)
    else if (if s.slvApart then s.azs.after else s.azs.staged).contains q then (3, s.withStaging s.azs.staged s.azs.after)
    else if s.slvApart then (1, s.withStaging s.azs.staged (addTo s.azs.after q))
    else (if s.slvNow then 0 else 1, s.withStaging (addTo s.azs.staged q) s.azs.after) := rfl

/-- A problem is staged in its one list, where the batch runs it. -/
theorem State.stage_spec : ∃ v staged after, s.stage q d = (v, s.withStaging staged after) ∧
    BitVec.ofNat 64 v = (if ¬d.slice / 2 ^ s.slvResidue % 2 = 1 then 2
      else if q ∈ (if s.slvApart then s.azs.after else s.azs.staged) then 3 else if s.slvNow then 0 else 1 : Dword) ∧
    (∀ p, p ∈ staged ↔ p ∈ s.azs.staged ∨ (d.slice / 2 ^ s.slvResidue % 2 = 1 ∧ s.slvApart = false ∧ p = q)) ∧
    (∀ p, p ∈ after ↔ p ∈ s.azs.after ∨ (d.slice / 2 ^ s.slvResidue % 2 = 1 ∧ s.slvApart = true ∧ p = q)) := by
  rw [s.stage_eq]
  by_cases hrun : d.slice / 2 ^ s.slvResidue % 2 = 1
  case neg =>
    have hzero : d.slice / 2 ^ s.slvResidue % 2 = 0 := by omega
    rw [if_pos hzero]
    exact ⟨_, _, _, rfl, (if_pos hrun).symm, fun p => by simp [hzero], fun p => by simp [hzero]⟩
  rw [if_neg (by omega), if_neg (not_not_intro hrun)]
  by_cases hin : q ∈ (if s.slvApart then s.azs.after else s.azs.staged)
  · rw [if_pos (List.contains_iff_mem.mpr hin), if_pos hin]
    refine ⟨_, _, _, rfl, rfl, fun p => (or_iff_left_of_imp fun h => ?_).symm, fun p => (or_iff_left_of_imp fun h => ?_).symm⟩
    · obtain ⟨-, hap, rfl⟩ := h
      rwa [hap] at hin
    · obtain ⟨-, hap, rfl⟩ := h
      rwa [hap] at hin
  · rw [if_neg fun h => hin (List.contains_iff_mem.mp h), if_neg hin]
    cases hap : s.slvApart
    · refine ⟨_, _, _, rfl, ?_, fun p => (mem_addTo _ _ _).trans (by simp [hrun]), fun p => by simp⟩
      cases s.slvNow <;> rfl
    · have hnow : s.slvNow = false := by
        unfold State.slvApart at hap
        cases hn : s.slvNow
        · rfl
        · rw [hn] at hap; cases hap
      rw [hnow]
      exact ⟨_, _, _, rfl, rfl, fun p => by simp, fun p => (mem_addTo _ _ _).trans (by simp [hrun])⟩

end

section
variable (s : State) (c : Ctx)

theorem State.slvNow_bodyState : (s.bodyState c.toNat).slvNow = s.slvNow := by
  unfold State.slvNow State.draw
  rw [s.f_bodyState, s.tick_bodyState, s.periodUs_bodyState, s.freeCtr_bodyState]

theorem State.slvApart_bodyState : (s.bodyState c.toNat).slvApart = s.slvApart := by
  unfold State.slvApart
  rw [s.slvNow_bodyState, s.f_bodyState]

theorem State.slvResidue_bodyState : (s.bodyState c.toNat).slvResidue = s.slvResidue := by
  unfold State.slvResidue
  rw [s.slvNow_bodyState, s.tickNo_bodyState]

end

/-- The state with the memory, stagings and free values of another. -/
def State.withStagingOf (t s : State) : State :=
  { t with mem := s.mem, freeCtr := s.freeCtr, azs := { t.azs with staged := s.azs.staged, after := s.azs.after } }

theorem State.withStagingOf_onlyMem {t u : State} (s : State) (h : t.onlyMem u) : u.withStagingOf s = t.withStagingOf s := by
  have e := congrArg (fun x : State => x.withStagingOf s) h; exact e

theorem State.withStagingOf_withStaging (t s : State) (l m : List Nat) : (t.withStaging l m).withStagingOf s = t.withStagingOf s := rfl

theorem State.withStagingOf_unmark (s : State) (c : Ctx) : (s.unmark c).withStagingOf s = s.unmark c := by
  unfold State.unmark State.modAct
  split <;> rfl

theorem State.onlyMem_setW (s : State) (c r : Nat) (v : Dword) : s.onlyMem (s.setW c r v) := by
  unfold State.setW
  exact s.onlyMem_wr _ _ _

/-! ## SLV -/

section
variable {s : State} {c : Ctx} {fa fb : RegNo} {idx : Half} (hf : s.canFetch c)
include hf

theorem slv_raises (h : s.admitted ((s.wreg c fb).toInt + idx.toNat) = none) : raises (.slv c fa fb idx) s c .problem := by
  refine raises_of_body hf rfl ?_
  rw [s.sumIdx_bodyState, s.admitted_bodyState, h]

theorem slvw_raises (h : s.admitted ((s.wreg c fb).toInt + idx.toNat) = none) : raises (.slvw c fa fb idx) s c .problem := by
  refine raises_of_body hf rfl ?_
  unfold State.slvw
  rw [s.sumIdx_bodyState, s.admitted_bodyState, h]

theorem slvr_raises (h : s.admitted idx.toNat = none) : raises (.slvr c fa fb idx) s c .problem := by
  refine raises_of_body hf rfl ?_
  rw [s.admitted_bodyState, h]

theorem exec_slv {n : Int} {q v : Nat} {d : AzsDesc} {u : State} (hn : (s.wreg c fb).toInt + idx.toNat = n) (h : s.admitted n = some (q, d))
    (hu : (s.bodyState c.toNat).stage q d = (v, u)) :
    exec (.slv c fa fb idx) s = .next (u.setW c.toNat fa.toNat (BitVec.ofNat 64 v)) := by
  refine exec_of_body hf rfl ?_
  rw [s.sumIdx_bodyState, s.admitted_bodyState, hn, h]
  dsimp only
  rw [hu]

theorem slv_spec (d : AzsDesc) (h0 : 0 ≤ (s.wreg c fb).toInt + idx.toNat)
    (hd : tget? s.azs.table ((s.wreg c fb).toInt + idx.toNat).toNat = some d) :
    ∃ t, exec (.slv c fa fb idx) s = .next t ∧ t.pc c.toNat = s.pc c.toNat + 4 ∧
      t.w c.toNat fa.toNat = (if fa = 0 then 0 else if ¬d.slice / 2 ^ s.slvResidue % 2 = 1 then 2
        else if ((s.wreg c fb).toInt + idx.toNat).toNat ∈ (if s.slvApart then s.azs.after else s.azs.staged) then 3
        else if s.slvNow then 0 else 1) ∧
      (∀ q, q ∈ t.azs.staged ↔ q ∈ s.azs.staged ∨
        (d.slice / 2 ^ s.slvResidue % 2 = 1 ∧ s.slvApart = false ∧ q = ((s.wreg c fb).toInt + idx.toNat).toNat)) ∧
      (∀ q, q ∈ t.azs.after ↔ q ∈ s.azs.after ∨
        (d.slice / 2 ^ s.slvResidue % 2 = 1 ∧ s.slvApart = true ∧ q = ((s.wreg c fb).toInt + idx.toNat).toNat)) ∧
      (∀ a, offPc c a → offW c fa a → t.byte a = s.byte a) ∧ t.withStagingOf s = s.unmark c := by
  generalize hn : (s.wreg c fb).toInt + idx.toNat = n at h0 hd ⊢
  obtain ⟨v, staged, after, hstage, hv, hstaged, hafter⟩ := (s.bodyState c.toNat).stage_spec n.toNat d
  rw [s.slvResidue_bodyState, s.slvApart_bodyState, s.azs_bodyState] at hstaged hafter hv
  rw [s.slvNow_bodyState] at hv
  have hexec := exec_slv (fa := fa) hf hn (s.admitted_some h0 hd) hstage
  generalize hu : (s.bodyState c.toNat).withStaging staged after = u at hexec
  have hmem : u.mem = (s.bodyState c.toNat).mem := by rw [← hu, State.mem_withStaging]
  have hazs : u.azs.staged = staged ∧ u.azs.after = after := by rw [← hu]; exact ⟨rfl, rfl⟩
  have honly := u.onlyMem_setW c.toNat fa.toNat (BitVec.ofNat 64 v)
  refine ⟨_, hexec, ?_, (State.w_setW_reg _ _ _ _).trans (by rw [hv]), fun q => ?_, fun q => ?_, fun a hpc hw => ?_, ?_⟩
  · rw [State.pc_setW _ _ _ _ fa.isLt, State.pc_congr hmem, s.pc_bodyState _ c.isLt hf.2]
  · rw [State.onlyMem_azs honly, hazs.1]
    exact hstaged q
  · rw [State.onlyMem_azs honly, hazs.2]
    exact hafter q
  · rw [State.byte_setW _ _ _ hw, State.byte_congr hmem, s.byte_bodyState _ a hpc]
  · rw [State.withStagingOf_onlyMem s honly, ← hu, State.withStagingOf_withStaging, State.withStagingOf_onlyMem s (s.onlyMem_bodyState_unmark c),
      s.withStagingOf_unmark]

end

/-! ## SLVW -/

section
variable (s : State) (c : Ctx) (q : Nat)

theorem State.slvwBlocks_iff : s.slvwBlocks q = true ↔
    s.f F.TICK_PHASE_PHASE = 2 ∧ s.tick.cycles < 500 * (7 * s.periodUs / 10) ∧ q ∈ s.azs.batch := by
  unfold State.slvwBlocks State.begun State.beforeEdge
  simp only [Bool.and_eq_true, Bool.not_eq_true', Bool.or_eq_false_iff, Bool.not_eq_false', decide_eq_true_eq, decide_eq_false_iff_not,
    List.contains_iff_mem, and_assoc]
  exact ⟨fun ⟨hphase, _, hcycles, hq⟩ => ⟨hphase, hcycles, hq⟩, fun ⟨hphase, hcycles, hq⟩ => ⟨hphase, by omega, hcycles, hq⟩⟩

theorem State.notFinal_iff : s.notFinal q = true ↔ q ∈ s.azs.batch ∨ (s.f F.TICK_PHASE_PHASE ≤ 1 ∧ q ∈ s.azs.staged) := by
  unfold State.notFinal
  simp only [Bool.or_eq_true, Bool.and_eq_true, decide_eq_true_eq, List.contains_iff_mem]

theorem State.slvwBlocks_bodyState : (s.bodyState c.toNat).slvwBlocks q = s.slvwBlocks q := by
  unfold State.slvwBlocks State.begun State.beforeEdge
  rw [s.f_bodyState, s.tick_bodyState, s.periodUs_bodyState, s.azs_bodyState]

theorem State.slvwWord_bodyState (d : AzsDesc) : (s.bodyState c.toNat).slvwWord q d = s.slvwWord q d := by
  unfold State.slvwWord State.notFinal
  rw [s.recStatus_bodyState, s.azs_bodyState, s.f_bodyState]

end

section
variable {s : State} {c : Ctx} {fa fb : RegNo} {idx : Half} {d : AzsDesc} (hf : s.canFetch c)
  (h0 : 0 ≤ (s.wreg c fb).toInt + idx.toNat) (hd : tget? s.azs.table ((s.wreg c fb).toInt + idx.toNat).toNat = some d)
include hf h0 hd

theorem slvw_writesW (h : ¬s.slvwBlocks ((s.wreg c fb).toInt + idx.toNat).toNat = true) :
    writesW (.slvw c fa fb idx) s c fa (BitVec.ofNat 64 (s.slvwWord ((s.wreg c fb).toInt + idx.toNat).toNat d)) := by
  refine writesW_of_body hf rfl ?_
  unfold State.slvw
  rw [s.sumIdx_bodyState, s.admitted_bodyState, s.admitted_some h0 hd]
  dsimp only
  rw [s.slvwBlocks_bodyState, if_neg h, s.slvwWord_bodyState]

theorem slvw_blocks (h : s.slvwBlocks ((s.wreg c fb).toInt + idx.toNat).toNat = true) : blocks (.slvw c fa fb idx) s c false fa fb idx := by
  refine blocks_of_body hf rfl ?_
  unfold State.slvw
  rw [s.sumIdx_bodyState, s.admitted_bodyState, s.admitted_some h0 hd]
  dsimp only
  rw [s.slvwBlocks_bodyState, if_pos h]

end

/-! ## SLVR -/

/-- Storing bytes marks no page. -/
theorem State.cml_wrBytes (s : State) (a : Nat) (l : List Byte) : (s.wrBytes a l).cml = s.cml := State.onlyMem_cml (s.onlyMem_wrBytes a l)

/-- Touching a list of addresses marks the pages of those that pass the test. -/
theorem State.mem_dirty_foldl_touch (g : Nat → Nat) (b : Nat → Prop) [DecidablePred b] (l : List Nat) (s : State) (p : Nat) :
    p ∈ (l.foldl (fun s i => if b i then s.touch (g i) else s) s).cml.dirty ↔ p ∈ s.cml.dirty ∨ ∃ i ∈ l, b i ∧ s.marks (g i) p := by
  induction l generalizing s with
  | nil => simp
  | cons i l ih =>
    rw [List.foldl_cons, ih]
    by_cases hb : b i
    · have hmarks : ∀ j, (s.touch (g i)).marks (g j) p ↔ s.marks (g j) p := fun j => State.marks_congr (s.relevant_touch _) rfl p
      rw [if_pos hb]
      simp only [State.mem_dirty_touch, hmarks, List.exists_mem_cons_iff, hb, true_and, or_assoc]
    · rw [if_neg hb]
      simp only [List.exists_mem_cons_iff, hb, false_and, false_or]

/-- In instance data every page has a dirty bit. -/
theorem State.marks_instance (s : State) {a p : Nat} (h1 : instBase ≤ a) (h2 : a < scratchBase) : s.marks a p ↔ p = (a - instBase) / 4096 := by
  have hpage : pageOf a = some ((a - instBase) / 4096) := if_pos ⟨h1, h2⟩
  unfold State.marks
  rw [hpage, Option.some_inj]
  refine ⟨fun h => h.1.symm, fun h => ⟨h.symm, .inl ?_⟩⟩
  unfold instBase at h h1
  unfold scratchBase at h2
  omega

/-- A copy into instance data marks the pages that its bytes reach. -/
theorem State.mem_dirty_ctxCopy (s : State) {a : Nat} {l : List Byte} (hl : l ≠ []) (h1 : instBase ≤ a) (h2 : a + l.length ≤ scratchBase)
    (p : Nat) :
    p ∈ (s.ctxCopy a l).cml.dirty ↔ p ∈ s.cml.dirty ∨ (p < 1024 ∧ pageAddr p < a + l.length ∧ a < pageAddr p + 4096) := by
  have hpos : 0 < l.length := List.length_pos_iff.mpr hl
  unfold State.ctxCopy
  rw [State.mem_dirty_foldl_touch, s.cml_wrBytes]
  refine or_congr_right ⟨fun ⟨i, _, hi, hm⟩ => ?_, fun ⟨hp, hlo, hhi⟩ => ?_⟩
  · rw [State.marks_instance _ (by unfold instBase at h1 ⊢; omega) (by omega)] at hm
    unfold instBase at hm h1
    unfold scratchBase at h2
    have hp : p < 1024 := by omega
    unfold pageAddr instBase
    rw [if_pos hp]
    omega
  · unfold pageAddr at hlo hhi
    rw [if_pos hp] at hlo hhi
    unfold instBase at hlo hhi h1
    unfold scratchBase at h2
    refine ⟨(0x800000 + 4096 * p) / 4096 - a / 4096, List.mem_range.mpr (by omega), by omega, ?_⟩
    rw [State.marks_instance _ (by unfold instBase; omega) (by unfold scratchBase; omega)]
    unfold instBase
    omega

section
variable {s : State} {c : Ctx} {fa fb : RegNo} {idx : Half} {d : AzsDesc} (hf : s.canFetch c)
include hf

/-- SLVR copies the current record and returns its status. -/
theorem exec_slvr (hd : tget? s.azs.table idx.toNat = some d) (hx : s.insideI c ((s.ib c.toNat : Int) + (s.wreg c fb).toInt) d.recSize) :
    exec (.slvr c fa fb idx) s = .next
      (((s.bodyState c.toNat).ctxCopy (instBase + ((s.ib c.toNat : Int) + (s.wreg c fb).toInt).toNat)
        ((s.bodyState c.toNat).rdBytes (d.recAt (s.curRec d)) d.recSize)).setW c.toNat fa.toNat (BitVec.ofNat 64 (s.recStatus d))) := by
  refine exec_of_body hf rfl ?_
  rw [s.admitted_bodyState, s.admitted_some (Int.natCast_nonneg _) (by rwa [Int.toNat_natCast])]
  dsimp only
  rw [s.ib_bodyState, s.wr_bodyState, s.instAddr_bodyState_inside c (Int.emod_one _) hx, s.curRec_bodyState, s.recStatus_bodyState]

theorem slvr_spec (hd : tget? s.azs.table idx.toNat = some d) (hx : s.insideI c ((s.ib c.toNat : Int) + (s.wreg c fb).toInt) d.recSize) :
    let a := instBase + ((s.ib c.toNat : Int) + (s.wreg c fb).toInt).toNat
    ∃ t, exec (.slvr c fa fb idx) s = .next t ∧ t.pc c.toNat = s.pc c.toNat + 4 ∧
      t.w c.toNat fa.toNat = (if fa = 0 then 0 else BitVec.ofNat 64 (s.recStatus d)) ∧
      (∀ k, k < d.recSize → t.byte (a + k) = s.byte (d.recAt (s.curRec d) + k)) ∧
      (∀ b, outside a d.recSize b → offPc c b → offW c fa b → t.byte b = s.byte b) ∧
      ∀ p, p ∈ t.cml.dirty ↔ p ∈ s.cml.dirty ∨ (p < 1024 ∧ pageAddr p < a + d.recSize ∧ a < pageAddr p + 4096) := by
  intro a
  have hscratch : a + d.recSize ≤ scratchBase := by
    obtain ⟨-, -, h0, hle⟩ := hx
    unfold scratchBase
    have ha : a = 0x800000 + ((s.ib c.toNat : Int) + (s.wreg c fb).toInt).toNat := rfl
    omega
  have hend : a + d.recSize ≤ ctxBase := hscratch.trans (by decide)
  obtain ⟨hpc, hw, hcopied, hrest⟩ := (s.bodyState c.toNat).copyThenW_spec c fa (BitVec.ofNat 64 (s.recStatus d)) (r := d.recAt (s.curRec d)) hend
  have hlen := (s.bodyState c.toNat).length_rdBytes (d.recAt (s.curRec d)) d.recSize
  have hne : (s.bodyState c.toNat).rdBytes (d.recAt (s.curRec d)) d.recSize ≠ [] := fun h => by
    rw [h] at hlen
    unfold AzsDesc.recSize at hlen
    simp at hlen
    omega
  refine ⟨_, exec_slvr hf hd hx, ?_, hw, fun k hk => ?_, fun b hb hp hfa => ?_, fun p => ?_⟩
  · rw [hpc, s.pc_bodyState _ c.isLt hf.2]
  · rw [hcopied k hk, s.byte_bodyState_above c ((d.le_recAt _).trans (Nat.le_add_right _ _))]
  · rw [hrest b hb hfa, s.byte_bodyState _ _ hp]
  · rw [State.onlyMem_cml (State.onlyMem_setW _ _ _ _), State.mem_dirty_ctxCopy _ hne (Nat.le_add_right _ _) (by rw [hlen]; exact hscratch), hlen,
      State.onlyMem_cml (s.onlyMem_bodyState c.toNat), (s.marksOf_modAct _ _).1]

end

/-- Settles O26: a staging is one list that grows, SLVW blocks under one condition, and SLVR is a copy of the current record. -/
theorem solverInstructions : Obligations.SolverInstructions := by
  unfold Obligations.SolverInstructions
  refine ⟨fun s c fa fb idx hf => ?_,
    fun s => ⟨fun _ _ _ _ => exec_answers _ s, fun _ _ _ _ => exec_answers _ s, fun _ _ _ _ => exec_answers _ s⟩⟩
  refine ⟨fun h => ⟨slv_raises hf (s.admitted_negative h), slvw_raises hf (s.admitted_negative h)⟩,
    fun h0 h => ⟨slv_raises hf (s.admitted_none h0 h), slvw_raises hf (s.admitted_none h0 h)⟩,
    fun h => slvr_raises hf (s.admitted_none (Int.natCast_nonneg _) (by rwa [Int.toNat_natCast])),
    fun d h0 hd => slv_spec hf d h0 hd, fun d h0 hd h => ?_, fun d h0 hd hphase hcycles hq => ?_, fun d hd hx => slvr_spec hf hd hx⟩
  · have hword := slvw_writesW (fa := fa) hf h0 hd ((s.slvwBlocks_iff _).not.mpr h)
    simpa only [State.slvwWord, State.notFinal_iff] using hword
  · exact slvw_blocks hf h0 hd ((s.slvwBlocks_iff _).mpr ⟨hphase, hcycles, hq⟩)
end Sys2Proof.Machine
end

section
/-!
Commands of PRG_CMD that come in the cycle of a tick boundary: they wait for the boundary after it, where O30 and O32 take no notice of them
(R24, R189).
-/
namespace Sys2Proof.Machine

/-! ## The word of a command -/

theorem bitsOf_cmdWord : ∀ k < 16, bitsOf (cmdWord k) 31 16 = 0x4C54 ∧ bitsOf (cmdWord k) 3 0 = k := by decide

/-- A write of PRG_CMD with the KEY is the command of its code. -/
theorem State.prgWrite_cmdWord (s : State) (m : Master) {k : Nat} (h : k < 16) : s.prgWrite m (cmdWord k) = s.prgCommand k := by
  obtain ⟨hkey, hcode⟩ := bitsOf_cmdWord k h
  rw [State.prgWrite, if_pos hkey, hcode]

/-! ## A command in the boundary's cycle -/

/-- From the cycle of the tick's end on a mode command does not stand in PEND yet. -/
theorem State.pend_late {s : State} (k : Nat) (hr : s.tick.running = true) (hb : s.beforeEdge s.periodUs = false) :
    s.pend k = { s with prg := { s.prg with pendLate := some k } } := by
  rw [State.pend, if_pos (by simp [hr, hb])]

/-- Outside Stop the STOP command is accepted. -/
theorem State.prgCommand_stop {s : State} (h : s.mode ≠ .stop) : s.prgCommand 3 = s.pend 3 := by
  simp [State.prgCommand, State.pendMode, h]

/-- The module in Run in the cycle of its tick's end, 10 ms after the Strobe, with the boundary not taken yet. -/
def State.runAtTickEnd : State :=
  { State.reset.put F.PRG_MODE_MODE 1 with tick := { running := true, cycles := 5000000 } }

/-- Refutes O30: its third clause says that STOP in Run stands in PEND at once. Written in the cycle of a tick boundary that has not been taken
yet, it belongs to the tick that begins there (R24, R189): it waits beside PEND, which reads 0. -/
theorem not_programCommandsThatAreAccepted : ¬ Obligations.ProgramCommandsThatAreAccepted := by
  intro h
  obtain ⟨hcommands, -⟩ := h
  obtain ⟨-, -, hstop, -⟩ := hcommands State.runAtTickEnd .cc0
  have hmode : State.runAtTickEnd.mode ≠ .stop := by decide
  obtain ⟨t, ht, hpend, -⟩ := hstop (.inl hmode)
  have hlate : exec (.stop .cc0) State.runAtTickEnd =
      .next { State.runAtTickEnd with prg := { State.runAtTickEnd.prg with pendLate := some 3 } } :=
    congrArg Host.Outcome.next ((State.prgWrite_cmdWord _ _ (by decide)).trans
      ((State.prgCommand_stop hmode).trans (State.pend_late 3 rfl (by decide))))
  obtain rfl := Host.Outcome.next.inj (hlate.symm.trans ht)
  have hread : State.runAtTickEnd.f F.PRG_MODE_PEND = 0 := by decide
  exact absurd (hread.symm.trans hpend) (by decide)

/-! ## The boundary -/

/-- With nothing pending and nothing restored no command takes effect. -/
theorem State.modeTake_idle {s : State} (hs : s.prg.startReady = false) (hr : s.prg.restoring = none) (hp : s.f F.PRG_MODE_PEND = 0) :
    s.modeTake = s := by
  simp [State.modeTake, hs, hr, hp]

/-- A command that came too late for a boundary stands in PEND after it. -/
theorem State.pend_modeEdge {s : State} {k : Nat} (h : s.modeTake = s) (hl : s.prg.pendLate = some k) :
    s.modeEdge.f F.PRG_MODE_PEND = k % 16 := by
  rw [State.modeEdge, h, hl]
  exact State.f_put_same _ _ _ (by decide) (by decide)

/-- The module in Stop after RUN_COLD came in the cycle of the boundary that is taken now. -/
def State.lateStart : State := { State.reset with prg := { pendLate := some 2 } }

/-- Refutes O32: its last clause says that with nothing in PEND and nothing restored the boundary changes nothing. A RUN_COLD that came in the
cycle of this boundary waits for the one after it (R24, R189), and PEND shows it from this boundary on: it reads 2 where it read 0. -/
theorem not_modeChangesAtTheBoundary : ¬ Obligations.ModeChangesAtTheBoundary := by
  intro h
  obtain ⟨-, -, -, -, -, hidle⟩ := h State.lateStart
  have hpend : State.lateStart.f F.PRG_MODE_PEND = 0 := by decide
  have hshown : State.lateStart.modeEdge.f F.PRG_MODE_PEND = 2 := State.pend_modeEdge (State.modeTake_idle rfl rfl hpend) rfl
  rw [hidle rfl rfl hpend, hpend] at hshown
  exact absurd hshown (by decide)
end Sys2Proof.Machine
end

section
/-!
What a refusal of PRG_CMD changes, and the commands that are refused: the statement of O31 (R189, R207, R210, R483).
-/
namespace Sys2Proof.Machine

/-! ## Registers and the log -/

/-- A write of listed registers, and what an event or a source changes beside it. -/
theorem State.logAnd_of_regsOnly {s t u : State} {l : List Nat} (h : s.regsOnly u l) (h' : u.logFrame t) : s.logAnd t l := by
  obtain ⟨hregs, hothers⟩ := h
  obtain ⟨hrest, hreg, hbyte⟩ := h'
  obtain ⟨r, rfl⟩ : ∃ r, u = { s with regs := r } := ⟨u.regs, by rw [← hregs]⟩
  exact ⟨congrArg (fun v : State => ({ v with regs := s.regs } : State)) hrest, fun a ha hl => (hreg a ha).trans (hothers a hl), hbyte⟩

/-! ## A refusal -/

/-- The registers' part of a refusal. -/
def State.refusalShown (s : State) (code : Nat) : State := (s.put F.PRG_STATUS_REFUSED 1).put F.PRG_STATUS_REFUSE code

theorem State.regsOnly_refusalShown (s : State) (code : Nat) : s.regsOnly (s.refusalShown code) [R.PRG_STATUS] :=
  State.regsOnly_trans (s.regsOnly_put 1 (by decide)) (State.regsOnly_put _ code (by decide))

theorem State.logFrame_prgRefuse (s : State) (code order count cap : Nat) :
    (s.refusalShown code).logFrame (s.prgRefuse code order count cap) :=
  State.logFrame_trans (State.logFrame_event _ _ _) (State.logFrame_assertSrc _ _)

/-- A refusal shows REFUSED and its reason, and changes nothing else beside the log (R483). -/
theorem State.refusedWith_prgRefuse (s : State) {code : Nat} (h : code < 256) (order count cap : Nat) :
    s.refusedWith (s.prgRefuse code order count cap) code := by
  have hlog := s.logFrame_prgRefuse code order count cap
  refine ⟨?_, ?_, State.logAnd_of_regsOnly (s.regsOnly_refusalShown code) hlog⟩
  · rw [State.logFrame_f hlog _ rfl, State.refusalShown, State.f_put_bits _ _ _ _ (by decide) (by decide),
      State.f_put_same _ _ _ (by decide) (by decide)]
    rfl
  · rw [State.logFrame_f hlog _ rfl, State.refusalShown, State.f_put_same _ _ _ (by decide) (by decide)]
    exact Nat.mod_eq_of_lt h

/-! ## Commands while a restore, a load or a staging runs -/

theorem State.prgCommand_busy {s : State} (hb : s.prgBusy = true) : ∀ k ∈ [1, 2, 4, 5, 6, 7, 8], s.prgCommand k = s.prgRefuse 0x0E := by
  intro k hk
  have hlisted : ¬(k = 0 ∨ 10 < k) ∧ k ≠ 3 ∧ k ≠ 9 ∧ k ≠ 10 := by revert k; decide
  obtain ⟨hlisted, hexempt⟩ := hlisted
  rw [State.prgCommand, if_neg hlisted, if_pos ⟨hb, hexempt⟩]

/-! ## Commands that the mode does not allow -/

section
variable {s : State}

theorem State.prgCommand_stop_refused (hm : s.mode = .stop) (hp : s.startPending = false) : s.prgCommand 3 = s.prgRefuse 0x10 := by
  simp [State.prgCommand, State.pendMode, hm, hp]

variable (hb : s.prgBusy = false)
include hb

theorem State.prgCommand_start_refused (hm : s.mode ≠ .stop) : s.prgCommand 1 = s.prgRefuse 0x10 ∧ s.prgCommand 2 = s.prgRefuse 0x10 := by
  simp [State.prgCommand, State.cmdStart, hb, hm]

theorem State.prgCommand_load_refused (hm : s.mode ≠ .stop) : s.prgCommand 6 = s.prgRefuse 0x10 := by
  simp [State.prgCommand, hb, hm]

theorem State.prgCommand_hold_refused (hm : s.mode ≠ .run) : s.prgCommand 4 = s.prgRefuse 0x10 := by
  simp [State.prgCommand, State.pendMode, hb, hm]

theorem State.prgCommand_resume_refused (hm : s.mode ≠ .hold) : s.prgCommand 5 = s.prgRefuse 0x10 := by
  simp [State.prgCommand, State.pendMode, hb, hm]

theorem State.prgCommand_exchange_refused (hm : s.mode = .stop) : s.prgCommand 7 = s.prgRefuse 0x10 := by
  simp [State.prgCommand, hb, hm]

/-- ROLLBACK in Stop without a usable Shade (R207). -/
theorem State.prgCommand_rollback_noShade (hm : s.mode = .stop) (hv : s.reg R.PRG_SHADE_VER = 0) : s.prgCommand 8 = s.prgRefuse 0x0B := by
  simp [State.prgCommand, State.cmdRollback, State.shadeReason, State.prgRefuseBy, offends, hb, hm, hv]

/-- ROLLBACK in Run and Hold without a reverse migration table (R210). -/
theorem State.prgCommand_rollback_noTable (hm : s.mode ≠ .stop) (hc : s.canRollBack = false) : s.prgCommand 8 = s.prgRefuse 0x0D := by
  simp [State.prgCommand, hb, hm, hc]

end

/-- The write of a command that is refused answers the refusal. -/
theorem State.refuses_prgWrite {s : State} (m : Master) {k code : Nat} (hk : k < 16) (hc : code < 256) (h : s.prgCommand k = s.prgRefuse code) :
    ∃ t, (Host.Outcome.next (s.prgWrite m (cmdWord k)) : Host.Outcome State Fault Refusal) = .next t ∧ s.refusedWith t code :=
  ⟨_, congrArg Host.Outcome.next ((s.prgWrite_cmdWord m hk).trans h), s.refusedWith_prgRefuse hc 0 0 0⟩

/-- Settles O31: each clause is one branch of the command that refuses, and every refusal changes the same. -/
theorem programCommandsThatAreRefused : Obligations.ProgramCommandsThatAreRefused := by
  unfold Obligations.ProgramCommandsThatAreRefused
  intro s m
  refine ⟨fun hm hb i hi => ?_, fun hm hb i hi => ?_, fun hm hp => ?_, fun hm hb => ?_, fun hm hb => ?_, fun hb i hi => ?_,
    fun hm hb hv => ?_, fun hm hb hc => ?_⟩
  · obtain ⟨hwarm, hcold⟩ := State.prgCommand_start_refused hb hm
    simp only [List.mem_cons, List.not_mem_nil, or_false] at hi
    rcases hi with rfl | rfl | rfl
    · exact State.refuses_prgWrite m (by decide) (by decide) hwarm
    · exact State.refuses_prgWrite m (by decide) (by decide) hcold
    · exact State.refuses_prgWrite m (by decide) (by decide) (State.prgCommand_load_refused hb hm)
  · have hrun : s.mode ≠ .run := by simp [hm]
    have hhold : s.mode ≠ .hold := by simp [hm]
    simp only [List.mem_cons, List.not_mem_nil, or_false] at hi
    rcases hi with rfl | rfl | rfl
    · exact State.refuses_prgWrite m (by decide) (by decide) (State.prgCommand_hold_refused hb hrun)
    · exact State.refuses_prgWrite m (by decide) (by decide) (State.prgCommand_resume_refused hb hhold)
    · exact State.refuses_prgWrite m (by decide) (by decide) (State.prgCommand_exchange_refused hb hm)
  · exact State.refuses_prgWrite m (by decide) (by decide) (State.prgCommand_stop_refused hm hp)
  · exact State.refuses_prgWrite m (by decide) (by decide) (State.prgCommand_resume_refused hb (by simp [hm]))
  · exact State.refuses_prgWrite m (by decide) (by decide) (State.prgCommand_hold_refused hb (by simp [hm]))
  · obtain ⟨k, hk, hexec⟩ : ∃ k ∈ [1, 2, 4, 5, 6, 7, 8], exec i s = .next (s.prgWrite m (cmdWord k)) := by
      simp only [List.mem_cons, List.not_mem_nil, or_false] at hi
      rcases hi with rfl | rfl | rfl | rfl | rfl | rfl | rfl
      exacts [⟨1, by decide, rfl⟩, ⟨2, by decide, rfl⟩, ⟨4, by decide, rfl⟩, ⟨5, by decide, rfl⟩, ⟨6, by decide, rfl⟩, ⟨7, by decide, rfl⟩,
        ⟨8, by decide, rfl⟩]
    have hlt : k < 16 := (by decide : ∀ k ∈ [1, 2, 4, 5, 6, 7, 8], k < 16) k hk
    rw [hexec]
    exact State.refuses_prgWrite m hlt (by decide) (State.prgCommand_busy hb k hk)
  · exact State.refuses_prgWrite m (by decide) (by decide) (State.prgCommand_rollback_noShade hb hm hv)
  · exact State.refuses_prgWrite m (by decide) (by decide) (State.prgCommand_rollback_noTable hb hm hc)
end Sys2Proof.Machine
end

section
/-!
The bytes of a checkpoint generation in MRAM, and the role record (R198, R201, R202).
-/
namespace Sys2Proof.Machine

/-! ## Memory -/

/-- No byte of MRAM or above ignores writes. -/
theorem writeIgnored_mram {b : Nat} (h : mramBase ≤ b) : writeIgnored b = false := by
  unfold mramBase at h
  have hrom : ¬b < 0x1100000 := by omega
  have hctx : ¬b < 0x1000000 := by omega
  simp [writeIgnored, hrom, hctx]

/-- A table from which no entry of a key was taken lists for it what it did. -/
theorem tget?_filter_kept {β : Type} (l : Tbl β) (p : Nat × β → Bool) (k : Nat) (hp : ∀ v, p (k, v) = true) :
    tget? (l.filter p) k = tget? l k := by
  induction l with
  | nil => rfl
  | cons e l ih =>
    obtain ⟨j, v⟩ := e
    rw [List.filter_cons]
    by_cases hj : j = k
    · subst hj; rw [if_pos (hp v)]; simp [tget?]
    · split <;> simp only [tget?, if_neg hj, ih]

theorem State.byte_filterMem (s : State) (p : Host.Cell → Bool) {a : Nat} (hp : ∀ v, p (a, v) = true) :
    ({ s with mem := s.mem.filter p } : State).byte a = s.byte a :=
  congrArg (Option.getD · (memDefault a)) (tget?_filter_kept s.mem p a hp)

theorem State.wrBytes_append (s : State) (a : Nat) (l l' : List Byte) : s.wrBytes a (l ++ l') = (s.wrBytes a l).wrBytes (a + l.length) l' := by
  induction l generalizing s a with
  | nil => rfl
  | cons b l ih => rw [List.cons_append, State.wrBytes, State.wrBytes, ih, List.length_cons, Nat.add_assoc, Nat.add_comm 1]

/-- The little-endian bytes of a number are stored as the number is. -/
theorem State.wrBytes_bytesLE (s : State) (a n v : Nat) : s.wrBytes a (bytesLE n v) = s.wr a n v := by
  induction n generalizing s a v with
  | zero => rfl
  | succ n ih => exact ih _ _ _

theorem length_bytesLE (n v : Nat) : (bytesLE n v).length = n := by
  induction n generalizing v with
  | zero => rfl
  | succ n ih => rw [bytesLE, List.length_cons, ih]

/-! ## A checkpoint's place in its generation -/

/-- A byte that a checkpoint keeps has its place among the bytes of its state. -/
theorem Ckpt.place_lt_size (c : Ckpt) {a o : Nat} (h : c.place a = some o) : o < c.size := by
  unfold Ckpt.place at h
  unfold Ckpt.size
  split at h
  · have ho := Option.some.inj h
    omega
  · split at h
    · next i hi =>
      have hpage := List.find?_some hi
      have hlt := List.mem_range.mp (List.mem_of_find?_eq_some hi)
      simp only [decide_eq_true_eq] at hpage
      have ho := Option.some.inj h
      omega
    · cases h

/-- The bytes of a checkpoint's state are put into generation g. -/
def State.putCells (s : State) (g : Nat) (c : Ckpt) : State :=
  c.cells.foldl (fun s e => match c.place e.1 with | some o => s.setByte (genState g + o) e.2 | none => s) s

/-- Generation g loses the bytes it held. -/
def State.dropGen (s : State) (g : Nat) (c : Ckpt) : State :=
  { s with mem := s.mem.filter fun e => decide (e.1 < genBase g) || decide (genState g + c.size ≤ e.1) }

/-- The state of a checkpoint and the fields of its header stand in generation g; the sequence number and the CRC are to come. -/
def State.genFilled (s : State) (g : Nat) (c : Ckpt) : State := ((s.dropGen g c).putCells g c).wrBytes (genBase g + 12) c.header

theorem State.writeGen_eq (s : State) (g : Nat) (c : Ckpt) :
    s.writeGen g c = ((s.genFilled g c).wr (genBase g) 8 c.seq).wr (genBase g + 8) 4 ((s.genFilled g c).genCrc g c) := by
  rw [← State.wrBytes_bytesLE _ _ 4, ← State.wrBytes_bytesLE _ _ 8]
  exact (State.wrBytes_append _ _ _ _).trans (by rw [length_bytesLE]; rfl)

theorem State.byte_putCells (s : State) (g : Nat) (c : Ckpt) {a : Nat} (h : a < genState g ∨ genState g + c.size ≤ a) :
    (s.putCells g c).byte a = s.byte a := by
  refine List.foldlRecOn _ _ (motive := fun t : State => t.byte a = s.byte a) rfl fun t ht e _ => ?_
  split
  · next o ho =>
    have ho := c.place_lt_size ho
    rw [State.byte_setByte, if_neg (by omega)]
    exact ht
  · exact ht

section
variable (s : State) (g : Nat) (c : Ckpt)

/-- Outside the header and the state of a generation nothing changes when it is written. -/
theorem State.byte_writeGen {a : Nat} (h : a < genBase g ∨ (genState g + c.size ≤ a ∧ genBase g + 12 + c.header.length ≤ a)) :
    (s.writeGen g c).byte a = s.byte a := by
  have hstate : genState g = genBase g + 0x4000 := rfl
  rw [State.writeGen_eq, State.byte_wr_other _ _ _ _ _ (by omega), State.byte_wr_other _ _ _ _ _ (by omega), State.genFilled,
    State.byte_wrBytes_other _ _ _ _ (by omega), State.byte_putCells _ _ _ (by omega)]
  refine s.byte_filterMem _ fun v => ?_
  simp only [Bool.or_eq_true, decide_eq_true_eq]
  omega

/-- A generation that was written shows the checkpoint's sequence number. -/
theorem State.rd_writeGen_seq : (s.writeGen g c).rd (genBase g) 8 = c.seq % 2 ^ 64 := by
  rw [State.writeGen_eq, State.rd_wr_other _ _ _ _ _ _ (.inl le_rfl),
    State.rd_wr_same _ _ _ _ fun b hb _ => writeIgnored_mram (by unfold genBase at hb; unfold mramBase; omega)]
  rfl

end

/-! ## The role record -/

theorem State.onlyMem_writeRoles (s : State) : s.onlyMem s.writeRoles :=
  State.onlyMem_trans (s.onlyMem_wrBytes _ _) (State.onlyMem_wrBytes _ _ _)

/-- A change of MRAM alone is one that recording may make. -/
theorem State.logFrame_of_onlyMem {s t : State} (h : s.onlyMem t) (hb : ∀ a, a < mramBase → t.byte a = s.byte a) : s.logFrame t :=
  ⟨congrArg (fun u : State => ({ u with regs := s.regs, recorder := s.recorder, irq := s.irq, shd := s.shd } : State)) h,
    fun a _ => State.reg_congr (State.onlyMem_regs h) a, hb⟩

/-- The role record stands in MRAM: a write of the roles changes no byte below it. -/
theorem State.byte_writeRoles (s : State) {a : Nat} (h : a < mramBase) : s.writeRoles.byte a = s.byte a := by
  have hcopy : ∀ k, a < roleCopy k := fun k => by unfold mramBase at h; unfold roleCopy; omega
  exact (State.byte_wrBytes_other _ _ _ _ (.inl (hcopy 1))).trans (s.byte_wrBytes_other _ _ _ (.inl (hcopy 0)))

theorem State.logFrame_writeRoles (s : State) : s.logFrame s.writeRoles :=
  State.logFrame_of_onlyMem s.onlyMem_writeRoles fun _ => s.byte_writeRoles
end Sys2Proof.Machine
end

section
/-!
Restarts, local snapshots and the end of a trial: the statement of O33 (R195 to R199, R208).
-/
namespace Sys2Proof.Machine

/-! ## Restores -/

section
variable {s : State}

theorem State.restoreDone_none (h : s.prg.restoring = none) (ok : Bool) : s.restoreDone ok = s := by
  simp [State.restoreDone, h]

theorem State.restoreDone_ready (h : s.prg.startReady = true) (ok : Bool) : s.restoreDone ok = s := by
  cases hr : s.prg.restoring <;> simp [State.restoreDone, hr, h]

/-- The start of a restart that has completed. -/
def State.startMadeReady (s : State) : State := { s with prg := { s.prg with startReady := true } }

theorem State.restoreDone_cold (hr : s.prg.restoring = some false) (hs : s.prg.startReady = false) (hp : s.f F.PRG_MODE_PEND ≠ 3) (ok : Bool) :
    s.restoreDone ok = s.restoreExpert.coldRestart.startMadeReady := by
  simp [State.restoreDone, State.startMadeReady, hr, hs, hp]

theorem State.restoreDone_warm {g : Nat} {c : Ckpt} (hr : s.prg.restoring = some true) (hs : s.prg.startReady = false)
    (hp : s.f F.PRG_MODE_PEND ≠ 3) (hi : s.newestIntact = true) (hg : s.restoreExpert.newestGen = some (g, c)) :
    s.restoreDone true = (s.restoreExpert.warmRestart c .warm).startMadeReady := by
  simp [State.restoreDone, State.startMadeReady, hr, hs, hp, hi, hg]

/-- A start that STOP cancels, and a warm one whose generation fails its CRC, restores nothing. -/
theorem State.restoreDone_fails {w ok : Bool} (hr : s.prg.restoring = some w) (hs : s.prg.startReady = false)
    (h : s.f F.PRG_MODE_PEND = 3 ∨ (w = true ∧ (ok = false ∨ s.newestIntact = false))) : s.restoreDone ok = s.restoreFails := by
  unfold State.restoreDone
  rw [hr]
  dsimp only
  rw [if_neg (by simp [hs]), if_pos h]

end

theorem State.logFrame_prg {s t : State} (h : s.logFrame t) : t.prg = s.prg := by
  have e := congrArg State.prg h.1; exact e

/-- A failed restore ends the start and is recorded. -/
theorem State.restoreFails_spec (s : State) : s.restoreFails.f F.PRG_MODE_PEND = 0 ∧
    s.restoreFails.prg = { s.prg with restoring := none, startReady := false } ∧
    ({ s with prg := s.restoreFails.prg } : State).logAnd s.restoreFails [R.PRG_MODE] := by
  have hlog : (({ s with prg := { s.prg with restoring := none, startReady := false } } : State).put F.PRG_MODE_PEND 0).logFrame s.restoreFails :=
    State.logFrame_event _ _ _
  have hprg := State.logFrame_prg hlog
  refine ⟨?_, hprg, ?_⟩
  · rw [State.logFrame_f hlog _ rfl, State.f_put_same _ _ _ (by decide) (by decide), Nat.zero_mod]
  · rw [hprg]
    exact State.logAnd_of_put (by decide) hlog

/-! ## What PRG_STATUS and PRG_CKPT show of the generations -/

theorem State.regsOnly_showCkpt (s : State) : s.regsOnly s.showCkpt [R.PRG_STATUS, R.PRG_CKPT] := by
  have hfit : s.regsOnly (s.putb F.PRG_STATUS_CKPT_FIT (decide (s.litVer ≠ 0) && s.ckptFits)) [R.PRG_STATUS, R.PRG_CKPT] :=
    s.regsOnly_put _ (by decide)
  unfold State.showCkpt
  dsimp only
  split
  · exact State.regsOnly_trans hfit (State.regsOnly_trans (State.regsOnly_put _ _ (by decide))
      (State.regsOnly_trans (State.regsOnly_put _ _ (by decide)) (State.regsOnly_put _ _ (by decide))))
  · exact State.regsOnly_trans hfit (State.regsOnly_put _ _ (by decide))

/-- The bank in use is no part of what the generations show. -/
theorem State.bank_showCkpt (s : State) : s.showCkpt.f F.PRG_STATUS_BANK = s.f F.PRG_STATUS_BANK := by
  have hput : ∀ (t : State) (x : Fld) (v : Nat), x ∈ [F.PRG_STATUS_CKPT_FIT, F.PRG_STATUS_CKPT_VALID, F.PRG_CKPT_GEN, F.PRG_CKPT_AGE] →
      (t.put x v).f F.PRG_STATUS_BANK = t.f F.PRG_STATUS_BANK := fun t x v hx => by
    have hapart : x.lo ≤ x.hi ∧ (R.PRG_STATUS ≠ x.addr ∨ F.PRG_STATUS_BANK.hi < x.lo ∨ x.hi < F.PRG_STATUS_BANK.lo) := by
      revert x; decide
    exact t.f_put_apart v hapart.1 hapart.2
  unfold State.showCkpt
  dsimp only
  split
  · rw [hput _ _ _ (by decide), hput _ _ _ (by decide), hput _ _ _ (by decide)]
    exact hput _ _ _ (by decide)
  · rw [hput _ _ _ (by decide)]
    exact hput _ _ _ (by decide)

theorem State.regsOnly_prg {s t : State} {l : List Nat} (h : s.regsOnly t l) : t.prg = s.prg := by
  have e := congrArg State.prg h.1; exact e

/-- Whether the state fits a generation rests on memory, the bank in use and the marked pages. -/
theorem State.ckptFits_congr {s t : State} (hm : t.mem = s.mem) (hb : t.f F.PRG_STATUS_BANK = s.f F.PRG_STATUS_BANK)
    (hc : t.cml.relevant = s.cml.relevant) : t.ckptFits = s.ckptFits := by
  have hextent : t.extent = s.extent := by
    unfold State.extent State.header State.bankBase
    rw [hb]
    exact State.rd_congr _ _ fun a _ _ => State.byte_congr hm a
  unfold State.ckptFits
  rw [hextent, hc]

theorem State.ckptFits_showCkpt (s : State) : s.showCkpt.ckptFits = s.ckptFits :=
  State.ckptFits_congr (State.regsOnly_mem s.regsOnly_showCkpt) s.bank_showCkpt (congrArg CmlSt.relevant (State.regsOnly_cml s.regsOnly_showCkpt))

/-! ## The local snapshot -/

/-- The state with other lifecycle records. -/
def State.withPrg (s : State) (p : PrgSt) : State := { s with prg := p }

theorem State.withPrg_prg (s : State) (p : PrgSt) : (s.withPrg p).prg = p := rfl
theorem State.withPrg_mem (s : State) (p : PrgSt) : (s.withPrg p).mem = s.mem := rfl

section
variable {s : State} {kept : Option Ckpt}

/-- A snapshot that is not due, or has no state to keep, only counts its tick. -/
theorem State.localSnapshot_counts (h : s.f F.PRG_CTRL_CKPT_PERIOD = 0 ∨ s.litVer = 0 ∨ (s.prg.ran = false ∧ kept = none) ∨
    s.prg.since + 1 < s.f F.PRG_CTRL_CKPT_PERIOD) : s.localSnapshot kept = { s with prg := { s.prg with since := s.prg.since + 1 } } :=
  if_pos h

/-- The state in which a snapshot is due: the count of ticks starts again, and the generations are shown. -/
def State.snapshotTaken (s : State) : State := ({ s with prg := { s.prg with since := 0 } } : State).showCkpt

theorem State.regsOnly_snapshotTaken (s : State) :
    ({ s with prg := { s.prg with since := 0 } } : State).regsOnly s.snapshotTaken [R.PRG_STATUS, R.PRG_CKPT] := State.regsOnly_showCkpt _

/-- The generation that the next snapshot replaces. -/
def State.olderGen (s : State) : Nat := match s.newestGen with | some (g, _) => 1 - g | none => 0

/-- The sequence number of the next snapshot. -/
def State.nextSeq (s : State) : Nat := match s.newestGen with | some (_, c) => c.seq + 1 | none => 1

/-- A checkpoint begins to go to generation g, which loses its header. -/
def State.beginWrite (s : State) (g : Nat) (c : Ckpt) : State :=
  (s.wr (genBase g) 8 0).withPrg { s.prg with writing := some (g, c), gens := tdel s.prg.gens g }

/-- The checkpoint that a snapshot writes: the restart state, or the one that is kept, with its number and extent. -/
def State.snapshotOf (s : State) (kept : Option Ckpt) : Ckpt := { kept.getD s.ckptNow with seq := s.nextSeq, extent := s.extent }

/-- A snapshot that is due begins, is skipped while the write before it runs, and is not taken where the state does not fit. -/
def State.snapshotDue (s : State) (kept : Option Ckpt) : State :=
  if s.ckptFits = false then s
  else match s.prg.writing with
    | some _ => s.count F.PRG_CKPT_SKIP
    | none => s.beginWrite s.olderGen (s.snapshotOf kept)

theorem State.localSnapshot_due (hran : s.prg.ran = true) (hper : s.f F.PRG_CTRL_CKPT_PERIOD ≠ 0) (hver : s.litVer ≠ 0)
    (hdue : s.f F.PRG_CTRL_CKPT_PERIOD ≤ s.prg.since + 1) : s.localSnapshot kept = s.snapshotTaken.snapshotDue kept := by
  have hnot : ¬(s.f F.PRG_CTRL_CKPT_PERIOD = 0 ∨ s.litVer = 0 ∨ (s.prg.ran = false ∧ kept = none) ∨
      s.prg.since + 1 < s.f F.PRG_CTRL_CKPT_PERIOD) := by
    simp [hper, hver, hran, hdue]
  exact if_neg hnot

theorem State.snapshotDue_begins (hfit : s.ckptFits = true) (hw : s.prg.writing = none) :
    s.snapshotDue kept = s.beginWrite s.olderGen (s.snapshotOf kept) := by
  simp [State.snapshotDue, hfit, hw]

end

theorem State.beginWrite_prg (s : State) (g : Nat) (c : Ckpt) :
    (s.beginWrite g c).prg = { s.prg with writing := some (g, c), gens := tdel s.prg.gens g } := rfl

/-- Without a kept checkpoint a snapshot holds the tick, the stamp and the version of now. -/
theorem State.snapshotOf_none (s : State) : (s.snapshotOf none).tick = s.tickNo ∧ (s.snapshotOf none).stamp = s.reg64 R.CML_STAMP_LO ∧
    (s.snapshotOf none).version = s.litVer := ⟨rfl, rfl, rfl⟩

theorem State.beginWrite_spec (s : State) (g : Nat) (c : Ckpt) : (s.beginWrite g c).rd (genBase g) 8 = 0 ∧
    ∀ a, outside (genBase g) 8 a → (s.beginWrite g c).byte a = s.byte a := by
  have hbyte : ∀ a, (s.beginWrite g c).byte a = (s.wr (genBase g) 8 0).byte a := State.byte_congr (State.withPrg_mem _ _)
  refine ⟨?_, fun a ha => (hbyte a).trans (s.byte_wr_other _ _ _ _ ha)⟩
  rw [State.rd_congr (s := s.wr (genBase g) 8 0) _ _ fun a _ _ => hbyte a,
    State.rd_wr_same _ _ _ _ fun b hb _ => writeIgnored_mram (by unfold genBase at hb; unfold mramBase; omega), Nat.zero_mod]

/-- A snapshot that is due begins to replace the older generation by the restart state of this tick (R198). -/
theorem State.localSnapshot_spec {s : State} (hran : s.prg.ran = true) (hper : s.f F.PRG_CTRL_CKPT_PERIOD ≠ 0) (hver : s.litVer ≠ 0)
    (hdue : s.f F.PRG_CTRL_CKPT_PERIOD ≤ s.prg.since + 1) (hfit : s.ckptFits = true) (hw : s.prg.writing = none) :
    ∃ t g c, s.localSnapshot none = t ∧ t.prg.since = 0 ∧ t.prg.writing = some (g, c) ∧ c.tick = s.tickNo ∧
      c.stamp = s.reg64 R.CML_STAMP_LO ∧ c.version = s.litVer ∧ tget? t.prg.gens g = none ∧ t.rd (genBase g) 8 = 0 ∧
      ∀ a, outside (genBase g) 8 a → t.byte a = s.byte a := by
  have hshown := s.regsOnly_snapshotTaken
  have hreg : ∀ a, a ∉ [R.PRG_STATUS, R.PRG_CKPT] → s.snapshotTaken.reg a = s.reg a := hshown.2
  have hreg64 : ∀ a, a ∉ [R.PRG_STATUS, R.PRG_CKPT] → a + 4 ∉ [R.PRG_STATUS, R.PRG_CKPT] → s.snapshotTaken.reg64 a = s.reg64 a :=
    fun a h h' => by rw [State.reg64, hreg a h, hreg _ h', State.reg64]
  have hprg : s.snapshotTaken.prg = { s.prg with since := 0 } := State.regsOnly_prg hshown
  have hfits : s.snapshotTaken.ckptFits = true := (State.ckptFits_showCkpt _).trans hfit
  have hidle : s.snapshotTaken.prg.writing = none := by rw [hprg]; exact hw
  have hbegins : s.localSnapshot none = s.snapshotTaken.beginWrite s.snapshotTaken.olderGen (s.snapshotTaken.snapshotOf none) :=
    (State.localSnapshot_due hran hper hver hdue).trans (State.snapshotDue_begins hfits hidle)
  obtain ⟨hzero, hbyte⟩ := s.snapshotTaken.beginWrite_spec s.snapshotTaken.olderGen (s.snapshotTaken.snapshotOf none)
  obtain ⟨htick, hstamp, hver⟩ := s.snapshotTaken.snapshotOf_none
  refine ⟨_, s.snapshotTaken.olderGen, s.snapshotTaken.snapshotOf none, hbegins, ?_⟩
  rw [State.beginWrite_prg, hprg, htick, hstamp, hver]
  exact ⟨rfl, rfl, hreg64 _ (by decide) (by decide), hreg64 _ (by decide) (by decide), congrArg BitVec.toNat (hreg _ (by decide)),
    tget?_tdel_same _ _, hzero, fun a ha => (hbyte a ha).trans (State.byte_congr (State.regsOnly_mem hshown) a)⟩

/-! ## The end of a snapshot's write -/

theorem State.snapshotDone_none {s : State} (h : s.prg.writing = none) : s.snapshotDone = s := by
  simp [State.snapshotDone, h]

/-- The state in which a snapshot's write has ended. -/
def State.writeEnded (s : State) : State := { s with prg := { s.prg with writing := none } }

/-- The state in which generation g is written and listed as valid. -/
def State.genListed (s : State) (g : Nat) (c : Ckpt) : State :=
  (s.writeEnded.writeGen g c).withPrg { s.writeEnded.prg with gens := tput s.prg.gens g c }

section
variable {s : State} {g : Nat} {c : Ckpt} (h : s.prg.writing = some (g, c)) (ha : s.f F.REC_STATUS_AFTERGLOW = 0)
include h ha

theorem State.snapshotDone_writes : s.snapshotDone = (s.genListed g c).showCkpt := by
  have hlight : s.writeEnded.b F.REC_STATUS_AFTERGLOW = false := by
    have hf : s.writeEnded.f F.REC_STATUS_AFTERGLOW = 0 := ha
    simp [State.b, hf]
  unfold State.snapshotDone
  rw [h]
  change (if s.writeEnded.b F.REC_STATUS_AFTERGLOW = true then s.writeEnded else _) = _
  rw [hlight]
  rfl

theorem State.snapshotDone_mem : s.snapshotDone.mem = (s.writeEnded.writeGen g c).mem := by
  rw [State.snapshotDone_writes h ha, State.regsOnly_mem (s.genListed g c).regsOnly_showCkpt, State.genListed, State.withPrg_mem]

theorem State.snapshotDone_prg : s.snapshotDone.prg = { s.writeEnded.prg with gens := tput s.prg.gens g c } := by
  rw [State.snapshotDone_writes h ha, State.regsOnly_prg (s.genListed g c).regsOnly_showCkpt, State.genListed, State.withPrg_prg]

/-- A generation whose write has ended is valid, and its header shows it (R198). -/
theorem State.snapshotDone_spec : s.snapshotDone.prg.writing = none ∧ tget? s.snapshotDone.prg.gens g = some c ∧
    s.snapshotDone.rd (genBase g) 8 = c.seq % 2 ^ 64 ∧
    ∀ a, a < genBase g ∨ (genState g + c.size ≤ a ∧ genBase g + 12 + c.header.length ≤ a) → s.snapshotDone.byte a = s.byte a := by
  have hbyte : ∀ a, s.snapshotDone.byte a = (s.writeEnded.writeGen g c).byte a := State.byte_congr (State.snapshotDone_mem h ha)
  rw [State.snapshotDone_prg h ha]
  refine ⟨rfl, tget?_tput_same _ _ _, ?_, fun a hout => ?_⟩
  · rw [State.rd_congr (s := s.writeEnded.writeGen g c) _ _ fun b _ _ => hbyte b, State.rd_writeGen_seq]
  · rw [hbyte, State.byte_writeGen _ _ _ hout]
    rfl

end

/-! ## The end of a trial -/

/-- The registers' part of a trial's confirmation. -/
def State.trialEnded (s : State) : State :=
  ((s.put F.PRG_STATUS_TRIAL 0).put F.PRG_STATUS_FAILS 0).put F.PRG_TRIAL_CNT_TCNT 0

theorem State.regsOnly_trialEnded (s : State) : s.regsOnly s.trialEnded [R.PRG_STATUS, R.PRG_TRIAL_CNT] :=
  State.regsOnly_trans (s.regsOnly_put 0 (by decide)) (State.regsOnly_trans (State.regsOnly_put _ 0 (by decide)) (State.regsOnly_put _ 0 (by decide)))

theorem State.f_trialEnded (s : State) : s.trialEnded.f F.PRG_STATUS_TRIAL = 0 ∧ s.trialEnded.f F.PRG_STATUS_FAILS = 0 ∧
    s.trialEnded.f F.PRG_TRIAL_CNT_TCNT = 0 := by
  unfold State.trialEnded
  refine ⟨?_, ?_, ?_⟩
  · rw [State.f_put_addr _ _ _ _ (by decide), State.f_put_bits _ _ _ _ (by decide) (by decide), State.f_put_same _ _ _ (by decide) (by decide),
      Nat.zero_mod]
  · rw [State.f_put_addr _ _ _ _ (by decide), State.f_put_same _ _ _ (by decide) (by decide), Nat.zero_mod]
  · rw [State.f_put_same _ _ _ (by decide) (by decide), Nat.zero_mod]

theorem State.confirmTrial_spec {s : State} (h : s.f F.PRG_STATUS_TRIAL = 1) : s.confirmTrial.f F.PRG_STATUS_TRIAL = 0 ∧
    s.confirmTrial.f F.PRG_STATUS_FAILS = 0 ∧ s.confirmTrial.f F.PRG_TRIAL_CNT_TCNT = 0 ∧
    s.logAnd s.confirmTrial [R.PRG_STATUS, R.PRG_TRIAL_CNT] := by
  have hconfirm : s.confirmTrial = s.trialEnded.writeRoles.event 0x0304 s.versions := if_pos (by simp [State.b, h])
  have hlog : s.trialEnded.logFrame s.confirmTrial :=
    hconfirm ▸ State.logFrame_trans (State.logFrame_writeRoles _) (State.logFrame_event _ _ _)
  obtain ⟨htrial, hfails, hcount⟩ := s.f_trialEnded
  exact ⟨(State.logFrame_f hlog _ rfl).trans htrial, (State.logFrame_f hlog _ rfl).trans hfails, (State.logFrame_f hlog _ rfl).trans hcount,
    State.logAnd_of_regsOnly s.regsOnly_trialEnded hlog⟩

theorem exec_trialConfirmed {s : State} (h : s.f F.PRG_STATUS_TRIAL = 1) (hc : max 1 (s.f F.PRG_CTRL_TRIAL_TICKS) ≤ s.f F.PRG_TRIAL_CNT_TCNT) :
    exec .trialConfirmed s = .next s.confirmTrial := by
  have hdue : (s.b F.PRG_STATUS_TRIAL && decide (max 1 (s.f F.PRG_CTRL_TRIAL_TICKS) ≤ s.f F.PRG_TRIAL_CNT_TCNT)) = true := by
    rw [decide_eq_true hc, State.b, h]; rfl
  exact if_pos hdue

theorem exec_trialConfirmed_early {s : State} (h : s.f F.PRG_TRIAL_CNT_TCNT < s.f F.PRG_CTRL_TRIAL_TICKS) : exec .trialConfirmed s = .next s := by
  have hearly : ¬max 1 (s.f F.PRG_CTRL_TRIAL_TICKS) ≤ s.f F.PRG_TRIAL_CNT_TCNT := by omega
  have hwaits : (s.b F.PRG_STATUS_TRIAL && decide (max 1 (s.f F.PRG_CTRL_TRIAL_TICKS) ≤ s.f F.PRG_TRIAL_CNT_TCNT)) = false := by
    rw [decide_eq_false hearly, Bool.and_false]
  exact if_neg (Bool.eq_false_iff.mp hwaits)

/-! ## The statement -/

theorem exec_localSnapshot {s : State} (h : s.standby = false) : exec .localSnapshot s = .next (s.localSnapshot none) := by
  have hkept : (if s.standby then s.pair.committed else none) = none := by rw [h]; rfl
  exact congrArg (fun k => Host.Outcome.next (s.localSnapshot k)) hkept

/-- Settles O33: each clause is what its command's lemma says of a restore, of a snapshot's begin and end, or of a trial. -/
theorem restartsSnapshotsAndTrials : Obligations.RestartsSnapshotsAndTrials := by
  unfold Obligations.RestartsSnapshotsAndTrials
  refine ⟨fun s => ⟨fun h ok => ?_, fun hr hs hp ok => ?_, fun g c hr hs hp hi hg => ?_, fun w ok hr hs h => ?_, fun h ok => ?_, fun h => ?_,
    fun hsb hran => ?_, fun hsb hran hper hver hdue hfit hw => ?_, rfl, fun g c h ha => ?_, fun h => ?_, fun h hc => ?_, exec_trialConfirmed_early⟩,
    fun s => ⟨fun _ => rfl, rfl, rfl, exec_answers _ s⟩⟩
  · exact congrArg Host.Outcome.next (State.restoreDone_none h ok)
  · exact ⟨_, congrArg Host.Outcome.next (State.restoreDone_cold hr hs hp ok), rfl, rfl⟩
  · exact ⟨_, congrArg Host.Outcome.next (State.restoreDone_warm hr hs hp hi hg), rfl, rfl⟩
  · exact ⟨_, congrArg Host.Outcome.next (State.restoreDone_fails hr hs h), s.restoreFails_spec⟩
  · exact congrArg Host.Outcome.next (State.restoreDone_ready h ok)
  · exact ⟨_, congrArg Host.Outcome.next (State.localSnapshot_counts (.inl h)), rfl⟩
  · rw [exec_localSnapshot hsb]
    exact congrArg Host.Outcome.next (State.localSnapshot_counts (.inr (.inr (.inl ⟨hran, rfl⟩))))
  · obtain ⟨t, g, c, ht, hspec⟩ := State.localSnapshot_spec hran hper hver hdue hfit hw
    exact ⟨t, g, c, (exec_localSnapshot hsb).trans (congrArg Host.Outcome.next ht), hspec⟩
  · exact ⟨_, rfl, State.snapshotDone_spec h ha⟩
  · exact congrArg Host.Outcome.next (State.snapshotDone_none h)
  · exact ⟨_, exec_trialConfirmed h hc, State.confirmTrial_spec h⟩
end Sys2Proof.Machine
end

section
/-!
An automatic rollback that finds a start waiting beside PEND, which O34 takes no notice of (R24, R189, R209): the rollback, and a module whose
Shade holds an image that passes its checks (R204).
-/
namespace Sys2Proof.Machine

/-! ## Automatic rollback in Stop -/

theorem State.autoRollback_inStop {s : State} (hf : s.f F.PRG_STATUS_FAILS = 3) (hl : s.prg.loading = none) (hm : s.mode = .stop)
    (hr : (s.put F.PRG_MODE_STOP_CAUSE 4).shadeReason = none) :
    s.autoRollback = (s.put F.PRG_MODE_STOP_CAUSE 4).rotateBack.startLoad .auto := by
  unfold State.autoRollback
  rw [if_pos ⟨hf, hl⟩, if_pos hm]
  dsimp only
  rw [hr]

/-- A load replaces every start that waits, one that came too late for PEND too (R189). -/
theorem State.pendLate_startLoad (s : State) (k : Loading) : (s.startLoad k).prg.pendLate = none := rfl

/-- What an image needs to pass its checks where its version may be the Lit's. -/
theorem State.imageCheck_none {s : State} {h : Nat} (hver : s.rd h 4 ≠ 0) (hcrc : s.slotCrcOk h = true) (hsect : s.checkSections h = none)
    (hrest : firstOf [(s.asImage h).checkVariant h, (s.asImage h).checkLayout, (s.asImage h).checkLibrary, (s.asImage h).checkPairing,
      (s.asImage h).checkTasks, (s.asImage h).checkTable h] = none) : s.imageCheck h false = none := by
  unfold State.imageCheck
  dsimp only
  rw [if_neg hver, if_neg (by simp), if_neg (by simp [hcrc]), hsect]
  exact hrest

/-! ## A CRC that is evaluated byte by byte -/

/-- A function of a number, applied once the number is known. -/
def withValue (x : Nat) (k : Nat → Nat) : Nat := match x with | 0 => k 0 | n + 1 => k (n + 1)

theorem withValue_eq (x : Nat) (k : Nat → Nat) : withValue x k = k x := by cases x <;> rfl

/-- The CRC's register after a list of bytes, each step finished before the next. -/
def crcRun : List Byte → Nat → Nat
  | [], c => c
  | b :: l, c => withValue (crcStep 8 (c ^^^ b.toNat)) (crcRun l)

theorem crc32c_eq_crcRun (l : List Byte) : crc32c l = crcRun l 0xFFFFFFFF ^^^ 0xFFFFFFFF := by
  have hrun : ∀ (l : List Byte) (c : Nat), l.foldl (fun c b => crcStep 8 (c ^^^ b.toNat)) c = crcRun l c := fun l => by
    induction l with
    | nil => exact fun _ => rfl
    | cons b l ih => exact fun c => by rw [List.foldl_cons, ih, crcRun, withValue_eq]
  rw [crc32c, hrun]

/-! ## Stretches of zeros -/

theorem State.rdBytes_append (s : State) (a m n : Nat) : s.rdBytes a (m + n) = s.rdBytes a m ++ s.rdBytes (a + m) n := by
  simp [State.rdBytes, List.range_add, Nat.add_assoc]

theorem tget?_eq_none {β : Type} (l : Tbl β) (k : Nat) (h : ∀ e ∈ l, e.1 ≠ k) : tget? l k = none := by
  induction l with
  | nil => rfl
  | cons e l ih =>
    obtain ⟨j, v⟩ := e
    rw [List.forall_mem_cons] at h
    rw [tget?, if_neg h.1, ih h.2]

/-- Where memory lists nothing of a stretch above the context store, it reads as zeros. -/
theorem State.rdBytes_zeros {s : State} {a n : Nat} (ha : 0x1000000 ≤ a) (h : ∀ e ∈ s.mem, e.1 < a ∨ a + n ≤ e.1) :
    s.rdBytes a n = List.replicate n 0 := by
  refine List.eq_replicate_iff.mpr ⟨s.length_rdBytes a n, fun b hb => ?_⟩
  obtain ⟨i, hi, rfl⟩ := List.mem_map.mp hb
  have hi := List.mem_range.mp hi
  have hnone : tget? s.mem (a + i) = none := tget?_eq_none _ _ fun e he => by have := h e he; omega
  rw [State.byte, tget, hnone, Option.getD_none, memDefault, if_neg (by omega)]

/-! ## A Shade that passes its checks -/

/-- The smallest variant in Stop after an automatic rollback: three starts of its Lit program have failed, and RUN_COLD came in the cycle of a boundary. Slot 1, its Shade,
holds an image of version 2 and 0x1008 bytes with one section, the setting that gives the four services to the first pair of network ports. -/
def State.lateRetry : State :=
  { (((State.reset.put F.PRG_LIT_VER_VER 1).put F.PRG_SHADE_VER_VER 2).put F.PRG_STATUS_FAILS 3).put F.PRG_MODE_STOP_CAUSE 4 with
    variant := { dieStep := 1, grade := .s, gnss2 := false, panelP := false }
    prg := { pendLate := some 2 }
    mem := [(0x83400000, 2), (0x83400004, 0x08), (0x83400005, 0x10), (0x83400008, 0x75), (0x83400009, 0xFB), (0x8340000A, 0xE3),
      (0x8340000B, 0x53), (0x83400024, 1), (0x83400040, 2), (0x83400045, 0x10), (0x83400048, 8), (0x8340004C, 8), (0x83400050, 0xB4),
      (0x83400051, 0x98), (0x83400052, 0x59), (0x83400053, 0x3F), (0x83401001, 0x01), (0x83401002, 0x0C), (0x83401003, 0x40),
      (0x83401007, 0x9E)] }

/-- The bytes that the CRC of the image covers: its header, zeros, and its setting. -/
theorem State.imageBytes_lateRetry : State.lateRetry.rdBytes 0x8340000C 0xFFC =
    State.lateRetry.rdBytes 0x8340000C 0x48 ++ (List.replicate 0xFAC 0 ++ State.lateRetry.rdBytes 0x83401000 8) := by
  have hzeros : State.lateRetry.rdBytes 0x83400054 0xFAC = List.replicate 0xFAC 0 := State.rdBytes_zeros (by decide) (by decide)
  rw [← hzeros, ← State.rdBytes_append State.lateRetry 0x83400054 0xFAC 8, ← State.rdBytes_append State.lateRetry 0x8340000C 0x48 0xFB4]

theorem State.slotCrcOk_lateRetry : State.lateRetry.slotCrcOk (slotBase 1) = true := by
  have hused : State.lateRetry.usedBytes (slotBase 1) = 0x1008 := by decide +kernel
  have hcrc : crc32c (State.lateRetry.rdBytes 0x8340000C 0xFFC) = State.lateRetry.rd 0x83400008 4 := by
    rw [crc32c_eq_crcRun, State.imageBytes_lateRetry]
    decide +kernel
  unfold State.slotCrcOk
  rw [hused, Bool.and_eq_true, decide_eq_true_iff, decide_eq_true_iff]
  exact ⟨by decide, hcrc⟩

theorem State.imageCheck_lateRetry : State.lateRetry.imageCheck (slotBase 1) false = none :=
  State.imageCheck_none (by decide +kernel) State.slotCrcOk_lateRetry (by decide +kernel) (by decide +kernel)

theorem State.shadeReason_lateRetry : (State.lateRetry.put F.PRG_MODE_STOP_CAUSE 4).shadeReason = none := by
  have hsame : State.lateRetry.put F.PRG_MODE_STOP_CAUSE 4 = State.lateRetry := rfl
  have hver : State.lateRetry.reg R.PRG_SHADE_VER ≠ 0 := by decide
  have hslot : State.lateRetry.shadeSlot = slotBase 1 := by decide
  rw [hsame, State.shadeReason, if_neg hver, hslot, State.imageCheck_lateRetry]

/-- Refutes O34: its first clause says that AUTO_ROLLBACK in Stop changes nothing of the lifecycle's records but the load that begins. Where a
RUN_COLD that came in the cycle of a boundary waits for the next one, the load replaces it (R189), and it waits no more. -/
theorem not_loadsExchangesAndAutomaticRollback : ¬ Obligations.LoadsExchangesAndAutomaticRollback := by
  intro h
  obtain ⟨hcommands, -⟩ := h
  obtain ⟨hauto, -⟩ := hcommands State.lateRetry
  have hfails : State.lateRetry.f F.PRG_STATUS_FAILS = 3 := by decide
  have hmode : State.lateRetry.mode = .stop := by decide
  obtain ⟨t, ht, -, -, hprg, -⟩ := hauto hfails rfl hmode State.shadeReason_lateRetry
  have hrolled : State.lateRetry.autoRollback = t := Host.Outcome.next.inj ht
  rw [State.autoRollback_inStop hfails rfl hmode State.shadeReason_lateRetry] at hrolled
  have hreplaced : t.prg.pendLate = none := hrolled ▸ State.pendLate_startLoad _ _
  have hkept : t.prg.pendLate = some 2 := congrArg PrgSt.pendLate hprg
  exact absurd (hreplaced.symm.trans hkept) (by decide)
end Sys2Proof.Machine
end

section
/-!
Frames of the solver's commands, and the bytes of a result record (R227, R233).
-/
namespace Sys2Proof.Machine

/-! ## Frames -/

theorem State.regsOnly_azs {s t : State} {l : List Nat} (h : s.regsOnly t l) : t.azs = s.azs := by
  have e := congrArg State.azs h.1; exact e
theorem State.logFrame_azs {s t : State} (h : s.logFrame t) : t.azs = s.azs := by
  have e := congrArg State.azs h.1; exact e
theorem State.logFrame_tick {s t : State} (h : s.logFrame t) : t.tick = s.tick := by
  have e := congrArg State.tick h.1; exact e

/-- Two changes of listed registers and of the log are one. -/
theorem State.logAnd_trans {s t u : State} {l : List Nat} (h : s.logAnd t l) (h' : t.logAnd u l) : s.logAnd u l := by
  obtain ⟨hrest, hreg, hbyte⟩ := h
  obtain ⟨hrest', hreg', hbyte'⟩ := h'
  refine ⟨?_, fun a ha hl => (hreg' a ha hl).trans (hreg a ha hl), fun a ha => (hbyte' a ha).trans (hbyte a ha)⟩
  exact (congrArg (fun v : State =>
    ({ v with mem := s.mem, regs := s.regs, recorder := s.recorder, irq := s.irq, shd := s.shd } : State)) hrest').trans hrest

/-- A change of memory alone leaves the state with its memory replaced. -/
theorem State.eq_withMem {s t : State} (h : s.onlyMem t) : t = { s with mem := t.mem } := by
  conv_rhs => rw [← show ({ t with mem := s.mem } : State) = s from h]

/-- No byte from problem memory on ignores writes. -/
theorem writeIgnored_above {b : Nat} (h : probBase ≤ b) : writeIgnored b = false := by
  simp only [probBase] at h
  simp only [writeIgnored, ctxBase, Bool.or_eq_false_iff, Bool.and_eq_false_iff, decide_eq_false_iff_not]
  omega

theorem State.draw_lt (s : State) {n : Nat} (h : 0 < n) : (s.draw n).1 < n := Nat.mod_lt _ h

/-! ## Numbers among stored bytes -/

/-- A number among bytes that are stored in or above problem memory reads back. -/
theorem State.rd_wrBytes_within (s : State) {a : Nat} (ha : probBase ≤ a) (l l' : List Byte) (n v : Nat) :
    (s.wrBytes a (l ++ (bytesLE n v ++ l'))).rd (a + l.length) n = v % 256 ^ n := by
  rw [State.wrBytes_append, State.wrBytes_append, State.wrBytes_bytesLE, length_bytesLE,
    State.rd_congr _ _ fun b _ h => State.byte_wrBytes_other _ _ _ b (.inl h),
    State.rd_wr_same _ _ _ _ fun b h _ => writeIgnored_above (by omega)]

theorem length_flatten_bytesLE (n : Nat) (l : List Nat) : (l.map (bytesLE n)).flatten.length = n * l.length := by
  induction l with
  | nil => rfl
  | cons v l ih => rw [List.map_cons, List.flatten_cons, List.length_append, length_bytesLE, ih, List.length_cons, Nat.mul_succ, Nat.add_comm]

/-- FP64 words stored one after the other read back. -/
theorem State.rd_wrBytes_words (s : State) {a i : Nat} (ha : probBase ≤ a) (l : List Nat) (hi : i < l.length) :
    (s.wrBytes a (l.map (bytesLE 8)).flatten).rd (a + 8 * i) 8 = l.getD i 0 % 2 ^ 64 := by
  have hsplit : l = l.take i ++ l.getD i 0 :: l.drop (i + 1) := by
    rw [List.getD_eq_getElem l 0 hi, ← List.drop_eq_getElem_cons hi, List.take_append_drop]
  have hlength : ((l.take i).map (bytesLE 8)).flatten.length = 8 * i := by
    rw [length_flatten_bytesLE, List.length_take, Nat.min_eq_left hi.le]
  have hbytes : (l.map (bytesLE 8)).flatten =
      ((l.take i).map (bytesLE 8)).flatten ++ (bytesLE 8 (l.getD i 0) ++ ((l.drop (i + 1)).map (bytesLE 8)).flatten) := by
    conv_lhs => rw [hsplit]
    rw [List.map_append, List.flatten_append, List.map_cons, List.flatten_cons]
  rw [hbytes, ← hlength]
  exact s.rd_wrBytes_within ha _ _ 8 _

/-! ## A result record -/

/-- The status word of a record (R227). -/
def AzsRec.status (r : AzsRec) (usable : Bool) : Nat :=
  2 ^ 30 * b2n usable + 2 ^ 29 * b2n r.never + min 255 r.age * 2 ^ 16 + r.iter % 256 * 2 ^ 8 + 32 * b2n r.skip + 16 * b2n r.miss +
    8 * b2n r.numf + 4 * b2n r.reg + 2 * b2n r.cold + b2n r.conv

/-- What follows the tick in a record. -/
def AzsRec.tail (r : AzsRec) : List Byte :=
  bytesLE 4 r.rp ++ bytesLE 4 r.rd ++ bytesLE 4 r.obj ++ bytesLE 4 r.delta

theorem b2n_le_one (b : Bool) : b2n b ≤ 1 := by cases b <;> decide

theorem ite_eq_mul_b2n (b : Bool) (k : Nat) : (if b = true then k else 0) = k * b2n b := by cases b <;> simp [b2n]

theorem AzsRec.bytes_eq (r : AzsRec) (q : Nat) (usable : Bool) (tick : Nat) : r.bytes q usable tick =
    bytesLE 4 (r.status usable) ++ (bytesLE 2 q ++ (bytesLE 1 (min 255 r.pivots) ++ [0] ++
      (bytesLE 8 tick ++ (r.tail ++ (r.x.map (bytesLE 8)).flatten)))) := by
  simp only [AzsRec.bytes, AzsRec.status, AzsRec.tail, ite_eq_mul_b2n, one_mul, List.append_assoc]

theorem AzsRec.length_bytes (r : AzsRec) (q : Nat) (usable : Bool) (tick : Nat) : (r.bytes q usable tick).length = 32 + 8 * r.x.length := by
  simp only [AzsRec.bytes_eq, AzsRec.tail, List.length_append, length_bytesLE, length_flatten_bytesLE, List.length_singleton]
  omega

/-- A status word fits its register; its fields say how fresh the record is and how it was found. -/
theorem AzsRec.status_fields (r : AzsRec) (usable : Bool) : r.status usable < 2 ^ 32 ∧
    r.status usable / 2 ^ 29 % 2 = b2n r.never ∧ r.status usable / 2 ^ 16 % 256 = min 255 r.age ∧ r.status usable / 8 % 2 = b2n r.numf ∧
      r.status usable / 4 % 2 = b2n r.reg ∧ r.status usable / 2 % 2 = b2n r.cold := by
  have h1 := b2n_le_one usable
  have h2 := b2n_le_one r.never
  have h3 := b2n_le_one r.skip
  have h4 := b2n_le_one r.miss
  have h5 := b2n_le_one r.numf
  have h6 := b2n_le_one r.reg
  have h7 := b2n_le_one r.cold
  have h8 := b2n_le_one r.conv
  unfold AzsRec.status
  omega

section
variable (s : State) {a : Nat} (ha : probBase ≤ a) (r : AzsRec) (q : Nat) (usable : Bool) (tick : Nat)
include ha

theorem State.rd_record_status : (s.wrBytes a (r.bytes q usable tick)).rd a 4 = r.status usable := by
  rw [AzsRec.bytes_eq]
  exact (s.rd_wrBytes_within ha [] _ 4 _).trans (Nat.mod_eq_of_lt (r.status_fields usable).1)

theorem State.rd_record_number (hq : q < 2 ^ 16) : (s.wrBytes a (r.bytes q usable tick)).rd (a + 4) 2 = q := by
  rw [AzsRec.bytes_eq]
  exact (s.rd_wrBytes_within ha (bytesLE 4 _) _ 2 q).trans (Nat.mod_eq_of_lt hq)

theorem State.rd_record_tick (ht : tick < 2 ^ 64) : (s.wrBytes a (r.bytes q usable tick)).rd (a + 8) 8 = tick := by
  have hassoc : r.bytes q usable tick = (bytesLE 4 (r.status usable) ++ (bytesLE 2 q ++ (bytesLE 1 (min 255 r.pivots) ++ [0]))) ++
      (bytesLE 8 tick ++ (r.tail ++ (r.x.map (bytesLE 8)).flatten)) := by
    rw [AzsRec.bytes_eq]; simp only [List.append_assoc]
  rw [hassoc]
  exact (s.rd_wrBytes_within ha _ _ 8 tick).trans (Nat.mod_eq_of_lt ht)

theorem State.rd_record_x {i : Nat} (hi : i < r.x.length) :
    (s.wrBytes a (r.bytes q usable tick)).rd (a + 32 + 8 * i) 8 = r.x.getD i 0 % 2 ^ 64 := by
  have hassoc : r.bytes q usable tick = (bytesLE 4 (r.status usable) ++ (bytesLE 2 q ++ (bytesLE 1 (min 255 r.pivots) ++ [0] ++
      (bytesLE 8 tick ++ r.tail)))) ++ (r.x.map (bytesLE 8)).flatten := by
    rw [AzsRec.bytes_eq]; simp only [List.append_assoc]
  rw [hassoc, State.wrBytes_append]
  exact State.rd_wrBytes_words _ (Nat.le_add_right_of_le ha) r.x hi
end
end Sys2Proof.Machine
end

section
/-!
What the end of a problem writes: its record, its factor, its warm-start block, and the batch that it leaves (R226 to R236).
-/
namespace Sys2Proof.Machine

/-! ## The older record of a problem -/

theorem State.onlyMem_putRec (s : State) (q : Nat) (d : AzsDesc) (r : AzsRec) : s.onlyMem (s.putRec q d r) := s.onlyMem_wrBytes _ _

section
variable (s : State) (q : Nat) (d : AzsDesc) {r : AzsRec} (hx : r.x.length = d.n)
include hx

theorem AzsRec.length_bytes_recSize (usable : Bool) (tick : Nat) : (r.bytes q usable tick).length = d.recSize := by
  rw [AzsRec.length_bytes, hx]; rfl

theorem State.byte_putRec {i : Nat} (hi : i < d.recSize) :
    (s.putRec q d r).byte (d.recAt (1 - s.curRec d) + i) = (r.bytes q (s.usable d.pol r) s.tickNo).getD i 0 :=
  s.byte_wrBytes _ _ (fun _ h _ => writeIgnored_above ((d.le_recAt _).trans h)) (by rwa [AzsRec.length_bytes_recSize q d hx])

theorem State.byte_putRec_other {b : Nat} (h : outside (d.recAt (1 - s.curRec d)) d.recSize b) : (s.putRec q d r).byte b = s.byte b :=
  s.byte_wrBytes_other _ _ b (by rwa [AzsRec.length_bytes_recSize q d hx])
end

theorem State.length_carryRec (s : State) (d : AzsDesc) : (s.carryRec d).x.length = d.n := by simp [State.carryRec]

/-- The older record is one of the two in the problem's area. -/
theorem State.olderRec_bounds (s : State) (d : AzsDesc) :
    probBase + d.res ≤ d.recAt (1 - s.curRec d) ∧ d.recAt (1 - s.curRec d) + d.recSize ≤ probBase + (d.res + 2 * d.recSize) := by
  have h : 1 - s.curRec d = 0 ∨ 1 - s.curRec d = 1 := by omega
  unfold AzsDesc.recAt
  rcases h with h | h <;> rw [h] <;> omega

/-- Which record is the current one rests on the problem's result area. -/
theorem State.curRec_congr {s t : State} {d : AzsDesc}
    (h : ∀ b, probBase + d.res ≤ b → b < probBase + (d.res + 2 * d.recSize) → t.byte b = s.byte b) : t.curRec d = s.curRec d := by
  have hsize : 32 ≤ d.recSize := Nat.le_add_right _ _
  have h0 : t.rd (d.recAt 0 + 8) 8 = s.rd (d.recAt 0 + 8) 8 :=
    State.rd_congr _ _ fun b hl hh => h b (by unfold AzsDesc.recAt at hl; omega) (by unfold AzsDesc.recAt at hh; omega)
  have h1 : t.rd (d.recAt 1 + 8) 8 = s.rd (d.recAt 1 + 8) 8 :=
    State.rd_congr _ _ fun b hl hh => h b (by unfold AzsDesc.recAt at hl; omega) (by unfold AzsDesc.recAt at hh; omega)
  unfold State.curRec
  rw [h0, h1]

/-! ## The factor and the warm-start block -/

theorem State.onlyMem_putFactor (s : State) (d : AzsDesc) (r : SolveRun) : s.onlyMem (s.putFactor d r) := by
  unfold State.putFactor
  split
  · exact s.onlyMem_refl
  · exact s.onlyMem_wrBytes _ _

theorem AzsDesc.factor_le_workSize {d : AzsDesc} (h : d.g ≠ 1) : 8 * (d.n * (d.n + 1) / 2) ≤ d.workSize := by
  unfold AzsDesc.workSize
  rw [if_neg h, Nat.mul_assoc]
  omega

theorem length_flatten_words (g : Nat → Nat) (k : Nat) : ((List.range k).map fun i => bytesLE 8 (g i)).flatten.length = 8 * k := by
  have h := length_flatten_bytesLE 8 ((List.range k).map g)
  rwa [List.map_map, List.length_map, List.length_range] at h

theorem State.byte_putFactor_other (s : State) {d : AzsDesc} (r : SolveRun) {b : Nat} (h : outside (probBase + d.work) d.workSize b) :
    (s.putFactor d r).byte b = s.byte b := by
  unfold State.putFactor
  split
  · rfl
  · next hg =>
    refine s.byte_wrBytes_other _ _ b ?_
    rw [length_flatten_words]
    have hle := AzsDesc.factor_le_workSize hg
    unfold outside at h
    omega

theorem State.onlyMem_azsUnseen (s : State) (d : AzsDesc) : s.onlyMem (s.azsUnseen d) := by
  unfold State.azsUnseen
  split
  · exact s.onlyMem_refl
  · exact s.onlyMem_putFactor _ _

theorem State.byte_azsUnseen_other (s : State) {d : AzsDesc} {b : Nat} (h : outside (probBase + d.work) d.workSize b) :
    (s.azsUnseen d).byte b = s.byte b := by
  unfold State.azsUnseen
  split
  · rfl
  · exact s.byte_putFactor_other _ h

theorem State.onlyMem_putWarm (s : State) (d : AzsDesc) (v : List Nat) : s.onlyMem (s.putWarm d v) := s.onlyMem_wrBytes _ _

theorem State.byte_putWarm_other (s : State) {d : AzsDesc} {v : List Nat} (hv : v.length = d.wsLen) {b : Nat}
    (h : outside (probBase + d.ws) (2 * d.blkSize) b) : (s.putWarm d v).byte b = s.byte b := by
  have hblock : ∀ k ≤ 1, outside (d.blkAt k) d.blkSize b := by
    intro k hk
    have hmul : k * d.blkSize ≤ 1 * d.blkSize := Nat.mul_le_mul_right _ hk
    unfold outside AzsDesc.blkAt at *
    omega
  refine s.byte_wrBytes_other _ _ b ?_
  simp only [List.length_append, length_bytesLE, length_flatten_bytesLE, hv]
  refine hblock _ ?_
  split_ifs <;> decide

/-! ## The iterates of a solve keep the problem's sizes -/

/-- An iterate has a word for each variable, slack and multiplier of a problem. -/
def Iterate.fits (i : Iterate) (d : AzsDesc) : Prop := i.x.length = d.n ∧ i.s.length = d.m ∧ i.l.length = d.m ∧ i.nu.length = d.p

theorem AzsDesc.fits_iterate (d : AzsDesc) (w : Nat → Nat) : (d.iterate w).fits d := by simp [Iterate.fits, AzsDesc.iterate]

theorem State.fits_startPoint (s : State) (d : AzsDesc) (start : Option (List Nat)) : (s.startPoint d start).fits d := by
  cases start with
  | some b =>
    obtain ⟨hx, hs, hl, hnu⟩ := d.fits_iterate fun j => if j < d.wsLen then b.getD j 0 else Config.warmBounds b (j - d.wsLen)
    unfold State.startPoint
    dsimp only
    split
    · exact ⟨hx, (List.length_map _).trans hs, (List.length_map _).trans hl, hnu⟩
    · exact ⟨hx, hs, hl, hnu⟩
  | none =>
    unfold State.startPoint
    dsimp only
    split
    · simp [Iterate.fits, State.vecPart, State.probWords]
    · exact d.fits_iterate _

theorem State.fits_nextIterate (s : State) (d : AzsDesc) (inp : List Nat) (i : Iterate) : (s.nextIterate d inp i).fits d := by
  unfold State.nextIterate
  dsimp only
  split <;> exact d.fits_iterate _

theorem State.fits_solveStep (s : State) (d : AzsDesc) (inp : List Nat) {r : SolveRun} (i : Nat) (h : r.it.fits d) :
    (s.solveStep d inp r i).it.fits d := by
  unfold State.solveStep
  split
  · exact h
  · exact s.fits_nextIterate d _ _

theorem State.fits_solve (s : State) (d : AzsDesc) (start : Option (List Nat)) : (s.solve d start).it.fits d :=
  List.foldlRecOn (List.range d.k) _ (motive := fun r : SolveRun => r.it.fits d) (s.fits_startPoint d start)
    fun _ hr i _ => s.fits_solveStep d _ i hr

/-! ## A problem that fails -/

/-- The record and the registers of a numerical failure, before it is logged. -/
def State.failShown (s : State) (q : Nat) (d : AzsDesc) : State :=
  ((s.putRec q d { s.carryRec d with numf := true }).count F.AZS_FAIL_CNT_NUMF).put F.AZS_STATUS_NUMF 1

theorem State.logFrame_azsFail (s : State) (q : Nat) (d : AzsDesc) : (s.failShown q d).logFrame (s.azsFail q d) := by
  unfold State.azsFail State.failShown
  generalize s.putRec q d _ = u
  exact State.logFrame_trans (State.logFrame_event _ _ _) (State.logFrame_assertSrc _ _)

theorem State.azs_azsFail (s : State) (q : Nat) (d : AzsDesc) : (s.azsFail q d).azs = s.azs := by
  rw [State.logFrame_azs (s.logFrame_azsFail q d), State.failShown, State.put_azs, State.count_azs, State.onlyMem_azs (s.onlyMem_putRec q d _)]

theorem State.byte_azsFail (s : State) (q : Nat) (d : AzsDesc) {b : Nat} (h : b < mramBase) :
    (s.azsFail q d).byte b = (s.putRec q d { s.carryRec d with numf := true }).byte b := by
  obtain ⟨-, -, hbyte⟩ := s.logFrame_azsFail q d
  exact (hbyte b h).trans (State.byte_congr (by rw [State.failShown, State.put_mem, State.count_mem]) b)

theorem State.numf_azsFail (s : State) (q : Nat) (d : AzsDesc) : (s.azsFail q d).f F.AZS_STATUS_NUMF = 1 := by
  rw [State.logFrame_f (s.logFrame_azsFail q d) _ rfl]
  exact State.f_put_same _ _ _ (by decide) (by decide)

theorem State.reg_azsFail (s : State) (q : Nat) (d : AzsDesc) {x : Nat} (hl : logReg x = false) (h : x ∉ [R.AZS_STATUS, R.AZS_FAIL_CNT]) :
    (s.azsFail q d).reg x = s.reg x := by
  obtain ⟨h1, h2⟩ : x ≠ R.AZS_STATUS ∧ x ≠ R.AZS_FAIL_CNT := by simpa using h
  rw [(s.logFrame_azsFail q d).2.1 x hl, State.failShown, State.reg_put_other _ _ _ _ h1, State.reg_count_other _ _ _ _ h2]
  exact State.reg_congr (State.onlyMem_regs (s.onlyMem_putRec q d _)) x

/-! ## A problem that runs to its last iteration -/

/-- The record of a solution (R227). -/
def State.solvedRec (s : State) (d : AzsDesc) (cold : Bool) (r : SolveRun) : AzsRec :=
  let tol := widen (s.rd (probBase + d.vec + 4) 4)
  let rp := s.primalResidual d r.it.x
  let rd := s.dualResidual d r.it
  { never := false, age := 0, iter := d.k, reg := decide (r.replaced ≠ 0), cold := cold,
    conv := dLe rp tol && dLe rd tol && (d.method = 1 || dLe (s.complementarity d r.it) tol),
    pivots := r.replaced, rp := narrow rp, rd := narrow rd, obj := narrow (s.objective d r.it.x), delta := 0, x := r.it.x }

/-- What a solve leaves before its result: the replaced pivots counted and the factor in the work area. -/
def State.factored (s : State) (d : AzsDesc) (r : SolveRun) : State := (s.azsReg r.replaced).putFactor d r

/-- The result of a solve: its record, and the final iterate in the older warm-start block. -/
def State.solved (s : State) (q : Nat) (d : AzsDesc) (cold : Bool) (r : SolveRun) : State :=
  (s.putRec q d (s.solvedRec d cold r)).putWarm d (r.it.x ++ r.it.s ++ r.it.l ++ r.it.nu)

theorem State.azsFinish_rejected {s : State} {d : AzsDesc} (q : Nat) (h : s.azsRejects d = true) : s.azsFinish q d = s.azsFail q d := if_pos h

theorem State.azsFinish_accepted {s : State} {d : AzsDesc} (q : Nat) (h : s.azsRejects d = false) :
    s.azsFinish q d =
      if (s.solve d (s.warmStart d)).failed then (s.factored d (s.solve d (s.warmStart d))).azsFail q d
      else ((s.factored d (s.solve d (s.warmStart d))).solved q d (s.warmStart d).isNone (s.solve d (s.warmStart d))).sendBlock q :=
  if_neg (by rw [h]; decide)

theorem State.regsOnly_azsReg (s : State) (k : Nat) : s.regsOnly (s.azsReg k) [R.AZS_STATUS, R.AZS_FAIL_CNT] := by
  unfold State.azsReg
  split
  · exact s.regsOnly_refl _
  · exact State.regsOnly_trans (s.regsOnly_put _ (by decide)) (State.regsOnly_put _ _ (by decide))

theorem State.azs_factored (s : State) (d : AzsDesc) (r : SolveRun) : (s.factored d r).azs = s.azs := by
  rw [State.factored, State.onlyMem_azs (State.onlyMem_putFactor _ d r), State.regsOnly_azs (s.regsOnly_azsReg r.replaced)]

theorem State.reg_factored (s : State) (d : AzsDesc) (r : SolveRun) {x : Nat} (h : x ∉ [R.AZS_STATUS, R.AZS_FAIL_CNT]) :
    (s.factored d r).reg x = s.reg x :=
  (State.reg_congr (State.onlyMem_regs (State.onlyMem_putFactor _ d r)) x).trans ((s.regsOnly_azsReg r.replaced).2 x h)

theorem State.byte_factored_other (s : State) {d : AzsDesc} (r : SolveRun) {b : Nat} (h : outside (probBase + d.work) d.workSize b) :
    (s.factored d r).byte b = s.byte b :=
  (State.byte_putFactor_other _ r h).trans (State.byte_congr (State.regsOnly_mem (s.regsOnly_azsReg r.replaced)) b)

theorem State.tickNo_factored (s : State) (d : AzsDesc) (r : SolveRun) : (s.factored d r).tickNo = s.tickNo :=
  State.tickNo_congr (s.reg_factored d r (by decide)) (s.reg_factored d r (by decide))

theorem State.onlyMem_solved (s : State) (q : Nat) (d : AzsDesc) (cold : Bool) (r : SolveRun) : s.onlyMem (s.solved q d cold r) :=
  State.onlyMem_trans (s.onlyMem_putRec q d _) (State.onlyMem_putWarm _ d _)

theorem State.azs_sendBlock (s : State) (q : Nat) : (s.sendBlock q).azs = s.azs := by unfold State.sendBlock; split <;> rfl
theorem State.regs_sendBlock (s : State) (q : Nat) : (s.sendBlock q).regs = s.regs := by unfold State.sendBlock; split <;> rfl
theorem State.mem_sendBlock (s : State) (q : Nat) : (s.sendBlock q).mem = s.mem := by unfold State.sendBlock; split <;> rfl

/-- However a problem ends, the array's own state is as it was. -/
theorem State.azs_azsFinish (s : State) (q : Nat) (d : AzsDesc) : (s.azsFinish q d).azs = s.azs := by
  cases h : s.azsRejects d with
  | true => rw [State.azsFinish_rejected q h, State.azs_azsFail]
  | false =>
    rw [State.azsFinish_accepted q h]
    split
    · rw [State.azs_azsFail, State.azs_factored]
    · rw [State.azs_sendBlock, State.onlyMem_azs (State.onlyMem_solved _ q d _ _), State.azs_factored]

/-! ## The areas of an admitted problem -/

/-- The result area shares no byte with the warm-start area and with the work area. -/
theorem AzsDesc.result_apart {d : AzsDesc} (h : apart [] d.written = true) :
    (d.res + 2 * d.recSize ≤ d.ws ∨ d.ws + 2 * d.blkSize ≤ d.res) ∧
      (d.workSize = 0 ∨ d.res + 2 * d.recSize ≤ d.work ∨ d.work + d.workSize ≤ d.res) := by
  have hrec : 2 * d.recSize ≠ 0 := by unfold AzsDesc.recSize; omega
  have hblk : 2 * d.blkSize ≠ 0 := by unfold AzsDesc.blkSize; omega
  by_cases hw : d.workSize = 0
  · have hl : d.written = [(d.res, 2 * d.recSize), (d.ws, 2 * d.blkSize)] := by simp [AzsDesc.written, hrec, hblk, hw]
    rw [hl] at h
    simp only [apart, overlap, List.any_cons, List.any_nil, Bool.and_eq_true, Bool.not_eq_true', Bool.or_eq_false_iff,
      decide_eq_false_iff_not] at h
    omega
  · have hl : d.written = [(d.res, 2 * d.recSize), (d.ws, 2 * d.blkSize), (d.work, d.workSize)] := by
      simp [AzsDesc.written, hrec, hblk, hw]
    rw [hl] at h
    simp only [apart, overlap, List.any_cons, List.any_nil, Bool.and_eq_true, Bool.not_eq_true', Bool.or_eq_false_iff,
      decide_eq_false_iff_not] at h
    omega

/-! ## The record of a solution -/

section
variable (s : State) (q : Nat) {d : AzsDesc} (cold : Bool) {r : SolveRun} (hfit : r.it.fits d)
include hfit

theorem Iterate.fits.length_words : (r.it.x ++ r.it.s ++ r.it.l ++ r.it.nu).length = d.wsLen := by
  obtain ⟨hx, hs, hl, hnu⟩ := hfit
  simp only [List.length_append, hx, hs, hl, hnu, AzsDesc.wsLen]
  omega

theorem State.byte_solved_other {b : Nat} (hrec : outside (d.recAt (1 - s.curRec d)) d.recSize b)
    (hws : outside (probBase + d.ws) (2 * d.blkSize) b) : (s.solved q d cold r).byte b = s.byte b := by
  have hx : (s.solvedRec d cold r).x.length = d.n := hfit.1
  exact (State.byte_putWarm_other _ hfit.length_words hws).trans (s.byte_putRec_other q d hx hrec)

/-- The warm-start block does not touch the record. -/
theorem State.rd_solved (hapart : d.res + 2 * d.recSize ≤ d.ws ∨ d.ws + 2 * d.blkSize ≤ d.res) {o n : Nat} (ho : o + n ≤ d.recSize) :
    (s.solved q d cold r).rd (d.recAt (1 - s.curRec d) + o) n =
      (s.putRec q d (s.solvedRec d cold r)).rd (d.recAt (1 - s.curRec d) + o) n := by
  obtain ⟨hlo, hhi⟩ := s.olderRec_bounds d
  exact State.rd_congr _ _ fun b _ _ => State.byte_putWarm_other _ hfit.length_words (by unfold outside; omega)

/-- The record of a solution: this tick, the problem's number, x, AGE 0, not NEVER, and COLD and REG as they were found (R227). -/
theorem State.solved_record (hapart : d.res + 2 * d.recSize ≤ d.ws ∨ d.ws + 2 * d.blkSize ≤ d.res) (hq : q < 2 ^ 16) :
    let t := s.solved q d cold r
    let a := d.recAt (1 - s.curRec d)
    t.rd (a + 8) 8 = s.tickNo ∧ t.rd (a + 4) 2 = q ∧ (∀ i, i < d.n → t.rd (a + 32 + 8 * i) 8 = r.it.x.getD i 0 % 2 ^ 64) ∧
      t.rd a 4 / 2 ^ 29 % 2 = 0 ∧ t.rd a 4 / 2 ^ 16 % 256 = 0 ∧ t.rd a 4 / 2 % 2 = b2n cold ∧ t.rd a 4 / 8 % 2 = 0 ∧
      t.rd a 4 / 4 % 2 = (if r.replaced = 0 then 0 else 1) := by
  intro t a
  have hx : r.it.x.length = d.n := hfit.1
  have hsize : d.recSize = 32 + 8 * d.n := rfl
  have ha : probBase ≤ a := d.le_recAt _
  have hkept : ∀ o n, o + n ≤ d.recSize → t.rd (a + o) n = (s.putRec q d (s.solvedRec d cold r)).rd (a + o) n :=
    fun o n ho => s.rd_solved q cold hfit hapart ho
  have hstatus : t.rd a 4 = (s.solvedRec d cold r).status (s.usable d.pol (s.solvedRec d cold r)) :=
    (hkept 0 4 (by omega)).trans (s.rd_record_status ha _ _ _ _)
  have hreg : b2n (decide (r.replaced ≠ 0)) = if r.replaced = 0 then 0 else 1 := by
    by_cases h : r.replaced = 0 <;> simp [h, b2n]
  obtain ⟨-, hnever, hage, hnumf, hrg, hcold⟩ := (s.solvedRec d cold r).status_fields (s.usable d.pol (s.solvedRec d cold r))
  rw [hstatus]
  refine ⟨(hkept 8 8 (by omega)).trans (s.rd_record_tick ha _ _ _ _ (s.reg64_lt _)),
    (hkept 4 2 (by omega)).trans (s.rd_record_number ha _ _ _ _ hq), fun i hi => ?_, hnever, hage, hcold, hnumf, hrg.trans hreg⟩
  rw [Nat.add_assoc, hkept (32 + 8 * i) 8 (by omega), ← Nat.add_assoc]
  exact s.rd_record_x ha (s.solvedRec d cold r) _ _ _ (hx.symm ▸ hi)
end

/-! ## The batch that a problem leaves -/

/-- A problem is taken out of the batch; the last one's end is seen by the time island. -/
def State.leaveBatch (s : State) (q : Nat) : State :=
  let l := s.azs.batch.filter (· ≠ q)
  let s := { s with azs := { s.azs with batch := l } }
  if l = [] then ({ s with azs := { s.azs with crossing := some s.tick.cycles } }).put F.AZS_STATUS_ACTIVE 0 else s

theorem State.endProblem_eq (s : State) (q : Nat) (d : AzsDesc) :
    s.endProblem q d = (if s.azs.discard then s.azsUnseen d else s.azsFinish q d).leaveBatch q := rfl

section
variable (s : State) (q : Nat)

theorem State.batch_leaveBatch : (s.leaveBatch q).azs.batch = s.azs.batch.filter (· ≠ q) := by
  unfold State.leaveBatch; dsimp only; split <;> rfl

theorem State.mem_leaveBatch : (s.leaveBatch q).mem = s.mem := by unfold State.leaveBatch; dsimp only; split <;> rfl

theorem State.freeCtr_leaveBatch : (s.leaveBatch q).freeCtr = s.freeCtr := by unfold State.leaveBatch; dsimp only; split <;> rfl

theorem State.leaveBatch_last (h : (s.leaveBatch q).azs.batch = []) :
    (s.leaveBatch q).azs.crossing = some s.tick.cycles ∧ (s.leaveBatch q).f F.AZS_STATUS_ACTIVE = 0 := by
  rw [State.batch_leaveBatch] at h
  unfold State.leaveBatch
  dsimp only
  rw [if_pos h]
  exact ⟨rfl, State.f_put_same _ _ _ (by decide) (by decide)⟩

theorem State.regsOnly_leaveBatch : ({ s with azs := (s.leaveBatch q).azs } : State).regsOnly (s.leaveBatch q) [R.AZS_STATUS] := by
  unfold State.leaveBatch
  dsimp only
  split
  · exact State.regsOnly_put _ _ (by decide)
  · exact State.regsOnly_refl _ _

theorem State.reg_leaveBatch {x : Nat} (h : x ≠ R.AZS_STATUS) : (s.leaveBatch q).reg x = s.reg x :=
  (s.regsOnly_leaveBatch q).2 x (by simpa using h)

theorem State.numf_leaveBatch : (s.leaveBatch q).f F.AZS_STATUS_NUMF = s.f F.AZS_STATUS_NUMF := by
  unfold State.leaveBatch
  dsimp only
  split
  · exact State.f_put_apart _ _ (by decide) (.inr (.inr (by decide)))
  · rfl
end

/-! ## Whether an end is in time -/

/-- The array's answer is in time up to the edge, whatever the crossing (R236). -/
theorem State.inSolve_early {s : State} (h : s.tick.cycles ≤ 500 * (7 * s.periodUs / 10)) : s.inSolve.1 = true := by
  have hlt : s.tick.cycles < 500 * (7 * s.periodUs / 10) + 1 + (s.draw 3).1 := by omega
  exact decide_eq_true hlt

/-- No crossing lets a result in that is final more than 3 cycles after the edge. -/
theorem State.inSolve_late {s : State} (h : 500 * (7 * s.periodUs / 10) + 3 < s.tick.cycles) : s.inSolve.1 = false := by
  have hx : (s.draw 3).1 < 3 := s.draw_lt (by decide)
  have hge : ¬s.tick.cycles < 500 * (7 * s.periodUs / 10) + 1 + (s.draw 3).1 := by omega
  exact decide_eq_false hge

theorem State.problemEnd_idle {s : State} {q : Nat} (h : q ∉ s.azs.batch ∨ s.azsBlocked q = true) : s.problemEnd q = s := by
  refine if_neg ?_
  rcases h with h | h <;> simp [h]

section
variable {s : State} {q : Nat} {d : AzsDesc} (hq : q ∈ s.azs.batch) (hb : s.azsBlocked q = false) (hd : tget? s.azs.running q = some d)
include hq hb hd

theorem State.problemEnd_open :
    s.problemEnd q = if s.inSolve.1 || s.azs.discard then (s.draw 3).2.endProblem q d else (s.draw 3).2 := by
  have hopen : (s.azs.batch.contains q && !s.azsBlocked q) = true := by simp [hq, hb]
  unfold State.problemEnd
  rw [if_pos hopen, hd]
  rfl

theorem State.problemEnd_discarded (h : s.azs.discard = true) : s.problemEnd q = ((s.draw 3).2.azsUnseen d).leaveBatch q := by
  rw [State.problemEnd_open hq hb hd, if_pos (by rw [h, Bool.or_true]), State.endProblem_eq, if_pos (by exact h)]

theorem State.problemEnd_inTime (h : s.azs.discard = false) (hc : s.tick.cycles ≤ 500 * (7 * s.periodUs / 10)) :
    s.problemEnd q = ((s.draw 3).2.azsFinish q d).leaveBatch q := by
  have hdraw : ¬(s.draw 3).2.azs.discard = true := by rw [State.draw_azs, h]; decide
  rw [State.problemEnd_open hq hb hd, if_pos (by rw [State.inSolve_early hc, Bool.true_or]), State.endProblem_eq, if_neg hdraw]
end

/-- A result that is final too late draws its crossing and does no more. -/
theorem State.problemEnd_late {s : State} (q : Nat) (h : s.azs.discard = false) (hc : 500 * (7 * s.periodUs / 10) + 3 < s.tick.cycles) :
    ∃ n, s.problemEnd q = { s with freeCtr := n } := by
  by_cases hq : q ∈ s.azs.batch ∧ s.azsBlocked q = false
  · obtain ⟨hq, hb⟩ := hq
    cases hd : tget? s.azs.running q with
    | some d =>
      refine ⟨s.freeCtr + 1, ?_⟩
      rw [State.problemEnd_open hq hb hd, State.inSolve_late hc, h]
      rfl
    | none =>
      refine ⟨s.freeCtr, ?_⟩
      unfold State.problemEnd
      rw [hd]
      split <;> rfl
  · refine ⟨s.freeCtr, State.problemEnd_idle ?_⟩
    simpa [or_iff_not_imp_left] using hq
end Sys2Proof.Machine
end

section
/-!
The deadline miss of a tick, the end of the batch, and the statement of O41 (R40, R236, R237).
-/
namespace Sys2Proof.Machine

/-! ## A deadline miss -/

/-- The flag, the count and the tick of a deadline miss. -/
def State.missShown (s : State) : State :=
  ((s.put F.TICK_STATUS_DL_MISS 1).count F.TICK_FCNT0_DLM).setReg64 R.TICK_FAULT_TICK_LO s.tickNo

/-- The miss with its event and source. -/
def State.missLogged (s : State) : State := (s.missShown.event 0x0101 []).assertSrc 2

/-- The registers that a miss shows. -/
def missRegs : List Nat := [R.TICK_STATUS, R.TICK_FCNT0, R.TICK_FAULT_TICK_LO, R.TICK_FAULT_TICK_HI]

theorem State.tickMiss_eq (s : State) : s.tickMiss = s.missLogged.faultTick := rfl

theorem State.regsOnly_missShown (s : State) : s.regsOnly s.missShown missRegs :=
  State.regsOnly_trans (s.regsOnly_put _ (by decide)) (State.regsOnly_trans (State.regsOnly_put _ _ (by decide))
    (State.regsOnly_trans (State.regsOnly_setReg _ _ (by decide)) (State.regsOnly_setReg _ _ (by decide))))

theorem State.logFrame_missLogged (s : State) : s.missShown.logFrame s.missLogged :=
  State.logFrame_trans (State.logFrame_event _ _ _) (State.logFrame_assertSrc _ _)

theorem State.dlMiss_missLogged (s : State) : s.missLogged.f F.TICK_STATUS_DL_MISS = 1 := by
  rw [State.logFrame_f s.logFrame_missLogged _ rfl, State.missShown,
    State.f_congr _ (State.reg_setReg64_other _ _ _ _ (by decide) (by decide)), State.count, State.f_put_addr _ _ _ _ (by decide)]
  exact s.f_put_same _ _ (by decide) (by decide)

theorem State.faultTick_missLogged (s : State) : s.missLogged.reg64 R.TICK_FAULT_TICK_LO = s.tickNo := by
  have hkept : s.missLogged.reg64 R.TICK_FAULT_TICK_LO = s.missShown.reg64 R.TICK_FAULT_TICK_LO := by
    unfold State.reg64
    rw [s.logFrame_missLogged.2.1 _ (by decide), s.logFrame_missLogged.2.1 _ (by decide)]
  exact hkept.trans (State.reg64_setReg64 _ _ _ (s.reg64_lt _))

/-! ## A faulted tick -/

theorem State.faulted_faultTick (s : State) : s.faultTick.tick.faulted = true := by
  unfold State.faultTick
  split
  · assumption
  · dsimp only; split <;> rfl

theorem State.regsOnly_faultTick (s : State) : ({ s with tick := s.faultTick.tick } : State).regsOnly s.faultTick [R.TICK_STATUS] := by
  unfold State.faultTick
  split
  · exact State.regsOnly_refl _ _
  · dsimp only
    split <;> exact State.regsOnly_put _ _ (by decide)

theorem State.dlMiss_faultTick (s : State) : s.faultTick.f F.TICK_STATUS_DL_MISS = s.f F.TICK_STATUS_DL_MISS := by
  unfold State.faultTick
  split
  · rfl
  · have hcount : (({ s with tick := { s.tick with faulted := true } } : State).count F.TICK_STATUS_CONSEC).f F.TICK_STATUS_DL_MISS =
        s.f F.TICK_STATUS_DL_MISS := by
      rw [State.count, State.f_put_apart _ _ (by decide) (.inr (.inl (by decide)))]
      rfl
    dsimp only
    split <;> exact hcount

/-! ## The miss as a whole -/

theorem State.dlMiss_tickMiss (s : State) : s.tickMiss.f F.TICK_STATUS_DL_MISS = 1 := by
  rw [State.tickMiss_eq, State.dlMiss_faultTick, State.dlMiss_missLogged]

theorem State.faulted_tickMiss (s : State) : s.tickMiss.tick.faulted = true := by
  rw [State.tickMiss_eq, State.faulted_faultTick]

theorem State.faultTick_tickMiss (s : State) : s.tickMiss.reg64 R.TICK_FAULT_TICK_LO = s.tickNo := by
  have hkept : s.tickMiss.reg64 R.TICK_FAULT_TICK_LO = s.missLogged.reg64 R.TICK_FAULT_TICK_LO := by
    unfold State.reg64
    rw [State.tickMiss_eq, (State.regsOnly_faultTick _).2 _ (by decide), (State.regsOnly_faultTick _).2 _ (by decide)]
    rfl
  rw [hkept, State.faultTick_missLogged]

/-- A frame of the log holds as well beside another state of the sequencer. -/
theorem State.logAnd.withTick {s t : State} {l : List Nat} (h : s.logAnd t l) (k : TickSt) :
    ({ s with tick := k } : State).logAnd { t with tick := k } l := by
  obtain ⟨hrest, hreg, hbyte⟩ := h
  exact ⟨congrArg (fun u : State => ({ u with tick := k } : State)) hrest, hreg, hbyte⟩

theorem State.logAnd.mono {s t : State} {l l' : List Nat} (h : s.logAnd t l) (hl : ∀ a ∈ l, a ∈ l') : s.logAnd t l' := by
  obtain ⟨hrest, hreg, hbyte⟩ := h
  exact ⟨hrest, fun a ha hn => hreg a ha fun hm => hn (hl a hm), hbyte⟩

/-- Outside the sequencer a miss changes the registers that show it and the log. -/
theorem State.logAnd_tickMiss (s : State) : ({ s with tick := s.tickMiss.tick } : State).logAnd s.tickMiss missRegs := by
  rw [State.tickMiss_eq]
  have hlogged := (State.logAnd_of_regsOnly s.regsOnly_missShown s.logFrame_missLogged).withTick s.missLogged.faultTick.tick
  have hfault := State.logAnd_of_regsOnly s.missLogged.regsOnly_faultTick (State.logFrame_refl _)
  exact State.logAnd_trans hlogged (hfault.mono (by decide))

theorem State.azs_tickMiss (s : State) : s.tickMiss.azs = s.azs := by
  have e := congrArg State.azs s.logAnd_tickMiss.1; exact e

theorem State.reg_tickMiss (s : State) {a : Nat} (hl : logReg a = false) (h : a ∉ missRegs) : s.tickMiss.reg a = s.reg a :=
  s.logAnd_tickMiss.2.1 a hl h

/-! ## The end of the batch -/

/-- The batch's length and stalls, which are free, and its completion taken. -/
def State.batchShown (s : State) : State :=
  ((({ s with azs := { s.azs with crossing := none }, freeCtr := s.freeCtr + 3 } : State).setReg R.AZS_LAST
    (BitVec.ofNat 32 (Config.free (s.freeCtr + 1) % 2 ^ 32))).setReg R.AZS_CONT (BitVec.ofNat 32 (Config.free (s.freeCtr + 2) % 2 ^ 32)))

/-- The completion comes in the cycle of the edge at 0.70 T or later (R25, R237). -/
def State.completesLate (s : State) (c : Nat) : Bool :=
  s.begun 3 (7 * s.periodUs / 10) || decide (500 * (7 * s.periodUs / 10) ≤ c + 3 + (s.draw 3).1)

/-- A late batch, with no problem counted. -/
def State.lateShown (s : State) : State := (s.put F.AZS_STATUS_LATE_ONLY 1).put F.AZS_DLM_PROB_COUNT 0

/-- The registers of the batch's end itself. -/
def batchRegs : List Nat := [R.AZS_LAST, R.AZS_CONT]

theorem State.regsOnly_batchShown (s : State) :
    ({ s with azs := { s.azs with crossing := none }, freeCtr := s.freeCtr + 3 } : State).regsOnly s.batchShown batchRegs :=
  State.regsOnly_trans (State.regsOnly_setReg _ _ (by decide)) (State.regsOnly_setReg _ _ (by decide))

theorem State.reg_batchShown (s : State) {a : Nat} (h : a ∉ batchRegs) : s.batchShown.reg a = s.reg a := s.regsOnly_batchShown.2 a h

theorem State.f_batchShown (s : State) (x : Fld) (h : x.addr ∉ batchRegs) : s.batchShown.f x = s.f x := State.f_congr x (s.reg_batchShown h)

theorem State.tickNo_batchShown (s : State) : s.batchShown.tickNo = s.tickNo :=
  State.tickNo_congr (s.reg_batchShown (by decide)) (s.reg_batchShown (by decide))

theorem State.periodUs_batchShown (s : State) : s.batchShown.periodUs = s.periodUs := by
  unfold State.periodUs State.periodMs
  rw [s.f_batchShown _ (by decide)]

theorem State.begun_batchShown (s : State) (p us : Nat) : s.batchShown.begun p us = s.begun p us := by
  unfold State.begun
  rw [s.f_batchShown _ (by decide)]
  rfl

theorem State.batchComplete_none {s : State} (h : s.azs.crossing = none) : s.batchComplete = s := by
  unfold State.batchComplete
  rw [h]

theorem State.batchComplete_some {s : State} {c : Nat} (h : s.azs.crossing = some c) :
    s.batchComplete = if s.completesLate c = true ∧ s.azs.discard = false then s.batchShown.lateShown.tickMiss else s.batchShown := by
  have hlate : (s.batchShown.begun 3 (7 * s.batchShown.periodUs / 10) ||
      decide (500 * (7 * s.batchShown.periodUs / 10) ≤ c + 3 + (s.draw 3).1)) = s.completesLate c := by
    rw [State.begun_batchShown, State.periodUs_batchShown]; rfl
  rw [← hlate]
  unfold State.batchComplete
  rw [h]
  rfl

theorem State.completesLate_early {s : State} {c : Nat} (hp : s.f F.TICK_PHASE_PHASE < 3) (hs : s.tick.cycles < 500 * (7 * s.periodUs / 10))
    (hc : c + 5 < 500 * (7 * s.periodUs / 10)) : s.completesLate c = false := by
  have hx : (s.draw 3).1 < 3 := s.draw_lt (by decide)
  have hphase : ¬3 ≤ s.f F.TICK_PHASE_PHASE := by omega
  have hcross : ¬500 * (7 * s.periodUs / 10) ≤ c + 3 + (s.draw 3).1 := by omega
  simp [State.completesLate, State.begun, State.beforeEdge, hphase, hcross, hs]

theorem State.completesLate_late {s : State} {c : Nat} (h : 3 ≤ s.f F.TICK_PHASE_PHASE ∨ 500 * (7 * s.periodUs / 10) ≤ c + 3) :
    s.completesLate c = true := by
  rcases h with h | h
  · simp [State.completesLate, State.begun, h]
  · have hcross : 500 * (7 * s.periodUs / 10) ≤ c + 3 + (s.draw 3).1 := by omega
    simp [State.completesLate, hcross]

/-- What a batch in time, or one that is discarded, leaves. -/
theorem State.batchComplete_inTime {s : State} {c : Nat} (h : s.azs.crossing = some c)
    (hin : (s.f F.TICK_PHASE_PHASE < 3 ∧ s.tick.cycles < 500 * (7 * s.periodUs / 10) ∧ c + 5 < 500 * (7 * s.periodUs / 10)) ∨
      s.azs.discard = true) : s.batchComplete = s.batchShown := by
  rw [State.batchComplete_some h]
  refine if_neg fun ⟨hl, hd⟩ => ?_
  rcases hin with ⟨hp, hs, hc⟩ | hin
  · rw [State.completesLate_early hp hs hc] at hl; cases hl
  · rw [hin] at hd; cases hd

theorem State.regsOnly_lateShown (s : State) : s.regsOnly s.lateShown [R.AZS_STATUS, R.AZS_DLM_PROB] :=
  State.regsOnly_trans (s.regsOnly_put _ (by decide)) (State.regsOnly_put _ _ (by decide))

theorem State.tickNo_lateShown (s : State) : s.lateShown.tickNo = s.tickNo :=
  State.tickNo_congr (s.regsOnly_lateShown.2 _ (by decide)) (s.regsOnly_lateShown.2 _ (by decide))

/-- A late batch is a deadline miss of the tick with no problem counted. -/
theorem State.lateBatch_spec (s : State) :
    let t := s.batchShown.lateShown.tickMiss
    t.azs = { s.azs with crossing := none } ∧ t.f F.AZS_STATUS_LATE_ONLY = 1 ∧ t.f F.AZS_DLM_PROB_COUNT = 0 ∧
      t.f F.TICK_STATUS_DL_MISS = 1 ∧ t.reg64 R.TICK_FAULT_TICK_LO = s.tickNo ∧ t.tick.faulted = true ∧
      ({ s with azs := t.azs, tick := t.tick, freeCtr := t.freeCtr } : State).logAnd t [R.AZS_LAST, R.AZS_CONT, R.AZS_STATUS, R.AZS_DLM_PROB,
        R.TICK_STATUS, R.TICK_FCNT0, R.TICK_FAULT_TICK_LO, R.TICK_FAULT_TICK_HI] := by
  intro t
  have hazs : t.azs = { s.azs with crossing := none } := State.azs_tickMiss _
  have hctr : t.freeCtr = s.freeCtr + 3 := by
    have e := congrArg State.freeCtr (State.logAnd_tickMiss s.batchShown.lateShown).1; exact e
  refine ⟨hazs, ?_, ?_, State.dlMiss_tickMiss _, ?_, State.faulted_tickMiss _, ?_⟩
  · rw [State.f_congr _ (State.reg_tickMiss _ (by decide) (by decide)), State.lateShown, State.f_put_addr _ _ _ _ (by decide)]
    exact State.f_put_same _ _ _ (by decide) (by decide)
  · rw [State.f_congr _ (State.reg_tickMiss _ (by decide) (by decide))]
    exact State.f_put_same _ _ _ (by decide) (by decide)
  · rw [State.faultTick_tickMiss, State.tickNo_lateShown, State.tickNo_batchShown]
  · rw [hazs, hctr]
    have hshown := State.logAnd_of_regsOnly s.regsOnly_batchShown (State.logFrame_refl _)
    have hlate := State.logAnd_of_regsOnly s.batchShown.regsOnly_lateShown (State.logFrame_refl _)
    have hboth := State.logAnd_trans (hshown.mono (l' := batchRegs ++ [R.AZS_STATUS, R.AZS_DLM_PROB]) (by decide)) (hlate.mono (by decide))
    exact State.logAnd_trans ((hboth.withTick t.tick).mono (by decide)) ((State.logAnd_tickMiss _).mono (by decide))

/-! ## Each clause -/

/-! ## A draw leaves what the solver reads -/

section
variable (s : State) (n : Nat) (d : AzsDesc)

theorem State.azsRejects_draw : (s.draw n).2.azsRejects d = s.azsRejects d := rfl
theorem State.curRec_draw : (s.draw n).2.curRec d = s.curRec d := State.curRec_congr fun _ _ _ => rfl
theorem State.tickNo_draw : (s.draw n).2.tickNo = s.tickNo := rfl
theorem State.rd_draw (a m : Nat) : (s.draw n).2.rd a m = s.rd a m := State.rd_congr a m fun _ _ _ => rfl
theorem State.usable_draw (pol : Nat) (r : AzsRec) : (s.draw n).2.usable pol r = s.usable pol r := rfl
theorem State.carryRec_draw : (s.draw n).2.carryRec d = s.carryRec d := by
  unfold State.carryRec
  rw [State.curRec_draw]
  simp only [State.rd_draw, State.tickNo_draw]
end

section
variable {s : State} {q : Nat} {d : AzsDesc} (hq : q ∈ s.azs.batch) (hb : s.azsBlocked q = false) (hd : tget? s.azs.running q = some d)
include hq hb hd

theorem State.problemEnd_discards (h : s.azs.discard = true) :
    let t := s.problemEnd q
    t.azs.batch = s.azs.batch.filter (· ≠ q) ∧ (t.azs.batch = [] → t.azs.crossing = some s.tick.cycles ∧ t.f F.AZS_STATUS_ACTIVE = 0) ∧
      (∀ b, outside (probBase + d.work) d.workSize b → t.byte b = s.byte b) ∧
      ({ s with azs := t.azs, mem := t.mem, freeCtr := t.freeCtr } : State).regsOnly t [R.AZS_STATUS] := by
  intro t
  have ht : t = ((s.draw 3).2.azsUnseen d).leaveBatch q := State.problemEnd_discarded hq hb hd h
  have honly := (s.draw 3).2.onlyMem_azsUnseen d
  have hazs : ((s.draw 3).2.azsUnseen d).azs = s.azs := (State.onlyMem_azs honly).trans (s.draw_azs 3)
  have htick : ((s.draw 3).2.azsUnseen d).tick = s.tick := (State.onlyMem_tick honly).trans (s.draw_tick 3)
  rw [ht]
  refine ⟨?_, fun hl => ?_, fun b hout => ?_, ?_⟩
  · rw [State.batch_leaveBatch, hazs]
  · rw [← htick]; exact State.leaveBatch_last _ q hl
  · rw [State.byte_congr (State.mem_leaveBatch _ q)]
    exact State.byte_azsUnseen_other _ hout
  · have hframe := State.regsOnly_leaveBatch ((s.draw 3).2.azsUnseen d) q
    rw [State.mem_leaveBatch, State.freeCtr_leaveBatch]
    rw [State.eq_withMem honly] at hframe ⊢
    exact hframe

theorem State.problemEnd_rejects (h : s.azs.discard = false) (hc : s.tick.cycles ≤ 500 * (7 * s.periodUs / 10)) (hr : s.azsRejects d = true)
    (hres : d.res + 2 * d.recSize ≤ 0x400000) :
    let a := d.recAt (1 - s.curRec d)
    let r := { s.carryRec d with numf := true }
    let t := s.problemEnd q
    t.azs.batch = s.azs.batch.filter (· ≠ q) ∧ (∀ i, i < d.recSize → t.byte (a + i) = (r.bytes q (s.usable d.pol r) s.tickNo).getD i 0) ∧
      (∀ b, b < mramBase → outside a d.recSize b → t.byte b = s.byte b) ∧ t.f F.AZS_STATUS_NUMF = 1 ∧
      (∀ x, logReg x = false → x ∉ [R.AZS_STATUS, R.AZS_FAIL_CNT] → t.reg x = s.reg x) := by
  intro a r t
  have ht : t = ((s.draw 3).2.azsFail q d).leaveBatch q := by
    rw [← State.azsFinish_rejected q ((s.azsRejects_draw 3 d).trans hr)]
    exact State.problemEnd_inTime hq hb hd h hc
  have hx : r.x.length = d.n := s.length_carryRec d
  obtain ⟨hlo, hhi⟩ := s.olderRec_bounds d
  rw [ht]
  refine ⟨?_, fun i hi => ?_, fun b hbelow hout => ?_, ?_, fun x hl hn => ?_⟩
  · rw [State.batch_leaveBatch, State.azs_azsFail]; rfl
  · have hbelow : a + i < mramBase := by unfold probBase mramBase at *; omega
    have hstored := State.byte_putRec (s.draw 3).2 q d hx hi
    rw [State.curRec_draw, State.usable_draw, State.tickNo_draw] at hstored
    rw [State.byte_congr (State.mem_leaveBatch _ q), State.byte_azsFail _ _ _ hbelow, State.carryRec_draw]
    exact hstored
  · rw [State.byte_congr (State.mem_leaveBatch _ q), State.byte_azsFail _ _ _ hbelow, State.carryRec_draw]
    exact State.byte_putRec_other (s.draw 3).2 q d hx (by rw [State.curRec_draw]; exact hout)
  · rw [State.numf_leaveBatch, State.numf_azsFail]
  · have hstatus : x ≠ R.AZS_STATUS := fun e => hn (e ▸ List.mem_cons_self)
    rw [State.reg_leaveBatch _ _ hstatus, State.reg_azsFail _ _ _ hl hn]
    rfl

theorem State.problemEnd_batch (h : s.azs.discard = false) (hc : s.tick.cycles ≤ 500 * (7 * s.periodUs / 10)) :
    (s.problemEnd q).azs.batch = s.azs.batch.filter (· ≠ q) := by
  rw [State.problemEnd_inTime hq hb hd h hc, State.batch_leaveBatch, State.azs_azsFinish]
  rfl

theorem State.problemEnd_solves (h : s.azs.discard = false) (hc : s.tick.cycles ≤ 500 * (7 * s.periodUs / 10)) (hr : s.azsRejects d = false)
    (hapart : apart [] d.written = true) (hq16 : q < 2 ^ 16) (hf : ((s.draw 3).2.solve d (s.warmStart d)).failed = false) :
    let out := (s.draw 3).2.solve d (s.warmStart d)
    let a := d.recAt (1 - s.curRec d)
    let t := s.problemEnd q
    t.rd (a + 8) 8 = s.tickNo ∧ t.rd (a + 4) 2 = q ∧ (∀ i, i < d.n → t.rd (a + 32 + 8 * i) 8 = out.it.x.getD i 0 % 2 ^ 64) ∧
      t.rd a 4 / 2 ^ 29 % 2 = 0 ∧ t.rd a 4 / 2 ^ 16 % 256 = 0 ∧ t.rd a 4 / 2 % 2 = b2n (s.warmStart d).isNone ∧ t.rd a 4 / 8 % 2 = 0 ∧
      t.rd a 4 / 4 % 2 = (if out.replaced = 0 then 0 else 1) ∧
      (∀ b, outside a d.recSize b → outside (probBase + d.ws) (2 * d.blkSize) b → outside (probBase + d.work) d.workSize b →
        t.byte b = s.byte b) ∧
      (∀ x, x ∉ [R.AZS_STATUS, R.AZS_FAIL_CNT] → t.reg x = s.reg x) := by
  intro out a t
  have hwarm : (s.draw 3).2.warmStart d = s.warmStart d := rfl
  let u := (s.draw 3).2.factored d out
  have ht : t = ((u.solved q d (s.warmStart d).isNone out).sendBlock q).leaveBatch q := by
    have hfinish := State.azsFinish_accepted q ((s.azsRejects_draw 3 d).trans hr)
    rw [hwarm, if_neg (by rw [hf]; decide)] at hfinish
    rw [← hfinish]
    exact State.problemEnd_inTime hq hb hd h hc
  obtain ⟨hws, hwork⟩ := AzsDesc.result_apart hapart
  have hfit : out.it.fits d := State.fits_solve _ _ _
  have hbyte : ∀ b, outside (probBase + d.work) d.workSize b → u.byte b = s.byte b := fun b hout =>
    (State.byte_factored_other (s.draw 3).2 out hout).trans rfl
  have hcur : u.curRec d = s.curRec d := State.curRec_congr fun b hlo hhi => hbyte b (by unfold outside; omega)
  have hmem : t.mem = (u.solved q d (s.warmStart d).isNone out).mem := by rw [ht, State.mem_leaveBatch, State.mem_sendBlock]
  have hrd : ∀ b n, t.rd b n = (u.solved q d (s.warmStart d).isNone out).rd b n := fun b n =>
    State.rd_congr b n fun c _ _ => State.byte_congr hmem c
  have hno : u.tickNo = s.tickNo := State.tickNo_factored _ _ _
  obtain ⟨htick, hnum, hxs, hnever, hage, hcold, hnumf, hreg⟩ := State.solved_record u q (s.warmStart d).isNone hfit hws hq16
  rw [hcur] at htick hnum hxs hnever hage hcold hnumf hreg
  refine ⟨(hrd _ _).trans (htick.trans hno), (hrd _ _).trans hnum, fun i hi => (hrd _ _).trans (hxs i hi), ?_, ?_, ?_, ?_, ?_, fun b h1 h2 h3 => ?_,
    fun x hx => ?_⟩
  · rw [hrd]; exact hnever
  · rw [hrd]; exact hage
  · rw [hrd]; exact hcold
  · rw [hrd]; exact hnumf
  · rw [hrd]; exact hreg
  · rw [State.byte_congr hmem, State.byte_solved_other u q _ hfit (by rw [hcur]; exact h1) h2, hbyte b h3]
  · have hstatus : x ≠ R.AZS_STATUS := fun e => hx (e ▸ List.mem_cons_self)
    rw [ht, State.reg_leaveBatch _ _ hstatus, State.reg_congr (State.regs_sendBlock _ _),
      State.reg_congr (State.onlyMem_regs (State.onlyMem_solved _ _ _ _ _)), State.reg_factored _ _ _ hx]
    rfl
end

/-! ## The statement -/

/-- Settles O41: a problem ends with its carried record or its solution and leaves the batch, and the batch's end is judged against the edge. -/
theorem solverProblemsEnd : Obligations.SolverProblemsEnd := by
  refine ⟨fun s q => ?_, fun s => ⟨fun _ => rfl, rfl⟩⟩
  intro k
  have hk : k < 2 ^ 16 := lt_trans q.isLt (by decide)
  have hexec : exec (.problemEnd q) s = .next (s.problemEnd k) := rfl
  refine ⟨fun h => ?_, fun d hq hb hd h => ?_, fun h hc => ?_, fun d hq hb hd h hres hc hr => ?_, fun d hq hb hd h _ hc ha hr => ?_, fun h => ?_,
    fun c h hin => ?_, fun c h hl hdisc => ?_⟩
  · rw [hexec, State.problemEnd_idle h]
  · obtain ⟨hbatch, hlast, hbyte, hframe⟩ := State.problemEnd_discards hq hb hd h
    exact ⟨_, hexec, hbatch, hlast, fun _ => hbyte, hframe⟩
  · obtain ⟨n, hn⟩ := State.problemEnd_late k h hc
    exact ⟨n, by rw [hexec, hn]⟩
  · exact ⟨_, hexec, State.problemEnd_rejects hq hb hd h hc hr hres⟩
  · exact ⟨_, hexec, State.problemEnd_batch hq hb hd h hc, State.problemEnd_solves hq hb hd h hc hr ha hk⟩
  · exact congrArg Host.Outcome.next (State.batchComplete_none h)
  · exact ⟨_, congrArg Host.Outcome.next (State.batchComplete_inTime h hin), rfl, s.regsOnly_batchShown⟩
  · obtain ⟨hazs, hlate, hcount, hmiss, htick, hfaulted, hframe⟩ := s.lateBatch_spec
    refine ⟨_, congrArg Host.Outcome.next ?_, hazs, hlate, hcount, hmiss, fun _ => htick, hfaulted, hframe⟩
    rw [State.batchComplete_some h, if_pos ⟨State.completesLate_late hl, hdisc⟩]
end Sys2Proof.Machine
end

section
/-!
What admission judges, and what its end writes (R240 to R243, R246).
-/
namespace Sys2Proof.Machine

/-! ## What the judgement rests on -/

theorem State.azsDefined_congr {s t : State} (h : t.mem = s.mem) : t.azsDefined = s.azsDefined := by
  have hrd : t.rd = s.rd := funext fun a => funext fun n => State.rd_congr a n fun b _ _ => State.byte_congr h b
  unfold State.azsDefined State.azsDesc
  rw [hrd]

theorem State.azsRefuse_congr {s t : State} (h : t.variant = s.variant) (tbl : Tbl AzsDesc) (seen : List (Nat × Nat)) (l : Tbl AzsDesc) :
    t.azsRefuse tbl seen l = s.azsRefuse tbl seen l := by
  have hcheck : t.azsCheck tbl = s.azsCheck tbl := by
    unfold State.azsCheck State.lanes
    rw [h]
  induction l generalizing seen with
  | nil => rfl
  | cons e l ih =>
    unfold State.azsRefuse
    rw [hcheck]
    split
    · rfl
    · exact ih _

/-- The judgement rests on memory, the variant, RESERVE as admission took it, and the period. -/
theorem State.azsJudge_congr {s t : State} (hm : t.mem = s.mem) (hv : t.variant = s.variant) (hr : t.azs.reserve = s.azs.reserve)
    (hp : t.periodMs = s.periodMs) : t.azsJudge = s.azsJudge := by
  have hlanes : t.lanes = s.lanes := by unfold State.lanes; rw [hv]
  have hlimit : t.azsLimit = s.azsLimit := by unfold State.azsLimit State.azsWindow; rw [hr, hp]
  unfold State.azsJudge
  dsimp only
  rw [State.azsDefined_congr hm, State.azsRefuse_congr hv, hlanes, hlimit]

/-! ## The defined problems -/

/-- Problem numbers rise through the defined table. -/
theorem State.azsDefined_rising (s : State) : s.azsDefined.Pairwise (fun e e' => e.1 < e'.1) := by
  refine List.Pairwise.filterMap _ (fun a a' hlt b hb b' hb' => ?_) List.pairwise_lt_range
  obtain ⟨_, _, rfl⟩ := Option.map_eq_some_iff.mp hb
  obtain ⟨_, _, rfl⟩ := Option.map_eq_some_iff.mp hb'
  exact hlt

theorem State.azsDefined_lt (s : State) {e : Nat × AzsDesc} (h : e ∈ s.azsDefined) : e.1 < 256 := by
  obtain ⟨q, hq, he⟩ := List.mem_filterMap.mp h
  obtain ⟨_, _, rfl⟩ := Option.map_eq_some_iff.mp he
  exact List.mem_range.mp hq

/-! ## A refusal names a check and a defined problem -/

theorem State.azsCheck_le {s : State} {tbl : Tbl AzsDesc} {seen : List (Nat × Nat)} {d : AzsDesc} {c : Nat} (h : s.azsCheck tbl seen d = some c) :
    c ≤ 5 := by
  unfold State.azsCheck at h
  generalize tget? tbl d.wsSrc = source at h
  cases source with
  | none => split_ifs at h <;> injection h with h <;> omega
  | some e => dsimp only at h; split_ifs at h <;> injection h with h <;> omega

theorem State.azsRefuse_some {s : State} {tbl : Tbl AzsDesc} {seen : List (Nat × Nat)} {l : Tbl AzsDesc} {c q : Nat}
    (h : s.azsRefuse tbl seen l = some (c, q)) : c ≤ 5 ∧ ∃ d, (q, d) ∈ l := by
  induction l generalizing seen with
  | nil => cases h
  | cons e l ih =>
    unfold State.azsRefuse at h
    split at h
    · next hc =>
      cases h
      exact ⟨State.azsCheck_le hc, e.2, List.mem_cons_self⟩
    · obtain ⟨hle, d, hd⟩ := ih h
      exact ⟨hle, d, List.mem_cons_of_mem _ hd⟩

theorem mem_placement {lanes r : Nat} {t : Tbl AzsDesc} {e : Placed} (h : e ∈ placement lanes r t) : ∃ d, (e.q, d) ∈ t := by
  suffices hall : ∀ e ∈ placement lanes r t, ∃ d, (e.q, d) ∈ t from hall e h
  unfold placement
  refine List.foldlRecOn t _ (motive := fun l : List Placed => ∀ e ∈ l, ∃ d, (e.q, d) ∈ t) (fun _ he => nomatch he) fun l hl x hx => ?_
  dsimp only
  split
  · split
    · intro e he
      rcases List.mem_append.mp he with he | he
      · exact hl e he
      · obtain rfl := List.mem_singleton.mp he
        exact ⟨x.2, hx⟩
    · exact hl
  · exact hl

/-- Each problem with its worst-case cycles. -/
def withCycles (t : Tbl AzsDesc) : Tbl AzsDesc := t.map fun e => (e.1, { e.2 with cyc := e.2.worst })

theorem mem_withCycles {t : Tbl AzsDesc} {e : Nat × AzsDesc} (h : e ∈ withCycles t) : e.2.cyc = e.2.worst ∧ ∃ d, (e.1, d) ∈ t := by
  obtain ⟨x, hx, rfl⟩ := List.mem_map.mp h
  exact ⟨rfl, x.2, hx⟩

theorem withCycles_rising {t : Tbl AzsDesc} (h : t.Pairwise fun e e' => e.1 < e'.1) : (withCycles t).Pairwise fun e e' => e.1 < e'.1 :=
  List.pairwise_map.mpr h

/-- What a refusal names, and what an accepted table holds. -/
theorem State.azsJudge_cases (s : State) :
    (∃ c q, s.azsJudge = .inl (c, q) ∧ c ≤ 6 ∧ q < 256) ∨ s.azsJudge = .inr (withCycles s.azsDefined) := by
  unfold State.azsJudge
  dsimp only
  split
  · next x hx =>
    obtain ⟨hc, d, hd⟩ := State.azsRefuse_some hx
    exact .inl ⟨x.1, x.2, rfl, by omega, s.azsDefined_lt hd⟩
  · split
    · next e he =>
      obtain ⟨r, -, hfind⟩ := List.mem_filterMap.mp (List.mem_of_head? he)
      obtain ⟨d, hd⟩ := mem_placement (List.mem_of_find?_eq_some hfind)
      obtain ⟨-, d', hd'⟩ := mem_withCycles hd
      exact .inl ⟨6, e.q, rfl, by decide, s.azsDefined_lt hd'⟩
    · exact .inr rfl

theorem State.azsJudge_inl {s : State} {c q : Nat} (h : s.azsJudge = .inl (c, q)) : c ≤ 6 ∧ q < 256 := by
  rcases s.azsJudge_cases with ⟨c', q', hj, hc, hq⟩ | hj
  · cases hj.symm.trans h; exact ⟨hc, hq⟩
  · cases hj.symm.trans h

theorem State.azsJudge_inr {s : State} {tbl : Tbl AzsDesc} (h : s.azsJudge = .inr tbl) :
    (∀ e ∈ tbl, e.2.cyc = e.2.worst) ∧ tbl.Pairwise fun e e' => e.1 < e'.1 := by
  rcases s.azsJudge_cases with ⟨c', q', hj, -, -⟩ | hj
  · cases hj.symm.trans h
  · cases hj.symm.trans h
    exact ⟨fun e he => (mem_withCycles he).1, withCycles_rising s.azsDefined_rising⟩

/-! ## The cycles stored in the descriptors -/

/-- Where a descriptor holds its worst-case cycles (R225). -/
def cyclesAt (q : Nat) : Nat := probBase + 64 * q + 0x24

/-- The worst-case cycles of a table stored in its descriptors. -/
def State.storeCycles (s : State) (t : Tbl AzsDesc) : State := t.foldl (fun s e => s.wr (cyclesAt e.1) 4 e.2.cyc) s

theorem State.onlyMem_storeCycles (s : State) (t : Tbl AzsDesc) : s.onlyMem (s.storeCycles t) :=
  List.foldlRecOn t _ (motive := fun u => s.onlyMem u) s.onlyMem_refl fun u hu _ _ => State.onlyMem_trans hu (u.onlyMem_wr _ _ _)

theorem State.byte_storeCycles_other (s : State) {t : Tbl AzsDesc} {b : Nat} (h : ∀ e ∈ t, outside (cyclesAt e.1) 4 b) :
    (s.storeCycles t).byte b = s.byte b :=
  List.foldlRecOn t _ (motive := fun u : State => u.byte b = s.byte b) rfl fun u hu e he => (u.byte_wr_other _ _ _ b (h e he)).trans hu

theorem State.rd_storeCycles (s : State) {t : Tbl AzsDesc} (hrise : t.Pairwise fun e e' => e.1 < e'.1) {e : Nat × AzsDesc} (he : e ∈ t) :
    (s.storeCycles t).rd (cyclesAt e.1) 4 = e.2.cyc % 2 ^ 32 := by
  induction t generalizing s with
  | nil => cases he
  | cons x t ih =>
    obtain ⟨hx, hrest⟩ := List.pairwise_cons.mp hrise
    rcases List.mem_cons.mp he with rfl | he
    · have hkept : ((s.wr (cyclesAt e.1) 4 e.2.cyc).storeCycles t).rd (cyclesAt e.1) 4 = (s.wr (cyclesAt e.1) 4 e.2.cyc).rd (cyclesAt e.1) 4 :=
        State.rd_congr _ _ fun b hlo hhi => State.byte_storeCycles_other _ fun e' he' => by
          have hlt := hx e' he'
          unfold outside cyclesAt at *
          omega
      exact hkept.trans (s.rd_wr_same _ _ _ fun b hb _ => writeIgnored_above (by unfold cyclesAt at hb; omega))
    · exact ih _ hrest he

/-! ## The areas cleared at a load -/

theorem State.onlyMem_clearRecord (s : State) (q : Nat) (d : AzsDesc) : s.onlyMem (s.clearRecord q d) := s.onlyMem_wrBytes _ _

theorem State.onlyMem_clearWarm (s : State) (d : AzsDesc) : s.onlyMem (s.clearWarm d) :=
  State.onlyMem_trans (s.onlyMem_wr _ _ _) (State.onlyMem_wr _ _ _ _)

theorem AzsDesc.areas_inside {d : AzsDesc} (h : d.areasOk = true) : d.res + 2 * d.recSize ≤ 0x400000 ∧ d.ws + 2 * d.blkSize ≤ 0x400000 := by
  simp only [AzsDesc.areasOk, areaOk, Bool.and_eq_true, Bool.or_eq_true, decide_eq_true_eq] at h
  obtain ⟨⟨⟨-, hres⟩, hws⟩, -⟩ := h
  unfold AzsDesc.recSize at *
  unfold AzsDesc.blkSize at *
  omega

section
variable (s : State) {d : AzsDesc} (h : d.areasOk = true) {b : Nat} (hb : outside probBase 0x400000 b)
include h hb

theorem State.byte_clearRecord_other (q : Nat) : (s.clearRecord q d).byte b = s.byte b := by
  obtain ⟨hres, -⟩ := AzsDesc.areas_inside h
  refine s.byte_wrBytes_other _ _ b ?_
  simp only [List.length_append, length_bytesLE, List.length_replicate]
  unfold outside at hb
  unfold AzsDesc.recSize at hres
  omega

theorem State.byte_clearWarm_other : (s.clearWarm d).byte b = s.byte b := by
  obtain ⟨-, hws⟩ := AzsDesc.areas_inside h
  unfold outside at hb
  unfold AzsDesc.blkSize at hws
  unfold State.clearWarm
  rw [State.byte_wr_other _ _ _ _ _ (by unfold AzsDesc.blkSize; omega), State.byte_wr_other _ _ _ _ _ (by omega)]
end

theorem State.onlyMem_clearAreas (s : State) (t : Tbl AzsDesc) (keep : Nat → AzsDesc → Bool) (warm : Bool) : s.onlyMem (s.clearAreas t keep warm) := by
  refine List.foldlRecOn t _ (motive := fun u => s.onlyMem u) s.onlyMem_refl fun u hu e _ => ?_
  dsimp only
  split
  · exact hu
  · split
    · exact State.onlyMem_trans hu (State.onlyMem_trans (u.onlyMem_clearRecord _ _) (State.onlyMem_clearWarm _ _))
    · exact State.onlyMem_trans hu (u.onlyMem_clearRecord _ _)

/-- Clearing the areas of problems whose areas are in order changes problem memory alone. -/
theorem State.byte_clearAreas_other (s : State) {t : Tbl AzsDesc} (h : ∀ e ∈ t, e.2.areasOk = true) (keep : Nat → AzsDesc → Bool) (warm : Bool)
    {b : Nat} (hb : outside probBase 0x400000 b) : (s.clearAreas t keep warm).byte b = s.byte b := by
  refine List.foldlRecOn t _ (motive := fun u : State => u.byte b = s.byte b) rfl fun u hu e he => ?_
  have hrec : (u.clearRecord e.1 e.2).byte b = s.byte b := (u.byte_clearRecord_other (h e he) hb _).trans hu
  dsimp only
  split
  · exact hu
  · split
    · exact (State.byte_clearWarm_other _ (h e he) hb).trans hrec
    · exact hrec

theorem State.areasOk_of_mem_azsSound {s : State} {e : Nat × AzsDesc} (h : e ∈ s.azsSound) : e.2.areasOk = true :=
  ((Bool.and_eq_true _ _).mp (List.mem_filter.mp h).2).2

/-! ## The end of admission -/

/-- Admission has ended: BUSY is clear. -/
def State.admissionTaken (s : State) : State := { s with azs := { s.azs with admitting := none } }.put F.AZS_STATUS_ADM_BUSY 0

/-- A refusal as the registers show it. -/
def State.admissionRefused (s : State) (code q : Nat) : State :=
  ((s.put F.AZS_STATUS_ADM_FAIL 1).put F.AZS_STATUS_REFUSE code).put F.AZS_ADM_INFO_REF_PROB q

/-- The refusal with its event and source. -/
def State.refusalLogged (s : State) (code q : Nat) : State := ((s.admissionRefused code q).event 0x0602 [q]).assertSrc 34

/-- A load clears the areas of its problems, admitted or not (R240). -/
def State.loadCleared (s : State) (k : Admit) : State := if k = .load then s.clearAreas s.azsSound (fun _ _ => false) true else s

/-- A refused load or period change leaves no table (R243). -/
def State.tableEmptied (s : State) (k : Admit) : State :=
  if k = .load ∨ k = .period then { s with azs := { s.azs with table := [], next := none } }.put F.AZS_STATUS_ADMITTED 0 else s

/-- What an accepted table shows of itself (R242). -/
def State.tableShown (s : State) (t : Tbl AzsDesc) : State :=
  let w := (List.range 8).map fun r => worstOf (placement s.lanes r t)
  let top := w.foldl max 0
  let used := ((List.range 8).map fun r =>
    let l := placement s.lanes r t
    ((List.range s.lanes).filter fun x => decide (0 < freeAt l x)).length).foldl max 0
  let s := (s.put F.AZS_ADM_WCC_WCC top).put F.AZS_ADM_LIM_LIM s.azsLimit
  ((s.put F.AZS_ADM_INFO_DEFINED t.length).put F.AZS_ADM_INFO_LANES_USED used).put F.AZS_ADM_INFO_WORST
    ((List.range 8).findIdx fun r => w.getD r 0 = top)

theorem State.azsJudge_admissionTaken (s : State) : s.admissionTaken.azsJudge = s.azsJudge := by
  refine State.azsJudge_congr rfl rfl rfl ?_
  unfold State.periodMs
  rw [State.admissionTaken, State.f_put_addr _ _ _ _ (by decide)]
  rfl

theorem State.admissionEnd_none {s : State} (h : s.azs.admitting = none) : s.admissionEnd = s := by
  unfold State.admissionEnd
  rw [h]

theorem State.admissionEnd_refused {s : State} {k : Admit} {code q : Nat} (h : s.azs.admitting = some k) (hj : s.azsJudge = .inl (code, q)) :
    s.admissionEnd = ((s.admissionTaken.refusalLogged code q).loadCleared k).tableEmptied k := by
  rw [← State.azsJudge_admissionTaken] at hj
  unfold State.admissionTaken at hj
  unfold State.admissionEnd
  rw [h]
  dsimp only
  rw [hj]
  rfl

theorem State.admissionEnd_command {s : State} {tbl : Tbl AzsDesc} (h : s.azs.admitting = some .command) (hj : s.azsJudge = .inr tbl) :
    s.admissionEnd =
      { (s.admissionTaken.storeCycles tbl).tableShown tbl with azs := { s.azs with admitting := none, next := some tbl } } := by
  have hazs : ((s.admissionTaken.storeCycles tbl).tableShown tbl).azs = { s.azs with admitting := none } :=
    State.onlyMem_azs (s.admissionTaken.onlyMem_storeCycles tbl)
  have hnext : ({ s.azs with admitting := none, next := some tbl } : AzsSt) =
      { ((s.admissionTaken.storeCycles tbl).tableShown tbl).azs with next := some tbl } := by rw [hazs]
  rw [← State.azsJudge_admissionTaken] at hj
  unfold State.admissionTaken at hj
  rw [hnext]
  unfold State.admissionEnd
  rw [h]
  dsimp only
  rw [hj]
  rfl

/-! ## An accepted table -/

theorem State.regsOnly_tableShown (s : State) (t : Tbl AzsDesc) : s.regsOnly (s.tableShown t) [R.AZS_ADM_WCC, R.AZS_ADM_LIM, R.AZS_ADM_INFO] :=
  State.regsOnly_trans (s.regsOnly_put _ (by decide)) (State.regsOnly_trans (State.regsOnly_put _ _ (by decide))
    (State.regsOnly_trans (State.regsOnly_put _ _ (by decide)) (State.regsOnly_trans (State.regsOnly_put _ _ (by decide))
      (State.regsOnly_put _ _ (by decide)))))

theorem State.busy_admissionTaken (s : State) : s.admissionTaken.f F.AZS_STATUS_ADM_BUSY = 0 :=
  State.f_put_same _ _ _ (by decide) (by decide)

theorem State.reg_admissionTaken (s : State) {a : Nat} (h : a ≠ R.AZS_STATUS) : s.admissionTaken.reg a = s.reg a := State.reg_put_other _ _ _ _ h

/-- An accepted table waits for the boundary, its cycles are in its descriptors, and no other byte changes. -/
theorem State.admissionEnd_accepts {s : State} {tbl : Tbl AzsDesc} (h : s.azs.admitting = some .command) (hj : s.azsJudge = .inr tbl) :
    let t := s.admissionEnd
    t.azs = { s.azs with admitting := none, next := some tbl } ∧ t.f F.AZS_STATUS_ADM_BUSY = 0 ∧
      (∀ e ∈ tbl, t.rd (probBase + 64 * e.1 + 0x24) 4 = e.2.worst % 2 ^ 32) ∧
      (∀ b, (∀ e ∈ tbl, outside (probBase + 64 * e.1 + 0x24) 4 b) → t.byte b = s.byte b) ∧
      (∀ r, r ∉ [R.AZS_STATUS, R.AZS_ADM_WCC, R.AZS_ADM_LIM, R.AZS_ADM_INFO] → t.reg r = s.reg r) := by
  intro t
  obtain ⟨hcyc, hrise⟩ := State.azsJudge_inr hj
  let u := s.admissionTaken.storeCycles tbl
  have ht : t = { u.tableShown tbl with azs := { s.azs with admitting := none, next := some tbl } } := State.admissionEnd_command h hj
  have hshown : t.mem = (u.tableShown tbl).mem := by rw [ht]
  have hmem : t.mem = u.mem := hshown.trans (State.regsOnly_mem (u.regsOnly_tableShown tbl))
  have hregs : t.regs = (u.tableShown tbl).regs := by rw [ht]
  have hreg : ∀ r, r ∉ [R.AZS_ADM_WCC, R.AZS_ADM_LIM, R.AZS_ADM_INFO] → t.reg r = s.admissionTaken.reg r := fun r hr =>
    (State.reg_congr hregs r).trans (((u.regsOnly_tableShown tbl).2 r hr).trans
      (State.reg_congr (State.onlyMem_regs (s.admissionTaken.onlyMem_storeCycles tbl)) r))
  refine ⟨by rw [ht], ?_, fun e he => ?_, fun b hb => ?_, fun r hr => ?_⟩
  · rw [State.f_congr _ (hreg _ (by decide)), State.busy_admissionTaken]
  · rw [State.rd_congr _ _ fun b _ _ => State.byte_congr hmem b, ← hcyc e he]
    exact s.admissionTaken.rd_storeCycles hrise he
  · rw [State.byte_congr hmem b]
    exact (s.admissionTaken.byte_storeCycles_other hb).trans rfl
  · obtain ⟨hstatus, hrest⟩ := not_or.mp (mt List.mem_cons.mpr hr)
    exact (hreg r hrest).trans (s.reg_admissionTaken hstatus)

/-! ## A refusal -/

theorem State.regsOnly_admissionRefused (s : State) (code q : Nat) : s.regsOnly (s.admissionRefused code q) [R.AZS_STATUS, R.AZS_ADM_INFO] :=
  State.regsOnly_trans (s.regsOnly_put _ (by decide)) (State.regsOnly_trans (State.regsOnly_put _ _ (by decide)) (State.regsOnly_put _ _ (by decide)))

theorem State.logFrame_refusalLogged (s : State) (code q : Nat) : (s.admissionRefused code q).logFrame (s.refusalLogged code q) :=
  State.logFrame_trans (State.logFrame_event _ _ _) (State.logFrame_assertSrc _ _)

theorem State.logAnd_refusalLogged (s : State) (code q : Nat) : s.logAnd (s.refusalLogged code q) [R.AZS_STATUS, R.AZS_ADM_INFO] :=
  State.logAnd_of_regsOnly (s.regsOnly_admissionRefused code q) (s.logFrame_refusalLogged code q)

/-- The fields of AZS_STATUS that a refusal writes, and those it leaves. -/
theorem State.f_refusalLogged (s : State) {code q : Nat} (hc : code ≤ 6) (hq : q < 256) :
    (s.refusalLogged code q).f F.AZS_STATUS_ADM_FAIL = 1 ∧ (s.refusalLogged code q).f F.AZS_STATUS_REFUSE = code ∧
      (s.refusalLogged code q).f F.AZS_ADM_INFO_REF_PROB = q ∧
      (s.refusalLogged code q).f F.AZS_STATUS_ADM_BUSY = s.f F.AZS_STATUS_ADM_BUSY ∧
      (s.refusalLogged code q).f F.AZS_STATUS_ADMITTED = s.f F.AZS_STATUS_ADMITTED := by
  have hlog := State.logFrame_f (s.logFrame_refusalLogged code q)
  rw [hlog _ rfl, hlog _ rfl, hlog _ rfl, hlog _ rfl, hlog _ rfl]
  unfold State.admissionRefused
  refine ⟨?_, ?_, ?_, ?_, ?_⟩
  · rw [State.f_put_addr _ _ _ _ (by decide), State.f_put_bits _ _ _ _ (by decide) (by decide)]
    exact State.f_put_same _ _ _ (by decide) (by decide)
  · rw [State.f_put_addr _ _ _ _ (by decide), State.f_put_same _ _ _ (by decide) (by decide)]
    exact Nat.mod_eq_of_lt (lt_of_le_of_lt hc (by decide))
  · rw [State.f_put_same _ _ _ (by decide) (by decide)]
    exact Nat.mod_eq_of_lt hq
  · rw [State.f_put_addr _ _ _ _ (by decide), State.f_put_bits _ _ _ _ (by decide) (by decide), State.f_put_bits _ _ _ _ (by decide) (by decide)]
  · rw [State.f_put_addr _ _ _ _ (by decide), State.f_put_bits _ _ _ _ (by decide) (by decide), State.f_put_bits _ _ _ _ (by decide) (by decide)]

theorem State.onlyMem_loadCleared (s : State) (k : Admit) : s.onlyMem (s.loadCleared k) := by
  unfold State.loadCleared
  split
  · exact s.onlyMem_clearAreas _ _ _
  · exact s.onlyMem_refl

theorem State.byte_loadCleared_other (s : State) {k : Admit} {b : Nat} (h : k ≠ .load ∨ outside probBase 0x400000 b) :
    (s.loadCleared k).byte b = s.byte b := by
  unfold State.loadCleared
  split
  · next hk => exact s.byte_clearAreas_other (fun _ => State.areasOk_of_mem_azsSound) _ _ (h.resolve_left fun hn => hn hk)
  · rfl

theorem State.regsOnly_tableEmptied (s : State) (k : Admit) :
    ({ s with azs := (s.tableEmptied k).azs } : State).regsOnly (s.tableEmptied k) [R.AZS_STATUS] := by
  unfold State.tableEmptied
  split
  · exact State.regsOnly_put _ _ (by decide)
  · exact State.regsOnly_refl _ _

theorem State.mem_tableEmptied (s : State) (k : Admit) : (s.tableEmptied k).mem = s.mem := by unfold State.tableEmptied; split <;> rfl

/-- ADMITTED alone shows that the table is empty. -/
theorem State.f_tableEmptied (s : State) (k : Admit) {x : Fld} (h : x.addr ≠ R.AZS_STATUS ∨ x.hi < 7 ∨ 7 < x.lo) :
    (s.tableEmptied k).f x = s.f x := by
  unfold State.tableEmptied
  split
  · exact (State.f_put_apart _ _ (by decide) h).trans rfl
  · rfl

theorem State.tableEmptied_empties (s : State) {k : Admit} (h : k = .load ∨ k = .period) :
    (s.tableEmptied k).azs.table = [] ∧ (s.tableEmptied k).f F.AZS_STATUS_ADMITTED = 0 := by
  unfold State.tableEmptied
  rw [if_pos h]
  exact ⟨rfl, State.f_put_same _ _ _ (by decide) (by decide)⟩

theorem State.tableEmptied_keeps (s : State) {k : Admit} (h : k = .command ∨ k = .swap) : s.tableEmptied k = s :=
  if_neg (by rcases h with rfl | rfl <;> decide)

/-- A frame of the log holds as well beside another state of the array and other memory. -/
theorem State.logAnd.withSolver {s t : State} {l : List Nat} (h : s.logAnd t l) (a : AzsSt) (m : List Host.Cell) :
    ({ s with azs := a, mem := m } : State).logAnd { t with azs := a, mem := m } l :=
  ⟨congrArg (fun u : State => ({ u with azs := a, mem := m } : State)) h.1, h.2.1, fun _ _ => rfl⟩

/-- The end of a refused admission. -/
theorem State.admissionEnd_refuses {s : State} {k : Admit} {code q : Nat} (h : s.azs.admitting = some k) (hj : s.azsJudge = .inl (code, q)) :
    let t := s.admissionEnd
    t.f F.AZS_STATUS_ADM_BUSY = 0 ∧ t.f F.AZS_STATUS_ADM_FAIL = 1 ∧ t.f F.AZS_STATUS_REFUSE = code ∧ t.f F.AZS_ADM_INFO_REF_PROB = q ∧
      (k = .load ∨ k = .period → t.azs.table = [] ∧ t.f F.AZS_STATUS_ADMITTED = 0) ∧
      (k = .command ∨ k = .swap → t.azs = { s.azs with admitting := none } ∧ t.f F.AZS_STATUS_ADMITTED = s.f F.AZS_STATUS_ADMITTED) ∧
      ({ s with azs := t.azs, mem := t.mem } : State).logAnd t [R.AZS_STATUS, R.AZS_ADM_INFO] ∧
      (∀ b, b < mramBase → k ≠ .load ∨ outside probBase 0x400000 b → t.byte b = s.byte b) := by
  intro t
  obtain ⟨hc, hq⟩ := State.azsJudge_inl hj
  let u := s.admissionTaken.refusalLogged code q
  let v := u.loadCleared k
  have ht : t = v.tableEmptied k := State.admissionEnd_refused h hj
  obtain ⟨hfail, hrefuse, hprob, hbusy, hadmitted⟩ := s.admissionTaken.f_refusalLogged hc hq
  have hv : ∀ x, v.f x = u.f x := fun x => State.f_congr x (State.reg_congr (State.onlyMem_regs (u.onlyMem_loadCleared k)) _)
  have hf : ∀ x : Fld, x.addr ≠ R.AZS_STATUS ∨ x.hi < 7 ∨ 7 < x.lo → t.f x = u.f x := fun x hx => by
    rw [ht, State.f_tableEmptied _ _ hx, hv]
  have hlog := s.admissionTaken.logAnd_refusalLogged code q
  have hazs : v.azs = { s.azs with admitting := none } := by
    rw [State.onlyMem_azs (u.onlyMem_loadCleared k)]
    have e := congrArg State.azs hlog.1; exact e
  refine ⟨(hf _ (by decide)).trans (hbusy.trans s.busy_admissionTaken), (hf _ (by decide)).trans hfail, (hf _ (by decide)).trans hrefuse,
    (hf _ (by decide)).trans hprob, fun hk => ?_, fun hk => ?_, ?_, fun b hb hk => ?_⟩
  · rw [ht]; exact v.tableEmptied_empties hk
  · rw [ht, State.tableEmptied_keeps _ hk, hv]
    exact ⟨hazs, hadmitted.trans (State.f_put_bits _ _ _ _ (by decide) (by decide))⟩
  · have htaken : ({ s with azs := t.azs, mem := t.mem } : State).logAnd { s.admissionTaken with azs := t.azs, mem := t.mem }
        [R.AZS_STATUS, R.AZS_ADM_INFO] :=
      ⟨rfl, fun a _ ha => s.reg_admissionTaken fun e => ha (e ▸ List.mem_cons_self), fun _ _ => rfl⟩
    have hemptied : ({ u with azs := t.azs, mem := t.mem } : State).regsOnly t [R.AZS_STATUS] := by
      have hmem : t.mem = v.mem := by rw [ht, v.mem_tableEmptied]
      have hcleared := congrArg (fun w : State => ({ w with azs := t.azs } : State)) (State.eq_withMem (u.onlyMem_loadCleared k))
      have hframe := v.regsOnly_tableEmptied k
      rw [← ht] at hframe
      rw [hmem]
      exact hcleared ▸ hframe
    exact State.logAnd_trans htaken (State.logAnd_trans (hlog.withSolver t.azs t.mem)
      (State.logAnd_of_regsOnly (hemptied.mono (by decide)) (State.logFrame_refl _)))
  · rw [ht, State.byte_congr (v.mem_tableEmptied k), u.byte_loadCleared_other hk]
    exact hlog.2.2 b hb
end Sys2Proof.Machine
end

section
/-!
Writes of AZS_CTRL, detections, the rebase and the counter clears, and the statement of O42 (R242, R246, R257, R258, R262, R271).
-/
namespace Sys2Proof.Machine

/-! ## A write that takes effect later -/

theorem State.reg_setLater_same (s : State) (a : Nat) (v : Word) : (s.setLater a v).reg a = v := State.reg_setReg_same _ a v

theorem State.reg_setLater_other (s : State) {a b : Nat} (v : Word) (h : b ≠ a) : (s.setLater a v).reg b = s.reg b :=
  State.reg_setReg_other _ a b v h

/-- The word in force stays. -/
theorem State.eff_setLater (s : State) (a : Nat) (v : Word) : (s.setLater a v).eff a = s.eff a := by
  unfold State.eff State.setLater
  cases h : tget? s.inForce a with
  | some w => simp [h]
  | none => simp

theorem State.eff_congr {s t : State} {a : Nat} (hr : t.reg a = s.reg a) (hi : t.inForce = s.inForce) : t.eff a = s.eff a := by
  unfold State.eff
  rw [hr, hi]

/-- Bits outside a mask do not show under it. -/
theorem or_and_mask {n : Nat} (v : BitVec n) {x mask : BitVec n} (h : mask &&& x = 0) : (v ||| x) &&& mask = v &&& mask := by
  rw [BitVec.and_comm, BitVec.and_or_distrib_left, h, BitVec.and_comm mask]
  exact BitVec.or_zero

theorem reserve_ctrlBits (v : Word) : bitsOf (v &&& 0xFF04) 15 8 = bitsOf v 15 8 := by
  refine Nat.eq_of_testBit_eq fun i => ?_
  rw [testBit_bitsOf, testBit_bitsOf, BitVec.getLsbD_and]
  by_cases hi : i < 8
  · have hone : (0xFF04 : Word).getLsbD (i + 8) = true := by interval_cases i <;> rfl
    rw [hone, Bool.and_true]
  · simp [hi]

/-! ## Writes of AZS_CTRL -/

/-- CNT_CLR clears both counters. -/
def State.ctrlCleared (s : State) (v : Word) : State :=
  if v.getLsbD 1 then (s.setReg R.AZS_DLM_CNT 0).setReg R.AZS_FAIL_CNT 0 else s

/-- ADMIT starts an admission unless one runs. -/
def State.ctrlAdmitted (s : State) (v : Word) : State :=
  if v.getLsbD 0 && s.azs.admitting.isNone then s.admitBatch .command else s

theorem State.azsCtrlWrite_eq (s : State) (v : Word) :
    s.azsCtrlWrite v = ((s.setLater R.AZS_CTRL (v &&& 0xFF04)).ctrlCleared v).ctrlAdmitted v := rfl

/-- The counters that a write of AZS_CTRL clears. -/
def clearedRegs (v : Word) : List Nat := if v.getLsbD 1 then [R.AZS_DLM_CNT, R.AZS_FAIL_CNT] else []

theorem State.regsOnly_ctrlCleared (s : State) (v : Word) : s.regsOnly (s.ctrlCleared v) (clearedRegs v) := by
  unfold State.ctrlCleared clearedRegs
  split
  · exact State.regsOnly_trans (s.regsOnly_setReg _ (by decide)) (State.regsOnly_setReg _ _ (by decide))
  · exact s.regsOnly_refl _

theorem State.ctrlCleared_clears (s : State) {v : Word} (h : v.getLsbD 1 = true) :
    (s.ctrlCleared v).reg R.AZS_DLM_CNT = 0 ∧ (s.ctrlCleared v).reg R.AZS_FAIL_CNT = 0 := by
  unfold State.ctrlCleared
  rw [if_pos h]
  exact ⟨(State.reg_setReg_other _ _ _ _ (by decide)).trans (s.reg_setReg_same _ _), State.reg_setReg_same _ _ _⟩

theorem State.regsOnly_ctrlAdmitted (s : State) (v : Word) :
    ({ s with azs := (s.ctrlAdmitted v).azs } : State).regsOnly (s.ctrlAdmitted v) [R.AZS_STATUS] := by
  unfold State.ctrlAdmitted
  split
  · exact State.regsOnly_put _ _ (by decide)
  · exact State.regsOnly_refl _ _

/-- The registers that a write of AZS_CTRL can change. -/
def ctrlRegs (v : Word) : List Nat := [R.AZS_CTRL, R.AZS_STATUS] ++ clearedRegs v

theorem mem_clearedRegs {v : Word} {a : Nat} (h : a ∈ clearedRegs v) : a = R.AZS_DLM_CNT ∨ a = R.AZS_FAIL_CNT := by
  unfold clearedRegs at h
  split at h
  · simpa using h
  · cases h

/-- A frame of registers holds as well beside another state of the array. -/
theorem State.regsOnly.withAzs {s t : State} {l : List Nat} (h : s.regsOnly t l) (a : AzsSt) :
    ({ s with azs := a } : State).regsOnly { t with azs := a } l :=
  ⟨congrArg (fun u : State => ({ u with azs := a } : State)) h.1, h.2⟩

section
variable (s : State) (v : Word)

/-- The word written, with the counters cleared where CNT_CLR asks for it. -/
def State.ctrlWritten (s : State) (v : Word) : State := (s.setLater R.AZS_CTRL (v &&& 0xFF04)).ctrlCleared v

theorem State.ctrlWritten_kept : (s.ctrlWritten v).azs = s.azs ∧ (s.ctrlWritten v).inForce = (s.setLater R.AZS_CTRL (v &&& 0xFF04)).inForce := by
  have hframe := State.regsOnly_ctrlCleared (s.setLater R.AZS_CTRL (v &&& 0xFF04)) v
  refine ⟨(State.regsOnly_azs hframe).trans (s.setLater_azs _ _), ?_⟩
  have e := congrArg State.inForce hframe.1; exact e

theorem State.inForce_azsCtrlWrite : (s.azsCtrlWrite v).inForce = (s.ctrlWritten v).inForce := by
  have e := congrArg State.inForce (State.regsOnly_ctrlAdmitted (s.ctrlWritten v) v).1; exact e

theorem ctrl_not_mem_clearedRegs : R.AZS_CTRL ∉ clearedRegs v := fun h => by
  rcases mem_clearedRegs h with h | h <;> exact absurd h (by decide)

theorem State.ctrl_ctrlWritten : (s.ctrlWritten v).reg R.AZS_CTRL = v &&& 0xFF04 :=
  ((State.regsOnly_ctrlCleared _ v).2 _ (ctrl_not_mem_clearedRegs v)).trans (s.reg_setLater_same _ _)

theorem State.reg_azsCtrlWrite {a : Nat} (h : a ≠ R.AZS_STATUS) : (s.azsCtrlWrite v).reg a = (s.ctrlWritten v).reg a :=
  (State.regsOnly_ctrlAdmitted (s.ctrlWritten v) v).2 a (by simpa using h)

theorem State.ctrl_azsCtrlWrite : (s.azsCtrlWrite v).reg R.AZS_CTRL = v &&& 0xFF04 :=
  (s.reg_azsCtrlWrite v (by decide)).trans (s.ctrl_ctrlWritten v)

/-- WS_EN as it was stays in force. -/
theorem State.eff_azsCtrlWrite : (s.azsCtrlWrite v).eff R.AZS_CTRL = s.eff R.AZS_CTRL := by
  have hreg : (s.azsCtrlWrite v).reg R.AZS_CTRL = (s.setLater R.AZS_CTRL (v &&& 0xFF04)).reg R.AZS_CTRL :=
    (s.ctrl_azsCtrlWrite v).trans (s.reg_setLater_same _ _).symm
  rw [State.eff_congr hreg ((s.inForce_azsCtrlWrite v).trans (s.ctrlWritten_kept v).2), State.eff_setLater]

/-- Beside the array's own state and the word in force a write of AZS_CTRL changes its registers alone. -/
theorem State.regsOnly_azsCtrlWrite :
    ({ s with azs := (s.azsCtrlWrite v).azs, inForce := (s.azsCtrlWrite v).inForce } : State).regsOnly (s.azsCtrlWrite v) (ctrlRegs v) := by
  let a := (s.azsCtrlWrite v).azs
  have hlater : ({ s with azs := a, inForce := (s.azsCtrlWrite v).inForce } : State).regsOnly
      { s.setLater R.AZS_CTRL (v &&& 0xFF04) with azs := a } (ctrlRegs v) := by
    rw [s.inForce_azsCtrlWrite v, (s.ctrlWritten_kept v).2]
    exact ⟨rfl, fun b hb => s.reg_setLater_other _ fun e => hb (e ▸ List.mem_cons_self)⟩
  have hcleared := ((State.regsOnly_ctrlCleared (s.setLater R.AZS_CTRL (v &&& 0xFF04)) v).withAzs a).mono (l' := ctrlRegs v)
    fun _ => List.mem_append_right _
  have hadmitted := (State.regsOnly_ctrlAdmitted (s.ctrlWritten v) v).mono (l' := ctrlRegs v)
    fun _ hb => List.mem_append_left _ (List.mem_cons_of_mem _ hb)
  exact State.regsOnly_trans hlater (State.regsOnly_trans hcleared hadmitted)

/-- With ADMIT, admission starts unless one runs; RESERVE is taken as written (R246). -/
theorem State.azs_azsCtrlWrite_starts (h : v.getLsbD 0 = true) :
    (s.azsCtrlWrite v).azs = { s.azs with admitting := if s.azs.admitting.isNone then some .command else s.azs.admitting,
                                           reserve := if s.azs.admitting.isNone then bitsOf v 15 8 else s.azs.reserve } ∧
      (s.azsCtrlWrite v).f F.AZS_STATUS_ADM_BUSY = if s.azs.admitting.isNone then 1 else s.f F.AZS_STATUS_ADM_BUSY := by
  have hazs := (s.ctrlWritten_kept v).1
  have hreserve : (s.ctrlWritten v).f F.AZS_CTRL_RESERVE = bitsOf v 15 8 :=
    (congrArg (bitsOf · 15 8) (s.ctrl_ctrlWritten v)).trans (reserve_ctrlBits v)
  rw [State.azsCtrlWrite_eq, ← State.ctrlWritten, State.ctrlAdmitted, h, hazs, Bool.true_and]
  by_cases hnone : s.azs.admitting.isNone = true
  · simp only [if_pos hnone, State.admitBatch, State.put_azs, hazs, hreserve, true_and]
    exact State.f_put_same _ _ _ (by decide) (by decide)
  · simp only [if_neg hnone, hazs, true_and]
    refine State.f_congr _ (((State.regsOnly_ctrlCleared _ v).2 _ fun hm => ?_).trans (s.reg_setLater_other _ (by decide)))
    rcases mem_clearedRegs hm with hm | hm <;> exact absurd hm (by decide)
end

/-! ## ADMIT and the counters' clear -/

theorem State.azsAdmit_spec (s : State) (v : Word) :
    let t := s.azsCtrlWrite (v ||| 1)
    t.reg R.AZS_CTRL = v &&& 0xFF04 ∧ t.eff R.AZS_CTRL = s.eff R.AZS_CTRL ∧
      t.f F.AZS_STATUS_ADM_BUSY = (if s.azs.admitting.isNone then 1 else s.f F.AZS_STATUS_ADM_BUSY) ∧
      t.azs = { s.azs with admitting := if s.azs.admitting.isNone then some .command else s.azs.admitting,
                            reserve := if s.azs.admitting.isNone then bitsOf v 15 8 else s.azs.reserve } ∧
      ({ s with azs := t.azs, inForce := t.inForce } : State).regsOnly t (if v.getLsbD 1 then [R.AZS_CTRL, R.AZS_STATUS, R.AZS_DLM_CNT, R.AZS_FAIL_CNT]
        else [R.AZS_CTRL, R.AZS_STATUS]) := by
  intro t
  have hadmit : (v ||| 1).getLsbD 0 = true := by simp
  have hbits : bitsOf (v ||| 1) 15 8 = bitsOf v 15 8 := by rw [← reserve_ctrlBits, (or_and_mask v (by decide)), reserve_ctrlBits]
  have hregs : ctrlRegs (v ||| 1) = if v.getLsbD 1 then [R.AZS_CTRL, R.AZS_STATUS, R.AZS_DLM_CNT, R.AZS_FAIL_CNT] else [R.AZS_CTRL, R.AZS_STATUS] := by
    have hclear : (v ||| 1).getLsbD 1 = v.getLsbD 1 := by simp
    unfold ctrlRegs clearedRegs
    rw [hclear]
    split <;> rfl
  obtain ⟨hazs, hbusy⟩ := s.azs_azsCtrlWrite_starts (v ||| 1) hadmit
  rw [hbits] at hazs
  rw [← hregs]
  exact ⟨(s.ctrl_azsCtrlWrite _).trans (or_and_mask v (by decide)), s.eff_azsCtrlWrite _, hbusy, hazs, s.regsOnly_azsCtrlWrite _⟩

theorem State.azsCounterClear_spec (s : State) (v : Word) :
    let t := s.azsCtrlWrite (v ||| 2)
    t.reg R.AZS_DLM_CNT = 0 ∧ t.reg R.AZS_FAIL_CNT = 0 ∧ t.reg R.AZS_CTRL = v &&& 0xFF04 ∧ t.eff R.AZS_CTRL = s.eff R.AZS_CTRL ∧
      (∀ r, r ∉ [R.AZS_CTRL, R.AZS_STATUS, R.AZS_DLM_CNT, R.AZS_FAIL_CNT] → t.reg r = s.reg r) ∧ t.mem = s.mem := by
  intro t
  have hclear : (v ||| 2).getLsbD 1 = true := by simp
  have hregs : ctrlRegs (v ||| 2) = [R.AZS_CTRL, R.AZS_STATUS, R.AZS_DLM_CNT, R.AZS_FAIL_CNT] := by
    unfold ctrlRegs clearedRegs
    rw [hclear]
    rfl
  have hframe := s.regsOnly_azsCtrlWrite (v ||| 2)
  rw [hregs] at hframe
  have hmem : t.mem = s.mem := by
    have e := congrArg State.mem hframe.1; exact e
  obtain ⟨hdlm, hfail⟩ := State.ctrlCleared_clears (s.setLater R.AZS_CTRL ((v ||| 2) &&& 0xFF04)) hclear
  exact ⟨(s.reg_azsCtrlWrite _ (by decide)).trans hdlm, (s.reg_azsCtrlWrite _ (by decide)).trans hfail,
    (s.ctrl_azsCtrlWrite _).trans (or_and_mask v (by decide)), s.eff_azsCtrlWrite _, hframe.2, hmem⟩

/-! ## A detection -/

/-- The tick of a detector's first detection, kept while it is pending (R258). -/
def State.stamped (s : State) (d : Nat) : State :=
  if s.bit (R.SHD_PEND 0) d then s else { s with shd := { s.shd with stamp := tput s.shd.stamp d s.tickNo } }

/-- The detection latched. -/
def State.detLatched (s : State) (d : Nat) : State := (s.stamped d).setBit (R.SHD_PEND 0) d true

/-- The latched detection as SHD_LASTDET and SHD_STATUS show it. -/
def State.detectShown (s : State) (d : Nat) : State := ((s.put F.SHD_LASTDET_OFFSET (s.f F.TICK_PHASE_OFFSET)).put F.SHD_LASTDET_DET d).countPend

theorem State.detect_disabled {s : State} {d : Nat} (h : bitsOf (s.eff (R.SHD_MAP d)) 31 31 = 0) : s.detect d = s :=
  if_neg (by rw [h]; decide)

theorem State.detect_enabled {s : State} {d : Nat} (h : bitsOf (s.eff (R.SHD_MAP d)) 31 31 = 1) : s.detect d = (s.detLatched d).detectShown d :=
  if_pos h

theorem State.regsOnly_detectShown (s : State) (d : Nat) : s.regsOnly (s.detectShown d) [R.SHD_LASTDET, R.SHD_STATUS] :=
  State.regsOnly_trans (s.regsOnly_put _ (by decide)) (State.regsOnly_trans (State.regsOnly_put _ _ (by decide)) (State.regsOnly_put _ _ (by decide)))

theorem State.shd_stamped (s : State) (d : Nat) :
    (s.stamped d).shd = if s.bit (R.SHD_PEND 0) d then s.shd else { s.shd with stamp := tput s.shd.stamp d s.tickNo } := by
  unfold State.stamped; split <;> rfl

theorem State.regsOnly_stamped (s : State) (d : Nat) (l : List Nat) : ({ s with shd := (s.stamped d).shd } : State).regsOnly (s.stamped d) l := by
  unfold State.stamped; split <;> exact State.regsOnly_refl _ _

theorem State.regsOnly_detLatched (s : State) (d : Nat) : ({ s with shd := (s.stamped d).shd } : State).regsOnly (s.detLatched d) [R.SHD_PEND (d / 32)] :=
  State.regsOnly_trans (s.regsOnly_stamped d _) (State.regsOnly_setReg _ _ (List.mem_singleton.mpr rfl))

/-- The pending bits after a latch. -/
theorem State.bit_detectShown (s : State) (d j : Nat) :
    ((s.detLatched d).detectShown d).bit (R.SHD_PEND 0) j = if j = d then true else s.bit (R.SHD_PEND 0) j := by
  have hword : R.SHD_PEND 0 + 4 * (j / 32) ∉ [R.SHD_LASTDET, R.SHD_STATUS] := by
    simp only [List.mem_cons, List.not_mem_nil, or_false, R.SHD_PEND, R.SHD_LASTDET, R.SHD_STATUS]
    omega
  have hshown : ((s.detLatched d).detectShown d).bit (R.SHD_PEND 0) j = (s.detLatched d).bit (R.SHD_PEND 0) j := by
    unfold State.bit
    rw [(State.regsOnly_detectShown _ d).2 _ hword]
  have hstamped : (s.stamped d).bit (R.SHD_PEND 0) j = s.bit (R.SHD_PEND 0) j := by
    unfold State.bit
    rw [(s.regsOnly_stamped d []).2 _ List.not_mem_nil]
    rfl
  rw [hshown, State.detLatched, State.bit_setBit, hstamped]

theorem State.lastDet_detectShown (s : State) {d : Nat} (hd : d < 256) : (s.detectShown d).f F.SHD_LASTDET_DET = d := by
  unfold State.detectShown State.countPend
  rw [State.f_put_addr _ _ _ _ (by decide), State.f_put_same _ _ _ (by decide) (by decide)]
  exact Nat.mod_eq_of_lt hd

/-- An enabled detector latches once, with the tick of its first detection. -/
theorem State.detect_latches {s : State} {d : Nat} (hd : d < 256) (h : bitsOf (s.eff (R.SHD_MAP d)) 31 31 = 1) :
    let t := s.detect d
    t.bit (R.SHD_PEND 0) d = true ∧ (∀ j, j < 256 → j ≠ d → t.bit (R.SHD_PEND 0) j = s.bit (R.SHD_PEND 0) j) ∧ t.f F.SHD_LASTDET_DET = d ∧
      t.shd = (if s.bit (R.SHD_PEND 0) d then s.shd else { s.shd with stamp := tput s.shd.stamp d s.tickNo }) ∧
      ({ s with shd := t.shd } : State).regsOnly t [R.SHD_PEND (d / 32), R.SHD_LASTDET, R.SHD_STATUS] := by
  intro t
  have ht : t = (s.detLatched d).detectShown d := State.detect_enabled h
  have hframe := State.regsOnly_trans ((s.regsOnly_detLatched d).mono (l' := [R.SHD_PEND (d / 32), R.SHD_LASTDET, R.SHD_STATUS]) (by simp))
    ((State.regsOnly_detectShown (s.detLatched d) d).mono (by simp))
  have hshd : t.shd = (s.stamped d).shd := by
    have e := congrArg State.shd hframe.1
    rw [ht]; exact e
  rw [hshd, ht]
  refine ⟨?_, fun j _ hne => ?_, State.lastDet_detectShown _ hd, s.shd_stamped d, hframe⟩
  · rw [s.bit_detectShown, if_pos rfl]
  · rw [s.bit_detectShown, if_neg hne]

/-! ## The rebase and the selector's counters -/

theorem State.armRebase_spec (s : State) (v : Word) :
    let t := s.armRebase v
    t.shd = { s.shd with rebase := some (bitsOf v 5 0) } ∧ t.f F.SHD_STATUS_REB_ARMED = 1 ∧
      ({ s with shd := t.shd } : State).regsOnly t [R.SHD_STATUS] :=
  ⟨rfl, State.f_put_same _ _ _ (by decide) (by decide), State.regsOnly_put _ _ (by decide)⟩

theorem State.shdCounterClear_spec (s : State) (v : Word) :
    let t := s.shdCtrlWrite (v ||| 4)
    t.reg R.SHD_CNT = 0 ∧ t.reg R.SHD_CTRL = v &&& 3 ∧ s.regsOnly t [R.SHD_CNT, R.SHD_CTRL] := by
  intro t
  have hbits : (v ||| 4) &&& 3 = v &&& 3 := or_and_mask v (by decide)
  have ht : t = (s.setReg R.SHD_CTRL (v &&& 3)).setReg R.SHD_CNT 0 := by
    rw [← hbits]
    exact if_pos (by simp)
  rw [ht]
  exact ⟨State.reg_setReg_same _ _ _, (State.reg_setReg_other _ _ _ _ (by decide)).trans (s.reg_setReg_same _ _),
    State.regsOnly_trans (s.regsOnly_setReg _ (by decide)) (State.regsOnly_setReg _ _ (by decide))⟩

/-! ## The statement -/

/-- Settles O42: admission starts and ends with a table or a refusal, a detection latches once, a rebase arms, and the counters clear. -/
theorem admissionAndDetections : Obligations.AdmissionAndDetections := by
  refine ⟨fun s => ?_, fun s => ⟨rfl, fun _ _ => rfl, fun _ _ => rfl, fun _ _ => rfl, fun _ _ => rfl, fun _ _ => rfl⟩⟩
  refine ⟨fun m v => ?_, fun m v => ?_, fun h => ?_, fun k code q h hj => ?_, fun tbl h hj => ?_, fun m v => ⟨fun h => ?_, fun h => ?_⟩,
    fun m v => ?_, fun m v => ?_⟩
  · exact ⟨_, rfl, s.azsAdmit_spec v⟩
  · exact ⟨_, rfl, s.azsCounterClear_spec v⟩
  · exact congrArg Host.Outcome.next (State.admissionEnd_none h)
  · exact ⟨_, rfl, State.admissionEnd_refuses h hj⟩
  · exact ⟨_, rfl, State.admissionEnd_accepts h hj⟩
  · exact congrArg Host.Outcome.next (State.detect_disabled h)
  · exact ⟨_, rfl, State.detect_latches (bitsOf_lt v 7 0) h⟩
  · exact ⟨_, rfl, s.armRebase_spec v⟩
  · exact ⟨_, rfl, s.shdCounterClear_spec v⟩
end Sys2Proof.Machine
end

section
/-!
The assertion of a source: what stands in its pending count, and the registers that its detectors leave (R257, R342, R345).
-/
namespace Sys2Proof.Machine

/-- A detection changes registers of the selector alone. -/
theorem State.reg_detect (s : State) {d a : Nat} (hd : d < 256) (ha : blockOf a ≠ 7) : (s.detect d).reg a = s.reg a := by
  by_cases h : bitsOf (s.eff (R.SHD_MAP d)) 31 31 = 1
  · obtain ⟨-, -, -, -, -, hreg⟩ := State.detect_latches hd h
    refine hreg a fun hm => ha ?_
    simp only [List.mem_cons, List.not_mem_nil, or_false, R.SHD_PEND, R.SHD_LASTDET, R.SHD_STATUS] at hm
    simp only [blockOf]
    omega
  · rw [State.detect, if_neg h]

theorem State.reg_detectAll (s : State) {l : List Nat} {a : Nat} (hl : ∀ d ∈ l, d < 256) (ha : blockOf a ≠ 7) :
    (l.foldl (·.detect ·) s).reg a = s.reg a :=
  List.foldlRecOn l _ (motive := fun t : State => t.reg a = s.reg a) rfl fun t ht d hd => (t.reg_detect (hl d hd) ha).trans ht

/-- The registers of a source lie in the interrupt controller's block. -/
theorem blockOf_irqCfg {n : Nat} (h : n < 256) : blockOf (R.IRQ_CFG n) = 14 := by simp only [blockOf, R.IRQ_CFG]; omega
theorem blockOf_irqCoal {n : Nat} (h : n < 256) : blockOf (R.IRQ_COAL n) = 14 := by simp only [blockOf, R.IRQ_COAL]; omega

/-- A one-bit field is set or clear. -/
theorem State.b_eq_true_iff (s : State) {x : Fld} (hx : x.hi = x.lo) : s.b x = true ↔ s.f x = 1 := by
  have h := s.f_lt x
  rw [hx, Nat.add_sub_cancel_left] at h
  simp only [State.b, bne_iff_ne, ne_eq]
  omega

/-- What a source's assertion counts rests on its two registers alone. -/
theorem State.upCount_congr {s t : State} {n : Nat} (hcfg : t.reg (R.IRQ_CFG n) = s.reg (R.IRQ_CFG n))
    (hcoal : t.reg (R.IRQ_COAL n) = s.reg (R.IRQ_COAL n)) : t.upCount n = s.upCount n := by
  unfold State.upCount
  rw [State.f_congr (F.IRQ_CFG_EN n) hcfg, State.f_congr (F.IRQ_COAL_PCNT n) hcoal]

/-- The pending count of a source that exists after an assertion (R342, R345). -/
theorem State.pcnt_assertSrc (s : State) {n : Nat} (h : s.sourceExists n = true) : (s.assertSrc n).f (F.IRQ_COAL_PCNT n) = s.upCount n := by
  have hn := s.sourceExists_lt h
  have hdet : ∀ a, blockOf a = 14 → ((s.detectorsOf 2 n).foldl (·.detect ·) s).reg a = s.reg a := fun a ha =>
    s.reg_detectAll (fun d hd => s.detectorsOf_lt hd) (by rw [ha]; decide)
  rw [← State.upCount_congr (hdet _ (blockOf_irqCfg hn)) (hdet _ (blockOf_irqCoal hn)), State.assertSrc, if_pos h]
  generalize (s.detectorsOf 2 n).foldl (·.detect ·) s = t
  have hen := t.b_eq_true_iff (x := F.IRQ_CFG_EN n) rfl
  unfold State.upCount
  by_cases h1 : t.f (F.IRQ_CFG_EN n) = 1
  · rw [if_pos (hen.mpr h1), if_pos h1]
    split <;> exact State.f_count_same _ _ _ (by simp [F.IRQ_COAL_PCNT]) (by simp [F.IRQ_COAL_PCNT])
  · rw [if_neg (mt hen.mp h1), if_neg h1]

/-- The sources of the pins and of the pulse inputs exist on every variant (R344). -/
theorem State.sourceExists_pin (s : State) {n : Nat} (hl : 48 ≤ n) (hh : n < 104) : s.sourceExists n = true := by
  have hfused : s.sourceFused n = false := by
    simp only [State.sourceFused, Bool.or_eq_false_iff, Bool.and_eq_false_iff, decide_eq_false_iff_not]
    omega
  simp only [State.sourceExists, hfused, Bool.not_false, Bool.and_true, Bool.or_eq_true, Bool.and_eq_true, decide_eq_true_eq]
  omega

end Sys2Proof.Machine
end

section
/-!
Edges of pins and the pulse inputs: the statement of O40 (R279, R280, R281, R342).
-/
namespace Sys2Proof.Machine

/-! ## A pin's level -/

/-- The new level stands in GPIO_IN and refreshes the pin's remote point. -/
def State.levelShown (s : State) (k : Nat) (v : Bool) : State := (s.setBit R.LOOP_GPIO_IN_LO k v).refreshPoint 4 k

/-- The pin's detectors have seen the edge. -/
def State.edgeSeen (s : State) (k : Nat) (v : Bool) : State :=
  ((s.levelShown k v).gpioDetectors k v).foldl (·.detect ·) (s.levelShown k v)

theorem State.gpioLevel_same {s : State} {k : Nat} {v : Bool} (h : s.bit R.LOOP_GPIO_IN_LO k = v) : s.gpioLevel k v = s := if_pos h

theorem State.gpioLevel_edge {s : State} {k : Nat} {v : Bool} (h : s.bit R.LOOP_GPIO_IN_LO k ≠ v) :
    s.gpioLevel k v = if (s.edgeSeen k v).gpioEdgeTaken k v then (s.edgeSeen k v).assertSrc (48 + k) else s.edgeSeen k v := if_neg h

theorem State.gpioDetectors_lt (s : State) {k d : Nat} {rise : Bool} (h : d ∈ s.gpioDetectors k rise) : d < 256 := by
  simp only [State.gpioDetectors, List.mem_filterMap] at h
  obtain ⟨e, he, h⟩ := h
  obtain ⟨-, h⟩ := Option.ite_none_right_eq_some.mp h
  exact Option.some.inj h ▸ s.listedEff_lt he

theorem State.logFrame_edgeSeen (s : State) (k : Nat) (v : Bool) : (s.levelShown k v).logFrame (s.edgeSeen k v) :=
  State.logFrame_detectAll _ _ fun _ hd => State.gpioDetectors_lt _ hd

theorem State.logFrame_gpioLevel {s : State} {k : Nat} {v : Bool} (h : s.bit R.LOOP_GPIO_IN_LO k ≠ v) :
    (s.levelShown k v).logFrame (s.gpioLevel k v) := by
  rw [State.gpioLevel_edge h]
  split
  · exact State.logFrame_trans (s.logFrame_edgeSeen k v) (State.logFrame_assertSrc _ _)
  · exact s.logFrame_edgeSeen k v

theorem State.logFrame_points {s t : State} (h : s.logFrame t) : t.points = s.points := by
  have e := congrArg State.points h.1; exact e

/-- The pins' levels lie in two registers, which no event touches. -/
theorem gpioIn_word {j : Nat} (hj : j < 48) : R.LOOP_GPIO_IN_LO + 4 * (j / 32) ∈ [R.LOOP_GPIO_IN_LO, R.LOOP_GPIO_IN_HI] := by
  simp only [List.mem_cons, List.not_mem_nil, or_false, R.LOOP_GPIO_IN_LO, R.LOOP_GPIO_IN_HI]
  omega

theorem logReg_gpioIn : ∀ a ∈ [R.LOOP_GPIO_IN_LO, R.LOOP_GPIO_IN_HI], logReg a = false := by decide

theorem State.bit_gpioLevel {s : State} {k : Nat} {v : Bool} (h : s.bit R.LOOP_GPIO_IN_LO k ≠ v) {j : Nat} (hj : j < 48) :
    (s.gpioLevel k v).bit R.LOOP_GPIO_IN_LO j = if j = k then v else s.bit R.LOOP_GPIO_IN_LO j := by
  have hkept : (s.gpioLevel k v).bit R.LOOP_GPIO_IN_LO j = (s.levelShown k v).bit R.LOOP_GPIO_IN_LO j := by
    unfold State.bit
    rw [(State.logFrame_gpioLevel h).2.1 _ (logReg_gpioIn _ (gpioIn_word hj))]
  exact hkept.trans (s.bit_setBit R.LOOP_GPIO_IN_LO k j v)

/-- Of the registers the new level shows in GPIO_IN alone. -/
theorem State.reg_levelShown (s : State) {k : Nat} (v : Bool) {a : Nat} (hk : k < 48) (ha : a ∉ [R.LOOP_GPIO_IN_LO, R.LOOP_GPIO_IN_HI]) :
    (s.levelShown k v).reg a = s.reg a := by
  have hbit : (s.levelShown k v).reg a = (s.setBit R.LOOP_GPIO_IN_LO k v).reg a := State.reg_congr rfl a
  exact hbit.trans (s.reg_setBit_other _ _ _ _ fun e => ha (e ▸ gpioIn_word hk))

theorem State.live_gpioLevel {s : State} {k : Nat} {v : Bool} (hk : k < 48) (h : s.bit R.LOOP_GPIO_IN_LO k ≠ v) :
    tget? (s.gpioLevel k v).points.live (pointKey 4 k) = some s.tickNo := by
  have htick : (s.levelShown k v).tickNo = s.tickNo := by
    unfold State.tickNo State.reg64
    rw [s.reg_levelShown v hk (by decide), s.reg_levelShown v hk (by decide)]
  rw [State.logFrame_points (State.logFrame_gpioLevel h)]
  exact (tget?_tput_same _ _ _).trans (congrArg some htick)

theorem State.logAnd_gpioLevel {s : State} {k : Nat} {v : Bool} (hk : k < 48) (h : s.bit R.LOOP_GPIO_IN_LO k ≠ v) :
    ({ s with points := (s.gpioLevel k v).points } : State).logAnd (s.gpioLevel k v) [R.LOOP_GPIO_IN_LO, R.LOOP_GPIO_IN_HI] := by
  have hlog := State.logFrame_gpioLevel h
  rw [State.logFrame_points hlog]
  have hshown : ({ s with points := (s.levelShown k v).points } : State).regsOnly (s.levelShown k v) [R.LOOP_GPIO_IN_LO, R.LOOP_GPIO_IN_HI] :=
    State.regsOnly_setReg { s with points := (s.levelShown k v).points } _ (gpioIn_word hk)
  exact State.logAnd_of_regsOnly hshown hlog

/-- EDGE 1 takes falling edges, 2 both, any other code rising ones (R342). -/
theorem State.gpioEdgeTaken_iff (s : State) (k : Nat) (v : Bool) :
    s.gpioEdgeTaken k v = true ↔ s.f (F.IRQ_CFG_EDGE (48 + k)) = 2 ∨ (s.f (F.IRQ_CFG_EDGE (48 + k)) = 1 ↔ v = false) := by
  unfold State.gpioEdgeTaken
  split
  · next h => simp [h]
  · next h => simp [h]
  · next h1 h2 => simp [show ¬ _ from h1, show ¬ _ from h2]

/-- Until the pin's source asserts, the registers of the sources stay. -/
theorem State.reg_edgeSeen (s : State) {k : Nat} (v : Bool) {a : Nat} (hk : k < 48) (ha : blockOf a = 14) : (s.edgeSeen k v).reg a = s.reg a := by
  have hdet : blockOf a ≠ 7 := by rw [ha]; decide
  have hin : a ∉ [R.LOOP_GPIO_IN_LO, R.LOOP_GPIO_IN_HI] := fun hm =>
    (by decide : ∀ b ∈ [R.LOOP_GPIO_IN_LO, R.LOOP_GPIO_IN_HI], blockOf b ≠ 14) a hm ha
  exact (State.reg_detectAll _ (fun _ hd => State.gpioDetectors_lt _ hd) hdet).trans (s.reg_levelShown v hk hin)

theorem State.pcnt_gpioLevel {s : State} {k : Nat} {v : Bool} (hk : k < 48) (h : s.bit R.LOOP_GPIO_IN_LO k ≠ v) :
    (s.gpioLevel k v).f (F.IRQ_COAL_PCNT (48 + k)) =
      if s.gpioEdgeTaken k v then s.upCount (48 + k) else s.f (F.IRQ_COAL_PCNT (48 + k)) := by
  have hcfg : (s.edgeSeen k v).reg (R.IRQ_CFG (48 + k)) = s.reg (R.IRQ_CFG (48 + k)) :=
    s.reg_edgeSeen v hk (blockOf_irqCfg (by omega))
  have hcoal : (s.edgeSeen k v).reg (R.IRQ_COAL (48 + k)) = s.reg (R.IRQ_COAL (48 + k)) :=
    s.reg_edgeSeen v hk (blockOf_irqCoal (by omega))
  have htaken : (s.edgeSeen k v).gpioEdgeTaken k v = s.gpioEdgeTaken k v := by
    unfold State.gpioEdgeTaken
    rw [State.f_congr (F.IRQ_CFG_EDGE (48 + k)) hcfg]
  rw [State.gpioLevel_edge h, htaken]
  split
  · rw [State.pcnt_assertSrc _ (State.sourceExists_pin _ (by omega) (by omega)), State.upCount_congr hcfg hcoal]
  · exact State.f_congr _ hcoal

/-! ## The count of a pulse input -/

@[simp] theorem State.pulse_setPulse_same (s : State) (p : Nat) (x : PulseSt) : (s.setPulse p x).pulse p = x := tget_tset_same _ _ _ _

theorem State.pulse_setPulse_other (s : State) {p j : Nat} (x : PulseSt) (h : j ≠ p) : (s.setPulse p x).pulse j = s.pulse j :=
  tget_tset_other _ _ _ _ _ _ h

/-- The level of one of the two lines. -/
def PulseSt.level (x : PulseSt) : PulseLine → Bool
  | .a => x.a
  | .b => x.b

def PulseSt.withLevel (x : PulseSt) (v : Bool) : PulseLine → PulseSt
  | .a => { x with a := v }
  | .b => { x with b := v }

/-- What an edge adds to the count: nothing on an input that is off. -/
def State.pulseDelta (s : State) (p : Nat) (l : PulseLine) (v : Bool) : Int :=
  if s.pulseOn p then pulseStep (s.f (F.LOOP_PCFG_MODE p)) l v (s.pulse p) else 0

theorem State.pulseEdge_same {s : State} {p : Nat} {l : PulseLine} {v : Bool} (h : (s.pulse p).level l = v) : s.pulseEdge p l v = s := by
  cases l <;> exact if_pos h

theorem State.pulseEdge_edge {s : State} {p : Nat} {l : PulseLine} {v : Bool} (h : (s.pulse p).level l ≠ v) :
    s.pulseEdge p l v = (s.setPulse p ((s.pulse p).withLevel v l)).setReg (R.LOOP_PCNT p)
      (s.reg (R.LOOP_PCNT p) + BitVec.ofInt 32 (s.pulseDelta p l v)) := by
  cases l <;> exact if_neg h

/-- An edge counts on an input that is enabled; in MODE 0 the table has no step (R280). -/
theorem State.pulseDelta_eq (s : State) (p : Nat) (l : PulseLine) (v : Bool) : s.pulseDelta p l v =
    if s.f (F.LOOP_PCFG_EN p) = 1 then pulseStep (s.f (F.LOOP_PCFG_MODE p)) l v (s.pulse p) else 0 := by
  have hen := s.b_eq_true_iff (x := F.LOOP_PCFG_EN p) rfl
  by_cases hmode : s.f (F.LOOP_PCFG_MODE p) = 0
  · have hoff : s.pulseOn p = false := by rw [State.pulseOn, State.b, State.b, hmode]; exact Bool.and_false _
    rw [State.pulseDelta, hoff, hmode]
    exact (ite_self 0).symm
  · have hon : s.pulseOn p = s.b (F.LOOP_PCFG_EN p) := by rw [State.pulseOn, State.b, State.b, bne_iff_ne.mpr hmode, Bool.and_true]
    rw [State.pulseDelta, hon, if_congr hen rfl rfl]

/-! ## Z -/

/-- The count copied under ZLATCH. -/
def State.indexCopied (s : State) (p : Nat) : State :=
  if s.b (F.LOOP_PCFG_ZLATCH p) then s.setReg (R.LOOP_PIDX p) (s.reg (R.LOOP_PCNT p)) else s

theorem State.indexEdge_eq (s : State) (p : Nat) : s.indexEdge p = (s.indexCopied p).assertSrc (96 + p) := rfl

theorem State.regsOnly_indexCopied (s : State) (p : Nat) : s.regsOnly (s.indexCopied p) [R.LOOP_PIDX p] := by
  unfold State.indexCopied; split
  · exact s.regsOnly_setReg _ (List.mem_singleton.mpr rfl)
  · exact s.regsOnly_refl _

theorem State.pidx_indexCopied (s : State) (p : Nat) : (s.indexCopied p).reg (R.LOOP_PIDX p) =
    if s.f (F.LOOP_PCFG_ZLATCH p) = 1 then s.reg (R.LOOP_PCNT p) else s.reg (R.LOOP_PIDX p) := by
  have hz := s.b_eq_true_iff (x := F.LOOP_PCFG_ZLATCH p) rfl
  unfold State.indexCopied
  by_cases h : s.f (F.LOOP_PCFG_ZLATCH p) = 1
  · rw [if_pos (hz.mpr h), if_pos h, State.reg_setReg_same]
  · rw [if_neg (mt hz.mp h), if_neg h]

theorem logReg_pidx {p : Nat} (hp : p < 8) : logReg (R.LOOP_PIDX p) = false := by interval_cases p <;> rfl

theorem State.indexEdge_spec (s : State) {p : Nat} (hp : p < 8) :
    s.logAnd (s.indexEdge p) [R.LOOP_PIDX p] ∧ (s.indexEdge p).reg (R.LOOP_PIDX p) = (s.indexCopied p).reg (R.LOOP_PIDX p) ∧
      (s.indexEdge p).f (F.IRQ_COAL_PCNT (96 + p)) = s.upCount (96 + p) := by
  have hlog := (s.indexCopied p).logFrame_assertSrc (96 + p)
  have hcopy := (s.regsOnly_indexCopied p).2
  refine ⟨State.logAnd_of_regsOnly (s.regsOnly_indexCopied p) hlog, hlog.2.1 _ (logReg_pidx hp), ?_⟩
  rw [State.indexEdge_eq, State.pcnt_assertSrc _ (State.sourceExists_pin _ (by omega) (by omega))]
  refine State.upCount_congr (hcopy _ ?_) (hcopy _ ?_)
  · simp only [List.mem_singleton, R.IRQ_CFG, R.LOOP_PIDX]; omega
  · simp only [List.mem_singleton, R.IRQ_COAL, R.LOOP_PIDX]; omega

/-! ## The rates -/

/-- The counts at the last 256 updates, the latest first. -/
def State.countsAfter (s : State) (p : Nat) : List Nat := (s.f (F.LOOP_PCNT_COUNT p) :: (s.pulse p).counts).take 256

/-- The change over the last WIN updates, per second (R281). -/
def State.rateNow (s : State) (p : Nat) : Nat :=
  let w := max 1 (s.f (F.LOOP_PCFG_WIN p))
  sRatio (signedOf 32 (unsignedOf 32 ((s.f (F.LOOP_PCNT_COUNT p) : Int) - ((s.pulse p).counts.getD (w - 1) 0 : Nat))) * 10000) w

theorem State.pulseRate_on {s : State} {p : Nat} (h : s.pulseOn p = true) :
    s.pulseRate p = (s.setPulse p { s.pulse p with counts := s.countsAfter p, rate := s.rateNow p }).setReg (R.LOOP_PRATE p)
      (BitVec.ofNat 32 (s.rateNow p)) := if_pos h

theorem State.pulseRate_off {s : State} {p : Nat} (h : s.pulseOn p = false) :
    s.pulseRate p = (s.setPulse p { s.pulse p with counts := s.countsAfter p }).setReg (R.LOOP_PRATE p) 0 :=
  if_neg (by rw [h]; decide)

/-- What the update of one input writes. -/
theorem State.pulseRate_eq (s : State) (p : Nat) : ∃ x : PulseSt, x.counts = s.countsAfter p ∧
    s.pulseRate p = (s.setPulse p x).setReg (R.LOOP_PRATE p) (if s.pulseOn p then BitVec.ofNat 32 (s.rateNow p) else 0) := by
  cases h : s.pulseOn p with
  | true => exact ⟨_, rfl, State.pulseRate_on h⟩
  | false => exact ⟨_, rfl, State.pulseRate_off h⟩

/-- The registers of the rates. -/
def rateRegs : List Nat := (List.range 8).map R.LOOP_PRATE

theorem rateRegs_pcfg (p : Nat) : R.LOOP_PCFG p ∉ rateRegs := by
  simp only [rateRegs, List.mem_map, not_exists, not_and, R.LOOP_PCFG, R.LOOP_PRATE]; omega

theorem rateRegs_pcnt (p : Nat) : R.LOOP_PCNT p ∉ rateRegs := by
  simp only [rateRegs, List.mem_map, not_exists, not_and, R.LOOP_PCNT, R.LOOP_PRATE]; omega

/-- State t stands after the update of the inputs below n. -/
structure State.RatesUpTo (s : State) (n : Nat) (t : State) : Prop where
  frame : ({ s with loop := t.loop } : State).regsOnly t rateRegs
  counts : ∀ p, p < n → (t.pulse p).counts = s.countsAfter p
  rate : ∀ p, p < n → t.reg (R.LOOP_PRATE p) = if s.pulseOn p then BitVec.ofNat 32 (s.rateNow p) else 0
  later : ∀ p, n ≤ p → t.pulse p = s.pulse p

theorem State.ratesUpTo_zero (s : State) : s.RatesUpTo 0 s where
  frame := State.regsOnly_refl _ _
  counts _ h := absurd h (Nat.not_lt_zero _)
  rate _ h := absurd h (Nat.not_lt_zero _)
  later _ _ := rfl

section
variable {s t : State} {n : Nat} (h : s.RatesUpTo n t)
include h

/-- An input that waits for its update finds what it had before. -/
theorem State.RatesUpTo.waiting : t.pulseOn n = s.pulseOn n ∧ t.countsAfter n = s.countsAfter n ∧ t.rateNow n = s.rateNow n := by
  have hf : ∀ x : Fld, x.addr ∉ rateRegs → t.f x = s.f x := fun x hx => State.f_congr x (h.frame.2 _ hx)
  have hcnt := hf (F.LOOP_PCNT_COUNT n) (rateRegs_pcnt n)
  have hpulse := h.later n (Nat.le_refl n)
  refine ⟨?_, ?_, ?_⟩
  · unfold State.pulseOn State.b
    rw [hf (F.LOOP_PCFG_EN n) (rateRegs_pcfg n), hf (F.LOOP_PCFG_MODE n) (rateRegs_pcfg n)]
  · unfold State.countsAfter
    rw [hcnt, hpulse]
  · unfold State.rateNow
    rw [hcnt, hpulse, hf (F.LOOP_PCFG_WIN n) (rateRegs_pcfg n)]

/-- The update of input n. -/
theorem State.RatesUpTo.next (hn : n < 8) : s.RatesUpTo (n + 1) (t.pulseRate n) := by
  obtain ⟨hon, hcounts, hrate⟩ := h.waiting
  obtain ⟨x, hx, ht⟩ := t.pulseRate_eq n
  rw [hon, hrate] at ht
  rw [hcounts] at hx
  have hpulse : ∀ p, p ≠ n → (t.pulseRate n).pulse p = t.pulse p := fun p hp => by rw [ht]; exact t.pulse_setPulse_other x hp
  have hreg : ∀ a, a ≠ R.LOOP_PRATE n → (t.pulseRate n).reg a = t.reg a := fun a ha => by
    rw [ht]; exact State.reg_setReg_other (t.setPulse n x) _ _ _ ha
  have hpulseN : (t.pulseRate n).pulse n = x := by rw [ht]; exact t.pulse_setPulse_same n x
  have hmem : R.LOOP_PRATE n ∈ rateRegs := List.mem_map.mpr ⟨n, List.mem_range.mpr hn, rfl⟩
  refine ⟨⟨?_, fun a ha => (hreg a fun e => ha (e ▸ hmem)).trans (h.frame.2 a ha)⟩, fun p hp => ?_, fun p hp => ?_, fun p hp => ?_⟩
  · rw [ht]
    exact congrArg (fun u : State => ({ u with loop := (t.setPulse n x).loop } : State)) h.frame.1
  · rcases Nat.lt_succ_iff_lt_or_eq.mp hp with hlt | rfl
    · rw [hpulse p (by omega), h.counts p hlt]
    · rw [hpulseN, hx]
  · rcases Nat.lt_succ_iff_lt_or_eq.mp hp with hlt | rfl
    · rw [hreg _ (by simp only [R.LOOP_PRATE]; omega), h.rate p hlt]
    · rw [ht, State.reg_setReg_same]
  · rw [hpulse p (by omega), h.later p (by omega)]

end

/-- The updates of the first n inputs. -/
theorem State.ratesUpTo_foldl (s : State) : ∀ n, n ≤ 8 → s.RatesUpTo n ((List.range n).foldl (·.pulseRate ·) s)
  | 0, _ => s.ratesUpTo_zero
  | n + 1, hn => by
    rw [List.range_succ, List.foldl_append]
    exact (s.ratesUpTo_foldl n (by omega)).next (by omega)

/-! ## The statement -/

/-- Settles O40: a pin's edge goes through GPIO_IN, its remote point, its detectors and its source; an edge of a pulse input moves its count
alone, Z copies it, a preset replaces it, and the rates follow from the counts by induction over the inputs updated. -/
theorem pinsAndPulseInputs : Obligations.PinsAndPulseInputs := by
  refine ⟨fun s => ⟨fun k v h => ?_, fun k v h => ?_, fun p l v => ⟨fun h => ?_, fun h => ?_⟩, fun p => ?_, fun p m v => ?_, ?_⟩,
    fun s => ⟨fun _ _ => rfl, fun _ _ _ => rfl, fun _ => rfl, rfl, fun _ _ _ => rfl⟩⟩
  · exact congrArg Host.Outcome.next (State.gpioLevel_same h)
  · refine ⟨_, rfl, (State.bit_gpioLevel h k.isLt).trans (if_pos rfl), fun j hj hne => (State.bit_gpioLevel h hj).trans (if_neg hne),
      State.live_gpioLevel k.isLt h, State.logAnd_gpioLevel k.isLt h, ?_⟩
    rw [State.pcnt_gpioLevel k.isLt h, State.upCount]
    simp only [State.gpioEdgeTaken_iff]
    exact (ite_and _ _ _ _).symm.trans (if_congr and_comm rfl rfl)
  · cases l <;> exact congrArg Host.Outcome.next (State.pulseEdge_same h)
  · have hne : (s.pulse p.val).level l ≠ v := by cases l <;> exact h
    have hedge := State.pulseEdge_edge hne
    refine ⟨_, congrArg Host.Outcome.next hedge, (State.reg_setReg_same _ _ _).trans ?_, ?_, fun j hj => ?_, ?_⟩
    · refine congrArg (fun d => s.reg (R.LOOP_PCNT p.val) + BitVec.ofInt 32 d) ?_
      rw [State.pulseDelta_eq]
      generalize s.f (F.LOOP_PCFG_MODE p.val) = mode
      by_cases hon : s.f (F.LOOP_PCFG_EN p.val) = 1
      · simp only [hon, if_true, true_and]
        rcases mode with _ | _ | _ | _ | mode <;> cases l <;> rfl
      · simp only [hon, if_false, false_and]
        rcases mode with _ | _ | _ | _ | mode <;> cases l <;> rfl
    · exact (s.pulse_setPulse_same _ _).trans (by cases l <;> rfl)
    · exact s.pulse_setPulse_other _ hj
    · exact State.regsOnly_setReg { s with loop := _ } _ (List.mem_singleton.mpr rfl)
  · obtain ⟨hframe, hpidx, hpcnt⟩ := s.indexEdge_spec p.isLt
    exact ⟨_, rfl, hframe, hpidx.trans (s.pidx_indexCopied p.val), hpcnt⟩
  · exact ⟨_, rfl, State.reg_setReg_same _ _ _, s.regsOnly_setReg _ (List.mem_singleton.mpr rfl)⟩
  · obtain ⟨hframe, hcounts, hrate, -⟩ := s.ratesUpTo_foldl 8 (Nat.le_refl 8)
    exact ⟨_, rfl, hframe, fun p hp => ⟨hcounts p hp, hrate p hp⟩⟩
end Sys2Proof.Machine
end

section
/-!
A read of an engine's status that finds a latched word: the statement of O39 (R12, R287).
-/
namespace Sys2Proof.Machine

/-- A read answers the word that is latched for its master, before what the register shows. -/
theorem State.readReg_latched {s : State} {m : Master} {a : Nat} {w : Word} (ha : assigned a = true)
    (hmask : inArray a (R.IRQ_MASK 0) 4 8 = false) (hw : tget? s.latches (mkey m a) = some w) : (s.readReg m a).1 = w := by
  simp [State.readReg, ha, hmask, hw]

/-- The reset state with a word latched for core 0's read of engine 0's status, in which TRACK is set. -/
def State.latchedStat : State := { State.reset with latches := [(mkey .cc0 (R.LOOP_STAT 0), 4)] }

/-- Refutes O39: its clause of STAT.TRACK says that a read of an engine's status tells whether the engine tracks, in every state. A read answers
a word that is latched for its master first (R12), and the statement does not ask that none is. In the counterexample engine 0 is off, so it
does not track, and the latched word has TRACK set. No command of the model latches this register: the clause lacks that hypothesis. -/
theorem not_loopEngines : ¬ Obligations.LoopEngines := by
  intro h
  obtain ⟨⟨-, -, -, -, htrack⟩, -⟩ := h
  have hread : (State.latchedStat.readReg .cc0 (R.LOOP_STAT 0)).1 = 4 := State.readReg_latched (by decide) (by decide) rfl
  have hoff : (State.latchedStat.b (F.LOOP_CFG_EN 0) && State.latchedStat.tracking 0) = false := by decide
  have hbit := htrack State.latchedStat .cc0 0
  change bitsOf (State.latchedStat.readReg .cc0 (R.LOOP_STAT 0)).1 2 2 =
    b2n (State.latchedStat.b (F.LOOP_CFG_EN 0) && State.latchedStat.tracking 0) at hbit
  rw [hread, hoff] at hbit
  exact absurd hbit (by decide)
end Sys2Proof.Machine
end

section
/-!
Fields of one bit, what an event and the assertion of a source keep, and what stands at the instant of a command.
-/
namespace Sys2Proof.Machine

/-! ## Fields of one bit -/

theorem State.b_eq_false_iff (s : State) (x : Fld) : s.b x = false ↔ s.f x = 0 := by simp [State.b]

theorem State.b_congr {s t : State} (x : Fld) (h : t.f x = s.f x) : t.b x = s.b x := by rw [State.b, State.b, h]

/-- A field of one bit is the number of its truth value. -/
theorem State.f_eq_b2n (s : State) {x : Fld} (hx : x.hi = x.lo) : s.f x = b2n (s.b x) := by
  cases hb : s.b x with
  | true => exact (s.b_eq_true_iff hx).mp hb
  | false => exact (s.b_eq_false_iff x).mp hb

theorem State.f_eq_zero_or_one (s : State) {x : Fld} (hx : x.hi = x.lo) : s.f x = 0 ∨ s.f x = 1 := by
  rw [s.f_eq_b2n hx]
  cases s.b x <;> decide

theorem State.f_putb_same (s : State) {x : Fld} (v : Bool) (hx : x.hi = x.lo) (hn : x.hi < 32) : (s.putb x v).f x = b2n v := by
  rw [State.putb, State.f_put_same _ _ _ hx.ge hn, hx, Nat.add_sub_cancel_left]
  cases v <;> rfl

theorem State.b_putb_same (s : State) {x : Fld} (v : Bool) (hx : x.hi = x.lo) (hn : x.hi < 32) : (s.putb x v).b x = v := by
  rw [State.b, s.f_putb_same v hx hn]
  cases v <;> rfl

/-- A write of a truth value keeps every field that shares no bit with its field. -/
theorem State.f_putb_apart (s : State) {x y : Fld} (v : Bool) (hl : x.lo ≤ x.hi) (h : y.addr ≠ x.addr ∨ y.hi < x.lo ∨ x.hi < y.lo) :
    (s.putb x v).f y = s.f y :=
  s.f_put_apart _ hl h

/-- Registers are fields of their own: another state of the pair, of the GNSS block or of the outputs leaves them. -/
theorem State.f_withPair (s : State) (p : PairSt) (x : Fld) : ({ s with pair := p } : State).f x = s.f x := rfl
theorem State.f_withGnss (s : State) (g : GnssSt) (x : Fld) : ({ s with gnss := g } : State).f x = s.f x := rfl
theorem State.f_withOut (s : State) (o : OutSt) (x : Fld) : ({ s with out := o } : State).f x = s.f x := rfl

/-! ## Events and sources -/

section
variable {s t : State} (h : s.logFrame t)
include h

theorem State.logFrame_pair : t.pair = s.pair := by
  have e := congrArg State.pair h.1; exact e
theorem State.logFrame_gnss : t.gnss = s.gnss := by
  have e := congrArg State.gnss h.1; exact e
theorem State.logFrame_cml : t.cml = s.cml := by
  have e := congrArg State.cml h.1; exact e

end

/-- What follows a frame of the log, seen from the state before it. -/
theorem State.logAnd_of_logFrame {s t : State} (l : List Nat) (h : s.logFrame t) : s.logAnd t l :=
  State.logAnd_of_regsOnly (s.regsOnly_refl l) h

theorem State.logAnd_refl (s : State) (l : List Nat) : s.logAnd s l := State.logAnd_of_logFrame l s.logFrame_refl

/-- An event that is recorded, with the source that it asserts. -/
theorem State.logFrame_eventSrc (s : State) (code : Nat) (items : List Nat) (n : Nat) : s.logFrame ((s.event code items).assertSrc n) :=
  State.logFrame_trans (State.logFrame_event _ _ _) (State.logFrame_assertSrc _ _)

theorem State.f_eventSrc (s : State) (code : Nat) (items : List Nat) (n : Nat) {x : Fld} (hx : logReg x.addr = false) :
    ((s.event code items).assertSrc n).f x = s.f x :=
  State.logFrame_f (s.logFrame_eventSrc code items n) x hx

/-! ## The instant of a command -/

/-- A command's instant is the present one, or time has passed up to it. -/
theorem State.comesAt_cases {s u : State} {n : Nat} (h : s.comesAt n = some u) : u = s ∨ u = s.elapse n := by
  unfold State.comesAt at h
  split at h
  · exact .inl (Option.some.inj h).symm
  · split at h
    · cases h
    · exact .inr (Option.some.inj h).symm

/-- Up to a command's instant every field stays but those of the time block and of TICK_PHASE. -/
theorem State.comesAt_f {s u : State} {n : Nat} (h : s.comesAt n = some u) (x : Fld) (ht : blockOf x.addr ≠ 10) (hp : x.addr ≠ R.TICK_PHASE) :
    u.f x = s.f x := by
  rcases State.comesAt_cases h with rfl | rfl
  · rfl
  · exact State.f_congr x (s.reg_elapse n ht hp)

end Sys2Proof.Machine
end

section
/-!
The GNSS block's starts, sleep and wakes: the statement of O53 (R311, R387, R388, R389).
-/
namespace Sys2Proof.Machine

/-! ## The frame of the GNSS block -/

/-- Only the GNSS block's state and the listed registers changed, and what events and sources change. -/
def State.gnssAnd (s t : State) (l : List Nat) : Prop := ({ s with gnss := t.gnss } : State).logAnd t l

theorem State.logAnd.withGnss {s t : State} {l : List Nat} (h : s.logAnd t l) (g : GnssSt) :
    ({ s with gnss := g } : State).logAnd { t with gnss := g } l := by
  obtain ⟨hrest, hreg, hbyte⟩ := h
  exact ⟨congrArg (fun u : State => ({ u with gnss := g } : State)) hrest, hreg, hbyte⟩

theorem State.gnssAnd_trans {s t u : State} {l : List Nat} (h : s.gnssAnd t l) (h' : t.gnssAnd u l) : s.gnssAnd u l :=
  State.logAnd_trans (State.logAnd.withGnss h u.gnss) h'

theorem State.gnssAnd_of_logAnd {s t : State} {l : List Nat} (h : s.logAnd t l) : s.gnssAnd t l := by
  have hg : t.gnss = s.gnss := by
    have e := congrArg State.gnss h.1; exact e
  unfold State.gnssAnd
  rw [hg]
  exact h

theorem State.gnssAnd_of_logFrame {s t : State} (l : List Nat) (h : s.logFrame t) : s.gnssAnd t l :=
  State.gnssAnd_of_logAnd (State.logAnd_of_logFrame l h)

theorem State.gnssAnd_put (s : State) {x : Fld} (v : Nat) {l : List Nat} (h : x.addr ∈ l) : s.gnssAnd (s.put x v) l :=
  State.logAnd_of_regsOnly (s.regsOnly_put v h) (State.logFrame_refl _)

theorem State.gnssAnd_gnss (s : State) (g : GnssSt) (l : List Nat) : s.gnssAnd { s with gnss := g } l := State.logAnd_refl _ l

section
variable {s t : State} {l : List Nat} (h : s.gnssAnd t l)
include h

theorem State.gnssAnd_f (x : Fld) (hlog : logReg x.addr = false) (hx : x.addr ∉ l) : t.f x = s.f x :=
  State.f_congr x (h.2.1 _ hlog hx)

end

/-! ## Trusted fixes -/

section
variable (s : State) (x : Fld) (n : Nat) (items : List Nat) (v : Bool)

theorem State.logFrame_gnssSource : s.logFrame (s.gnssSource n items) := s.logFrame_eventSrc _ _ _

theorem State.setFix_eq : s.setFix x n items v = if s.b x = v then s else (s.putb x v).gnssSource n items := rfl

theorem State.logAnd_setFix : s.logAnd (s.setFix x n items v) [x.addr] := by
  rw [State.setFix_eq]
  split
  · exact s.logAnd_refl _
  · exact State.logAnd_of_put (List.mem_singleton.mpr rfl) (State.logFrame_gnssSource _ n items)

variable {x}

theorem State.f_setFix_same (hlog : logReg x.addr = false) (hx : x.hi = x.lo) (hn : x.hi < 32) : (s.setFix x n items v).f x = b2n v := by
  rw [State.setFix_eq]
  split
  · next h => rw [s.f_eq_b2n hx, h]
  · rw [State.logFrame_f (State.logFrame_gnssSource _ n items) x hlog, s.f_putb_same v hx hn]

theorem State.f_setFix_apart {y : Fld} (hlog : logReg y.addr = false) (hl : x.lo ≤ x.hi) (h : y.addr ≠ x.addr ∨ y.hi < x.lo ∨ x.hi < y.lo) :
    (s.setFix x n items v).f y = s.f y := by
  rw [State.setFix_eq]
  split
  · rfl
  · rw [State.logFrame_f (State.logFrame_gnssSource _ n items) y hlog, s.f_putb_apart v hl h]

end

/-- The fields of GNSS_STATUS that show what a chain is trusted with. -/
def fixFields (c : Nat) : List Fld :=
  if c = 0 then [F.GNSS_STATUS_FIX0, F.GNSS_STATUS_SATS0, F.GNSS_STATUS_HFIX]
  else [F.GNSS_STATUS_FIX1, F.GNSS_STATUS_SATS1, F.GNSS_STATUS_HFIX]

section
variable (s : State)

theorem State.dropFix_zero :
    s.dropFix 0 = ((s.setFix F.GNSS_STATUS_FIX0 104 [0] false).put F.GNSS_STATUS_SATS0 0).setFix F.GNSS_STATUS_HFIX 106 [] false := rfl

theorem State.dropFix_other {c : Nat} (h : c ≠ 0) :
    s.dropFix c = ((s.setFix F.GNSS_STATUS_FIX1 105 [1] false).put F.GNSS_STATUS_SATS1 0).setFix F.GNSS_STATUS_HFIX 106 [] false :=
  congrArg (fun t : State => t.setFix F.GNSS_STATUS_HFIX 106 [] false) (if_neg h)

theorem State.logAnd_dropFix (c : Nat) : s.logAnd (s.dropFix c) [R.GNSS_STATUS] := by
  have hput : ∀ (t : State) (x : Fld), x.addr = R.GNSS_STATUS → t.logAnd (t.put x 0) [R.GNSS_STATUS] := fun t x hx =>
    State.logAnd_of_put (by simp [hx]) (State.logFrame_refl _)
  by_cases hc : c = 0
  · subst hc
    exact State.logAnd_trans (s.logAnd_setFix F.GNSS_STATUS_FIX0 _ _ _)
      (State.logAnd_trans (hput _ F.GNSS_STATUS_SATS0 rfl) (State.logAnd_setFix _ F.GNSS_STATUS_HFIX _ _ _))
  · rw [s.dropFix_other hc]
    exact State.logAnd_trans (s.logAnd_setFix F.GNSS_STATUS_FIX1 _ _ _)
      (State.logAnd_trans (hput _ F.GNSS_STATUS_SATS1 rfl) (State.logAnd_setFix _ F.GNSS_STATUS_HFIX _ _ _))

theorem State.gnss_dropFix (c : Nat) : (s.dropFix c).gnss = s.gnss := by
  have e := congrArg State.gnss (s.logAnd_dropFix c).1; exact e

/-- A chain that is trusted no more keeps every field but those that show its trust. -/
theorem State.f_dropFix (c : Nat) {y : Fld} (hlog : logReg y.addr = false)
    (hy : ∀ x ∈ fixFields c, y.addr ≠ x.addr ∨ y.hi < x.lo ∨ x.hi < y.lo) : (s.dropFix c).f y = s.f y := by
  by_cases hc : c = 0
  · subst hc
    rw [State.dropFix_zero, State.f_setFix_apart _ _ _ _ hlog (by decide) (hy _ (by decide)), State.f_put_apart _ _ (by decide) (hy _ (by decide)),
      State.f_setFix_apart _ _ _ _ hlog (by decide) (hy _ (by decide))]
  · have hmem : fixFields c = [F.GNSS_STATUS_FIX1, F.GNSS_STATUS_SATS1, F.GNSS_STATUS_HFIX] := if_neg hc
    rw [hmem] at hy
    rw [State.dropFix_other _ hc, State.f_setFix_apart _ _ _ _ hlog (by decide) (hy _ (by decide)),
      State.f_put_apart _ _ (by decide) (hy _ (by decide)), State.f_setFix_apart _ _ _ _ hlog (by decide) (hy _ (by decide))]

theorem State.dropFix_zero_clears : (s.dropFix 0).f F.GNSS_STATUS_FIX0 = 0 ∧ (s.dropFix 0).f F.GNSS_STATUS_SATS0 = 0 ∧
    (s.dropFix 0).f F.GNSS_STATUS_HFIX = 0 := by
  rw [State.dropFix_zero]
  refine ⟨?_, ?_, State.f_setFix_same _ _ _ _ rfl rfl (by decide)⟩
  · rw [State.f_setFix_apart _ _ _ _ rfl (by decide) (by decide), State.f_put_apart _ _ (by decide) (by decide)]
    exact State.f_setFix_same _ _ _ _ rfl rfl (by decide)
  · rw [State.f_setFix_apart _ _ _ _ rfl (by decide) (by decide), State.f_put_same _ _ _ (by decide) (by decide)]
    rfl

theorem State.dropFix_one_clears : (s.dropFix 1).f F.GNSS_STATUS_FIX1 = 0 ∧ (s.dropFix 1).f F.GNSS_STATUS_SATS1 = 0 ∧
    (s.dropFix 1).f F.GNSS_STATUS_HFIX = 0 := by
  rw [s.dropFix_other (by decide)]
  refine ⟨?_, ?_, State.f_setFix_same _ _ _ _ rfl rfl (by decide)⟩
  · rw [State.f_setFix_apart _ _ _ _ rfl (by decide) (by decide), State.f_put_apart _ _ (by decide) (by decide)]
    exact State.f_setFix_same _ _ _ _ rfl rfl (by decide)
  · rw [State.f_setFix_apart _ _ _ _ rfl (by decide) (by decide), State.f_put_same _ _ _ (by decide) (by decide)]
    rfl

/-! ## GNSS_TRK -/

/-- The registers that count the signals in lock. -/
def trkRegs : List Nat := [R.GNSS_TRK 0, R.GNSS_TRK 1]

theorem State.noteLock_eq : ∃ u, s.noteLock = { s with gnss := { s.gnss with unlocked := u } } := ⟨_, rfl⟩

theorem State.regsOnly_showTrk : s.noteLock.regsOnly s.showTrk trkRegs :=
  State.regsOnly_foldl _ _ _ _ fun t c hc => by
    have htrk : R.GNSS_TRK c ∈ trkRegs := by
      rcases List.mem_cons.mp hc with rfl | hc
      · decide
      · rw [List.mem_singleton.mp hc]; decide
    exact State.regsOnly_trans (State.regsOnly_trans (t.regsOnly_put _ htrk) (State.regsOnly_put _ _ htrk)) (State.regsOnly_put _ _ htrk)

/-- The count of the signals in lock notes in the block's state only since when a chain has none. -/
theorem State.gnss_showTrk : ∃ u, s.showTrk.gnss = { s.gnss with unlocked := u } := by
  obtain ⟨u, hu⟩ := s.noteLock_eq
  have hkept : s.showTrk.gnss = s.noteLock.gnss := by
    have e := congrArg State.gnss s.regsOnly_showTrk.1; exact e
  exact ⟨u, by rw [hkept, hu]⟩

theorem State.gnssAnd_showTrk : s.gnssAnd s.showTrk trkRegs := by
  obtain ⟨u, hu⟩ := s.noteLock_eq
  have hnote : s.gnssAnd s.noteLock trkRegs := hu ▸ s.gnssAnd_gnss _ _
  exact State.gnssAnd_trans hnote (State.gnssAnd_of_logAnd (State.logAnd_of_regsOnly s.regsOnly_showTrk (State.logFrame_refl _)))

theorem State.f_showTrk {y : Fld} (hlog : logReg y.addr = false) (hy : y.addr ∉ trkRegs) : s.showTrk.f y = s.f y :=
  State.gnssAnd_f s.gnssAnd_showTrk y hlog hy

/-! ## Starts -/

/-- The block's state when chain c acquires anew. -/
def State.acquiring (c : Nat) : GnssSt :=
  { s.gnss with
    channels := s.gnss.channels.filter fun x => decide (x.chain ≠ c)
    untracked := s.gnss.untracked.filter fun x => decide (x.chain ≠ c)
    unlocked := tput s.gnss.unlocked c s.mono
    acq := match s.gnss.acq with | some x => if x.chain = c then none else some x | none => none }

theorem State.chain_acquiring {c : Nat} {x : Channel} (h : x ∈ (s.acquiring c).channels) : x.chain ≠ c ∧ x ∈ s.gnss.channels := by
  obtain ⟨hmem, hc⟩ := List.mem_filter.mp h
  exact ⟨of_decide_eq_true hc, hmem⟩

theorem State.acq_acquiring {c : Nat} {a : Acq} (h : (s.acquiring c).acq = some a) : a.chain ≠ c ∧ s.gnss.acq = some a := by
  unfold State.acquiring at h
  dsimp only at h
  split at h
  · next x hx =>
    obtain ⟨hc, h⟩ := Option.ite_none_left_eq_some.mp h
    obtain rfl := Option.some.inj h
    exact ⟨hc, hx⟩
  · cases h

/-- Chain 0 acquires anew, and TTFF runs. -/
theorem State.chainStart_zero : s.chainStart 0 =
    ({ s.dropFix 0 with gnss := { s.acquiring 0 with startAt := s.mono } } : State).put F.GNSS_TTFF_TTFF 0xFFFFFFFF := by
  unfold State.chainStart State.acquiring
  rw [State.gnss_dropFix]
  rfl

theorem State.chainStart_one : s.chainStart 1 = { s.dropFix 1 with gnss := s.acquiring 1 } := by
  unfold State.chainStart State.acquiring
  rw [State.gnss_dropFix]
  rfl

/-- The registers that a start writes. -/
def startRegs : List Nat := [R.GNSS_STATUS, R.GNSS_TTFF] ++ trkRegs

theorem State.gnssAnd_mono {s t : State} {l l' : List Nat} (h : s.gnssAnd t l) (hl : ∀ a ∈ l, a ∈ l') : s.gnssAnd t l' :=
  State.logAnd.mono h hl

theorem State.gnssAnd_dropFix (c : Nat) : s.gnssAnd (s.dropFix c) startRegs :=
  State.gnssAnd_mono (State.gnssAnd_of_logAnd (s.logAnd_dropFix c)) (by decide)

theorem State.gnssAnd_chainStart_zero : s.gnssAnd (s.chainStart 0) startRegs := by
  rw [s.chainStart_zero]
  exact State.gnssAnd_trans (s.gnssAnd_dropFix 0) (State.gnssAnd_trans (State.gnssAnd_gnss _ _ _) (State.gnssAnd_put _ _ (by decide)))

theorem State.gnssAnd_chainStart_one : s.gnssAnd (s.chainStart 1) startRegs := by
  rw [s.chainStart_one]
  exact State.gnssAnd_trans (s.gnssAnd_dropFix 1) (State.gnssAnd_gnss _ _ _)

/-- The block leaves sleep, where it slept. -/
def State.awake : State := if s.b F.GNSS_STATUS_SLEEP then (s.put F.GNSS_STATUS_SLEEP 0).gnssSource 110 [] else s

theorem State.logAnd_awake : s.logAnd s.awake [R.GNSS_STATUS] := by
  unfold State.awake
  split
  · exact State.logAnd_of_put (by decide) (State.logFrame_gnssSource _ _ _)
  · exact s.logAnd_refl _

theorem State.gnss_awake : s.awake.gnss = s.gnss := by
  have e := congrArg State.gnss s.logAnd_awake.1; exact e

theorem State.mono_awake : s.awake.mono = s.mono := State.mono_congr (by have e := congrArg State.time s.logAnd_awake.1; exact e)

theorem State.sleep_awake : s.awake.f F.GNSS_STATUS_SLEEP = 0 := by
  unfold State.awake
  split
  · rw [State.logFrame_f (State.logFrame_gnssSource _ _ _) _ rfl, State.f_put_same _ _ _ (by decide) (by decide)]
    rfl
  · next h => exact (s.b_eq_false_iff _).mp (Bool.eq_false_iff.mpr h)

/-- Both chains acquire anew. -/
def State.bothStarted : State := (s.awake.chainStart 0).chainStart 1

theorem State.gnssStart_eq (k : Nat) : s.gnssStart k = s.bothStarted.showTrk.put F.GNSS_STATUS_LAST_START k := rfl

theorem State.gnssAnd_gnssStart (k : Nat) : s.gnssAnd (s.gnssStart k) startRegs := by
  rw [s.gnssStart_eq k]
  exact State.gnssAnd_trans (State.gnssAnd_mono (State.gnssAnd_of_logAnd s.logAnd_awake) (by decide))
    (State.gnssAnd_trans (State.gnssAnd_chainStart_zero _) (State.gnssAnd_trans (State.gnssAnd_chainStart_one _)
      (State.gnssAnd_trans (State.gnssAnd_mono (State.gnssAnd_showTrk _) (by decide)) (State.gnssAnd_put _ k (by decide)))))

/-- A start keeps the block's state but for the search, the channels and the instant of the start. -/
theorem State.gnss_gnssStart (k : Nat) : ∃ w u, (s.gnssStart k).gnss =
    { (s.awake.chainStart 0).acquiring 1 with untracked := w, unlocked := u } := by
  obtain ⟨u, hu⟩ := s.bothStarted.gnss_showTrk
  refine ⟨((s.awake.chainStart 0).acquiring 1).untracked, u, ?_⟩
  rw [State.gnssStart_eq, State.put_gnss, hu, State.bothStarted, State.chainStart_one]

theorem State.gnss_chainStart_zero : (s.chainStart 0).gnss = { s.acquiring 0 with startAt := s.mono } := by
  rw [s.chainStart_zero]
  rfl

/-- What stands after a start of kind k: no channel and no search of either chain, TTFF runs, no trusted fix of chain 0, and the kind. -/
def State.freshStart (t : State) (k : Nat) : Prop :=
  (∀ x ∈ t.gnss.channels, x.chain ≠ 0 ∧ x.chain ≠ 1) ∧ (∀ a, t.gnss.acq = some a → a.chain ≠ 0 ∧ a.chain ≠ 1) ∧
    t.gnss.startAt = (s.base 0).total ∧ t.f F.GNSS_STATUS_SLEEP = 0 ∧ t.f F.GNSS_STATUS_FIX0 = 0 ∧ t.f F.GNSS_TTFF_TTFF = 0xFFFFFFFF ∧
    t.f F.GNSS_STATUS_LAST_START = k

/-- A start keeps what it does not write after the chains began: SLEEP, FIX0 and TTFF. -/
theorem State.f_gnssStart (k : Nat) {y : Fld} (hlog : logReg y.addr = false) (hy : y.addr ∉ trkRegs)
    (hk : y.addr ≠ F.GNSS_STATUS_LAST_START.addr ∨ y.hi < F.GNSS_STATUS_LAST_START.lo ∨ F.GNSS_STATUS_LAST_START.hi < y.lo)
    (hfix : ∀ x ∈ fixFields 1, y.addr ≠ x.addr ∨ y.hi < x.lo ∨ x.hi < y.lo) : (s.gnssStart k).f y = (s.awake.chainStart 0).f y := by
  have hone : (s.bothStarted).f y = ((s.awake.chainStart 0).dropFix 1).f y := by
    rw [State.bothStarted, State.chainStart_one]
    rfl
  rw [State.gnssStart_eq, State.f_put_apart _ _ (by decide) hk, State.f_showTrk _ hlog hy, hone, State.f_dropFix _ _ hlog hfix]

theorem State.f_chainStart_zero {y : Fld} (hy : y.addr ≠ R.GNSS_TTFF) : (s.chainStart 0).f y = (s.dropFix 0).f y := by
  rw [State.chainStart_zero, State.f_put_addr _ _ _ _ hy]
  rfl

theorem State.freshStart_gnssStart {k : Nat} (hk : k < 8) : s.freshStart (s.gnssStart k) k := by
  obtain ⟨w, u, hg⟩ := s.gnss_gnssStart k
  refine ⟨?_, ?_, ?_, ?_, ?_, ?_, ?_⟩
  · rw [hg]
    intro x hx
    obtain ⟨h1, hx⟩ := State.chain_acquiring _ hx
    rw [State.gnss_chainStart_zero] at hx
    exact ⟨(State.chain_acquiring _ hx).1, h1⟩
  · rw [hg]
    intro a ha
    obtain ⟨h1, ha⟩ := State.acq_acquiring _ ha
    rw [State.gnss_chainStart_zero] at ha
    exact ⟨(State.acq_acquiring _ ha).1, h1⟩
  · rw [hg]
    change (s.awake.chainStart 0).gnss.startAt = _
    rw [State.gnss_chainStart_zero]
    exact s.mono_awake
  · rw [State.f_gnssStart _ _ rfl (by decide) (by decide) (by decide), State.f_chainStart_zero _ (by decide), State.f_dropFix _ _ rfl (by decide)]
    exact s.sleep_awake
  · rw [State.f_gnssStart _ _ rfl (by decide) (by decide) (by decide), State.f_chainStart_zero _ (by decide)]
    exact (State.dropFix_zero_clears _).1
  · rw [State.f_gnssStart _ _ rfl (by decide) (by decide) (by decide), State.chainStart_zero, State.f_put_same _ _ _ (by decide) (by decide)]
    rfl
  · rw [State.gnssStart_eq, State.f_put_same _ _ _ (by decide) (by decide)]
    exact Nat.mod_eq_of_lt hk

/-- The block's state without what a start sets anew. -/
def GnssSt.searchless (g : GnssSt) : GnssSt := { g with channels := [], untracked := [], unlocked := [], acq := none, startAt := 0 }

/-- A start keeps the block's state, the kept data among it, but for the search and the instant of the start (R387). -/
theorem State.searchless_gnssStart (k : Nat) : (s.gnssStart k).gnss.searchless = s.gnss.searchless := by
  obtain ⟨w, u, hg⟩ := s.gnss_gnssStart k
  have hzero : (s.awake.chainStart 0).gnss.searchless = s.awake.gnss.searchless := by rw [State.gnss_chainStart_zero]; rfl
  calc (s.gnssStart k).gnss.searchless = (s.awake.chainStart 0).gnss.searchless := by rw [hg]; rfl
    _ = s.gnss.searchless := by rw [hzero, s.gnss_awake]

theorem State.eph_of_searchless {s t : State} (h : t.gnss.searchless = s.gnss.searchless) : t.gnss.eph = s.gnss.eph := by
  have e := congrArg GnssSt.eph h; exact e

/-! ## Sleep -/

/-- The block's state when it goes to sleep. -/
def State.sleeping : GnssSt :=
  { s.gnss with channels := [], untracked := [], acq := none, woken := false, noFix := 0, velBad := [], power := [], hfix := 0,
                sleepAt := s.mono, unlocked := [] }

/-- The block's state is that of sleep, and nothing is trusted. -/
def State.sleepShown : State := ({ s with gnss := s.sleeping } : State).dropFixes

/-- The registers that sleep writes. -/
def sleepRegs : List Nat := [R.GNSS_STATUS, R.GNSS_TRK 0, R.GNSS_TRK 1]

theorem State.logAnd_sleepShown : ({ s with gnss := s.sleeping } : State).logAnd s.sleepShown [R.GNSS_STATUS] :=
  State.logAnd_trans (State.logAnd_dropFix _ 0) (State.logAnd_dropFix _ 1)

theorem State.gnss_sleepShown : s.sleepShown.gnss = s.sleeping := by
  have e := congrArg State.gnss s.logAnd_sleepShown.1; exact e

/-- Nothing is trusted after both chains lost their trust. -/
theorem State.f_sleepShown : ∀ x ∈ fixFields 0 ++ fixFields 1, s.sleepShown.f x = 0 := by
  have hkept : ∀ x ∈ [F.GNSS_STATUS_FIX0, F.GNSS_STATUS_SATS0], s.sleepShown.f x = (({ s with gnss := s.sleeping } : State).dropFix 0).f x := by
    intro x hx
    simp only [List.mem_cons, List.not_mem_nil, or_false] at hx
    rcases hx with rfl | rfl <;> exact State.f_dropFix _ 1 rfl (by decide)
  obtain ⟨hfix0, hsats0, -⟩ := State.dropFix_zero_clears ({ s with gnss := s.sleeping } : State)
  obtain ⟨hfix1, hsats1, hhdg⟩ := State.dropFix_one_clears (({ s with gnss := s.sleeping } : State).dropFix 0)
  rw [← hkept _ (by decide)] at hfix0 hsats0
  simp only [fixFields, if_true, if_neg (show ¬(1 : Nat) = 0 by decide), List.cons_append, List.nil_append, List.forall_mem_cons]
  exact ⟨hfix0, hsats0, hhdg, hfix1, hsats1, hhdg, fun x hx => absurd hx List.not_mem_nil⟩

variable {s}

theorem State.gnssSleep_asleep (h : s.f F.GNSS_STATUS_SLEEP = 1) : s.gnssSleep = s := if_pos ((s.b_eq_true_iff rfl).mpr h)

theorem State.gnssSleep_eq (h : s.f F.GNSS_STATUS_SLEEP = 0) :
    s.gnssSleep = (s.sleepShown.showTrk.put F.GNSS_STATUS_SLEEP 1).gnssSource 110 [] :=
  if_neg (Bool.eq_false_iff.mp ((s.b_eq_false_iff _).mpr h))

theorem State.sleep_gnssSleep (h : s.f F.GNSS_STATUS_SLEEP = 0) : s.gnssSleep.f F.GNSS_STATUS_SLEEP = 1 := by
  rw [State.gnssSleep_eq h, State.logFrame_f (State.logFrame_gnssSource _ _ _) _ rfl, State.f_put_same _ _ _ (by decide) (by decide)]
  rfl

theorem State.f_gnssSleep (h : s.f F.GNSS_STATUS_SLEEP = 0) {x : Fld} (hx : x ∈ fixFields 0 ++ fixFields 1) : s.gnssSleep.f x = 0 := by
  have hplace : x.addr = R.GNSS_STATUS ∧ (x.hi < 20 ∨ 20 < x.lo) := by
    revert x
    decide
  obtain ⟨haddr, hbits⟩ := hplace
  have hlog : logReg x.addr = false := by rw [haddr]; rfl
  rw [State.gnssSleep_eq h, State.logFrame_f (State.logFrame_gnssSource _ _ _) _ hlog, State.f_put_bits _ _ _ _ (by decide) hbits,
    State.f_showTrk _ hlog (by rw [haddr]; decide), s.f_sleepShown x hx]

theorem State.gnss_gnssSleep (h : s.f F.GNSS_STATUS_SLEEP = 0) : ∃ u, s.gnssSleep.gnss = { s.sleeping with unlocked := u } := by
  obtain ⟨u, hu⟩ := s.sleepShown.gnss_showTrk
  refine ⟨u, ?_⟩
  rw [State.gnssSleep_eq h, State.logFrame_gnss (State.logFrame_gnssSource _ _ _), State.put_gnss, hu, s.gnss_sleepShown]

theorem State.gnssAnd_gnssSleep (h : s.f F.GNSS_STATUS_SLEEP = 0) : s.gnssAnd s.gnssSleep sleepRegs := by
  have hshown : s.gnssAnd s.sleepShown sleepRegs :=
    State.gnssAnd_trans (s.gnssAnd_gnss s.sleeping _) (State.gnssAnd_mono (State.gnssAnd_of_logAnd s.logAnd_sleepShown) (by decide))
  have htrk : s.sleepShown.gnssAnd s.sleepShown.showTrk sleepRegs := State.gnssAnd_mono s.sleepShown.gnssAnd_showTrk (by decide)
  rw [State.gnssSleep_eq h]
  exact State.gnssAnd_trans hshown (State.gnssAnd_trans htrk
    (State.gnssAnd_trans (State.gnssAnd_put _ 1 (by decide)) (State.gnssAnd_of_logFrame _ (State.logFrame_gnssSource _ _ _))))

/-! ## Commands -/

theorem State.gnssWake_asleep (h : s.f F.GNSS_STATUS_SLEEP = 1) (k : Nat) : s.gnssWake k = s.gnssStart k :=
  if_pos ((s.b_eq_true_iff rfl).mpr h)

theorem State.gnssWake_awake (h : s.f F.GNSS_STATUS_SLEEP = 0) (k : Nat) : s.gnssWake k = s :=
  if_neg (Bool.eq_false_iff.mp ((s.b_eq_false_iff _).mpr h))

theorem State.gnssAnd_gnssWake (s : State) (k : Nat) : s.gnssAnd (s.gnssWake k) startRegs := by
  unfold State.gnssWake
  split
  · exact s.gnssAnd_gnssStart k
  · exact State.gnssAnd_of_logFrame _ s.logFrame_refl

theorem State.fastest_lt (s : State) : s.fastest < 8 := by
  unfold State.fastest
  split
  · decide
  · split <;> decide

theorem State.startCommand_off (h : s.f F.GNSS_CTRL_EN = 0) (k : Nat) : s.startCommand k = s := by
  unfold State.startCommand
  rw [(s.b_eq_false_iff _).mpr h]
  rfl

/-- The kept data are cleared. -/
def State.forgotten (s : State) : State :=
  { s with gnss := { s.gnss with eph := [], almanac := [], position := none, place := [], drift := none, elevs := [], glonass := [] } }

/-- The start that command k gives while the block is enabled (R387). -/
def State.startOf (s : State) : Nat → State
  | 2 => if s.hotOk then s.gnssStart 1 else (s.event 0x0908 [2]).gnssStart s.fastest
  | 3 => if s.hotOk || s.warmOk then s.gnssStart 2 else (s.event 0x0908 [3]).gnssStart s.fastest
  | 4 => s.forgotten.gnssStart 3
  | _ => s.gnssStart s.fastest

theorem State.startCommand_on (h : s.f F.GNSS_CTRL_EN = 1) (k : Nat) : s.startCommand k = s.startOf k := by
  unfold State.startCommand
  rw [(s.b_eq_true_iff (x := F.GNSS_CTRL_EN) rfl).mpr h]
  rfl

theorem State.gnssCmdWrite_start (s : State) (m : Master) : ∀ k ∈ [1, 2, 3, 4], s.gnssCmdWrite m (gnssCmd k) = s.startCommand k := by
  intro k hk
  simp only [List.mem_cons, List.not_mem_nil, or_false] at hk
  rcases hk with rfl | rfl | rfl | rfl <;> rfl

/-- A start after an event that is recorded is a start all the same, and keeps the same data. -/
theorem State.gnssStart_event (s : State) (code : Nat) (items : List Nat) {k : Nat} (hk : k < 8) :
    s.freshStart ((s.event code items).gnssStart k) k ∧ ((s.event code items).gnssStart k).gnss.searchless = s.gnss.searchless := by
  have hlog := s.logFrame_event code items
  have hmono : ((s.event code items).base 0).total = (s.base 0).total := State.mono_congr (State.logFrame_time hlog)
  obtain ⟨hchannels, hacq, hat, hrest⟩ := (s.event code items).freshStart_gnssStart hk
  exact ⟨⟨hchannels, hacq, hat.trans hmono, hrest⟩, by rw [State.searchless_gnssStart, State.logFrame_gnss hlog]⟩

/-- A hot start is the fastest one, and an event tells that there were no hot data for it. -/
theorem State.startOf_hot (s : State) : s.freshStart (s.startOf 2) s.fastest ∧ (s.startOf 2).gnss.searchless = s.gnss.searchless := by
  by_cases hhot : s.hotOk = true
  · have hfastest : s.fastest = 1 := if_pos hhot
    have hstart : s.startOf 2 = s.gnssStart 1 := if_pos hhot
    rw [hstart, hfastest]
    exact ⟨s.freshStart_gnssStart (by decide), s.searchless_gnssStart 1⟩
  · have hstart : s.startOf 2 = (s.event 0x0908 [2]).gnssStart s.fastest := if_neg hhot
    rw [hstart]
    exact s.gnssStart_event _ _ s.fastest_lt

theorem State.startOf_warm (s : State) : s.freshStart (s.startOf 3) (if s.hotOk || s.warmOk then 2 else 3) ∧
    (s.startOf 3).gnss.searchless = s.gnss.searchless := by
  by_cases hdata : (s.hotOk || s.warmOk) = true
  · have hstart : s.startOf 3 = s.gnssStart 2 := if_pos hdata
    rw [hstart, if_pos hdata]
    exact ⟨s.freshStart_gnssStart (by decide), s.searchless_gnssStart 2⟩
  · obtain ⟨hhot, hwarm⟩ := Bool.or_eq_false_iff.mp (Bool.eq_false_iff.mpr hdata)
    have hfastest : s.fastest = 3 := by rw [State.fastest, hhot, hwarm]; rfl
    have hstart : s.startOf 3 = (s.event 0x0908 [3]).gnssStart s.fastest := if_neg hdata
    rw [hstart, if_neg hdata, hfastest]
    exact s.gnssStart_event _ _ (by decide)

/-- A cold start has no kept data (R387). -/
theorem State.startOf_cold (s : State) : s.freshStart (s.startOf 4) 3 ∧ (s.startOf 4).gnss.searchless = s.forgotten.gnss.searchless :=
  ⟨s.forgotten.freshStart_gnssStart (by decide), s.forgotten.searchless_gnssStart 3⟩

theorem State.hotOk_noPosition {t : State} (h : t.gnss.position = none) : t.hotOk = false := by
  unfold State.hotOk
  rw [h]
  exact Bool.and_false _

/-! ## The first fix -/

theorem State.firstFix_due (hfix : s.f F.GNSS_STATUS_FIX0 = 1) (httff : s.f F.GNSS_TTFF_TTFF = 0xFFFFFFFF) :
    s.firstFix = (s.put F.GNSS_TTFF_TTFF ((s.mono - s.gnss.startAt) / (1000000 * 2 ^ 32))).gnssSource 108 [] :=
  if_pos (by rw [(s.b_eq_true_iff (x := F.GNSS_STATUS_FIX0) rfl).mpr hfix, decide_eq_true httff]; rfl)

theorem State.firstFix_other (h : s.f F.GNSS_STATUS_FIX0 = 0 ∨ s.f F.GNSS_TTFF_TTFF ≠ 0xFFFFFFFF) : s.firstFix = s := by
  refine if_neg (Bool.eq_false_iff.mp (Bool.and_eq_false_iff.mpr ?_))
  exact h.imp (s.b_eq_false_iff _).mpr decide_eq_false

/-- The first fix gives TTFF in ms of MONO since the start (R387). -/
theorem State.firstFix_spec (hfix : s.f F.GNSS_STATUS_FIX0 = 1) (httff : s.f F.GNSS_TTFF_TTFF = 0xFFFFFFFF) :
    s.firstFix.f F.GNSS_TTFF_TTFF = ((s.base 0).total - s.gnss.startAt) / (1000000 * 2 ^ 32) % 2 ^ 32 ∧ s.logAnd s.firstFix [R.GNSS_TTFF] := by
  rw [State.firstFix_due hfix httff]
  refine ⟨?_, State.logAnd_of_put (by decide) (State.logFrame_gnssSource _ _ _)⟩
  rw [State.logFrame_f (State.logFrame_gnssSource _ _ _) _ rfl, State.f_put_same _ _ _ (by decide) (by decide)]
  rfl

/-! ## Sleep and wake of a standby -/

section
variable (hrole : s.sleepRole = true)
include hrole

theorem State.roleSleep_woken (hs : s.f F.GNSS_STATUS_SLEEP = 0) (hw : s.gnss.woken = true) :
    s.roleSleep = if s.refreshed && decide (s.f F.GNSS_TTFF_TTFF ≠ 0xFFFFFFFF) then s.gnssSleep else s := by
  unfold State.roleSleep
  rw [hrole, (s.b_eq_false_iff _).mpr hs, if_neg (by decide), if_pos hw]

theorem State.roleSleep_first (hs : s.f F.GNSS_STATUS_SLEEP = 0) (hw : s.gnss.woken = false) :
    s.roleSleep = if s.f F.TICK_PHASE_PHASE = 5 then (s.elapse (500 * s.periodUs - s.tick.cycles)).gnssSleep else s := by
  unfold State.roleSleep
  rw [hrole, (s.b_eq_false_iff _).mpr hs, if_neg (by decide), if_neg (by rw [hw]; decide)]

theorem State.roleWake_asleep (hs : s.f F.GNSS_STATUS_SLEEP = 1) :
    s.roleWake = s.whenDue (s.cyclesTo 0 (s.gnss.sleepAt + s.wakePeriod * nsPerSec)) fun s =>
      { s.gnssWake s.fastest with gnss := { (s.gnssWake s.fastest).gnss with woken := true } } := by
  unfold State.roleWake
  rw [hrole, (s.b_eq_true_iff (x := F.GNSS_STATUS_SLEEP) rfl).mpr hs, if_pos (by decide)]

end

theorem State.roleSleep_idle (h : s.sleepRole = false ∨ s.f F.GNSS_STATUS_SLEEP = 1) : s.roleSleep = s := by
  unfold State.roleSleep
  refine if_pos (Bool.or_eq_true_iff.mpr (h.imp (fun hr => ?_) fun hs => (s.b_eq_true_iff rfl).mpr hs))
  rw [hr, Bool.not_false]

theorem State.roleWake_idle (h : s.sleepRole = false ∨ s.f F.GNSS_STATUS_SLEEP = 0) : s.roleWake = s := by
  unfold State.roleWake
  exact if_neg (Bool.eq_false_iff.mp (Bool.and_eq_false_iff.mpr (h.imp id (s.b_eq_false_iff _).mpr)))

/-- The wake of a standby is the fastest start. -/
theorem State.roleWake_spec {u : State} (hs : u.f F.GNSS_STATUS_SLEEP = 1) :
    let t : State := { u.gnssWake u.fastest with gnss := { (u.gnssWake u.fastest).gnss with woken := true } }
    t.f F.GNSS_STATUS_SLEEP = 0 ∧ t.gnss.woken = true ∧ t.f F.GNSS_STATUS_LAST_START = u.fastest := by
  rw [State.gnssWake_asleep hs]
  obtain ⟨-, -, -, hsleep, -, -, hkind⟩ := u.freshStart_gnssStart u.fastest_lt
  exact ⟨(State.f_withGnss _ _ _).trans hsleep, rfl, (State.f_withGnss _ _ _).trans hkind⟩

/-! ## SLEEP and WAKE of software -/

/-- A command of software stands until the role changes. -/
def State.manually (s : State) : State := { s with gnss := { s.gnss with manual := true } }

theorem State.gnssCmdWrite_sleep (s : State) (m : Master) : s.gnssCmdWrite m (gnssCmd 5) = s.gnssSleep.manually := rfl

theorem State.gnssCmdWrite_wake (s : State) (m : Master) : s.gnssCmdWrite m (gnssCmd 6) = (s.gnssWake s.fastest).manually := rfl

theorem State.f_manually (s : State) (x : Fld) : s.manually.f x = s.f x := s.f_withGnss _ x

/-- A command to sleep releases channels and fixes, and keeps the data (R388). -/
theorem State.manually_gnssSleep_spec (h : s.f F.GNSS_STATUS_SLEEP = 0) :
    let t := s.gnssSleep.manually
    t.f F.GNSS_STATUS_SLEEP = 1 ∧ t.gnss.manual = true ∧ t.gnss.channels = [] ∧ t.gnss.acq = none ∧
      t.f F.GNSS_STATUS_FIX0 = 0 ∧ t.f F.GNSS_STATUS_FIX1 = 0 ∧ t.f F.GNSS_STATUS_HFIX = 0 ∧ t.f F.GNSS_STATUS_SATS0 = 0 ∧
      t.f F.GNSS_STATUS_SATS1 = 0 ∧ t.gnss.eph = s.gnss.eph ∧ t.gnss.almanac = s.gnss.almanac ∧ t.gnss.position = s.gnss.position ∧
      t.gnss.sleepAt = (s.base 0).total ∧ ({ s with gnss := t.gnss } : State).logAnd t sleepRegs := by
  have hcleared : ∀ x ∈ fixFields 0 ++ fixFields 1, s.gnssSleep.manually.f x = 0 := fun x hx =>
    (State.f_manually _ x).trans (State.f_gnssSleep h hx)
  obtain ⟨u, hu⟩ := State.gnss_gnssSleep h
  have hgnss : s.gnssSleep.manually.gnss = { s.sleeping with unlocked := u, manual := true } := by rw [State.manually, hu]
  refine ⟨(State.f_manually _ _).trans (State.sleep_gnssSleep h), rfl, ?_, ?_, hcleared _ (by decide), hcleared _ (by decide),
    hcleared _ (by decide), hcleared _ (by decide), hcleared _ (by decide), ?_, ?_, ?_, ?_,
    State.gnssAnd_trans (State.gnssAnd_gnssSleep h) (State.gnssAnd_gnss _ _ _)⟩
  all_goals
    rw [hgnss]
    rfl

/-- A command to wake is the fastest start. -/
theorem State.manually_gnssWake_spec (h : s.f F.GNSS_STATUS_SLEEP = 1) : s.freshStart (s.gnssWake s.fastest).manually s.fastest := by
  rw [State.gnssWake_asleep h]
  obtain ⟨hchannels, hacq, hat, hsleep, hfix, httff, hkind⟩ := s.freshStart_gnssStart s.fastest_lt
  exact ⟨hchannels, hacq, hat, (State.f_manually _ _).trans hsleep, (State.f_manually _ _).trans hfix, (State.f_manually _ _).trans httff,
    (State.f_manually _ _).trans hkind⟩

/-- GNSS_WAKE_TIMER where its instant has come. -/
theorem State.exec_gnssWakeTimer_due {u : State} (hrole : s.sleepRole = true) (hs : s.f F.GNSS_STATUS_SLEEP = 1)
    (hu : s.comesAt (s.cyclesTo 0 (s.gnss.sleepAt + s.wakePeriod * nsPerSec)) = some u) :
    ∃ t, exec .gnssWakeTimer s = .next t ∧ t.f F.GNSS_STATUS_SLEEP = 0 ∧ t.gnss.woken = true ∧ t.f F.GNSS_STATUS_LAST_START = u.fastest := by
  have hus : u.f F.GNSS_STATUS_SLEEP = 1 := (State.comesAt_f hu _ (by decide) (by decide)).trans hs
  refine ⟨_, congrArg Host.Outcome.next ((State.roleWake_asleep hrole hs).trans (State.whenDue_of_some _ hu)), ?_⟩
  exact State.roleWake_spec hus

/-- Each start command that acts starts the block afresh, by the kind that the kept data allow (R387). -/
theorem State.exec_start (h : s.f F.GNSS_CTRL_EN = 1) (m : Master) {i : Instr} {k : Nat} (hk : k ∈ [1, 2, 3, 4])
    (hi : exec i s = .next (s.gnssCmdWrite m (gnssCmd k))) : exec i s = .next (s.startOf k) := by
  rw [hi, s.gnssCmdWrite_start m k hk, State.startCommand_on h]

/-- While the block is off no start command has an effect. -/
theorem State.exec_start_off (h : s.f F.GNSS_CTRL_EN = 0) (m : Master) {i : Instr} {k : Nat} (hk : k ∈ [1, 2, 3, 4])
    (hi : exec i s = .next (s.gnssCmdWrite m (gnssCmd k))) : exec i s = .next s := by
  rw [hi, s.gnssCmdWrite_start m k hk, State.startCommand_off h]

end

/-- Settles O53, start by start, then sleep and wake of software, the first fix, and the sleep of a standby. -/
theorem gnssStartsAndSleep : Obligations.GnssStartsAndSleep := by
  unfold Obligations.GnssStartsAndSleep
  refine ⟨⟨fun s u hrole hs => ⟨fun hu => ?_, State.exec_gnssWakeTimer_due hrole hs⟩, fun s m => ⟨fun h => ⟨?_, ?_, ?_, ?_⟩, fun h => ⟨?_, ?_, ?_, ?_⟩,
    fun hs => ?_, fun hs => ?_, fun hs => ?_, fun hs => ?_, fun hfix httff => ?_, fun h => ?_, fun hrole => ⟨?_, ?_⟩, fun hs => ?_, fun hs => ?_,
    fun hrole hs hw hp => ?_, fun hrole hs hw hp => ?_, fun hrole hs hw hr httff => ?_, fun hrole hw h => ?_⟩⟩,
    fun s => ⟨fun _ => rfl, fun _ => rfl, fun _ => rfl, fun _ => rfl, fun _ => rfl, fun _ => rfl, rfl, rfl, rfl⟩⟩
  · exact congrArg Host.Outcome.next ((State.roleWake_asleep hrole hs).trans (State.whenDue_of_none _ hu))
  · exact State.exec_start_off h m (k := 1) (by decide) rfl
  · exact State.exec_start_off h m (k := 2) (by decide) rfl
  · exact State.exec_start_off h m (k := 3) (by decide) rfl
  · exact State.exec_start_off h m (k := 4) (by decide) rfl
  · exact ⟨_, State.exec_start h m (k := 1) (by decide) rfl, s.freshStart_gnssStart s.fastest_lt,
      State.eph_of_searchless (s.searchless_gnssStart s.fastest)⟩
  · obtain ⟨hfresh, hkept⟩ := s.startOf_hot
    exact ⟨_, State.exec_start h m (k := 2) (by decide) rfl, hfresh, State.eph_of_searchless hkept⟩
  · obtain ⟨hfresh, hkept⟩ := s.startOf_warm
    exact ⟨_, State.exec_start h m (k := 3) (by decide) rfl, hfresh, State.eph_of_searchless hkept⟩
  · obtain ⟨hfresh, hkept⟩ := s.startOf_cold
    have hposition := congrArg GnssSt.position hkept
    exact ⟨_, State.exec_start h m (k := 4) (by decide) rfl, hfresh, congrArg GnssSt.eph hkept, congrArg GnssSt.almanac hkept, hposition,
      congrArg GnssSt.place hkept, congrArg GnssSt.drift hkept, congrArg GnssSt.elevs hkept, congrArg GnssSt.glonass hkept,
      State.hotOk_noPosition hposition⟩
  · exact congrArg (fun t : State => Host.Outcome.next t.manually) (State.gnssSleep_asleep hs)
  · exact ⟨_, congrArg Host.Outcome.next (s.gnssCmdWrite_sleep m), State.manually_gnssSleep_spec hs⟩
  · exact congrArg (fun t : State => Host.Outcome.next t.manually) (State.gnssWake_awake hs s.fastest)
  · exact ⟨_, congrArg Host.Outcome.next (s.gnssCmdWrite_wake m), rfl, State.manually_gnssWake_spec hs⟩
  · exact ⟨_, rfl, State.firstFix_spec hfix httff⟩
  · exact congrArg Host.Outcome.next (State.firstFix_other h)
  · exact congrArg Host.Outcome.next (State.roleSleep_idle (.inl hrole))
  · exact congrArg Host.Outcome.next (State.roleWake_idle (.inl hrole))
  · exact congrArg Host.Outcome.next (State.roleSleep_idle (.inr hs))
  · exact congrArg Host.Outcome.next (State.roleWake_idle (.inr hs))
  · have hasleep : (s.elapse (500 * s.periodUs - s.tick.cycles)).f F.GNSS_STATUS_SLEEP = 0 :=
      (State.f_congr _ (s.reg_elapse _ (by decide) (by decide))).trans hs
    exact ⟨_, congrArg Host.Outcome.next ((State.roleSleep_first hrole hs hw).trans (if_pos hp)), State.sleep_gnssSleep hasleep⟩
  · exact congrArg Host.Outcome.next ((State.roleSleep_first hrole hs hw).trans (if_neg hp))
  · have hdue : (s.refreshed && decide (s.f F.GNSS_TTFF_TTFF ≠ 0xFFFFFFFF)) = true := by rw [hr, decide_eq_true httff]; rfl
    exact ⟨_, congrArg Host.Outcome.next ((State.roleSleep_woken hrole hs hw).trans (if_pos hdue)), State.sleep_gnssSleep hs⟩
  · rcases s.f_eq_zero_or_one (x := F.GNSS_STATUS_SLEEP) rfl with hs | hs
    · refine congrArg Host.Outcome.next ((State.roleSleep_woken hrole hs hw).trans (if_neg (Bool.eq_false_iff.mp (Bool.and_eq_false_iff.mpr ?_))))
      exact h.imp id fun httff => decide_eq_false (not_not.mpr httff)
    · exact congrArg Host.Outcome.next (State.roleSleep_idle (.inr hs))

end Sys2Proof.Machine
end

section
/-!
The claim and the role, frames of the link, and the line that a module claims on: what O43 and O44 share (R291, R292, R294, R298).
-/
namespace Sys2Proof.Machine

/-! ## The role -/

/-- The role that PAIR_STATUS shows (R294). -/
def State.role (s : State) : Nat :=
  if s.pair.paired = false then 0 else if s.b F.PAIR_STATUS_CLAIM then 1 else if s.mode = .run then 3 else 2

section
variable (s : State)

theorem State.role_lt : s.role < 4 := by
  unfold State.role
  split
  · decide
  · split
    · decide
    · split <;> decide

theorem State.role_refreshRole : s.refreshRole.f F.PAIR_STATUS_ROLE = s.role :=
  (State.f_withGnss _ _ _).trans ((State.f_put_same _ _ _ (by decide) (by decide)).trans (Nat.mod_eq_of_lt s.role_lt))

theorem State.f_refreshRole {x : Fld} (hx : x.addr ≠ R.PAIR_STATUS ∨ x.hi < 0 ∨ 1 < x.lo) : s.refreshRole.f x = s.f x :=
  (State.f_withGnss _ _ _).trans (State.f_put_apart _ _ (by decide) hx)

theorem State.regsOnly_refreshRole : ({ s with gnss := s.refreshRole.gnss } : State).regsOnly s.refreshRole [R.PAIR_STATUS] :=
  State.regsOnly_put _ _ (by decide)

/-! ## The claim -/

/-- PAIR_STATUS with the claim held or dropped: ECL_OUT follows it, and OWNED follows it and ECL_IN (R291). -/
def State.claimShown (c : Bool) : State :=
  ((s.putb F.PAIR_STATUS_CLAIM c).putb F.PAIR_STATUS_ECL_OUT c).putb F.PAIR_STATUS_OWNED (c && !s.b F.PAIR_STATUS_ECL_IN)

theorem State.f_claimShown (c : Bool) : (s.claimShown c).f F.PAIR_STATUS_CLAIM = b2n c ∧ (s.claimShown c).f F.PAIR_STATUS_ECL_OUT = b2n c ∧
    (s.claimShown c).f F.PAIR_STATUS_OWNED = b2n (c && !s.b F.PAIR_STATUS_ECL_IN) := by
  unfold State.claimShown
  refine ⟨?_, ?_, State.f_putb_same _ _ rfl (by decide)⟩
  · rw [State.f_putb_apart _ _ (by decide) (by decide), State.f_putb_apart _ _ (by decide) (by decide), State.f_putb_same _ _ rfl (by decide)]
  · rw [State.f_putb_apart _ _ (by decide) (by decide), State.f_putb_same _ _ rfl (by decide)]

/-- The fields of PAIR_STATUS that follow the claim. -/
def claimFields : List Fld := [F.PAIR_STATUS_CLAIM, F.PAIR_STATUS_ECL_OUT, F.PAIR_STATUS_OWNED]

theorem State.f_claimShown_apart (c : Bool) {y : Fld} (hy : ∀ x ∈ claimFields, y.addr ≠ x.addr ∨ y.hi < x.lo ∨ x.hi < y.lo) :
    (s.claimShown c).f y = s.f y := by
  unfold State.claimShown
  rw [State.f_putb_apart _ _ (by decide) (hy _ (by decide)), State.f_putb_apart _ _ (by decide) (hy _ (by decide)),
    State.f_putb_apart _ _ (by decide) (hy _ (by decide))]

theorem State.owns_claimShown (c : Bool) : (s.claimShown c).owns = (c && !s.b F.PAIR_STATUS_ECL_IN) := by
  have hclaim : (s.claimShown c).b F.PAIR_STATUS_CLAIM = c := by
    rw [State.b, (s.f_claimShown c).1]
    cases c <;> rfl
  rw [State.owns, hclaim, State.b_congr _ (s.f_claimShown_apart c (by decide))]

/-- Holding or dropping the claim shows in PAIR_STATUS; without ownership the pins are released (R291, R292). -/
theorem State.setClaim_eq (c : Bool) : s.setClaim c =
    (if c && !s.b F.PAIR_STATUS_ECL_IN then s.claimShown c else (s.claimShown c).releasePins).refreshRole := by
  have howns : ((s.putb F.PAIR_STATUS_CLAIM c).putb F.PAIR_STATUS_ECL_OUT c).owns = (c && !s.b F.PAIR_STATUS_ECL_IN) := by
    rw [State.owns, State.b_congr F.PAIR_STATUS_CLAIM (State.f_putb_apart _ _ (by decide) (by decide)), State.b_putb_same _ _ rfl (by decide),
      State.b_congr F.PAIR_STATUS_ECL_IN (State.f_putb_apart _ _ (by decide) (by decide)),
      State.b_congr F.PAIR_STATUS_ECL_IN (State.f_putb_apart _ _ (by decide) (by decide))]
  unfold State.setClaim
  dsimp only
  rw [howns]
  change (if (s.claimShown c).owns then s.claimShown c else (s.claimShown c).releasePins).refreshRole = _
  rw [s.owns_claimShown c]

theorem State.pair_setClaim (c : Bool) : (s.setClaim c).pair = s.pair := by
  rw [State.setClaim_eq]
  split <;> rfl

theorem State.f_releasePins {x : Fld} (h : x.addr ≠ R.LOOP_STATUS) : s.releasePins.f x = s.f x :=
  (State.f_withOut _ _ _).trans (State.f_put_addr _ _ _ _ h)

/-- What the claim shows stays while the pins are released and the role follows. -/
theorem State.f_setClaim (c : Bool) {x : Fld} (hl : x.addr ≠ R.LOOP_STATUS) (hx : x.addr ≠ R.PAIR_STATUS ∨ x.hi < 0 ∨ 1 < x.lo) :
    (s.setClaim c).f x = (s.claimShown c).f x := by
  rw [State.setClaim_eq, State.f_refreshRole _ hx]
  split
  · rfl
  · exact State.f_releasePins _ hl

theorem State.claim_setClaim (c : Bool) : (s.setClaim c).f F.PAIR_STATUS_CLAIM = b2n c ∧ (s.setClaim c).f F.PAIR_STATUS_ECL_OUT = b2n c ∧
    (s.setClaim c).f F.PAIR_STATUS_OWNED = b2n (c && !s.b F.PAIR_STATUS_ECL_IN) := by
  rw [State.f_setClaim _ _ (by decide) (by decide), State.f_setClaim _ _ (by decide) (by decide), State.f_setClaim _ _ (by decide) (by decide)]
  exact s.f_claimShown c

/-- Without the claim no command pin is driven (R292). -/
theorem State.pins_setClaim_false : (s.setClaim false).f F.LOOP_STATUS_OWNED = 0 ∧ (s.setClaim false).out.driven = [] := by
  have heq : s.setClaim false = (s.claimShown false).releasePins.refreshRole := by rw [State.setClaim_eq, Bool.false_and]; rfl
  rw [heq, State.f_refreshRole _ (by decide)]
  exact ⟨(State.f_withOut _ _ _).trans (State.f_put_same _ _ _ (by decide) (by decide)), rfl⟩

/-- A dual claim is noted: DUAL is set and recorded, and source 192 asserted (R295). -/
def State.dualNoted : State := ((s.put F.PAIR_STATUS_DUAL 1).event 0x0D01 []).assertSrc 192

theorem State.logFrame_dualNoted : (s.put F.PAIR_STATUS_DUAL 1).logFrame s.dualNoted := State.logFrame_eventSrc _ _ _ _

theorem State.dualClaim_eq : s.dualClaim = if s.b F.PAIR_STATUS_CLAIM && s.pair.filtered then
    (if s.dualNoted.b F.PAIR_STATUS_POS then s.dualNoted.setClaim false else s.dualNoted) else s := rfl

theorem State.pair_dualNoted : s.dualNoted.pair = s.pair :=
  (State.logFrame_pair s.logFrame_dualNoted).trans (s.put_pair _ _)

theorem State.pair_dualClaim : s.dualClaim.pair = s.pair := by
  rw [State.dualClaim_eq]
  split
  · split
    · rw [State.pair_setClaim, State.pair_dualNoted]
    · exact s.pair_dualNoted
  · rfl

variable {s}

theorem State.dualClaim_none (h : s.f F.PAIR_STATUS_CLAIM = 0 ∨ s.pair.filtered = false) : s.dualClaim = s := by
  rw [State.dualClaim_eq]
  exact if_neg (Bool.eq_false_iff.mp (Bool.and_eq_false_iff.mpr (h.imp_left (s.b_eq_false_iff _).mpr)))

/-- On a line that is low after the filter the claim is held without a dual claim. -/
theorem State.takeClaim_low (h : s.pair.filtered = false) : s.takeClaim = s.setClaim true :=
  State.dualClaim_none (.inr (by rw [State.pair_setClaim, h]))

/-! ## A claim in Run (R294) -/

/-- A Mirror claim comes after the arm point and before the Release (R313). -/
def State.claimsLate (s : State) : Bool :=
  s.b F.PAIR_CTRL_MODE && !s.beforeEdge (8 * s.periodUs / 10 - 2) && s.beforeEdge (8 * s.periodUs / 10)

/-- The conditions of a claim in Run. -/
def State.claimsInRun (s : State) : Bool := s.inPair && decide (s.mode = .run) && !s.b F.PAIR_STATUS_CLAIM && !s.pair.filtered

theorem State.claimInRun_eq (s : State) : s.claimInRun =
    if s.claimsInRun then ({ s with pair := { s.pair with lateClaim := s.claimsLate } } : State).takeClaim else s := rfl

theorem State.claimsInRun_iff (s : State) : s.claimsInRun = true ↔
    s.inPair = true ∧ s.mode = .run ∧ s.f F.PAIR_STATUS_CLAIM = 0 ∧ s.pair.filtered = false := by
  simp only [State.claimsInRun, Bool.and_eq_true, decide_eq_true_eq, Bool.not_eq_true', and_assoc, s.b_eq_false_iff]

theorem State.claimInRun_idle (h : ¬s.claimsInRun = true) : s.claimInRun = s := if_neg h

/-- A claim in Run holds the claim, with ownership where ECL_IN is low. -/
theorem State.claimInRun_claims (h : s.claimsInRun = true) :
    s.claimInRun = ({ s with pair := { s.pair with lateClaim := s.claimsLate } } : State).setClaim true := by
  obtain ⟨-, -, -, hlow⟩ := s.claimsInRun_iff.mp h
  rw [State.claimInRun_eq, if_pos h]
  exact State.takeClaim_low hlow

theorem State.pair_claimInRun (s : State) : ∃ l, s.claimInRun.pair = { s.pair with lateClaim := l } := by
  by_cases h : s.claimsInRun = true
  · exact ⟨s.claimsLate, by rw [State.claimInRun_claims h, State.pair_setClaim]⟩
  · exact ⟨s.pair.lateClaim, by rw [State.claimInRun_idle h]⟩

/-! ## Frames of the link -/

variable (s)

theorem State.regsOnly_linkFrame : ({ s with pair := s.linkFrame.pair } : State).regsOnly s.linkFrame [R.PAIR_STATUS] :=
  State.regsOnly_put _ _ (by decide)

theorem State.tickNo_linkFrame : s.linkFrame.tickNo = s.tickNo :=
  State.tickNo_congr (s.regsOnly_linkFrame.2 _ (by decide)) (s.regsOnly_linkFrame.2 _ (by decide))

theorem State.f_linkFrame {x : Fld} (hx : x.addr ≠ R.PAIR_STATUS ∨ x.hi < 15 ∨ 15 < x.lo) : s.linkFrame.f x = s.f x :=
  (State.f_withPair _ _ _).trans (State.f_put_apart _ _ (by decide) hx)

theorem State.mode_linkFrame : s.linkFrame.mode = s.mode := State.mode_congr (s.regsOnly_linkFrame.2 _ (by decide))

variable {s}

/-- A dark module takes no frame (R470). -/
theorem State.frameIn_dark (h : s.dark = true) (ok : Bool) (g : State → State) : s.frameIn ok g = s := if_pos h

theorem State.frameIn_good (h : s.dark = false) (g : State → State) : s.frameIn true g = g s.linkFrame :=
  if_neg (Bool.eq_false_iff.mp h)

/-- A frame that fails its CRC is counted and does nothing else (R298). -/
theorem State.frameIn_bad (h : s.dark = false) (g : State → State) : s.frameIn false g = s.linkFrame.count F.PAIR_LINK_CRC_ERR :=
  if_neg (Bool.eq_false_iff.mp h)

end
end Sys2Proof.Machine
end

section
/-!
The pair link: pairing, health, loss, mirror values, self-tests and full checkpoints: the statement of O44 (R298 to R301, R304, R305, R312, R315).
-/
namespace Sys2Proof.Machine

/-! ## Frames beside the pair's state -/

/-- A frame beside another state of the pair is a frame beside the pair's state as it becomes. -/
theorem State.gnssAnd.besidePair {s t : State} {p : PairSt} {l : List Nat} (h : ({ s with pair := p } : State).gnssAnd t l) :
    ({ s with pair := t.pair, gnss := t.gnss } : State).logAnd t l := by
  obtain rfl : t.pair = p := by
    have e := congrArg State.pair h.1; exact e
  exact h

theorem State.gnssOnly.besidePair {s t : State} {p : PairSt} {l : List Nat} (h : ({ s with pair := p } : State).gnssOnly t l) :
    ({ s with pair := t.pair, gnss := t.gnss } : State).regsOnly t l := by
  obtain rfl : t.pair = p := by
    have e := congrArg State.pair h.1; exact e
  exact h

theorem State.regsOnly.withGnss {s t : State} {l : List Nat} (h : s.regsOnly t l) (g : GnssSt) :
    ({ s with gnss := g } : State).regsOnly { t with gnss := g } l :=
  ⟨congrArg (fun u : State => ({ u with gnss := g } : State)) h.1, h.2⟩

theorem State.regsOnly.withPair {s t : State} {l : List Nat} (h : s.regsOnly t l) (p : PairSt) :
    ({ s with pair := p } : State).regsOnly { t with pair := p } l :=
  ⟨congrArg (fun u : State => ({ u with pair := p } : State)) h.1, h.2⟩

/-- Registers that change before the role does. -/
theorem State.gnssOnly_refreshRole {s t : State} {l : List Nat} (h : s.regsOnly t l) (hl : R.PAIR_STATUS ∈ l) : s.gnssOnly t.refreshRole l :=
  State.regsOnly_trans (h.withGnss _) (t.regsOnly_refreshRole.mono fun _ ha => List.mem_singleton.mp ha ▸ hl)

theorem State.gnssAnd_of_gnssOnly {s t : State} {l : List Nat} (h : s.gnssOnly t l) : s.gnssAnd t l :=
  State.logAnd_of_regsOnly h (State.logFrame_refl _)

/-! ## Training of the link (R299) -/

/-- What LINK_TRAINED leaves. -/
def State.trained (s : State) (lanes : Lanes) : State :=
  { (s.put F.PAIR_LINK_LANES lanes.toNat).putb F.PAIR_STATUS_LINK_UP (lanes != 0) with pair := { s.pair with upTick := s.tickNo } }

theorem State.trained_spec (s : State) (lanes : Lanes) : (s.trained lanes).f F.PAIR_LINK_LANES = lanes.toNat ∧
    (s.trained lanes).f F.PAIR_STATUS_LINK_UP = (if lanes = 0 then 0 else 1) ∧
    ({ s with pair := (s.trained lanes).pair } : State).regsOnly (s.trained lanes) [R.PAIR_LINK, R.PAIR_STATUS] := by
  have hregs : s.regsOnly ((s.put F.PAIR_LINK_LANES lanes.toNat).putb F.PAIR_STATUS_LINK_UP (lanes != 0)) [R.PAIR_LINK, R.PAIR_STATUS] :=
    State.regsOnly_trans (State.regsOnly_put _ _ (by decide)) (State.regsOnly_put _ _ (by decide))
  refine ⟨?_, ?_, hregs.withPair _⟩
  · rw [State.trained, State.f_withPair, State.f_putb_apart _ _ (by decide) (by decide), State.f_put_same _ _ _ (by decide) (by decide)]
    exact Nat.mod_eq_of_lt lanes.isLt
  · rw [State.trained, State.f_withPair, State.f_putb_same _ _ rfl (by decide)]
    by_cases h : lanes = 0 <;> simp [h, b2n]

/-! ## A refusal to pair (R299) -/

/-- The modules are not paired. -/
def State.unpaired (s : State) : State := { s with pair := { s.pair with paired := false } }

theorem State.unpaired_of_not {s : State} (h : s.pair.paired = false) : s.unpaired = s := by
  unfold State.unpaired
  rw [← h]

/-- The refusal stands in PAIR_STATUS. -/
def State.refusalPut (s : State) (r : Nat) : State := (s.unpaired.put F.PAIR_STATUS_REFUSE r).put F.PAIR_STATUS_REFUSED 1

/-- The refusal is recorded, and source 192 asserted. -/
def State.refusalNoted (s : State) (r : Nat) : State := ((s.refusalPut r).event 0x0D00 [r]).assertSrc 192

section
variable (s : State) (r : Nat)

theorem State.pairRefuse_eq : s.pairRefuse r = (s.refusalNoted r).refreshRole := rfl

theorem State.logFrame_refusalNoted : (s.refusalPut r).logFrame (s.refusalNoted r) := State.logFrame_eventSrc _ _ _ _

theorem State.pair_refusalNoted : (s.refusalNoted r).pair = s.unpaired.pair := (State.logFrame_pair (s.logFrame_refusalNoted r)).trans rfl

theorem State.pair_pairRefuse : (s.pairRefuse r).pair = { s.pair with paired := false } := s.pair_refusalNoted r

theorem State.gnssAnd_pairRefuse : s.unpaired.gnssAnd (s.pairRefuse r) [R.PAIR_STATUS] := by
  have hput : s.unpaired.regsOnly (s.refusalPut r) [R.PAIR_STATUS] :=
    State.regsOnly_trans (State.regsOnly_put _ _ (by decide)) (State.regsOnly_put _ _ (by decide))
  exact State.gnssAnd_trans (State.gnssAnd_of_logAnd (State.logAnd_of_regsOnly hput (s.logFrame_refusalNoted r)))
    (State.gnssAnd_of_gnssOnly (State.regsOnly_refreshRole _))

theorem State.f_refusalNoted {x : Fld} (hlog : logReg x.addr = false) : (s.refusalNoted r).f x = (s.refusalPut r).f x :=
  State.logFrame_f (s.logFrame_refusalNoted r) x hlog

variable {r}

theorem State.f_pairRefuse (hr : r < 256) : (s.pairRefuse r).f F.PAIR_STATUS_REFUSED = 1 ∧ (s.pairRefuse r).f F.PAIR_STATUS_REFUSE = r ∧
    (s.pairRefuse r).f F.PAIR_STATUS_ROLE = 0 := by
  rw [State.pairRefuse_eq]
  refine ⟨?_, ?_, ?_⟩
  · rw [State.f_refreshRole _ (by decide), State.f_refusalNoted _ _ rfl, State.refusalPut, State.f_put_same _ _ _ (by decide) (by decide)]
    rfl
  · rw [State.f_refreshRole _ (by decide), State.f_refusalNoted _ _ rfl, State.refusalPut, State.f_put_apart _ _ (by decide) (by decide),
      State.f_put_same _ _ _ (by decide) (by decide)]
    exact Nat.mod_eq_of_lt hr
  · rw [State.role_refreshRole, State.role, State.pair_refusalNoted]
    rfl

end

/-! ## Hello frames (R299, R300) -/

/-- The first reason of a refusal that holds, or none. -/
theorem State.helloReason_eq (s : State) (h : Hello) : s.helloReason h =
    if bitsOf h.sysId 23 0 ≠ bitsOf s.variant.id 23 0 then 1
    else if h.periodMs ≠ s.periodMs then 2
    else if (h.unitB = true ↔ s.f F.PAIR_STATUS_POS = 1) then 3
    else if ¬(h.mirror = true ↔ s.f F.PAIR_CTRL_MODE = 1) then 4 else 0 := by
  have hpos : h.unitB = s.b F.PAIR_STATUS_POS ↔ (h.unitB = true ↔ s.f F.PAIR_STATUS_POS = 1) := by rw [Bool.eq_iff_iff, s.b_eq_true_iff rfl]
  have hmode : h.mirror ≠ s.b F.PAIR_CTRL_MODE ↔ ¬(h.mirror = true ↔ s.f F.PAIR_CTRL_MODE = 1) := by rw [ne_eq, Bool.eq_iff_iff, s.b_eq_true_iff rfl]
  simp only [State.helloReason, hpos, hmode]

theorem State.helloReason_lt (s : State) (h : Hello) : s.helloReason h < 256 := by
  unfold State.helloReason
  dsimp only
  split_ifs <;> decide

theorem State.periodMs_linkFrame (s : State) : s.linkFrame.periodMs = s.periodMs := by
  unfold State.periodMs
  rw [s.f_linkFrame (by decide)]

theorem State.helloReason_linkFrame (s : State) (h : Hello) : s.linkFrame.helloReason h = s.helloReason h := by
  rw [State.helloReason_eq, State.helloReason_eq, s.periodMs_linkFrame, s.f_linkFrame (by decide), s.f_linkFrame (by decide)]
  rfl

theorem State.greet_ignored {s : State} (h : Hello) (hi : s.f F.PAIR_CTRL_EN = 0 ∨ s.pair.paired = true) : s.greet h = s := by
  refine if_pos (Bool.or_eq_true_iff.mpr (hi.imp_left fun hen => ?_))
  rw [(s.b_eq_false_iff _).mpr hen, Bool.not_false]

theorem State.greet_taken {s : State} (h : Hello) (hen : s.f F.PAIR_CTRL_EN = 1) (hp : s.pair.paired = false) :
    s.greet h = if s.helloReason h ≠ 0 then s.pairRefuse (s.helloReason h) else s.pairWith h := by
  unfold State.greet
  rw [(s.b_eq_true_iff (x := F.PAIR_CTRL_EN) rfl).mpr hen, hp, if_neg (by decide)]

/-! ## Pairing -/

/-- The partner's tick position less this module's, in cycles. -/
def State.partnerAhead (s : State) (h : Hello) : Int :=
  ((h.tick * (500 * s.periodUs) + h.phase : Nat) : Int) - (s.tickNo * (500 * s.periodUs) + s.tick.cycles : Nat)

/-- The pair's state once the modules are paired. -/
def State.pairJoined (s : State) (h : Hello) : PairSt :=
  { s.pair with paired := true, fullDue := true, refreshHold := !s.b F.PAIR_STATUS_CLAIM, align := if s.aligns then some (s.partnerAhead h) else none }

/-- The modules are paired, and the role follows. -/
def State.greeted (s : State) (h : Hello) : State := ({ s with pair := s.pairJoined h } : State).refreshRole

section
variable (s : State) (h : Hello)

theorem State.pairWith_eq : s.pairWith h = (s.greeted h).claimInRun := rfl

theorem State.f_greeted {x : Fld} (hx : x.addr ≠ R.PAIR_STATUS ∨ x.hi < 0 ∨ 1 < x.lo) : (s.greeted h).f x = s.f x :=
  (State.f_refreshRole _ hx).trans (s.f_withPair _ _)

theorem State.mode_greeted : (s.greeted h).mode = s.mode := State.mode_congr (State.reg_refreshRole _ (by decide))

/-- Pairing leaves the pair's state as it is joined, but for the mark of a late claim. -/
theorem State.pair_pairWith : ∃ l, (s.pairWith h).pair = { s.pairJoined h with lateClaim := l } := (s.greeted h).pair_claimInRun

theorem State.aligns_iff : s.aligns = true ↔
    s.f F.PAIR_STATUS_CLAIM = 0 ∧ (s.f F.PAIR_STATUS_ECL_IN = 1 ∨ s.f F.PAIR_STATUS_POS = 1) ∧ s.mode = .stop := by
  simp only [State.aligns, Bool.and_eq_true, Bool.or_eq_true, decide_eq_true_eq, Bool.not_eq_true', s.b_eq_false_iff, and_assoc,
    s.b_eq_true_iff (x := F.PAIR_STATUS_ECL_IN) rfl, s.b_eq_true_iff (x := F.PAIR_STATUS_POS) rfl]

variable {s}

theorem State.claimsInRun_greeted (hen : s.f F.PAIR_CTRL_EN = 1) : (s.greeted h).claimsInRun = true ↔
    s.mode = .run ∧ s.f F.PAIR_STATUS_CLAIM = 0 ∧ s.pair.filtered = false := by
  have hin : (s.greeted h).inPair = true := by
    rw [State.inPair, (State.b_eq_true_iff _ rfl).mpr ((s.f_greeted h (by decide)).trans hen)]
    rfl
  rw [State.claimsInRun_iff, State.mode_greeted, s.f_greeted h (by decide)]
  exact and_iff_right hin

/-- In Run on a line that is low the module holds the claim once it is paired (R294). -/
theorem State.claim_pairWith (hen : s.f F.PAIR_CTRL_EN = 1) (hrun : s.mode = .run) (hlow : s.pair.filtered = false) :
    (s.pairWith h).f F.PAIR_STATUS_CLAIM = 1 := by
  rw [State.pairWith_eq]
  rcases s.f_eq_zero_or_one (x := F.PAIR_STATUS_CLAIM) rfl with hc | hc
  · rw [State.claimInRun_claims ((State.claimsInRun_greeted h hen).mpr ⟨hrun, hc, hlow⟩)]
    exact (State.claim_setClaim _ true).1
  · have hidle : ¬(s.greeted h).claimsInRun = true := fun hcl => by
      obtain ⟨-, h0, -⟩ := (State.claimsInRun_greeted h hen).mp hcl
      rw [hc] at h0
      cases h0
    rw [State.claimInRun_idle hidle, State.f_greeted _ _ (by decide), hc]

/-- Else the claim stays, and PAIR_STATUS shows the role. -/
theorem State.pairWith_unclaimed (hen : s.f F.PAIR_CTRL_EN = 1) (hu : s.mode ≠ .run ∨ s.pair.filtered = true) :
    s.pairWith h = s.greeted h :=
  State.claimInRun_idle fun hcl => by
    obtain ⟨hrun, -, hlow⟩ := (State.claimsInRun_greeted h hen).mp hcl
    rcases hu with hu | hu
    · exact hu hrun
    · rw [hlow] at hu
      cases hu

theorem State.role_greeted : (s.greeted h).f F.PAIR_STATUS_ROLE = if s.f F.PAIR_STATUS_CLAIM = 1 then 1 else if s.mode = .run then 3 else 2 := by
  have hclaim : ({ s with pair := s.pairJoined h } : State).b F.PAIR_STATUS_CLAIM = true ↔ s.f F.PAIR_STATUS_CLAIM = 1 := s.b_eq_true_iff rfl
  have hp : ¬({ s with pair := s.pairJoined h } : State).pair.paired = false := Bool.false_ne_true.symm
  rw [State.greeted, State.role_refreshRole, State.role, if_neg hp]
  exact if_congr hclaim rfl rfl

end

end Sys2Proof.Machine
end

section
/-!
Hello frames, health words, the loss of the link and the lane self-test: the statement of O44 (R299 to R301, R304, R315).
-/
namespace Sys2Proof.Machine

theorem State.regsOnly_pair {s t : State} {l : List Nat} (h : s.regsOnly t l) : t.pair = s.pair := by
  have e := congrArg State.pair h.1; exact e

/-! ## A hello frame that is taken (R299, R300) -/

section
variable {s : State} (h : Hello)

theorem State.hello_taken (hd : s.dark = false) (hen : s.f F.PAIR_CTRL_EN = 1) (hp : s.pair.paired = false) :
    s.hello true h = if s.helloReason h ≠ 0 then s.linkFrame.pairRefuse (s.helloReason h) else s.linkFrame.pairWith h := by
  rw [← s.helloReason_linkFrame h]
  exact (State.frameIn_good hd _).trans (State.greet_taken h ((s.f_linkFrame (by decide)).trans hen) hp)

theorem State.hello_ignored (hd : s.dark = false) (hi : s.f F.PAIR_CTRL_EN = 0 ∨ s.pair.paired = true) : s.hello true h = s.linkFrame :=
  (State.frameIn_good hd _).trans (State.greet_ignored h (hi.imp_left (s.f_linkFrame (by decide)).trans))

theorem State.hello_refused (hd : s.dark = false) (hen : s.f F.PAIR_CTRL_EN = 1) (hp : s.pair.paired = false) (hr : s.helloReason h ≠ 0) :
    (s.hello true h).f F.PAIR_STATUS_REFUSED = 1 ∧ (s.hello true h).f F.PAIR_STATUS_REFUSE = s.helloReason h ∧
    (s.hello true h).f F.PAIR_STATUS_ROLE = 0 ∧ (s.hello true h).pair = { s.pair with frameTick := some s.tickNo, paired := false } ∧
    ({ s with pair := (s.hello true h).pair, gnss := (s.hello true h).gnss } : State).logAnd (s.hello true h) [R.PAIR_STATUS] := by
  have hrefuse : s.hello true h = s.linkFrame.pairRefuse (s.helloReason h) := (s.hello_taken h hd hen hp).trans (if_pos hr)
  have hframe : ({ s with pair := s.linkFrame.unpaired.pair } : State).regsOnly s.linkFrame.unpaired [R.PAIR_STATUS] := s.regsOnly_linkFrame.withPair _
  rw [hrefuse]
  obtain ⟨hset, hreason, hrole⟩ := s.linkFrame.f_pairRefuse (s.helloReason_lt h)
  exact ⟨hset, hreason, hrole, State.pair_pairRefuse _ _,
    (State.gnssAnd_trans (State.gnssAnd_of_logAnd (State.logAnd_of_regsOnly hframe (State.logFrame_refl _))) (State.gnssAnd_pairRefuse _ _)).besidePair⟩

theorem State.periodUs_linkFrame (s : State) : s.linkFrame.periodUs = s.periodUs := by rw [State.periodUs, State.periodUs, s.periodMs_linkFrame]

theorem State.partnerAhead_linkFrame (s : State) : s.linkFrame.partnerAhead h = s.partnerAhead h := by
  rw [State.partnerAhead, State.partnerAhead, s.periodUs_linkFrame, s.tickNo_linkFrame]
  rfl

/-- What pairing leaves in the pair's state, but for a late claim. -/
theorem State.pair_joins (s : State) : (s.linkFrame.pairWith h).pair.paired = true ∧ (s.linkFrame.pairWith h).pair.fullDue = true ∧
    (s.linkFrame.pairWith h).pair.refreshHold = !s.b F.PAIR_STATUS_CLAIM ∧
    (s.linkFrame.pairWith h).pair.align = if s.aligns then some (s.partnerAhead h) else none := by
  obtain ⟨l, hl⟩ := s.linkFrame.pair_pairWith h
  have hclaim : s.linkFrame.b F.PAIR_STATUS_CLAIM = s.b F.PAIR_STATUS_CLAIM := State.b_congr _ (s.f_linkFrame (by decide))
  have haligns : s.linkFrame.aligns = s.aligns := by
    rw [State.aligns, State.aligns, s.mode_linkFrame, hclaim, State.b_congr F.PAIR_STATUS_ECL_IN (s.f_linkFrame (by decide)),
      State.b_congr F.PAIR_STATUS_POS (s.f_linkFrame (by decide))]
  rw [hl, ← s.partnerAhead_linkFrame h, ← haligns, ← hclaim]
  exact ⟨rfl, rfl, rfl, rfl⟩

theorem State.regsOnly_greeted (s : State) :
    ({ s with pair := (s.greeted h).pair, gnss := (s.greeted h).gnss } : State).regsOnly (s.greeted h) [R.PAIR_STATUS] :=
  State.regsOnly_refreshRole _

theorem State.hello_unclaimed (s : State) : (s.linkFrame.greeted h).f F.PAIR_STATUS_CLAIM = s.f F.PAIR_STATUS_CLAIM ∧
    (s.linkFrame.greeted h).f F.PAIR_STATUS_ROLE = (if s.f F.PAIR_STATUS_CLAIM = 1 then 1 else if s.mode = .run then 3 else 2) ∧
    ({ s with pair := (s.linkFrame.greeted h).pair, gnss := (s.linkFrame.greeted h).gnss } : State).regsOnly (s.linkFrame.greeted h) [R.PAIR_STATUS] := by
  have hclaim : s.linkFrame.f F.PAIR_STATUS_CLAIM = s.f F.PAIR_STATUS_CLAIM := s.f_linkFrame (by decide)
  refine ⟨(State.f_greeted _ _ (by decide)).trans hclaim, ?_, ?_⟩
  · rw [State.role_greeted, hclaim, s.mode_linkFrame]
  · have hframe : ({ s with pair := (s.linkFrame.greeted h).pair, gnss := (s.linkFrame.greeted h).gnss } : State).regsOnly
        { s.linkFrame with pair := (s.linkFrame.greeted h).pair, gnss := (s.linkFrame.greeted h).gnss } [R.PAIR_STATUS] :=
      (s.regsOnly_linkFrame.withPair (s.linkFrame.greeted h).pair).withGnss (s.linkFrame.greeted h).gnss
    exact State.regsOnly_trans hframe (s.linkFrame.regsOnly_greeted h)

end

/-! ## The training timeout (R299) -/

theorem State.pairRefuse_unpaired {s : State} (hp : s.pair.paired = false) (r : Nat) :
    ({ s with gnss := (s.pairRefuse r).gnss } : State).logAnd (s.pairRefuse r) [R.PAIR_STATUS] := by
  have hframe := s.gnssAnd_pairRefuse r
  rw [State.unpaired_of_not hp] at hframe
  exact hframe

theorem execLinkTrainingTimeout_refuses {s : State} (hen : s.f F.PAIR_CTRL_EN = 1) (hp : s.pair.paired = false) (hl : s.f F.PAIR_LINK_LANES = 0) :
    exec .linkTrainingTimeout s = .next (s.pairRefuse 5) := by
  refine if_pos ?_
  rw [(s.b_eq_true_iff (x := F.PAIR_CTRL_EN) rfl).mpr hen, hp, hl]
  rfl

theorem execLinkTrainingTimeout_idle {s : State} (hi : s.f F.PAIR_CTRL_EN = 0 ∨ s.pair.paired = true ∨ s.f F.PAIR_LINK_LANES ≠ 0) :
    exec .linkTrainingTimeout s = .next s := by
  refine if_neg fun ht => ?_
  simp only [Bool.and_eq_true, Bool.not_eq_true', decide_eq_true_eq] at ht
  obtain ⟨⟨hen, hp⟩, hl⟩ := ht
  rw [s.b_eq_true_iff (x := F.PAIR_CTRL_EN) rfl] at hen
  rw [hen, hp] at hi
  simp [hl] at hi

/-! ## The partner's health word (R301) -/

/-- The registers of the increments that a steered TICK, its copies in the CAN channels and PAIR hold. -/
def incRegs : List Nat := [3, 4, 8, 9, 10, 11, 12, 13, 14, 15].flatMap fun b => [R.TIME_INCLO b, R.TIME_INCLO b + 4]

section
variable (s : State)

theorem State.regsOnly_setReg64 {lo : Nat} {l : List Nat} (v : Nat) (h : lo ∈ l) (h' : lo + 4 ∈ l) : s.regsOnly (s.setReg64 lo v) l :=
  State.regsOnly_trans (s.regsOnly_setReg _ h) (State.regsOnly_setReg _ _ h')

theorem incRegs_mem : ∀ b ∈ [3, 4, 8, 9, 10, 11, 12, 13, 14, 15], R.TIME_INCLO b ∈ incRegs ∧ R.TIME_INCLO b + 4 ∈ incRegs := by decide

theorem State.regsOnly_setInc {b : Nat} (v : Nat) (hb : b ∈ [3, 4, 8, 9, 10, 11, 12, 13, 14, 15]) : s.regsOnly (s.setInc b v) incRegs :=
  s.regsOnly_setReg64 v (incRegs_mem b hb).1 (incRegs_mem b hb).2

theorem canBase_mem : ∀ k ∈ List.range 8, 8 + k ∈ [3, 4, 8, 9, 10, 11, 12, 13, 14, 15] := by decide

theorem State.regsOnly_copyTickInc : s.regsOnly s.copyTickInc incRegs := by
  refine State.regsOnly_foldl _ _ _ s fun s k hk => ?_
  dsimp only
  split
  · exact s.regsOnly_setInc _ (canBase_mem k hk)
  · exact s.regsOnly_refl _

theorem State.regsOnly_setTickInc (v : Nat) : s.regsOnly (s.setTickInc v) incRegs :=
  State.regsOnly_trans (s.regsOnly_setInc v (by decide)) (State.regsOnly_copyTickInc _)

/-- TICK and PAIR steered by amounts that the spec leaves open (R300). -/
def State.steered (s : State) : State :=
  ((((s.draw (2 ^ 64)).2.draw (2 ^ 64)).2).setTickInc (s.draw (2 ^ 64)).1).setInc 4 ((s.draw (2 ^ 64)).2.draw (2 ^ 64)).1

theorem State.regsOnly_steered : ({ s with freeCtr := s.freeCtr + 2 } : State).regsOnly s.steered incRegs := by
  have hdraw : ((s.draw (2 ^ 64)).2.draw (2 ^ 64)).2 = { s with freeCtr := s.freeCtr + 2 } := rfl
  unfold State.steered
  rw [hdraw]
  exact State.regsOnly_trans (State.regsOnly_setTickInc _ _) (State.regsOnly_setInc _ _ (by decide))

/-- The registers of a health word. -/
def healthRegs : List Nat := [R.PAIR_PHEALTH_LO, R.PAIR_PHEALTH_HI, R.PAIR_TIME]

/-- The word and the offset of the Keep stand in their registers, with the tick they came in and the time check. -/
def State.wordTaken (s : State) (w : Dword) (offset : Int) : State :=
  let v := s.setReg64 R.PAIR_PHEALTH_LO w.toNat
  ({ v with pair := { s.pair with healthTick := some v.tickNo, timeOk := decide (offset.natAbs ≤ 1000) } } : State).puti F.PAIR_TIME_OFFSET offset

/-- A module that aligns steers its bases. -/
def State.wordSteered (s : State) (w : Dword) (offset : Int) : State :=
  if (s.wordTaken w offset).inPair && (s.wordTaken w offset).aligns then (s.wordTaken w offset).steered else s.wordTaken w offset

variable (w : Dword) (offset : Int)

theorem State.partnerWord_eq : s.partnerWord w offset = (s.wordSteered w offset).showPartner := rfl

theorem State.regsOnly_wordTaken :
    ({ s with pair := (s.wordTaken w offset).pair } : State).regsOnly (s.wordTaken w offset) healthRegs := by
  have hword : s.regsOnly (s.setReg64 R.PAIR_PHEALTH_LO w.toNat) healthRegs := s.regsOnly_setReg64 _ (by decide) (by decide)
  exact State.regsOnly_trans (hword.withPair _) (State.regsOnly_put _ _ (by decide))

theorem State.pair_wordTaken :
    (s.wordTaken w offset).pair = { s.pair with healthTick := some s.tickNo, timeOk := decide (offset.natAbs ≤ 1000) } := by
  have htick : (s.setReg64 R.PAIR_PHEALTH_LO w.toNat).tickNo = s.tickNo :=
    State.tickNo_congr (s.reg_setReg64_other _ _ _ (by decide) (by decide)) (s.reg_setReg64_other _ _ _ (by decide) (by decide))
  rw [← htick]
  rfl

theorem State.reg64_congr {s t : State} {a : Nat} (hlo : t.reg a = s.reg a) (hhi : t.reg (a + 4) = s.reg (a + 4)) : t.reg64 a = s.reg64 a := by
  unfold State.reg64
  rw [hlo, hhi]

theorem State.reg64_wordTaken : (s.wordTaken w offset).reg64 R.PAIR_PHEALTH_LO = w.toNat :=
  (State.reg64_congr (State.reg_put_other _ _ _ _ (by decide)) (State.reg_put_other _ _ _ _ (by decide))).trans
    (s.reg64_setReg64 _ _ w.isLt)

/-- Steering leaves the pair's state, memory and every register but the increments. -/
theorem State.wordSteered_frame : (s.wordSteered w offset).pair = (s.wordTaken w offset).pair ∧
    (s.wordSteered w offset).mem = (s.wordTaken w offset).mem ∧
    ∀ a, a ∉ incRegs → (s.wordSteered w offset).reg a = (s.wordTaken w offset).reg a := by
  unfold State.wordSteered
  split
  · have hframe := (s.wordTaken w offset).regsOnly_steered
    have hpair := State.regsOnly_pair hframe
    have hmem := State.regsOnly_mem hframe
    exact ⟨hpair, hmem, hframe.2⟩
  · exact ⟨rfl, rfl, fun _ _ => rfl⟩

theorem State.partnerWord_spec : (s.partnerWord w offset).reg64 R.PAIR_PHEALTH_LO = w.toNat ∧
    (s.partnerWord w offset).f F.PAIR_STATUS_LINK_UP = s.f F.PAIR_STATUS_LINK_UP ∧
    (s.partnerWord w offset).pair = { s.pair with healthTick := some s.tickNo, timeOk := decide (offset.natAbs ≤ 1000) } ∧
    (s.partnerWord w offset).mem = s.mem := by
  obtain ⟨hpair, hmem, hreg⟩ := s.wordSteered_frame w offset
  have hmem₀ := State.regsOnly_mem (s.regsOnly_wordTaken w offset)
  rw [State.partnerWord_eq]
  refine ⟨?_, ?_, hpair.trans (s.pair_wordTaken w offset), hmem.trans hmem₀⟩
  · rw [← s.reg64_wordTaken w offset]
    exact State.reg64_congr ((State.reg_put_other _ _ _ _ (by decide)).trans (hreg _ (by decide)))
      ((State.reg_put_other _ _ _ _ (by decide)).trans (hreg _ (by decide)))
  · rw [State.showPartner, State.f_putb_apart _ _ (by decide) (by decide), State.f_congr _ (hreg _ (by decide)),
      State.f_congr _ ((s.regsOnly_wordTaken w offset).2 _ (by decide))]
    rfl

variable {s}

theorem State.regsOnly_partnerWord (hp : s.inPair = false) :
    ({ s with pair := (s.partnerWord w offset).pair } : State).regsOnly (s.partnerWord w offset)
      [R.PAIR_PHEALTH_LO, R.PAIR_PHEALTH_HI, R.PAIR_TIME, R.PAIR_STATUS] := by
  have hen : (s.wordTaken w offset).b F.PAIR_CTRL_EN = s.b F.PAIR_CTRL_EN :=
    State.b_congr _ (State.f_congr _ ((s.regsOnly_wordTaken w offset).2 _ (by decide)))
  have hpaired : (s.wordTaken w offset).pair.paired = s.pair.paired := by rw [State.pair_wordTaken]
  have hout : (s.wordTaken w offset).inPair = false := by rw [State.inPair, hen, hpaired]; exact hp
  have hsame : s.wordSteered w offset = s.wordTaken w offset := by rw [State.wordSteered, hout]; rfl
  rw [State.partnerWord_eq, hsame]
  exact State.regsOnly_trans ((s.regsOnly_wordTaken w offset).mono (by decide)) (State.regsOnly_put _ _ (by decide))

end

end Sys2Proof.Machine
end

section
/-!
The loss of the link, the lane self-test, RESYNC and the settlement of O44 (R301, R304, R305, R312, R315, R318).
-/
namespace Sys2Proof.Machine

/-! ## The loss of the link (R301, R304) -/

theorem mem_foldl_addTo (l m : List Nat) (p : Nat) : p ∈ l.foldl addTo m ↔ p ∈ l ∨ p ∈ m := by
  induction l generalizing m with
  | nil => simp
  | cons k l ih => 
    rw [List.foldl_cons, ih, mem_addTo, List.mem_cons]
    tauto

section
variable (s : State)

theorem State.linkSilent_iff : s.linkSilent = true ↔ s.pair.upTick + 3 ≤ s.tickNo ∧ ∀ n, s.pair.frameTick = some n → n + 3 ≤ s.tickNo := by
  unfold State.linkSilent
  cases h : s.pair.frameTick <;> simp

variable {s}

theorem State.abandonTx_none (h : s.pair.tx = none) : s.abandonTx = s := by
  unfold State.abandonTx
  rw [h]

/-- The frozen pages are dirty again, and those of a refresh unsent. -/
def State.txAbandoned (s : State) (l : List Nat) : State :=
  { s with cml := { s.cml with dirty := l.foldl addTo s.cml.dirty },
           pair := { s.pair with tx := none, txCkpt := none, txRefresh := [], txAgain := [],
                                 refreshLeft := s.pair.txRefresh.foldl addTo s.pair.refreshLeft } }

theorem State.abandonTx_some {l : List Nat} (h : s.pair.tx = some l) : s.abandonTx = (s.txAbandoned l).count F.PAIR_CKPT_ABANDON := by
  unfold State.abandonTx
  rw [h]
  rfl

variable (s)

theorem State.abandonTx_spec : s.abandonTx.pair.tx = none ∧ s.abandonTx.pair.committed = s.pair.committed ∧
    (∀ l, s.pair.tx = some l → ∀ p, p ∈ s.abandonTx.cml.dirty ↔ p ∈ l ∨ p ∈ s.cml.dirty) ∧
    ∀ r, r ≠ R.PAIR_CKPT → s.abandonTx.reg r = s.reg r := by
  cases h : s.pair.tx with
  | none =>
    rw [State.abandonTx_none h]
    exact ⟨h, rfl, fun _ hl => (nomatch hl), fun _ _ => rfl⟩
  | some l =>
    rw [State.abandonTx_some h]
    refine ⟨rfl, rfl, fun l' hl => ?_, fun r hr => State.reg_put_other _ _ _ _ hr⟩
    obtain rfl := Option.some.inj hl
    exact mem_foldl_addTo _ _

theorem State.abandonRx_spec : s.abandonRx.pair = { s.pair with rx := {} } ∧ s.abandonRx.cml = s.cml ∧
    ∀ r, r ≠ R.PAIR_CKPT → s.abandonRx.reg r = s.reg r := by
  unfold State.abandonRx
  dsimp only
  split
  · exact ⟨rfl, rfl, fun _ _ => rfl⟩
  · exact ⟨rfl, rfl, fun r hr => State.reg_put_other _ _ _ _ hr⟩

/-- The link is down, which is recorded, and source 192 is asserted. -/
def State.linkDown (s : State) : State := ((s.put F.PAIR_STATUS_LINK_UP 0).event 0x0D0A []).assertSrc 192

theorem State.logFrame_linkDown : (s.put F.PAIR_STATUS_LINK_UP 0).logFrame s.linkDown := State.logFrame_eventSrc _ _ _ _

theorem State.linkLost_eq : s.linkLost = if s.b F.PAIR_STATUS_LINK_UP && s.linkSilent then s.linkDown.abandonTx.abandonRx.showPartner else s := rfl

/-- What the loss of the link leaves. -/
theorem State.linkLost_spec : s.linkDown.abandonTx.abandonRx.showPartner.f F.PAIR_STATUS_LINK_UP = 0 ∧
    s.linkDown.abandonTx.abandonRx.showPartner.pair.tx = none ∧ s.linkDown.abandonTx.abandonRx.showPartner.pair.rx = {} ∧
    s.linkDown.abandonTx.abandonRx.showPartner.pair.committed = s.pair.committed ∧
    (∀ l, s.pair.tx = some l → ∀ p, p ∈ s.linkDown.abandonTx.abandonRx.showPartner.cml.dirty ↔ p ∈ l ∨ p ∈ s.cml.dirty) ∧
    ∀ r, logReg r = false → r ∉ [R.PAIR_STATUS, R.PAIR_CKPT] → s.linkDown.abandonTx.abandonRx.showPartner.reg r = s.reg r := by
  obtain ⟨htx, hcommitted, hdirty, htxReg⟩ := s.linkDown.abandonTx_spec
  obtain ⟨hrx, hcml, hrxReg⟩ := s.linkDown.abandonTx.abandonRx_spec
  have hdown := s.logFrame_linkDown
  have hpair : s.linkDown.pair = s.pair := (State.logFrame_pair hdown).trans (s.put_pair _ _)
  have hcml₀ : s.linkDown.cml = s.cml := (State.logFrame_cml hdown).trans (s.put_cml _ _)
  refine ⟨?_, ?_, ?_, ?_, fun l hl p => ?_, fun r hlog hr => ?_⟩
  · rw [State.showPartner, State.f_putb_apart _ _ (by decide) (by decide), State.f_congr _ (hrxReg _ (by decide)),
      State.f_congr _ (htxReg _ (by decide)), State.logFrame_f hdown _ rfl, State.f_put_same _ _ _ (by decide) (by decide), Nat.zero_mod]
  · exact (congrArg PairSt.tx hrx).trans htx
  · exact congrArg PairSt.rx hrx
  · exact (congrArg PairSt.committed hrx).trans (hcommitted.trans (congrArg PairSt.committed hpair))
  · rw [show s.linkDown.abandonTx.abandonRx.showPartner.cml = s.linkDown.abandonTx.cml from hcml, hdirty l (by rw [hpair, hl]), hcml₀]
  · have hs : r ≠ R.PAIR_STATUS := fun e => hr (e ▸ List.mem_cons_self)
    have hc : r ≠ R.PAIR_CKPT := fun e => hr (e ▸ List.mem_cons_of_mem _ List.mem_cons_self)
    rw [State.showPartner, State.putb, State.reg_put_other _ _ _ _ hs, hrxReg r hc, htxReg r hc, hdown.2.1 r hlog, State.reg_put_other _ _ _ _ hs]

variable {s}

theorem State.linkLost_down (hup : s.f F.PAIR_STATUS_LINK_UP = 1) (ht : s.pair.upTick + 3 ≤ s.tickNo)
    (hf : ∀ n, s.pair.frameTick = some n → n + 3 ≤ s.tickNo) : s.linkLost = s.linkDown.abandonTx.abandonRx.showPartner := by
  rw [State.linkLost_eq, (s.b_eq_true_iff rfl).mpr hup, s.linkSilent_iff.mpr ⟨ht, hf⟩]
  rfl

theorem State.linkLost_idle (h : s.f F.PAIR_STATUS_LINK_UP = 0 ∨ s.tickNo < s.pair.upTick + 3 ∨
    ∃ n, s.pair.frameTick = some n ∧ s.tickNo < n + 3) : s.linkLost = s := by
  rw [State.linkLost_eq]
  refine if_neg fun hl => ?_
  obtain ⟨hup, hsilent⟩ := Bool.and_eq_true_iff.mp hl
  obtain ⟨ht, hf⟩ := s.linkSilent_iff.mp hsilent
  rcases h with h | h | ⟨n, hn, h⟩
  · rw [(s.b_eq_false_iff _).mpr h] at hup
    cases hup
  · exact absurd ht h.not_ge
  · exact absurd (hf n hn) h.not_ge

end

/-! ## The self-test of the lanes (R315) -/

/-- The lane that copy k of the self-test runs on keeps, joins or leaves the set of bad lanes. -/
def laneJudged (ok : Lanes8) (j : Nat) (l : List Nat) (k : Nat) : List Nat :=
  if ok.getLsbD k then l.filter (· ≠ 8 * j + k) else addTo l (8 * j + k)

theorem mem_laneJudged (ok : Lanes8) (j : Nat) (l : List Nat) (k x : Nat) :
    x ∈ laneJudged ok j l k ↔ if x = 8 * j + k then ok.getLsbD k = false else x ∈ l := by
  unfold laneJudged
  cases ok.getLsbD k with
  | true =>
    by_cases hx : x = 8 * j + k <;> simp [hx]
  | false =>
    by_cases hx : x = 8 * j + k <;> simp [mem_addTo, hx]

theorem mem_foldl_laneJudged (ok : Lanes8) (j : Nat) (l ks : List Nat) (x : Nat) :
    x ∈ ks.foldl (laneJudged ok j) l ↔ if 8 * j ≤ x ∧ x - 8 * j ∈ ks then ok.getLsbD (x - 8 * j) = false else x ∈ l := by
  induction ks generalizing l with
  | nil => simp
  | cons k ks ih =>
    rw [List.foldl_cons, ih, mem_laneJudged]
    by_cases hx : x = 8 * j + k
    · subst hx
      simp
    · have hk : 8 * j ≤ x → x - 8 * j ≠ k := fun hle e => hx (by omega)
      rw [if_neg hx]
      exact (if_congr (and_congr_right fun hle => (List.mem_cons.trans (or_iff_right (hk hle))).symm) rfl rfl).to_iff

/-- The set of bad lanes after a self-test on the group j. -/
def State.lanesJudged (s : State) (ok : Lanes8) (j : Nat) : List Nat := (List.range 8).foldl (laneJudged ok j) s.pair.badLanes

section
variable (s : State) (ok : Lanes8)

theorem State.mem_lanesJudged (j x : Nat) :
    x ∈ s.lanesJudged ok j ↔ if 8 * j ≤ x ∧ x < 8 * j + 8 then ok.getLsbD (x - 8 * j) = false else x ∈ s.pair.badLanes := by
  refine (mem_foldl_laneJudged ok j _ _ x).trans (if_congr (and_congr_right fun hle => ?_) rfl rfl).to_iff
  rw [List.mem_range]
  omega

/-- The bad lanes are kept, and the first of them shows. -/
def State.lanesShown (s : State) (ok : Lanes8) (j : Nat) : State :=
  ({ s with pair := { s.pair with badLanes := s.lanesJudged ok j } } : State).put F.PAIR_STEST_FAIL_LANE ((s.lanesJudged ok j).headD 0xFF)

/-- The bad lanes after a group's test, and LANES_OK. -/
def State.lanesTested (s : State) (ok : Lanes8) (j : Nat) : State := (s.lanesShown ok j).laneCycle j (decide (ok = 0xFF))

variable (j : Nat) (pass : Bool)

theorem State.laneCycle_frame : s.laneCycle j pass = { s with pair := (s.laneCycle j pass).pair } ∧ (s.laneCycle j pass).pair.badLanes = s.pair.badLanes := by
  unfold State.laneCycle
  split <;> exact ⟨rfl, rfl⟩

/-- LANES_OK returns with the last group of a cycle that passed. -/
theorem State.lanesOk_laneCycle (hl : 2 ≤ s.lanes / 8) : (s.laneCycle j true).pair.lanesOk =
    (s.pair.lanesOk || decide (s.pair.laneRun = some j ∧ j ≠ 0 ∧ j + 1 = s.lanes / 8)) := by
  have hend : (if j = 0 then some 1 else if s.pair.laneRun = some j then some (j + 1) else none) = some (s.lanes / 8) ↔
      s.pair.laneRun = some j ∧ j ≠ 0 ∧ j + 1 = s.lanes / 8 := by
    by_cases hj : j = 0
    · rw [if_pos hj, Option.some.injEq]
      omega
    · by_cases hr : s.pair.laneRun = some j
      · simp [hj, hr]
      · simp [hj, hr]
  rw [← decide_eq_decide.mpr hend]
  rfl

theorem State.lanes_ge : 2 ≤ s.lanes / 8 := by
  unfold State.lanes
  cases s.variant.grade <;> decide

theorem State.lanesTested_spec :
    (s.lanesTested ok j).pair.badLanes = s.lanesJudged ok j ∧
    (s.lanesTested ok j).f F.PAIR_STEST_FAIL_LANE = (s.lanesJudged ok j).headD 0xFF % 256 ∧
    ({ s with pair := (s.lanesTested ok j).pair } : State).regsOnly (s.lanesTested ok j) [R.PAIR_STEST] := by
  obtain ⟨hpair, hbad⟩ := (s.lanesShown ok j).laneCycle_frame j (decide (ok = 0xFF))
  have hshown : ({ s with pair := { s.pair with badLanes := s.lanesJudged ok j } } : State).regsOnly (s.lanesShown ok j) [R.PAIR_STEST] :=
    State.regsOnly_put _ _ (by decide)
  refine ⟨hbad, ?_, ?_⟩
  · rw [State.lanesTested, hpair, State.f_withPair]
    exact State.f_put_same _ _ _ (by decide) (by decide)
  · have hframe := hshown.withPair (s.lanesTested ok j).pair
    have hsame : ({ s.lanesShown ok j with pair := (s.lanesTested ok j).pair } : State) = s.lanesTested ok j := hpair.symm
    rw [hsame] at hframe
    exact hframe

theorem State.lanesOk_lanesTested_failed (h : ok ≠ 0xFF) : (s.lanesTested ok j).pair.lanesOk = false := by
  rw [State.lanesTested, decide_eq_false h]
  rfl

theorem State.lanesOk_lanesTested_passed (h : ok = 0xFF) : (s.lanesTested ok j).pair.lanesOk =
    (s.pair.lanesOk || decide (s.pair.laneRun = some j ∧ j ≠ 0 ∧ j + 1 = s.lanes / 8)) := by
  rw [State.lanesTested, decide_eq_true h]
  exact State.lanesOk_laneCycle _ _ s.lanes_ge

theorem State.laneTest_eq : s.laneTest ok = if s.standby then
    (if ok = 0xFF then s.lanesTested ok (s.tickNo % (s.lanes / 8)) else (s.lanesTested ok (s.tickNo % (s.lanes / 8))).assertSrc 192) else s := by
  unfold State.laneTest
  cases s.standby <;> rfl

variable {s}

theorem State.laneTest_spec (hs : s.standby = true) :
    (∀ x, x ∈ (s.laneTest ok).pair.badLanes ↔
      if 8 * (s.tickNo % (s.lanes / 8)) ≤ x ∧ x < 8 * (s.tickNo % (s.lanes / 8)) + 8 then ok.getLsbD (x - 8 * (s.tickNo % (s.lanes / 8))) = false
      else x ∈ s.pair.badLanes) ∧
    (s.laneTest ok).f F.PAIR_STEST_FAIL_LANE = (s.laneTest ok).pair.badLanes.headD 0xFF % 256 ∧
    ({ s with pair := (s.laneTest ok).pair } : State).logAnd (s.laneTest ok) [R.PAIR_STEST] ∧
    (ok ≠ 0xFF → (s.laneTest ok).pair.lanesOk = false) ∧
    (ok = 0xFF → (s.laneTest ok).pair.lanesOk = (s.pair.lanesOk || decide (s.pair.laneRun = some (s.tickNo % (s.lanes / 8)) ∧
        s.tickNo % (s.lanes / 8) ≠ 0 ∧ s.tickNo % (s.lanes / 8) + 1 = s.lanes / 8)) ∧
      ({ s with pair := (s.laneTest ok).pair } : State).regsOnly (s.laneTest ok) [R.PAIR_STEST]) := by
  generalize hj : s.tickNo % (s.lanes / 8) = j
  obtain ⟨hbad, hshown, hregs⟩ := s.lanesTested_spec ok j
  have hlanes := s.mem_lanesJudged ok j
  rw [State.laneTest_eq, if_pos hs, hj]
  by_cases hok : ok = 0xFF
  · rw [if_pos hok, hbad]
    exact ⟨hlanes, hshown, State.logAnd_of_regsOnly hregs (State.logFrame_refl _), fun hne => absurd hok hne,
      fun _ => ⟨s.lanesOk_lanesTested_passed ok j hok, hregs⟩⟩
  · have hlog := (s.lanesTested ok j).logFrame_assertSrc 192
    have hpair := State.logFrame_pair hlog
    rw [if_neg hok, hpair, hbad, State.logFrame_f hlog _ rfl]
    exact ⟨hlanes, hshown, State.logAnd_of_regsOnly hregs hlog, fun _ => s.lanesOk_lanesTested_failed ok j hok, fun h => absurd h hok⟩

theorem State.laneTest_idle (hs : s.standby = false) : s.laneTest ok = s := by
  rw [State.laneTest_eq, hs]
  rfl

end

/-! ## RESYNC (R305, R318) -/

theorem State.f_put_bit (s : State) {x : Fld} {v : Nat} (hx : x.hi = x.lo) (hn : x.hi < 32) (hv : v < 2) : (s.put x v).f x = v := by
  rw [State.f_put_same _ _ _ hx.ge hn, hx, Nat.add_sub_cancel_left]
  exact Nat.mod_eq_of_lt hv

theorem bitsOf_bit_lt {n : Nat} (w : BitVec n) (i : Nat) : bitsOf w i i < 2 := by
  have h := bitsOf_lt w i i
  rwa [Nat.add_sub_cancel_left] at h

/-- PAIR_CTRL as a write leaves it: MODE is written in Stop only. -/
def State.pairCtrlPut (s : State) (v : Word) : State :=
  let u := ((s.put F.PAIR_CTRL_EN (bitsOf v 31 31)).put F.PAIR_CTRL_CKPT_FULL (bitsOf v 29 29)).put F.PAIR_CTRL_COLD_TAKE (bitsOf v 28 28)
  if u.mode = .stop then u.put F.PAIR_CTRL_MODE (bitsOf v 30 30) else u

section
variable (s : State) (v : Word)

theorem State.regsOnly_pairCtrlPut : s.regsOnly (s.pairCtrlPut v) [R.PAIR_CTRL] := by
  have hbits := State.regsOnly_trans (State.regsOnly_trans (s.regsOnly_put (x := F.PAIR_CTRL_EN) (l := [R.PAIR_CTRL]) (bitsOf v 31 31) (by decide))
    (State.regsOnly_put _ (x := F.PAIR_CTRL_CKPT_FULL) (bitsOf v 29 29) (by decide)))
    (State.regsOnly_put _ (x := F.PAIR_CTRL_COLD_TAKE) (bitsOf v 28 28) (by decide))
  unfold State.pairCtrlPut
  dsimp only
  split
  · exact State.regsOnly_trans hbits (State.regsOnly_put _ _ (by decide))
  · exact hbits

theorem State.f_pairCtrlPut : (s.pairCtrlPut v).f F.PAIR_CTRL_EN = bitsOf v 31 31 ∧
    (s.pairCtrlPut v).f F.PAIR_CTRL_CKPT_FULL = bitsOf v 29 29 ∧ (s.pairCtrlPut v).f F.PAIR_CTRL_COLD_TAKE = bitsOf v 28 28 ∧
    (s.pairCtrlPut v).f F.PAIR_CTRL_MODE = if s.mode = .stop then bitsOf v 30 30 else s.f F.PAIR_CTRL_MODE := by
  generalize hu : ((s.put F.PAIR_CTRL_EN (bitsOf v 31 31)).put F.PAIR_CTRL_CKPT_FULL (bitsOf v 29 29)).put F.PAIR_CTRL_COLD_TAKE (bitsOf v 28 28) = u
  have hen : u.f F.PAIR_CTRL_EN = bitsOf v 31 31 := by
    rw [← hu, State.f_put_apart _ _ (by decide) (by decide), State.f_put_apart _ _ (by decide) (by decide)]
    exact State.f_put_bit _ rfl (by decide) (bitsOf_bit_lt v 31)
  have hfull : u.f F.PAIR_CTRL_CKPT_FULL = bitsOf v 29 29 := by
    rw [← hu, State.f_put_apart _ _ (by decide) (by decide)]
    exact State.f_put_bit _ rfl (by decide) (bitsOf_bit_lt v 29)
  have hcold : u.f F.PAIR_CTRL_COLD_TAKE = bitsOf v 28 28 := by
    rw [← hu]
    exact State.f_put_bit _ rfl (by decide) (bitsOf_bit_lt v 28)
  have hmirror : u.f F.PAIR_CTRL_MODE = s.f F.PAIR_CTRL_MODE := by
    rw [← hu, State.f_put_apart _ _ (by decide) (by decide), State.f_put_apart _ _ (by decide) (by decide), State.f_put_apart _ _ (by decide) (by decide)]
  have hmode : u.mode = s.mode := by
    rw [← hu]
    exact State.mode_congr ((State.reg_put_other _ _ _ _ (by decide)).trans ((State.reg_put_other _ _ _ _ (by decide)).trans
      (State.reg_put_other _ _ _ _ (by decide))))
  have hput : s.pairCtrlPut v = if s.mode = .stop then u.put F.PAIR_CTRL_MODE (bitsOf v 30 30) else u := by
    rw [State.pairCtrlPut, hu, hmode]
  rw [hput]
  split
  · refine ⟨?_, ?_, ?_, State.f_put_bit _ rfl (by decide) (bitsOf_bit_lt v 30)⟩
    · rw [State.f_put_apart _ _ (by decide) (by decide), hen]
    · rw [State.f_put_apart _ _ (by decide) (by decide), hfull]
    · rw [State.f_put_apart _ _ (by decide) (by decide), hcold]
  · exact ⟨hen, hfull, hcold, hmirror⟩

/-- PAIR_CTRL is written, and a full checkpoint is due. -/
def State.resynced (s : State) (v : Word) : State := { s.pairCtrlPut v with pair := { s.pair with fullDue := true } }

variable {v}

theorem State.pairCtrlWrite_resync (hen : bitsOf v 31 31 = 1) (hre : bitsOf v 27 27 = 1) : s.pairCtrlWrite v = (s.resynced v).refreshRole := by
  have hpair : (s.pairCtrlPut v).pair = s.pair := State.regsOnly_pair (s.regsOnly_pairCtrlPut v)
  have hkeep : bitsOf v 31 31 ≠ 0 := by rw [hen]; decide
  have hwrite : s.pairCtrlWrite v = (if bitsOf v 27 27 = 1 then (if bitsOf v 31 31 = 0 then
      ({ s.pairCtrlPut v with pair := { (s.pairCtrlPut v).pair with paired := false } } : State) else s.pairCtrlPut v).dueFull else
      (if bitsOf v 31 31 = 0 then ({ s.pairCtrlPut v with pair := { (s.pairCtrlPut v).pair with paired := false } } : State) else
        s.pairCtrlPut v)).refreshRole := rfl
  rw [hwrite, if_pos hre, if_neg hkeep, State.dueFull, hpair]
  rfl

theorem State.pairCtrlWrite_resync_spec (hen : bitsOf v 31 31 = 1) (hre : bitsOf v 27 27 = 1) :
    (s.pairCtrlWrite v).pair = { s.pair with fullDue := true } ∧ (s.pairCtrlWrite v).f F.PAIR_CTRL_EN = 1 ∧
    (s.pairCtrlWrite v).f F.PAIR_CTRL_CKPT_FULL = bitsOf v 29 29 ∧ (s.pairCtrlWrite v).f F.PAIR_CTRL_COLD_TAKE = bitsOf v 28 28 ∧
    (s.pairCtrlWrite v).f F.PAIR_CTRL_MODE = (if s.mode = .stop then bitsOf v 30 30 else s.f F.PAIR_CTRL_MODE) ∧
    ({ s with pair := (s.pairCtrlWrite v).pair, gnss := (s.pairCtrlWrite v).gnss } : State).regsOnly (s.pairCtrlWrite v)
      [R.PAIR_CTRL, R.PAIR_STATUS] := by
  obtain ⟨hEn, hFull, hCold, hMode⟩ := s.f_pairCtrlPut v
  have hctrl (x : Fld) (hx : x.addr = R.PAIR_CTRL) : (s.resynced v).refreshRole.f x = (s.pairCtrlPut v).f x :=
    (State.f_refreshRole _ (.inl (by rw [hx]; decide))).trans (State.f_withPair _ _ _)
  have hframe : ({ s with pair := { s.pair with fullDue := true } } : State).regsOnly (s.resynced v) [R.PAIR_CTRL, R.PAIR_STATUS] :=
    ((s.regsOnly_pairCtrlPut v).mono (by decide)).withPair _
  rw [s.pairCtrlWrite_resync hen hre]
  refine ⟨rfl, ?_, ?_, ?_, ?_, State.gnssOnly.besidePair (State.gnssOnly_refreshRole hframe (by decide))⟩
  · rw [hctrl _ rfl, hEn, hen]
  · rw [hctrl _ rfl, hFull]
  · rw [hctrl _ rfl, hCold]
  · rw [hctrl _ rfl, hMode]

end

end Sys2Proof.Machine
end

section
/-!
The settlement of O44: what each command of the pair link does (R298 to R301, R304, R305, R312, R315, R318).
-/
namespace Sys2Proof.Machine

section
variable {s : State}

/-- A frame of any kind that fails its CRC is counted and does nothing else. -/
theorem exec_badFrames (hd : s.dark = false) (h : Hello) (w : Dword) (o : Int) (v : Dwords) :
    exec (.helloFrame h false) s = .next (s.linkFrame.count F.PAIR_LINK_CRC_ERR) ∧
    exec (.healthWord w o false) s = .next (s.linkFrame.count F.PAIR_LINK_CRC_ERR) ∧
    exec (.mirrorFrame v false) s = .next (s.linkFrame.count F.PAIR_LINK_CRC_ERR) ∧
    exec (.refreshRequest false) s = .next (s.linkFrame.count F.PAIR_LINK_CRC_ERR) :=
  ⟨congrArg _ (State.frameIn_bad hd _), congrArg _ (State.frameIn_bad hd _), congrArg _ (State.frameIn_bad hd _), congrArg _ (State.frameIn_bad hd _)⟩

/-- A dark module takes no frame of any kind. -/
theorem exec_darkFrames (hd : s.dark = true) (ok : Bool) (h : Hello) (w : Dword) (o : Int) (v : Dwords) :
    exec (.helloFrame h ok) s = .next s ∧ exec (.healthWord w o ok) s = .next s ∧ exec (.mirrorFrame v ok) s = .next s ∧
    exec (.refreshRequest ok) s = .next s :=
  ⟨congrArg _ (State.frameIn_dark hd _ _), congrArg _ (State.frameIn_dark hd _ _), congrArg _ (State.frameIn_dark hd _ _),
    congrArg _ (State.frameIn_dark hd _ _)⟩

theorem exec_mirrorFrame (hd : s.dark = false) (vals : Dwords) : exec (.mirrorFrame vals true) s =
    .next { s.linkFrame with pair := { s.pair with frameTick := some s.tickNo, mirror := vals.map (·.toNat), mirrorTick := some s.tickNo } } := by
  refine congrArg _ ((State.frameIn_good hd _).trans ?_)
  rw [s.tickNo_linkFrame]
  rfl

theorem exec_refreshRequest (hd : s.dark = false) : exec (.refreshRequest true) s =
    .next { s.linkFrame with pair := { s.pair with frameTick := some s.tickNo, fullDue := true } } :=
  congrArg _ (State.frameIn_good hd _)

theorem State.health_spec (hd : s.dark = false) (w : Dword) (o : Int) : (s.health true w o).reg64 R.PAIR_PHEALTH_LO = w.toNat ∧
    (s.health true w o).f F.PAIR_STATUS_LINK_UP = 1 ∧ (s.health true w o).pair =
      { s.pair with frameTick := some s.tickNo, healthTick := some s.tickNo, timeOk := decide (o.natAbs ≤ 1000) } ∧
    (s.health true w o).mem = s.mem ∧ (s.inPair = false → ({ s with pair := (s.health true w o).pair } : State).regsOnly (s.health true w o)
        [R.PAIR_PHEALTH_LO, R.PAIR_PHEALTH_HI, R.PAIR_TIME, R.PAIR_STATUS]) := by
  have hword : s.health true w o = s.linkFrame.partnerWord w o := State.frameIn_good hd _
  have hup : s.linkFrame.f F.PAIR_STATUS_LINK_UP = 1 := (State.f_withPair _ _ _).trans (State.f_put_same _ _ _ (by decide) (by decide))
  obtain ⟨hreg, hlink, hpair, hmem⟩ := s.linkFrame.partnerWord_spec w o
  rw [hword]
  refine ⟨hreg, hlink.trans hup, ?_, hmem.trans rfl, fun hp => ?_⟩
  · rw [hpair, s.tickNo_linkFrame]
    rfl
  · have hout : s.linkFrame.inPair = false := by
      rw [State.inPair, State.b_congr F.PAIR_CTRL_EN (s.f_linkFrame (by decide))]
      exact hp
    have hframe : ({ s with pair := (s.linkFrame.partnerWord w o).pair } : State).regsOnly
        { s.linkFrame with pair := (s.linkFrame.partnerWord w o).pair } [R.PAIR_PHEALTH_LO, R.PAIR_PHEALTH_HI, R.PAIR_TIME, R.PAIR_STATUS] :=
      (s.regsOnly_linkFrame.mono (by decide)).withPair _
    exact State.regsOnly_trans hframe (State.regsOnly_partnerWord w o hout)

/-- A hello frame without a reason to refuse it pairs the modules. -/
theorem State.hello_pairs (h : Hello) (hd : s.dark = false) (hen : s.f F.PAIR_CTRL_EN = 1) (hp : s.pair.paired = false) (hr : s.helloReason h = 0) :
    s.hello true h = s.linkFrame.pairWith h :=
  (s.hello_taken h hd hen hp).trans (if_neg (not_not.mpr hr))

theorem State.aligns_false (h : s.f F.PAIR_STATUS_CLAIM = 1 ∨ s.mode ≠ .stop) : s.aligns = false := by
  refine Bool.eq_false_iff.mpr fun ha => ?_
  obtain ⟨hclaim, -, hstop⟩ := s.aligns_iff.mp ha
  rcases h with h | h
  · rw [hclaim] at h
    cases h
  · exact h hstop

/-- What a hello frame that pairs leaves (R300). -/
theorem State.pairWith_spec (h : Hello) (hen : s.f F.PAIR_CTRL_EN = 1) :
    (s.linkFrame.pairWith h).pair.paired = true ∧ (s.linkFrame.pairWith h).pair.fullDue = true ∧
    ((s.linkFrame.pairWith h).pair.refreshHold = true ↔ s.f F.PAIR_STATUS_CLAIM = 0) ∧
    (s.f F.PAIR_STATUS_CLAIM = 1 ∨ s.mode ≠ .stop → (s.linkFrame.pairWith h).pair.align = none) ∧
    (s.f F.PAIR_STATUS_CLAIM = 0 → s.mode = .stop → s.f F.PAIR_STATUS_ECL_IN = 1 ∨ s.f F.PAIR_STATUS_POS = 1 →
      (s.linkFrame.pairWith h).pair.align = some (s.partnerAhead h)) ∧
    (s.mode = .run → s.pair.filtered = false → (s.linkFrame.pairWith h).f F.PAIR_STATUS_CLAIM = 1) ∧
    (s.mode ≠ .run ∨ s.pair.filtered = true → (s.linkFrame.pairWith h).f F.PAIR_STATUS_CLAIM = s.f F.PAIR_STATUS_CLAIM ∧
      (s.linkFrame.pairWith h).f F.PAIR_STATUS_ROLE = (if s.f F.PAIR_STATUS_CLAIM = 1 then 1 else if s.mode = .run then 3 else 2) ∧
      ({ s with pair := (s.linkFrame.pairWith h).pair, gnss := (s.linkFrame.pairWith h).gnss } : State).regsOnly (s.linkFrame.pairWith h)
        [R.PAIR_STATUS]) := by
  obtain ⟨hpaired, hfull, hhold, halign⟩ := s.pair_joins h
  have henLink : s.linkFrame.f F.PAIR_CTRL_EN = 1 := (s.f_linkFrame (by decide)).trans hen
  refine ⟨hpaired, hfull, ?_, fun hs => ?_, fun hc hstop hin => ?_, fun hrun hlow => ?_, fun hu => ?_⟩
  · rw [hhold, Bool.not_eq_true', s.b_eq_false_iff]
  · rw [halign, State.aligns_false hs]
    rfl
  · rw [halign, if_pos (s.aligns_iff.mpr ⟨hc, hin, hstop⟩)]
  · exact State.claim_pairWith h henLink (s.mode_linkFrame.trans hrun) hlow
  · rw [State.pairWith_unclaimed h henLink (hu.imp_left fun hm => s.mode_linkFrame ▸ hm)]
    exact s.hello_unclaimed h

end

/-- Each command of the link answers a next state. -/
theorem link_answers (s : State) :
    (∀ (h : Hello) (crcOk : Bool), exec (.helloFrame h crcOk) s = .next (s.hello crcOk h)) ∧
    (∃ t, exec .linkTrainingTimeout s = .next t) ∧
    (∀ (w : Dword) (offset : Int) (crcOk : Bool), exec (.healthWord w offset crcOk) s = .next (s.health crcOk w offset)) ∧
    (exec .linkLost s = .next s.linkLost) ∧
    (∀ (m : Master) (v : Word), exec (.resync m v) s = .next (s.pairCtrlWrite (withBits v 27 27 1))) ∧
    (∀ (crcOk : Bool), exec (.refreshRequest crcOk) s = .next (s.frameIn crcOk State.dueFull)) ∧
    (∀ (vals : Dwords) (crcOk : Bool), ∃ t, exec (.mirrorFrame vals crcOk) s = .next t) ∧
    (∀ (passes : Lanes8), exec (.laneSelfTest passes) s = .next (s.laneTest passes)) ∧
    (∀ (lanes : Lanes), ∃ t, exec (.linkTrained lanes) s = .next t) :=
  ⟨fun _ _ => rfl, exec_answers _ s, fun _ _ _ => rfl, rfl, fun _ _ => rfl, fun _ => rfl, fun _ _ => exec_answers _ s, fun _ => rfl,
    fun _ => exec_answers _ s⟩

/-- Settles O44, by what each frame and each command of the link leaves. -/
theorem pairingAndLink : Obligations.PairingAndLink := by
  unfold Obligations.PairingAndLink
  refine ⟨fun s => ⟨fun lanes => ?trained, fun hd h w o v => exec_badFrames hd h w o v, fun hd ok h w o v => exec_darkFrames hd ok h w o v,
    fun h hd hi => congrArg _ (s.hello_ignored h hd hi), fun h hd hen hp => ?hello, fun hen hp hl => ?timeout,
    fun hi => execLinkTrainingTimeout_idle hi, fun w o hd => ⟨_, rfl, State.health_spec hd w o⟩, fun hi => congrArg _ (State.linkLost_idle hi),
    fun hup ht hf => ?lost, fun vals hd => exec_mirrorFrame hd vals,
    fun hs ok => congrArg _ (State.laneTest_idle ok hs), fun hs ok => ⟨_, rfl, State.laneTest_spec ok hs⟩, fun hd => exec_refreshRequest hd,
    fun m v hen => ?resync⟩, link_answers⟩
  case trained =>
    obtain ⟨hlanes, hup, hregs⟩ := s.trained_spec lanes
    exact ⟨s.trained lanes, rfl, hlanes, rfl, hup, hregs⟩
  case hello =>
    dsimp only
    rw [← s.helloReason_eq h]
    refine ⟨fun hr => ⟨_, rfl, s.hello_refused h hd hen hp hr⟩, fun hr => ⟨_, rfl, ?_⟩⟩
    have hspec := State.pairWith_spec h hen
    rw [← State.hello_pairs h hd hen hp hr] at hspec
    exact hspec
  case timeout =>
    obtain ⟨hset, hreason, -⟩ := s.f_pairRefuse (r := 5) (by decide)
    exact ⟨_, execLinkTrainingTimeout_refuses hen hp hl, hset, hreason, State.pairRefuse_unpaired hp 5⟩
  case lost =>
    have hspec := s.linkLost_spec
    rw [← State.linkLost_down hup ht hf] at hspec
    exact ⟨_, rfl, hspec⟩
  case resync =>
    have hkeep (i : Nat) (hi : i ≠ 27) : bitsOf (withBits v 27 27 1) i i = bitsOf v i i :=
      bitsOf_withBits_other _ _ _ _ _ _ le_rfl (by omega)
    have hre : bitsOf (withBits v 27 27 1) 27 27 = 1 := bitsOf_withBits_same _ _ _ _ le_rfl (by decide)
    have hspec := s.pairCtrlWrite_resync_spec ((hkeep 31 (by decide)).trans hen) hre
    rw [hkeep 28 (by decide), hkeep 29 (by decide), hkeep 30 (by decide)] at hspec
    exact ⟨_, rfl, hspec⟩

end Sys2Proof.Machine
end

section
/-!
Edges of ECL_IN, test pulses and dual claims: what O43 says of them (R291, R292, R293, R295, R297).
-/
namespace Sys2Proof.Machine

/-! ## Frames beside the pair's state and the outputs -/

theorem State.logAnd.withPair {s t : State} {l : List Nat} (h : s.logAnd t l) (p : PairSt) :
    ({ s with pair := p } : State).logAnd { t with pair := p } l :=
  ⟨congrArg (fun u : State => ({ u with pair := p } : State)) h.1, h.2⟩

theorem State.logAnd.withOut {s t : State} {l : List Nat} (h : s.logAnd t l) (o : OutSt) :
    ({ s with out := o } : State).logAnd { t with out := o } l :=
  ⟨congrArg (fun u : State => ({ u with out := o } : State)) h.1, h.2⟩

/-! ## What PAIR_STATUS alone leaves -/

section
variable {s t : State} (h : s.regsOnly t [R.PAIR_STATUS])
include h

theorem State.mono_of_status : t.mono = s.mono := State.mono_congr (State.regsOnly_time h)

theorem State.tickNo_of_status : t.tickNo = s.tickNo := State.tickNo_congr (h.2 _ (by decide)) (h.2 _ (by decide))

theorem State.periodUs_of_status : t.periodUs = s.periodUs := by
  rw [State.periodUs, State.periodUs, State.periodMs, State.periodMs, State.f_congr F.TICK_PERIOD_SEL (h.2 _ (by decide))]

theorem State.cycles_of_status : t.tick.cycles = s.tick.cycles := by
  have e := congrArg (fun u : State => u.tick.cycles) h.1; exact e

end

/-! ## A fall of ECL_IN (R291, R293) -/

/-- ECL_IN is low, and ownership follows the claim. -/
def State.inputLow (s : State) : State := (s.put F.PAIR_STATUS_ECL_IN 0).putb F.PAIR_STATUS_OWNED (s.put F.PAIR_STATUS_ECL_IN 0).owns

section
variable (s : State)

theorem State.regsOnly_inputLow : s.regsOnly s.inputLow [R.PAIR_STATUS] :=
  State.regsOnly_trans (State.regsOnly_put _ _ (by decide)) (State.regsOnly_put _ _ (by decide))

theorem State.f_inputLow : s.inputLow.f F.PAIR_STATUS_ECL_IN = 0 ∧ s.inputLow.f F.PAIR_STATUS_OWNED = s.f F.PAIR_STATUS_CLAIM := by
  have hin : (s.put F.PAIR_STATUS_ECL_IN 0).f F.PAIR_STATUS_ECL_IN = 0 := s.f_put_bit rfl (by decide) (by decide)
  have howns : (s.put F.PAIR_STATUS_ECL_IN 0).owns = s.b F.PAIR_STATUS_CLAIM := by
    rw [State.owns, (State.b_eq_false_iff _ _).mpr hin, State.b_congr F.PAIR_STATUS_CLAIM (s.f_put_apart _ (by decide) (by decide)),
      Bool.not_false, Bool.and_true]
  unfold State.inputLow
  refine ⟨?_, ?_⟩
  · rw [State.f_putb_apart _ _ (by decide) (by decide), hin]
  · rw [State.f_putb_same _ _ rfl (by decide), howns, ← State.f_eq_b2n _ rfl]

theorem State.eclFall_eq : s.eclFall = { s.inputLow with pair := { s.pair with fall := some (s.mono, s.tickNo, s.beforeEdge (8 * s.periodUs / 10)) } } := by
  have h := s.regsOnly_inputLow
  have heq : s.eclFall = { s.inputLow with pair := { s.inputLow.pair with
      fall := some (s.inputLow.mono, s.inputLow.tickNo, s.inputLow.beforeEdge (8 * s.inputLow.periodUs / 10)) } } := rfl
  rw [heq, State.beforeEdge, State.mono_of_status h, State.tickNo_of_status h, State.periodUs_of_status h, State.cycles_of_status h,
    State.regsOnly_pair h]
  rfl

theorem State.eclFall_spec : s.eclFall.f F.PAIR_STATUS_ECL_IN = 0 ∧ s.eclFall.f F.PAIR_STATUS_OWNED = s.f F.PAIR_STATUS_CLAIM ∧
    s.eclFall.pair = { s.pair with fall := some ((s.base 0).total, s.tickNo, s.beforeEdge (8 * s.periodUs / 10)) } ∧
    ({ s with pair := s.eclFall.pair } : State).regsOnly s.eclFall [R.PAIR_STATUS] := by
  obtain ⟨hin, howned⟩ := s.f_inputLow
  rw [s.eclFall_eq]
  exact ⟨(State.f_withPair _ _ _).trans hin, (State.f_withPair _ _ _).trans howned, rfl, s.regsOnly_inputLow.withPair _⟩

end

/-! ## A rise of ECL_IN, and the pulse that it ends (R292, R297) -/

section
variable (s : State)

/-- The count of wrong pulses in a row rises, and the second one clears ECL_OK. -/
theorem State.missPulse_eq : s.missPulse = if min 3 (s.pair.wrongPulse + 1) = 2 then
    ({ s with pair := { s.pair with wrongPulse := min 3 (s.pair.wrongPulse + 1), pulseSeen := true, eclOk := false } } : State).event 0x0D04 []
    else { s with pair := { s.pair with wrongPulse := min 3 (s.pair.wrongPulse + 1), pulseSeen := true } } := rfl

theorem State.missPulse_spec : s.missPulse.pair.wrongPulse = min 3 (s.pair.wrongPulse + 1) ∧ s.missPulse.pair.pulseSeen = true ∧
    s.missPulse.pair.eclOk = (s.pair.eclOk && decide (s.missPulse.pair.wrongPulse ≠ 2)) ∧ s.missPulse.pair.filtered = s.pair.filtered ∧
    ({ s with pair := s.missPulse.pair } : State).logFrame s.missPulse := by
  rw [State.missPulse_eq]
  by_cases h : min 3 (s.pair.wrongPulse + 1) = 2
  · rw [if_pos h]
    have hlog := ({ s with pair := { s.pair with wrongPulse := min 3 (s.pair.wrongPulse + 1), pulseSeen := true, eclOk := false } } : State).logFrame_event 0x0D04 []
    have hpair := State.logFrame_pair hlog
    rw [hpair]
    refine ⟨rfl, rfl, ?_, rfl, hlog⟩
    rw [h]
    exact (Bool.and_false _).symm
  · rw [if_neg h]
    exact ⟨rfl, rfl, by rw [decide_eq_true h, Bool.and_true], rfl, State.logFrame_refl _⟩

/-- A pulse of the right width. -/
def State.rightPulse (s : State) (w : Nat) : Prop := s.testWidth * usUnits ≤ w + 2 * usUnits ∧ w ≤ (s.testWidth + 2) * usUnits

/-- A pulse that began at the fall f, as the rise judges it. -/
theorem State.judgePulse_some {f : Nat × Nat × Bool} (hf : s.pair.fall = some f) :
    (s.rightPulse (s.mono - f.1) → s.judgePulse = { s with pair := { s.pair with eclOk := true, wrongPulse := 0, pulseSeen := true } }) ∧
    (¬s.rightPulse (s.mono - f.1) → s.judgePulse = if s.pulseExpected then s.missPulse else s) := by
  unfold State.judgePulse
  rw [hf]
  exact ⟨fun h => if_pos h, fun h => if_neg h⟩

theorem State.judgePulse_none (hf : s.pair.fall = none) : s.judgePulse = s := by
  unfold State.judgePulse
  rw [hf]

theorem State.judgePulse_frame : ({ s with pair := s.judgePulse.pair } : State).logFrame s.judgePulse ∧ s.judgePulse.pair.filtered = s.pair.filtered := by
  cases hf : s.pair.fall with
  | none =>
    rw [s.judgePulse_none hf]
    exact ⟨State.logFrame_refl _, rfl⟩
  | some f =>
    obtain ⟨hright, hwrong⟩ := s.judgePulse_some hf
    by_cases h : s.rightPulse (s.mono - f.1)
    · rw [hright h]
      exact ⟨State.logFrame_refl _, rfl⟩
    · rw [hwrong h]
      obtain ⟨-, -, -, hfiltered, hframe⟩ := s.missPulse_spec
      split
      · exact ⟨hframe, hfiltered⟩
      · exact ⟨State.logFrame_refl _, rfl⟩

/-- A paired module without the claim judges the pulse that ends. -/
def State.pulseJudged (s : State) : State := if s.inPair && !s.b F.PAIR_STATUS_CLAIM then s.judgePulse else s

theorem State.pulseJudged_frame : ({ s with pair := s.pulseJudged.pair } : State).logFrame s.pulseJudged ∧ s.pulseJudged.pair.filtered = s.pair.filtered := by
  unfold State.pulseJudged
  split
  · exact s.judgePulse_frame
  · exact ⟨State.logFrame_refl _, rfl⟩

/-- ECL_IN is high, ownership is lost, and every command pin is released. -/
def State.inputHigh (s : State) : State := ((s.put F.PAIR_STATUS_ECL_IN 1).put F.PAIR_STATUS_OWNED 0).releasePins

theorem State.regsOnly_inputHigh : ({ s with out := s.inputHigh.out } : State).regsOnly s.inputHigh [R.PAIR_STATUS, R.LOOP_STATUS] := by
  have hput : s.regsOnly (((s.put F.PAIR_STATUS_ECL_IN 1).put F.PAIR_STATUS_OWNED 0).put F.LOOP_STATUS_OWNED 0) [R.PAIR_STATUS, R.LOOP_STATUS] :=
    State.regsOnly_trans (State.regsOnly_trans (State.regsOnly_put _ _ (by decide)) (State.regsOnly_put _ _ (by decide))) (State.regsOnly_put _ _ (by decide))
  exact ⟨congrArg (fun u : State => ({ u with out := s.inputHigh.out } : State)) hput.1, hput.2⟩

theorem State.f_inputHigh : s.inputHigh.f F.PAIR_STATUS_ECL_IN = 1 ∧ s.inputHigh.f F.PAIR_STATUS_OWNED = 0 ∧ s.inputHigh.f F.LOOP_STATUS_OWNED = 0 := by
  unfold State.inputHigh
  refine ⟨?_, ?_, ?_⟩
  · rw [State.f_releasePins _ (by decide), State.f_put_apart _ _ (by decide) (by decide), State.f_put_bit _ rfl (by decide) (by decide)]
  · rw [State.f_releasePins _ (by decide), State.f_put_bit _ rfl (by decide) (by decide)]
  · rw [State.releasePins, State.f_withOut, State.f_put_bit _ rfl (by decide) (by decide)]

theorem State.eclRise_eq : s.eclRise = { s.pulseJudged.inputHigh with pair := { s.pulseJudged.pair with fall := none, rise := s.mono } } := by
  have htime := State.logFrame_time s.pulseJudged_frame.1
  have hmono : ((s.pulseJudged.put F.PAIR_STATUS_ECL_IN 1).put F.PAIR_STATUS_OWNED 0).mono = s.mono := State.mono_congr htime
  rw [← hmono]
  rfl

theorem State.eclRise_spec : s.eclRise.f F.PAIR_STATUS_ECL_IN = 1 ∧ s.eclRise.f F.PAIR_STATUS_OWNED = 0 ∧ s.eclRise.f F.LOOP_STATUS_OWNED = 0 ∧
    s.eclRise.out.driven = [] ∧ s.eclRise.pair.filtered = s.pair.filtered ∧ s.eclRise.pair.fall = none ∧ s.eclRise.pair.rise = (s.base 0).total ∧
    ({ s with pair := s.eclRise.pair, out := s.eclRise.out } : State).logAnd s.eclRise [R.PAIR_STATUS, R.LOOP_STATUS] := by
  obtain ⟨hin, howned, hpins⟩ := s.pulseJudged.f_inputHigh
  obtain ⟨hframe, hfiltered⟩ := s.pulseJudged_frame
  rw [s.eclRise_eq]
  refine ⟨(State.f_withPair _ _ _).trans hin, (State.f_withPair _ _ _).trans howned, (State.f_withPair _ _ _).trans hpins, rfl, hfiltered, rfl, rfl, ?_⟩
  have hjudged : ({ s with pair := s.eclRise.pair, out := s.eclRise.out } : State).logAnd
      { s.pulseJudged with pair := s.eclRise.pair, out := s.eclRise.out } [R.PAIR_STATUS, R.LOOP_STATUS] :=
    ((State.logAnd_of_logFrame _ hframe).withPair s.eclRise.pair).withOut s.eclRise.out
  have hhigh : ({ s.pulseJudged with pair := s.eclRise.pair, out := s.eclRise.out } : State).regsOnly
      { s.pulseJudged.inputHigh with pair := s.eclRise.pair } [R.PAIR_STATUS, R.LOOP_STATUS] :=
    s.pulseJudged.regsOnly_inputHigh.withPair s.eclRise.pair
  rw [s.eclRise_eq] at hjudged hhigh
  exact State.logAnd_trans hjudged (State.logAnd_of_regsOnly hhigh (State.logFrame_refl _))

end

end Sys2Proof.Machine
end

section
/-!
Pulses that a rise ends, the filtered level, dual claims and the module's own test pulses: what O43 says of them (R293, R295, R297).
-/
namespace Sys2Proof.Machine

/-! ## The pulse that a rise ends (R297) -/

section
variable {s : State}

theorem State.pulseJudged_idle (h : s.inPair = false ∨ s.f F.PAIR_STATUS_CLAIM = 1 ∨ s.pair.fall = none) : s.pulseJudged = s := by
  by_cases hf : s.pair.fall = none
  · rw [State.pulseJudged, s.judgePulse_none hf, ite_self]
  · refine if_neg fun hj => ?_
    obtain ⟨hp, hc⟩ := Bool.and_eq_true_iff.mp hj
    rw [Bool.not_eq_true', s.b_eq_false_iff] at hc
    rcases h with h | h | h
    · rw [hp] at h
      cases h
    · rw [hc] at h
      cases h
    · exact hf h

theorem State.pulseJudged_judges (hp : s.inPair = true) (hc : s.f F.PAIR_STATUS_CLAIM = 0) : s.pulseJudged = s.judgePulse :=
  if_pos (by rw [hp, (s.b_eq_false_iff _).mpr hc]; rfl)

theorem State.pair_eclRise (s : State) : s.eclRise.pair = { s.pulseJudged.pair with fall := none, rise := s.mono } := by
  rw [s.eclRise_eq]

/-- A pulse of the right width restores ECL_OK; a wrong one that was expected counts; any other changes nothing (R297). -/
theorem State.eclRise_judges {f : Nat × Nat × Bool} (hp : s.inPair = true) (hc : s.f F.PAIR_STATUS_CLAIM = 0) (hf : s.pair.fall = some f) :
    (s.rightPulse (s.mono - f.1) → s.eclRise.pair.eclOk = true ∧ s.eclRise.pair.wrongPulse = 0) ∧
    (¬s.rightPulse (s.mono - f.1) → s.pulseExpected = true → s.eclRise.pair.wrongPulse = min 3 (s.pair.wrongPulse + 1) ∧
      s.eclRise.pair.eclOk = (s.pair.eclOk && decide (s.eclRise.pair.wrongPulse ≠ 2))) ∧
    (¬s.rightPulse (s.mono - f.1) → s.pulseExpected = false → s.eclRise.pair.wrongPulse = s.pair.wrongPulse ∧
      s.eclRise.pair.eclOk = s.pair.eclOk) := by
  obtain ⟨hright, hwrong⟩ := s.judgePulse_some hf
  rw [State.pair_eclRise, State.pulseJudged_judges hp hc]
  refine ⟨fun h => ?_, fun h he => ?_, fun h he => ?_⟩
  · rw [hright h]
    exact ⟨rfl, rfl⟩
  · obtain ⟨hcount, -, hok, -, -⟩ := s.missPulse_spec
    rw [hwrong h, if_pos he]
    exact ⟨hcount, hok⟩
  · rw [hwrong h, he]
    exact ⟨rfl, rfl⟩

end

/-! ## Dual claims (R295) -/

/-- A dual claim shows, and unit B withdraws its claim. -/
theorem State.dualClaim_spec {s : State} (hc : s.f F.PAIR_STATUS_CLAIM = 1) (hf : s.pair.filtered = true) :
    s.dualClaim.f F.PAIR_STATUS_DUAL = 1 ∧ s.dualClaim.f F.PAIR_STATUS_CLAIM = 1 - s.f F.PAIR_STATUS_POS ∧
    (s.f F.PAIR_STATUS_POS = 1 → s.dualClaim.f F.PAIR_STATUS_ECL_OUT = 0 ∧ s.dualClaim.f F.PAIR_STATUS_OWNED = 0 ∧
      s.dualClaim.f F.LOOP_STATUS_OWNED = 0 ∧ s.dualClaim.out.driven = []) ∧
    ∀ r, logReg r = false → r ≠ R.PAIR_STATUS → r ≠ R.LOOP_STATUS → s.dualClaim.reg r = s.reg r := by
  have hlog := s.logFrame_dualNoted
  have hdual : s.dualNoted.f F.PAIR_STATUS_DUAL = 1 := (State.logFrame_f hlog _ rfl).trans (s.f_put_bit rfl (by decide) (by decide))
  have hpos : s.dualNoted.f F.PAIR_STATUS_POS = s.f F.PAIR_STATUS_POS := (State.logFrame_f hlog _ rfl).trans (s.f_put_apart _ (by decide) (by decide))
  have hclaim : s.dualNoted.f F.PAIR_STATUS_CLAIM = 1 := (State.logFrame_f hlog _ rfl).trans ((s.f_put_apart _ (by decide) (by decide)).trans hc)
  have hreg (r : Nat) (hr : logReg r = false) (hs : r ≠ R.PAIR_STATUS) : s.dualNoted.reg r = s.reg r :=
    (hlog.2.1 r hr).trans (s.reg_put_other _ _ _ hs)
  have heq : s.dualClaim = if s.dualNoted.b F.PAIR_STATUS_POS then s.dualNoted.setClaim false else s.dualNoted := by
    rw [State.dualClaim_eq, (s.b_eq_true_iff rfl).mpr hc, hf]
    rfl
  rw [heq]
  rcases s.f_eq_zero_or_one (x := F.PAIR_STATUS_POS) rfl with h0 | h1
  · rw [(State.b_eq_false_iff _ _).mpr (hpos.trans h0), if_neg Bool.false_ne_true, h0]
    exact ⟨hdual, hclaim, fun h => absurd h Nat.zero_ne_one, fun r hr hs _ => hreg r hr hs⟩
  · rw [(State.b_eq_true_iff (x := F.PAIR_STATUS_POS) _ rfl).mpr (hpos.trans h1), if_pos rfl, h1]
    obtain ⟨hc0, hout, howned⟩ := s.dualNoted.claim_setClaim false
    obtain ⟨hpins, hdriven⟩ := s.dualNoted.pins_setClaim_false
    have hdual' : (s.dualNoted.setClaim false).f F.PAIR_STATUS_DUAL = 1 :=
      (State.f_setClaim _ _ (by decide) (by decide)).trans ((State.f_claimShown_apart _ _ (by decide)).trans hdual)
    exact ⟨hdual', hc0, fun _ => ⟨hout, howned, hpins, hdriven⟩, fun r hr hs hl => (State.reg_setClaim _ _ hs hl).trans (hreg r hr hs)⟩

/-! ## The filtered level (R293) -/

/-- The filtered level is high. -/
def State.filteredHigh (s : State) : State := { s with pair := { s.pair with filtered := true } }

/-- The filtered level is low. -/
def State.filteredLow (s : State) : State := { s with pair := { s.pair with filtered := false } }

/-- When a fall that stands makes the filtered level low. -/
def State.lowAt (s : State) : Nat :=
  match s.pair.fall with
  | some f => f.1 + s.claimFilt * usUnits
  | none => 0

section
variable {s u : State}

theorem State.eclHigh_idle (h : s.f F.PAIR_STATUS_ECL_IN = 0 ∨ s.pair.filtered = true) : s.eclHigh = s := by
  refine if_pos (Bool.or_eq_true_iff.mpr (h.imp_left fun hin => ?_))
  rw [(s.b_eq_false_iff _).mpr hin, Bool.not_false]

theorem State.eclHigh_eq (hin : s.f F.PAIR_STATUS_ECL_IN = 1) (hf : s.pair.filtered = false) :
    s.eclHigh = s.whenDue (s.cyclesTo 0 (s.pair.rise + s.claimFilt * usUnits)) fun u => u.filteredHigh.dualClaim := by
  unfold State.eclHigh
  rw [(s.b_eq_true_iff (x := F.PAIR_STATUS_ECL_IN) rfl).mpr hin, hf, if_neg (by decide)]
  rfl

theorem State.eclLow_idle (h : s.f F.PAIR_STATUS_ECL_IN = 1 ∨ s.pair.filtered = false) : s.eclLow = s := by
  refine if_pos (Bool.or_eq_true_iff.mpr (h.imp (s.b_eq_true_iff rfl).mpr fun hf => ?_))
  rw [hf, Bool.not_false]

theorem State.eclLow_eq (hin : s.f F.PAIR_STATUS_ECL_IN = 0) (hf : s.pair.filtered = true) :
    s.eclLow = s.whenDue (s.cyclesTo 0 s.lowAt) State.lineLow := by
  unfold State.eclLow State.lowAt
  rw [(s.b_eq_false_iff F.PAIR_STATUS_ECL_IN).mpr hin, hf, if_neg (by decide)]
  cases s.pair.fall <;> rfl

end

/-! ## The module's own test pulses (R297) -/

section
variable {s : State}

theorem State.testAt (s : State) : 500 * (9 * s.periodUs / 10) = 450 * s.periodUs := by
  rw [State.periodUs]
  omega

theorem State.testPulse_idle (h : s.testDue = false ∨ s.owns = false ∨ s.pair.testEnd.isSome = true ∨ 450 * s.periodUs < s.tick.cycles) :
    s.testPulse = s := by
  refine if_neg fun ht => ?_
  rw [s.testAt] at ht
  simp only [Bool.and_eq_true, decide_eq_true_eq, Option.isNone_iff_eq_none] at ht
  obtain ⟨⟨⟨hdue, howns⟩, hend⟩, hcycles⟩ := ht
  rw [hdue, howns, hend] at h
  simp at h
  omega

/-- The line is low until the end of the pulse. -/
def State.pulsing (s : State) : State :=
  { s.put F.PAIR_STATUS_ECL_OUT 0 with pair := { s.pair with testEnd := some (s.mono + s.testWidth * usUnits) } }

theorem State.testPulse_pulses (hdue : s.testDue = true) (howns : s.owns = true) (hend : s.pair.testEnd = none) (hc : s.tick.cycles ≤ 450 * s.periodUs) :
    s.testPulse = (s.elapse (450 * s.periodUs - s.tick.cycles)).pulsing := by
  unfold State.testPulse
  dsimp only
  rw [s.testAt, hdue, howns, hend, decide_eq_true hc]
  rfl

theorem State.f_elapse (s : State) (n : Nat) {x : Fld} (ht : blockOf x.addr ≠ 10) (hp : x.addr ≠ R.TICK_PHASE) : (s.elapse n).f x = s.f x :=
  State.f_congr x (s.reg_elapse n ht hp)

theorem State.testWidth_elapse (s : State) (n : Nat) : (s.elapse n).testWidth = s.testWidth := by
  rw [State.testWidth, State.testWidth, State.claimFilt, State.claimFilt, s.f_elapse n (by decide) (by decide), s.f_elapse n (by decide) (by decide)]

theorem State.pulsing_spec (howns : s.owns = true) (n : Nat) : (s.elapse n).pulsing.f F.PAIR_STATUS_ECL_OUT = 0 ∧
    (s.elapse n).pulsing.f F.PAIR_STATUS_CLAIM = 1 ∧
    (s.elapse n).pulsing.pair = { s.pair with testEnd := some (((s.elapse n).base 0).total + s.testWidth * usUnits) } ∧
    ({ s.elapse n with pair := (s.elapse n).pulsing.pair } : State).regsOnly (s.elapse n).pulsing [R.PAIR_STATUS] := by
  have hclaim : s.f F.PAIR_STATUS_CLAIM = 1 := (s.b_eq_true_iff rfl).mp (Bool.and_eq_true_iff.mp howns).1
  refine ⟨?_, ?_, ?_, ?_⟩
  · rw [State.pulsing, State.f_withPair, State.f_put_bit _ rfl (by decide) (by decide)]
  · rw [State.pulsing, State.f_withPair, State.f_put_apart _ _ (by decide) (by decide), s.f_elapse n (by decide) (by decide), hclaim]
  · rw [State.pulsing, s.testWidth_elapse, s.elapse_pair]
    rfl
  · have hput : (s.elapse n).regsOnly ((s.elapse n).put F.PAIR_STATUS_ECL_OUT 0) [R.PAIR_STATUS] := State.regsOnly_put _ _ (by decide)
    exact hput.withPair _

/-- The line follows the claim again. -/
def State.pulseEnded (s : State) : State :=
  { s.putb F.PAIR_STATUS_ECL_OUT (s.b F.PAIR_STATUS_CLAIM) with pair := { s.pair with testEnd := none } }

theorem State.testPulseEnd_none (h : s.pair.testEnd = none) : s.testPulseEnd = s := by
  unfold State.testPulseEnd
  rw [h]

theorem State.testPulseEnd_some {n : Nat} (h : s.pair.testEnd = some n) : s.testPulseEnd = s.whenDue (s.cyclesTo 0 n) State.pulseEnded := by
  unfold State.testPulseEnd
  rw [h]
  rfl

theorem State.pulseEnded_spec (s : State) : s.pulseEnded.f F.PAIR_STATUS_ECL_OUT = s.f F.PAIR_STATUS_CLAIM ∧
    s.pulseEnded.pair = { s.pair with testEnd := none } ∧ ({ s with pair := s.pulseEnded.pair } : State).regsOnly s.pulseEnded [R.PAIR_STATUS] := by
  have hput : s.regsOnly (s.putb F.PAIR_STATUS_ECL_OUT (s.b F.PAIR_STATUS_CLAIM)) [R.PAIR_STATUS] := State.regsOnly_put _ _ (by decide)
  refine ⟨?_, rfl, hput.withPair _⟩
  rw [State.pulseEnded, State.f_withPair, State.f_putb_same _ _ rfl (by decide), ← State.f_eq_b2n _ rfl]

/-- An expected pulse that has not come by the end of its tick counts. -/
theorem State.eclOkLost_counts (h : s.pulseExpected = true) : s.eclOkLost.pair.wrongPulse = min 3 (s.pair.wrongPulse + 1) ∧
    s.eclOkLost.pair.pulseSeen = true ∧ s.eclOkLost.pair.eclOk = (s.pair.eclOk && decide (s.eclOkLost.pair.wrongPulse ≠ 2)) := by
  have heq : s.eclOkLost = (s.elapse (500 * (9 * s.periodUs / 10 + s.testWidth + 2) - s.tick.cycles)).missPulse := if_pos h
  obtain ⟨hcount, hseen, hok, -, -⟩ := (s.elapse (500 * (9 * s.periodUs / 10 + s.testWidth + 2) - s.tick.cycles)).missPulse_spec
  rw [s.elapse_pair] at hcount hok
  rw [heq]
  exact ⟨hcount, hseen, hok⟩

theorem State.eclOkLost_idle (h : s.pulseExpected = false) : s.eclOkLost = s := if_neg (Bool.eq_false_iff.mp h)

/-- A mismatch of the line shows and is recorded. -/
def State.mismatchNoted (s : State) : State := (s.put F.PAIR_STATUS_ECL_MISMATCH 1).event 0x0D05 []

theorem State.mismatchNoted_spec (s : State) : s.mismatchNoted.f F.PAIR_STATUS_ECL_MISMATCH = 1 ∧ s.logAnd s.mismatchNoted [R.PAIR_STATUS] := by
  have hlog : (s.put F.PAIR_STATUS_ECL_MISMATCH 1).logFrame s.mismatchNoted := State.logFrame_event _ _ _
  exact ⟨(State.logFrame_f hlog _ rfl).trans (s.f_put_bit rfl (by decide) (by decide)), State.logAnd_of_put (x := F.PAIR_STATUS_ECL_MISMATCH) (by decide) hlog⟩

end

end Sys2Proof.Machine
end

section
/-!
Takeovers: what a restart keeps of PAIR_STATUS and of the program's state, and what O43 says of a line that becomes low (R294, R307, R308).
-/
namespace Sys2Proof.Machine

/-! ## What a restart keeps -/

/-- PAIR_STATUS and the program's state are kept. -/
def State.keepsStatus (s t : State) : Prop := t.reg R.PAIR_STATUS = s.reg R.PAIR_STATUS ∧ t.prg = s.prg

section
variable {s t u : State}

theorem State.keepsStatus_refl (s : State) : s.keepsStatus s := ⟨rfl, rfl⟩

theorem State.keepsStatus_trans (h : s.keepsStatus t) (h' : t.keepsStatus u) : s.keepsStatus u := ⟨h'.1.trans h.1, h'.2.trans h.2⟩

theorem State.keepsStatus_foldl {α : Type} (g : State → α → State) (l : List α) (s : State) (hg : ∀ (t : State), ∀ x ∈ l, t.keepsStatus (g t x)) :
    s.keepsStatus (l.foldl g s) :=
  List.foldlRecOn l g (motive := fun t => s.keepsStatus t) s.keepsStatus_refl fun t ht x hx => State.keepsStatus_trans ht (hg t x hx)

theorem State.keepsStatus_of_onlyMem (h : s.onlyMem t) : s.keepsStatus t :=
  ⟨State.reg_congr (State.onlyMem_regs h) _, State.onlyMem_prg h⟩

theorem State.onlyMem_foldl {α : Type} (g : State → α → State) (l : List α) (s : State) (hg : ∀ (t : State), ∀ x ∈ l, t.onlyMem (g t x)) :
    s.onlyMem (l.foldl g s) :=
  List.foldlRecOn l g (motive := fun t => s.onlyMem t) s.onlyMem_refl fun t ht x hx => State.onlyMem_trans ht (hg t x hx)

variable (s)

theorem State.keepsStatus_put {x : Fld} (v : Nat) (h : R.PAIR_STATUS ≠ x.addr) : s.keepsStatus (s.put x v) := ⟨s.reg_put_other _ _ _ h, rfl⟩

theorem State.keepsStatus_setReg {a : Nat} (v : Word) (h : R.PAIR_STATUS ≠ a) : s.keepsStatus (s.setReg a v) := ⟨s.reg_setReg_other _ _ _ h, rfl⟩

/-! Prism, Shadow and the outputs -/

theorem State.keepsStatus_estClear : s.keepsStatus s.estClear :=
  State.keepsStatus_trans (State.keepsStatus_trans (s.keepsStatus_put (x := F.PRISM_STATUS_POS_EST) 0 (by decide))
      (State.keepsStatus_put _ (x := F.PRISM_STATUS_POS_CNT) 0 (by decide)))
    (State.keepsStatus_trans (State.keepsStatus_put _ (x := F.PRISM_STATUS_HDG_EST) 0 (by decide))
      (State.keepsStatus_put _ (x := F.PRISM_STATUS_HDG_CNT) 0 (by decide)))

theorem State.keepsStatus_establishment (pc hc pe he : Nat) : s.keepsStatus
    ((((s.put F.PRISM_STATUS_POS_CNT pc).put F.PRISM_STATUS_HDG_CNT hc).put F.PRISM_STATUS_POS_EST pe).put F.PRISM_STATUS_HDG_EST he) :=
  State.keepsStatus_trans (State.keepsStatus_trans (State.keepsStatus_put _ _ (by decide)) (State.keepsStatus_put _ _ (by decide)))
    (State.keepsStatus_trans (State.keepsStatus_put _ _ (by decide)) (State.keepsStatus_put _ _ (by decide)))

theorem State.keepsStatus_prism {s t : State} (h : s.keepsStatus t) (p : PrismSt) : s.keepsStatus { t with prism := p } := h

theorem State.keepsStatus_setPrismState (l : List Nat) : s.keepsStatus (s.setPrismState l) :=
  State.keepsStatus_prism (s.keepsStatus_establishment _ _ _ _) _

theorem State.keepsStatus_clearActive : s.keepsStatus s.clearActive :=
  State.keepsStatus_trans
    (State.keepsStatus_trans (s.keepsStatus_put (x := F.SHD_ACTIVE_ACTIVE) 0 (by decide)) (State.keepsStatus_put _ (x := F.SHD_ACTIVE_RANK) 0 (by decide)))
    (State.keepsStatus_trans
      (State.keepsStatus_trans (State.keepsStatus_setReg _ (a := R.SHD_BASE_LO) 0 (by decide)) (State.keepsStatus_setReg _ (a := R.SHD_BASE_HI) 0 (by decide)))
      (State.keepsStatus_trans
        (State.keepsStatus_trans (State.keepsStatus_setReg _ (a := R.SHD_ABSORB_LO) 0 (by decide)) (State.keepsStatus_setReg _ (a := R.SHD_ABSORB_HI) 0 (by decide)))
        (State.keepsStatus_put _ (x := F.SHD_STATUS_WAIT) 0 (by decide))))

theorem pairStatus_ne_pend {d : Nat} (h : d < 256) : R.PAIR_STATUS ≠ R.SHD_PEND 0 + 4 * (d / 32) := by
  unfold R.PAIR_STATUS R.SHD_PEND
  omega

theorem State.keepsStatus_consume {d : Nat} (h : d < 256) : s.keepsStatus (s.consume d) :=
  s.keepsStatus_setReg (a := R.SHD_PEND 0 + 4 * (d / 32)) _ (pairStatus_ne_pend h)

/-- Detections consumed, the rebase disarmed, and the pending ones counted: how Shadow ends a restart. -/
theorem State.keepsStatus_consumeAll {l : List Nat} (h : ∀ d ∈ l, d < 256) : s.keepsStatus (l.foldl (·.consume ·) s) :=
  State.keepsStatus_foldl _ l s fun t d hd => t.keepsStatus_consume (h d hd)

theorem State.keepsStatus_countPend : s.keepsStatus s.countPend := s.keepsStatus_put (x := F.SHD_STATUS_PEND_CNT) _ (by decide)

theorem State.pendDet_lt : ∀ d ∈ s.pendDet, d < 256 := fun _ hd => List.mem_range.mp (List.mem_of_mem_filter hd)

end

end Sys2Proof.Machine
end

section
/-!
Restarts keep PAIR_STATUS, and a line that becomes low brings a claim or a takeover: what O43 says of it (R294, R307, R308).
-/
namespace Sys2Proof.Machine

/-! ## Steps of a restart -/

section
variable (s : State)

/-- Detections are consumed, and what becomes of the rest of Shadow's state is counted. -/
theorem State.keepsStatus_shadowEnd {l : List Nat} (h : ∀ d ∈ l, d < 256) (x : ShdSt) :
    s.keepsStatus (({ l.foldl (·.consume ·) s with shd := x } : State).put F.SHD_STATUS_REB_ARMED 0).countPend := by
  have hdet : s.keepsStatus { l.foldl (·.consume ·) s with shd := x } := s.keepsStatus_consumeAll h
  exact State.keepsStatus_trans (State.keepsStatus_trans hdet (State.keepsStatus_put _ _ (by decide))) (State.keepsStatus_countPend _)

theorem State.keepsStatus_shadowCold : s.keepsStatus s.shadowCold := by
  have hbase : s.keepsStatus (s.clearActive.put F.SHD_ACTIVE_BASE_GEN 0) := State.keepsStatus_trans s.keepsStatus_clearActive (State.keepsStatus_put _ _ (by decide))
  exact State.keepsStatus_trans hbase (State.keepsStatus_shadowEnd _ (State.pendDet_lt _) _)

theorem State.keepsStatus_shadowWarm (n : Nat) : s.keepsStatus (s.shadowWarm n) :=
  State.keepsStatus_trans s.keepsStatus_clearActive
    (State.keepsStatus_shadowEnd _ (fun d hd => s.clearActive.pendDet_lt d (List.mem_of_mem_filter hd)) _)

/-- The observer of the library is uninitialised. -/
def State.observerCold (s : State) : State :=
  match s.libInst .observer with
  | some a => (s.wrBytes a (List.replicate 128 0)).wrBytes (a + 0x318) (List.replicate 48 0)
  | none => s

/-- The mode of the library is Standby. -/
def State.modeseqCold (s : State) : State :=
  match s.libInst .modeseq with
  | some a => s.wr (a + 8) 8 0
  | none => s

theorem State.libCold_eq : s.libCold = s.observerCold.modeseqCold := rfl

theorem State.onlyMem_observerCold : s.onlyMem s.observerCold := by
  unfold State.observerCold
  split
  · exact State.onlyMem_trans (s.onlyMem_wrBytes _ _) (State.onlyMem_wrBytes _ _ _)
  · exact s.onlyMem_refl

theorem State.onlyMem_modeseqCold : s.onlyMem s.modeseqCold := by
  unfold State.modeseqCold
  split
  · exact s.onlyMem_wr _ _ _
  · exact s.onlyMem_refl

theorem State.onlyMem_libCold : s.onlyMem s.libCold := by
  rw [State.libCold_eq]
  exact State.onlyMem_trans s.onlyMem_observerCold (State.onlyMem_modeseqCold _)

theorem State.onlyMem_runMigration (init : Nat) (x : Migration) : s.onlyMem (s.runMigration init x) := by
  unfold State.runMigration
  split
  · exact s.onlyMem_wrBytes _ _
  · exact s.onlyMem_wrBytes _ _
  · exact State.onlyMem_trans (State.onlyMem_trans (s.onlyMem_wr _ _ _) (State.onlyMem_wr _ _ _ _)) (State.onlyMem_wr _ _ _ _)
  · exact s.onlyMem_setByte _ _

theorem State.onlyMem_runMigrations (init : Nat) (l : List Migration) : s.onlyMem (s.runMigrations init l).2 := by
  induction l generalizing s with
  | nil => exact s.onlyMem_refl
  | cons x l ih =>
    unfold State.runMigrations
    split
    · exact State.onlyMem_trans (s.onlyMem_runMigration init x) (ih _)
    · exact s.onlyMem_refl

theorem State.onlyMem_primeAll : s.onlyMem s.primeAll := by
  refine State.onlyMem_foldl _ _ s fun t n _ => ?_
  split
  · split
    · exact t.onlyMem_refl
    · exact State.onlyMem_foldl _ _ t fun u _ _ => u.onlyMem_setByte _ _
  · exact t.onlyMem_refl

theorem State.onlyMem_placeCells (c : Ckpt) : s.onlyMem (s.placeCells c) :=
  State.onlyMem_trans (t := { s with mem := s.mem.filter fun e => (c.place e.1).isNone }) rfl
    (State.onlyMem_foldl _ _ _ fun u _ _ => u.onlyMem_setByte _ _)

theorem State.onlyMem_placeWarm (c : Ckpt) : s.onlyMem (s.placeWarm c) := by
  refine State.onlyMem_foldl _ _ s fun t e _ => ?_
  split
  · exact t.onlyMem_wrBytes _ _
  · exact t.onlyMem_refl

theorem State.onlyMem_clearProblems : s.onlyMem s.clearProblems := s.onlyMem_clearAreas _ _ _

/-! ## A cold restart (R196) -/

/-- The image's initial data stand in their place. -/
def State.coldPlaced (s : State) : State := s.wrBytes instBase (s.rdBytes (s.initData s.bankBase) (min s.extent 0x400000))

/-- The start is cold, and its pages are clean. -/
def State.coldMarked (s : State) : State :=
  { s with cml := { s.cml with dirty := [], relevant := [], obsWait := false, alarmLift := false }, prg := { s.prg with started := .cold, startTick := s.tickNo } }

theorem State.coldRestart_eq : s.coldRestart = s.coldPlaced.coldMarked.libCold.startPoints.prismCold.shadowCold.clearProblems.releaseEmpty := by
  unfold State.coldRestart State.coldMarked State.coldPlaced
  dsimp only

theorem State.keepsStatus_startPoints : s.keepsStatus s.startPoints := ⟨rfl, rfl⟩

theorem State.keepsStatus_prismCold : s.keepsStatus s.prismCold := s.keepsStatus_estClear

theorem State.keepsStatus_prismWarm : s.keepsStatus s.prismWarm := ⟨rfl, rfl⟩

theorem State.keepsStatus_releaseEmpty : s.keepsStatus s.releaseEmpty := ⟨rfl, rfl⟩

theorem State.reg_coldMarked (a : Nat) : s.coldMarked.reg a = s.reg a := rfl

theorem State.reg_coldPlaced (a : Nat) : s.coldPlaced.reg a = s.reg a := State.reg_congr (State.onlyMem_regs (s.onlyMem_wrBytes _ _)) a

theorem State.keepsStatus_coldRestart : s.coldPlaced.coldMarked.keepsStatus s.coldRestart := by
  rw [State.coldRestart_eq]
  have hpoints := State.keepsStatus_trans (State.keepsStatus_of_onlyMem s.coldPlaced.coldMarked.onlyMem_libCold) (State.keepsStatus_startPoints _)
  have hshadow := State.keepsStatus_trans (State.keepsStatus_trans hpoints (State.keepsStatus_prismCold _)) (State.keepsStatus_shadowCold _)
  exact State.keepsStatus_trans (State.keepsStatus_trans hshadow (State.keepsStatus_of_onlyMem (State.onlyMem_clearProblems _)))
    (State.keepsStatus_releaseEmpty _)

theorem State.coldRestart_spec : s.coldRestart.reg R.PAIR_STATUS = s.reg R.PAIR_STATUS ∧ s.coldRestart.prg.started = .cold :=
  ⟨s.keepsStatus_coldRestart.1.trans ((State.reg_coldMarked _ _).trans (s.reg_coldPlaced _)), congrArg PrgSt.started s.keepsStatus_coldRestart.2⟩

/-! ## A warm restart (R197) -/

/-- The cells of the checkpoint are in place, and the start is marked with its kind, tick and stamp. -/
def State.warmPlaced (s : State) (c : Ckpt) (how : Started) : State :=
  let u := s.placeCells c
  ({ u with cml := { u.cml with relevant := c.relevant.foldl addTo u.cml.relevant, obsWait := false },
            prg := { u.prg with started := how, startTick := c.tick } } : State).setReg64 R.CML_STAMP_LO (c.stamp + 1)

/-- The migration table has run where the checkpoint is of its from-version. -/
def State.migrated (s : State) (c : Ckpt) : State :=
  if c.version = s.litVer then s
  else match s.migrationTable s.bankBase 3 with
    | some a => (s.runMigrations (s.initData s.bankBase) (s.migrations a)).2
    | none => s

theorem State.warmRestart_eq (c : Ckpt) (how : Started) : s.warmRestart c how =
    ((((((s.warmPlaced c how).migrated c).primeAll.clearProblems.placeWarm c).startPoints.setPrismState c.prism).prismWarm.shadowWarm c.tick).releaseEmpty) := by
  unfold State.warmRestart
  rfl

theorem State.onlyMem_migrated (c : Ckpt) : s.onlyMem (s.migrated c) := by
  unfold State.migrated
  split
  · exact s.onlyMem_refl
  · split
    · exact s.onlyMem_runMigrations _ _
    · exact s.onlyMem_refl

theorem State.status_warmPlaced (c : Ckpt) (how : Started) : (s.warmPlaced c how).reg R.PAIR_STATUS = s.reg R.PAIR_STATUS :=
  (State.reg_setReg64_other _ _ _ _ (by decide) (by decide)).trans (State.reg_congr (State.onlyMem_regs (s.onlyMem_placeCells c)) _)

theorem State.status_warmRestart (c : Ckpt) (how : Started) : (s.warmRestart c how).reg R.PAIR_STATUS = s.reg R.PAIR_STATUS := by
  have hmem : (s.warmPlaced c how).onlyMem (((s.warmPlaced c how).migrated c).primeAll.clearProblems.placeWarm c) :=
    State.onlyMem_trans (State.onlyMem_trans (State.onlyMem_trans (State.onlyMem_migrated _ c) (State.onlyMem_primeAll _)) (State.onlyMem_clearProblems _))
      (State.onlyMem_placeWarm _ c)
  have hpoints := State.keepsStatus_trans (State.keepsStatus_of_onlyMem hmem) (State.keepsStatus_startPoints _)
  have hprism := State.keepsStatus_trans (State.keepsStatus_trans hpoints (State.keepsStatus_setPrismState _ c.prism)) (State.keepsStatus_prismWarm _)
  have hshadow := State.keepsStatus_trans hprism (State.keepsStatus_shadowWarm _ c.tick)
  have hempty := State.keepsStatus_trans hshadow (State.keepsStatus_releaseEmpty _)
  rw [State.warmRestart_eq]
  exact hempty.1.trans (s.status_warmPlaced c how)

end

end Sys2Proof.Machine
end

section
/-!
A line that becomes low, takeovers, and the settlement of O43 (R294, R307, R308).
-/
namespace Sys2Proof.Machine

/-! ## Takeovers (R308) -/

/-- A takeover shows and is recorded. -/
def State.takeoverNoted (s : State) (first : Nat) : State := ((s.put F.PAIR_STATUS_TAKEOVER 1).event 0x0D02 [first % 2 ^ 32]).assertSrc 192

/-- A standby without a usable checkpoint shows it. -/
def State.staleNoted (s : State) : State := ((s.put F.PAIR_STATUS_STALE_TAKE 1).event 0x0D03 []).assertSrc 192

/-- The takeover takes place at its first Run tick. -/
def State.takeoverSet (s : State) (first : Nat) : State := { s with pair := { s.pair with takeover := some first, rx := {} } }

/-- The receiver wakes as fast as it may. -/
def State.receiverWoken (s : State) : State := s.gnssWake s.fastest

section
variable (s : State) (first : Nat)

theorem State.f_takeoverNoted : (s.takeoverNoted first).f F.PAIR_STATUS_TAKEOVER = 1 :=
  (State.f_eventSrc _ _ _ _ rfl).trans (s.f_put_bit rfl (by decide) (by decide))

theorem State.f_takeoverNoted_stale : (s.takeoverNoted first).f F.PAIR_STATUS_STALE_TAKE = s.f F.PAIR_STATUS_STALE_TAKE :=
  (State.f_eventSrc _ _ _ _ rfl).trans (s.f_put_apart _ (by decide) (by decide))

theorem State.logFrame_staleNoted : (s.put F.PAIR_STATUS_STALE_TAKE 1).logFrame s.staleNoted := State.logFrame_eventSrc _ _ _ _

theorem State.staleNoted_spec : s.staleNoted.f F.PAIR_STATUS_STALE_TAKE = 1 ∧ s.staleNoted.pair = s.pair ∧
    s.staleNoted.f F.PAIR_STATUS_CLAIM = s.f F.PAIR_STATUS_CLAIM ∧ s.staleNoted.f F.PAIR_CTRL_COLD_TAKE = s.f F.PAIR_CTRL_COLD_TAKE ∧
    s.logAnd s.staleNoted [R.PAIR_STATUS] := by
  have hlog := s.logFrame_staleNoted
  exact ⟨(State.logFrame_f hlog _ rfl).trans (s.f_put_bit rfl (by decide) (by decide)), (State.logFrame_pair hlog).trans (s.put_pair _ _),
    (State.logFrame_f hlog _ rfl).trans (s.f_put_apart _ (by decide) (by decide)),
    (State.logFrame_f hlog _ rfl).trans (s.f_put_apart _ (by decide) (by decide)), State.logAnd_of_put (x := F.PAIR_STATUS_STALE_TAKE) (by decide) hlog⟩

theorem State.f_receiverWoken {x : Fld} (hx : x.addr = R.PAIR_STATUS) : s.receiverWoken.f x = s.f x :=
  State.gnssAnd_f (s.gnssAnd_gnssWake s.fastest) x (by rw [hx]; decide) (by rw [hx]; decide)

/-- A warm takeover restores the checkpoint, with its trial count. -/
def State.warmTaken (c : Ckpt) : State :=
  (((s.takeoverNoted first).receiverWoken.warmRestart c .takeover).put F.PRG_TRIAL_CNT_TCNT c.trial).takeoverSet first

/-- A cold takeover. -/
def State.coldTaken : State := (s.takeoverNoted first).receiverWoken.coldRestart.takeoverSet first

variable {s} {first : Nat}

theorem State.takeover_warm {n : Nat} {before : Bool} {c : Ckpt} (h : s.warmTake (takeoverTick n before) = some c) :
    s.takeover n before = s.warmTaken (takeoverTick n before) c := by
  unfold State.takeover State.warmTaken State.takeoverSet State.receiverWoken State.takeoverNoted
  dsimp only
  rw [h]

theorem State.takeover_cold {n : Nat} {before : Bool} (h : s.warmTake (takeoverTick n before) = none) :
    s.takeover n before =
      if s.staleNoted.b F.PAIR_CTRL_COLD_TAKE then s.staleNoted.coldTaken (takeoverTick n before) else s.staleNoted := by
  unfold State.takeover State.coldTaken State.takeoverSet State.receiverWoken State.takeoverNoted State.staleNoted
  dsimp only
  rw [h]

theorem State.warmTaken_spec (c : Ckpt) : (s.warmTaken first c).pair.takeover = some first ∧ (s.warmTaken first c).f F.PAIR_STATUS_TAKEOVER = 1 ∧
    (s.warmTaken first c).f F.PRG_TRIAL_CNT_TCNT = c.trial % 2 ^ (F.PRG_TRIAL_CNT_TCNT.hi + 1 - F.PRG_TRIAL_CNT_TCNT.lo) := by
  refine ⟨rfl, ?_, ?_⟩
  · have hkept := (s.takeoverNoted first).receiverWoken.status_warmRestart c .takeover
    rw [State.warmTaken, State.takeoverSet, State.f_withPair, State.f_put_addr _ _ _ _ (by decide), State.f_congr F.PAIR_STATUS_TAKEOVER hkept,
      State.f_receiverWoken _ rfl, State.f_takeoverNoted]
  · rw [State.warmTaken, State.takeoverSet, State.f_withPair, State.f_put_same _ _ _ (by decide) (by decide)]

theorem State.coldTaken_spec : (s.coldTaken first).pair.takeover = some first ∧ (s.coldTaken first).f F.PAIR_STATUS_TAKEOVER = 1 ∧
    (s.coldTaken first).f F.PAIR_STATUS_STALE_TAKE = s.f F.PAIR_STATUS_STALE_TAKE ∧ (s.coldTaken first).prg.started = .cold := by
  obtain ⟨hkept, hcold⟩ := (s.takeoverNoted first).receiverWoken.coldRestart_spec
  refine ⟨rfl, ?_, ?_, hcold⟩
  · rw [State.coldTaken, State.takeoverSet, State.f_withPair, State.f_congr F.PAIR_STATUS_TAKEOVER hkept, State.f_receiverWoken _ rfl,
      State.f_takeoverNoted]
  · rw [State.coldTaken, State.takeoverSet, State.f_withPair, State.f_congr F.PAIR_STATUS_STALE_TAKE hkept, State.f_receiverWoken _ rfl,
      State.f_takeoverNoted_stale]

/-! ## Whether a checkpoint is usable (R308) -/

theorem State.warmTake_some {c : Ckpt} (hc : s.pair.committed = some c) (hr : s.ckptRefused c = false) (ht : first ≤ c.tick + 3) :
    s.warmTake first = some c := by
  unfold State.warmTake
  rw [hc]
  exact if_pos (by rw [hr, decide_eq_true ht]; rfl)

theorem State.warmTake_none (hc : s.pair.committed = none) : s.warmTake first = none := by
  unfold State.warmTake
  rw [hc]

/-! ## A line that has become low (R294, R307) -/

/-- A standby takes over where the fall of its line is stamped. -/
def State.takesOver (s : State) : State :=
  match s.pair.fall with
  | some f => s.takeover f.2.1 f.2.2
  | none => s

theorem State.takesOver_stamped {f : Nat × Nat × Bool} (h : s.pair.fall = some f) : s.takesOver = s.takeover f.2.1 f.2.2 := by
  unfold State.takesOver
  rw [h]

theorem State.takesOver_unstamped (h : s.pair.fall = none) : s.takesOver = s := by
  unfold State.takesOver
  rw [h]

theorem State.lineLow_eq (s : State) :
    s.lineLow = if s.standby && s.pair.takeover.isNone then s.filteredLow.takesOver else s.filteredLow.claimInRun := by
  have hmodel (x : State) : (match x.pair.fall with | some (_, n, before) => x.takeover n before | none => x) = x.takesOver := by
    unfold State.takesOver
    cases x.pair.fall <;> rfl
  rw [← hmodel]
  rfl

theorem State.lineLow_claims (h : s.standby = false ∨ s.pair.takeover.isSome = true) : s.lineLow = s.filteredLow.claimInRun := by
  rw [State.lineLow_eq]
  refine if_neg fun ht => ?_
  obtain ⟨hs, hn⟩ := Bool.and_eq_true_iff.mp ht
  rw [Option.isNone_iff_eq_none] at hn
  rw [hs, hn] at h
  simp at h

theorem State.lineLow_standby (hs : s.standby = true) (ht : s.pair.takeover = none) : s.lineLow = s.filteredLow.takesOver := by
  rw [State.lineLow_eq, hs, ht]
  rfl

/-- In Run a standby is none. -/
theorem State.standby_false (h : s.inPair = false ∨ s.mode = .run ∨ s.f F.PAIR_STATUS_CLAIM = 1) : s.standby = false := by
  refine Bool.eq_false_iff.mpr fun hs => ?_
  simp only [State.standby, Bool.and_eq_true, decide_eq_true_eq, Bool.not_eq_true', s.b_eq_false_iff] at hs
  obtain ⟨⟨⟨hp, -⟩, hstop⟩, hc⟩ := hs
  rw [hp, hstop, hc] at h
  simp at h

theorem State.claimInRun_filteredLow (h : s.inPair = false ∨ s.mode ≠ .run ∨ s.f F.PAIR_STATUS_CLAIM = 1) : s.filteredLow.claimInRun = s.filteredLow := by
  refine State.claimInRun_idle fun hcl => ?_
  obtain ⟨hp, hrun, hc, -⟩ := s.filteredLow.claimsInRun_iff.mp hcl
  rcases h with h | h | h
  · exact absurd (h.symm.trans hp) Bool.false_ne_true
  · exact h hrun
  · exact absurd (hc.symm.trans h) Nat.zero_ne_one

/-- Out of Run, or with the claim held, a module that takes nothing over has its level low, and nothing else changes. -/
theorem State.lineLow_idle (h : s.inPair = false ∨ s.mode ≠ .run ∨ s.f F.PAIR_STATUS_CLAIM = 1)
    (ht : s.standby = false ∨ s.pair.takeover.isSome = true ∨ s.pair.fall = none) : s.lineLow = s.filteredLow := by
  rw [State.lineLow_eq]
  split
  · next hs =>
    obtain ⟨hs, hn⟩ := Bool.and_eq_true_iff.mp hs
    rw [Option.isNone_iff_eq_none] at hn
    rw [hs, hn] at ht
    have hfall : s.pair.fall = none := by simpa using ht
    exact State.takesOver_unstamped hfall
  · exact State.claimInRun_filteredLow h

/-- A Mirror claim on a line that has become low is late between the arm point and the Release. -/
def State.lateRun (s : State) : Bool := s.mirroring && !s.beforeEdge (8 * s.periodUs / 10 - 2) && s.beforeEdge (8 * s.periodUs / 10)

/-- The level is low, and it is noted whether the claim is late. -/
def State.lowRun (s : State) : State := { s with pair := { s.pair with filtered := false, lateClaim := s.lateRun } }

/-- A paired module in Run takes the claim on a line that has become low. -/
theorem State.lineLow_run (hp : s.inPair = true) (hrun : s.mode = .run) (hc : s.f F.PAIR_STATUS_CLAIM = 0) : s.lineLow = s.lowRun.setClaim true := by
  have hclaims : s.filteredLow.claimsInRun = true := s.filteredLow.claimsInRun_iff.mpr ⟨hp, hrun, hc, rfl⟩
  have hlate : s.filteredLow.claimsLate = s.lateRun := by
    rw [State.lateRun, State.mirroring, hp, Bool.true_and]
    rfl
  rw [State.lineLow_claims (.inl (State.standby_false (.inr (.inl hrun)))), State.claimInRun_claims hclaims, hlate]
  rfl

theorem State.lowRun_spec (hin : s.f F.PAIR_STATUS_ECL_IN = 0) : (s.lowRun.setClaim true).f F.PAIR_STATUS_CLAIM = 1 ∧
    (s.lowRun.setClaim true).f F.PAIR_STATUS_ECL_OUT = 1 ∧ (s.lowRun.setClaim true).f F.PAIR_STATUS_OWNED = 1 ∧
    (s.lowRun.setClaim true).pair = { s.pair with filtered := false, lateClaim := s.lateRun } := by
  obtain ⟨hclaim, hout, howned⟩ := s.lowRun.claim_setClaim true
  have hlow : s.lowRun.b F.PAIR_STATUS_ECL_IN = false := (State.b_eq_false_iff _ _).mpr ((s.f_withPair _ _).trans hin)
  refine ⟨hclaim, hout, ?_, s.lowRun.pair_setClaim true⟩
  rw [howned, hlow]
  rfl

/-! ## What a standby's takeover leaves (R308) -/

variable {tick n : Nat} {before : Bool}

theorem State.lineLow_warm {c : Ckpt} (hs : s.standby = true) (ht : s.pair.takeover = none) (hf : s.pair.fall = some (tick, n, before))
    (hc : s.pair.committed = some c) (hr : s.ckptRefused c = false) (hage : takeoverTick n before ≤ c.tick + 3) :
    s.lineLow = s.filteredLow.warmTaken (takeoverTick n before) c := by
  have htake : s.filteredLow.warmTake (takeoverTick n before) = some c := State.warmTake_some hc hr hage
  rw [State.lineLow_standby hs ht, State.takesOver_stamped (s := s.filteredLow) hf, State.takeover_warm htake]

theorem State.lineLow_stale (hs : s.standby = true) (ht : s.pair.takeover = none) (hf : s.pair.fall = some (tick, n, before)) (hc : s.pair.committed = none) :
    s.lineLow = if s.f F.PAIR_CTRL_COLD_TAKE = 1 then s.filteredLow.staleNoted.coldTaken (takeoverTick n before) else s.filteredLow.staleNoted := by
  have htake : s.filteredLow.warmTake (takeoverTick n before) = none := State.warmTake_none hc
  obtain ⟨-, -, -, hcold, -⟩ := s.filteredLow.staleNoted_spec
  have hcond : s.filteredLow.staleNoted.b F.PAIR_CTRL_COLD_TAKE = true ↔ s.f F.PAIR_CTRL_COLD_TAKE = 1 := by
    rw [State.b_eq_true_iff _ rfl, hcold]
    rfl
  rw [State.lineLow_standby hs ht, State.takesOver_stamped (s := s.filteredLow) hf, State.takeover_cold htake]
  exact if_congr hcond rfl rfl

theorem State.claim_standby (hs : s.standby = true) : s.f F.PAIR_STATUS_CLAIM = 0 := by
  simp only [State.standby, Bool.and_eq_true, Bool.not_eq_true', s.b_eq_false_iff] at hs
  exact hs.2

end

/-! ## The settlement -/

section
variable {s₀ s : State}

theorem State.eclHigh_due (hin : s₀.f F.PAIR_STATUS_ECL_IN = 1) (hf : s₀.pair.filtered = false)
    (hdue : s₀.comesAt (s₀.cyclesTo 0 (s₀.pair.rise + s₀.claimFilt * usUnits)) = some s) : s₀.eclHigh = s.filteredHigh.dualClaim :=
  (State.eclHigh_eq hin hf).trans (State.whenDue_of_some _ hdue)

theorem State.eclLow_due (hin : s₀.f F.PAIR_STATUS_ECL_IN = 0) (hf : s₀.pair.filtered = true)
    (hdue : s₀.comesAt (s₀.cyclesTo 0 s₀.lowAt) = some s) : s₀.eclLow = s.lineLow :=
  (State.eclLow_eq hin hf).trans (State.whenDue_of_some _ hdue)

theorem State.testPulseEnd_due {n : Nat} (hend : s₀.pair.testEnd = some n) (hdue : s₀.comesAt (s₀.cyclesTo 0 n) = some s) :
    s₀.testPulseEnd = s.pulseEnded :=
  (State.testPulseEnd_some hend).trans (State.whenDue_of_some _ hdue)

/-- A dual claim as the filtered level becomes high. -/
theorem State.filteredHigh_dual (hc : s.f F.PAIR_STATUS_CLAIM = 1) : s.filteredHigh.dualClaim.f F.PAIR_STATUS_DUAL = 1 ∧
    s.filteredHigh.dualClaim.f F.PAIR_STATUS_CLAIM = 1 - s.f F.PAIR_STATUS_POS ∧
    (s.f F.PAIR_STATUS_POS = 1 → s.filteredHigh.dualClaim.f F.PAIR_STATUS_ECL_OUT = 0 ∧ s.filteredHigh.dualClaim.f F.PAIR_STATUS_OWNED = 0 ∧
      s.filteredHigh.dualClaim.f F.LOOP_STATUS_OWNED = 0 ∧ s.filteredHigh.dualClaim.out.driven = []) ∧
    s.filteredHigh.dualClaim.pair.filtered = true ∧
    ∀ r, logReg r = false → r ≠ R.PAIR_STATUS → r ≠ R.LOOP_STATUS → s.filteredHigh.dualClaim.reg r = s.reg r := by
  obtain ⟨hdual, hclaim, hwithdrawn, hreg⟩ := State.dualClaim_spec (s := s.filteredHigh) hc rfl
  exact ⟨hdual, hclaim, hwithdrawn, congrArg PairSt.filtered s.filteredHigh.pair_dualClaim, hreg⟩

/-- Each command of the Eclipse lines answers a next state. -/
theorem eclipse_answers (s : State) :
    (exec .eclInFilteredLow s = .next s.eclLow) ∧ (exec .eclInFilteredHigh s = .next s.eclHigh) ∧ (exec .eclInRise s = .next s.eclRise) ∧
    (exec .eclTestPulse s = .next s.testPulse) ∧ (exec .eclTestPulseEnd s = .next s.testPulseEnd) ∧ (exec .eclOkLost s = .next s.eclOkLost) ∧
    (exec .eclMismatch s = .next ((s.put F.PAIR_STATUS_ECL_MISMATCH 1).event 0x0D05 [])) ∧ (exec .eclInFall s = .next s.eclFall) :=
  ⟨rfl, rfl, rfl, rfl, rfl, rfl, rfl, rfl⟩

end

/-- Settles O43, by what each edge, level and test pulse leaves. -/
theorem theEclipseLines : Obligations.TheEclipseLines := by
  unfold Obligations.TheEclipseLines
  refine ⟨⟨fun s => ⟨⟨_, rfl, s.eclFall_spec⟩, ?rise, fun h => congrArg Host.Outcome.next (State.eclHigh_idle h),
      fun h => congrArg Host.Outcome.next (State.eclLow_idle h), fun h => congrArg Host.Outcome.next (State.testPulse_idle h), ?pulse,
      fun h => congrArg Host.Outcome.next (State.testPulseEnd_none h), fun h => congrArg Host.Outcome.next (State.eclOkLost_idle h),
      fun h => ⟨_, rfl, State.eclOkLost_counts h⟩, ⟨_, rfl, s.mismatchNoted_spec⟩⟩, fun s₀ s n hend => ?pulseEnd, fun s₀ s hin hf => ?high,
      fun s₀ s hin hf => ?low⟩, eclipse_answers⟩
  case rise =>
    obtain ⟨hin, howned, hpins, hdriven, hfiltered, hfall, hrise, hframe⟩ := s.eclRise_spec
    refine ⟨_, rfl, hin, howned, hpins, hdriven, hfiltered, hfall, hrise, hframe, fun h => ?_, fun f hp hc hf => State.eclRise_judges hp hc hf⟩
    rw [State.pair_eclRise, State.pulseJudged_idle h]
    rfl
  case pulse =>
    intro hdue howns hend hc
    have hspec := State.pulsing_spec howns (450 * s.periodUs - s.tick.cycles)
    rw [← State.testPulse_pulses hdue howns hend hc] at hspec
    exact ⟨_, _, rfl, rfl, hspec⟩
  case pulseEnd =>
    refine ⟨fun hdue => congrArg Host.Outcome.next ?_, fun hdue => ⟨_, rfl, ?_⟩⟩
    · rw [State.testPulseEnd_some hend, State.whenDue_of_none _ hdue]
    · rw [State.testPulseEnd_due hend hdue]
      exact s.pulseEnded_spec
  case high =>
    refine ⟨fun hdue => congrArg Host.Outcome.next ?_, fun hdue hc => congrArg Host.Outcome.next ?_, fun hdue hc => ⟨_, rfl, ?_⟩⟩
    · rw [State.eclHigh_eq hin hf, State.whenDue_of_none _ hdue]
    · rw [State.eclHigh_due hin hf hdue]
      exact State.dualClaim_none (.inl hc)
    · rw [State.eclHigh_due hin hf hdue]
      exact State.filteredHigh_dual hc
  case low =>
    have hlow (hdue : s₀.comesAt (s₀.cyclesTo 0 s₀.lowAt) = some s) : s₀.eclLow = s.lineLow := State.eclLow_due hin hf hdue
    have hnone (hdue : s₀.comesAt (s₀.cyclesTo 0 s₀.lowAt) = none) : s₀.eclLow = s₀ := (State.eclLow_eq hin hf).trans (State.whenDue_of_none _ hdue)
    refine ⟨fun hdue => ?_, fun hdue hp hrun hc => ⟨_, rfl, ?_⟩, fun hdue hp => ?_, fun hdue hp hm ht => ?_,
      fun c tick n before hdue hs ht hfall hcom href hage => ⟨_, rfl, ?_⟩, fun tick n before hdue hs ht hfall hcom hcold => ⟨_, rfl, ?_⟩,
      fun tick n before hdue hs ht hfall hcom hcold => ⟨_, rfl, ?_⟩⟩
    · exact congrArg Host.Outcome.next (hnone hdue)
    · have hin' : s.f F.PAIR_STATUS_ECL_IN = 0 := (State.comesAt_f hdue _ (by decide) (by decide)).trans hin
      rw [hlow hdue, State.lineLow_run hp hrun hc]
      exact State.lowRun_spec hin'
    · exact congrArg Host.Outcome.next ((hlow hdue).trans (State.lineLow_idle (.inl hp) (.inl (State.standby_false (.inl hp)))))
    · exact congrArg Host.Outcome.next ((hlow hdue).trans (State.lineLow_idle (.inr hm) ht))
    · have hline : s₀.eclLow = s.filteredLow.warmTaken (takeoverTick n before) c := (hlow hdue).trans (State.lineLow_warm hs ht hfall hcom href hage)
      rw [hline]
      exact State.warmTaken_spec c
    · have hidle : ¬s.f F.PAIR_CTRL_COLD_TAKE = 1 := by rw [hcold]; decide
      have hline : s₀.eclLow = s.filteredLow.staleNoted := (hlow hdue).trans ((State.lineLow_stale hs ht hfall hcom).trans (if_neg hidle))
      obtain ⟨hstale, hpair, hclaim, -, hframe⟩ := s.filteredLow.staleNoted_spec
      rw [hline, hpair]
      exact ⟨hstale, ht, hclaim.trans (State.claim_standby hs), hframe⟩
    · have hline : s₀.eclLow = s.filteredLow.staleNoted.coldTaken (takeoverTick n before) :=
        (hlow hdue).trans ((State.lineLow_stale hs ht hfall hcom).trans (if_pos hcold))
      obtain ⟨hstale, -, -, -, -⟩ := s.filteredLow.staleNoted_spec
      obtain ⟨hset, htaken, hkept, hcoldStart⟩ := State.coldTaken_spec (s := s.filteredLow.staleNoted) (first := takeoverTick n before)
      rw [hline]
      exact ⟨hkept.trans hstale, htaken, hset, hcoldStart⟩

end Sys2Proof.Machine
end

section
/-!
An event that finds the store full: it is counted, and its class may start a flush all the same (R326, R331).
-/
namespace Sys2Proof.Machine

/-- A record offered to a full store is counted, and whatever becomes of it, its event's class is judged for a flush. -/
theorem State.record_full {s : State} (hopen : s.recorder.closed = false) (hfull : s.f F.REC_STATUS_FULL = 1) (code : Nat) (p : Payload) (fs : Bool) :
    s.record code p fs = (s.count F.REC_DROP_FULL_COUNT).flushOn code fs := by
  have hb : s.b F.REC_STATUS_FULL = true := (s.b_eq_true_iff rfl).mpr hfull
  simp [State.record, State.offer, State.offerRec, hopen, hb]

/-- A full store in buffered recording; FLUSH_MASK enables every class, as after reset. -/
def State.fullAndBuffered : State := (State.reset.put F.REC_STATUS_FULL 1).put F.REC_STATUS_BUFFERED 1

/-- Refutes O46: its second clause says that an event which finds the store full changes REC_DROP_FULL alone. Its record is only counted, but
a flush starts on the event's class, which R326 does not tie to the record's acceptance: where FLUSH_MASK enables the class and recording is
buffered, a window fault (0x0100) starts a flush of cause 1 where none ran. -/
theorem not_recordsQueuesAndFlushes : ¬ Obligations.RecordsQueuesAndFlushes := by
  intro h
  obtain ⟨hclauses, -⟩ := h
  obtain ⟨-, hfull, -⟩ := hclauses State.fullAndBuffered
  have hset : State.fullAndBuffered.f F.REC_STATUS_FULL = 1 := by decide
  obtain ⟨t, ht, hrecorder, -⟩ := hfull 0x0100 0 rfl hset
  have hnext : exec (.eventRecord 0x0100 0) State.fullAndBuffered =
      .next ((State.fullAndBuffered.count F.REC_DROP_FULL_COUNT).flushOn 0x0100 false) :=
    congrArg Host.Outcome.next (State.record_full rfl hset _ _ _)
  obtain rfl := Host.Outcome.next.inj (hnext.symm.trans ht)
  have hflush : ((State.fullAndBuffered.count F.REC_DROP_FULL_COUNT).flushOn 0x0100 false).recorder.flush = some 1 := by decide
  rw [hrecorder] at hflush
  cases hflush

end Sys2Proof.Machine
end

section
/-!
The registers that each master keeps for itself: what one reads after a write, and the state around them (R12, R334, R335).
-/
namespace Sys2Proof.Machine

/-! ## One master's registers beside another's -/

theorem masterCode_injective : Function.Injective masterCode := by
  intro k m
  cases k <;> cases m <;> decide

/-- Two registers of one master have keys of their own. -/
theorem mkey_ne_of_addr (m : Master) {a b : Nat} (h : b ≠ a) : mkey m b ≠ mkey m a := fun e => h (Nat.add_left_cancel e)

/-- The registers of two masters have keys of their own. -/
theorem mkey_ne_of_master {k m : Master} {a b : Nat} (h : k ≠ m) (hb : b < 2 ^ 40) (ha : a < 2 ^ 40) : mkey k b ≠ mkey m a := by
  have hcode : masterCode k ≠ masterCode m := fun e => h (masterCode_injective e)
  unfold mkey
  omega

@[simp] theorem State.mreg_setMreg_same (s : State) (m : Master) (a : Nat) (v : Word) : (s.setMreg m a v).mreg m a = v := tget_tset_same _ _ _ _

theorem State.mreg_setMreg_addr (s : State) (m : Master) {a b : Nat} (v : Word) (h : b ≠ a) : (s.setMreg m a v).mreg m b = s.mreg m b :=
  tget_tset_other _ _ _ _ _ _ (mkey_ne_of_addr m h)

/-- A field of a master's register after a write of it. -/
theorem State.mfield_mput_same (s : State) (m : Master) (x : Fld) (v : Nat) (hl : x.lo ≤ x.hi) (hn : x.hi < 32) :
    bitsOf ((s.mput m x v).mreg m x.addr) x.hi x.lo = v % 2 ^ (x.hi + 1 - x.lo) := by
  rw [State.mput, State.mreg_setMreg_same]
  exact bitsOf_withBits_same _ _ _ _ hl hn

/-! ## Frames -/

/-- Nothing but registers of master m changed. -/
def State.ownRegs (s t : State) (m : Master) : Prop :=
  ({ t with mregs := s.mregs } : State) = s ∧ ∀ k a, k ≠ m → a < 2 ^ 40 → t.mreg k a = s.mreg k a

theorem State.ownRegs_trans {s t u : State} {m : Master} (h : s.ownRegs t m) (h' : t.ownRegs u m) : s.ownRegs u m := by
  obtain ⟨hrest, hother⟩ := h
  obtain ⟨hrest', hother'⟩ := h'
  refine ⟨?_, fun k a hk ha => (hother' k a hk ha).trans (hother k a hk ha)⟩
  exact (congrArg (fun v : State => ({ v with mregs := s.mregs } : State)) hrest').trans hrest

theorem State.ownRegs_setMreg (s : State) (m : Master) {a : Nat} (v : Word) (ha : a < 2 ^ 40) : s.ownRegs (s.setMreg m a v) m :=
  ⟨rfl, fun _ _ hk hb => tget_tset_other _ _ _ _ _ _ (mkey_ne_of_master hk hb ha)⟩

end Sys2Proof.Machine
end

section
/-!
Reading the record: the bounds that a snapshot latches, and the window's number, fetch and record (R334, R335).
-/
namespace Sys2Proof.Machine

variable {s : State} {m : Master}

/-! ## The snapshot -/

theorem State.ownRegs_recSnapshot : s.ownRegs (s.recSnapshot m) m :=
  State.ownRegs_trans (State.ownRegs_setMreg _ m _ (by decide)) (State.ownRegs_trans (State.ownRegs_setMreg _ m _ (by decide))
    (State.ownRegs_trans (State.ownRegs_setMreg _ m _ (by decide)) (State.ownRegs_trans (State.ownRegs_setMreg _ m _ (by decide))
      (State.ownRegs_setMreg _ m _ (by decide)))))

theorem State.recSnapshot_spec :
    let t := s.recSnapshot m
    t.mreg m R.REC_SNAP_FIRST_LO = BitVec.ofNat 32 s.recorder.first ∧ t.mreg m R.REC_SNAP_FIRST_HI = BitVec.ofNat 32 (s.recorder.first / 2 ^ 32) ∧
    t.mreg m R.REC_SNAP_LAST_LO = BitVec.ofNat 32 s.lastCommitted ∧ t.mreg m R.REC_SNAP_LAST_HI = BitVec.ofNat 32 (s.lastCommitted / 2 ^ 32) ∧
    t.mreg m R.REC_SNAP_BUF = BitVec.ofNat 32 (s.recorder.buffer.filter fun r => decide (r.seq ≤ s.lastCommitted)).length := by
  unfold State.recSnapshot
  refine ⟨?_, ?_, ?_, ?_, State.mreg_setMreg_same _ _ _ _⟩ <;>
    simp (disch := decide) only [State.mreg_setMreg_addr, State.mreg_setMreg_same, State.setMreg_recorder]

/-! ## The window's number -/

/-- A write of the number's high half takes the low half from its buffer, clears READY and starts the master's fetch. -/
theorem State.readWindow_spec (v : Word) :
    let t := s.readWindow m v
    t.mreg m R.REC_RD_SEQ_HI = v ∧
    t.mreg m R.REC_RD_SEQ_LO = (tget? s.lowBufs (mkey m R.REC_RD_SEQ_LO)).getD (s.mreg m R.REC_RD_SEQ_LO) ∧
    tget? t.lowBufs (mkey m R.REC_RD_SEQ_LO) = none ∧ bitsOf (t.mreg m R.REC_RD_STAT) 0 0 = 0 ∧ masterCode m ∈ t.recorder.fetching ∧
    (∀ k a, k ≠ m → a < 2 ^ 40 → t.mreg k a = s.mreg k a) ∧
    ({ t with mregs := s.mregs, lowBufs := s.lowBufs, recorder := s.recorder } : State) = s := by
  intro t
  let u : State := { s with lowBufs := tdel s.lowBufs (mkey m R.REC_RD_SEQ_LO) }
  have hown : u.ownRegs { t with recorder := u.recorder } m :=
    State.ownRegs_trans (State.ownRegs_setMreg _ m _ (by decide)) (State.ownRegs_trans (State.ownRegs_setMreg _ m _ (by decide))
      (State.ownRegs_setMreg _ m _ (by decide)))
  obtain ⟨hrest, hother⟩ := hown
  refine ⟨?_, ?_, tget?_tdel_same _ _, ?_, List.mem_cons_self, hother, congrArg (fun w : State => ({ w with lowBufs := s.lowBufs } : State)) hrest⟩
  · exact (State.mreg_setMreg_addr _ m _ (by decide)).trans (State.mreg_setMreg_same _ _ _ _)
  · exact (State.mreg_setMreg_addr _ m _ (by decide)).trans ((State.mreg_setMreg_addr _ m _ (by decide)).trans (State.mreg_setMreg_same _ _ _ _))
  · exact State.mfield_mput_same _ m F.REC_RD_STAT_READY 0 (by decide) (by decide)

/-! ## The fetch -/

/-- The number that a master's window asks for. -/
def State.readNumber (s : State) (m : Master) : Nat := (s.mreg m R.REC_RD_SEQ_HI).toNat * 2 ^ 32 + (s.mreg m R.REC_RD_SEQ_LO).toNat

/-- The master's fetch has ended. -/
def State.fetchEnded (s : State) (m : Master) : State :=
  { s with recorder := { s.recorder with fetching := s.recorder.fetching.filter (· ≠ masterCode m) } }

/-- Word k of a record's bytes. -/
def recordWord (l : List Byte) (k : Nat) : Word := BitVec.ofNat 32 (leBytes ((l.drop (4 * k)).take 4))

theorem State.fetching_fetchEnded : masterCode m ∉ (s.fetchEnded m).recorder.fetching := by simp [State.fetchEnded]

section
variable (h : masterCode m ∈ s.recorder.fetching)
include h

/-- A number outside the bounds is absent. -/
theorem State.readReady_absent (hq : s.readNumber m < s.recorder.first ∨ s.lastCommitted < s.readNumber m) :
    exec (.readReady m) s = .next ((s.fetchEnded m).setMreg m R.REC_RD_STAT 1) :=
  (if_pos h).trans (congrArg Host.Outcome.next (if_pos hq))

variable (hl : s.recorder.first ≤ s.readNumber m) (hu : s.readNumber m ≤ s.lastCommitted)
include hl hu

/-- A number in the buffer gives the buffer's record. -/
theorem State.readReady_buffered {r : Rec} (hr : s.recorder.buffer.find? (·.seq = s.readNumber m) = some r) :
    exec (.readReady m) s = .next (((s.fetchEnded m).giveRecord m r.bytes).setMreg m R.REC_RD_STAT 15) := by
  refine (if_pos h).trans (congrArg Host.Outcome.next ((if_neg (not_or.mpr ⟨hl.not_gt, hu.not_gt⟩)).trans ?_))
  rw [show s.recorder.buffer.find? (·.seq = (s.mreg m R.REC_RD_SEQ_HI).toNat * 2 ^ 32 + (s.mreg m R.REC_RD_SEQ_LO).toNat) = some r from hr]
  rfl

/-- A number in the store gives its slot's bytes, with the verdict of their CRC. -/
theorem State.readReady_stored (hr : s.recorder.buffer.find? (·.seq = s.readNumber m) = none)
    (hi : s.readNumber m - s.recorder.first < s.f F.REC_USED_USED) :
    exec (.readReady m) s = .next (((s.fetchEnded m).giveRecord m (s.rdBytes (mramBase + 64 * (s.readNumber m - s.recorder.first)) 64)).setMreg m
      R.REC_RD_STAT (if s.slotOk (s.readNumber m - s.recorder.first) then 7 else 3)) := by
  refine (if_pos h).trans (congrArg Host.Outcome.next ((if_neg (not_or.mpr ⟨hl.not_gt, hu.not_gt⟩)).trans ?_))
  rw [show s.recorder.buffer.find? (·.seq = (s.mreg m R.REC_RD_SEQ_HI).toNat * 2 ^ 32 + (s.mreg m R.REC_RD_SEQ_LO).toNat) = none from hr]
  refine (if_pos hi).trans (congrArg (State.setMreg _ m R.REC_RD_STAT) ?_)
  show BitVec.ofNat 32 (0 + (if s.slotOk (s.readNumber m - s.recorder.first) = true then 4 else 0) + 2 + 1) = _
  split <;> rfl

end

/-! ## The record in the window -/

/-- The first n words of a record stand in their registers. -/
theorem State.giveWords_spec (s : State) (m : Master) (l : List Byte) (n : Nat) :
    let t := (List.range n).foldl (fun s k => s.setMreg m (R.REC_RD_DATA k) (recordWord l k)) s
    ({ t with mregs := s.mregs } : State) = s ∧ ∀ k, k < n → t.mreg m (R.REC_RD_DATA k) = recordWord l k := by
  induction n with
  | zero => exact ⟨rfl, fun k hk => absurd hk (Nat.not_lt_zero k)⟩
  | succ n ih =>
    obtain ⟨hrest, hwords⟩ := ih
    rw [List.range_succ, List.foldl_append]
    refine ⟨hrest, fun k hk => ?_⟩
    by_cases hn : k = n
    · subst hn
      exact State.mreg_setMreg_same _ _ _ _
    · refine (State.mreg_setMreg_addr _ m _ ?_).trans (hwords k (by omega))
      simp only [R.REC_RD_DATA]
      omega

theorem State.giveRecord_spec (s : State) (m : Master) (l : List Byte) :
    ({ s.giveRecord m l with mregs := s.mregs } : State) = s ∧ ∀ k, k < 16 → (s.giveRecord m l).mreg m (R.REC_RD_DATA k) = recordWord l k :=
  s.giveWords_spec m l 16

/-- A record given with its status: the status and the sixteen words stand in the master's registers, and only the fetch ended beside them. -/
theorem State.given_spec (l : List Byte) (v : Word) :
    let t := ((s.fetchEnded m).giveRecord m l).setMreg m R.REC_RD_STAT v
    masterCode m ∉ t.recorder.fetching ∧ t.mreg m R.REC_RD_STAT = v ∧ (∀ k, k < 16 → t.mreg m (R.REC_RD_DATA k) = recordWord l k) ∧
      ({ t with mregs := s.mregs, recorder := s.recorder } : State) = s := by
  obtain ⟨hrest, hwords⟩ := (s.fetchEnded m).giveRecord_spec m l
  generalize (s.fetchEnded m).giveRecord m l = u at hrest hwords
  have hrecorder : u.recorder = (s.fetchEnded m).recorder := by
    have e := congrArg State.recorder hrest; exact e
  refine ⟨?_, State.mreg_setMreg_same _ _ _ _, fun k hk => ?_, congrArg (fun u : State => ({ u with recorder := s.recorder } : State)) hrest⟩
  · rw [State.setMreg_recorder, hrecorder]
    exact State.fetching_fetchEnded
  · refine (State.mreg_setMreg_addr _ m _ ?_).trans (hwords k hk)
    simp only [R.REC_RD_DATA, R.REC_RD_STAT]
    omega

end Sys2Proof.Machine
end

section
/-!
What recording leaves: the registers and the recorder after a source's assertion, and the count of wrong clear responses after an event
(R336, R342).
-/
namespace Sys2Proof.Machine

variable (s : State)

/-! ## Sources -/

theorem State.detect_recorder (d : Nat) : (s.detect d).recorder = s.recorder := by
  simp only [State.detect]; split
  · simp only [State.countPend, State.put_recorder, State.setBit_recorder]; split <;> rfl
  · rfl

theorem State.assertSrc_recorder (n : Nat) : (s.assertSrc n).recorder = s.recorder := by
  have hdet : ((s.detectorsOf 2 n).foldl (·.detect ·) s).recorder = s.recorder :=
    List.foldlRecOn _ _ (motive := fun t : State => t.recorder = s.recorder) rfl fun t ht d _ => (t.detect_recorder d).trans ht
  simp only [State.assertSrc]; split
  · split
    · rw [State.count_recorder]; split <;> exact hdet
    · exact hdet
  · rfl

/-- A source's assertion changes registers of the selector and of the interrupt controller alone. -/
theorem State.reg_assertSrc (n : Nat) {a : Nat} (h7 : blockOf a ≠ 7) (h14 : blockOf a ≠ 14) : (s.assertSrc n).reg a = s.reg a := by
  simp only [State.assertSrc]; split
  · next hx =>
    have hn := s.sourceExists_lt hx
    have hdet := s.reg_detectAll (l := s.detectorsOf 2 n) (fun d hd => s.detectorsOf_lt hd) h7
    split
    · rw [State.reg_count_other _ _ _ _ fun e => h14 ((congrArg blockOf e).trans (blockOf_irqCoal hn))]
      split <;> exact hdet
    · exact hdet
  · rfl

/-! ## The count of wrong responses -/

theorem State.startFlush_wrong (c : Nat) : (s.startFlush c).recorder.wrong = s.recorder.wrong := by
  unfold State.startFlush; split <;> rfl

theorem State.fillTrigger_wrong : s.fillTrigger.recorder.wrong = s.recorder.wrong := by
  simp only [State.fillTrigger]; split
  · exact s.startFlush_wrong 8
  · rfl

theorem State.toStore_wrong (r : Rec) : (s.toStore r).recorder.wrong = s.recorder.wrong := by
  rw [State.toStore, State.put_recorder, State.wrBytes_recorder]

theorem State.place_wrong (src code : Nat) (p : Payload) (d : Bool) : (s.place src code p d).recorder.wrong = s.recorder.wrong := by
  unfold State.place; split
  · exact State.toStore_wrong _ _
  · split
    · exact State.fillTrigger_wrong _
    · rfl

theorem State.accept_wrong (src code : Nat) (p : Payload) (d : Bool) : (s.accept src code p d).2.recorder.wrong = s.recorder.wrong := by
  simp only [State.accept]; split
  · rfl
  · split
    · rfl
    · split
      · rfl
      · split
        · rw [State.count_recorder, State.assertSrc_recorder, State.put_recorder, State.place_wrong]
        · exact s.place_wrong _ _ _ _

theorem State.suppress_wrong (b code : Nat) : (s.suppress b code).recorder.wrong = s.recorder.wrong := by
  simp only [State.suppress, State.count_recorder]; split <;> rfl

theorem State.summarise_wrong (code : Nat) : (s.summarise code).recorder.wrong = s.recorder.wrong := by
  unfold State.summarise; split
  · next x _ =>
    have h := s.accept_wrong 0x10 0x0F02 (payW [x.code, x.count, x.first, x.last]) false
    split
    · next e => rw [e] at h; exact h
    · next e => rw [e] at h; exact h
  · rfl

theorem State.flushOn_wrong (code : Nat) (fs : Bool) : (s.flushOn code fs).recorder.wrong = s.recorder.wrong := by
  unfold State.flushOn; split
  · split
    · exact s.startFlush_wrong _
    · rfl
  · rfl

theorem State.withTokens_wrong (l : Tbl Nat) : ({ s with recorder := { s.recorder with tokens := l } } : State).recorder.wrong = s.recorder.wrong := rfl

theorem State.spend_wrong (b code : Nat) : (s.spend b code).recorder.wrong = s.recorder.wrong := by
  unfold State.spend; split
  · rfl
  · exact s.withTokens_wrong _

theorem State.offerRec_wrong (src code : Nat) (p : Payload) : (s.offerRec src code p).2.recorder.wrong = s.recorder.wrong := by
  unfold State.offerRec; split
  · rfl
  · dsimp only; split
    · exact s.suppress_wrong _ _
    · rw [State.accept_wrong, State.summarise_wrong, State.spend_wrong]

/-- An offered record leaves the count of wrong clear responses. -/
theorem State.offer_wrong (src code : Nat) (p : Payload) (fs : Bool) : (s.offer src code p fs).2.recorder.wrong = s.recorder.wrong := by
  unfold State.offer; split
  · rfl
  · rw [State.flushOn_wrong, State.offerRec_wrong]

theorem State.offer_closed {s : State} (h : s.recorder.closed = true) (src code : Nat) (p : Payload) (fs : Bool) :
    s.offer src code p fs = (.dropped, s) := if_pos h

end Sys2Proof.Machine
end

section
/-!
The clear: its request and challenge, and what becomes of a response (R336).
-/
namespace Sys2Proof.Machine

variable {s : State} {m : Master}

/-! ## The request -/

theorem State.clearRequest_badKey {v : Word} (hk : bitsOf v 31 16 ≠ 0x4352) : s.clearRequest m v = s.clearRefused m 5 := if_pos hk

theorem State.clearRequest_inRun {v : Word} (hk : bitsOf v 31 16 = 0x4352) (hr : s.mode = .run) : s.clearRequest m v = s.clearRefused m 4 :=
  (if_neg (not_not.mpr hk)).trans (if_pos hr)

/-- A request with its key and outside Run is judged by the lock. -/
theorem State.clearRequest_judged {v : Word} (hk : bitsOf v 31 16 = 0x4352) (hr : s.mode ≠ .run) (hreq : bitsOf v 0 0 = 1) :
    s.clearRequest m v = if s.b F.REC_STATUS_CLR_LOCK then s.clearRefused m 3 else
      ((s.draw 100000000).2.setReg R.REC_CHAL (BitVec.ofNat 32 (bcd8 8 (s.draw 100000000).1))).put F.REC_STATUS_CHAL_VALID 1 :=
  (if_neg (not_not.mpr hk)).trans ((if_neg hr).trans (if_neg (by rw [hreq]; decide)))

/-! ## The challenge -/

theorem bcd8_lt (n v : Nat) : bcd8 n v < 16 ^ n := by
  induction n generalizing v with
  | zero => exact Nat.one_pos
  | succ n ih =>
    have h := ih (v / 10)
    rw [bcd8, Nat.pow_succ]
    omega

/-- Every digit of a number in BCD is a decimal one. -/
theorem digit_bcd8 (n v i : Nat) : bcd8 n v / 16 ^ i % 16 < 10 := by
  induction n generalizing v i with
  | zero => rw [bcd8, Nat.zero_div]; decide
  | succ n ih =>
    have hlow : v % 10 < 10 := Nat.mod_lt _ (by decide)
    rw [bcd8]
    cases i with
    | zero => rw [Nat.pow_zero, Nat.div_one]; omega
    | succ i =>
      rw [Nat.pow_succ', ← Nat.div_div_eq_div_mul, show (v % 10 + 16 * bcd8 n (v / 10)) / 16 = bcd8 n (v / 10) by omega]
      exact ih _ _

/-- A challenge of eight digits stands in REC_CHAL and is valid. -/
theorem State.challenge_spec (s : State) (n : Nat) :
    let t := (s.setReg R.REC_CHAL (BitVec.ofNat 32 (bcd8 8 n))).put F.REC_STATUS_CHAL_VALID 1
    t.f F.REC_STATUS_CHAL_VALID = 1 ∧ (∀ i, i < 8 → (t.reg R.REC_CHAL).toNat / 16 ^ i % 16 < 10) ∧ s.regsOnly t [R.REC_CHAL, R.REC_STATUS] := by
  intro t
  have hchal : (t.reg R.REC_CHAL).toNat = bcd8 8 n := by
    rw [State.reg_put_other _ _ _ _ (by decide), State.reg_setReg_same, BitVec.toNat_ofNat]
    exact Nat.mod_eq_of_lt (bcd8_lt 8 n)
  refine ⟨State.f_put_bit _ rfl (by decide) (by decide), fun i _ => ?_,
    State.regsOnly_trans (s.regsOnly_setReg _ (by decide)) (State.regsOnly_put _ _ (by decide))⟩
  rw [hchal]
  exact digit_bcd8 8 n i

/-- The challenge is gone. -/
def State.challengeTaken (s : State) : State := (s.setReg R.REC_CHAL 0).put F.REC_STATUS_CHAL_VALID 0

theorem State.challengeTaken_spec (s : State) :
    s.challengeTaken.reg R.REC_CHAL = 0 ∧ s.challengeTaken.f F.REC_STATUS_CHAL_VALID = 0 ∧ s.regsOnly s.challengeTaken [R.REC_CHAL, R.REC_STATUS] :=
  ⟨(State.reg_put_other _ _ _ _ (by decide)).trans (s.reg_setReg_same _ _), State.f_put_bit _ rfl (by decide) (by decide),
    State.regsOnly_trans (s.regsOnly_setReg _ (by decide)) (State.regsOnly_put _ _ (by decide))⟩

theorem State.logFrame_challengeTaken (s : State) : s.logFrame s.challengeTaken :=
  State.logFrame_trans (s.logFrame_setReg _ _ rfl) (State.logFrame_put _ _ _ rfl)

/-! ## The response -/

theorem State.clearRespond_closed (v : Word) (hc : s.recorder.closed = true) : s.clearRespond m v = s := if_pos hc

/-- Without a valid challenge a response is refused; a closed recorder takes no record of that. -/
theorem State.clearRespond_invalid (v : Word) (hv : s.f F.REC_STATUS_CHAL_VALID = 0) : s.clearRespond m v = s.clearRefused m 2 := by
  cases hc : s.recorder.closed with
  | true =>
    rw [State.clearRespond_closed v hc, State.clearRefused, State.offer_closed hc]
  | false =>
    have hb : s.b F.REC_STATUS_CHAL_VALID = false := (s.b_eq_false_iff _).mpr hv
    simp [State.clearRespond, hc, hb]

/-- The right response takes the challenge, and the count of wrong ones starts again. -/
def State.rightTaken (s : State) : State := { s.challengeTaken with recorder := { s.recorder with wrong := 0 } }

theorem State.logFrame_rightTaken (s : State) : s.logFrame s.rightTaken := State.logFrame_trans s.logFrame_challengeTaken (State.logFrame_recorder _ _)

/-- One wrong response more: the third locks, and the count starts again. -/
def State.wrongCounted (s : State) : State :=
  let t : State := { s with recorder := { s.recorder with wrong := (s.recorder.wrong + 1) % 3 } }
  if s.recorder.wrong + 1 = 3 then t.put F.REC_STATUS_CLR_LOCK 1 else t

section
variable (hc : s.recorder.closed = false) (hv : s.f F.REC_STATUS_CHAL_VALID = 1)
include hc hv

theorem State.clearRespond_right :
    s.clearRespond m (Config.clearResponse (s.reg R.REC_CHAL).toNat s.clearKey) = s.rightTaken.clearStore m := by
  have hb : s.b F.REC_STATUS_CHAL_VALID = true := (s.b_eq_true_iff rfl).mpr hv
  exact (if_neg (by rw [hc]; decide)).trans ((if_pos hb).trans (if_pos rfl))

theorem State.clearRespond_wrong {v : Word} (hw : v ≠ Config.clearResponse (s.reg R.REC_CHAL).toNat s.clearKey) :
    s.clearRespond m v = (s.challengeTaken.clearRefused m 1).wrongCounted := by
  have hb : s.b F.REC_STATUS_CHAL_VALID = true := (s.b_eq_true_iff rfl).mpr hv
  exact (if_neg (by rw [hc]; decide)).trans ((if_pos hb).trans (if_neg hw))

end

theorem State.wrongCounted_spec (s : State) :
    s.wrongCounted.recorder.wrong = (s.recorder.wrong + 1) % 3 ∧ (s.recorder.wrong = 2 → s.wrongCounted.f F.REC_STATUS_CLR_LOCK = 1) ∧
      s.logFrame s.wrongCounted := by
  simp only [State.wrongCounted]
  split
  · exact ⟨rfl, fun _ => State.f_put_bit _ rfl (by decide) (by decide), State.logFrame_trans (s.logFrame_recorder _) (State.logFrame_put _ _ _ rfl)⟩
  · next hne => exact ⟨rfl, fun h => absurd (congrArg (· + 1) h) hne, s.logFrame_recorder _⟩

/-- A wrong response is refused and counted. -/
theorem State.wrongResponse_spec (s : State) (m : Master) :
    let t := (s.challengeTaken.clearRefused m 1).wrongCounted
    t.recorder.wrong = (s.recorder.wrong + 1) % 3 ∧ (s.recorder.wrong = 2 → t.f F.REC_STATUS_CLR_LOCK = 1) ∧ s.logFrame t := by
  have hwrong : (s.challengeTaken.clearRefused m 1).recorder.wrong = s.recorder.wrong := State.offer_wrong _ _ _ _ _
  have hspec := (s.challengeTaken.clearRefused m 1).wrongCounted_spec
  rw [hwrong] at hspec
  obtain ⟨hcount, hlock, hframe⟩ := hspec
  exact ⟨hcount, hlock, State.logFrame_trans s.logFrame_challengeTaken (State.logFrame_trans (State.logFrame_offer _ _ _ _ _) hframe)⟩

end Sys2Proof.Machine
end

section
/-!
The clear of the store and the Clear record that it leaves (R319, R337).
-/
namespace Sys2Proof.Machine

variable (s : State) (m : Master)

/-! ## A record's bytes -/

theorem Rec.length_bytes (r : Rec) : r.bytes.length = 64 := by
  simp only [Rec.bytes, List.length_append, length_bytesLE]

/-- A record's bytes up to its code. -/
def Rec.times (r : Rec) : List Byte := bytesLE 8 r.secs ++ (bytesLE 4 r.aux ++ bytesLE 4 r.tick)

/-- The number, the code and the source have their places among a record's bytes. -/
theorem Rec.bytes_eq (r : Rec) : ∃ l, r.bytes =
    bytesLE 8 r.seq ++ (r.times ++ (bytesLE 2 r.code ++ (bytesLE 1 r.flags ++ (bytesLE 1 r.source ++ l)))) := by
  unfold Rec.bytes Rec.times
  simp only [List.append_assoc, List.append_cancel_left_eq, exists_eq']

/-- A record stored in MRAM shows its number, its code and its source (R319). -/
theorem State.rd_wrBytes_record {a : Nat} (ha : probBase ≤ a) (r : Rec) :
    (s.wrBytes a r.bytes).rd a 8 = r.seq % 2 ^ 64 ∧ (s.wrBytes a r.bytes).rd (a + 24) 2 = r.code % 2 ^ 16 ∧
      (s.wrBytes a r.bytes).rd (a + 27) 1 = r.source % 2 ^ 8 := by
  have hpart : ∀ (l l' : List Byte) (n v : Nat), r.bytes = l ++ (bytesLE n v ++ l') → (s.wrBytes a r.bytes).rd (a + l.length) n = v % 256 ^ n :=
    fun l l' n v e => e ▸ s.rd_wrBytes_within ha l l' n v
  have htimes : r.times.length = 16 := by simp only [Rec.times, List.length_append, length_bytesLE]
  obtain ⟨l, hl⟩ := r.bytes_eq
  have hseq := hpart [] _ 8 r.seq hl
  have hcode := hpart (bytesLE 8 r.seq ++ r.times) _ 2 r.code (by rw [hl, List.append_assoc])
  have hsource := hpart (bytesLE 8 r.seq ++ (r.times ++ (bytesLE 2 r.code ++ bytesLE 1 r.flags))) l 1 r.source
    (by rw [hl]; simp only [List.append_assoc])
  simp only [List.length_append, length_bytesLE, htimes] at hcode hsource
  exact ⟨hseq, hcode, hsource⟩

/-! ## The suppressed counts -/

theorem State.listed_lt {a stride n : Nat} {e : Nat × Word} (h : e ∈ s.listed a stride n) : e.1 < n := by
  simp only [State.listed, List.mem_filterMap] at h
  obtain ⟨x, -, hx⟩ := h
  obtain ⟨⟨hl, hu, -⟩, hx⟩ := Option.ite_none_right_eq_some.mp hx
  obtain rfl := Option.some.inj hx
  exact Nat.div_lt_of_lt_mul (by omega)

/-- The clear of the suppressed counts changes the counts of entries, which lie above the recorder's own registers, and their sum. -/
theorem State.reg_clearSuppCounts {a : Nat} (hl : a < R.REC_RLSUP 0) (ha : a ≠ R.REC_SUPPR) : s.clearSuppCounts.reg a = s.reg a := by
  refine (State.reg_put_other _ _ _ _ ha).trans
    (List.foldlRecOn _ _ (motive := fun t : State => t.reg a = s.reg a) rfl fun t ht c _ => (t.reg_put_other _ _ _ ?_).trans ht)
  simp only [R.REC_RLSUP] at hl
  simp only [F.REC_RLSUP_COUNT, R.REC_RLSUP]
  omega

theorem State.clearSuppCounts_spec : s.clearSuppCounts.f F.REC_SUPPR_COUNT = 0 ∧ s.logFrame s.clearSuppCounts ∧
    s.clearSuppCounts.recorder = s.recorder ∧ s.clearSuppCounts.mem = s.mem := by
  have hfold : ∀ p : State → Prop, p s → (∀ t c, c < 1024 → p t → p (t.put (F.REC_RLSUP_COUNT c) 0)) →
      p ((List.map Prod.fst (s.listed (R.REC_RLSUP 0) 4 1024)).foldl (fun s c => s.put (F.REC_RLSUP_COUNT c) 0) s) := by
    intro p hs hput
    refine List.foldlRecOn _ _ hs fun t ht c hc => hput t c ?_ ht
    obtain ⟨e, he, rfl⟩ := List.mem_map.mp hc
    exact s.listed_lt he
  refine ⟨State.f_put_same _ _ _ (by decide) (by decide), ?_, ?_, ?_⟩
  · exact State.logFrame_trans (hfold s.logFrame s.logFrame_refl fun t c hc ht =>
      State.logFrame_trans ht (t.logFrame_put _ _ (logReg_rlsup c hc))) (State.logFrame_put _ _ _ rfl)
  · exact hfold (fun t => t.recorder = s.recorder) rfl fun _ _ _ ht => ht
  · exact hfold (fun t => t.mem = s.mem) rfl fun _ _ _ ht => ht

/-! ## The store emptied -/

/-- Queue and buffer are gone, and the counts of the store read 0. -/
def State.storeEmptied (s : State) : State :=
  let t : State := { s with recorder := { s.recorder with queue := [], buffer := [] } }
  (((((t.put F.REC_USED_USED 0).put F.REC_STATUS_FULL 0).put F.REC_STATUS_UNCLEAN 0).put F.REC_DROP_FULL_COUNT 0).put
    F.REC_DROP_Q_COUNT 0).clearSuppCounts

/-- What the Clear record tells (R320). -/
def State.clearPayload (s : State) : Payload :=
  let used := s.f F.REC_USED_USED
  pay [.u64 (if used = 0 then 0 else s.recorder.first), .u32 used, .u32 (s.recorder.queue.length + s.recorder.buffer.length),
    .u32 (s.f F.REC_DROP_FULL_COUNT), .u32 (s.f F.REC_DROP_Q_COUNT), .u32 (s.f F.REC_SUPPR_COUNT), .u32 s.keyId]

/-- The Clear record. -/
def State.clearRec (s : State) (m : Master) : Rec := (s.storeEmptied.newRecord (masterCode m) 0x0F01 s.clearPayload false).1

/-- The emptied store with the Clear record's number taken. -/
def State.clearNumbered (s : State) (m : Master) : State := (s.storeEmptied.newRecord (masterCode m) 0x0F01 s.clearPayload false).2

theorem State.storeEmptied_recorder : s.storeEmptied.recorder = { s.recorder with queue := [], buffer := [] } := by
  obtain ⟨-, -, hrecorder, -⟩ := State.clearSuppCounts_spec _
  exact hrecorder

theorem State.storeEmptied_mem : s.storeEmptied.mem = s.mem := by
  obtain ⟨-, -, -, hmem⟩ := State.clearSuppCounts_spec _
  exact hmem

theorem State.logFrame_storeEmptied : s.logFrame s.storeEmptied := by
  obtain ⟨-, hframe, -, -⟩ := State.clearSuppCounts_spec _
  exact State.logFrame_trans (s.logFrame_recorder _) (State.logFrame_trans (State.logFrame_put _ _ _ rfl)
    (State.logFrame_trans (State.logFrame_put _ _ _ rfl) (State.logFrame_trans (State.logFrame_put _ _ _ rfl)
      (State.logFrame_trans (State.logFrame_put _ _ _ rfl) (State.logFrame_trans (State.logFrame_put _ _ _ rfl) hframe)))))

theorem State.storeEmptied_counts : s.storeEmptied.f F.REC_USED_USED = 0 ∧ s.storeEmptied.f F.REC_DROP_FULL_COUNT = 0 ∧
    s.storeEmptied.f F.REC_DROP_Q_COUNT = 0 ∧ s.storeEmptied.f F.REC_SUPPR_COUNT = 0 := by
  obtain ⟨hsuppr, -⟩ := State.clearSuppCounts_spec _
  refine ⟨?_, ?_, ?_, hsuppr⟩ <;>
    simp (disch := decide) only [State.storeEmptied, State.f_congr _ (State.reg_clearSuppCounts _ _ _), State.f_put_addr, State.f_put_same, Nat.zero_mod]

/-- The challenge stands as it did. -/
theorem State.storeEmptied_challenge :
    s.storeEmptied.reg R.REC_CHAL = s.reg R.REC_CHAL ∧ s.storeEmptied.f F.REC_STATUS_CHAL_VALID = s.f F.REC_STATUS_CHAL_VALID := by
  refine ⟨(State.reg_clearSuppCounts _ (by decide) (by decide)).trans ?_,
    (State.f_congr F.REC_STATUS_CHAL_VALID (State.reg_clearSuppCounts _ (by decide) (by decide))).trans ?_⟩
  · simp (disch := decide) only [State.reg_put_other]
    rfl
  · simp (disch := decide) only [State.f_put_apart]
    rfl

/-! ## The Clear record in slot 0 -/

/-- With the store, the queue and the buffer empty the Clear record's number is FIRST. -/
theorem State.clearNumbered_recorder : (s.clearNumbered m).recorder =
    { s.recorder with queue := [], buffer := [], next := s.recorder.next + 1, first := s.recorder.next } := by
  obtain ⟨hused, -⟩ := s.storeEmptied_counts
  simp [State.clearNumbered, State.newRecord, State.storeEmptied_recorder, hused]

theorem State.clearRec_seq : (s.clearRec m).seq = s.recorder.next := by
  have e := congrArg RecSt.next s.storeEmptied_recorder; exact e

/-- The Clear record is written directly, and the recorder's source asserts. -/
theorem State.clearStore_eq : s.clearStore m = ((s.clearNumbered m).toStore (s.clearRec m)).assertSrc 194 := by
  have hdirect : true = true ∧ s.storeEmptied.recorder.queue = [] ∧ s.storeEmptied.recorder.buffer = [] := by
    rw [s.storeEmptied_recorder]
    exact ⟨rfl, rfl, rfl⟩
  exact congrArg (State.assertSrc · 194) (if_pos hdirect)

/-- It goes into slot 0. -/
theorem State.clearRec_toStore : (s.clearNumbered m).toStore (s.clearRec m) =
    ((s.clearNumbered m).wrBytes mramBase (s.clearRec m).bytes).put F.REC_USED_USED 1 := by
  obtain ⟨hused, -⟩ := s.storeEmptied_counts
  have hslot : mramBase + 64 * ((s.clearRec m).seq - (s.clearNumbered m).recorder.first) = mramBase := by
    rw [s.clearRec_seq m, s.clearNumbered_recorder m, Nat.sub_self, Nat.mul_zero, Nat.add_zero]
  have hnumbered : (s.clearNumbered m).f F.REC_USED_USED = 0 := hused
  rw [State.toStore, hslot, hnumbered]

theorem State.clearStore_recorder : (s.clearStore m).recorder =
    { s.recorder with queue := [], buffer := [], next := s.recorder.next + 1, first := s.recorder.next } := by
  rw [State.clearStore_eq, State.assertSrc_recorder, State.clearRec_toStore, State.put_recorder, State.wrBytes_recorder,
    State.clearNumbered_recorder]

theorem State.clearStore_mem : (s.clearStore m).mem = ((s.clearNumbered m).wrBytes mramBase (s.clearRec m).bytes).mem := by
  rw [State.clearStore_eq, State.assertSrc_mem, State.clearRec_toStore, State.put_mem]

theorem State.logFrame_clearStore : s.logFrame (s.clearStore m) := by
  rw [State.clearStore_eq]
  exact State.logFrame_trans s.logFrame_storeEmptied (State.logFrame_trans (State.logFrame_newRecord _ _ _ _ _)
    (State.logFrame_trans (State.logFrame_toStore _ _) (State.logFrame_assertSrc _ _)))

/-- The recorder's registers beside REC_USED read as in the emptied store. -/
theorem State.reg_clearStore {a : Nat} (hb : blockOf a = 15) (ha : a ≠ R.REC_USED) : (s.clearStore m).reg a = s.storeEmptied.reg a := by
  rw [State.clearStore_eq, State.reg_assertSrc _ _ (by rw [hb]; decide) (by rw [hb]; decide), State.clearRec_toStore, State.reg_put_other _ _ _ _ ha]
  exact State.reg_congr (State.wrBytes_regs _ _ _) a

theorem State.used_clearStore : (s.clearStore m).f F.REC_USED_USED = 1 := by
  rw [State.clearStore_eq, State.f_congr _ (State.reg_assertSrc _ _ (by decide) (by decide)), State.clearRec_toStore]
  exact State.f_put_same _ _ _ (by decide) (by decide)

/-- The clear leaves the Clear record of its master in slot 0 and touches no other byte (R319, R337). -/
theorem State.clearStore_memory :
    let t := s.clearStore m
    t.rd mramBase 8 = s.recorder.next % 2 ^ 64 ∧ t.rd (mramBase + 24) 2 = 0x0F01 ∧ t.rd (mramBase + 27) 1 = masterCode m ∧
      ∀ b, outside mramBase 64 b → t.byte b = s.byte b := by
  intro t
  have hrd : ∀ a n, t.rd a n = ((s.clearNumbered m).wrBytes mramBase (s.clearRec m).bytes).rd a n := fun a n =>
    State.rd_congr a n fun b _ _ => State.byte_congr (s.clearStore_mem m) b
  obtain ⟨hseq, hcode, hsource⟩ := (s.clearNumbered m).rd_wrBytes_record (a := mramBase) (by decide) (s.clearRec m)
  have hmaster : masterCode m < 2 ^ 8 := by cases m <;> decide
  refine ⟨?_, (hrd _ _).trans hcode, (hrd _ _).trans (hsource.trans (Nat.mod_eq_of_lt hmaster)), fun b hb => ?_⟩
  · rw [hrd, hseq, s.clearRec_seq m]
  · rw [State.byte_congr (s.clearStore_mem m), State.byte_wrBytes_other _ _ _ _ (by rwa [Rec.length_bytes])]
    exact State.byte_congr s.storeEmptied_mem b

end Sys2Proof.Machine
end

section
/-!
The statement of O47 (R319, R334 to R337).
-/
namespace Sys2Proof.Machine

/-- What the right response leaves (R337). -/
theorem State.rightResponse_spec (s : State) (m : Master) :
    let t := s.rightTaken.clearStore m
    t.recorder.queue = [] ∧ t.recorder.buffer = [] ∧ t.recorder.wrong = 0 ∧ t.recorder.first = s.recorder.next ∧
      t.recorder.next = s.recorder.next + 1 ∧ t.f F.REC_USED_USED = 1 ∧ t.f F.REC_STATUS_CHAL_VALID = 0 ∧ t.reg R.REC_CHAL = 0 ∧
      t.f F.REC_DROP_FULL_COUNT = 0 ∧ t.f F.REC_DROP_Q_COUNT = 0 ∧ t.f F.REC_SUPPR_COUNT = 0 ∧
      t.rd mramBase 8 = s.recorder.next % 2 ^ 64 ∧ t.rd (mramBase + 24) 2 = 0x0F01 ∧ t.rd (mramBase + 27) 1 = masterCode m ∧
      (∀ b, outside mramBase 64 b → t.byte b = s.byte b) ∧ s.logFrame t := by
  intro t
  have hrecorder : t.recorder = { s.recorder with queue := [], buffer := [], next := s.recorder.next + 1, first := s.recorder.next, wrong := 0 } :=
    s.rightTaken.clearStore_recorder m
  have hf : ∀ x : Fld, blockOf x.addr = 15 → x.addr ≠ R.REC_USED → t.f x = s.rightTaken.storeEmptied.f x := fun x hb hx =>
    State.f_congr x (s.rightTaken.reg_clearStore m hb hx)
  obtain ⟨hchal, hvalid, -⟩ := s.challengeTaken_spec
  obtain ⟨hchal', hvalid'⟩ := s.rightTaken.storeEmptied_challenge
  obtain ⟨-, hfull, hqueue, hsuppr⟩ := s.rightTaken.storeEmptied_counts
  obtain ⟨hseq, hcode, hsource, hother⟩ := s.rightTaken.clearStore_memory m
  rw [hrecorder]
  exact ⟨rfl, rfl, rfl, rfl, rfl, s.rightTaken.used_clearStore m, (hf _ (by decide) (by decide)).trans (hvalid'.trans hvalid),
    (s.rightTaken.reg_clearStore m (by decide) (by decide)).trans (hchal'.trans hchal), (hf _ (by decide) (by decide)).trans hfull,
    (hf _ (by decide) (by decide)).trans hqueue, (hf _ (by decide) (by decide)).trans hsuppr, hseq, hcode, hsource, hother,
    State.logFrame_trans s.logFrame_rightTaken (s.rightTaken.logFrame_clearStore m)⟩

/-- Settles O47: a snapshot and a window write their master's registers alone, a fetch gives the record that stands where its number says,
and a request and a response are judged in the order of R336. -/
theorem readingAndClearingTheRecord : Obligations.ReadingAndClearingTheRecord := by
  unfold Obligations.ReadingAndClearingTheRecord
  refine ⟨fun s m => ⟨fun v => ?snapshot, fun v => ⟨_, rfl, s.readWindow_spec v⟩, fun h => if_neg h, fun h => ?fetch,
    fun v hk => congrArg Host.Outcome.next (State.clearRequest_badKey hk), fun v hk hr => congrArg Host.Outcome.next (State.clearRequest_inRun hk hr),
    fun v hk hr hreq hlock => ?locked, fun v hk hr hreq hlock => ?placed, fun v hv => congrArg Host.Outcome.next (State.clearRespond_invalid v hv),
    fun v hc => congrArg Host.Outcome.next (State.clearRespond_closed v hc), fun hc hv => ⟨_, congrArg Host.Outcome.next (State.clearRespond_right hc hv),
      s.rightResponse_spec m⟩, fun v hc hv hw => ⟨_, congrArg Host.Outcome.next (State.clearRespond_wrong hc hv hw), s.wrongResponse_spec m⟩,
    ⟨_, rfl, s.challengeTaken_spec⟩, ⟨_, rfl, State.f_put_bit _ rfl (by decide) (by decide), s.regsOnly_put _ (by decide)⟩⟩,
    fun s => ⟨fun _ _ => rfl, fun _ _ => rfl, fun _ _ => rfl, fun _ _ => rfl, fun _ => exec_answers _ s, rfl, rfl⟩⟩
  case snapshot =>
    obtain ⟨hfirst, hfirst', hlast, hlast', hbuf⟩ := s.recSnapshot_spec (m := m)
    obtain ⟨hrest, hother⟩ := s.ownRegs_recSnapshot (m := m)
    exact ⟨_, rfl, hfirst, hfirst', hlast, hlast', hbuf, hother, hrest⟩
  case fetch =>
    refine ⟨fun r hl hu hr => ⟨_, State.readReady_buffered h hl hu hr, State.given_spec _ _⟩, fun hr hl hu hi => ?_, fun hq => ?_⟩
    · obtain ⟨-, hstat, hwords, hrest⟩ := State.given_spec (s := s) (m := m) (s.rdBytes (mramBase + 64 * (s.readNumber m - s.recorder.first)) 64)
        (if s.slotOk (s.readNumber m - s.recorder.first) then 7 else 3)
      exact ⟨_, State.readReady_stored h hl hu hr hi, hstat, hwords, hrest⟩
    · exact ⟨_, State.readReady_absent h hq, State.mreg_setMreg_same _ _ _ _, rfl⟩
  case locked =>
    exact congrArg Host.Outcome.next ((State.clearRequest_judged hk hr hreq).trans (if_pos ((s.b_eq_true_iff rfl).mpr hlock)))
  case placed =>
    have hopen : ¬s.b F.REC_STATUS_CLR_LOCK = true := by rw [s.b_eq_true_iff rfl, hlock]; decide
    exact ⟨_, congrArg Host.Outcome.next ((State.clearRequest_judged hk hr hreq).trans (if_neg hopen)), State.challenge_spec _ _⟩

end Sys2Proof.Machine
end

section
/-!
What a source's assertion and a recorded event leave of the interrupt controller: all but timers and pending counts (R257, R342, R345).
-/
namespace Sys2Proof.Machine

/-! ## Frames of the interrupt controller -/

/-- Of the interrupt controller's own state only timers changed. -/
def State.timersOnly (s t : State) : Prop := t.irq = { s.irq with timer := t.irq.timer }

/-- Of the interrupt controller only timers and the registers of pending counts changed. -/
def State.countsOnly (s t : State) : Prop :=
  s.timersOnly t ∧ ∀ a, blockOf a = 14 → (∀ n, a ≠ R.IRQ_COAL n) → t.reg a = s.reg a

section
variable {s t u : State}

theorem State.timersOnly_of_irq (h : t.irq = s.irq) : s.timersOnly t := by unfold State.timersOnly; rw [h]

theorem State.timersOnly_trans (h : s.timersOnly t) (h' : t.timersOnly u) : s.timersOnly u := by
  unfold State.timersOnly at *
  rw [h', h]

theorem State.timersOnly_foldl {α : Type} (g : State → α → State) (hg : ∀ (t : State) (x : α), t.timersOnly (g t x)) (l : List α) (s : State) :
    s.timersOnly (l.foldl g s) :=
  List.foldlRecOn l g (motive := fun t => s.timersOnly t) (State.timersOnly_of_irq rfl) fun t ht x _ => State.timersOnly_trans ht (hg t x)

theorem State.timersOnly.stamp (h : s.timersOnly t) : t.irq.stamp = s.irq.stamp := by rw [show t.irq = _ from h]
theorem State.timersOnly.inFlight (h : s.timersOnly t) : t.irq.inFlight = s.irq.inFlight := by rw [show t.irq = _ from h]

theorem State.countsOnly_refl (s : State) : s.countsOnly s := ⟨State.timersOnly_of_irq rfl, fun _ _ _ => rfl⟩

theorem State.countsOnly_trans (h : s.countsOnly t) (h' : t.countsOnly u) : s.countsOnly u :=
  ⟨State.timersOnly_trans h.1 h'.1, fun a ha hc => (h'.2 a ha hc).trans (h.2 a ha hc)⟩

theorem State.countsOnly_of_regs (hi : t.irq = s.irq) (hr : t.regs = s.regs) : s.countsOnly t :=
  ⟨State.timersOnly_of_irq hi, fun a _ _ => State.reg_congr hr a⟩

theorem State.countsOnly_put (s : State) {x : Fld} (v : Nat) (h : blockOf x.addr ≠ 14) : s.countsOnly (s.put x v) :=
  ⟨State.timersOnly_of_irq rfl, fun a ha _ => s.reg_put_other x v a fun e => h (e ▸ ha)⟩

end

/-! ## A source's assertion -/

section
variable (s : State) {n d : Nat}

theorem State.detect_irq (d : Nat) : (s.detect d).irq = s.irq := by
  simp only [State.detect]; split
  · simp only [State.countPend, State.put_irq, State.setBit_irq]; split <;> rfl
  · rfl

/-- The detectors that name source n have seen its assertion. -/
def State.seenBy (s : State) (n : Nat) : State := (s.detectorsOf 2 n).foldl (·.detect ·) s

theorem State.seenBy_irq (n : Nat) : (s.seenBy n).irq = s.irq :=
  List.foldlRecOn _ _ (motive := fun t : State => t.irq = s.irq) rfl fun t ht d _ => (t.detect_irq d).trans ht

theorem State.reg_seenBy (n : Nat) {a : Nat} (h : blockOf a ≠ 7) : (s.seenBy n).reg a = s.reg a :=
  s.reg_detectAll (fun _ hd => s.detectorsOf_lt hd) h

/-- The first held edge starts the timer (R345). -/
def State.timerStarted (s : State) (n : Nat) : State :=
  if s.f (F.IRQ_COAL_PCNT n) = 0 then { s with irq := { s.irq with timer := tset 0 s.irq.timer n 0 } } else s

theorem State.regs_timerStarted (n : Nat) : (s.timerStarted n).regs = s.regs := by unfold State.timerStarted; split <;> rfl

theorem State.timersOnly_timerStarted (n : Nat) : s.timersOnly (s.timerStarted n) := by unfold State.timerStarted; split <;> rfl

theorem State.timer_timerStarted (h : s.f (F.IRQ_COAL_PCNT n) = 0) : tget 0 (s.timerStarted n).irq.timer n = 0 := by
  unfold State.timerStarted
  rw [if_pos h]
  exact tget_tset_same 0 s.irq.timer n 0

theorem State.f_seenBy_en (h : n < 256) : (s.seenBy n).f (F.IRQ_CFG_EN n) = s.f (F.IRQ_CFG_EN n) :=
  State.f_congr (F.IRQ_CFG_EN n) (s.reg_seenBy n (by rw [show blockOf (F.IRQ_CFG_EN n).addr = 14 from blockOf_irqCfg h]; decide))

theorem State.f_seenBy_pcnt (h : n < 256) : (s.seenBy n).f (F.IRQ_COAL_PCNT n) = s.f (F.IRQ_COAL_PCNT n) :=
  State.f_congr (F.IRQ_COAL_PCNT n) (s.reg_seenBy n (by rw [show blockOf (F.IRQ_COAL_PCNT n).addr = 14 from blockOf_irqCoal h]; decide))

variable {s}

theorem State.assertSrc_absent (h : s.sourceExists n = false) : s.assertSrc n = s := if_neg (Bool.eq_false_iff.mp h)

/-- The assertion of a disabled source is dropped, and only detectors see it (R342, R343). -/
theorem State.assertSrc_disabled (h : s.sourceExists n = true) (hen : s.f (F.IRQ_CFG_EN n) ≠ 1) : s.assertSrc n = s.seenBy n := by
  have hb : ¬(s.seenBy n).b (F.IRQ_CFG_EN n) = true := by
    rwa [State.b_eq_true_iff _ rfl, s.f_seenBy_en (s.sourceExists_lt h)]
  exact (if_pos h).trans (if_neg hb)

/-- The assertion of an enabled source is counted, and starts its timer (R345). -/
theorem State.assertSrc_enabled (h : s.sourceExists n = true) (hen : s.f (F.IRQ_CFG_EN n) = 1) :
    s.assertSrc n = ((s.seenBy n).timerStarted n).count (F.IRQ_COAL_PCNT n) := by
  have hb : (s.seenBy n).b (F.IRQ_CFG_EN n) = true := by
    rwa [State.b_eq_true_iff _ rfl, s.f_seenBy_en (s.sourceExists_lt h)]
  exact (if_pos h).trans (if_pos hb)

/-- Everything the assertion of a source can do. -/
theorem State.assertSrc_cases (s : State) (n : Nat) : s.assertSrc n = s ∨ s.assertSrc n = s.seenBy n ∨
    s.assertSrc n = ((s.seenBy n).timerStarted n).count (F.IRQ_COAL_PCNT n) := by
  cases h : s.sourceExists n with
  | false => exact .inl (State.assertSrc_absent h)
  | true =>
    by_cases hen : s.f (F.IRQ_CFG_EN n) = 1
    · exact .inr (.inr (State.assertSrc_enabled h hen))
    · exact .inr (.inl (State.assertSrc_disabled h hen))

variable (s) (n)

/-- Beside the detectors' registers an assertion changes the register of its own pending count alone. -/
theorem State.reg_assertSrc_apart {a : Nat} (h : blockOf a ≠ 7) (hn : a ≠ R.IRQ_COAL n) : (s.assertSrc n).reg a = s.reg a := by
  rcases s.assertSrc_cases n with e | e | e <;> rw [e]
  · exact s.reg_seenBy n h
  · rw [State.reg_count_other _ _ _ _ hn, State.reg_congr (State.regs_timerStarted _ n)]
    exact s.reg_seenBy n h

theorem State.timersOnly_assertSrc : s.timersOnly (s.assertSrc n) := by
  rcases s.assertSrc_cases n with e | e | e <;> rw [e]
  · exact State.timersOnly_of_irq rfl
  · exact State.timersOnly_of_irq (s.seenBy_irq n)
  · exact State.timersOnly_trans (State.timersOnly_of_irq (s.seenBy_irq n)) (State.timersOnly_timerStarted _ n)

theorem State.countsOnly_assertSrc : s.countsOnly (s.assertSrc n) :=
  ⟨s.timersOnly_assertSrc n, fun _ ha hc => s.reg_assertSrc_apart n (by rw [ha]; decide) (hc n)⟩

end

/-! ## A recorded event -/

section
variable (s : State) (src code : Nat) (p : Payload)

theorem State.countsOnly_recorder (r : RecSt) : s.countsOnly { s with recorder := r } := State.countsOnly_of_regs rfl rfl

theorem State.countsOnly_startFlush (c : Nat) : s.countsOnly (s.startFlush c) := by
  unfold State.startFlush; split
  · exact s.countsOnly_refl
  · exact State.countsOnly_trans (s.countsOnly_recorder _) (State.countsOnly_put _ (x := F.REC_STATUS_FLUSHING) _ (by decide))

theorem State.countsOnly_fillTrigger : s.countsOnly s.fillTrigger := by
  simp only [State.fillTrigger]; split
  · exact s.countsOnly_startFlush 8
  · exact s.countsOnly_refl

theorem State.countsOnly_place : s.countsOnly (s.place src code p false) := by
  have hnew : ∀ b, s.countsOnly (s.newRecord src code p b).2 := fun _ => s.countsOnly_recorder _
  unfold State.place
  rw [if_neg (by simp)]
  split
  · exact State.countsOnly_trans (hnew true) (State.countsOnly_trans (State.countsOnly_recorder _ _) (State.countsOnly_fillTrigger _))
  · exact State.countsOnly_trans (hnew false) (State.countsOnly_recorder _ _)

theorem State.countsOnly_accept : s.countsOnly (s.accept src code p false).2 := by
  simp only [State.accept]; split
  · exact s.countsOnly_refl
  · split
    · exact s.countsOnly_put (x := F.REC_DROP_FULL_COUNT) _ (by decide)
    · split
      · exact s.countsOnly_put (x := F.REC_DROP_Q_COUNT) _ (by decide)
      · split
        · exact State.countsOnly_trans (s.countsOnly_place _ _ _) (State.countsOnly_trans (State.countsOnly_put _ (x := F.REC_STATUS_FULL) _ (by decide))
            (State.countsOnly_trans (State.countsOnly_assertSrc _ _) (State.countsOnly_put _ (x := F.REC_DROP_FULL_COUNT) _ (by decide))))
        · exact s.countsOnly_place _ _ _

theorem blockOf_rlsup {b : Nat} (h : b < 1024) : blockOf (F.REC_RLSUP_COUNT b).addr ≠ 14 := by
  simp only [F.REC_RLSUP_COUNT, R.REC_RLSUP, blockOf]
  omega

theorem State.countsOnly_suppress {b : Nat} (h : b ≤ 1024) : s.countsOnly (s.suppress b code) := by
  simp only [State.suppress]
  refine State.countsOnly_trans (State.countsOnly_trans ?_ (State.countsOnly_put _ (x := F.REC_SUPPR_COUNT) _ (by decide)))
    (State.countsOnly_recorder _ _)
  split
  · exact s.countsOnly_put (x := F.REC_RLDSUP_COUNT) _ (by decide)
  · exact s.countsOnly_put _ (blockOf_rlsup (by omega))

theorem State.countsOnly_summarise : s.countsOnly (s.summarise code) := by
  unfold State.summarise; split
  · next x _ =>
    have h := s.countsOnly_accept 0x10 0x0F02 (payW [x.code, x.count, x.first, x.last])
    split
    · next e => rw [e] at h; exact State.countsOnly_trans h (State.countsOnly_recorder _ _)
    · next e => rw [e] at h; exact h
  · exact s.countsOnly_refl

theorem State.countsOnly_flushOn (fs : Bool) : s.countsOnly (s.flushOn code fs) := by
  unfold State.flushOn; split
  · split
    · exact s.countsOnly_startFlush _
    · exact s.countsOnly_refl
  · exact s.countsOnly_refl

theorem State.countsOnly_spend (b : Nat) : s.countsOnly (s.spend b code) := by
  unfold State.spend; split
  · exact s.countsOnly_refl
  · exact s.countsOnly_recorder _

theorem State.countsOnly_offerRec : s.countsOnly (s.offerRec src code p).2 := by
  unfold State.offerRec; split
  · exact s.countsOnly_put (x := F.REC_DROP_FULL_COUNT) _ (by decide)
  · dsimp only; split
    · exact s.countsOnly_suppress _ (s.bucketOf_le code)
    · exact State.countsOnly_trans (s.countsOnly_spend _ _) (State.countsOnly_trans (State.countsOnly_summarise _ _) (State.countsOnly_accept _ _ _ _))

theorem State.countsOnly_record (fs : Bool) : s.countsOnly (s.record code p fs) := by
  unfold State.record State.offer; split
  · exact s.countsOnly_refl
  · exact State.countsOnly_trans (s.countsOnly_offerRec _ _ _) (State.countsOnly_flushOn _ _ _)

theorem State.countsOnly_event (l : List Nat) : s.countsOnly (s.event code l) := s.countsOnly_record _ _ _

end
end Sys2Proof.Machine
end

section
/-!
The choice of the cores leaves deliveries as they are: whatever ends, starts or is recorded there, only timers of sources change (R180, R185, R345).
-/
namespace Sys2Proof.Machine

variable (s : State)

/-! ## The end of a window -/

theorem State.scanComplete_irq : s.scanComplete.irq = s.irq := by
  unfold State.scanComplete
  dsimp only
  split <;> rfl

theorem State.commitCan_irq : s.commitCan.irq = s.irq := by
  refine List.foldlRecOn _ _ (motive := fun t : State => t.irq = s.irq) rfl fun t ht k _ => ?_
  refine Eq.trans (State.setCan_irq _ _ _) (List.foldlRecOn _ _ (motive := fun u : State => u.irq = s.irq) ht fun u hu b _ => ?_)
  exact (u.setBit_irq _ b false).trans hu

theorem State.commitGrz_irq : s.commitGrz.irq = s.irq := rfl

theorem State.irq_withOut (o : OutSt) : ({ s with out := o } : State).irq = s.irq := rfl

theorem State.commitOutputs_irq : s.commitOutputs.irq = s.irq := by
  unfold State.commitOutputs
  exact (State.commitGrz_irq _).trans ((State.commitCan_irq _).trans (s.irq_withOut _))

theorem State.reloadCan_irq (k : Nat) : (s.reloadCan k).irq = s.irq := by
  refine List.foldlRecOn _ _ (motive := fun t : State => t.irq = s.irq) rfl fun t ht b _ => ?_
  dsimp only
  split
  · exact (State.wrBytes_irq _ _ _).trans ht
  · exact ht

theorem State.reloadGrz_irq : s.reloadGrz.irq = s.irq := by
  refine List.foldlRecOn _ _ (motive := fun t : State => t.irq = s.irq) rfl fun t ht n _ => ?_
  split
  · exact (State.wrBytes_irq _ _ _).trans ht
  · exact ht

theorem State.irq_foldl {α : Type} (g : State → α → State) (hg : ∀ (t : State) (x : α), (g t x).irq = t.irq) (l : List α) (s : State) :
    (l.foldl g s).irq = s.irq :=
  List.foldlRecOn l g (motive := fun t => t.irq = s.irq) rfl fun t ht x _ => (hg t x).trans ht

theorem State.reloadStaged_irq : s.reloadStaged.irq = s.irq := by
  unfold State.reloadStaged
  refine (State.reloadGrz_irq _).trans ((State.irq_foldl _ (fun t k => t.reloadCan_irq k) _ _).trans ((State.irq_foldl _ (fun t e => ?_) _ _).trans
    ((State.irq_foldl _ (fun t e => ?_) _ _).trans (State.irq_foldl _ (fun t e => ?_) _ _))))
  all_goals split <;> rfl

theorem State.settleComplete_irq : s.settleComplete.irq = s.irq := by
  unfold State.settleComplete
  dsimp only
  split
  · unfold State.settled
    split
    · exact State.commitOutputs_irq _
    · exact State.reloadStaged_irq _
  · rfl

/-- A task that has ended leaves Scan, and the last one due completes it. -/
def State.leaveScan (s : State) (c : Nat) : State :=
  if s.cml.scanLeft.contains c then
    let l := s.cml.scanLeft.filter (· ≠ c)
    let s := { s with cml := { s.cml with scanLeft := l } }
    if l = [] ∧ s.cml.scanOpen then s.scanComplete else s
  else s

/-- A task that has ended leaves Settle, and the last one due completes it. -/
def State.leaveSettle (s : State) (c : Nat) : State :=
  if s.cml.settleLeft.contains c then
    let l := s.cml.settleLeft.filter (· ≠ c)
    let s := { s with cml := { s.cml with settleLeft := l } }
    if l = [] ∧ s.cml.settleOpen then s.settleComplete else s
  else s

theorem State.leaveWindow_eq (c : Nat) : s.leaveWindow c = (s.leaveScan c).leaveSettle c := rfl

theorem State.leaveScan_irq (c : Nat) : (s.leaveScan c).irq = s.irq := by
  unfold State.leaveScan
  split
  · dsimp only
    split
    · exact State.scanComplete_irq _
    · rfl
  · rfl

theorem State.leaveSettle_irq (c : Nat) : (s.leaveSettle c).irq = s.irq := by
  unfold State.leaveSettle
  split
  · dsimp only
    split
    · exact State.settleComplete_irq _
    · rfl
  · rfl

theorem State.leaveWindow_irq (c : Nat) : (s.leaveWindow c).irq = s.irq := by
  rw [State.leaveWindow_eq]
  exact (State.leaveSettle_irq _ c).trans (s.leaveScan_irq c)

/-! ## The end of an activation -/

theorem State.endFb_irq (d : Bool) : (s.endFb d).irq = s.irq := by
  unfold State.endFb
  split
  · dsimp only
    split <;> rfl
  · rfl

theorem State.setDepth_irq (c v : Nat) : (s.setDepth c v).irq = s.irq := State.wr_irq _ _ _ _

theorem State.modAct_irq (c : Nat) (g : Act → Act) : (s.modAct c g).irq = s.irq := by unfold State.modAct; split <;> rfl

/-- The registers that show the end of an activation. -/
def State.endShown (s : State) (c run : Nat) (done : Bool) : State :=
  let u := (s.put (F.CML_TSTAT_STATE c) 0).put (F.CML_TSTAT_RUN_US c) (min 0xFFFF (run / 500))
  if done then u.put (F.CML_TSTAT_DONE c) 1 else u.put (F.CML_TSTAT_STOPPED c) 1

theorem State.endShown_irq (c run : Nat) (done : Bool) : (s.endShown c run done).irq = s.irq := by
  unfold State.endShown
  cases done <;> rfl

/-- An activation that ends leaves its window and the table of activations, and one that is held pending takes its place. -/
theorem State.endAct_active {c : Nat} {a : Act} (h : s.act? c = some a) (done : Bool) :
    s.endAct c done =
      let u := ((s.setDepth c 0).endShown c a.run done).withoutAct c
      (if done then u.leaveWindow c else u).takeHeld c := by
  unfold State.endAct State.takeHeld State.withoutAct State.endShown
  rw [h]

theorem State.withoutAct_irq (c : Nat) : (s.withoutAct c).irq = s.irq := rfl

theorem State.takeHeld_irq (c : Nat) : (s.takeHeld c).irq = s.irq := by unfold State.takeHeld; split <;> rfl

theorem State.endAct_irq (c : Nat) (done : Bool) : (s.endAct c done).irq = s.irq := by
  cases h : s.act? c with
  | none =>
    unfold State.endAct
    rw [h]
    dsimp only
    split
    · exact (State.endFb_irq _ _).trans (s.setDepth_irq c 0)
    · exact s.setDepth_irq c 0
  | some a =>
    have hgone : (((s.setDepth c 0).endShown c a.run done).withoutAct c).irq = s.irq :=
      (State.withoutAct_irq _ c).trans ((State.endShown_irq _ _ _ _).trans (s.setDepth_irq c 0))
    rw [s.endAct_active h done]
    refine (State.takeHeld_irq _ c).trans ?_
    split
    · exact (State.leaveWindow_irq _ c).trans hgone
    · exact hgone

/-! ## Entry to Stop -/

theorem State.irq_withCml (c : CmlSt) : ({ s with cml := c } : State).irq = s.irq := rfl

theorem State.dropTasks_irq : s.dropTasks.irq = s.irq := by
  unfold State.dropTasks
  refine (State.irq_foldl _ (fun t n => ?_) _ _).trans ((State.irq_withCml _ _).trans
    ((State.irq_foldl _ (fun t c => ?_) _ _).trans (State.irq_foldl _ (fun t e => ?_) _ _)))
  · split <;> rfl
  · rfl
  · rfl

theorem State.setClaim_irq (c : Bool) : (s.setClaim c).irq = s.irq := by
  unfold State.setClaim
  dsimp only
  split <;> rfl

theorem State.timersOnly_event (code : Nat) (l : List Nat) : s.timersOnly (s.event code l) := (s.countsOnly_event code l).1

theorem State.timersOnly_startFails : s.timersOnly s.startFails := State.timersOnly_event _ _ _

theorem State.timersOnly_enterStop (cause : Nat) : s.timersOnly (s.enterStop cause) := by
  have hpend : ∀ (t : State) (n : Nat) (p : Prop) [Decidable p],
      t.timersOnly (if p then (t.put F.PRG_MODE_PEND 0).event 0x0307 [n] else t.put F.PRG_MODE_PEND 0) := fun t n p _ => by
    split
    · exact State.timersOnly_event (t.put F.PRG_MODE_PEND 0) _ _
    · exact State.timersOnly_of_irq rfl
  have hfails : ∀ (t : State) (b : Bool), t.timersOnly (if b then t.startFails else t) := fun t b => by
    split
    · exact t.timersOnly_startFails
    · exact State.timersOnly_of_irq rfl
  have hclaim : ∀ (t : State) (b : Bool), t.timersOnly (if b then t.setClaim false else t.refreshRole) := fun t b => by
    split
    · exact State.timersOnly_of_irq (t.setClaim_irq false)
    · exact State.timersOnly_of_irq rfl
  have hwork : ∀ (t : State) (o : OutSt) (q : AzsSt), t.dropExchange.dropTasks.timersOnly { t.dropExchange.dropTasks with out := o, azs := q } :=
    fun _ _ _ => State.timersOnly_of_irq rfl
  have hdrop : ∀ t : State, t.timersOnly t.dropExchange.dropTasks := fun t => State.timersOnly_of_irq (State.dropTasks_irq _)
  unfold State.enterStop
  dsimp only
  refine State.timersOnly_trans ?_ (hclaim _ _)
  refine State.timersOnly_trans ?_ (hfails _ _)
  refine State.timersOnly_trans ?_ (hwork _ _ _)
  refine State.timersOnly_trans ?_ (hdrop _)
  exact hpend _ _ _

/-! ## Exceptions -/

theorem State.excLatched_irq (c code pc : Nat) : (s.excLatched c code pc).irq = s.irq := by unfold State.excLatched; split <;> rfl

theorem State.timersOnly_noteExc (c : Nat) (e : Exc) : s.timersOnly (s.noteExc c e) := by
  have hrecord := ((s.put (F.CML_TSTAT_EXC c) e.code).countsOnly_record 0x0200 (payW [c, s.pc c, e.code])
    (decide (2 ≤ cfgExcAct ((s.put (F.CML_TSTAT_EXC c) e.code).curCfg c)))).1
  rw [s.noteExc_eq]
  exact State.timersOnly_trans (State.timersOnly_trans (show s.timersOnly _ from hrecord) (State.timersOnly_assertSrc _ 8))
    (State.timersOnly_of_irq (State.excLatched_irq _ c e.code (s.pc c)))

theorem State.timersOnly_excAct (c : Nat) : s.timersOnly (s.excAct c) := by
  unfold State.excAct
  split
  · exact State.timersOnly_of_irq (s.endAct_irq c true)
  · exact State.timersOnly_of_irq rfl
  · exact s.timersOnly_enterStop 3

theorem State.enterAt_irq (c pc ib tb : Nat) : ((((s.setPc c pc).setIb c ib).setTb c tb).setDepth c 0).irq = s.irq := by
  simp only [State.setDepth, State.setTb, State.setIb, State.setPc, State.wr_irq]

theorem State.timersOnly_enterTask (c : Nat) (a : Act) : s.timersOnly (s.enterTask c a) := by
  have hmod : ∀ g : Act → Act, s.timersOnly (s.modAct c g) := fun g => State.timersOnly_of_irq (s.modAct_irq c g)
  unfold State.enterTask
  dsimp only
  split
  · exact State.timersOnly_trans (hmod _) (State.timersOnly_of_irq (State.enterAt_irq _ c _ _ _))
  · exact State.timersOnly_trans (hmod _) (State.timersOnly_noteExc _ c .inst)

theorem State.timersOnly_enterTasks (l : List (Nat × Act)) : s.timersOnly (s.enterTasks l) := by
  unfold State.enterTasks
  dsimp only
  refine State.timersOnly_trans (State.timersOnly_foldl _ (fun t e => ?_) _ s) (State.timersOnly_foldl _ (fun t e => ?_) _ _)
  · exact t.timersOnly_enterTask e.1 e.2
  · exact t.timersOnly_excAct e.1

/-! ## The choice of the cores -/

theorem State.showCores_irq : s.showCores.irq = s.irq := by
  unfold State.showCores
  refine (State.irq_foldl _ (fun t e => ?_) _ _).trans ((State.irq_foldl _ (fun t c => ?_) _ _).trans
    ((State.put_irq _ _ _).trans (State.irq_foldl _ (fun t n => ?_) _ _)))
  · split
    · exact t.modAct_irq _ _
    · split
      · exact t.modAct_irq _ _
      · split
        · exact t.modAct_irq _ _
        · rfl
  · rfl
  · split
    · rfl
    · split <;> rfl

theorem State.timersOnly_reschedule (n : Nat) (s : State) : s.timersOnly (s.reschedule n) := by
  induction n generalizing s with
  | zero => exact State.timersOnly_of_irq rfl
  | succ n ih =>
    have hchosen : s.timersOnly s.judgeWaits.showCores := State.timersOnly_of_irq (State.showCores_irq _)
    unfold State.reschedule
    dsimp only
    split
    · exact hchosen
    · exact State.timersOnly_trans (State.timersOnly_trans hchosen (State.timersOnly_enterTasks _ _)) (ih _)

/-- Whatever the cores run from here on, of the interrupt controller only timers change. -/
theorem State.timersOnly_sched : s.timersOnly s.sched := State.timersOnly_reschedule _ s

end Sys2Proof.Machine
end

section
/-!
A source's assertion as its detectors and its timer see it, and the time up to the end of the timer (R257, R343, R345).
-/
namespace Sys2Proof.Machine

/-! ## The detectors -/

section
variable {s : State} {n d : Nat}

/-- A detection leaves every detector's map in force. -/
theorem State.map_detect (hd : d < 256) (e : Nat) : (s.detect d).eff (R.SHD_MAP e) = s.eff (R.SHD_MAP e) := by
  by_cases h : bitsOf (s.eff (R.SHD_MAP d)) 31 31 = 1
  · obtain ⟨-, -, -, -, hrest, hreg⟩ := State.detect_latches hd h
    refine State.eff_congr (hreg _ ?_) (by have e := congrArg State.inForce hrest; exact e)
    simp only [List.mem_cons, List.not_mem_nil, or_false, R.SHD_MAP, R.SHD_PEND, R.SHD_LASTDET, R.SHD_STATUS]
    omega
  · rw [State.detect, if_neg h]

/-- A latched detection stays latched, and an enabled detector latches. -/
theorem State.bit_detect_of {j : Nat} (hd : d < 256) (hj : j < 256)
    (h : s.bit (R.SHD_PEND 0) j = true ∨ (j = d ∧ bitsOf (s.eff (R.SHD_MAP j)) 31 31 = 1)) : (s.detect d).bit (R.SHD_PEND 0) j = true := by
  by_cases he : bitsOf (s.eff (R.SHD_MAP d)) 31 31 = 1
  · obtain ⟨hset, hother, -⟩ := State.detect_latches hd he
    by_cases hjd : j = d
    · exact hjd ▸ hset
    · exact (hother j hj hjd).trans (h.resolve_right fun e => hjd e.1)
  · rw [State.detect, if_neg he]
    exact h.resolve_right fun e => he (e.1 ▸ e.2)

theorem State.bit_detectAll_of {l : List Nat} {j : Nat} (hl : ∀ d ∈ l, d < 256) (hj : j < 256)
    (h : s.bit (R.SHD_PEND 0) j = true ∨ (j ∈ l ∧ bitsOf (s.eff (R.SHD_MAP j)) 31 31 = 1)) :
    (l.foldl (·.detect ·) s).bit (R.SHD_PEND 0) j = true := by
  induction l generalizing s with
  | nil => exact h.resolve_right fun e => List.not_mem_nil e.1
  | cons d l ih =>
    have hd := hl d (List.mem_cons_self ..)
    refine ih (fun x hx => hl x (List.mem_cons_of_mem _ hx)) ?_
    rw [State.map_detect hd]
    rcases h with hset | ⟨hm, he⟩
    · exact .inl (State.bit_detect_of hd hj (.inl hset))
    · rcases List.mem_cons.mp hm with rfl | hm
      · exact .inl (State.bit_detect_of hd hj (.inr ⟨rfl, he⟩))
      · exact .inr ⟨hm, he⟩

/-- The detectors that name an event are enabled. -/
theorem State.enabled_of_detectorsOf {src unit : Nat} (h : d ∈ s.detectorsOf src unit) : bitsOf (s.eff (R.SHD_MAP d)) 31 31 = 1 := by
  simp only [State.detectorsOf, State.listedEff, List.mem_filterMap, List.mem_range] at h
  obtain ⟨e, ⟨i, -, hi⟩, h⟩ := h
  obtain rfl := Option.some.inj (Option.ite_none_right_eq_some.mp hi).2
  obtain ⟨⟨hen, -⟩, hd⟩ := Option.ite_none_right_eq_some.mp h
  obtain rfl := Option.some.inj hd
  exact hen

/-- Every detector that names a source has latched its assertion. -/
theorem State.bit_seenBy (h : d ∈ s.detectorsOf 2 n) : (s.seenBy n).bit (R.SHD_PEND 0) d = true :=
  State.bit_detectAll_of (fun _ hx => s.detectorsOf_lt hx) (s.detectorsOf_lt h) (.inr ⟨h, State.enabled_of_detectorsOf h⟩)

/-! ## The assertion -/

/-- What the timer and the count leave of the registers: all but the source's own. -/
theorem State.reg_counted (s : State) (n : Nat) {a : Nat} (h : a ≠ R.IRQ_COAL n) :
    ((s.timerStarted n).count (F.IRQ_COAL_PCNT n)).reg a = s.reg a :=
  (State.reg_count_other _ _ _ _ h).trans (State.reg_congr (s.regs_timerStarted n) a)

theorem pend_ne_coal {d : Nat} (h : d < 256) : R.SHD_PEND 0 + 4 * (d / 32) ≠ R.IRQ_COAL n := by
  simp only [R.SHD_PEND, R.IRQ_COAL]
  omega

theorem State.bit_assertSrc (h : s.sourceExists n = true) (hd : d ∈ s.detectorsOf 2 n) : (s.assertSrc n).bit (R.SHD_PEND 0) d = true := by
  by_cases hen : s.f (F.IRQ_CFG_EN n) = 1
  · rw [State.assertSrc_enabled h hen, State.bit, State.reg_counted _ _ (pend_ne_coal (s.detectorsOf_lt hd))]
    exact State.bit_seenBy hd
  · rw [State.assertSrc_disabled h hen]
    exact State.bit_seenBy hd

theorem State.timer_assertSrc (h : s.sourceExists n = true) (hen : s.f (F.IRQ_CFG_EN n) = 1) (h0 : s.f (F.IRQ_COAL_PCNT n) = 0) :
    tget 0 (s.assertSrc n).irq.timer n = 0 := by
  rw [State.assertSrc_enabled h hen]
  exact State.timer_timerStarted _ ((s.f_seenBy_pcnt (s.sourceExists_lt h)).trans h0)

/-- The assertion of a source that exists: its count, its timer, its detectors, and nothing else. -/
theorem State.assertSrc_spec (h : s.sourceExists n = true) :
    let t := s.assertSrc n
    t.f (F.IRQ_COAL_PCNT n) = s.upCount n ∧
      (s.f (F.IRQ_CFG_EN n) = 1 → s.f (F.IRQ_COAL_PCNT n) = 0 → tget 0 t.irq.timer n = 0) ∧
      (s.f (F.IRQ_CFG_EN n) = 0 → t.irq = s.irq) ∧
      (∀ d, d ∈ s.detectorsOf 2 n → t.bit (R.SHD_PEND 0) d = true) ∧ t.mem = s.mem ∧
      (∀ a, blockOf a ≠ 7 → a ≠ R.IRQ_COAL n → t.reg a = s.reg a) ∧ ({ t with regs := s.regs, irq := s.irq, shd := s.shd } : State) = s := by
  have hmem := s.assertSrc_mem n
  refine ⟨s.pcnt_assertSrc h, State.timer_assertSrc h, fun hen => ?_, fun d hd => State.bit_assertSrc h hd, hmem,
    fun a h7 hn => s.reg_assertSrc_apart n h7 hn, ?_⟩
  · rw [State.assertSrc_disabled h (by rw [hen]; decide)]
    exact s.seenBy_irq n
  · have hrest := (s.logFrame_assertSrc n).1
    have hrec := s.assertSrc_recorder n
    generalize s.assertSrc n = t at hmem hrest hrec ⊢
    rwa [← hmem, ← hrec] at hrest
end

/-! ## The timers -/

section
variable {s : State} {k n : Nat}

/-- No register of the interrupt controller comes out of reset with a pending count. -/
theorem pcnt_regReset {a : Nat} (h : blockOf a = 14) : bitsOf (regReset a) 23 16 = 0 := by
  have hrows : ∀ r ∈ regRows 14, bitsOf (BitVec.ofNat 32 r.reset) 23 16 = 0 := by decide
  unfold regReset regInfo?
  rw [h]
  split
  · next r hr => exact hrows r (List.mem_of_find?_eq_some hr)
  · rfl

theorem mem_of_tget? {β : Type} {l : Tbl β} {v : β} (h : tget? l k = some v) : (k, v) ∈ l := by
  induction l with
  | nil => cases h
  | cons e l ih =>
    obtain ⟨j, w⟩ := e
    unfold tget? at h
    split at h
    · next hj => obtain rfl := Option.some.inj h; rw [hj]; exact List.mem_cons_self ..
    · exact List.mem_cons_of_mem _ (ih h)

/-- A source with a pending count is among those whose timers count. -/
theorem State.mem_held (hk : k < 256) (h : 0 < s.f (F.IRQ_COAL_PCNT k)) : k ∈ s.held := by
  have hreg : bitsOf (s.reg (R.IRQ_COAL k)) 23 16 ≠ 0 := h.ne'
  cases hl : tget? s.regs (R.IRQ_COAL k) with
  | none =>
    rw [State.reg, tget, hl] at hreg
    exact absurd (pcnt_regReset (blockOf_irqCoal hk)) hreg
  | some v =>
    rw [State.reg, tget, hl] at hreg
    refine List.mem_filterMap.mpr ⟨(k, v), List.mem_filterMap.mpr ⟨_, mem_of_tget? hl, ?_⟩, if_pos hreg⟩
    have hin : R.IRQ_COAL 0 ≤ R.IRQ_COAL k ∧ R.IRQ_COAL k < R.IRQ_COAL 0 + 8 * 256 ∧ (R.IRQ_COAL k - R.IRQ_COAL 0) % 8 = 0 := by
      simp only [R.IRQ_COAL]; omega
    have hdiv : (R.IRQ_COAL k - R.IRQ_COAL 0) / 8 = k := by simp only [R.IRQ_COAL]; omega
    exact (if_pos hin).trans (by rw [hdiv])

theorem tget_listed {β : Type} (d : β) (g : Nat → β) {l : List Nat} (h : k ∈ l) : tget d (l.map fun j => (j, g j)) k = g k := by
  induction l with
  | nil => cases h
  | cons j l ih =>
    unfold tget at ih ⊢
    by_cases hj : j = k
    · subst hj; simp [tget?]
    · simpa only [List.map_cons, tget?, if_neg hj] using ih ((List.mem_cons.mp h).resolve_left (Ne.symm hj))

theorem State.refreshLeap_irq (s : State) : s.refreshLeap.irq = s.irq := by
  unfold State.refreshLeap
  dsimp only
  split <;> rfl

theorem State.countBase_irq (s : State) (n b : Nat) : (s.countBase n b).irq = s.irq := by
  unfold State.countBase
  dsimp only
  exact s.setBase_irq b _

theorem State.countBases_irq (s : State) (n : Nat) : (s.countBases n).irq = s.irq := by
  have hleap : ∀ t : State, (if (t.base 1).sec = (s.base 1).sec then t else t.refreshLeap).irq = t.irq := fun t => by
    split
    · rfl
    · exact t.refreshLeap_irq
  unfold State.countBases
  exact (hleap _).trans (State.irq_foldl _ (fun t b => t.countBase_irq n b) _ _)

theorem State.countCalendar_irq (s : State) (n : Nat) : (s.countCalendar n).irq = s.irq := by
  have haon : ∀ o : AonSt, ({ s with aon := o } : State).irq = s.irq := fun _ => rfl
  unfold State.countCalendar
  split
  · exact haon _
  · rfl

theorem State.countTick_irq (s : State) (n : Nat) : (s.countTick n).irq = s.irq := by
  unfold State.countTick
  dsimp only
  exact s.put_irq _ _

theorem State.countCores_irq (s : State) (n : Nat) : (s.countCores n).irq = s.irq := by
  refine List.foldlRecOn _ _ (motive := fun t : State => t.irq = s.irq) rfl fun t ht k _ => ?_
  dsimp only
  split
  · exact ht
  · exact (State.modAct_irq _ _ _).trans ht

/-- The state of the time bases as n cycles have passed, before the timers count them. -/
def State.basesPassed (s : State) (n : Nat) : State := (s.countCalendar n).countBases n

theorem State.elapse_irq (h : s.sys.inReset = false) : (s.elapse n).irq = ((s.basesPassed n).countTimers n).irq := by
  have hr : ¬(s.countCalendar n).sys.inReset = true := by
    have hsys := congrArg State.sys (s.countCalendar_still n)
    rw [show (s.countCalendar n).sys = s.sys from hsys, h]
    decide
  have htick : ∀ t : State, (if t.tick.running then (t.countTick n).countCores n else t).irq = t.irq := fun t => by
    split
    · exact (State.countCores_irq _ n).trans (t.countTick_irq n)
    · rfl
  unfold State.elapse State.basesPassed
  dsimp only
  rw [if_neg hr]
  exact htick _

/-- The timer of a source with a pending count stands n cycles later after n cycles (R345). -/
theorem State.timer_elapse (h : s.sys.inReset = false) (hk : k < 256) (hp : 0 < s.f (F.IRQ_COAL_PCNT k)) :
    tget 0 (s.elapse n).irq.timer k = tget 0 s.irq.timer k + n := by
  have hirq : (s.basesPassed n).irq = s.irq := (State.countBases_irq _ n).trans (s.countCalendar_irq n)
  have hreg : (s.basesPassed n).reg (R.IRQ_COAL k) = s.reg (R.IRQ_COAL k) :=
    (State.reg_countBases _ n (by rw [blockOf_irqCoal hk]; decide)).trans (State.reg_congr (s.regs_countCalendar n) _)
  have hheld : k ∈ (s.basesPassed n).held := State.mem_held hk (by rwa [State.f_congr (F.IRQ_COAL_PCNT k) hreg])
  rw [State.elapse_irq h, ← hirq]
  exact tget_listed 0 (fun j => tget 0 (s.basesPassed n).irq.timer j + n) hheld

/-! ## COALESCE_TIMEOUT -/

/-- The cycles up to the end of source k's timer. -/
def State.timerLeft (s : State) (k : Nat) : Nat := 500 * s.f (F.IRQ_COAL_TIME k) - tget 0 s.irq.timer k

theorem State.coalesced_idle (h : s.f (F.IRQ_COAL_PCNT k) = 0 ∨ s.f (F.IRQ_COAL_TIME k) = 0) : s.coalesced k = s := if_neg (by omega)

section
variable (hp : 0 < s.f (F.IRQ_COAL_PCNT k)) (ht : 0 < s.f (F.IRQ_COAL_TIME k))
include hp ht

theorem State.coalesced_beyond (h : s.comesAt (s.timerLeft k) = none) : s.coalesced k = s :=
  (if_pos ⟨hp, ht⟩).trans (State.whenDue_of_none id h)

theorem State.coalesced_due {u : State} (h : s.comesAt (s.timerLeft k) = some u) : s.coalesced k = u :=
  (if_pos ⟨hp, ht⟩).trans (State.whenDue_of_some id h)

/-- At the end of its timer a source is ready. -/
theorem State.srcReady_due {u : State} (hk : k < 256) (h : s.comesAt (s.timerLeft k) = some u) (hr : s.sys.inReset = false) : u.srcReady k = true := by
  have hready : ∀ v : State, v.f (F.IRQ_COAL_PCNT k) = s.f (F.IRQ_COAL_PCNT k) → v.f (F.IRQ_COAL_TIME k) = s.f (F.IRQ_COAL_TIME k) →
      500 * s.f (F.IRQ_COAL_TIME k) ≤ tget 0 v.irq.timer k → v.srcReady k = true := fun v h1 h2 h3 => by
    simp only [State.srcReady, usCycles, h1, h2, Bool.or_eq_true, Bool.and_eq_true, decide_eq_true_eq]
    exact .inr ⟨⟨ht, hp⟩, h3⟩
  have hkept : ∀ x : Fld, x.addr = R.IRQ_COAL k → u.f x = s.f x := fun x hx => by
    refine State.comesAt_f h x ?_ ?_
    · rw [hx, blockOf_irqCoal hk]; decide
    · rw [hx]; simp only [R.IRQ_COAL, R.TICK_PHASE]; omega
  refine hready u (hkept _ rfl) (hkept _ rfl) ?_
  unfold State.comesAt at h
  split at h
  · next h0 => obtain rfl := Option.some.inj h; unfold State.timerLeft at h0; omega
  · split at h
    · cases h
    · obtain rfl := Option.some.inj h
      rw [State.timer_elapse hr hk hp]
      unfold State.timerLeft
      omega

end
end
end Sys2Proof.Machine
end

section
/-!
Deliveries at their cycle D (R216, R339, R340, R345 to R347).
-/
namespace Sys2Proof.Machine

variable {s : State} {j n t : Nat}

/-- Cycle D keeps the registers but the source's own. -/
theorem State.reg_begin {a : Nat} (h : a ≠ R.IRQ_COAL n) : (s.begin_ n t).reg a = s.reg a :=
  (State.reg_congr rfl a).trans (s.reg_put_other (F.IRQ_COAL_PCNT n) 0 a h)

theorem State.pcnt_begin : (s.begin_ n t).f (F.IRQ_COAL_PCNT n) = 0 :=
  (State.f_congr _ (State.reg_congr rfl _)).trans ((s.f_put_same (F.IRQ_COAL_PCNT n) 0 (show 16 ≤ 23 by decide) (show 23 < 32 by decide)).trans rfl)

/-- The delivery that cycle D begins (R347, R349). -/
def State.deliveryOf (s : State) (n t : Nat) : Delivery :=
  ⟨n, t, s.f (F.IRQ_COAL_PCNT n), (s.irq.awaiting.filter (·.1 = n)).map (·.2), if n = 193 then s.irq.partnerSrc else n⟩

theorem State.begin_irq : (s.begin_ n t).irq =
    { s.irq with timer := tdel s.irq.timer n, awaiting := s.irq.awaiting.filter (·.1 ≠ n), inFlight := s.irq.inFlight ++ [s.deliveryOf n t] } := rfl

theorem State.regsOnly_begin : ({ s with irq := (s.begin_ n t).irq } : State).regsOnly (s.begin_ n t) [R.IRQ_COAL n] :=
  ⟨rfl, fun _ ha => State.reg_begin fun e => ha (List.mem_singleton.mpr e)⟩

/-! ## DELIVERY -/

theorem State.deliver_waits (h : s.prg.swapping = true ∨ s.nextSource = none) : s.deliver = s := by
  unfold State.deliver
  rcases h with h | h <;> rw [h]
  · rfl
  · split <;> rfl

theorem State.deliver_begins (hw : s.prg.swapping = false) (hn : s.nextSource = some j) (ht : s.target j = some t) :
    s.deliver = (s.begin_ j t).put F.IRQ_STATUS_RR t := by
  unfold State.deliver
  rw [hw, hn]
  dsimp only
  rw [ht]
  rfl

/-- What a delivery takes with it, and the rotation pointer it leaves. -/
theorem State.deliver_spec (hw : s.prg.swapping = false) (hn : s.nextSource = some j) (ht : s.target j = some t) (h8 : t < 8) :
    let u := s.deliver
    u.irq.inFlight = s.irq.inFlight ++ [s.deliveryOf j t] ∧ u.f (F.IRQ_COAL_PCNT j) = 0 ∧ u.f F.IRQ_STATUS_RR = t ∧ tget? u.irq.timer j = none ∧
      ({ s with irq := u.irq } : State).regsOnly u [R.IRQ_COAL j, R.IRQ_STATUS] := by
  have hne : (F.IRQ_COAL_PCNT j).addr ≠ F.IRQ_STATUS_RR.addr := by
    simp only [F.IRQ_COAL_PCNT, F.IRQ_STATUS_RR, R.IRQ_COAL, R.IRQ_STATUS]
    omega
  have hbegin : ({ s with irq := (s.begin_ j t).irq } : State).regsOnly ((s.begin_ j t).put F.IRQ_STATUS_RR t) [R.IRQ_COAL j, R.IRQ_STATUS] :=
    State.regsOnly_trans (State.regsOnly_begin.mono (by simp)) (State.regsOnly_put _ t (by simp [F.IRQ_STATUS_RR]))
  intro u
  rw [show u = (s.begin_ j t).put F.IRQ_STATUS_RR t from State.deliver_begins hw hn ht, State.put_irq, State.begin_irq]
  rw [State.begin_irq] at hbegin
  refine ⟨rfl, ?_, ?_, tget?_tdel_same _ _, hbegin⟩
  · rw [State.f_put_addr _ _ _ _ hne, State.pcnt_begin]
  · rw [State.f_put_same _ _ _ (by decide) (by decide)]
    exact Nat.mod_eq_of_lt h8

/-! ## STAMP_ONLY_DELIVERY -/

/-- Cycle D of a receive source without an eligible target (R340). -/
theorem State.stampOnly_begins (hr : recvSource n = true) (hs : s.srcReady n = true) (hm : s.srcMasked n = false) (ht : s.target n = none)
    (hw : s.prg.swapping = false) : s.stampOnly n = s.begin_ n 8 := by
  simp [State.stampOnly, hr, hs, hm, ht, hw]

theorem State.stampOnly_waits (h : recvSource n = false ∨ s.srcReady n = false ∨ s.srcMasked n = true ∨ s.target n ≠ none ∨ s.prg.swapping = true) :
    s.stampOnly n = s := by
  unfold State.stampOnly
  refine if_neg fun hc => ?_
  simp only [Bool.and_eq_true, Bool.not_eq_true', Option.isNone_iff_eq_none] at hc
  obtain ⟨⟨⟨⟨hr, hs⟩, hm⟩, ht⟩, hw⟩ := hc
  simp [hr, hs, hm, ht, hw] at h

theorem State.stampOnly_spec (n : Nat) :
    let u := s.begin_ n 8
    u.f (F.IRQ_COAL_PCNT n) = 0 ∧ tget? u.irq.timer n = none ∧ u.irq.inFlight = s.irq.inFlight ++ [s.deliveryOf n 8] ∧
      (∀ e ∈ u.irq.awaiting, e.1 ≠ n) ∧ (∀ a, a ≠ R.IRQ_COAL n → u.reg a = s.reg a) :=
  ⟨State.pcnt_begin, tget?_tdel_same _ _, rfl, fun _ he => of_decide_eq_true (List.mem_filter.mp he).2, fun _ ha => State.reg_begin ha⟩

end Sys2Proof.Machine
end

section
/-!
The commit of a delivery: the stamps of its messages, of its source and of its target (R148, R349).
-/
namespace Sys2Proof.Machine

/-! ## The stamps of messages -/

section
variable {s : State} {n : Nat}

/-- The messages that a delivery covers hold MONO. -/
def State.messagesStamped (s : State) (l : List Nat) : State := l.foldl (fun s a => s.wr a 8 (s.base 0).form) s

theorem State.onlyMem_messagesStamped (s : State) (l : List Nat) : s.onlyMem (s.messagesStamped l) :=
  State.onlyMem_foldl _ _ _ fun t a _ => t.onlyMem_wr a 8 _

theorem State.byte_messagesStamped (s : State) {l : List Nat} {b : Nat} (h : ∀ a ∈ l, outside a 8 b) : (s.messagesStamped l).byte b = s.byte b :=
  List.foldlRecOn l _ (motive := fun t : State => t.byte b = s.byte b) rfl fun t ht a ha => (t.byte_wr_other a 8 _ b (h a ha)).trans ht

/-- A base is read through the bases' table and the offset in force. -/
theorem State.base_congr_of_ne {s t : State} {b : Nat} (hb : b ≠ 2) (h : t.time = s.time) : t.base b = s.base b := by
  unfold State.base
  rw [if_neg hb, if_neg hb, h]

theorem State.stampMessages_eq (s : State) (n : Nat) (l : List Nat) :
    s.stampMessages n l = if recvSource n then
      { s.messagesStamped l with irq := { s.irq with stamp := tput s.irq.stamp n (s.base 0, s.base 1) } } else s.messagesStamped l := by
  have honly := s.onlyMem_messagesStamped l
  have hbase : ∀ b, b ≠ 2 → (s.messagesStamped l).base b = s.base b := fun b hb => State.base_congr_of_ne hb (State.onlyMem_time honly)
  rw [← State.onlyMem_irq honly, ← hbase 0 (by decide), ← hbase 1 (by decide)]
  rfl

/-- Of the state but memory and the interrupt controller the stamps leave everything. -/
theorem State.stampMessages_frame (s : State) (n : Nat) (l : List Nat) :
    ({ s.stampMessages n l with mem := s.mem, irq := s.irq } : State) = s := by
  have honly : ({ s.messagesStamped l with mem := s.mem } : State) = s := s.onlyMem_messagesStamped l
  rw [State.stampMessages_eq]
  split <;> exact congrArg (fun u : State => ({ u with irq := s.irq } : State)) honly

theorem State.stampMessages_mem (s : State) (n : Nat) (l : List Nat) : (s.stampMessages n l).mem = (s.messagesStamped l).mem := by
  rw [State.stampMessages_eq]
  split <;> rfl

theorem State.stampMessages_inFlight (s : State) (n : Nat) (l : List Nat) : (s.stampMessages n l).irq.inFlight = s.irq.inFlight := by
  rw [State.stampMessages_eq]
  split
  · rfl
  · exact congrArg IrqSt.inFlight (State.onlyMem_irq (s.onlyMem_messagesStamped l))

theorem State.stampMessages_stamp (s : State) {n : Nat} (l : List Nat) (h : recvSource n = true) :
    tget? (s.stampMessages n l).irq.stamp n = some (s.base 0, s.base 1) := by
  rw [State.stampMessages_eq, if_pos h]
  exact tget?_tput_same _ _ _

/-- A stored stamp reads MONO. -/
theorem State.rd_messagesStamped (s : State) {a : Nat} (h : mramBase ≤ a) : (s.messagesStamped [a]).rd a 8 = (s.base 0).form := by
  refine (s.rd_wr_same a 8 _ fun b hb _ => writeIgnored_mram (h.trans hb)).trans (Nat.mod_eq_of_lt ?_)
  exact Nat.mod_lt _ (by decide)

end

/-! ## The stamp of a target -/

theorem State.reg64_setReg64_mod (s : State) (a v : Nat) : (s.setReg64 a v).reg64 a = v % 2 ^ 64 := by
  have hlo : (s.setReg64 a v).reg a = BitVec.ofNat 32 v :=
    (State.reg_setReg_other _ _ _ _ (by omega)).trans (State.reg_setReg_same _ _ _)
  have hhi : (s.setReg64 a v).reg (a + 4) = BitVec.ofNat 32 (v / 2 ^ 32) := State.reg_setReg_same _ _ _
  rw [State.reg64, hlo, hhi, BitVec.toNat_ofNat, BitVec.toNat_ofNat]
  omega

/-- A time base in a register for the fraction and two for the seconds. -/
def State.putTime (s : State) (x : Fld) (lo : Nat) (v : BaseVal) : State := (s.put x v.frac).setReg64 lo v.sec

theorem State.regsOnly_putTime (s : State) (x : Fld) (lo : Nat) (v : BaseVal) : s.regsOnly (s.putTime x lo v) [x.addr, lo, lo + 4] :=
  State.regsOnly_trans (s.regsOnly_put _ (by simp)) (State.regsOnly_setReg64 _ _ (by simp) (by simp))

theorem State.putTime_spec (s : State) {x : Fld} {lo : Nat} (v : BaseVal) (hl : x.lo = 0) (hh : x.hi = 31) (hx : x.addr ≠ lo) (hx' : x.addr ≠ lo + 4) :
    (s.putTime x lo v).reg64 lo = v.sec % 2 ^ 64 ∧ (s.putTime x lo v).f x = v.frac % 2 ^ 32 := by
  refine ⟨State.reg64_setReg64_mod _ _ _, ?_⟩
  refine (State.f_congr x (State.reg_setReg64_other _ _ _ _ hx hx')).trans ((s.f_put_same x _ (by omega) (by omega)).trans ?_)
  rw [hl, hh]

/-- Source, count and sequence number of a target's stamp. -/
def State.putSource (s : State) (d : Delivery) : State :=
  ((s.put (F.IRQ_STSRC_COUNT d.tgt) d.count).bump (F.IRQ_STSRC_SEQ d.tgt)).put (F.IRQ_STSRC_SRC d.tgt) d.orig

theorem State.regsOnly_putSource (s : State) (d : Delivery) : s.regsOnly (s.putSource d) [R.IRQ_STSRC d.tgt] :=
  State.regsOnly_trans (State.regsOnly_trans (s.regsOnly_put _ (List.mem_cons_self ..)) (State.regsOnly_put _ _ (List.mem_cons_self ..)))
    (State.regsOnly_put _ _ (List.mem_cons_self ..))

theorem State.putSource_spec (s : State) (d : Delivery) :
    (s.putSource d).f (F.IRQ_STSRC_COUNT d.tgt) = d.count % 256 ∧
      (s.putSource d).f (F.IRQ_STSRC_SEQ d.tgt) = (s.f (F.IRQ_STSRC_SEQ d.tgt) + 1) % 2 ^ 16 ∧
      (s.putSource d).f (F.IRQ_STSRC_SRC d.tgt) = d.orig % 256 := by
  unfold State.putSource State.bump
  refine ⟨?_, ?_, ?_⟩
  · rw [State.f_put_bits _ _ _ _ (show 0 ≤ 7 by decide) (.inr (show 7 < 24 by decide)),
      State.f_put_bits _ _ _ _ (show 8 ≤ 23 by decide) (.inr (show 23 < 24 by decide)),
      State.f_put_same _ _ _ (show 24 ≤ 31 by decide) (show 31 < 32 by decide)]
    rfl
  · rw [State.f_put_bits _ _ _ _ (show 0 ≤ 7 by decide) (.inr (show 7 < 8 by decide)),
      State.f_put_same _ _ _ (show 8 ≤ 23 by decide) (show 23 < 32 by decide),
      State.f_put_bits _ _ _ _ (show 24 ≤ 31 by decide) (.inl (show 23 < 24 by decide))]
    rfl
  · rw [State.f_put_same _ _ _ (show 0 ≤ 7 by decide) (show 7 < 32 by decide)]
    rfl

/-- The latest delivery as IRQ_STATUS shows it. -/
def State.putLatest (s : State) (d : Delivery) : State := (s.put F.IRQ_STATUS_LAST_SRC d.src).put F.IRQ_STATUS_LAST_TGT d.tgt

theorem State.regsOnly_putLatest (s : State) (d : Delivery) : s.regsOnly (s.putLatest d) [R.IRQ_STATUS] :=
  State.regsOnly_trans (s.regsOnly_put _ (by decide)) (State.regsOnly_put _ _ (by decide))

theorem State.putLatest_spec (s : State) {d : Delivery} (h : d.tgt < 8) :
    (s.putLatest d).f F.IRQ_STATUS_LAST_SRC = d.src % 256 ∧ (s.putLatest d).f F.IRQ_STATUS_LAST_TGT = d.tgt := by
  unfold State.putLatest
  refine ⟨?_, ?_⟩
  · rw [State.f_put_bits _ _ _ _ (by decide) (by decide), State.f_put_same _ _ _ (by decide) (by decide)]
    rfl
  · rw [State.f_put_same _ _ _ (by decide) (by decide)]
    exact Nat.mod_eq_of_lt h

/-- The times of a target's stamp. -/
def State.putTimes (s : State) (t : Nat) : State :=
  (s.putTime (F.IRQ_STMFR_FRAC t) (R.IRQ_STMLO t) (s.base 0)).putTime (F.IRQ_STTFR_FRAC t) (R.IRQ_STTLO t) (s.base 1)

theorem State.stampTarget_eq (s : State) (d : Delivery) : s.stampTarget d = ((s.putTimes d.tgt).putSource d).putLatest d := rfl

/-- The registers of a target's stamp. -/
def timeRegs (t : Nat) : List Nat := [R.IRQ_STMFR t, R.IRQ_STMLO t, R.IRQ_STMLO t + 4, R.IRQ_STTFR t, R.IRQ_STTLO t, R.IRQ_STTLO t + 4]

theorem State.regsOnly_putTimes (s : State) (t : Nat) : s.regsOnly (s.putTimes t) (timeRegs t) :=
  State.regsOnly_trans ((s.regsOnly_putTime _ _ _).mono (by simp [timeRegs, F.IRQ_STMFR_FRAC]))
    ((State.regsOnly_putTime _ _ _ _).mono (by simp [timeRegs, F.IRQ_STTFR_FRAC]))

theorem State.putTimes_spec (s : State) (t : Nat) :
    (s.putTimes t).reg64 (R.IRQ_STMLO t) = (s.base 0).sec % 2 ^ 64 ∧ (s.putTimes t).f (F.IRQ_STMFR_FRAC t) = (s.base 0).frac % 2 ^ 32 ∧
      (s.putTimes t).reg64 (R.IRQ_STTLO t) = (s.base 1).sec % 2 ^ 64 ∧ (s.putTimes t).f (F.IRQ_STTFR_FRAC t) = (s.base 1).frac % 2 ^ 32 := by
  have hne : ∀ a, a = R.IRQ_STMFR t ∨ a = R.IRQ_STMLO t ∨ a = R.IRQ_STMLO t + 4 → a ∉ [R.IRQ_STTFR t, R.IRQ_STTLO t, R.IRQ_STTLO t + 4] := fun a ha => by
    simp only [List.mem_cons, List.not_mem_nil, or_false, R.IRQ_STMFR, R.IRQ_STMLO, R.IRQ_STTFR, R.IRQ_STTLO] at ha ⊢
    omega
  have hkept := (s.putTime (F.IRQ_STMFR_FRAC t) (R.IRQ_STMLO t) (s.base 0)).regsOnly_putTime (F.IRQ_STTFR_FRAC t) (R.IRQ_STTLO t) (s.base 1)
  obtain ⟨hsec, hfrac⟩ := s.putTime_spec (x := F.IRQ_STMFR_FRAC t) (lo := R.IRQ_STMLO t) (s.base 0) rfl rfl
    (by simp only [F.IRQ_STMFR_FRAC, R.IRQ_STMFR, R.IRQ_STMLO]; omega) (by simp only [F.IRQ_STMFR_FRAC, R.IRQ_STMFR, R.IRQ_STMLO]; omega)
  obtain ⟨hsec', hfrac'⟩ := (s.putTime (F.IRQ_STMFR_FRAC t) (R.IRQ_STMLO t) (s.base 0)).putTime_spec (x := F.IRQ_STTFR_FRAC t) (lo := R.IRQ_STTLO t) (s.base 1)
    rfl rfl (by simp only [F.IRQ_STTFR_FRAC, R.IRQ_STTFR, R.IRQ_STTLO]; omega) (by simp only [F.IRQ_STTFR_FRAC, R.IRQ_STTFR, R.IRQ_STTLO]; omega)
  exact ⟨(State.reg64_congr (hkept.2 _ (hne _ (.inr (.inl rfl)))) (hkept.2 _ (hne _ (.inr (.inr rfl))))).trans hsec,
    (State.f_congr _ (hkept.2 _ (hne _ (.inl rfl)))).trans hfrac, hsec', hfrac'⟩

end Sys2Proof.Machine
end

section
/-!
The message of a delivery, and the whole of its commit: the statement of O48 (R339, R341, R347, R349).
-/
namespace Sys2Proof.Machine

/-! ## The target's registers -/

section
variable {s : State} {d : Delivery}

/-- The stamp of a target: both times, source, count and sequence number, and the latest delivery (R349). -/
theorem State.stampTarget_spec (s : State) {d : Delivery} (h : d.tgt < 8) :
    let u := s.stampTarget d
    u.reg64 (R.IRQ_STMLO d.tgt) = (s.base 0).sec % 2 ^ 64 ∧ u.f (F.IRQ_STMFR_FRAC d.tgt) = (s.base 0).frac % 2 ^ 32 ∧
      u.reg64 (R.IRQ_STTLO d.tgt) = (s.base 1).sec % 2 ^ 64 ∧ u.f (F.IRQ_STTFR_FRAC d.tgt) = (s.base 1).frac % 2 ^ 32 ∧
      u.f (F.IRQ_STSRC_COUNT d.tgt) = d.count % 256 ∧ u.f (F.IRQ_STSRC_SEQ d.tgt) = (s.f (F.IRQ_STSRC_SEQ d.tgt) + 1) % 2 ^ 16 ∧
      u.f (F.IRQ_STSRC_SRC d.tgt) = d.orig % 256 ∧ u.f F.IRQ_STATUS_LAST_SRC = d.src % 256 ∧ u.f F.IRQ_STATUS_LAST_TGT = d.tgt := by
  intro u
  obtain ⟨hm, hmf, ht, htf⟩ := s.putTimes_spec d.tgt
  obtain ⟨hcount, hseq, hsrc⟩ := (s.putTimes d.tgt).putSource_spec d
  obtain ⟨hlast, hlast'⟩ := ((s.putTimes d.tgt).putSource d).putLatest_spec h
  have hstatus : ∀ a, a ≠ R.IRQ_STATUS → u.reg a = ((s.putTimes d.tgt).putSource d).reg a := fun a ha =>
    (State.regsOnly_putLatest _ d).2 a (by simpa using ha)
  have hsource : ∀ a ∈ timeRegs d.tgt, u.reg a = (s.putTimes d.tgt).reg a := fun a ha => by
    simp only [timeRegs, List.mem_cons, List.not_mem_nil, or_false, R.IRQ_STMFR, R.IRQ_STMLO, R.IRQ_STTFR, R.IRQ_STTLO] at ha
    refine (hstatus a ?_).trans ((State.regsOnly_putSource _ d).2 a ?_)
    · simp only [R.IRQ_STATUS]; omega
    · simp only [R.IRQ_STSRC, List.mem_singleton]; omega
  have hown : R.IRQ_STSRC d.tgt ≠ R.IRQ_STATUS ∧ R.IRQ_STSRC d.tgt ∉ timeRegs d.tgt := by
    simp only [timeRegs, List.mem_cons, List.not_mem_nil, or_false, R.IRQ_STMFR, R.IRQ_STMLO, R.IRQ_STTFR, R.IRQ_STTLO, R.IRQ_STSRC, R.IRQ_STATUS]
    omega
  have hput : ∀ x : Fld, x.addr = R.IRQ_STSRC d.tgt → u.f x = ((s.putTimes d.tgt).putSource d).f x := fun x hx =>
    State.f_congr x (hx ▸ hstatus _ hown.1)
  have hold : (s.putTimes d.tgt).f (F.IRQ_STSRC_SEQ d.tgt) = s.f (F.IRQ_STSRC_SEQ d.tgt) :=
    State.f_congr (F.IRQ_STSRC_SEQ d.tgt) ((s.regsOnly_putTimes d.tgt).2 _ hown.2)
  have hmem : R.IRQ_STMFR d.tgt ∈ timeRegs d.tgt ∧ R.IRQ_STMLO d.tgt ∈ timeRegs d.tgt ∧ R.IRQ_STMLO d.tgt + 4 ∈ timeRegs d.tgt ∧
      R.IRQ_STTFR d.tgt ∈ timeRegs d.tgt ∧ R.IRQ_STTLO d.tgt ∈ timeRegs d.tgt ∧ R.IRQ_STTLO d.tgt + 4 ∈ timeRegs d.tgt := by simp [timeRegs]
  obtain ⟨hmFr, hmLo, hmHi, htFr, htLo, htHi⟩ := hmem
  refine ⟨(State.reg64_congr (hsource _ hmLo) (hsource _ hmHi)).trans hm, ?_, (State.reg64_congr (hsource _ htLo) (hsource _ htHi)).trans ht, ?_,
    (hput _ rfl).trans hcount, ?_, (hput _ rfl).trans hsrc, hlast, hlast'⟩
  · exact (State.f_congr (F.IRQ_STMFR_FRAC d.tgt) (hsource _ hmFr)).trans hmf
  · exact (State.f_congr (F.IRQ_STTFR_FRAC d.tgt) (hsource _ htFr)).trans htf
  · rw [hput _ rfl, hseq, hold]

/-- A target's stamp changes no register outside the interrupt controller. -/
theorem State.regs_stampTarget (s : State) (d : Delivery) {b : Nat} (h : b < R.IRQ_STATUS) : tget? (s.stampTarget d).regs b = tget? s.regs b := by
  have hset : ∀ (t : State) (a : Nat) (v : Word), R.IRQ_STATUS ≤ a → tget? (t.setReg a v).regs b = tget? t.regs b := fun t a v ha => by
    rw [State.setReg_regs, tset]
    split
    · exact tget?_tdel_other _ _ _ (by omega)
    · exact tget?_tput_other _ _ _ _ (by omega)
  have haddr : R.IRQ_STATUS ≤ R.IRQ_STMFR d.tgt ∧ R.IRQ_STATUS ≤ R.IRQ_STMLO d.tgt ∧ R.IRQ_STATUS ≤ R.IRQ_STTFR d.tgt ∧
      R.IRQ_STATUS ≤ R.IRQ_STTLO d.tgt ∧ R.IRQ_STATUS ≤ R.IRQ_STSRC d.tgt := by
    simp only [R.IRQ_STATUS, R.IRQ_STMFR, R.IRQ_STMLO, R.IRQ_STTFR, R.IRQ_STTLO, R.IRQ_STSRC]
    omega
  obtain ⟨hmf, hm, htf, ht, hs⟩ := haddr
  have hput : ∀ (t : State) (x : Fld) (v : Nat), R.IRQ_STATUS ≤ x.addr → tget? (t.put x v).regs b = tget? t.regs b := fun t x v hx => hset t _ _ hx
  have htime : ∀ (t : State) (x : Fld) (lo : Nat) (v : BaseVal), R.IRQ_STATUS ≤ x.addr → R.IRQ_STATUS ≤ lo →
      tget? (t.putTime x lo v).regs b = tget? t.regs b := fun t x lo v hx hlo =>
    (hset _ _ _ (by omega)).trans ((hset _ _ _ hlo).trans (hput t x _ hx))
  rw [State.stampTarget_eq]
  refine (hput _ _ _ (le_refl _)).trans ((hput _ _ _ (le_refl _)).trans ?_)
  refine (hput _ _ _ hs).trans ((hput _ _ _ hs).trans ((hput _ _ _ hs).trans ?_))
  exact (htime _ _ _ _ htf ht).trans (htime _ _ _ _ hmf hm)

/-- What the interrupt tasks of a core rest on. -/
theorem State.tasksFor_congr {s t : State} (hr : ∀ c, c < 255 → tget? t.regs (R.CML_TCFG c) = tget? s.regs (R.CML_TCFG c)) (hi : t.inForce = s.inForce)
    (core n : Nat) : t.tasksFor core n = s.tasksFor core n := by
  have hcfg : ∀ c, c < 255 → t.tcfg c = s.tcfg c := fun c hc => State.eff_congr (by rw [State.reg, State.reg, tget, tget, hr c hc]) hi
  have htasks : t.tasks = s.tasks := List.filter_congr fun c hc => by
    have hc := List.mem_range.mp hc
    rw [hr c hc, hi, hcfg c hc]
  unfold State.tasksFor
  rw [htasks]
  refine List.filter_congr fun c hc => ?_
  rw [hcfg c (List.mem_range.mp (List.mem_filter.mp hc).1)]

/-! ## The message -/

/-- What a delivery's message leaves as its stamps have set it: memory, the deliveries in flight, the stamps of receive sources, and the
controller's registers but ORPHAN and the ORPH flag. -/
structure State.keepsStamps (s t : State) : Prop where
  mem : t.mem = s.mem
  inFlight : t.irq.inFlight = s.irq.inFlight
  stamp : t.irq.stamp = s.irq.stamp
  reg : ∀ a, blockOf a = 14 → (∀ n, a ≠ R.IRQ_COAL n) → a ≠ R.IRQ_STATUS → a ≠ R.IRQ_ORPHAN → t.reg a = s.reg a
  latest : ∀ x : Fld, x.addr = R.IRQ_STATUS → 0 < x.lo → t.f x = s.f x

theorem State.keepsStamps_trans {s t u : State} (h : s.keepsStamps t) (h' : t.keepsStamps u) : s.keepsStamps u :=
  ⟨h'.mem.trans h.mem, h'.inFlight.trans h.inFlight, h'.stamp.trans h.stamp, fun a h1 h2 h3 h4 => (h'.reg a h1 h2 h3 h4).trans (h.reg a h1 h2 h3 h4),
    fun x hx hl => (h'.latest x hx hl).trans (h.latest x hx hl)⟩

/-- A write outside the controller's block keeps the stamps. -/
theorem State.keepsStamps_put (s : State) {x : Fld} (v : Nat) (h : blockOf x.addr ≠ 14) : s.keepsStamps (s.put x v) := by
  refine ⟨rfl, rfl, rfl, fun a ha _ _ _ => s.reg_put_other x v a fun e => h (e ▸ ha), fun y hy _ => s.f_put_addr x y v fun e => h (e ▸ hy ▸ ?_)⟩
  decide

theorem State.keepsStamps_of_regs {s t : State} (hm : t.mem = s.mem) (hr : t.regs = s.regs) (hf : t.irq.inFlight = s.irq.inFlight)
    (hs : t.irq.stamp = s.irq.stamp) : s.keepsStamps t :=
  ⟨hm, hf, hs, fun a _ _ _ _ => State.reg_congr hr a, fun x _ _ => State.f_congr x (State.reg_congr hr _)⟩

/-- An orphan is counted and shown (R341). -/
def State.orphaned (s : State) (n : Nat) : State := ((s.count F.IRQ_ORPHAN_COUNT).put F.IRQ_STATUS_ORPH 1).event 0x0E00 [n]

theorem coal_ne_status : ∀ n, R.IRQ_STATUS ≠ R.IRQ_COAL n := fun n => by simp only [R.IRQ_STATUS, R.IRQ_COAL]; omega

theorem State.keepsStamps_orphaned (s : State) (n : Nat) : s.keepsStamps (s.orphaned n) := by
  let u := (s.count F.IRQ_ORPHAN_COUNT).put F.IRQ_STATUS_ORPH 1
  obtain ⟨htimers, hregs⟩ := u.countsOnly_event 0x0E00 [n]
  refine ⟨u.record_mem _ _ _, htimers.inFlight, htimers.stamp, fun a hb hc hs ho => ?_, fun x hx hl => ?_⟩
  · exact (hregs a hb hc).trans ((State.reg_put_other _ F.IRQ_STATUS_ORPH _ _ hs).trans (s.reg_count_other F.IRQ_ORPHAN_COUNT _ _ ho))
  · have hstatus : (s.orphaned n).reg x.addr = u.reg x.addr := hx ▸ hregs _ (by decide) coal_ne_status
    refine (State.f_congr x hstatus).trans ((State.f_put_bits _ F.IRQ_STATUS_ORPH x _ (by decide) (.inr hl)).trans ?_)
    exact s.f_put_addr F.IRQ_ORPHAN_COUNT x _ (by rw [hx]; decide)

theorem State.orph_orphaned (s : State) (n : Nat) : (s.orphaned n).f F.IRQ_STATUS_ORPH = 1 := by
  obtain ⟨-, hregs⟩ := ((s.count F.IRQ_ORPHAN_COUNT).put F.IRQ_STATUS_ORPH 1).countsOnly_event 0x0E00 [n]
  refine (State.f_congr F.IRQ_STATUS_ORPH (hregs _ (by decide) coal_ne_status)).trans ?_
  exact State.f_put_bit _ rfl (by decide) (by decide)

/-- The trigger of a task keeps the stamps. -/
theorem State.keepsStamps_activate (s : State) {c : Nat} (h : c < 255) : s.keepsStamps (s.activate c) := by
  have hsame : s.keepsStamps s := State.keepsStamps_of_regs rfl rfl rfl rfl
  have hblock : blockOf (F.CML_TSTAT_MERGED c).addr ≠ 14 := by simp only [F.CML_TSTAT_MERGED, R.CML_TSTAT, blockOf]; omega
  unfold State.activate
  split
  · exact hsame
  · split
    · exact State.keepsStamps_of_regs rfl rfl rfl rfl
    · split
      · exact hsame
      · split
        · exact s.keepsStamps_put _ hblock
        · exact State.keepsStamps_of_regs rfl rfl rfl rfl

theorem State.tasksFor_lt {core n c : Nat} (h : c ∈ s.tasksFor core n) : c < 255 :=
  List.mem_range.mp (List.mem_filter.mp (List.mem_filter.mp h).1).1

theorem State.keepsStamps_activateAll (s : State) {l : List Nat} (h : ∀ c ∈ l, c < 255) : s.keepsStamps (l.foldl (·.activate ·) s) :=
  List.foldlRecOn l _ (motive := fun t : State => s.keepsStamps t) (State.keepsStamps_of_regs rfl rfl rfl rfl) fun t ht c hc =>
    State.keepsStamps_trans ht (t.keepsStamps_activate (h c hc))

theorem State.keepsStamps_toHost (s : State) (n : Nat) : s.keepsStamps (s.toHost n) := by
  unfold State.toHost
  split
  · split <;> exact State.keepsStamps_of_regs rfl rfl rfl rfl
  · exact s.keepsStamps_put _ (by decide)

/-- The message as it leaves, before the cores choose again. -/
def State.sent (s : State) (d : Delivery) : State :=
  if d.tgt < 6 then (if s.tasksFor d.tgt d.src = [] then s.orphaned d.src else (s.tasksFor d.tgt d.src).foldl (·.activate ·) s)
  else if d.tgt = 6 then s.toHost d.src
  else { s with irq := { s.irq with frameLast := some d.src } }

theorem State.message_eq (s : State) (d : Delivery) : s.message d = s.sent d ∨ s.message d = (s.sent d).sched := by
  unfold State.message State.sent
  split
  · cases h : s.tasksFor d.tgt d.src with
    | nil => exact .inl (if_pos rfl).symm
    | cons c l => exact .inr (congrArg State.sched (if_neg (List.cons_ne_nil c l)).symm)
  · exact .inl rfl

theorem State.keepsStamps_sent (s : State) (d : Delivery) : s.keepsStamps (s.sent d) := by
  unfold State.sent
  split
  · split
    · exact s.keepsStamps_orphaned d.src
    · exact s.keepsStamps_activateAll fun _ hc => State.tasksFor_lt hc
  · split
    · exact s.keepsStamps_toHost d.src
    · exact State.keepsStamps_of_regs rfl rfl rfl rfl

theorem State.sent_orphan (h : d.tgt < 6) (ht : s.tasksFor d.tgt d.src = []) : s.sent d = s.orphaned d.src := (if_pos h).trans (if_pos ht)

theorem State.sent_partner (h : d.tgt = 7) : (s.sent d).irq.frameLast = some d.src := by
  unfold State.sent
  rw [h]
  rfl

/-- A message leaves the deliveries in flight and the stamps of receive sources. -/
theorem State.message_irq (s : State) (d : Delivery) :
    (s.message d).irq.inFlight = s.irq.inFlight ∧ (s.message d).irq.stamp = s.irq.stamp := by
  have hsent := s.keepsStamps_sent d
  have hsched := (s.sent d).timersOnly_sched
  rcases s.message_eq d with h | h <;> rw [h]
  · exact ⟨hsent.inFlight, hsent.stamp⟩
  · exact ⟨hsched.inFlight.trans hsent.inFlight, hsched.stamp.trans hsent.stamp⟩

/-! ## The commit -/

/-- The oldest delivery has left, and its messages hold their stamps. -/
def State.messagesLeft (s : State) (d : Delivery) (l : List Delivery) : State :=
  ({ s with irq := { s.irq with inFlight := l } } : State).stampMessages d.src d.stamps

section
variable {l : List Delivery}

theorem State.messagesLeft_inFlight (s : State) (d : Delivery) (l : List Delivery) : (s.messagesLeft d l).irq.inFlight = l :=
  State.stampMessages_inFlight _ _ _

theorem State.messagesLeft_frame (s : State) (d : Delivery) (l : List Delivery) :
    ({ s.messagesLeft d l with mem := s.mem, irq := s.irq } : State) = s := by
  have h := State.stampMessages_frame { s with irq := { s.irq with inFlight := l } } d.src d.stamps
  exact congrArg (fun u : State => ({ u with irq := s.irq } : State)) h

theorem State.messagesLeft_stamp (s : State) (l : List Delivery) (h : recvSource d.src = true) :
    tget? (s.messagesLeft d l).irq.stamp d.src = some (s.base 0, s.base 1) := State.stampMessages_stamp _ _ h

theorem State.messagesLeft_mem (s : State) (d : Delivery) (l : List Delivery) :
    (s.messagesLeft d l).mem = (({ s with irq := { s.irq with inFlight := l } } : State).messagesStamped d.stamps).mem := State.stampMessages_mem _ _ _

theorem State.byte_messagesLeft (s : State) (l : List Delivery) {b : Nat} (h : ∀ a ∈ d.stamps, outside a 8 b) : (s.messagesLeft d l).byte b = s.byte b :=
  (State.byte_congr (s.messagesLeft_mem d l) b).trans (State.byte_messagesStamped { s with irq := { s.irq with inFlight := l } } h)

theorem State.rd_messagesLeft (s : State) (l : List Delivery) {a : Nat} (hd : d.stamps = [a]) (ha : mramBase ≤ a) :
    (s.messagesLeft d l).rd a 8 = (s.base 0).form := by
  have hmem := s.messagesLeft_mem d l
  rw [hd] at hmem
  exact (State.rd_congr a 8 fun b _ _ => State.byte_congr hmem b).trans
    (State.rd_messagesStamped { s with irq := { s.irq with inFlight := l } } ha)

theorem State.commitDelivery_none (h : s.irq.inFlight = []) : s.commitDelivery = s := by
  unfold State.commitDelivery
  rw [h]

theorem State.commitDelivery_stampOnly (h : s.irq.inFlight = d :: l) (ht : d.tgt = 8) : s.commitDelivery = s.messagesLeft d l := by
  unfold State.commitDelivery
  rw [h]
  exact if_pos ht

theorem State.commitDelivery_target (h : s.irq.inFlight = d :: l) (ht : d.tgt ≠ 8) :
    s.commitDelivery = ((s.messagesLeft d l).stampTarget d).message d := by
  unfold State.commitDelivery
  rw [h]
  exact if_neg ht

theorem State.regsOnly_stampTarget (s : State) (d : Delivery) : s.regsOnly (s.stampTarget d) (R.IRQ_STATUS :: R.IRQ_STSRC d.tgt :: timeRegs d.tgt) := by
  rw [State.stampTarget_eq]
  exact State.regsOnly_trans (State.regsOnly_trans ((s.regsOnly_putTimes d.tgt).mono (by simp +contextual))
    ((State.regsOnly_putSource _ d).mono (by simp))) ((State.regsOnly_putLatest _ d).mono (by simp))

theorem State.regsOnly_irq {s t : State} {l : List Nat} (h : s.regsOnly t l) : t.irq = s.irq := by
  have e := congrArg State.irq h.1; exact e

theorem State.regsOnly_inForce {s t : State} {l : List Nat} (h : s.regsOnly t l) : t.inForce = s.inForce := by
  have e := congrArg State.inForce h.1; exact e

theorem State.stampTarget_irq (s : State) (d : Delivery) : (s.stampTarget d).irq = s.irq := State.regsOnly_irq (s.regsOnly_stampTarget d)

/-- The oldest delivery leaves with its commit, and a receive source keeps both times (R347, R349). -/
theorem State.commitDelivery_irq (h : s.irq.inFlight = d :: l) : s.commitDelivery.irq.inFlight = l ∧
    (recvSource d.src = true → tget? s.commitDelivery.irq.stamp d.src = some (s.base 0, s.base 1)) := by
  have hleft := s.messagesLeft_inFlight d l
  by_cases ht : d.tgt = 8
  · rw [State.commitDelivery_stampOnly h ht]
    exact ⟨hleft, s.messagesLeft_stamp l⟩
  · obtain ⟨hflight, hstamp⟩ := ((s.messagesLeft d l).stampTarget d).message_irq d
    rw [State.commitDelivery_target h ht, hflight, hstamp, State.stampTarget_irq]
    exact ⟨hleft, s.messagesLeft_stamp l⟩

theorem State.stampOnly_commit (h : s.irq.inFlight = d :: l) (ht : d.tgt = 8) :
    s.commitDelivery.irq.inFlight = l ∧ ({ s.commitDelivery with mem := s.mem, irq := s.irq } : State) = s ∧
      ∀ b, (∀ a ∈ d.stamps, outside a 8 b) → s.commitDelivery.byte b = s.byte b := by
  rw [State.commitDelivery_stampOnly h ht]
  exact ⟨s.messagesLeft_inFlight d l, s.messagesLeft_frame d l, fun b hb => s.byte_messagesLeft l hb⟩

/-- The registers of a target's stamp are none that an event or a message writes. -/
theorem stampReg_kept {t a : Nat} (h : t < 8) (ha : a ∈ R.IRQ_STSRC t :: timeRegs t) :
    blockOf a = 14 ∧ (∀ n, a ≠ R.IRQ_COAL n) ∧ a ≠ R.IRQ_STATUS ∧ a ≠ R.IRQ_ORPHAN := by
  have hrange : R.IRQ_ORPHAN < a ∧ R.IRQ_STATUS < a ∧ a < R.IRQ_COAL 0 ∧ blockOf a = 14 := by
    simp only [timeRegs, List.mem_cons, List.not_mem_nil, or_false, R.IRQ_STSRC, R.IRQ_STMFR, R.IRQ_STMLO, R.IRQ_STTFR, R.IRQ_STTLO] at ha
    simp only [R.IRQ_ORPHAN, R.IRQ_STATUS, R.IRQ_COAL, blockOf]
    omega
  obtain ⟨horphan, hstatus, hcoal, hblock⟩ := hrange
  exact ⟨hblock, fun n => by simp only [R.IRQ_COAL] at hcoal ⊢; omega, hstatus.ne', horphan.ne'⟩

/-- The commit of a delivery to a target: the state before the cores choose again (R347, R349). -/
theorem State.commitDelivery_spec (h : s.irq.inFlight = d :: l) (ht : d.tgt < 8) : ∃ u : State,
    (s.commitDelivery = u ∨ s.commitDelivery = u.sched) ∧ u.irq.inFlight = l ∧
      u.reg64 (R.IRQ_STMLO d.tgt) = (s.base 0).sec % 2 ^ 64 ∧ u.f (F.IRQ_STMFR_FRAC d.tgt) = (s.base 0).frac % 2 ^ 32 ∧
      u.reg64 (R.IRQ_STTLO d.tgt) = (s.base 1).sec % 2 ^ 64 ∧ u.f (F.IRQ_STTFR_FRAC d.tgt) = (s.base 1).frac % 2 ^ 32 ∧
      u.f (F.IRQ_STSRC_COUNT d.tgt) = d.count % 256 ∧
      u.f (F.IRQ_STSRC_SEQ d.tgt) = (s.f (F.IRQ_STSRC_SEQ d.tgt) + 1) % 2 ^ ((F.IRQ_STSRC_SEQ 0).hi + 1 - (F.IRQ_STSRC_SEQ 0).lo) ∧
      u.f (F.IRQ_STSRC_SRC d.tgt) = d.orig % 256 ∧
      u.f F.IRQ_STATUS_LAST_SRC = d.src % 256 ∧ u.f F.IRQ_STATUS_LAST_TGT = d.tgt ∧
      (d.tgt < 6 → s.tasksFor d.tgt d.src = [] → u.f F.IRQ_STATUS_ORPH = 1) ∧ (d.tgt = 7 → u.irq.frameLast = some d.src) ∧
      (∀ a, d.stamps = [a] → mramBase + 0x3000000 ≤ a → u.rd a 8 = (s.base 0).form) := by
  let w := s.messagesLeft d l
  have hframe : ({ w with mem := s.mem, irq := s.irq } : State) = s := s.messagesLeft_frame d l
  have hregs : w.regs = s.regs := by have e := congrArg State.regs hframe; exact e
  have htime : w.time = s.time := by have e := congrArg State.time hframe; exact e
  have hforce : w.inForce = s.inForce := by have e := congrArg State.inForce hframe; exact e
  have hbase : ∀ b, b ≠ 2 → w.base b = s.base b := fun b hb => State.base_congr_of_ne hb htime
  obtain ⟨hm, hmf, htai, htf, hcount, hseq, hsrc, hlast, hlast'⟩ := w.stampTarget_spec ht
  rw [hbase 0 (by decide)] at hm hmf
  rw [hbase 1 (by decide)] at htai htf
  rw [State.f_congr (F.IRQ_STSRC_SEQ d.tgt) (State.reg_congr hregs _)] at hseq
  have hsent := (w.stampTarget d).keepsStamps_sent d
  have hreg : ∀ a ∈ R.IRQ_STSRC d.tgt :: timeRegs d.tgt, ((w.stampTarget d).sent d).reg a = (w.stampTarget d).reg a := fun a ha => by
    obtain ⟨h1, h2, h3, h4⟩ := stampReg_kept ht ha
    exact hsent.reg a h1 h2 h3 h4
  have hfld : ∀ x : Fld, x.addr ∈ R.IRQ_STSRC d.tgt :: timeRegs d.tgt → ((w.stampTarget d).sent d).f x = (w.stampTarget d).f x :=
    fun x hx => State.f_congr x (hreg _ hx)
  have htasks : (w.stampTarget d).tasksFor d.tgt d.src = s.tasksFor d.tgt d.src := by
    refine State.tasksFor_congr (fun c hc => ?_) ((State.regsOnly_inForce (w.regsOnly_stampTarget d)).trans hforce) _ _
    rw [State.regs_stampTarget w d (by simp only [R.CML_TCFG, R.IRQ_STATUS]; omega), hregs]
  refine ⟨(w.stampTarget d).sent d, ?_, ?_, ?_, ?_, ?_, ?_, ?_, ?_, ?_, ?_, ?_, fun h6 h0 => ?_, State.sent_partner, fun a hd ha => ?_⟩
  · rw [State.commitDelivery_target h (by omega)]
    exact State.message_eq _ d
  · rw [hsent.inFlight, State.stampTarget_irq]
    exact s.messagesLeft_inFlight d l
  · exact (State.reg64_congr (hreg _ (by simp [timeRegs])) (hreg _ (by simp [timeRegs]))).trans hm
  · exact (hfld _ (by simp [timeRegs, F.IRQ_STMFR_FRAC])).trans hmf
  · exact (State.reg64_congr (hreg _ (by simp [timeRegs])) (hreg _ (by simp [timeRegs]))).trans htai
  · exact (hfld _ (by simp [timeRegs, F.IRQ_STTFR_FRAC])).trans htf
  · exact (hfld _ (by simp [F.IRQ_STSRC_COUNT])).trans hcount
  · exact (hfld _ (by simp [F.IRQ_STSRC_SEQ])).trans hseq
  · exact (hfld _ (by simp [F.IRQ_STSRC_SRC])).trans hsrc
  · exact (hsent.latest _ rfl (by decide)).trans hlast
  · exact (hsent.latest _ rfl (by decide)).trans hlast'
  · rw [State.sent_orphan h6 (htasks.trans h0)]
    exact State.orph_orphaned _ _
  · have hmem : ((w.stampTarget d).sent d).mem = w.mem := hsent.mem.trans (State.regsOnly_mem (w.regsOnly_stampTarget d))
    have hrd : w.rd a 8 = (s.base 0).form := s.rd_messagesLeft l hd ((Nat.le_add_right _ _).trans ha)
    rw [State.rd_congr a 8 fun b _ _ => State.byte_congr hmem b, hrd]

end
end

/-! ## The statement -/

/-- Settles O48: what an assertion counts and starts, what cycle D takes from its source, and what the commit writes for its messages, its
source and its target. -/
theorem interruptDelivery : Obligations.InterruptDelivery := by
  unfold Obligations.InterruptDelivery
  refine ⟨fun s n => ⟨fun h => ?absent, fun h => ⟨_, rfl, State.assertSrc_spec h⟩,
    fun u hp ht => ⟨fun h => ?beyond, fun h => ⟨?due, fun hr => State.srcReady_due hp ht n.isLt h hr⟩⟩, fun h => ?idle, fun h => ?waits,
    fun j t' hw hn ht _ h8 => ⟨_, rfl, State.deliver_spec hw hn ht h8⟩, fun h => ?none, fun d l h ht => ?commit,
    fun d l h hr => ⟨_, rfl, (State.commitDelivery_irq h).2 hr⟩, fun d l h ht => ⟨_, rfl, State.stampOnly_commit h ht⟩,
    fun hr hs hm ht hw => ⟨s.begin_ n.toNat 8, ?stampOnly, s.stampOnly_spec n.toNat⟩, fun h => ?stampWaits⟩,
    fun s => ⟨rfl, rfl, fun _ => rfl, fun _ => rfl, fun _ => rfl⟩⟩
  case absent => exact congrArg Host.Outcome.next (State.assertSrc_absent h)
  case beyond => exact congrArg Host.Outcome.next (State.coalesced_beyond hp ht h)
  case due => exact congrArg Host.Outcome.next (State.coalesced_due hp ht h)
  case idle => exact congrArg Host.Outcome.next (State.coalesced_idle h)
  case waits => exact congrArg Host.Outcome.next (State.deliver_waits h)
  case none => exact congrArg Host.Outcome.next (State.commitDelivery_none h)
  case commit =>
    obtain ⟨u, hu, hrest⟩ := State.commitDelivery_spec h ht
    exact ⟨u, hu.imp (congrArg Host.Outcome.next) (congrArg Host.Outcome.next), hrest⟩
  case stampOnly => exact congrArg Host.Outcome.next (State.stampOnly_begins hr hs hm ht hw)
  case stampWaits => exact congrArg Host.Outcome.next (State.stampOnly_waits h)

end Sys2Proof.Machine
end

section
/-!
Masks and pending counts: a mask write with its races, a mask read with the deliveries it waits for, and counts cleared or raised by a
register (R345, R348, R353, R354).
-/
namespace Sys2Proof.Machine

/-! ## Masks -/

section
variable {s : State} {i : Nat} {v : Word}

/-- A delivery already begun from a source that the write masks is raced. -/
def State.raced (i : Nat) (v : Word) (s : State) (d : Delivery) : State :=
  if d.src / 32 = i ∧ v.getLsbD (d.src % 32) then s.setBit (R.IRQ_RACE 0) d.src true else s

theorem State.maskWrite_eq (s : State) (i : Nat) (v : Word) :
    s.maskWrite i v = s.irq.inFlight.foldl (State.raced i v) (s.writeReg (R.IRQ_MASK i) v) := rfl

theorem State.regsOnly_raced (s : State) (d : Delivery) : s.regsOnly (s.raced i v d) [R.IRQ_RACE i] := by
  unfold State.raced
  split
  · next h => exact s.regsOnly_setReg _ (by simp [R.IRQ_RACE, h.1])
  · exact s.regsOnly_refl _

theorem State.regsOnly_maskWrite (s : State) (i : Nat) (v : Word) : (s.writeReg (R.IRQ_MASK i) v).regsOnly (s.maskWrite i v) [R.IRQ_RACE i] :=
  State.regsOnly_foldl _ _ _ _ fun t d _ => t.regsOnly_raced d

theorem State.bit_raced (s : State) (d : Delivery) (j : Nat) : (s.raced i v d).bit (R.IRQ_RACE 0) j =
    (s.bit (R.IRQ_RACE 0) j || (decide (j / 32 = i) && v.getLsbD (j % 32) && decide (d.src = j))) := by
  unfold State.raced
  by_cases hj : d.src = j
  · subst hj
    split
    · next h => simp [State.bit_setBit, h.1, h.2]
    · next h =>
      have hoff : (decide (d.src / 32 = i) && v.getLsbD (d.src % 32)) = false := by
        rw [Bool.and_eq_false_iff, decide_eq_false_iff_not, ← Bool.not_eq_true, ← not_and_or]; exact h
      simp [hoff]
  · rw [decide_eq_false hj, Bool.and_false, Bool.or_false]
    split
    · rw [State.bit_setBit, if_neg (Ne.symm hj)]
    · rfl

theorem State.bit_racedAll (s : State) (l : List Delivery) (j : Nat) : (l.foldl (State.raced i v) s).bit (R.IRQ_RACE 0) j =
    (s.bit (R.IRQ_RACE 0) j || (decide (j / 32 = i) && v.getLsbD (j % 32) && l.any (·.src = j))) := by
  induction l generalizing s with
  | nil => simp
  | cons d l ih => rw [List.foldl_cons, ih, State.bit_raced, List.any_cons, Bool.or_assoc, ← Bool.and_or_distrib_left]

/-- A mask write takes its word, and races each delivery already begun from a source that it masks. -/
theorem State.maskWrite_spec (s : State) {i : Nat} (hi : i < 8) (v : Word) :
    let t := s.maskWrite i v
    t.reg (R.IRQ_MASK i) = s.plain (R.IRQ_MASK i) v ∧
      (∀ j, j < 256 → t.bit (R.IRQ_RACE 0) j =
        (s.bit (R.IRQ_RACE 0) j || (decide (j / 32 = i) && v.getLsbD (j % 32) && s.irq.inFlight.any (·.src = j)))) ∧
      t.irq = s.irq ∧ t.mem = s.mem := by
  have hframe := s.regsOnly_maskWrite i v
  have hmask : R.IRQ_MASK i ∉ [R.IRQ_RACE i] := by simp only [List.mem_singleton, R.IRQ_MASK, R.IRQ_RACE]; omega
  refine ⟨(hframe.2 _ hmask).trans (s.reg_setReg_same _ _), fun j _ => ?_,
    (State.regsOnly_irq hframe).trans (s.writeReg_irq _ v), (State.regsOnly_mem hframe).trans (s.writeReg_mem _ v)⟩
  have hrace : (s.writeReg (R.IRQ_MASK i) v).bit (R.IRQ_RACE 0) j = s.bit (R.IRQ_RACE 0) j := by
    unfold State.bit
    rw [State.writeReg, State.reg_setReg_other]
    simp only [R.IRQ_MASK, R.IRQ_RACE]
    omega
  rw [State.maskWrite_eq, State.bit_racedAll, hrace]

/-- A read of a mask word with no delivery of that word in flight ends at once. -/
theorem State.maskRead_idle (h : ∀ d ∈ s.irq.inFlight, d.src / 32 ≠ i) : s.maskRead i = s := by
  unfold State.maskRead
  cases s.irq.inFlight.length with
  | zero => rfl
  | succ n => exact if_neg (by simpa using h)

/-- The deliveries of a word have committed after as many commits as deliveries are in flight. -/
theorem State.drainWord_drained (n : Nat) (s : State) (h : s.irq.inFlight.length ≤ n) : ∀ d ∈ (s.drainWord i n).irq.inFlight, d.src / 32 ≠ i := by
  induction n generalizing s with
  | zero =>
    intro d hd
    rw [State.drainWord, List.length_eq_zero_iff.mp (Nat.le_zero.mp h)] at hd
    cases hd
  | succ n ih =>
    unfold State.drainWord
    split
    · cases hf : s.irq.inFlight with
      | nil => exact ih _ (by rw [State.commitDelivery_none hf, hf]; exact Nat.zero_le n)
      | cons d l => exact ih _ (by rw [(State.commitDelivery_irq hf).1]; rw [hf] at h; exact Nat.le_of_succ_le_succ h)
    · next hany => simpa using hany

end

/-! ## PEND_CLEAR -/

section
variable {s : State} {n : Nat}

theorem State.reg_clearSrc {a : Nat} (h : a ≠ R.IRQ_COAL n) : (s.clearSrc n).reg a = s.reg a := State.reg_begin (t := 0) h

theorem State.pcnt_clearSrc (s : State) (n j : Nat) :
    (s.clearSrc n).f (F.IRQ_COAL_PCNT j) = if j = n then 0 else s.f (F.IRQ_COAL_PCNT j) := by
  split
  · next h => subst h; exact State.pcnt_begin (t := 0)
  · next h => exact State.f_congr (F.IRQ_COAL_PCNT j) (State.reg_clearSrc (by simp only [F.IRQ_COAL_PCNT, R.IRQ_COAL]; omega))

/-- Clearing a count keeps the settings beside it. -/
theorem State.f_clearSrc_apart (s : State) (n : Nat) {x : Fld} (h : x.hi < 16 ∨ 23 < x.lo) : (s.clearSrc n).f x = s.f x :=
  (State.f_congr x (State.reg_congr rfl _)).trans (s.f_put_bits (F.IRQ_COAL_PCNT n) x 0 (show 16 ≤ 23 by decide) h)

/-- The counts of the first n sources of word i that v names. -/
def State.clearedUpTo (s : State) (i : Nat) (v : Word) (n : Nat) : State :=
  (List.range n).foldl (fun s k => if v.getLsbD k then s.clearSrc (32 * i + k) else s) s

theorem State.clearedUpTo_succ (s : State) (i : Nat) (v : Word) (n : Nat) : s.clearedUpTo i v (n + 1) =
    if v.getLsbD n then (s.clearedUpTo i v n).clearSrc (32 * i + n) else s.clearedUpTo i v n := by
  unfold State.clearedUpTo
  rw [List.range_succ, List.foldl_append]
  rfl

theorem State.pcnt_clearedUpTo (s : State) (i : Nat) (v : Word) {n : Nat} (hn : n ≤ 32) (j : Nat) :
    (s.clearedUpTo i v n).f (F.IRQ_COAL_PCNT j) = if j / 32 = i ∧ j % 32 < n ∧ v.getLsbD (j % 32) = true then 0 else s.f (F.IRQ_COAL_PCNT j) := by
  induction n with
  | zero => exact (if_neg (by omega)).symm
  | succ n ih =>
    have hstep : (s.clearedUpTo i v (n + 1)).f (F.IRQ_COAL_PCNT j) =
        if v.getLsbD n = true ∧ j = 32 * i + n then 0 else (s.clearedUpTo i v n).f (F.IRQ_COAL_PCNT j) := by
      rw [State.clearedUpTo_succ]
      split
      · next h => rw [State.pcnt_clearSrc]; simp [h]
      · next h => simp [h]
    rw [hstep, ih (by omega)]
    by_cases hj : j = 32 * i + n
    · have hdiv : (32 * i + n) / 32 = i ∧ (32 * i + n) % 32 = n := by omega
      simp [hj, hdiv.1, hdiv.2]
    · have hlt : j / 32 = i → (j % 32 < n + 1 ↔ j % 32 < n) := by omega
      by_cases hi : j / 32 = i
      · simp [hj, hi, hlt hi]
      · simp [hj, hi]

/-- Clearing counts touches nothing but the registers of the sources it names, and their timers and messages. -/
theorem State.clearedUpTo_frame (s : State) {i : Nat} (hi : i < 8) (v : Word) {n : Nat} (hn : n ≤ 32) :
    let t := s.clearedUpTo i v n
    (∀ x : Fld, x.hi < 16 ∨ 23 < x.lo → t.f x = s.f x) ∧ t.irq.inFlight = s.irq.inFlight ∧ t.mem = s.mem ∧
      ∀ a, inArray a (R.IRQ_COAL 0) 8 256 = false → t.reg a = s.reg a := by
  refine List.foldlRecOn (List.range n) _ (motive := fun t : State => (∀ x : Fld, x.hi < 16 ∨ 23 < x.lo → t.f x = s.f x) ∧
      t.irq.inFlight = s.irq.inFlight ∧ t.mem = s.mem ∧ ∀ a, inArray a (R.IRQ_COAL 0) 8 256 = false → t.reg a = s.reg a)
    ⟨fun _ _ => rfl, rfl, rfl, fun _ _ => rfl⟩ fun t ht k hk => ?_
  obtain ⟨hf, hflight, hmem, hreg⟩ := ht
  split
  · refine ⟨fun x hx => (t.f_clearSrc_apart _ hx).trans (hf x hx), hflight, hmem, fun a ha => (State.reg_clearSrc fun e => ?_).trans (hreg a ha)⟩
    have hk := List.mem_range.mp hk
    simp only [inArray, decide_eq_false_iff_not, e, R.IRQ_COAL] at ha
    omega
  · exact ⟨hf, hflight, hmem, hreg⟩

theorem State.pendClear_spec (s : State) {i : Nat} (hi : i < 8) (v : Word) :
    let t := s.pendClear i v
    (∀ j, j < 256 → t.f (F.IRQ_COAL_PCNT j) = if j / 32 = i ∧ v.getLsbD (j % 32) = true then 0 else s.f (F.IRQ_COAL_PCNT j)) ∧
      (∀ j, j < 256 → t.f (F.IRQ_COAL_COUNT j) = s.f (F.IRQ_COAL_COUNT j) ∧ t.f (F.IRQ_COAL_TIME j) = s.f (F.IRQ_COAL_TIME j)) ∧
      t.irq.inFlight = s.irq.inFlight ∧ t.mem = s.mem ∧ (∀ a, inArray a (R.IRQ_COAL 0) 8 256 = false → t.reg a = s.reg a) := by
  obtain ⟨hf, hflight, hmem, hreg⟩ := s.clearedUpTo_frame hi v (le_refl 32)
  refine ⟨fun j _ => (s.pcnt_clearedUpTo i v (le_refl 32) j).trans ?_, fun j _ => ⟨hf _ (.inr (show 23 < 24 by decide)), hf _ (.inl (show 15 < 16 by decide))⟩,
    hflight, hmem, hreg⟩
  simp [Nat.mod_lt]

end

/-! ## SOFTWARE_SOURCE_SET -/

section
variable {s : State}

/-- The software sources exist on every variant (R344). -/
theorem State.sourceExists_software (s : State) {n : Nat} (hl : 200 ≤ n) (hh : n < 232) : s.sourceExists n = true := by
  have hfused : s.sourceFused n = false := by
    simp only [State.sourceFused, Bool.or_eq_false_iff, Bool.and_eq_false_iff, decide_eq_false_iff_not]
    omega
  simp only [State.sourceExists, hfused, Bool.not_false, Bool.and_true, Bool.or_eq_true, Bool.and_eq_true, decide_eq_true_eq]
  omega

/-- The first n software sources that v names have asserted. -/
def State.softUpTo (s : State) (v : Word) (n : Nat) : State :=
  (List.range n).foldl (fun s k => if v.getLsbD k then s.assertSrc (200 + k) else s) s

theorem State.softUpTo_succ (s : State) (v : Word) (n : Nat) : s.softUpTo v (n + 1) =
    if v.getLsbD n then (s.softUpTo v n).assertSrc (200 + n) else s.softUpTo v n := by
  unfold State.softUpTo
  rw [List.range_succ, List.foldl_append]
  rfl

/-- Of the controller's registers the assertions change those of their own counts alone. -/
theorem State.reg_softUpTo (s : State) (v : Word) (n : Nat) {a : Nat} (hb : blockOf a = 14) (ha : ∀ k, k < n → a ≠ R.IRQ_COAL (200 + k)) :
    (s.softUpTo v n).reg a = s.reg a := by
  refine List.foldlRecOn (List.range n) _ (motive := fun t : State => t.reg a = s.reg a) rfl fun t ht k hk => ?_
  split
  · exact (t.reg_assertSrc_apart _ (by rw [hb]; decide) (ha k (List.mem_range.mp hk))).trans ht
  · exact ht

theorem State.pcnt_softUpTo (s : State) (v : Word) {n : Nat} (hn : n ≤ 32) {j : Nat} (hj : j < 256) : (s.softUpTo v n).f (F.IRQ_COAL_PCNT j) =
    if 200 ≤ j ∧ j < 200 + n ∧ v.getLsbD (j - 200) = true then s.upCount j else s.f (F.IRQ_COAL_PCNT j) := by
  induction n with
  | zero => exact (if_neg (by omega)).symm
  | succ n ih =>
    have ih := ih (by omega)
    by_cases hjn : j = 200 + n
    · have hkept : ∀ a, a = R.IRQ_CFG j ∨ a = R.IRQ_COAL j → (s.softUpTo v n).reg a = s.reg a := fun a ha =>
        s.reg_softUpTo v n (by rcases ha with rfl | rfl; exacts [blockOf_irqCfg hj, blockOf_irqCoal hj]) fun k hk => by
          simp only [R.IRQ_CFG, R.IRQ_COAL] at ha ⊢
          omega
      have hbit : v.getLsbD (j - 200) = v.getLsbD n := by rw [hjn, Nat.add_sub_cancel_left]
      rw [State.softUpTo_succ, hbit]
      split
      · next h =>
        rw [if_pos ⟨by omega, by omega, h⟩, ← hjn, State.pcnt_assertSrc _ (State.sourceExists_software _ (by omega) (by omega)),
          State.upCount_congr (hkept _ (.inl rfl)) (hkept _ (.inr rfl))]
      · next h =>
        rw [if_neg fun e => h e.2.2]
        exact State.f_congr (F.IRQ_COAL_PCNT j) (hkept _ (.inr rfl))
    · have hstep : (s.softUpTo v (n + 1)).f (F.IRQ_COAL_PCNT j) = (s.softUpTo v n).f (F.IRQ_COAL_PCNT j) := by
        rw [State.softUpTo_succ]
        split
        · refine State.f_congr (F.IRQ_COAL_PCNT j) (State.reg_assertSrc_apart _ _ ?_ ?_)
          · rw [show blockOf (F.IRQ_COAL_PCNT j).addr = 14 from blockOf_irqCoal hj]; decide
          · simp only [F.IRQ_COAL_PCNT, R.IRQ_COAL]; omega
        · rfl
      have hlt : j < 200 + (n + 1) ↔ j < 200 + n := by omega
      simp only [hstep, ih, hlt]

theorem State.logFrame_swSet (s : State) (v : Word) : s.logFrame (s.swSet v) :=
  s.logFrame_foldl _ (fun t k => by
    split
    · exact t.logFrame_assertSrc _
    · exact t.logFrame_refl) _

end
end Sys2Proof.Machine
end

section
/-!
Always-on latches, the partner's interrupt frame and MSI-X vectors: the statement of O49 (R339, R352, R354, R428).
-/
namespace Sys2Proof.Machine

section
variable {s : State} {n : Nat}

/-! ## Always-on latches -/

theorem State.aonLatch_spec (h : s.sourceExists n = true) :
    let t := s.aonLatch n
    n ∈ t.irq.aon ∧ (∀ j, j ≠ n → (j ∈ t.irq.aon ↔ j ∈ s.irq.aon)) ∧ ({ t with irq := { t.irq with aon := s.irq.aon } } : State) = s := by
  intro t
  rw [show t = { s with irq := { s.irq with aon := addTo s.irq.aon n } } from if_pos h]
  exact ⟨(mem_addTo _ _ _).mpr (.inr rfl), fun j hj => (mem_addTo _ _ _).trans (or_iff_left hj), rfl⟩

theorem State.aonLatch_absent (h : s.sourceExists n = false) : s.aonLatch n = s := if_neg (Bool.eq_false_iff.mp h)

/-- The latch has gone over into its bit of IRQ_AON. -/
def State.aonShown (s : State) (n : Nat) : State :=
  ({ s with irq := { s.irq with aon := s.irq.aon.filter (· ≠ n) } } : State).setBit (R.IRQ_AON 0) n true

theorem State.aonTransfer_eq (ha : n ∈ s.irq.aon) (hen : s.f (F.IRQ_CFG_EN n) = 1) (hc : s.clocked n = true) :
    s.aonTransfer n = (s.aonShown n).assertSrc n := by
  have hb : s.b (F.IRQ_CFG_EN n) = true := (s.b_eq_true_iff rfl).mpr hen
  unfold State.aonTransfer
  exact if_pos (by simp [ha, hb, hc])

theorem State.aonTransfer_idle (h : n ∉ s.irq.aon ∨ s.f (F.IRQ_CFG_EN n) = 0 ∨ s.clocked n = false) : s.aonTransfer n = s := by
  unfold State.aonTransfer
  refine if_neg fun hc => ?_
  simp only [Bool.and_eq_true, List.contains_iff_mem] at hc
  obtain ⟨⟨ha, hb⟩, hk⟩ := hc
  rw [s.b_eq_true_iff rfl] at hb
  simp [ha, hb, hk] at h

theorem aonWord {n : Nat} (h : n < 256) : blockOf (R.IRQ_AON 0 + 4 * (n / 32)) = 14 ∧ R.IRQ_AON 0 + 4 * (n / 32) < R.IRQ_CFG 0 := by
  simp only [R.IRQ_AON, R.IRQ_CFG, blockOf]
  omega

/-- The transfer of a latch: one edge of its source, with the bit of IRQ_AON set (R352). -/
theorem State.aonTransfer_spec (hx : s.sourceExists n = true) (ha : n ∈ s.irq.aon) (hen : s.f (F.IRQ_CFG_EN n) = 1) (hc : s.clocked n = true) :
    let t := s.aonTransfer n
    n ∉ t.irq.aon ∧ t.bit (R.IRQ_AON 0) n = true ∧ t.f (F.IRQ_COAL_PCNT n) = s.upCount n ∧ s.logFrame t := by
  have hn := s.sourceExists_lt hx
  obtain ⟨hblock, hword⟩ := aonWord hn
  have hkept : ∀ a, R.IRQ_CFG 0 ≤ a → (s.aonShown n).reg a = s.reg a := fun a h =>
    (State.reg_setBit_other _ _ _ _ _ (by omega)).trans (State.reg_congr rfl a)
  have hlow : R.IRQ_CFG 0 ≤ R.IRQ_CFG n ∧ R.IRQ_CFG 0 ≤ R.IRQ_COAL n ∧ R.IRQ_AON 0 + 4 * (n / 32) ≠ R.IRQ_COAL n := by
    simp only [R.IRQ_CFG, R.IRQ_COAL, R.IRQ_AON]
    omega
  obtain ⟨hcfg, hcoal, hne⟩ := hlow
  intro t
  rw [show t = (s.aonShown n).assertSrc n from State.aonTransfer_eq ha hen hc]
  refine ⟨?_, ?_, ?_, State.logFrame_trans (s.logFrame_irq _) (State.logFrame_trans (State.logFrame_setReg _ _ _ ?_) (State.logFrame_assertSrc _ n))⟩
  · rw [show ((s.aonShown n).assertSrc n).irq.aon = s.irq.aon.filter (· ≠ n) from
      congrArg IrqSt.aon (show _ = _ from (s.aonShown n).timersOnly_assertSrc n)]
    simp
  · unfold State.bit
    rw [State.reg_assertSrc_apart _ _ (by rw [hblock]; decide) hne]
    exact (State.bit_setBit _ _ n n true).trans (if_pos rfl)
  · rw [State.pcnt_assertSrc (s.aonShown n) hx, State.upCount_congr (hkept _ hcfg) (hkept _ hcoal)]
  · simp [logReg, hblock]

/-! ## The partner's interrupt frame -/

/-- The partner's number stands beside the link's frame. -/
def State.partnerTold (s : State) (n : Nat) : State := { s.linkFrame with irq := { s.linkFrame.irq with partnerSrc := n } }

theorem interruptFrame_good (h : s.dark = false) (n : Source) : exec (.interruptFrame n true) s = .next ((s.partnerTold n.toNat).assertSrc 193) :=
  congrArg Host.Outcome.next (State.frameIn_good h _)

theorem State.sourceExists_partner (s : State) : s.sourceExists 193 = true := by simp [State.sourceExists, State.sourceFused]

/-- A frame of the partner asserts source 193 with the number it carries (R339). -/
theorem State.partnerTold_spec (s : State) (n : Nat) :
    let t := (s.partnerTold n).assertSrc 193
    t.irq.partnerSrc = n ∧ t.f (F.IRQ_COAL_PCNT 193) = s.upCount 193 ∧ t.pair = { s.pair with frameTick := some s.tickNo } ∧
      ({ s with pair := t.pair } : State).logAnd t [R.PAIR_STATUS] := by
  intro t
  have hlog : s.linkFrame.logFrame t := State.logFrame_trans (State.logFrame_irq _ _) ((s.partnerTold n).logFrame_assertSrc 193)
  have hpair : t.pair = s.linkFrame.pair := State.logFrame_pair hlog
  have hkept : ∀ a, a ≠ R.PAIR_STATUS → (s.partnerTold n).reg a = s.reg a := fun a ha => s.regsOnly_linkFrame.2 a (by simpa using ha)
  refine ⟨?_, ?_, hpair, ?_⟩
  · exact congrArg IrqSt.partnerSrc (show _ = _ from (s.partnerTold n).timersOnly_assertSrc 193)
  · rw [State.pcnt_assertSrc _ (State.sourceExists_partner _), State.upCount_congr (hkept _ (by decide)) (hkept _ (by decide))]
  · rw [hpair]
    exact State.logAnd_of_regsOnly s.regsOnly_linkFrame hlog

/-! ## The counter clear and MSI-X -/

theorem State.irqCtrlWrite_clear {v : Word} (h : v.getLsbD 0 = true) :
    (s.irqCtrlWrite v).f F.IRQ_ORPHAN_COUNT = 0 ∧ s.regsOnly (s.irqCtrlWrite v) [R.IRQ_ORPHAN] := by
  rw [show s.irqCtrlWrite v = s.put F.IRQ_ORPHAN_COUNT 0 from if_pos h]
  exact ⟨s.f_put_same _ _ (by decide) (by decide), s.regsOnly_put _ (by decide)⟩

theorem State.irqCtrlWrite_idle {v : Word} (h : v.getLsbD 0 = false) : s.irqCtrlWrite v = s := if_neg (Bool.eq_false_iff.mp h)

/-- Unmasking lets a vector's messages pass, and sends the message it held (R428). -/
theorem State.msixUnmask_spec (s : State) (n : Nat) :
    let t := s.msixUnmask n
    n ∈ t.irq.msixOpen ∧ (n ∈ s.irq.msixHeld → t.irq.msixLast = some n ∧ n ∉ t.irq.msixHeld) ∧
      (n ∉ s.irq.msixHeld → t.irq.msixLast = s.irq.msixLast) ∧ ({ t with irq := s.irq } : State) = s := by
  have hopen : n ∈ addTo s.irq.msixOpen n := (mem_addTo _ _ _).mpr (.inr rfl)
  unfold State.msixUnmask
  dsimp only
  split
  · next h =>
    have hheld := List.contains_iff_mem.mp h
    exact ⟨hopen, fun _ => ⟨rfl, by simp⟩, fun hn => absurd hheld hn, rfl⟩
  · next h => exact ⟨hopen, fun hm => absurd (List.contains_iff_mem.mpr hm) h, fun _ => rfl, rfl⟩

end

/-! ## The statement -/

/-- Settles O49: masks race and wait for the deliveries in flight, counts are cleared and raised by registers, latches, frames of the
partner and MSI-X vectors. -/
theorem interruptControls : Obligations.InterruptControls := by
  unfold Obligations.InterruptControls
  refine ⟨fun s n m i v => ⟨⟨_, rfl, s.maskWrite_spec i.isLt v⟩, fun h => ?readIdle, ⟨_, rfl, State.drainWord_drained _ s (le_refl _)⟩,
    ⟨_, rfl, s.pendClear_spec i.isLt v⟩, ⟨_, rfl, fun j hj => s.pcnt_softUpTo v (le_refl 32) hj, s.logFrame_swSet v⟩,
    fun h => ⟨_, rfl, State.aonLatch_spec h⟩, fun h => ?absent, fun ha hen hx hc => ⟨_, rfl, State.aonTransfer_spec hx ha hen hc⟩, fun h => ?held,
    fun h => ⟨_, interruptFrame_good h n, s.partnerTold_spec n.toNat⟩, fun h => ?badFrame, fun h ok => ?dark,
    fun h => ⟨_, rfl, State.irqCtrlWrite_clear h⟩, fun h => ?noClear, ⟨_, rfl, s.msixUnmask_spec n.toNat⟩⟩,
    fun s => ⟨fun _ => rfl, fun _ _ _ => rfl, fun _ _ _ => rfl, fun _ _ => rfl, fun _ _ => rfl, fun _ => rfl, fun _ _ => exec_answers _ s,
      fun _ _ => rfl, fun _ => rfl⟩⟩
  case readIdle => exact congrArg Host.Outcome.next (State.maskRead_idle h)
  case absent => exact congrArg Host.Outcome.next (State.aonLatch_absent h)
  case held => exact congrArg Host.Outcome.next (State.aonTransfer_idle h)
  case badFrame => exact congrArg Host.Outcome.next (State.frameIn_bad h _)
  case dark => exact congrArg Host.Outcome.next (State.frameIn_dark h ok _)
  case noClear => exact congrArg Host.Outcome.next (State.irqCtrlWrite_idle h)

end Sys2Proof.Machine
end
